-- ==== Sys2Proof/Word.lean ====
section
/-! DEFINITION. The word types of the K7 model and the sparse table type that its state uses. -/

namespace Sys2Proof

/-- A byte of memory (R7: little-endian multi-byte values are built from bytes). -/
abbrev Byte := BitVec 8

/-- A 16-bit word of a Tasko program or data space (R195, R197). -/
abbrev Half := BitVec 16

/-- A 32-bit word: accumulator entries, fp32 patterns, VLAN words. -/
abbrev Quad := BitVec 32

/-- A 64-bit word: set-up registers (R648) and clause words (R70). -/
abbrev Word := BitVec 64

/-- A sparse table: key and value pairs, keys strictly rising.
A key that is not listed holds the default that the reader of the table names. -/
abbrev Tbl (α : Type) := List (Nat × α)

end Sys2Proof
end

