-- ==== Sys2Proof/Syntax.lean ====
section
/-! DEFINITION. The commands that the K7 takes, one constructor per row of the table of operations and events,
with the operands that the outside world supplies. -/

namespace Sys2Proof

/-- Who makes a register access: host software in the physical function, a management core, or a
virtual function's host software (R650). -/
inductive Requester where
  | pf
  | core (k : Nat)
  | vf (f : Nat)
deriving DecidableEq, Repr

/-- How an upstream read ends when it does not succeed (R362, R364). -/
inductive HostFail where
  | timeout
  /-- Unsupported Request or Completer Abort status -/
  | errorStatus
  | poisoned
deriving DecidableEq, Repr

/-- The status of an arriving completion (R362, R364). -/
inductive HostStatus where
  | success
  | errorStatus
  | poisoned
deriving DecidableEq, Repr

/-- An upstream read of the host address range that holds `addr` fails (environment). -/
structure HostEvent where
  addr : Nat
  fail : HostFail
deriving DecidableEq, Repr

/-- A read of the block that holds the device physical address `addr` finds an ECC error (R315, R316). -/
structure EccEvent where
  addr : Nat
  /-- 16-bit symbols of a stack, DRAM devices of a DDR5 subchannel or bits of an SRAM word that are in error (R314) -/
  units : Nat
  /-- what the correction reports: symbols or bits corrected -/
  symbols : Nat
deriving DecidableEq, Repr

/-- What the environment contributes to a command that touches memory: the host reads that fail, the ECC
errors found, and, for a clause that moves data, the number of bytes after which it stays in flight. -/
structure Env where
  host : List HostEvent := []
  ecc : List EccEvent := []
  pause : Option Nat := none
deriving DecidableEq, Repr

/-- Where a completed clause stands: in an execution slot, or in its ring's context (R88, R89). -/
inductive CplSrc where
  | slot (n : Nat)
  | ring (n : Nat)
deriving DecidableEq, Repr

/-- The two forms of a Geyser operation: a clause in an execution slot, or a unit command of a tile. -/
inductive GeySrc where
  | clause (slot : Nat)
  | unit (tile tag : Nat)
deriving DecidableEq, Repr

/-- What a command of a Geyser operation brings: the order in which waiting elements and locks are granted, and what host memory
and the units answer. -/
structure GeyWork where
  picks : List Nat := []
  env : Env := {}
deriving DecidableEq, Repr

/-- Maintenance activities (R335). -/
inductive MaintAct where
  | scrub | retrain | refresh | fwUpdate | checkpoint | keyRotation | tenancy | fuseRead
deriving DecidableEq, Repr

/-- What the host changes so that waiting interrupt messages may be sent (R367). -/
inductive MsixUnmask where
  /-- an entry's Mask bit is cleared -/
  | entry (v : Nat)
  /-- the Function Mask is cleared -/
  | function
  /-- MSI-X Enable is set -/
  | enable
deriving DecidableEq, Repr

/-- What the upstream link reports of itself (R360, R375): errors, a replay that a Nak asks for, an entry to Recovery. -/
inductive LinkErr where
  | receiver | badTlp | badDllp | replayTimeout | replayRollover
  /-- a synchronising boundary event that the link protocol corrected (R57) -/
  | corrected
  | dlProtocol | flowControl | malformed | overflow
  | nak
  | recovery
deriving DecidableEq, Repr

/-- What an L0p utilisation window saw (R371): a TLP that has waited 2 µs, and what the link has reported of itself. -/
structure L0pSeen where
  tlpWaited : Bool := false
  errs : List LinkErr := []
deriving DecidableEq, Repr

/-- What the host enables in Link Control and the L1 PM Substates capability (R371). -/
structure Aspm where
  l1 : Bool := false
  l11 : Bool := false
  l12 : Bool := false
deriving DecidableEq, Repr

/-- What link training settled: the rate, encoded as HEP_LINK_STAT.RATE, and the width in lanes (R340). -/
structure LinkShape where
  rate : Nat
  width : Nat
deriving DecidableEq, Repr

/-- How an Ethernet frame arrives: whether its FCS is right, and whether it finds the receive FIFO full (R58, R411). -/
structure Arrival where
  fcsOk : Bool
  fifoFull : Bool
deriving DecidableEq, Repr

/-- A field of a function's configuration space that host software writes (R340, R346, R361). -/
inductive CfgField where
  | bar0 (a : Nat)
  | bar2 (a : Nat)
  | bar4 (a : Nat)
  | rom (a : Nat) (enable : Bool)
  /-- Completion Timeout Value of Device Control 2 -/
  | cplTimeout (v : Nat)
  /-- Enable Relaxed Ordering -/
  | relaxed (on : Bool)
  /-- Max_Payload_Size and Max_Read_Request_Size of Device Control: 128 bytes × 2^v -/
  | maxPayload (v : Nat)
  | maxRead (v : Nat)
deriving DecidableEq, Repr

/-- A write of VF Enable: NumVFs as it then stands, and the configuration requests that follow (R342, R345). -/
structure VfEnable where
  numVfs : Nat
  cfg : List (Nat × CfgField) := []
deriving DecidableEq, Repr

/-- What a sensing of one copy of a fuse word reads at the three thresholds, where it does not read what the copy holds
(R578); copy 0 is A, copy 1 is B. -/
structure FuseSense where
  word : Nat
  copy : Nat
  normal : Nat
  low : Nat
  high : Nat
deriving DecidableEq, Repr

/-- MCTP messages of the sideband (R594). -/
inductive SideMsg where
  | control (bytes : List Byte)
  | spdm (request : List Byte)
  /-- the sideband mailbox: a message of R526 -/
  | mailbox (bytes : List Byte)
  | status
deriving DecidableEq, Repr


/-- The commands of the K7, one constructor per row of the table of operations and events.
A command whose enabling condition does not hold in the state it meets has no effect. -/
inductive Instr where
  /-- REGISTER_WRITE, R12: A write to a set-up register field that has no behaviour of its own stores the value according to the field kind. -/
  | registerWrite (who : Requester) (off bytes : Nat) (v : Word)
  /-- PACE_SAMPLE, R43: At the end of a pace window, each monitor publishes PACE, updates MIN and MAX and increments SEQ. -/
  | paceSample (mon : Nat) (chains : List Nat)
  /-- PACE_CTL_WRITE, R43: A write that changes WINDOW, or sets EN from 0 to 1, ends every monitor window without a sample and starts a new window. -/
  | paceCtlWrite (who : Requester) (v : Word)
  /-- CLR_EXT, R45: Sets MIN to 0xFFFF and MAX to 0 in all eleven pace monitors, before any coincident sample. -/
  | clrExt
  /-- PLL_UNLOCK, R49: The always-on PLL loses lock: LOCKED clears, UNLOCK is set and the timebase runs free. -/
  | pllUnlock
  /-- PLL_RELOCK, R49: Lock returns: LOCKED is set and crystal accuracy resumes without a jump in the count. -/
  | pllRelock
  /-- TIMEBASE_LOW_READ, R51: A 32-bit read of GLB_TIMEBASE bits [31:0] returns them and latches bits [63:32] for the reading function. -/
  | timebaseLowRead (who : Requester)
  /-- APPLY_STEP, R53: Adds GLB_TOD_STEP.STEP to OFFSET once. -/
  | applyStep
  /-- TOD_SLEW_TICK, R53: Each nanosecond of timebase adds SLEW_PPB times 10^-9 ns to OFFSET and carries the fraction forward. -/
  | todSlewTick (ns : Nat)
  /-- POWER_DECISION, R60: Every 10 µs the power controller lowers, holds or raises each compute-die rail by the order of precedence. -/
  | powerDecision (compute io : List Nat)
  /-- FUM_PWR_CAP_WRITE, R2: A power cap request is applied, limited to the fused maximum, at the next control interval. -/
  | fumPwrCapWrite (who : Requester) (v : Word)
  /-- THERM_EMERG, R62: A junction reaches 110 °C: both rails are driven to 0.60 V with EMERGENCY frames, and the emergency lasts until every junction is below the limit. -/
  | thermEmerg (tj : Nat)
  /-- THERMTRIP, R592: At 120 °C the K7 asserts THERMTRIP#, holds every block outside the island in reset and flushes Sinter. -/
  | thermtrip (tj : Nat)
  /-- VCB_FRAME, R637: Every 10 µs the K7 sends one VCB frame per rail and reads the regulator's answer. -/
  | vcbFrame (cd : Option Nat × Option Nat) (tlm : List (Option Nat))
  /-- VCB_ALERT, R638: A regulator alert or a FAULT answer stops raising that rail and records a Sinter event. -/
  | vcbAlert (rail : Nat) (asserted : Bool)
  /-- DOORBELL_WRITE, R82: An 8-byte doorbell write is checked and updates the ring's producer or consumer index. -/
  | doorbellWrite (fn off bytes : Nat) (v : Word)
  /-- RING_INDEX_WRITE, R113: A write of SW_IDX acts as a doorbell carrying the current ring generation. -/
  | ringIndexWrite (who : Requester) (v : Word)
  /-- NVME_DOORBELL, R87: An NVMe tail or head doorbell becomes a doorbell on the bound NVMe queue. -/
  | nvmeDoorbell (fn off : Nat) (v : Nat)
  /-- RING_ARBITRATION, R94: When a slot is free, the arbiter grants the best pending ring and issues fetches for up to BURST + 1 entries. -/
  | ringArbitration (env : Env)
  /-- CLAUSE_ARRIVAL, R72: A fetched clause arrives and its word 0 is checked before dispatch. -/
  | clauseArrival (slot : Nat)
  /-- HELD_CLAUSE_DISPATCH, R90: A held fenced or ordered clause dispatches once its condition holds. -/
  | heldClauseDispatch (ring : Nat)
  /-- COMPLETION_POST, R77: A clause's last write is visible and its completion entry is written into a free completion slot. -/
  | completionPost (src : CplSrc) (env : Env)
  /-- HELD_COMPLETION_POST, R78: A completion held for a full completion ring is written once a slot frees. -/
  | heldCompletionPost (cq : Nat) (env : Env)
  /-- NOP_CLAUSE, R103: No-op clause completing with the timebase at dispatch. -/
  | nopClause (ring : Nat)
  /-- COPY, R103: A copy mover copies length bytes from source to destination. -/
  | copy (slot : Nat) (env : Env)
  /-- FILL, R103: A copy mover writes the 64-bit pattern repeatedly over the destination. -/
  | fill (slot : Nat) (env : Env)
  /-- FENCE, R104: Completes when every earlier clause of its ring has completed. -/
  | fence (ring : Nat)
  /-- FENCE_FN, R104: Completes when every earlier-dispatched entry of its function has completed on any ring. -/
  | fenceFn (ring : Nat)
  /-- BARRIER, R105: Held until N BARRIER clauses with its identifier are held, then all complete together. -/
  | barrier (ring : Nat)
  /-- WAIT, R107: Completes when the event counter reaches the threshold. -/
  | wait (ring : Nat)
  /-- SIGNAL, R107: After earlier clauses complete, adds the addend to an event counter and tests held WAITs. -/
  | signal (ring : Nat)
  /-- SET, R107: After earlier clauses complete, writes a value to an event counter and tests held WAITs. -/
  | set (ring : Nat)
  /-- WAIT_TIMEOUT, R108: The timeout of a held WAIT passes and the WAIT completes with WAIT_TIMEOUT. -/
  | waitTimeout (ring : Nat)
  /-- MODERATION_TIMER, R109: MOD_TIME passes after the first unsignalled entry and an interrupt request is raised. -/
  | moderationTimer (cq : Nat)
  /-- RING_CREATE, R98: CREATE allocates the lowest free ring identifier and makes the ring ACTIVE. -/
  | ringCreate (fn : Nat)
  /-- RING_DESTROY, R99: Increments the generation, stops fetching and drains the ring before freeing it. -/
  | ringDestroy (fn : Nat)
  /-- RING_RESET, R99: Increments the generation, stops fetching and drains the ring before zeroing its indices. -/
  | ringReset (fn : Nat)
  /-- RING_DRAIN_DONE, R99: INFLIGHT reaches zero and the RESET or DESTROY finishes and sets DONE. -/
  | ringDrainDone (pool : Bool) (ring : Nat)
  /-- RESUME, R101: Restarts a HALTED ring, optionally fetching the halting clause again. -/
  | resume (fn : Nat)
  /-- SET_PRIO, R101: Changes the ring priority at the next arbitration. -/
  | setPrio (fn : Nat)
  /-- SET_MOD, R110: Changes MOD_COUNT and MOD_TIME for entries posted afterwards. -/
  | setMod (fn : Nat)
  /-- LAUNCH, R151: Checks a LAUNCH, takes the tiles, assigns the role and starts loading program and tables. -/
  | launch (slot : Nat)
  /-- LAUNCH_LOAD_DONE, R151: The program and table reads complete and every selected tile starts at ENTRY. -/
  | launchLoadDone (slot : Nat) (env : Env)
  /-- TILE_SEND_CLAUSE, R154: A SEND clause delivers one host message to a tile of a role. -/
  | tileSendClause (slot : Nat)
  /-- ABORT, R155: Stops a role as a tile fault with fault code ABORTED. -/
  | abort (slot : Nat)
  /-- LAUNCH_TIMEOUT, R158: TIMEOUT µs pass after the first tile start and the role faults. -/
  | launchTimeout (lead : Nat)
  /-- TILE_FAULT, R159: A tile fault stops every sequencer of the role, cancels uncommitted commands and lets committed ones finish. -/
  | tileFault (tile : Nat)
  /-- ROLE_RELEASE, R143: The role has ended and its requests completed, so the tiles are released and the LAUNCH completion is posted. -/
  | roleRelease (lead : Nat)
  /-- UNIT_COMPLETION, R215: A unit posts a completion word for a tag, which stops being outstanding. -/
  | unitCompletion (tile tag : Nat)
  /-- LDW, R131: Loads a weight descriptor into a stationary bank. -/
  | ldw (tile tag : Nat) (env : Env)
  /-- MMA, R131: Streams rows through a bank into accumulator rows. -/
  | mma (tile tag : Nat) (env : Env)
  /-- EW, R135: Performs an element-wise vector operation. -/
  | ew (tile tag : Nat) (env : Env)
  /-- SCALAR, R135: Performs a vector operation with a bf16 scalar. -/
  | scalar (tile tag : Nat) (env : Env)
  /-- CURVE, R194: Evaluates the tile's curve for each element. -/
  | curve (tile tag : Nat) (env : Env)
  /-- ACCRD, R135: Reads accumulator rows, scales them and stores them to D. -/
  | accrd (tile tag : Nat) (env : Env)
  /-- REDUCE, R135: Reduces each row of A to one element by sum or maximum. -/
  | reduce (tile tag : Nat) (env : Env)
  /-- CVT, R135: Converts A into D's format. -/
  | cvt (tile tag : Nat) (env : Env)
  /-- GET, R137: Tile DMA copies rows from a device address into tile SRAM. -/
  | get (tile tag : Nat) (env : Env)
  /-- PUT, R137: Tile DMA copies rows from tile SRAM to a device address. -/
  | put (tile tag : Nat) (env : Env)
  /-- EVADD, R139: After earlier tile DMA commands complete, adds an addend to an event counter. -/
  | evadd (tile tag : Nat)
  /-- SEND, R137: Tile DMA sends an 8-byte message to a target tile's message queue. -/
  | send (tile tag : Nat) (env : Env)
  /-- MESSAGE_DELIVER, R141: A waiting message is delivered when the target message queue has room. -/
  | messageDeliver (tile tag : Nat)
  /-- MSGRD, R137: Moves messages from the message queue into tile SRAM. -/
  | msgrd (tile tag : Nat)
  /-- SETA, R137: Loads a tile DMA address register. -/
  | seta (tile tag : Nat)
  /-- LDDEC, R188: Loads format decode table entries. -/
  | lddec (tile tag : Nat) (env : Env)
  /-- LDENC, R188: Loads format encode table entries. -/
  | ldenc (tile tag : Nat) (env : Env)
  /-- LDCTL, R188: Loads the control block and seeds the lanes. -/
  | ldctl (tile tag : Nat) (env : Env)
  /-- LDCRV, R188: Loads the curve block. -/
  | ldcrv (tile tag : Nat) (env : Env)
  /-- END, R153: Ends the tile once none of its tags is outstanding. -/
  | endTile (core : Nat)
  /-- FAULT, R249: Raises PROGRAM_FAULT. -/
  | faultInstr (core : Nat)
  /-- SYNC, R205: Completes when earlier window stores and atomics are visible. -/
  | sync (core : Nat)
  /-- RET, R249: Pops a target and continues there. -/
  | ret (core : Nat)
  /-- JMPS, R249: Pops a target and continues there. -/
  | jmps (core : Nat)
  /-- CALLS, R248: Pops a target, pushes the return address and continues at the target. -/
  | calls (core : Nat)
  /-- NOP, R249: Tasko instruction with no effect. -/
  | nop (core : Nat)
  /-- EI, R250: Sets GIE on a management core. -/
  | ei (core : Nat)
  /-- DI, R250: Clears GIE on a management core. -/
  | di (core : Nat)
  /-- RETI, R239: Continues at EPC, restores GIE and ends the reservation. -/
  | reti (core : Nat)
  /-- WAITI, R238: Waits until an interrupt line is pending and enabled. -/
  | waiti (core : Nat)
  /-- JMPL, R249: Continues at the extension-word target. -/
  | jmpl (core : Nat)
  /-- CALLL, R249: Pushes the return address and continues at the extension-word target. -/
  | calll (core : Nat)
  /-- BZL, R249: Long branch taken if the register is zero. -/
  | bzl (core : Nat)
  /-- BNZL, R249: Long branch taken if the register is not zero. -/
  | bnzl (core : Nat)
  /-- BZ, R247: Short branch taken if the register is zero; predicted while unresolved. -/
  | bz (core : Nat)
  /-- BNZ, R247: Short branch taken if the register is not zero; predicted while unresolved. -/
  | bnz (core : Nat)
  /-- JMP, R247: Short unconditional jump. -/
  | jmp (core : Nat)
  /-- CALL, R248: Short call that pushes the return address. -/
  | call (core : Nat)
  /-- PUSHI, R251: Pushes the extension word. -/
  | pushi (core : Nat)
  /-- PUSHI2, R251: Pushes two extension words. -/
  | pushi2 (core : Nat)
  /-- PUSHS, R251: Pushes a sign-extended 12-bit immediate. -/
  | pushs (core : Nat)
  /-- DUP, R251: Copies s0. -/
  | dup (core : Nat)
  /-- DROP, R251: Discards s0. -/
  | drop (core : Nat)
  /-- SWAP, R251: Exchanges s0 and s1. -/
  | swap (core : Nat)
  /-- OVER, R251: Copies s1. -/
  | over (core : Nat)
  /-- ROT, R251: Moves s2 to the top. -/
  | rot (core : Nat)
  /-- NIP, R251: Discards s1. -/
  | nip (core : Nat)
  /-- PICK, R252: Copies the entry k places below the top. -/
  | pick (core : Nat)
  /-- ADD, R253: Adds modulo 2^16. -/
  | add (core : Nat)
  /-- SUB, R253: Subtracts modulo 2^16. -/
  | sub (core : Nat)
  /-- ADDC, R253: Adds and pushes the carry. -/
  | addc (core : Nat)
  /-- SUBB, R253: Subtracts and pushes the borrow. -/
  | subb (core : Nat)
  /-- MUL, R253: Pushes the low 16 bits of the product. -/
  | mul (core : Nat)
  /-- MULH, R253: Pushes the high 16 bits of the unsigned product. -/
  | mulh (core : Nat)
  /-- AND, R253: Bitwise and. -/
  | and (core : Nat)
  /-- OR, R253: Bitwise or. -/
  | or (core : Nat)
  /-- XOR, R253: Bitwise exclusive or. -/
  | xor (core : Nat)
  /-- NOT, R253: Bitwise complement. -/
  | not (core : Nat)
  /-- NEG, R253: Two's complement negation. -/
  | neg (core : Nat)
  /-- SHL, R253: Shifts left. -/
  | shl (core : Nat)
  /-- SHR, R253: Logical right shift. -/
  | shr (core : Nat)
  /-- SAR, R253: Arithmetic right shift. -/
  | sar (core : Nat)
  /-- CEQ, R254: Writes 1 into g if the two operands are equal. -/
  | ceq (core : Nat)
  /-- CNE, R254: Writes 1 into g if the two operands differ. -/
  | cne (core : Nat)
  /-- CLTU, R254: Unsigned less-than comparison. -/
  | cltu (core : Nat)
  /-- CLEU, R254: Unsigned less-or-equal comparison. -/
  | cleu (core : Nat)
  /-- CLTS, R254: Signed less-than comparison. -/
  | clts (core : Nat)
  /-- CLES, R254: Signed less-or-equal comparison. -/
  | cles (core : Nat)
  /-- CZ, R254: Writes 1 into g if the operand is zero. -/
  | cz (core : Nat)
  /-- PUSHG, R254: Pushes a general register. -/
  | pushg (core : Nat)
  /-- POPG, R254: Pops into a general register. -/
  | popg (core : Nat)
  /-- INCG, R254: Increments a general register. -/
  | incg (core : Nat)
  /-- DECG, R254: Decrements a general register. -/
  | decg (core : Nat)
  /-- LD, R255: Loads a data-space word. -/
  | ld (core : Nat)
  /-- ST, R255: Stores a data-space word. -/
  | st (core : Nat)
  /-- TAS, R228: Reads a word and writes 0x0001 to it indivisibly. -/
  | tas (core : Nat) (env : Env)
  /-- LDR, R229: Loads a word and sets a reservation on its block. -/
  | ldr (core : Nat) (env : Env)
  /-- STC, R230: Stores only if the reservation is valid and then ends the reservation. -/
  | stc (core : Nat) (env : Env)
  /-- LDX, R255: Loads a word through a window, with the value awaited. -/
  | ldx (core : Nat) (env : Env)
  /-- STX, R204: Posts a store through a window. -/
  | stx (core : Nat) (env : Env)
  /-- WINDOW_ACCESS_RETURN, R256: A window access completes, delivering its value or raising a late access exception. -/
  | windowAccessReturn (core idx : Nat) (env : Env)
  /-- SETW, R199: Loads a window register from four stack words. -/
  | setw (core : Nat)
  /-- MFS, R258: Pushes a special register word. -/
  | mfs (core : Nat)
  /-- MTS, R259: Pops into a special register under its field kinds. -/
  | mts (core : Nat)
  /-- ISSUE, R121: Pops four words and sends them as a unit command. -/
  | issue (core : Nat)
  /-- ISSUEX, R261: Sends a unit command whose c0 and c1 are extension words. -/
  | issuex (core : Nat)
  /-- WAITU, R216: Waits for a tag's completion and writes the stored completion word into g. -/
  | waitu (core : Nat)
  /-- MOVW, R225: Block-repeat copy of words. -/
  | movw (core steps : Nat) (env : Env)
  /-- FILLW, R225: Block-repeat fill with a pattern. -/
  | fillw (core steps : Nat) (env : Env)
  /-- CMPW, R225: Block-repeat comparison that stops at the first difference. -/
  | cmpw (core steps : Nat) (env : Env)
  /-- SCANW, R225: Block-repeat masked search. -/
  | scanw (core steps : Nat) (env : Env)
  /-- PACKW, R225: Block-repeat byte pack or unpack. -/
  | packw (core steps : Nat) (env : Env)
  /-- INTERRUPT_LINE_PULSE, R237: A management interrupt line pulses and sets its IPEND bit. -/
  | interruptLinePulse (core line : Nat)
  /-- INTERRUPT_ENTRY, R239: The core enters the vectored handler of a pending enabled interrupt. -/
  | interruptEntry (core : Nat)
  /-- GATHER, R291: Copies the indexed table elements to the destination. -/
  | gather (src : GeySrc) (work : GeyWork)
  /-- SCATTER, R291: Applies source elements to the indexed elements under COMBINE. -/
  | scatter (src : GeySrc) (work : GeyWork)
  /-- HINS, R288: Inserts keys into a hash table. -/
  | hins (src : GeySrc) (work : GeyWork)
  /-- HPROBE, R288: Looks up keys in a hash table. -/
  | hprobe (src : GeySrc) (work : GeyWork)
  /-- HDEL, R288: Deletes keys from a hash table. -/
  | hdel (src : GeySrc) (work : GeyWork)
  /-- SORT, R297: Stable sort of records. -/
  | sort (src : GeySrc) (work : GeyWork)
  /-- MERGE, R297: Merges two sorted runs. -/
  | merge (src : GeySrc) (work : GeyWork)
  /-- SEGRED, R299: Produces a segmented reduction. -/
  | segred (src : GeySrc) (work : GeyWork)
  /-- SEGSCAN, R299: Produces a segmented scan. -/
  | segscan (src : GeySrc) (work : GeyWork)
  /-- SETOP, R298: Computes the union, intersection or difference of sorted sets. -/
  | setop (src : GeySrc) (work : GeyWork)
  /-- HSETOP, R296: Computes the intersection or difference of a key list with a hashed set. -/
  | hsetop (src : GeySrc) (work : GeyWork)
  /-- FRONTIER, R300: Expands a BFS frontier, claiming visited bits. -/
  | frontier (src : GeySrc) (picks : List Nat) (env : Env)
  /-- GEYSER_OP_ADMIT, R305: A waiting Geyser operation obtains an operation-table entry and starts. -/
  | geyserOpAdmit (src : GeySrc)
  /-- GEYSER_OP_COMPLETE, R274: A Geyser operation's writes are visible and its completion or RESULT is posted. -/
  | geyserOpComplete (src : GeySrc)
  /-- BAND_MODE_WRITE, R311: A band mode write holds new accesses to the band until the admitted ones drain. -/
  | bandModeWrite (who : Requester) (k : Nat) (v : Word)
  /-- BAND_MODE_APPLY, R311: The band's admitted accesses have drained and the new interleave mode applies. -/
  | bandModeApply (band : Nat)
  /-- REFRESH_ISSUE, R319: A refresh interval of a memory unit expires and refresh is issued. -/
  | refreshIssue (unit : Nat)
  /-- REFRESH_RATE_CHANGE, R319: A unit's temperature crosses 85 °C or 80 °C and its refresh rate doubles or returns to normal. -/
  | refreshRateChange (unit temp : Nat)
  /-- SCRUB_BURST, R320: A patrol scrub burst reads 64 KiB of one unit. -/
  | scrubBurst (unit : Nat) (ecc : List EccEvent)
  /-- RETRAIN_TRIGGER, R321: An interval, temperature drift or CRC count triggers retraining of a memory unit. -/
  | retrainTrigger (unit temp linkErrs : Nat)
  /-- RETRAIN_DONE, R322: Retraining of a unit completes and its held accesses proceed. -/
  | retrainDone (unit us : Nat)
  /-- WINDOW_RULE_CHANGE, R331: An access window or device-region write increments EPOCH. -/
  | windowRuleChange (who : Requester) (off : Nat) (v : Word)
  /-- XLT_BASE_WRITE, R330: A write to MEM_XLT_BASE discards the function's cached translations and is a rule change. -/
  | xltBaseWrite (who : Requester) (v : Word)
  /-- XLT_INVALIDATE, R330: MEM_XLT_INV.GO discards cached translations of the named pages. -/
  | xltInvalidate (fn : Nat)
  /-- BUDDY_APPLY, R333: Applies the buddy size now, or after a running transfer, and empties the slots. -/
  | buddyApply
  /-- MAINT_REQUEST, R337: A maintenance activity is requested and starts at once or waits PENDING. -/
  | maintRequest (act : MaintAct) (unit : Nat)
  /-- MAINT_END, R337: A maintenance activity ends and the pending conflicting activities that may start now start. -/
  | maintEnd (act : MaintAct) (unit : Nat)
  /-- FUNCTION_LEVEL_RESET, R356: A configuration-space FLR starts a function reset. -/
  | functionLevelReset (fn : Nat)
  /-- FN_RESET_CMD, R356: HEP_FN_CTL.RESET starts a reset of the selected function. -/
  | fnResetCmd (fn : Nat)
  /-- VF_ENABLE_CLEAR, R355: VF Enable changing to 0 resets every virtual function. -/
  | vfEnableClear
  /-- VF_ENABLE_SET, R345: VF Enable changing to 1 fixes the virtual functions' class codes. -/
  | vfEnableSet (on : VfEnable)
  /-- HOT_RESET, R660: A hot reset or link-down resets every function and configuration space and retrains the link. -/
  | hotReset
  /-- FN_RESET_DRAIN_DONE, R358: No old-generation work remains; the function's state is cleared and DRAINING clears. -/
  | fnResetDrainDone (fn : Nat)
  /-- FN_RESET_CUT, R357: 90 ms after step 1 the remaining old-generation work of the function is cut. -/
  | fnResetCut (fn : Nat)
  /-- HOST_COMPLETION_ARRIVE, R364: An upstream read completion arrives with data, an error status or poison. -/
  | hostCompletionArrive (tag : Nat) (status : HostStatus) (data : List Byte)
  /-- COMPLETION_TIMEOUT, R362: An upstream read's completion timeout passes. -/
  | completionTimeout (tag : Nat)
  /-- UNEXPECTED_COMPLETION, R363: A completion for a request no longer outstanding is discarded and counted. -/
  | unexpectedCompletion (fn tag : Nat)
  /-- MSIX_UNMASK, R367: Masks clear or MSI-X is enabled and the waiting interrupt requests are sent. -/
  | msixUnmask (fn : Nat) (what : MsixUnmask)
  /-- INTX_CAUSE_CLEAR, R369: Clearing INTx cause bits sends Deassert_INTA when none remain. -/
  | intxCauseClear (k : Nat) (v : Word)
  /-- POWER_STATE_CHANGE, R370: A function enters D3hot or returns to D0. -/
  | powerStateChange (fn : Nat) (d3hot : Bool)
  /-- L1_ENTRY, R371: After L1_IDLE_US of idle link the K7 requests ASPM L1. -/
  | l1Entry (aspm : Aspm)
  /-- L1_EXIT, R372: A TLP to send or a host exit leaves L1. -/
  | l1Exit
  /-- L0P_WINDOW, R371: Each 100 µs utilisation window may request a narrower or wider L0p width. -/
  | l0pWindow (util : Nat) (seen : L0pSeen)
  /-- DP_PRESENCE_CHANGE, R373: A downstream port's presence or link state changes. -/
  | dpPresenceChange (port : Nat) (present : Bool)
  /-- DP_ERROR, R374: A downstream port error is counted, recorded and passed to the storage engine. -/
  | dpError (port : Nat)
  /-- CC_EN_SET, R377: CC.EN set to 1 enables an NVMe controller or reports a fatal status. -/
  | ccEnSet (fn cc aqa asq acq : Nat)
  /-- CC_EN_CLEAR, R380: CC.EN cleared resets the NVMe controller after its commands drain. -/
  | ccEnClear (fn : Nat)
  /-- CONTROLLER_RESET_CUT, R380: 90 ms after CC.EN clears, the remaining commands are cut. -/
  | controllerResetCut (fn : Nat)
  /-- CREATE_IO_SQ, R377: Creates an NVMe I/O submission queue. -/
  | createIoSq (slot : Nat)
  /-- DELETE_IO_SQ, R376: Deletes an NVMe I/O submission queue. -/
  | deleteIoSq (slot : Nat)
  /-- CREATE_IO_CQ, R377: Creates an NVMe I/O completion queue. -/
  | createIoCq (slot : Nat)
  /-- DELETE_IO_CQ, R376: Deletes an NVMe I/O completion queue. -/
  | deleteIoCq (slot : Nat)
  /-- GET_LOG_PAGE, R401: Returns a log page, including the indeterminate-range log. -/
  | getLogPage (slot : Nat) (env : Env)
  /-- IDENTIFY, R376: Returns identify data. -/
  | identify (slot : Nat) (env : Env)
  /-- NVME_ABORT, R392: Best-effort abort of an outstanding command. -/
  | nvmeAbort (slot : Nat)
  /-- SET_FEATURES, R376: Sets a supported feature. -/
  | setFeatures (slot : Nat) (env : Env)
  /-- GET_FEATURES, R376: Returns a supported feature. -/
  | getFeatures (slot : Nat) (env : Env)
  /-- ASYNCHRONOUS_EVENT_REQUEST, R379: Holds a request for a later asynchronous event. -/
  | asynchronousEventRequest (slot : Nat)
  /-- CLEAR_INDETERMINATE_RANGE, R401: Clears indeterminate-range entries that the controller sees. -/
  | clearIndeterminateRange (slot : Nat)
  /-- NVME_FLUSH, R378: Completes at once with success. -/
  | nvmeFlush (slot : Nat)
  /-- NVME_WRITE, R378: Writes through to backing with FUA under an exclusive range lock. -/
  | nvmeWrite (slot : Nat) (env : Env)
  /-- NVME_READ, R387: Reads from cache or backing under a shared range lock. -/
  | nvmeRead (slot : Nat) (env : Env)
  /-- WRITE_ZEROES, R387: Zeroes an LBA range under an exclusive range lock. -/
  | writeZeroes (slot : Nat) (env : Env)
  /-- DATASET_MANAGEMENT, R387: Deallocates an LBA range under an exclusive range lock. -/
  | datasetManagement (slot : Nat) (env : Env)
  /-- RANGE_LOCK_GRANT, R387: A waiting command's range lock becomes free and the command proceeds. -/
  | rangeLockGrant (entry : Nat) (env : Env)
  /-- BACKING_COMPLETION, R378: A backing command completes and the host command or FEED advances or completes. -/
  | backingCompletion (id st failAt : Nat) (data mdata : List Byte) (env : Env)
  /-- BACKING_TIMEOUT, R394: BACKING_MS passes and an NVMe Abort is sent for the backing command. -/
  | backingTimeout (id : Nat)
  /-- BACKING_ABORT_TIMEOUT, R394: 1 s after the abort, the drive controller is reset or the remote queue pair disconnected. -/
  | backingAbortTimeout (id : Nat)
  /-- DRIVE_REMOVED, R396: A drive link goes down; outstanding commands fail and indeterminate ranges are recorded. -/
  | driveRemoved (port : Nat)
  /-- REMOTE_PATH_LOST, R396: A remote queue pair enters error and its commands are handled as for removal. -/
  | remotePathLost (qp : Nat)
  /-- DRIVE_READY, R397: A drive with the same serial returns and its backing is restored. -/
  | driveReady (port serial lbas rate width : Nat)
  /-- NS_CREATE, R382: Creates a namespace from the staging registers. -/
  | nsCreate
  /-- NS_DELETE, R382: Deletes a namespace that is not attached. -/
  | nsDelete
  /-- NS_ATTACH, R383: Attaches a namespace to a controller. -/
  | nsAttach
  /-- NS_DETACH, R383: Detaches a namespace from a controller. -/
  | nsDetach
  /-- CACHE_CTL_WRITE, R386: A change to the cache region applies once no cache access is in flight and empties the cache. -/
  | cacheCtlWrite (who : Requester) (v : Word)
  /-- FEED, R404: Direct feed reads LBAs from backing into device memory. -/
  | feed (slot : Nat) (env : Env)
  /-- FRAME_RECEIVE, R411: The MAC receives a frame, which is parsed, decrypted, matched and classified. -/
  | frameReceive (port : Nat) (bytes : List Byte) (how : Arrival)
  /-- PFC_FRAME_RECEIVE, R413: A received PFC frame pauses or resumes a priority in the scheduler. -/
  | pfcFrameReceive (port prio quanta : Nat)
  /-- REORDER_DELIVER, R414: The reorder stage delivers a port's frames in arrival order. -/
  | reorderDeliver (port : Nat) (env : Env)
  /-- QUAD_MODE_CHANGE, R410: A quad mode change takes the quad's links down and retrains them. -/
  | quadModeChange (who : Requester) (v : Word)
  /-- LINK_CHANGE, R440: An Ethernet port's link goes up or down. -/
  | linkChange (port : Nat) (up : Bool)
  /-- FRAGMENT_HOLD_EXPIRY, R426: A later fragment's 1 ms hold ends without a first fragment and it is dropped. -/
  | fragmentHoldExpiry
  /-- FRAGMENT_ENTRY_EXPIRY, R424: A fragment follow entry expires LIFE_US after its last use. -/
  | fragmentEntryExpiry
  /-- TABLE_LOAD, R421: Loads entries of a table kind into the shadow bank. -/
  | tableLoad (env : Env)
  /-- TABLE_SWAP, R422: Makes the shadow bank active for all four tables. -/
  | tableSwap
  /-- TABLE_SWAP_DONE, R422: Every frame of the old bank has left the reorder stage and DONE is set. -/
  | tableSwapDone
  /-- FLOW_INSERT, R430: Inserts or replaces a flow entry. -/
  | flowInsert (env : Env)
  /-- FLOW_DELETE, R430: Removes a flow entry. -/
  | flowDelete (env : Env)
  /-- FLOW_QUERY, R430: Writes a flow entry back to memory. -/
  | flowQuery (env : Env)
  /-- FLOW_AGE_SWEEP, R432: Every AGE_S a sweep removes aged flow entries. -/
  | flowAgeSweep
  /-- FLOW_MEM_WRITE, R433: Moves the memory-backed flow table once no lookup is in flight, losing its entries. -/
  | flowMemWrite (who : Requester) (v : Word)
  /-- QP_CREATE, R447: Creates a queue pair in RESET. -/
  | qpCreate (fn : Nat) (env : Env)
  /-- QP_MODIFY, R444: Moves a queue pair to a new state. -/
  | qpModify (fn : Nat) (env : Env)
  /-- QP_DESTROY, R445: Destroys a queue pair. -/
  | qpDestroy (fn : Nat)
  /-- QP_QUERY, R446: Writes a queue pair's fields back. -/
  | qpQuery (fn : Nat) (env : Env)
  /-- REGION_CREATE, R454: Creates a memory region and returns its R_Key. -/
  | regionCreate (fn : Nat) (env : Env)
  /-- REGION_DESTROY, R455: Destroys a region once incoming accesses checked against it complete. -/
  | regionDestroy (fn : Nat)
  /-- REGION_QUERY, R445: Writes a region block back. -/
  | regionQuery (fn : Nat) (env : Env)
  /-- PEER_CREATE, R474: Creates a peer entry in PROBING or FOREIGN. -/
  | peerCreate (fn : Nat) (env : Env)
  /-- PEER_DESTROY, R445: Removes a peer entry. -/
  | peerDestroy (fn : Nat)
  /-- PEER_QUERY, R472: Writes a peer block back with its serial. -/
  | peerQuery (fn : Nat) (env : Env)
  /-- GROUP_CREATE, R477: Reads the member list and creates the group's internal queue pairs. -/
  | groupCreate (fn : Nat) (env : Env)
  /-- GROUP_DESTROY, R445: Removes a collective group. -/
  | groupDestroy (fn : Nat)
  /-- GROUP_QUERY, R445: Writes a group block back. -/
  | groupQuery (fn : Nat) (env : Env)
  /-- RDMA_SEND, R450: SEND work request. -/
  | rdmaSend (slot : Nat) (env : Env)
  /-- SEND_IMM, R450: SEND with immediate data. -/
  | sendImm (slot : Nat) (env : Env)
  /-- RDMA_WRITE, R450: RDMA WRITE work request. -/
  | rdmaWrite (slot : Nat) (env : Env)
  /-- WRITE_IMM, R450: RDMA WRITE with immediate data. -/
  | writeImm (slot : Nat) (env : Env)
  /-- RDMA_READ, R450: RDMA READ work request. -/
  | rdmaRead (slot : Nat) (env : Env)
  /-- TSEND, R450: Tagged SEND work request. -/
  | tsend (slot : Nat) (env : Env)
  /-- FRAME, R450: RAW queue pair frame transmit. -/
  | frame (slot : Nat) (env : Env)
  /-- RECV, R456: Posts a receive buffer. -/
  | recv (slot : Nat)
  /-- TRECV, R456: Posts a tagged receive buffer. -/
  | trecv (slot : Nat)
  /-- RC_PACKET_RECEIVE, R462: An RC data packet arrives and is accepted, discarded or acknowledged as a duplicate. -/
  | rcPacketReceive (env : Env)
  /-- ACK_RECEIVE, R461: An acknowledgement or NAK arrives and moves or resends from the extended base. -/
  | ackReceive (env : Env)
  /-- ACK_DELAY_EXPIRY, R463: 4 µs after the oldest unacknowledged packet, the responder acknowledges. -/
  | ackDelayExpiry (qp : Nat)
  /-- RETRANSMIT_TIMEOUT, R464: The retransmission timer expires and the requester resends or enters ERROR. -/
  | retransmitTimeout (qp : Nat) (env : Env)
  /-- RNR_WAIT_EXPIRY, R464: RNR_US passes after an RNR NAK and the requester resends. -/
  | rnrWaitExpiry (qp : Nat) (env : Env)
  /-- CNP_RECEIVE, R467: A CNP lowers the queue pair's rate and raises alpha. -/
  | cnpReceive
  /-- ALPHA_TIMER, R467: ALPHA_US without a CNP decays alpha. -/
  | alphaTimer (qp : Nat)
  /-- RATE_INCREASE, R467: An increase event raises the target and current rates. -/
  | rateIncrease (qp : Nat)
  /-- CREDIT_REQUEST_RECEIVE, R468: A credit request arrives at the responder. -/
  | creditRequestReceive
  /-- CREDIT_GRANT, R468: The responder sends a grant when its window has room. -/
  | creditGrant (port tc : Nat)
  /-- CREDIT_GRANT_RECEIVE, R468: A grant arrives and allows scheduled bytes. -/
  | creditGrantReceive (env : Env)
  /-- CREDIT_EXPIRY, R468: Credit is discarded LIFE_US after the grant, or the request is repeated. -/
  | creditExpiry (qp : Nat) (env : Env)
  /-- CREDIT_RETURN, R468: Unfilled granted bytes return to the window after 2 × LIFE_US. -/
  | creditReturn
  /-- HELLO_SEND, R473: Every HELLO_MS a HELLO is sent to each non-foreign peer. -/
  | helloSend
  /-- HELLO_RECEIVE, R474: An incoming HELLO or LEAVE moves its peer entry between states. -/
  | helloReceive
  /-- PEER_DEAD_TIMEOUT, R474: DEAD_MS without a HELLO makes an UP peer DOWN. -/
  | peerDeadTimeout (peer : Nat)
  /-- REDUCE_SCATTER, R481: Ring reduce-scatter over the group. -/
  | reduceScatter (slot : Nat) (env : Env)
  /-- ALL_GATHER, R481: Ring all-gather over the group. -/
  | allGather (slot : Nat) (env : Env)
  /-- ALL_REDUCE, R481: Reduce-scatter followed by all-gather. -/
  | allReduce (slot : Nat) (env : Env)
  /-- BROADCAST, R481: Passes the root's chunk around the ring. -/
  | broadcast (slot : Nat) (env : Env)
  /-- ALL_TO_ALL, R481: Sends each chunk directly to its rank. -/
  | allToAll (slot : Nat) (env : Env)
  /-- COLLECTIVE_TIMEOUT, R483: A collective's TIMEOUT passes and it fails with an abort notice. -/
  | collectiveTimeout (group : Nat)
  /-- ABORT_NOTICE_RECEIVE, R483: An abort notice fails the named collective with the same cause. -/
  | abortNoticeReceive
  /-- SHAPER_REFILL, R492: Every REFILL_NS each shaper gains tokens up to its burst. -/
  | shaperRefill
  /-- PORT_TRANSMIT_START, R494: A port can start a frame and the scheduler chooses a service and a subscriber. -/
  | portTransmitStart (port : Nat) (env : Env)
  /-- RAW_FRAME_TIMEOUT, R489: A RAW frame waits 100 ms at the head toward a port that cannot send and fails. -/
  | rawFrameTimeout
  /-- GATE_APPLY, R500: APPLY schedules the shadow gate list for the next cycle start. -/
  | gateApply (port : Nat)
  /-- GATE_LIST_SWITCH, R500: At the cycle start the shadow gate list becomes active. -/
  | gateListSwitch (port : Nat)
  /-- PAUSE_EXPIRY, R501: A PFC pause time ends and the service resumes. -/
  | pauseExpiry (port prio : Nat)
  /-- KLOAD, R513: Unwraps a blob with a KEK and loads a key slot. -/
  | kload (slot : Nat) (env : Env)
  /-- KREVOKE, R507: Revokes a key slot. -/
  | krevoke (slot : Nat)
  /-- REVOCATION_COMPLETE, R507: Every use granted before a revocation has ended. -/
  | revocationComplete (keySlot : Nat)
  /-- KQUERY, R513: Returns a slot's state. -/
  | kquery (slot : Nat)
  /-- PKG_LOAD, R522: Verifies and decrypts a Keak package into DEST. -/
  | pkgLoad (slot : Nat) (env : Env)
  /-- PROVE_NONCE, R513: Writes a fresh nonce and makes it the set's outstanding nonce. -/
  | proveNonce (slot : Nat) (env : Env)
  /-- PROVE, R536: Checks one member's evidence for a device set. -/
  | prove (slot : Nat) (env : Env)
  /-- SPI_RX_WRITE, R520: A write to an SPI table entry resets its replay window. -/
  | spiRxWrite (who : Requester) (v : Word)
  /-- MAILBOX_GO, R525: GO copies the host mailbox message into the critical-command queue. -/
  | mailboxGo
  /-- SIDEBAND_MCTP, R594: An MCTP message arrives on the sideband SMBus target. -/
  | sidebandMctp (m : SideMsg)
  /-- SPDM_REQUEST, R537: An SPDM request is answered by the responder. -/
  | spdmRequest (request : List Byte)
  /-- SET_CMD_KEY, R529: Replaces the command key, programming OWNED on the first claim. -/
  | setCmdKey (flashOk actionOk : Bool)
  /-- FW_UPDATE, R575: Writes and verifies a firmware image into the other slot. -/
  | fwUpdate (env : Env) (flashOk actionOk : Bool)
  /-- KEY_PROVISION, R531: Loads or replaces a key slot from an envelope. -/
  | keyProvision (flashOk : Bool)
  /-- KEY_PROVISION_SIGNER, R531: Writes or clears a package-signer list entry. -/
  | keyProvisionSigner (flashOk : Bool)
  /-- FUSE_PROGRAM_ROLLBACK, R576: Raises the anti-rollback counter. -/
  | fuseProgramRollback (flashOk : Bool)
  /-- FUSE_PROGRAM_OWNER, R582: Programs an owner fuse word. -/
  | fuseProgramOwner (flashOk : Bool)
  /-- FUSE_PROGRAM_DEBUG_DISABLE, R582: Programs DEBUG_DISABLE. -/
  | fuseProgramDebugDisable (flashOk : Bool)
  /-- DEBUG_UNLOCK, R620: Locks the key store, then unlocks debug and the vent registers. -/
  | debugUnlock (flashOk : Bool)
  /-- DEBUG_LOCK, R620: Locks debug and drives the vent pins low. -/
  | debugLock (flashOk : Bool)
  /-- SET_MEMBERSHIP, R534: Defines or empties a device set. -/
  | setMembership (flashOk : Bool)
  /-- TENANCY_SWITCH, R540: Erases all state and hands the device to a new tenant. -/
  | tenancySwitch (flashOk : Bool)
  /-- SINTER_EXPORT_SIGN, R611: Returns the export digest signed with the DeviceID key. -/
  | sinterExportSign (flashOk : Bool)
  /-- ARM, R554: Arms a checkpoint with a region list. -/
  | arm (slot : Nat) (env : Env)
  /-- RESTORE, R567: Fetches a buddy copy and writes the regions back. -/
  | restore (slot : Nat)
  /-- EXPORT, R568: Copies a partner slot to DEST. -/
  | exportClause (slot : Nat) (env : Env)
  /-- TRIGGER_SAMPLE, R555: Each second the trigger entries sample their Sinter counts and may fire. -/
  | triggerSample (env : Env)
  /-- OPEN, R550: The holder chooses a slot, writes its header and answers. -/
  | openMsg
  /-- ACCEPT, R560: The sender starts sending data. -/
  | accept
  /-- REFUSE, R565: The sender fails the checkpoint. -/
  | refuse
  /-- DATA, R560: Stored data is written into the slot or restored regions. -/
  | dataMsg
  /-- SEAL, R563: The holder compares the stream CRCs and seals or refuses the slot. -/
  | sealMsg (env : Env)
  /-- SEALED, R565: The sender completes or fails the checkpoint. -/
  | sealed (env : Env)
  /-- FETCH, R567: The holder selects a slot and sends its header and data. -/
  | fetch (env : Env)
  /-- DONE, R567: Ends a FETCH, with a status on failure. -/
  | doneMsg (env : Env)
  /-- OPEN_TIMEOUT, R565: No ACCEPT within OPEN_MS fails the checkpoint. -/
  | openTimeout
  /-- POWER_ON, R584: The always-on rail rises and the K7 boots. -/
  | powerOn (tj : Nat) (noise : List FuseSense) (smbStraps : Nat)
  /-- FUSE_READ, R578: Senses each fuse word's copies at three thresholds and resolves them. -/
  | fuseRead (tj : Nat) (noise : List FuseSense)
  /-- MEMORY_INIT_DONE, R662: Memory zeroing completes and firmware sets DDT_READY. -/
  | memoryInitDone (populated perChGib : Nat)
  /-- PERST_ASSERT, R590: PERST# asserted holds the blocks outside the island in reset. -/
  | perstAssert
  /-- PERST_DEASSERT, R663: PERST# deasserted; firmware repeats training and rebuilds the table. -/
  | perstDeassert
  /-- PERST_HELD, R593: After 1 s of continuous PERST#, PERST_HELD is set. -/
  | perstHeld
  /-- WATCHDOG, R591: TIMEOUT_MS without KICK resets and reloads the management cores. -/
  | watchdog
  /-- KICK, R591: Restarts the watchdog interval. -/
  | kick
  /-- DOMAIN_REQUEST, R588: A write to FUM_PD_REQ switches domains on or starts refusing work. -/
  | domainRequest (who : Requester) (v : Word)
  /-- DOMAIN_READY, R588: A waking domain's wake time passes and it becomes ready. -/
  | domainReady (d : Nat)
  /-- DOMAIN_SWITCH_OFF, R588: A domain's off condition holds and it switches off. -/
  | domainSwitchOff (d : Nat)
  /-- PWRFAIL, R635: PWRFAIL# held 1 µs takes a record set and flushes Sinter. -/
  | pwrfail
  /-- CORE_PG_RISE, R633: CORE_PG rises and the first VCB SET frames are sent. -/
  | corePgRise
  /-- CORE_PG_FALL, R636: CORE_PG falls and is treated as a PERST# assertion. -/
  | corePgFall
  /-- SMBUS_TARGET_TIMEOUT, R595: SCL or SDA held low 35 ms releases the bus. -/
  | smbusTargetTimeout
  /-- SENSOR_BUS_STUCK, R596: SDA stuck low gets a nine-pulse recovery and, after 250 ms, the bus is declared failed. -/
  | sensorBusStuck (high : Bool)
  /-- SENSOR_BUS_RETRY, R596: Every 10 s recovery of a failed sensor bus is retried. -/
  | sensorBusRetry (high : Bool)
  /-- VSTATUS, R622: JTAG instruction that shifts out the status response. -/
  | vstatus
  /-- VSINTER, R622: JTAG instruction that captures a live Sinter record. -/
  | vsinter (code : Nat)
  /-- VGROUP, R622: JTAG instruction that writes the vent group while debug is unlocked. -/
  | vgroup (g : Nat)
  /-- PERIODIC_SNAPSHOT, R604: Every 600 s a record set is taken. -/
  | periodicSnapshot (bytes : Nat)
  /-- SINTER_EXPORT, R610: Firmware writes held record sets to host memory. -/
  | sinterExport (env : Env)
  /-- CRC_LOAD, R615: Sets a CRC unit's VALUE to INIT. -/
  | crcLoad (unit : Nat)
  /-- LOG_ENTRY_WRITE, R617: Firmware writes a log or trace entry, or drops it. -/
  | logEntryWrite (sev core : Nat) (trace : Bool) (id : Nat) (arg0 arg1 : Word) (env : Env)
  /-- VENT_SAMPLE, R621: Each sample period the selected vent group is driven onto the pins. -/
  | ventSample (sample : Nat)
  /-- POWER_LOSS, R606: The always-on rail falls; all state is lost, including buffered Sinter record sets when PWRFAIL# did not precede it. -/
  | powerLoss
  /-- UPSTREAM_LINK_TRAINED, R585: The upstream PCIe link completes training and its data link layer comes up, after which configuration requests are answered. -/
  | upstreamLinkTrained (link : LinkShape) (cfg : List (Nat × CfgField))
  /-- INTERRUPT_DISABLE_CLEAR, R367: Clearing Interrupt Disable while the physical function has MSI-X Enable 0 turns each waiting vector request into an INTx cause bit and clears its count and PBA bit. -/
  | interruptDisableClear
  /-- DISCOVERY_DISABLE, R474: A write of 0 to RDM_DISC_CTL.EN sends LEAVE to every UP peer and stops HELLOs. -/
  | discoveryDisable (who : Requester) (v : Word)
  /-- LOG_RING_ENABLE, R617: SNT_LOG_CFG.EN changing from 0 to 1 sets both log indices to 0 and applies BASE and SIZE. -/
  | logRingEnable (who : Requester) (v : Word)
  /-- GATE_ENTRY_ADVANCE, R499: Adjusted time reaches the end of a gate control list entry, opening and closing gates so that held services may start frames. -/
  | gateEntryAdvance (port : Nat)
  /-- AUTONOMOUS_POWER_STATE_TRANSITION, R389: An NVMe controller enters a non-operational power state on its own after the idle time of its Autonomous Power State Transition setting. -/
  | autonomousPowerStateTransition (fn idleMs : Nat)
  /-- EXTEST, R597: The JTAG EXTEST instruction drives boundary scan while PERST# is asserted, and decodes as BYPASS otherwise. -/
  | extest
  /-- DRIVE_MEMORY_REQUEST, R374: A memory request from a drive outside the buffers that the storage engine opened for it receives Unsupported Request and is not performed. -/
  | driveMemoryRequest (port : Nat) (addr : Nat)
  /-- UNDEFINED_INSTRUCTION, R241: A Tasko core fetches an undefined instruction word or extension word and raises ILLEGAL_INSTRUCTION. -/
  | undefinedInstruction (core : Nat)
deriving DecidableEq, Repr

end Sys2Proof
end

