-- ==== Sys2Proof/WellFormed.lean ====
section
/-! DEFINITION. Which commands are well formed: the operands name a thing that the K7 has. No agent of the K7
sends a command that is not well formed. -/

namespace Sys2Proof

/-- The four management cores and the 255 virtual functions (R236, R340). -/
def Requester.wf : Requester → Bool
  | .pf => true
  | .core k => decide (k < 4)
  | .vf f => decide (1 ≤ f ∧ f < 256)

/-- An execution slot or a ring of the pool (R28). -/
def CplSrc.wf : CplSrc → Bool
  | .slot n => decide (n < 4096)
  | .ring n => decide (n < 16384)

/-- An execution slot, or a tag of one of the 128 tiles (R20, R28, R121). -/
def GeySrc.wf : GeySrc → Bool
  | .clause slot => decide (slot < 4096)
  | .unit tile tag => decide (tile < 128 ∧ tag < 64)

/-- A command is well formed where its operands are in the ranges of the rules that define the things they name. -/
def Instr.wf : Instr → Bool
  | .registerWrite who off bytes _ => who.wf && decide (off % bytes = 0) && (bytes == 4 || bytes == 8 || bytes == 2 && (match who with | .core _ => true | _ => false))
  | .paceSample mon chains => decide (mon < 11 ∧ 0 < chains.length ∧ (mon < 8 → chains.length = 1))
  | .paceCtlWrite who _ => who.wf
  | .clrExt => true
  | .pllUnlock => true
  | .pllRelock => true
  | .timebaseLowRead who => who.wf
  | .applyStep => true
  | .todSlewTick _ => true
  | .powerDecision compute io => decide (compute.length = 32) && decide (io.length = 8)
  | .fumPwrCapWrite who _ => who.wf
  | .thermEmerg _ => true
  | .thermtrip _ => true
  | .doorbellWrite fn _ _ _ => decide (fn < 256)
  | .ringIndexWrite who _ => who.wf
  | .nvmeDoorbell fn _ _ => decide (fn < 256)
  | .ringArbitration _ => true
  | .clauseArrival slot => decide (slot < 4096)
  | .heldClauseDispatch ring => decide (ring < 16384)
  | .completionPost src _ => src.wf
  | .heldCompletionPost cq _ => decide (cq < 16384)
  | .nopClause ring => decide (ring < 16384)
  | .copy slot _ => decide (slot < 4096)
  | .fill slot _ => decide (slot < 4096)
  | .fence ring => decide (ring < 16384)
  | .fenceFn ring => decide (ring < 16384)
  | .barrier ring => decide (ring < 16384)
  | .wait ring => decide (ring < 16384)
  | .signal ring => decide (ring < 16384)
  | .set ring => decide (ring < 16384)
  | .waitTimeout ring => decide (ring < 16384)
  | .moderationTimer cq => decide (cq < 16384)
  | .ringCreate fn => decide (fn < 256)
  | .ringDestroy fn => decide (fn < 256)
  | .ringReset fn => decide (fn < 256)
  | .ringDrainDone _ ring => decide (ring < 16384)
  | .resume fn => decide (fn < 256)
  | .setPrio fn => decide (fn < 256)
  | .setMod fn => decide (fn < 256)
  | .launch slot => decide (slot < 4096)
  | .launchLoadDone slot _ => decide (slot < 4096)
  | .tileSendClause slot => decide (slot < 4096)
  | .abort slot => decide (slot < 4096)
  | .launchTimeout lead => decide (lead < 128)
  | .tileFault tile => decide (tile < 128)
  | .roleRelease lead => decide (lead < 128)
  | .unitCompletion tile tag => decide (tile < 128) && decide (tag < 64)
  | .ldw tile tag _ => decide (tile < 128) && decide (tag < 64)
  | .mma tile tag _ => decide (tile < 128) && decide (tag < 64)
  | .ew tile tag _ => decide (tile < 128) && decide (tag < 64)
  | .scalar tile tag _ => decide (tile < 128) && decide (tag < 64)
  | .curve tile tag _ => decide (tile < 128) && decide (tag < 64)
  | .accrd tile tag _ => decide (tile < 128) && decide (tag < 64)
  | .reduce tile tag _ => decide (tile < 128) && decide (tag < 64)
  | .cvt tile tag _ => decide (tile < 128) && decide (tag < 64)
  | .get tile tag _ => decide (tile < 128) && decide (tag < 64)
  | .put tile tag _ => decide (tile < 128) && decide (tag < 64)
  | .evadd tile tag => decide (tile < 128) && decide (tag < 64)
  | .send tile tag _ => decide (tile < 128) && decide (tag < 64)
  | .messageDeliver tile tag => decide (tile < 128) && decide (tag < 64)
  | .msgrd tile tag => decide (tile < 128) && decide (tag < 64)
  | .seta tile tag => decide (tile < 128) && decide (tag < 64)
  | .lddec tile tag _ => decide (tile < 128) && decide (tag < 64)
  | .ldenc tile tag _ => decide (tile < 128) && decide (tag < 64)
  | .ldctl tile tag _ => decide (tile < 128) && decide (tag < 64)
  | .ldcrv tile tag _ => decide (tile < 128) && decide (tag < 64)
  | .endTile core => decide (core < 132)
  | .faultInstr core => decide (core < 132)
  | .sync core => decide (core < 132)
  | .ret core => decide (core < 132)
  | .jmps core => decide (core < 132)
  | .calls core => decide (core < 132)
  | .nop core => decide (core < 132)
  | .ei core => decide (core < 132)
  | .di core => decide (core < 132)
  | .reti core => decide (core < 132)
  | .waiti core => decide (core < 132)
  | .jmpl core => decide (core < 132)
  | .calll core => decide (core < 132)
  | .bzl core => decide (core < 132)
  | .bnzl core => decide (core < 132)
  | .bz core => decide (core < 132)
  | .bnz core => decide (core < 132)
  | .jmp core => decide (core < 132)
  | .call core => decide (core < 132)
  | .pushi core => decide (core < 132)
  | .pushi2 core => decide (core < 132)
  | .pushs core => decide (core < 132)
  | .dup core => decide (core < 132)
  | .drop core => decide (core < 132)
  | .swap core => decide (core < 132)
  | .over core => decide (core < 132)
  | .rot core => decide (core < 132)
  | .nip core => decide (core < 132)
  | .pick core => decide (core < 132)
  | .add core => decide (core < 132)
  | .sub core => decide (core < 132)
  | .addc core => decide (core < 132)
  | .subb core => decide (core < 132)
  | .mul core => decide (core < 132)
  | .mulh core => decide (core < 132)
  | .and core => decide (core < 132)
  | .or core => decide (core < 132)
  | .xor core => decide (core < 132)
  | .not core => decide (core < 132)
  | .neg core => decide (core < 132)
  | .shl core => decide (core < 132)
  | .shr core => decide (core < 132)
  | .sar core => decide (core < 132)
  | .ceq core => decide (core < 132)
  | .cne core => decide (core < 132)
  | .cltu core => decide (core < 132)
  | .cleu core => decide (core < 132)
  | .clts core => decide (core < 132)
  | .cles core => decide (core < 132)
  | .cz core => decide (core < 132)
  | .pushg core => decide (core < 132)
  | .popg core => decide (core < 132)
  | .incg core => decide (core < 132)
  | .decg core => decide (core < 132)
  | .ld core => decide (core < 132)
  | .st core => decide (core < 132)
  | .tas core _ => decide (core < 132)
  | .ldr core _ => decide (core < 132)
  | .stc core _ => decide (core < 132)
  | .ldx core _ => decide (core < 132)
  | .stx core _ => decide (core < 132)
  | .windowAccessReturn core _ _ => decide (core < 132)
  | .setw core => decide (core < 132)
  | .mfs core => decide (core < 132)
  | .mts core => decide (core < 132)
  | .issue core => decide (core < 132)
  | .issuex core => decide (core < 132)
  | .waitu core => decide (core < 132)
  | .movw core _ _ => decide (core < 132)
  | .fillw core _ _ => decide (core < 132)
  | .cmpw core _ _ => decide (core < 132)
  | .scanw core _ _ => decide (core < 132)
  | .packw core _ _ => decide (core < 132)
  | .interruptLinePulse core line => decide (core < 132) && decide (line < 14)
  | .interruptEntry core => decide (core < 132)
  | .gather src _ => src.wf
  | .scatter src _ => src.wf
  | .hins src _ => src.wf
  | .hprobe src _ => src.wf
  | .hdel src _ => src.wf
  | .sort src _ => src.wf
  | .merge src _ => src.wf
  | .segred src _ => src.wf
  | .segscan src _ => src.wf
  | .setop src _ => src.wf
  | .hsetop src _ => src.wf
  | .frontier src _ _ => src.wf
  | .geyserOpAdmit src => src.wf
  | .geyserOpComplete src => src.wf
  | .bandModeWrite who k _ => who.wf && decide (k < 2)
  | .bandModeApply band => decide (band < 64)
  | .refreshIssue unit => decide (unit < 20)
  | .refreshRateChange unit _ => decide (unit < 20)
  | .scrubBurst unit _ => decide (unit < 20)
  | .retrainTrigger unit _ _ => decide (unit < 20)
  | .retrainDone unit _ => decide (unit < 20)
  | .windowRuleChange who _ _ => who.wf
  | .xltBaseWrite who _ => who.wf
  | .xltInvalidate fn => decide (fn < 256)
  | .buddyApply => true
  | .maintRequest _ unit => decide (unit < 20)
  | .maintEnd _ unit => decide (unit < 20)
  | .functionLevelReset fn => decide (fn < 256)
  | .fnResetCmd fn => decide (fn < 256)
  | .vfEnableClear => true
  | .vfEnableSet on => decide (on.numVfs < 256) && on.cfg.all (fun c => decide (c.1 < 256))
  | .hotReset => true
  | .fnResetDrainDone fn => decide (fn < 256)
  | .fnResetCut fn => decide (fn < 256)
  | .hostCompletionArrive _ _ _ => true
  | .completionTimeout _ => true
  | .unexpectedCompletion _ _ => true
  | .msixUnmask fn _ => decide (fn < 256)
  | .intxCauseClear k _ => decide (k < 17)
  | .powerStateChange fn _ => decide (fn < 256)
  | .l1Entry _ => true
  | .l1Exit => true
  | .l0pWindow _ _ => true
  | .dpPresenceChange port _ => decide (port < 4)
  | .dpError port => decide (port < 4)
  | .upstreamLinkTrained _ cfg => cfg.all (fun c => decide (c.1 < 256))
  | .interruptDisableClear => true
  | .driveMemoryRequest port _ => decide (port < 4)
  | .kload slot _ => decide (slot < 4096)
  | .krevoke slot => decide (slot < 4096)
  | .revocationComplete keySlot => decide (keySlot < 1024)
  | .kquery slot => decide (slot < 4096)
  | .pkgLoad slot _ => decide (slot < 4096)
  | .proveNonce slot _ => decide (slot < 4096)
  | .prove slot _ => decide (slot < 4096)
  | .ccEnSet fn _ _ _ _ => decide (fn < 256)
  | .ccEnClear fn => decide (fn < 256)
  | .controllerResetCut fn => decide (fn < 256)
  | .createIoSq slot => decide (slot < 4096)
  | .deleteIoSq slot => decide (slot < 4096)
  | .createIoCq slot => decide (slot < 4096)
  | .deleteIoCq slot => decide (slot < 4096)
  | .getLogPage slot _ => decide (slot < 4096)
  | .identify slot _ => decide (slot < 4096)
  | .nvmeAbort slot => decide (slot < 4096)
  | .setFeatures slot _ => decide (slot < 4096)
  | .getFeatures slot _ => decide (slot < 4096)
  | .asynchronousEventRequest slot => decide (slot < 4096)
  | .clearIndeterminateRange slot => decide (slot < 4096)
  | .nvmeFlush slot => decide (slot < 4096)
  | .nvmeWrite slot _ => decide (slot < 4096)
  | .nvmeRead slot _ => decide (slot < 4096)
  | .writeZeroes slot _ => decide (slot < 4096)
  | .datasetManagement slot _ => decide (slot < 4096)
  | .rangeLockGrant entry _ => decide (entry < 1024)
  | .backingCompletion _ _ _ _ _ _ => true
  | .backingTimeout _ => true
  | .backingAbortTimeout _ => true
  | .driveRemoved port => decide (port < 4)
  | .remotePathLost qp => decide (qp < 2 ^ 20)
  | .driveReady port _ _ _ _ => decide (port < 4)
  | .nsCreate => true
  | .nsDelete => true
  | .nsAttach => true
  | .nsDetach => true
  | .cacheCtlWrite who _ => who.wf
  | .feed slot _ => decide (slot < 4096)
  | .autonomousPowerStateTransition fn _ => decide (fn < 256)
  | .shaperRefill => true
  | .gateApply port => decide (port < 8)
  | .gateListSwitch port => decide (port < 8)
  | .gateEntryAdvance port => decide (port < 8)
  | .pfcFrameReceive port prio _ => decide (port < 8) && decide (prio < 8)
  | .pauseExpiry port prio => decide (port < 8) && decide (prio < 8)
  | .tableLoad _ => true
  | .tableSwap => true
  | .tableSwapDone => true
  | .flowInsert _ => true
  | .flowDelete _ => true
  | .flowQuery _ => true
  | .flowAgeSweep => true
  | .flowMemWrite who _ => who.wf
  | .fragmentHoldExpiry => true
  | .fragmentEntryExpiry => true
  | .frameReceive port _ _ => decide (port < 8)
  | .linkChange port _ => decide (port < 8)
  | .quadModeChange who _ => who.wf
  | .qpCreate fn _ => decide (fn < 256)
  | .qpModify fn _ => decide (fn < 256)
  | .qpDestroy fn => decide (fn < 256)
  | .qpQuery fn _ => decide (fn < 256)
  | .regionCreate fn _ => decide (fn < 256)
  | .regionDestroy fn => decide (fn < 256)
  | .regionQuery fn _ => decide (fn < 256)
  | .peerCreate fn _ => decide (fn < 256)
  | .peerDestroy fn => decide (fn < 256)
  | .peerQuery fn _ => decide (fn < 256)
  | .groupCreate fn _ => decide (fn < 256)
  | .groupDestroy fn => decide (fn < 256)
  | .groupQuery fn _ => decide (fn < 256)
  | .rdmaSend slot _ => decide (slot < 4096)
  | .sendImm slot _ => decide (slot < 4096)
  | .rdmaWrite slot _ => decide (slot < 4096)
  | .writeImm slot _ => decide (slot < 4096)
  | .rdmaRead slot _ => decide (slot < 4096)
  | .tsend slot _ => decide (slot < 4096)
  | .frame slot _ => decide (slot < 4096)
  | .recv slot => decide (slot < 4096)
  | .trecv slot => decide (slot < 4096)
  | .reorderDeliver port _ => decide (port < 8)
  | .portTransmitStart port _ => decide (port < 8)
  | .rawFrameTimeout => true
  | .ackReceive _ => true
  | .retransmitTimeout qp _ => decide (qp < 2 ^ 20)
  | .rnrWaitExpiry qp _ => decide (qp < 2 ^ 20)
  | .ackDelayExpiry qp => decide (qp < 2 ^ 20)
  | .rcPacketReceive _ => true
  | .cnpReceive => true
  | .alphaTimer qp => decide (qp < 2 ^ 20)
  | .rateIncrease qp => decide (qp < 2 ^ 20)
  | .creditRequestReceive => true
  | .creditGrant port tc => decide (port < 8) && decide (tc < 8)
  | .creditGrantReceive _ => true
  | .creditExpiry qp _ => decide (qp < 2 ^ 20)
  | .creditReturn => true
  | .helloSend => true
  | .helloReceive => true
  | .peerDeadTimeout peer => decide (peer < 4096)
  | .discoveryDisable who _ => who.wf
  | .reduceScatter slot _ => decide (slot < 4096)
  | .allGather slot _ => decide (slot < 4096)
  | .allReduce slot _ => decide (slot < 4096)
  | .broadcast slot _ => decide (slot < 4096)
  | .allToAll slot _ => decide (slot < 4096)
  | .collectiveTimeout group => decide (group < 64)
  | .abortNoticeReceive => true
  | .arm slot _ => decide (slot < 4096)
  | .triggerSample _ => true
  | .openMsg => true
  | .accept => true
  | .refuse => true
  | .openTimeout => true
  | .dataMsg => true
  | .sealMsg _ => true
  | .sealed _ => true
  | .restore slot => decide (slot < 4096)
  | .fetch _ => true
  | .doneMsg _ => true
  | .exportClause slot _ => decide (slot < 4096)
  | .crcLoad unit => decide (unit < 16)
  | .fuseRead _ _ => true
  | .domainRequest who _ => who.wf
  | .domainReady d => decide (d < 29)
  | .domainSwitchOff d => decide (d < 29)
  | .mailboxGo => true
  | .sidebandMctp _ => true
  | .spdmRequest _ => true
  | .setCmdKey _ _ => true
  | .fwUpdate _ _ _ => true
  | .keyProvision _ => true
  | .keyProvisionSigner _ => true
  | .fuseProgramRollback _ => true
  | .fuseProgramOwner _ => true
  | .fuseProgramDebugDisable _ => true
  | .debugUnlock _ => true
  | .debugLock _ => true
  | .setMembership _ => true
  | .tenancySwitch _ => true
  | .sinterExportSign _ => true
  | .powerLoss => true
  | .powerOn _ _ _ => true
  | .perstAssert => true
  | .perstDeassert => true
  | .perstHeld => true
  | .corePgRise => true
  | .corePgFall => true
  | .vcbFrame _ tlm => decide (tlm.length = 10)
  | .vcbAlert rail _ => decide (rail < 2)
  | .memoryInitDone _ _ => true
  | .pwrfail => true
  | .watchdog => true
  | .kick => true
  | .smbusTargetTimeout => true
  | .sensorBusStuck _ => true
  | .sensorBusRetry _ => true
  | .periodicSnapshot _ => true
  | .sinterExport _ => true
  | .logEntryWrite sev core _ _ _ _ _ => decide (sev < 4) && decide (core < 4)
  | .logRingEnable who _ => who.wf
  | .ventSample _ => true
  | .vstatus => true
  | .vsinter code => decide (code < 1024)
  | .vgroup _ => true
  | .extest => true
  | .spiRxWrite who _ => who.wf
  | .undefinedInstruction core => decide (core < 132)

end Sys2Proof
end

