-- ==== Sys2Proof/Decode.lean ====
section
/-! DEFINITION. The K7 as a block has no instruction memory, and the table of operations gives its rows no bits. -/

namespace Sys2Proof

/-- The command that a word of the operation table spells. No row of the table has bits, so no word spells a command. -/
def decodeTableWord (_nbits _w : Nat) : Option Instr := none

end Sys2Proof
end

