-- ==== Sys2Proof/Config.lean ====
section
/-! DEFINITION. The free values of the model: uninterpreted constants for what the manual leaves open.
None has a body that a proof could see; a claim about them holds for every value. -/

namespace Sys2Proof

/-- Contents of byte `addr` of a range of unspecified contents, by the range's number (R103, R279, R311, R317, R357). -/
opaque Config.freeByte : Nat → Nat → Byte

/-- A choice that the manual leaves free, by the number of the choice and an index in it. -/
opaque Config.freeBit : Nat → Nat → Bool

/-- A word whose value the manual does not give, by its number. -/
opaque Config.freeWord : Nat → Word

/-- The high bf16 part of an fp32 matrix operand: the manual does not say how the split rounds (R116). -/
opaque Config.fp32High : Quad → Half

/-- The low bf16 part of an fp32 matrix operand (R116). -/
opaque Config.fp32Low : Quad → Half

/-- The code that an encode gives for an entry whose CODE is not below 2^w of the slot that uses it, by the entry and w (R185). -/
opaque Config.wideCode : Quad → Nat → Nat

/-- q of R186 where its quotient has no value (no finite difference, or a zero denominator): by the two encode entries and x. -/
opaque Config.encodeShare : Quad → Quad → Quad → Int

/-- The refresh interval at the normal rate, ns, of an HBM4 stack (true) or a DDR5 channel (R319: other standards define it). -/
opaque Config.refreshNs : Bool → Nat

/-- Byte `i` of the option code images of the expansion ROM: each firmware release states them (R349). -/
opaque Config.optionRom : Nat → Byte

/-- Address and length of the buffer that the storage engine opens for a drive's backing command (R374). -/
opaque Config.driveBuffer : Nat → Nat × Nat

/-- The fuse words that Rafold programs at manufacture (R577): secrets, serial number, calibration with v_eff (R60), repair. -/
opaque Config.fuseWord : Nat → Nat

/-- Whether Sinter code `c`, one that no chapter names, has VALID = 1 (R599). -/
opaque Config.sinterValid : Nat → Bool

/-- Descriptor fields of a Sinter code, fixed at manufacture (R599, R600): LOG2 mode, SHIFT, LIMIT_S, UNIT. -/
opaque Config.sinterLog2 : Nat → Bool
opaque Config.sinterShift : Nat → Nat
opaque Config.sinterLimitS : Nat → Nat
opaque Config.sinterUnit : Nat → Nat

/-- What operation `n` on Sinter's flash does (R612): the program time of a page, µs; its retries; whether an erase verifies. -/
opaque Config.flashTime : Nat → Nat
opaque Config.flashRetries : Nat → Nat
opaque Config.flashErased : Nat → Bool

/-- The flash form of record set `i` where no command gives it, bytes (R606). -/
opaque Config.setBytes : Nat → Nat

/-- Byte `i` of the AES-256 counter keystream of a key and a 12-byte nonce, as GCM uses it. -/
opaque Config.gcmPad : List Byte → List Byte → Nat → Byte

/-- The AES-256-GCM tag of a key, a nonce, additional data and a ciphertext. -/
opaque Config.gcmTag : List Byte → List Byte → List Byte → List Byte → BitVec 128

/-- AES-256-XTS of one data unit: byte `i` of the encryption (true) or decryption of data under a 64-byte key and a tweak. -/
opaque Config.xtsByte : Bool → List Byte → Nat → List Byte → Nat → Byte

/-- SHA-384. -/
opaque Config.sha384 : List Byte → BitVec 384

/-- HMAC-SHA-384 of a key and a message. -/
opaque Config.hmac384 : List Byte → List Byte → BitVec 384

/-- Whether an ECDSA P-384 signature over a SHA-384 digest verifies under a public key. -/
opaque Config.ecdsaOk : List Byte → BitVec 384 → List Byte → Bool

/-- The ECDSA P-384 signature that the key number `k` of the device (0 DeviceID, 1 alias) gives for a digest. -/
opaque Config.ecdsaSign : Nat → Nat → BitVec 384 → List Byte

/-- The x-coordinate of ECDH between a sender's public key and the device's key-agreement key (R530). -/
opaque Config.ecdhX : Nat → List Byte → List Byte

/-- The SHA-384 of the DeviceID public key that a device secret gives (R534, R538). -/
opaque Config.deviceKeyHash : Nat → BitVec 384

/-- The digest of the boot ROM (R539). -/
opaque Config.bootRomDigest : BitVec 384

/-- Fresh random bytes, by number of the draw (R513, R529). -/
opaque Config.randomByte : Nat → Nat → Byte

/-- The checkpoint messages (R560). -/
inductive CkMsg where
  | openReq (format step bytes lanes : Nat) (regions : List Byte)
  | accept (slot : Nat)
  | refuse (reason : Nat)
  /-- the slot header that answers a FETCH (R567) -/
  | header (bytes : List Byte)
  | data (slot off : Nat) (bytes : List Byte)
  | seal (crcs : List Nat)
  | sealed (code : Nat)
  | fetch (slot serial step : Nat)
  | done (status : Nat)
deriving DecidableEq, Repr

/-- What an RC packet carries, headers apart (R450, R455, R458, R460 to R468, R473, R481, R483, R560). -/
inductive Body where
  | send (first last : Bool) (imm tag : Option Nat) (data : List Byte)
  | write (first last : Bool) (off rkey dlen : Nat) (imm : Option Nat) (data : List Byte)
  | readReq (off rkey dlen : Nat)
  | readResp (last : Bool) (data : List Byte)
  | ack
  | nakSeq
  | nakAccess
  /-- any other error NAK -/
  | nakOp
  | rnr
  | cnp
  | hello (serial cur prev caps echo : Nat) (leave : Bool)
  | creditReq (bytes : Nat)
  | grant (bytes : Nat)
  /-- a segment of a chunk of a collective: sequence number, version, phase, chunk number -/
  | coll (seq version phase chunk : Nat) (last : Bool) (data : List Byte)
  | abort (seq cause rank : Nat)
  | ck (m : CkMsg)
deriving DecidableEq, Repr

/-- A packet of the RDMA engine: destination queue pair, PSN, AckReq, content. -/
structure Pkt where
  qpn : Nat
  psn : Nat
  ackReq : Bool
  body : Body
deriving DecidableEq, Repr

/-- The content of the packets whose byte layout the manual does not give, by BTH opcode and bytes after the BTH: TSEND,
the credit messages, collective segments, abort notices and the checkpoint messages. -/
opaque Config.vendorBody : Nat → List Byte → Option Body

/-- Header bytes after the BTH of the packets whose byte layout the manual does not give, by BTH opcode. -/
opaque Config.vendorHeader : Nat → Nat

/-- The protocol version pair, current and previous, of a firmware image by its number (R475). -/
opaque Config.protoVersion : Nat → Nat × Nat

/-- What SPDM evidence says (R536): the SHA-384 of the DeviceID key that its chain ends in, whether the chain and the
signature of the measurements verify, the requester nonce, and the blocks on device sets, debug and fuses. -/
structure Evidence where
  keyHash : BitVec 384
  signed : Bool
  nonce : List Byte
  setId : Nat
  setState : Nat
  debugLocked : Bool
  fuseHold : Bool
deriving DecidableEq, Repr

/-- The contents of evidence bytes; none where they are malformed. The SPDM and X.509 formats are other documents'. -/
opaque Config.evidence : List Byte → Option Evidence

/-- The content of the measurement blocks (R539): boot ROM digest, firmware digest with VERSION and slot, fuse state
(counter, OWNED, doubtful and held words), debug state and unlocks, epoch and TENANT_ID, sets (SET_ID, state, members,
proven), measurement log (KIND, SET_ID, DIGEST) with OVERFLOW, RUN, key store locked and the reason. -/
structure Measurements where
  rom : BitVec 384
  firmware : Nat
  version : Nat
  slot : Nat
  rollback : Nat
  owned : Bool
  doubtful : List Nat
  held : List Nat
  debug : Bool
  unlocks : Nat
  epoch : Nat
  tenant : Nat
  sets : List (Nat × Nat × Nat × Nat)
  log : List (Nat × Nat × BitVec 384)
  overflow : Bool
  run : BitVec 384
  locked : Bool
  reason : Nat
deriving DecidableEq, Repr

/-- The SPDM response to a request that the K7 supports, by number of the response, device secret and measurement
contents (R537 to R539). The format is another document's. -/
opaque Config.spdmAnswer : Nat → Nat → Measurements → List Byte → List Byte

/-- Word `a` of space `sp` (0 program, 1 data) of management core `k` in the image with a digest (R572). -/
opaque Config.imageHalf : Nat → Nat → Nat → Nat → Half

end Sys2Proof
end

