-- ==== Sys2Proof/Machine/Table.lean ====
section
/-! DEFINITION. The operations over sparse tables: look-up, update, removal, and the canonical form. -/

namespace Sys2Proof.Machine

/-- The value that a table lists for key `k`. -/
def Tbl.find? {α : Type} (k : Nat) : Tbl α → Option α
  | [] => none
  | (j, v) :: t => if j = k then some v else Tbl.find? k t

/-- The value of key `k`, or the default `d` where the table lists none. -/
def Tbl.getD {α : Type} (t : Tbl α) (k : Nat) (d : α) : α := (Tbl.find? k t).getD d

/-- Whether the table lists key `k`. -/
def Tbl.has {α : Type} (t : Tbl α) (k : Nat) : Bool := (Tbl.find? k t).isSome

/-- The table with key `k` at value `v`, its keys kept in rising order. -/
def Tbl.set {α : Type} (k : Nat) (v : α) : Tbl α → Tbl α
  | [] => [(k, v)]
  | (j, w) :: t =>
    if k < j then (k, v) :: (j, w) :: t
    else if k = j then (k, v) :: t
    else (j, w) :: Tbl.set k v t

/-- The table without key `k`. -/
def Tbl.del {α : Type} (k : Nat) : Tbl α → Tbl α
  | [] => []
  | (j, w) :: t => if j = k then Tbl.del k t else (j, w) :: Tbl.del k t

/-- The table with key `k` at value `v`, kept canonical for the default `d`:
writing the default removes the entry. -/
def Tbl.put {α : Type} [DecidableEq α] (d : α) (k : Nat) (v : α) (t : Tbl α) : Tbl α :=
  if v = d then Tbl.del k t else Tbl.set k v t

/-- The table with the value of key `k` changed by `f`, if it is listed. -/
def Tbl.modify {α : Type} (k : Nat) (f : α → α) (t : Tbl α) : Tbl α :=
  match Tbl.find? k t with
  | some v => Tbl.set k (f v) t
  | none => t

/-- Every key of the table lies above `k`. -/
def Tbl.above {α : Type} (k : Nat) : Tbl α → Bool
  | [] => true
  | (j, _) :: t => decide (k < j) && Tbl.above k t

/-- The keys of the table rise strictly. -/
def Tbl.sorted {α : Type} : Tbl α → Bool
  | [] => true
  | (j, _) :: t => Tbl.above j t && Tbl.sorted t

/-- Canonical form for the default `d`: keys strictly rising, no entry at the default. -/
def Tbl.wf {α : Type} [DecidableEq α] (d : α) (t : Tbl α) : Bool :=
  Tbl.sorted t && t.all (fun e => decide (e.2 ≠ d))

/-- The lowest key below `n` that satisfies `p`. -/
def firstBelow (n : Nat) (p : Nat → Bool) : Option Nat := (List.range n).find? p

/-- The lowest number from `k` up that is no key of the table, trying `fuel` numbers. -/
def Tbl.firstFree {α : Type} (t : Tbl α) : Nat → Nat → Option Nat
  | 0, _ => none
  | fuel + 1, k => if Tbl.has t k then Tbl.firstFree t fuel (k + 1) else some k

/-- The sum of a list of numbers. -/
def sumOf (l : List Nat) : Nat := l.foldl (· + ·) 0

end Sys2Proof.Machine
end

