-- ==== Sys2Proof/Machine/Bits.lean ====
section
/-! DEFINITION. Bit-field and byte-order helpers (R7: bit 0 is the least significant; little-endian bytes). -/

namespace Sys2Proof.Machine

/-- Bits [hi:lo] of a number, as a number. -/
def field (w hi lo : Nat) : Nat := (w >>> lo) % 2 ^ (hi + 1 - lo)

/-- One bit of a number. -/
def bit (w i : Nat) : Bool := (w >>> i) % 2 == 1

/-- The number `w` with bits [hi:lo] replaced by `v`. -/
def setField (w hi lo v : Nat) : Nat :=
  w - (field w hi lo) <<< lo + (v % 2 ^ (hi + 1 - lo)) <<< lo

/-- A bit as a number. -/
def ofBit (b : Bool) : Nat := if b then 1 else 0

/-- The number `n` as `k` little-endian bytes (R7). -/
def toBytes : Nat → Nat → List Byte
  | 0, _ => []
  | k + 1, n => BitVec.ofNat 8 n :: toBytes k (n / 256)

/-- The number that little-endian bytes spell (R7). -/
def ofBytes : List Byte → Nat
  | [] => 0
  | b :: t => b.toNat + 256 * ofBytes t

/-- The number that big-endian bytes spell (network order, R7). -/
def ofBytesBE (l : List Byte) : Nat := l.foldl (fun a b => a * 256 + b.toNat) 0

/-- The little-endian groups of `k` bytes of a byte list, `n` of them. -/
def groupsOf (k : Nat) : Nat → List Byte → List Nat
  | 0, _ => []
  | n + 1, l => ofBytes (l.take k) :: groupsOf k n (l.drop k)

/-- The `n` 64-bit words that a byte list spells. -/
def wordsOf (n : Nat) (l : List Byte) : List Word := (groupsOf 8 n l).map (BitVec.ofNat 64)

/-- The bytes of a list of 64-bit words. -/
def bytesOfWords (l : List Word) : List Byte := l.flatMap (fun w => toBytes 8 w.toNat)

/-- Element `i` of a list of 64-bit words as a number, zero beyond the end. -/
def wordAt (l : List Word) (i : Nat) : Nat := (l.getD i 0).toNat

/-- The bits that a byte list spells, least significant bit of the first byte first (R164). -/
def toBits (l : List Byte) : List Bool := l.flatMap (fun b => (List.range 8).map (fun i => bit b.toNat i))

/-- The number that bits spell, least significant first. -/
def ofBits : List Bool → Nat
  | [] => 0
  | b :: t => ofBit b + 2 * ofBits t

/-- Ceiling division. -/
def ceilDiv (a b : Nat) : Nat := (a + b - 1) / b

/-- Rounding up to a multiple of `k`. -/
def alignUp (a k : Nat) : Nat := ceilDiv a k * k

/-- Rounding down to a multiple of `k`. -/
def alignDown (a k : Nat) : Nat := a / k * k

/-- A two's complement number of `w` bits as an integer. -/
def signed (w n : Nat) : Int :=
  if n % 2 ^ w < 2 ^ (w - 1) then (n % 2 ^ w : Int) else (n % 2 ^ w : Int) - 2 ^ w

/-- The low `w` bits of an integer in two's complement. -/
def unsigned (w : Nat) (i : Int) : Nat := (i % (2 ^ w : Int)).toNat

/-- The ranges [a, a+n) and [b, b+m) share an address. -/
def overlaps (a n b m : Nat) : Bool := decide (0 < n ∧ 0 < m ∧ a < b + m ∧ b < a + n)

end Sys2Proof.Machine
end

