-- ==== Sys2Proof/Machine/Float.lean ====
section
/-! DEFINITION. Exact values of the number formats, their decoding and rounding (R166 to R169, R178, R179),
and IEEE 754 binary32 arithmetic to nearest even (R174). -/

namespace Sys2Proof.Machine

/-- A decoded number: not a number, an infinity, or (-1)^neg × mag × 2^exp exactly (R168). -/
inductive FVal where
  | nan
  | inf (neg : Bool)
  | fin (neg : Bool) (mag : Nat) (exp : Int)
deriving DecidableEq, Repr

/-- How a format treats the codes of its highest exponent (R166). -/
inductive FSpecial where
  /-- all ones in the exponent: infinity with fraction zero, else NaN -/
  | ieee
  /-- only S.1111.111 is NaN, no infinity -/
  | lastNan
  /-- neither infinity nor NaN -/
  | none
deriving DecidableEq, Repr

/-- The layout of a floating-point format: fraction bits, exponent bits, bias, special codes. -/
structure FFmt where
  frac : Nat
  expBits : Nat
  bias : Nat
  special : FSpecial
deriving DecidableEq, Repr

def FFmt.fp32 : FFmt := ⟨23, 8, 127, .ieee⟩
def FFmt.bf16 : FFmt := ⟨7, 8, 127, .ieee⟩
def FFmt.fp16 : FFmt := ⟨10, 5, 15, .ieee⟩
def FFmt.e4m3 : FFmt := ⟨3, 4, 7, .lastNan⟩
def FFmt.e5m2 : FFmt := ⟨2, 5, 15, .ieee⟩
def FFmt.e2m3 : FFmt := ⟨3, 2, 1, .none⟩
def FFmt.e3m2 : FFmt := ⟨2, 3, 3, .none⟩
def FFmt.e2m1 : FFmt := ⟨1, 2, 1, .none⟩

/-- The width of a format in bits. -/
def FFmt.width (f : FFmt) : Nat := f.frac + f.expBits + 1

/-- The magnitude code of the largest finite value (R166). -/
def FFmt.maxFin (f : FFmt) : Nat :=
  match f.special with
  | .ieee => (2 ^ f.expBits - 1) * 2 ^ f.frac - 1
  | .lastNan => 2 ^ (f.expBits + f.frac) - 2
  | .none => 2 ^ (f.expBits + f.frac) - 1

/-- The value of a code (R168: exact, a zero exponent field denotes zero or a subnormal). -/
def FFmt.decode (f : FFmt) (code : Nat) : FVal :=
  let neg := bit code (f.frac + f.expBits)
  let c := code % 2 ^ (f.frac + f.expBits)
  let e := c / 2 ^ f.frac
  let m := c % 2 ^ f.frac
  if f.special = .ieee ∧ e = 2 ^ f.expBits - 1 then (if m = 0 then .inf neg else .nan)
  else if f.special = .lastNan ∧ c = 2 ^ (f.frac + f.expBits) - 1 then .nan
  else if e = 0 then .fin neg m (1 - (f.bias : Int) - f.frac)
  else .fin neg (2 ^ f.frac + m) ((e : Int) - f.bias - f.frac)

/-- How an encode rounds: to nearest even, or stochastically with a 16-bit random number (R178, R179). -/
inductive Rounding where
  | nearest
  | random (r : Nat)
deriving DecidableEq, Repr

/-- Rounding of the magnitude `n + rem / 2^d`, `0 ≤ rem < 2^d`, to an integer (R178: ties to even; R179).
The lower neighbour of a negative value is the one of greater magnitude. -/
def roundUnit (mode : Rounding) (neg : Bool) (n rem d : Nat) : Nat :=
  match mode with
  | .nearest => if 2 * rem > 2 ^ d ∨ (2 * rem = 2 ^ d ∧ n % 2 = 1) then n + 1 else n
  | .random r =>
    if rem = 0 then n
    else if neg then (if r < 65536 * (2 ^ d - rem) / 2 ^ d then n else n + 1)
    else (if r < 65536 * rem / 2 ^ d then n + 1 else n)

/-- The magnitude code that `mag × 2^exp` rounds to with unbounded exponent.
A code above `maxFin` lies beyond the format's range. -/
def FFmt.roundMag (f : FFmt) (mode : Rounding) (neg : Bool) (mag : Nat) (exp : Int) : Nat :=
  if mag = 0 then 0
  else
    let minE : Int := 1 - f.bias
    let ke := max ((Nat.log2 mag : Int) + exp) minE
    let qe := ke - f.frac
    let base := (ke - minE).toNat * 2 ^ f.frac
    if qe ≤ exp then base + mag * 2 ^ (exp - qe).toNat
    else
      let d := (qe - exp).toNat
      base + roundUnit mode neg (mag / 2 ^ d) (mag % 2 ^ d) d

/-- A magnitude code with a sign bit. -/
def FFmt.withSign (f : FFmt) (neg : Bool) (c : Nat) : Nat := c + ofBit neg * 2 ^ (f.frac + f.expBits)

/-- The magnitude code of infinity in a format that has one. -/
def FFmt.infCode (f : FFmt) : Nat := (2 ^ f.expBits - 1) * 2 ^ f.frac

/-- A value as an fp32 pattern: rounded once to nearest even, overflow to infinity,
NaN canonical (R169, R174, R175). -/
def toFp32 : FVal → Quad
  | .nan => 0x7FC00000#32
  | .inf neg => BitVec.ofNat 32 (FFmt.fp32.withSign neg FFmt.fp32.infCode)
  | .fin neg m e =>
    BitVec.ofNat 32 (FFmt.fp32.withSign neg (min (FFmt.fp32.roundMag .nearest neg m e) FFmt.fp32.infCode))

/-- The value of an fp32 pattern. -/
def fp32Val (b : Quad) : FVal := FFmt.fp32.decode b.toNat

/-- The value of a bf16 pattern. -/
def bf16Val (b : Nat) : FVal := FFmt.bf16.decode b

/-- The signed integer mantissa of a finite value. -/
def signedMag (neg : Bool) (m : Nat) : Int := if neg then -(m : Int) else m

/-- The sum of two exact values, each an integer times a power of two. -/
def dyAdd (a b : Int × Int) : Int × Int :=
  let e := min a.2 b.2
  (a.1 * 2 ^ (a.2 - e).toNat + b.1 * 2 ^ (b.2 - e).toNat, e)

/-- An exact non-zero sum as a value; a zero sum takes the sign given. -/
def ofDyadic (zeroNeg : Bool) (d : Int × Int) : FVal :=
  if d.1 = 0 then .fin zeroNeg 0 0 else .fin (decide (d.1 < 0)) d.1.natAbs d.2

/-- Exact addition with the IEEE 754 special cases: an exact zero sum is -0 only of two negative zeros. -/
def FVal.add : FVal → FVal → FVal
  | .nan, _ => .nan
  | _, .nan => .nan
  | .inf a, .inf b => if a = b then .inf a else .nan
  | .inf a, .fin _ _ _ => .inf a
  | .fin _ _ _, .inf b => .inf b
  | .fin s m e, .fin t n g =>
    ofDyadic (s && t && m == 0 && n == 0) (dyAdd (signedMag s m, e) (signedMag t n, g))

/-- Exact multiplication with the IEEE 754 special cases. -/
def FVal.mul : FVal → FVal → FVal
  | .nan, _ => .nan
  | _, .nan => .nan
  | .inf a, .inf b => .inf (a != b)
  | .inf a, .fin t n _ => if n = 0 then .nan else .inf (a != t)
  | .fin s m _, .inf b => if m = 0 then .nan else .inf (s != b)
  | .fin s m e, .fin t n g => .fin (s != t) (m * n) (e + g)

/-- The value with its sign inverted. -/
def FVal.neg : FVal → FVal
  | .nan => .nan
  | .inf a => .inf (!a)
  | .fin s m e => .fin (!s) m e

/-- The value multiplied by a power of two, exactly. -/
def FVal.scale (k : Int) : FVal → FVal
  | .fin s m e => .fin s m (e + k)
  | v => v

/-- Comparison of two values that are not NaN, with -0 below +0 where `zeroOrder` asks for it:
the sign of left minus right. -/
def FVal.cmp (zeroOrder : Bool) : FVal → FVal → Int
  | .inf a, .inf b => if a = b then 0 else if a then -1 else 1
  | .inf a, _ => if a then -1 else 1
  | _, .inf b => if b then 1 else -1
  | .fin s m e, .fin t n g =>
    let d := (dyAdd (signedMag s m, e) (- signedMag t n, g)).1
    if d ≠ 0 then (if d < 0 then -1 else 1)
    else if zeroOrder ∧ m = 0 ∧ n = 0 ∧ s ≠ t then (if s then -1 else 1)
    else 0
  | _, _ => 0

/-- Whether a value is NaN. -/
def FVal.isNan : FVal → Bool
  | .nan => true
  | _ => false

/-- Whether a value is an infinity. -/
def FVal.isInf : FVal → Bool
  | .inf _ => true
  | _ => false

/-- fp32 addition (R174). -/
def fadd (a b : Quad) : Quad := toFp32 ((fp32Val a).add (fp32Val b))

/-- fp32 subtraction (R174). -/
def fsub (a b : Quad) : Quad := toFp32 ((fp32Val a).add (fp32Val b).neg)

/-- fp32 multiplication (R174). -/
def fmul (a b : Quad) : Quad := toFp32 ((fp32Val a).mul (fp32Val b))

/-- a × b + c rounded once (R174). -/
def ffma (a b c : Quad) : Quad := toFp32 (((fp32Val a).mul (fp32Val b)).add (fp32Val c))

/-- fp32 maximum: NaN if either operand is NaN, +0 above -0 (R174). -/
def fmax (a b : Quad) : Quad :=
  if (fp32Val a).isNan || (fp32Val b).isNan then toFp32 .nan
  else if FVal.cmp true (fp32Val a) (fp32Val b) < 0 then b else a

/-- fp32 minimum: NaN if either operand is NaN, -0 below +0 (R174). -/
def fmin (a b : Quad) : Quad :=
  if (fp32Val a).isNan || (fp32Val b).isNan then toFp32 .nan
  else if FVal.cmp true (fp32Val a) (fp32Val b) > 0 then b else a

/-- The pattern with its sign bit inverted, NaN canonical. -/
def fneg (a : Quad) : Quad := toFp32 (fp32Val a).neg

/-- a < b on fp32 patterns; false where either is NaN. -/
def flt (a b : Quad) : Bool :=
  !(fp32Val a).isNan && !(fp32Val b).isNan && decide (FVal.cmp false (fp32Val a) (fp32Val b) < 0)

/-- The greatest integer not above a finite fp32 value; zero for the rest. -/
def ffloor (a : Quad) : Int :=
  match fp32Val a with
  | .fin s m e =>
    if 0 ≤ e then signedMag s m * 2 ^ e.toNat else (signedMag s m).fdiv (2 ^ (-e).toNat)
  | _ => 0

/-- An integer as an fp32 pattern, rounded to nearest even. -/
def ofIntFp32 (i : Int) : Quad := toFp32 (ofDyadic false (i, 0))

/-- The signed integer that a value rounds to (R176, R178: a tie to the even integer; R179). -/
def roundInt (mode : Rounding) (neg : Bool) (m : Nat) (e : Int) : Int :=
  if 0 ≤ e then signedMag neg (m * 2 ^ e.toNat)
  else
    let d := (-e).toNat
    signedMag neg (roundUnit mode neg (m / 2 ^ d) (m % 2 ^ d) d)

end Sys2Proof.Machine
end

