-- ==== Sys2Proof/Machine/Formats.lean ====
section
/-! DEFINITION. Format codes, tile tables, block scaling and the encode procedures (R163 to R187, R193, R194). -/

namespace Sys2Proof.Machine

/-- The format tables of one tile (R182 to R193); an entry not listed is zero (R192). -/
structure TileTables where
  /-- slot descriptors 0 to 7 (R182) -/
  slots : Tbl Word := []
  /-- the seed of the last control block (R181) -/
  seed : Quad := 0
  /-- decode entries (R184) -/
  dec : Tbl Half := []
  /-- encode entries (R185) -/
  enc : Tbl Quad := []
  /-- the 136 words of the curve block (R193) -/
  curve : Tbl Word := []
  /-- lane generator states; a lane not listed stands at its seed (R180, R181) -/
  lanes : Tbl Quad := []
deriving DecidableEq, Repr

/-- The width class of a format (R115). -/
inductive WidthClass where
  | w16 | w8 | w6 | w4 | f32
deriving DecidableEq, Repr

/-- K, the contraction length of a stationary bank of a width class (R115). -/
def WidthClass.k : WidthClass → Nat
  | .w16 => 64 | .w8 => 128 | .w6 => 256 | .w4 => 256 | .f32 => 64

/-- The element kinds behind the format codes. -/
inductive Elem where
  | float (f : FFmt)
  | int (w : Nat)
  /-- MXINT8: an 8-bit integer times 2^-6 (R167) -/
  | mxint8
  /-- custom slot (R182) -/
  | custom (slot : Nat)
deriving DecidableEq, Repr

/-- A format: element kind, element width, width class, block scaling (R163). -/
structure Format where
  elem : Elem
  width : Nat
  cls : WidthClass
  block : Bool
deriving DecidableEq, Repr

/-- Fields of a slot descriptor (R182). -/
def slotWord (t : TileTables) (k : Nat) : Nat := (Tbl.getD t.slots k 0).toNat
def slotEmax (w : Nat) : Int := signed 8 (field w 55 48)
def slotEncCount (w : Nat) : Nat := field w 40 32
def slotEncBase (w : Nat) : Nat := field w 31 24
def slotDecBase (w : Nat) : Nat := field w 23 16
def slotWidthCode (w : Nat) : Nat := field w 13 12
def slotBits (w : Nat) : Nat :=
  match slotWidthCode w with
  | 1 => 4
  | 2 => 6
  | _ => 8

/-- A slot descriptor that holds a reserved encoding (R182, R183). -/
def slotReserved (w : Nat) : Bool :=
  field w 63 56 != 0 || field w 47 41 != 0 || field w 15 14 != 0 || bit w 11 ||
  (if slotWidthCode w = 0 then w != 0
   else slotEncCount w == 0 || decide (256 < slotEncCount w) ||
     decide (256 < slotEncBase w + slotEncCount w) ||
     decide (256 < slotDecBase w + 2 ^ slotBits w) || decide (2 ^ slotBits w ≤ field w 7 0))

/-- The format that an FMT code names on a tile; none where the code is undefined (R163, R183). -/
def formatOf (t : TileTables) (code : Nat) : Option Format :=
  match code with
  | 0x01 => some ⟨.float .fp32, 32, .f32, false⟩
  | 0x02 => some ⟨.float .bf16, 16, .w16, false⟩
  | 0x03 => some ⟨.float .fp16, 16, .w16, false⟩
  | 0x10 => some ⟨.float .e4m3, 8, .w8, false⟩
  | 0x11 => some ⟨.float .e5m2, 8, .w8, false⟩
  | 0x12 => some ⟨.int 8, 8, .w8, false⟩
  | 0x13 => some ⟨.int 4, 4, .w4, false⟩
  | 0x14 => some ⟨.float .e4m3, 8, .w8, true⟩
  | 0x15 => some ⟨.float .e5m2, 8, .w8, true⟩
  | 0x16 => some ⟨.float .e2m3, 6, .w6, true⟩
  | 0x17 => some ⟨.float .e3m2, 6, .w6, true⟩
  | 0x18 => some ⟨.float .e2m1, 4, .w4, true⟩
  | 0x19 => some ⟨.mxint8, 8, .w8, true⟩
  | _ =>
    if 0x20 ≤ code ∧ code ≤ 0x27 then
      let w := slotWord t (code - 0x20)
      match slotWidthCode w with
      | 1 => some ⟨.custom (code - 0x20), 4, .w4, bit w 10⟩
      | 2 => some ⟨.custom (code - 0x20), 6, .w6, bit w 10⟩
      | 3 => some ⟨.custom (code - 0x20), 8, .w8, bit w 10⟩
      | _ => none
    else none

/-- The value of an element code before block scaling (R168, R184). -/
def decodeElem (t : TileTables) (f : Format) (code : Nat) : FVal :=
  match f.elem with
  | .float g => g.decode code
  | .int w => let i := signed w code; .fin (decide (i < 0)) i.natAbs 0
  | .mxint8 => let i := signed 8 code; .fin (decide (i < 0)) i.natAbs (-6)
  | .custom k => bf16Val ((Tbl.getD t.dec (slotDecBase (slotWord t k) + code) 0).toNat)

/-- The exponent of an E8M0 scale byte; none for the NaN code (R167). -/
def scaleExp (e : Nat) : Option Int := if e = 0xFF then none else some ((e : Int) - 127)

/-- The fp32 value of a vector operand element, rounded once after its block scale (R168, R171). -/
def decodeScaled (t : TileTables) (f : Format) (code : Nat) (scale : Option Int) : Quad :=
  match scale with
  | none => toFp32 .nan
  | some k => toFp32 ((decodeElem t f code).scale k)

/-- Encode entry `i` of a slot (R182, R185). -/
def encWord (t : TileTables) (slot i : Nat) : Quad := Tbl.getD t.enc (slotEncBase (slotWord t slot) + i) 0

/-- VALUE of an encode entry, a bf16 pattern (R185). -/
def encValue (e : Quad) : FVal := bf16Val (field e.toNat 31 16)

/-- The code that an entry gives in a slot of `w` bits: its CODE, which must be below 2^w; where the slot descriptor was loaded
after an entry with a wider CODE, the spec gives no code (log entry 151). -/
def encCode (w : Nat) (e : Quad) : Nat :=
  if field e.toNat 7 0 < 2 ^ w then field e.toNat 7 0 else Config.wideCode e w % 2 ^ w

/-- The fixed binary search of R186: the greatest index found with VALUE ≤ x, or -1.
An entry whose VALUE is NaN compares false (DEDUCED). -/
def encSearch (vals : Nat → FVal) (n : Nat) (x : FVal) : Int :=
  [128, 64, 32, 16, 8, 4, 2, 1].foldl (fun (lo : Int) (step : Int) =>
    let k := lo + step
    if k < n ∧ !(vals k.toNat).isNan ∧ FVal.cmp true (vals k.toNat) x ≤ 0 then k else lo) (-1)

/-- The index of least magnitude among the entries, the lowest on a tie (R186). -/
def encZero (vals : Nat → FVal) (n : Nat) : Nat :=
  let mag : FVal → FVal := fun v =>
    match v with
    | .fin _ m e => .fin false m e
    | .inf _ => .inf false
    | .nan => .nan
  (List.range n).foldl (fun best i =>
    if (vals i).isNan then best
    else if (vals best).isNan ∨ FVal.cmp false (mag (vals i)) (mag (vals best)) < 0 then i else best) 0

/-- The exact difference a - b (R186): an infinity less a finite value is that infinity. -/
def FVal.sub (a b : FVal) : FVal := a.add b.neg

/-- a < b; false where either is NaN. -/
def FVal.lt (a b : FVal) : Bool := !a.isNan && !b.isNan && decide (FVal.cmp false a b < 0)

/-- floor(65,536 × a / b) of two finite values, b not zero; none otherwise. -/
def FVal.share (a b : FVal) : Option Int :=
  match a, b with
  | .fin s m e, .fin u n g =>
    if n = 0 then none
    else
      let k := min e g
      some ((65536 * (signedMag s m * 2 ^ (e - k).toNat)).fdiv (signedMag u n * 2 ^ (g - k).toNat))
  | _, _ => none

/-- The encode procedure of R186 for a custom slot. The procedure holds for every table: for entries out of order, for a NaN or an
infinite VALUE, and for 256 entries, of which the search never reads the last. -/
def encodeCustom (t : TileTables) (slot : Nat) (mode : Rounding) (x : FVal) : Nat :=
  let w := slotWord t slot
  let n := slotEncCount w
  let val := fun i => encValue (encWord t slot i)
  let code := fun i => encCode (slotBits w) (encWord t slot i)
  if x.isNan then (if bit w 8 then field w 7 0 else code (encZero val n))
  else
    let lo := encSearch val n x
    let hi := (lo + 1).toNat
    let l := lo.toNat
    if lo < 0 then code 0
    else if FVal.cmp true (val l) x = 0 then code l
    else if hi = n then code (n - 1)
    else if (val l).isInf || (val hi).isInf then
      let f := if (val l).isInf then hi else l
      let i := if (val l).isInf then l else hi
      if bit w 9 then code f else code i
    else
      let dlo := x.sub (val l)
      let dhi := (val hi).sub x
      match mode with
      | .random r =>
        let q := (dlo.share (dlo.add dhi)).getD (Config.encodeShare (encWord t slot l) (encWord t slot hi) (toFp32 x))
        if (r : Int) < q then code hi else code l
      | .nearest =>
        if dlo.lt dhi then code l
        else if dhi.lt dlo then code hi
        else if code l % 2 = 0 then code l
        else if code hi % 2 = 0 then code hi
        else code l

/-- The encode of a finite, infinite or NaN value into a non-block built-in format (R176). -/
def encodeFloat (f : FFmt) (mode : Rounding) (x : FVal) : Nat :=
  match x with
  | .nan =>
    match f.special with
    | .ieee => if f = .e5m2 then 0x7F else f.infCode + 2 ^ (f.frac - 1)
    | _ => 2 ^ (f.frac + f.expBits) - 1
  | .inf neg =>
    match f.special with
    | .ieee => f.withSign neg f.infCode
    | _ => f.withSign neg f.maxFin
  | .fin neg m e =>
    let c := f.roundMag mode neg m e
    if f = .bf16 ∨ f = .fp16 ∨ f = .fp32 then f.withSign neg (min c f.infCode)
    else f.withSign neg (min c f.maxFin)

/-- The encode into a two's complement integer of `w` bits whose unit is 2^-`sh` (R176, R177). -/
def encodeInt (w : Nat) (sh : Int) (mode : Rounding) (x : FVal) : Nat :=
  match x with
  | .nan => 0
  | .inf neg => if neg then 2 ^ (w - 1) else 2 ^ (w - 1) - 1
  | .fin neg m e =>
    unsigned w (max (-(2 ^ (w - 1) : Int)) (min ((2 ^ (w - 1) : Int) - 1) (roundInt mode neg m (e + sh))))

/-- The encode of one value into the element kind of a format (R176, R177, R186). -/
def encodeElem (t : TileTables) (f : Format) (mode : Rounding) (x : FVal) : Nat :=
  match f.elem with
  | .float g => encodeFloat g mode x
  | .int w => encodeInt w 0 mode x
  | .mxint8 => encodeInt 8 6 mode x
  | .custom k => encodeCustom t k mode x

/-- EMAX of a block-scaled format (R177). -/
def emaxOf (t : TileTables) (f : Format) : Int :=
  match f.elem with
  | .float g => if g = .e4m3 then 8 else if g = .e5m2 then 15 else if g = .e3m2 then 4 else 2
  | .custom k => slotEmax (slotWord t k)
  | _ => 0

/-- floor(log2 |x|) of a finite value that is not zero. -/
def log2Floor : FVal → Option Int
  | .fin _ m e => if m = 0 then none else some ((Nat.log2 m : Int) + e)
  | _ => none

/-- The scale byte of a block (R177, steps 1 to 3). -/
def blockScale (t : TileTables) (f : Format) (xs : List Quad) : Nat :=
  let vs := xs.map fp32Val
  if vs.any (fun v => v.isNan || v.isInf) then 0xFF
  else
    match (vs.filterMap log2Floor).foldl (fun (a : Option Int) k => some (match a with | none => k | some b => max b k)) none with
    | none => 0
    | some top => (max 0 (min 254 (top - emaxOf t f + 127))).toNat

/-- The code of one element of a block whose scale byte is `sc` (R177). A block without any
non-zero value has the scale byte 0 and its zeros keep their sign where the format has one. -/
def encodeBlockElem (t : TileTables) (f : Format) (sc : Nat) (mode : Rounding) (x : Quad) : Nat :=
  if sc = 0xFF then 0 else encodeElem t f mode ((fp32Val x).scale (127 - (sc : Int)))

/-- The seed of lane `l` of tile `n` (R181). -/
def laneSeed (seed : Quad) (n l : Nat) : Quad :=
  let v := seed ^^^ BitVec.ofNat 32 ((64 * n + l + 1) * 0x9E3779B9)
  if v = 0 then 1 else v

/-- One advance of a lane generator (R180). -/
def laneNext (s : Quad) : Quad :=
  let a := s ^^^ (s <<< 13)
  let b := a ^^^ (a >>> 17)
  b ^^^ (b <<< 5)

/-- The state of lane `l` of tile `n`. -/
def laneState (t : TileTables) (n l : Nat) : Quad := Tbl.getD t.lanes l (laneSeed t.seed n l)

/-- A control block's slots and seed written, and the lanes seeded (R181, R188). -/
def loadControl (t : TileTables) (ws : List Word) : TileTables :=
  { t with
    slots := (List.range 8).foldl (fun a k => Tbl.put 0 k (ws.getD k 0) a) []
    seed := BitVec.ofNat 32 (wordAt ws 8)
    lanes := [] }

/-- A control block that holds a reserved encoding (R183, R190). -/
def controlReserved (ws : List Word) : Bool :=
  (ws.take 8).any (fun w => slotReserved w.toNat) || field (wordAt ws 8) 63 32 != 0 ||
  (ws.drop 9).any (· ≠ 0)

/-- A curve block that holds a reserved encoding (R193). -/
def curveReserved (ws : List Word) : Bool :=
  field (wordAt ws 2) 1 0 == 3 || field (wordAt ws 2) 3 2 == 3 || field (wordAt ws 2) 5 4 == 3 ||
  field (wordAt ws 2) 63 6 != 0 || ((ws.drop 3).take 5).any (· ≠ 0)

/-- The slots that use encode entry `k` (R182, R185). -/
def slotsUsing (t : TileTables) (k : Nat) : List Nat :=
  ((List.range 8).map (slotWord t)).filter (fun w =>
    slotWidthCode w != 0 && decide (slotEncBase w ≤ k ∧ k < slotEncBase w + slotEncCount w))

/-- Whether encode entry `k` holds a reserved encoding on a tile with these slot descriptors (R185, R652): a reserved bit set, or a
CODE that a slot using the entry does not have. -/
def encReserved (t : TileTables) (k e : Nat) : Bool :=
  field e 15 8 != 0 || (slotsUsing t k).any (fun w => decide (2 ^ slotBits w ≤ field e 7 0))

/-- Whether encode entries loaded from entry `first` on hold a reserved encoding. -/
def encListReserved (t : TileTables) (first : Nat) (es : List Nat) : Bool :=
  (es.mapIdx (fun i e => encReserved t (first + i) e)).any id

/-- The low or high 32 bits of a word of the curve block. -/
def curveLo (t : TileTables) (i : Nat) : Quad := (Tbl.getD t.curve i 0).extractLsb' 0 32
def curveHi (t : TileTables) (i : Nat) : Quad := (Tbl.getD t.curve i 0).extractLsb' 32 32

/-- The curve of a tile at x (R194). -/
def curveAt (t : TileTables) (x : Quad) : Quad :=
  let modes := (Tbl.getD t.curve 2 0).toNat
  let lo := field modes 1 0
  let hi := field modes 3 2
  let sym := field modes 5 4
  if (fp32Val x).isNan then toFp32 .nan
  else
    let isNeg := sym != 0 && flt x 0
    let u := if isNeg then fneg x else x
    let p := fmul (fsub u (curveLo t 0)) (curveHi t 0)
    if (fp32Val p).isNan then toFp32 .nan
    else
      let y :=
        if flt p 0 then
          (if lo = 0 then ffma (curveHi t 8) p (curveLo t 8) else if lo = 1 then curveLo t 1 else u)
        else if !flt p (ofIntFp32 128) then
          (if hi = 0 then ffma (curveHi t 135) (fsub p (ofIntFp32 127)) (curveLo t 135)
           else if hi = 1 then curveHi t 1 else u)
        else
          let i := (ffloor p).toNat
          ffma (curveHi t (8 + i)) (fsub p (ofIntFp32 i)) (curveLo t (8 + i))
      if isNeg && sym == 1 then fneg y else y

/-- One term of the exact sum of R172: a product of two elements and their block scales. -/
def mmaTerm (a : FVal) (sa : Option Int) (b : FVal) (sb : Option Int) : FVal :=
  match sa, sb with
  | some i, some j => (a.mul b).scale (i + j)
  | _, _ => .nan

/-- new = round_fp32(old + the exact sum of the terms), with the special cases of R173. -/
def mmaAdd (old : Quad) (terms : List FVal) : Quad :=
  toFp32 (terms.foldl FVal.add (fp32Val old))

end Sys2Proof.Machine
end

