-- ==== Sys2Proof/Machine/CoreState.lean ====
section
/-! DEFINITION. The state of one Tasko core and of one Caldera tile (chapters 4, 6 and 7). -/

namespace Sys2Proof.Machine

/-- A 16-bit value of a Tasko core: known, or awaited under the number of its producer (R212). -/
inductive TVal where
  | known (v : Half)
  | await (id : Nat)
deriving DecidableEq, Repr

/-- Whether a core executes (R153, R159, R238, R240). -/
inductive CoreRun where
  /-- not started, or stopped by a fault, a role stop or a double fault -/
  | stopped
  | running
  /-- END has executed (tile sequencers) -/
  | ended
deriving DecidableEq, Repr

/-- The comparisons of R254. -/
inductive CmpOp where
  | eq | ne | ltu | leu | lts | les | isZero
deriving DecidableEq, Repr

/-- A comparison with an awaited operand: its result is awaited as `id` (R211, R212). -/
structure CmpRec where
  id : Nat
  op : CmpOp
  left : TVal
  right : TVal
deriving DecidableEq, Repr

/-- The kinds of window access (R228 to R230, R255). -/
inductive WKind where
  | load | store | tas | loadReserved | storeConditional
deriving DecidableEq, Repr

/-- The space behind a window (R199). -/
inductive WSpace where
  | device | ownSram | management
deriving DecidableEq, Repr

/-- A window access that has executed and whose memory access is outstanding (R204, R256). -/
structure WinAccess where
  id : Nat
  kind : WKind
  space : WSpace
  addr : Nat
  value : Half
  pc : Half
  /-- EPOCH of the function when the access was checked (R331) -/
  epoch : Nat
  /-- the timebase when the access executed and began to wait at its arbiter (R118, R232) -/
  since : Nat
  /-- data space as the instruction found it: what a late failure restores (R234, R256) -/
  data : Tbl Half
deriving DecidableEq, Repr

/-- An unresolved branch: the value it tests, its sense and prediction, the path not predicted, and the state
that a squash restores (R218 to R221). -/
structure Checkpoint where
  cond : Nat
  ifZero : Bool
  predTaken : Bool
  otherPc : Half
  stack : List TVal
  gregs : Tbl TVal
  data : Tbl Half
  sp : Half
  /-- the data-space blocks that the held stores after this branch write, one for each store (R219, R229) -/
  stores : List Nat
deriving DecidableEq, Repr

/-- One Tasko core: a tile sequencer or a management core (R195 to R240). -/
structure Core where
  run : CoreRun := .stopped
  /-- a management core executed WAITI (R238) -/
  waiting : Bool := false
  pc : Half := 0
  /-- the hardware stack, s0 first, at most 16 entries (R206) -/
  stack : List TVal := []
  sp : Half := 0xFF80
  sb : Half := 0xFF80
  sl : Half := 0xF780
  /-- general registers g0 to g15, zero where not listed -/
  gregs : Tbl TVal := []
  data : Tbl Half := []
  prog : Tbl Half := []
  /-- WORDS of the launch; 65,536 for a management core (R198, R236) -/
  words : Nat := 0
  /-- window registers (R199) -/
  wins : Tbl Word := []
  /-- the reserved block: memory number and block number (R229) -/
  rsv : Option (Nat × Nat) := none
  /-- stored completion words (R215) -/
  tagStore : Tbl Half := []
  accesses : List WinAccess := []
  cmps : List CmpRec := []
  specs : List Checkpoint := []
  /-- an exception held by a speculative instruction: code and address (R219) -/
  heldExc : Option (Nat × Half) := none
  /-- a WAITU that waits for its tag: the tag, and the number of the awaited value in its register (R212, R216) -/
  waitu : Option (Nat × Nat) := none
  /-- a management core's window access waits for memory; its instruction is in progress (R238) -/
  loading : Bool := false
  ivb : Half := 0
  gie : Bool := false
  pgie : Bool := false
  ecause : Half := 0
  epc : Half := 0
  ien : Nat := 0
  ipend : Nat := 0
  /-- the firmware image whose words fill the spaces where nothing is listed (R572) -/
  img : Option Nat := none
  /-- number of a management core -/
  num : Nat := 0
deriving DecidableEq, Repr

/-- How far a unit command has come (R122 to R126). -/
inductive CmdPhase where
  | queued
  /-- a message on its way, or a Geyser operation (message 0) -/
  | sent (msg : Word)
  /-- its effect is made; the completion word is not yet posted -/
  | done (word : Half)
deriving DecidableEq, Repr

/-- A unit command from its ISSUE to its completion (R121, R122, R128). -/
structure UnitCmd where
  value : Word
  tag : Nat
  /-- the tensor descriptors it names, as ISSUE found them (R128) -/
  descs : List (Nat × Nat)
  pc : Half
  /-- unresolved branches before its ISSUE; 0 once the commit token is sent (R220) -/
  depth : Nat
  phase : CmdPhase
  /-- its place in the program order of its tile (R235) -/
  order : Nat
deriving DecidableEq, Repr

/-- A fault of a tile as CAL_TILE_FAULT records it (R158, R235). -/
structure FaultRec where
  code : Nat
  pc : Half
  unit : Nat
  tag : Nat
  /-- the place of the instruction in program order (R235); none for ABORTED, LAUNCH_TIMEOUT and PEER_FAULT -/
  order : Option Nat
deriving DecidableEq, Repr

/-- A stationary bank: width class, and elements with their block scales by row × 64 + column (R131, R172). What it holds before
its first LDW is the model's choice: the 16-bit class with every element zero (log entry 27). -/
structure Bank where
  cls : WidthClass := .w16
  elems : Tbl (FVal × Option Int) := []
deriving DecidableEq, Repr

/-- One Caldera tile (R114). Its role registers stand in the register file. -/
structure Tile where
  /-- the lead tile of the role that holds the tile (R142) -/
  role : Option Nat := none
  everHeld : Bool := false
  core : Core := {}
  tables : TileTables := {}
  bank0 : Bank := {}
  bank1 : Bank := {}
  /-- the accumulator file by row × 64 + lane -/
  acc : Tbl Quad := []
  /-- the message queue, oldest first -/
  msgs : List Word := []
  /-- address registers DA0 to DA15 (R137) -/
  da : Tbl Nat := []
  cmds : List UnitCmd := []
  /-- a fault that has reached the tile group's arbiter and is not yet applied (R159, R160) -/
  fault : Option FaultRec := none
  /-- poisoned 64-bit words of the accumulator file (R119) -/
  accPoison : Tbl Bool := []
deriving DecidableEq, Repr

/-- The life of a role (R142, R143, R151, R159). -/
inductive RolePhase where
  | loading | running | stopping
deriving DecidableEq, Repr

/-- A role: an assignment of tiles to a launch (R142). -/
structure Role where
  gen : Nat
  fn : Nat
  tiles : List Nat
  /-- the execution slot of its LAUNCH -/
  slot : Nat
  phase : RolePhase
  entry : Half
  words : Nat
  started : Nat
  timeoutUs : Nat
  /-- the RESULT of R161 once the role has begun to stop -/
  report : Option Word
deriving DecidableEq, Repr

end Sys2Proof.Machine
end

