-- ==== Sys2Proof/Machine/MemState.lean ====
section
/-! DEFINITION. The state of the memories, the translation cache and the maintenance arbiter (chapter 9). -/

namespace Sys2Proof.Machine

/-- A range of unspecified contents [lo, hi): every byte of it reads as a free value of its own (R279, R311, R317). -/
structure Junk where
  lo : Nat
  hi : Nat
  seed : Nat
deriving DecidableEq, Repr

/-- A byte-addressed memory: listed bytes in canonical form, and the ranges of unspecified contents.
A byte that is neither listed nor in such a range reads zero (R662). -/
structure Memory where
  cells : List Host.Cell := []
  junk : List Junk := []
deriving DecidableEq, Repr

/-- A cached translation entry (R330). -/
structure XltEntry where
  fn : Nat
  fgen : Nat
  /-- level 1 (index: I/O address bits [46:30]) or level 2 (index: bits [46:12]) -/
  level1 : Bool
  idx : Nat
  entry : Word
deriving DecidableEq, Repr

/-- A request at the maintenance arbiter, in order of request (R337). Device activities carry unit 0. -/
structure MaintReq where
  act : MaintAct
  unit : Nat
  running : Bool
deriving DecidableEq, Repr

/-- What the K7 keeps about one memory unit (R319 to R322). -/
structure UnitState where
  temp : Nat := 0
  trainTemp : Nat := 0
  lastTrain : Nat := 0
  lastRefresh : Nat := 0
  lastScrub : Nat := 0
  /-- unit-local address at which the patrol scrub goes on (R320, R338) -/
  scrubPos : Nat := 0
  /-- the refresh rate that a REFRESH activity will put in force: doubled or normal (R319) -/
  wantHot : Bool := false
  /-- link errors of the current second, and when that second began (R321) -/
  linkErrs : Nat := 0
  errSince : Nat := 0
deriving DecidableEq, Repr

/-- Memories, poison marks, band changes, translation cache, maintenance (chapter 9). -/
structure MemSys where
  /-- device memory by device physical address (R19) -/
  dev : Memory := {}
  /-- host memory by host address, as the K7 finds it -/
  host : Memory := {}
  /-- poison marks by unit × 2^44 + unit-local block (R316, R657): 64-byte blocks of units 0 to 19,
  8-byte words of unit 20 (shared SRAM) and of units 0x100 + n (tile SRAM) -/
  poison : Tbl Bool := []
  /-- interleave mode in force per band; ALL12 where not listed (R310) -/
  bandMode : Tbl Nat := []
  /-- bands whose new mode waits for admitted accesses (R311) -/
  bandWait : Tbl Nat := []
  cache : List XltEntry := []
  maint : List MaintReq := []
  units : Tbl UnitState := []
  /-- BUDDY apply waiting for the end of a transfer (R333) -/
  buddyWait : Option Nat := none
deriving DecidableEq, Repr

end Sys2Proof.Machine
end

