-- ==== Sys2Proof/Machine/RdmState.lean ====
section
/-! DEFINITION. The state of the Ethernet ports and the parser (chapter 12), of the RDMA and collective engines (chapter 13),
of the traffic scheduler (chapter 14) and of the checkpoint engine (chapter 16). -/

namespace Sys2Proof.Machine

/-! The traffic scheduler. -/

/-- Where a frame comes from (R487). -/
inductive TxSrc where
  | qp (q : Nat)
  | ckp (q : Nat)
  /-- a control frame of a queue pair, a peer or a group: the function it belongs to -/
  | control (fn : Nat)
deriving DecidableEq, Repr

/-- A frame in the scheduler. -/
structure TxFrame where
  src : TxSrc
  /-- subscriber, service, port (R487) -/
  sub : Nat
  svc : Nat
  port : Nat
  /-- bytes including FCS, without protection -/
  len : Nat
  /-- peer-table entry that it goes to -/
  peer : Option Nat
  /-- the frame of a RAW queue pair -/
  raw : List Byte
  pkt : Option Pkt
  /-- execution slot of a FRAME request (R489) -/
  slot : Option Nat
  /-- it has been at the head of its queue toward a port that cannot send since then (R489) -/
  headSince : Option Nat
deriving DecidableEq, Repr

/-- A frame that left a port, with its transmit timestamp in adjusted time (R52, R56), and its SPI and PN where it was protected
(R517, R518). -/
structure SentFrame where
  frame : TxFrame
  time : Nat
  prot : Option (Nat × Nat)
deriving DecidableEq, Repr

/-- A gate control list (R497 to R500). -/
structure GateList where
  /-- interval in ns and mask of each entry -/
  entries : List (Nat × Nat) := [(0xF4240, 0xFF)]
  base : Nat := 0
  cycle : Nat := 0xF4240
deriving DecidableEq, Repr

/-- The traffic scheduler (chapter 14). Tokens count in 1/8,000 byte; a shaper not listed holds 64 KiB. -/
structure Sched where
  /-- subscriber-queued frames in order of entry -/
  frames : List TxFrame := []
  /-- control frames in order of entry (R490) -/
  control : List TxFrame := []
  subTok : Tbl Int := []
  cirTok : Tbl Int := []
  pirTok : Tbl Int := []
  /-- rates in force since the last refill, Mb/s (R493) -/
  subRate : Tbl Nat := []
  cirRate : Tbl Nat := []
  pirRate : Tbl Nat := []
  lastRefill : Nat := 0
  /-- deficit of a subscriber at a port service, by (port × 8 + service) × 4,096 + subscriber (R495) -/
  deficit : Tbl Nat := []
  /-- the subscribers of a port service in round-robin order -/
  order : Tbl (List Nat) := []
  /-- since when a port service has waited (R494) -/
  since : Tbl Nat := []
  busyUntil : Tbl Nat := []
  gates : Tbl GateList := []
  /-- an APPLY that waits for a cycle start: the adjusted time of its acceptance (R500) -/
  gateWait : Tbl Nat := []
  /-- pauses by port × 8 + priority, with the timebase of their end (R501) -/
  pause : Tbl Nat := []
  /-- frames sent, newest first -/
  sent : List SentFrame := []
deriving DecidableEq, Repr

/-! Ethernet ports, parser and classification. -/

/-- A bank of tables (R421, R422); an entry not listed is zero. -/
structure NetBank where
  nodes : Tbl Word := []
  macs : Tbl (List Word) := []
  rules : Tbl (List Word) := []
  patterns : Tbl (List Byte) := []
deriving DecidableEq, Repr

/-- What the header stage finds in a frame (R416 to R418, R439). -/
structure Parse where
  /-- source and destination of the innermost IP header, in the form of R418 -/
  src : List Byte := []
  dst : List Byte := []
  proto : Nat := 0
  sport : Nat := 0
  dport : Nat := 0
  etype : Nat := 0
  tci : Nat := 0
  /-- the outer tag's VLAN ID -/
  vlan : Option Nat := none
  dmac : Nat := 0
  l3 : Nat := 0
  l4 : Nat := 0
  pay : Nat := 0
  /-- the payload ends here -/
  payEnd : Nat := 0
  ip : Bool := false
  ipv6 : Bool := false
  udp : Bool := false
  tcp : Bool := false
  ecn : Nat := 0
  limit : Bool := false
  /-- an IP fragment: identification, whether its offset is not zero, more fragments -/
  frag : Option (Nat × Bool × Bool) := none
deriving DecidableEq, Repr

/-- A classification decision: source, action, index (R437, R439). -/
structure NetDecision where
  source : Nat
  action : Nat
  index : Nat
deriving DecidableEq, Repr

/-- A received frame after classification. -/
structure RxFrame where
  port : Nat
  prio : Nat
  bytes : List Byte
  parse : Parse
  hash : Nat
  lex : Option Nat
  decrypted : Bool
  /-- adjusted time of arrival, and timebase of arrival -/
  stamp : Nat
  time : Nat
  decision : NetDecision
  /-- the bank under which it was parsed -/
  bank : Bool
deriving DecidableEq, Repr

/-- An entry of the fragment follow table (R423, R424). -/
structure FragEntry where
  key : List Byte
  decision : NetDecision
  used : Nat
deriving DecidableEq, Repr

/-- An on-chip flow entry (R428). -/
structure FlowEntry where
  key : List Byte
  action : Nat
  lastHit : Nat
  hits : Nat
deriving DecidableEq, Repr

/-- The Ethernet ports, the parser and classification (chapter 12). -/
structure Net where
  bank0 : NetBank := {}
  bank1 : NetBank := {}
  /-- bytes of a port and priority in its receive buffer, by port × 8 + priority, and whether XOFF has been sent -/
  held : Tbl Nat := []
  xoff : Tbl Bool := []
  /-- pause frames sent: port, priority, XOFF; newest first -/
  pauses : List (Nat × Nat × Bool) := []
  /-- frames in the MAC and the receive buffer that no parse engine has taken, and frames in the reorder stage,
  by port, oldest first -/
  buffer : Tbl (List (List Byte × Nat × Nat)) := []
  reorder : Tbl (List RxFrame) := []
  /-- held later fragments, oldest first (R426) -/
  hold : List RxFrame := []
  /-- the fragment follow table (R423), most recently used last -/
  frags : List FragEntry := []
  flows : Tbl (List FlowEntry) := []
  /-- flow table geometry in force: LOG2 and BASE (R433) -/
  flowLog2 : Nat := 0
  flowBase : Nat := 0
  lastSweep : Nat := 0
  /-- a SWAP is accepted and frames of the old bank remain (R422) -/
  swapping : Bool := false
deriving DecidableEq, Repr

/-! RDMA. -/

/-- A region entry (R551). -/
structure CkRegion where
  addr : Nat
  len : Nat
  conv : Nat
  stored : Nat := 0
deriving DecidableEq, Repr

/-- The kinds of work that a send queue carries. -/
inductive WorkKind where
  | send | write | read
  /-- a segment stream of a collective: sequence number, version, phase, chunk -/
  | coll (seq version phase chunk : Nat)
  /-- one checkpoint control message -/
  | ck (m : CkMsg)
  /-- the checkpoint data of a lane, from regions or from the slot itself: lane, lanes, slot, stored bytes (R560) -/
  | ckData (src : Option (List CkRegion)) (lane lanes slot bytes : Nat)
deriving DecidableEq, Repr

/-- A send-side request of a queue pair, from its acceptance to its completion (R452). -/
structure Wqe where
  slot : Option Nat
  kind : WorkKind
  /-- LOCAL, or the bytes themselves for the engines' own messages -/
  addr : Nat := 0
  bytes : List Byte := []
  len : Nat := 0
  remote : Nat := 0
  rkey : Nat := 0
  imm : Option Nat := none
  tag : Option Nat := none
  fence : Bool := false
  /-- extended sequence number of its first packet, and its packets -/
  psn : Nat := 0
  n : Nat := 0
deriving DecidableEq, Repr

/-- An accepted receive request (R456, R459). -/
structure PostedRecv where
  /-- receive ring, word 0 and its function generation -/
  ring : Nat
  w0 : Nat
  fgen : Nat
  addr : Nat
  len : Nat
  /-- TAG, MASK and TAG_OUT of a TRECV -/
  tagged : Option (Nat × Nat × Nat) := none
  onChip : Bool := true
  /-- EPOCH of the function when the engine accepted it and checked its ranges (R324, R331) -/
  epoch : Nat := 0
deriving DecidableEq, Repr

/-- A message that arrives (R457, R458): its buffer for a SEND, or its region offset for a WRITE. -/
structure RxMsg where
  recv : Option PostedRecv := none
  /-- region of a WRITE -/
  region : Option Nat := none
  /-- where the next byte goes, and bytes written -/
  addr : Nat := 0
  got : Nat := 0
  tag : Nat := 0
  /-- bytes of a WRITE that its check admitted and that have not arrived, and the EPOCH of that check (R331, R455) -/
  left : Nat := 0
  epoch : Nat := 0
deriving DecidableEq, Repr

/-- A READ whose responses are being sent: PSN of the next response, region, address, bytes left (R455). -/
structure ReadJob where
  psn : Nat
  region : Nat
  addr : Nat
  left : Nat
  /-- EPOCH of the function when the range was checked (R331) -/
  epoch : Nat := 0
deriving DecidableEq, Repr

/-- A queue pair (R443, R444, R446, R460 to R468). -/
structure Qp where
  fn : Nat := 0
  state : Nat := 0
  raw : Bool := false
  tc : Nat := 0
  mtu : Nat := 0
  pd : Nat := 0
  sq : Nat := 0
  rq : Nat := 0
  rqEn : Bool := false
  sqPsn : Nat := 0
  rqPsn : Nat := 0
  dest : Nat := 0
  peer : Nat := 0
  rtoUs : Nat := 0
  rnrUs : Nat := 0
  retryCnt : Nat := 0
  rnrRetry : Nat := 0
  rdOut : Nat := 0
  cause : Nat := 0
  /-- internal queue pair: group and rank (R476) -/
  group : Option (Nat × Nat) := none
  /-- requester: oldest unacknowledged, next never sent, next to send, next to give a request (extended, R460) -/
  base : Nat := 0
  next : Nat := 0
  sendAt : Nat := 0
  tail : Nat := 0
  wqes : List Wqe := []
  /-- resends and timer expiries without progress, RNR resends, time of the last progress -/
  retries : Nat := 0
  expiries : Nat := 0
  rnrs : Nat := 0
  progress : Nat := 0
  rnrUntil : Option Nat := none
  /-- responder: expected PSN, NAK sent, unacknowledged packets and time of the oldest -/
  exp : Nat := 0
  nakSent : Bool := false
  unacked : Nat := 0
  unackedAt : Nat := 0
  msg : Option RxMsg := none
  jobs : List ReadJob := []
  /-- time of the last CNP sent for it (R466) -/
  lastCnp : Option Nat := none
  /-- ECN (R467): rates in 1/16 Mb/s, alpha in units of 2^-64 -/
  rc : Nat := 0
  rt : Nat := 0
  alpha : Nat := 0
  steps : Nat := 0
  alphaAt : Nat := 0
  rateAt : Nat := 0
  sentBytes : Nat := 0
  /-- pacing: the next packet may be sent at this time -/
  paceAt : Nat := 0
  /-- CREDIT (R468): bytes left of each grant and the time at which it arrived, oldest first; time of the outstanding request -/
  credit : List (Nat × Nat) := []
  reqAt : Option Nat := none
deriving DecidableEq, Repr

/-- A memory region (R454). -/
structure MemRegion where
  fn : Nat
  base : Nat
  len : Nat
  pd : Nat
  rd : Bool
  wr : Bool
  key : Nat
  /-- a DESTROY waits for its incoming accesses (R455) -/
  dying : Bool := false
deriving DecidableEq, Repr

/-- A peer entry (R472 to R475). -/
structure Peer where
  /-- 1 PROBING, 2 UP, 3 DOWN, 4 REFUSED, 5 FOREIGN -/
  state : Nat
  words : List Word
  serial : Nat := 0
  cur : Nat := 0
  prev : Nat := 0
  caps : Nat := 0
  lastHeard : Nat := 0
  lastSent : Option Nat := none
deriving DecidableEq, Repr

/-- The collective that a group runs (R480 to R484). -/
structure CollOp where
  slot : Nat
  seq : Nat
  version : Nat
  started : Nat
  /-- 0 reduce-scatter, 1 gather -/
  phase : Nat
  /-- chunks written to DST, bytes sent on the wire -/
  written : Nat := 0
  sent : Nat := 0
  /-- segments of the chunk that is arriving, by rank -/
  parts : Tbl (List Byte) := []
deriving DecidableEq, Repr

/-- A collective group (R476, R477). -/
structure Group where
  words : List Word
  fn : Nat
  issuer : Nat
  n : Nat
  rank : Nat
  tc : Nat
  /-- peer of each rank; the own rank's entry is 0xFFFF -/
  peers : List Nat
  seq : Nat := 0
  op : Option CollOp := none
deriving DecidableEq, Repr

/-- A credit request at the responder (R468): queue pair, bytes asked and not yet granted. -/
structure CreditAsk where
  qp : Nat
  bytes : Nat
deriving DecidableEq, Repr

/-- A grant whose bytes have not arrived (R468). -/
structure CreditOut where
  qp : Nat
  left : Nat
  time : Nat
deriving DecidableEq, Repr

/-- A packet that classification delivered to the RDMA engine: the function, and the frame's facts. -/
structure InPkt where
  fn : Nat
  pkt : Pkt
  port : Nat
  ecn : Nat
  /-- source address in the form of R418 -/
  srcIp : List Byte
  len : Nat
deriving DecidableEq, Repr

/-- A command of RDM_CMD that has been accepted and waits (R444, R455): function and what it waits for. -/
structure RdmWait where
  fn : Nat
  kind : Nat
  index : Nat
deriving DecidableEq, Repr

/-- The RDMA and collective engines (chapter 13). -/
structure Rdma where
  qps : Tbl Qp := []
  regions : Tbl MemRegion := []
  peers : Tbl Peer := []
  groups : Tbl Group := []
  recvs : List PostedRecv := []
  /-- prefetched receives of RAW rings -/
  rawRecvs : List PostedRecv := []
  inbox : List InPkt := []
  /-- cached contexts, most recently used first (R449) -/
  cached : List Nat := []
  asks : List CreditAsk := []
  outs : List CreditOut := []
  waits : List RdmWait := []
  lastHello : Nat := 0
deriving DecidableEq, Repr

/-! The checkpoint engine. -/

/-- A checkpoint that is armed or running. -/
structure CkJob where
  /-- execution slot of the ARM; none where a warning armed it -/
  slot : Option Nat
  regions : List CkRegion
  step : Nat := 0
  /-- rings whose BARRIER completions are held -/
  rings : List Nat := []
  lanes : Nat := 0
  /-- slot that the holder accepted -/
  target : Nat := 0
  bytes : Nat := 0
  format : Nat := 0
  since : Nat := 0
  /-- running CRC of each stream -/
  crcs : List Nat := []
  /-- EPOCH of the buddy function when the regions were checked (R331) -/
  epoch : Nat := 0
deriving DecidableEq, Repr

/-- A copy that arrives from the partner: slot, BYTES, LANES, running CRCs. -/
structure CkRecv where
  slot : Nat
  bytes : Nat
  lanes : Nat
  crcs : List Nat
  /-- data of it was refused a write, so that the copy is not sealed -/
  bad : Bool := false
  /-- EPOCH of the buddy function when the slot was checked (R331) -/
  epoch : Nat := 0
deriving DecidableEq, Repr

/-- A RESTORE under way (R567). -/
structure CkRestore where
  slot : Nat
  since : Nat
  header : Option (List Byte) := none
  /-- the regions of the header, once their checks have passed -/
  regions : List CkRegion := []
  got : List (Nat × List Byte) := []
  /-- it has ended before the holder's DONE: what still arrives is dropped -/
  dead : Bool := false
  /-- EPOCH of the buddy function when the regions were checked (R331) -/
  epoch : Nat := 0
deriving DecidableEq, Repr

/-- Where a trigger entry's window began, and the count then (R555). -/
structure CkTrig where
  start : Nat
  count : Nat
deriving DecidableEq, Repr

/-- The checkpoint engine (chapter 16). -/
structure Ckpt where
  job : Option CkJob := none
  /-- ARM clauses that have passed their checks and wait until the engine is idle, oldest first (R554) -/
  waits : List CkJob := []
  recv : Option CkRecv := none
  restore : Option CkRestore := none
  /-- a FETCH that the holder serves: slot, and the queue pair it came on (R567) -/
  serving : Option (Nat × Nat) := none
  /-- EPOCH of the buddy function when the FETCH's slot was checked (R331) -/
  servingEpoch : Nat := 0
  /-- an EXPORT: its execution slot, and the slot of the buddy area that it reads (R568) -/
  exporting : Option (Nat × Nat) := none
  trigs : Tbl CkTrig := []
  lastSample : Nat := 0
  /-- accepted messages with their queue pairs, oldest first -/
  inbox : List (Nat × CkMsg) := []
deriving DecidableEq, Repr

end Sys2Proof.Machine
end

