-- ==== Sys2Proof/Machine/RegTable.lean ====
section
/-! DEFINITION. The set-up registers of the K7: the fields of every register with their kinds, reset values and
valid encodings, from the register tables of each chapter, at the BAR0 offsets of the register index (R648). -/

namespace Sys2Proof.Machine

/-- The six field kinds (R12, R14). -/
inductive Kind where
  | ctl | sta | evt | cnt | ptr | cmd
deriving DecidableEq, Repr

/-- Which copies of a field hold the Reset value of its table; the others reset to zero
(R113, R162, R339, R375). SCH_SVC_CFG.PRIO resets to its service number (R503). -/
inductive ResetOf where
  | always
  /-- the physical function's copy only -/
  | inst0
  /-- window 0 of the physical function only -/
  | both0
  | service
deriving DecidableEq, Repr

/-- A register field: BAR0 offset of its register (of copy 0), lowest bit, width, kind, Reset value,
least and greatest valid encoding (R9, R652), the offset step from one copy to the next, reset rule. -/
structure Fld where
  off : Nat
  lo : Nat
  width : Nat
  kind : Kind
  reset : Nat
  vmin : Nat
  vmax : Nat
  stride : Nat
  resetOf : ResetOf
deriving DecidableEq, Repr

/-- The same field in copy `k` of its register. -/
def Fld.at (f : Fld) (k : Nat) : Fld :=
  { f with off := f.off + f.stride * k, reset := if f.resetOf = .both0 ∧ k ≠ 0 then 0 else f.reset }

/-- The value of copy `inst` of a field after the reset that covers its block (R10). -/
def Fld.resetAt (f : Fld) (inst : Nat) : Nat :=
  match f.resetOf with
  | .always => f.reset
  | .inst0 => if inst = 0 then f.reset else 0
  | .both0 => if inst = 0 then f.reset else 0
  | .service => inst % 8

/-- Which copy of a register an access reaches (R649, R650). -/
inductive Scope where
  /-- one register for the device -/
  | device
  /-- one per function, in its per-function page -/
  | function
  /-- a selector: one copy per requester -/
  | requester
  /-- the copy that bits [lo+width-1:lo] of the selector register at `sel` name -/
  | selected (sel lo width : Nat)
deriving DecidableEq, Repr

/-- A register: offset of copy 0, number of copies, step, scope, fields. -/
structure RegDef where
  off : Nat
  count : Nat
  stride : Nat
  scope : Scope
  fields : List Fld
deriving DecidableEq, Repr

namespace F

/-! GLB_PACE_CTL (R46 of 02_clockless_timing.md). -/
def GLB_PACE_CTL_WINDOW : Fld := ⟨0x100, 2, 2, .ctl, 1, 0, 2, 0, .always⟩
def GLB_PACE_CTL_CLR_EXT : Fld := ⟨0x100, 1, 1, .cmd, 0, 0, 1, 0, .always⟩
def GLB_PACE_CTL_EN : Fld := ⟨0x100, 0, 1, .ctl, 1, 0, 1, 0, .always⟩

/-! GLB_PACE (R46 of 02_clockless_timing.md). -/
def GLB_PACE_MON_SEQ : Fld := ⟨0x110, 48, 16, .cnt, 0, 0, 0xFFFF, 8, .always⟩
def GLB_PACE_MON_MAX : Fld := ⟨0x110, 32, 16, .sta, 0, 0, 0xFFFF, 8, .always⟩
def GLB_PACE_MON_MIN : Fld := ⟨0x110, 16, 16, .sta, 0xFFFF, 0, 0xFFFF, 8, .always⟩
def GLB_PACE_MON_PACE : Fld := ⟨0x110, 0, 16, .sta, 0, 0, 0xFFFF, 8, .always⟩

/-! GLB_TIMEBASE (R54 of 02_clockless_timing.md). -/
def GLB_TIMEBASE_TIME : Fld := ⟨0x200, 0, 64, .sta, 0, 0, 0xFFFFFFFFFFFFFFFF, 0, .always⟩

/-! GLB_TB_STAT (R54 of 02_clockless_timing.md). -/
def GLB_TB_STAT_UNLOCK_CNT : Fld := ⟨0x210, 32, 32, .cnt, 0, 0, 0xFFFFFFFF, 0, .always⟩
def GLB_TB_STAT_UNLOCK : Fld := ⟨0x210, 1, 1, .evt, 0, 0, 1, 0, .always⟩
def GLB_TB_STAT_LOCKED : Fld := ⟨0x210, 0, 1, .sta, 0, 0, 1, 0, .always⟩

/-! GLB_TOD_OFFSET (R54 of 02_clockless_timing.md). -/
def GLB_TOD_OFFSET_OFFSET : Fld := ⟨0x220, 0, 64, .sta, 0, 0, 0xFFFFFFFFFFFFFFFF, 0, .always⟩

/-! GLB_TOD_STEP (R54 of 02_clockless_timing.md). -/
def GLB_TOD_STEP_STEP : Fld := ⟨0x228, 0, 64, .ctl, 0, 0, 0xFFFFFFFFFFFFFFFF, 0, .always⟩

/-! GLB_TOD_CTL (R54 of 02_clockless_timing.md). -/
def GLB_TOD_CTL_APPLY_STEP : Fld := ⟨0x230, 32, 1, .cmd, 0, 0, 1, 0, .always⟩
def GLB_TOD_CTL_SLEW_PPB : Fld := ⟨0x230, 0, 32, .ctl, 0, 0, 0xFFFFFFFF, 0, .always⟩

/-! RNG_RING_BASE_LO (R113 of 03_rings_and_clauses.md). -/
def RNG_RING_BASE_LO_BASE_31_12 : Fld := ⟨0x100000, 12, 20, .ctl, 0, 0, 0xFFFFF, 0, .always⟩

/-! RNG_RING_BASE_HI (R113 of 03_rings_and_clauses.md). -/
def RNG_RING_BASE_HI_BASE_47_32 : Fld := ⟨0x100008, 0, 16, .ctl, 0, 0, 0xFFFF, 0, .always⟩

/-! RNG_RING_CFG (R113 of 03_rings_and_clauses.md). -/
def RNG_RING_CFG_MOD_TIME : Fld := ⟨0x100010, 56, 8, .ctl, 0, 0, 0xFF, 0, .always⟩
def RNG_RING_CFG_MOD_COUNT : Fld := ⟨0x100010, 48, 8, .ctl, 0, 0, 0xFF, 0, .always⟩
def RNG_RING_CFG_IRQ_EN : Fld := ⟨0x100010, 44, 1, .ctl, 1, 0, 1, 0, .always⟩
def RNG_RING_CFG_VECTOR : Fld := ⟨0x100010, 32, 12, .ctl, 0, 0, 0xFFF, 0, .always⟩
def RNG_RING_CFG_CQ_ID : Fld := ⟨0x100010, 16, 14, .ctl, 0, 0, 0x3FFF, 0, .always⟩
def RNG_RING_CFG_BURST : Fld := ⟨0x100010, 12, 4, .ctl, 3, 0, 0xF, 0, .always⟩
def RNG_RING_CFG_PRIO : Fld := ⟨0x100010, 8, 3, .ctl, 3, 0, 7, 0, .always⟩
def RNG_RING_CFG_SIZE : Fld := ⟨0x100010, 4, 4, .ctl, 0, 0, 0xA, 0, .always⟩
def RNG_RING_CFG_TYPE : Fld := ⟨0x100010, 0, 4, .ctl, 0, 0, 2, 0, .always⟩

/-! RNG_RING_DB (R113 of 03_rings_and_clauses.md). -/
def RNG_RING_DB_DB_SLOT : Fld := ⟨0x100018, 0, 17, .ctl, 0, 0, 0x1FFFF, 0, .always⟩

/-! RNG_RING_CMD (R113 of 03_rings_and_clauses.md). -/
def RNG_RING_CMD_POOL : Fld := ⟨0x100020, 30, 1, .ctl, 0, 0, 1, 0, .always⟩
def RNG_RING_CMD_RING_ID : Fld := ⟨0x100020, 16, 14, .ctl, 0, 0, 0x3FFF, 0, .always⟩
def RNG_RING_CMD_RETRY : Fld := ⟨0x100020, 4, 1, .ctl, 0, 0, 1, 0, .always⟩
def RNG_RING_CMD_OP : Fld := ⟨0x100020, 1, 3, .ctl, 0, 0, 5, 0, .always⟩
def RNG_RING_CMD_GO : Fld := ⟨0x100020, 0, 1, .cmd, 0, 0, 1, 0, .always⟩

/-! RNG_RING_RESULT (R113 of 03_rings_and_clauses.md). -/
def RNG_RING_RESULT_GEN : Fld := ⟨0x100028, 48, 16, .sta, 0, 0, 0xFFFF, 0, .always⟩
def RNG_RING_RESULT_POOL : Fld := ⟨0x100028, 46, 1, .sta, 0, 0, 1, 0, .always⟩
def RNG_RING_RESULT_RING_ID : Fld := ⟨0x100028, 32, 14, .sta, 0, 0, 0x3FFF, 0, .always⟩
def RNG_RING_RESULT_STATUS : Fld := ⟨0x100028, 16, 16, .sta, 0, 0, 0xFFFF, 0, .always⟩
def RNG_RING_RESULT_BUSY : Fld := ⟨0x100028, 1, 1, .sta, 0, 0, 1, 0, .always⟩
def RNG_RING_RESULT_DONE : Fld := ⟨0x100028, 0, 1, .evt, 0, 0, 1, 0, .always⟩

/-! RNG_RING_SEL (R113 of 03_rings_and_clauses.md). -/
def RNG_RING_SEL_POOL : Fld := ⟨0x100030, 14, 1, .ctl, 0, 0, 1, 0, .always⟩
def RNG_RING_SEL_RING_ID : Fld := ⟨0x100030, 0, 14, .ctl, 0, 0, 0x3FFF, 0, .always⟩

/-! RNG_RING_STATE (R113 of 03_rings_and_clauses.md). -/
def RNG_RING_STATE_GEN : Fld := ⟨0x100038, 48, 16, .sta, 0, 0, 0xFFFF, 0, .always⟩
def RNG_RING_STATE_HALT_STATUS : Fld := ⟨0x100038, 32, 16, .sta, 0, 0, 0xFFFF, 0, .always⟩
def RNG_RING_STATE_PRIO : Fld := ⟨0x100038, 16, 3, .sta, 0, 0, 7, 0, .always⟩
def RNG_RING_STATE_INFLIGHT : Fld := ⟨0x100038, 3, 13, .sta, 0, 0, 0x1FFF, 0, .always⟩
def RNG_RING_STATE_STATE : Fld := ⟨0x100038, 0, 3, .sta, 0, 0, 7, 0, .always⟩

/-! RNG_RING_INDEX (R113 of 03_rings_and_clauses.md). -/
def RNG_RING_INDEX_HW_IDX : Fld := ⟨0x100040, 32, 32, .ptr, 0, 0, 0xFFFFFFFF, 0, .always⟩
def RNG_RING_INDEX_SW_IDX : Fld := ⟨0x100040, 0, 32, .ptr, 0, 0, 0xFFFFFFFF, 0, .always⟩

/-! RNG_FN_STAT (R113 of 03_rings_and_clauses.md). -/
def RNG_FN_STAT_BAD_DB : Fld := ⟨0x100048, 48, 16, .cnt, 0, 0, 0xFFFF, 0, .always⟩
def RNG_FN_STAT_STALE_DB : Fld := ⟨0x100048, 32, 16, .cnt, 0, 0, 0xFFFF, 0, .always⟩
def RNG_FN_STAT_STALE_CPL : Fld := ⟨0x100048, 16, 16, .cnt, 0, 0, 0xFFFF, 0, .always⟩
def RNG_FN_STAT_SLOTS : Fld := ⟨0x100048, 0, 13, .sta, 0, 0, 0x1FFF, 0, .always⟩

/-! RNG_EVT_CQ (R113 of 03_rings_and_clauses.md). -/
def RNG_EVT_CQ_EN : Fld := ⟨0x100050, 15, 1, .ctl, 0, 0, 1, 0, .always⟩
def RNG_EVT_CQ_CQ_ID : Fld := ⟨0x100050, 0, 14, .ctl, 0, 0, 0x3FFF, 0, .always⟩

/-! RNG_FN_SEL (R113 of 03_rings_and_clauses.md). -/
def RNG_FN_SEL_FUNC : Fld := ⟨0x100100, 0, 8, .ctl, 0, 0, 0xFF, 0, .always⟩

/-! RNG_FN_QUOTA (R113 of 03_rings_and_clauses.md). -/
def RNG_FN_QUOTA_PRIO_MIN : Fld := ⟨0x100108, 48, 3, .ctl, 0, 0, 7, 0, .inst0⟩
def RNG_FN_QUOTA_SLOT_MAX : Fld := ⟨0x100108, 32, 13, .ctl, 0x1000, 0, 0x1000, 0, .inst0⟩
def RNG_FN_QUOTA_CQ_MAX : Fld := ⟨0x100108, 16, 15, .ctl, 0x4000, 0, 0x4000, 0, .inst0⟩
def RNG_FN_QUOTA_SQ_MAX : Fld := ⟨0x100108, 0, 15, .ctl, 0x4000, 0, 0x4000, 0, .inst0⟩

/-! RNG_FN_EVT (R113 of 03_rings_and_clauses.md). -/
def RNG_FN_EVT_EVT_COUNT : Fld := ⟨0x100110, 16, 14, .ctl, 0, 0, 0x2000, 0, .always⟩
def RNG_FN_EVT_EVT_BASE : Fld := ⟨0x100110, 0, 13, .ctl, 0, 0, 0x1FFF, 0, .always⟩

/-! RNG_DB_PAGE_MAP (R113 of 03_rings_and_clauses.md). -/
def RNG_DB_PAGE_MAP_VALID_0 : Fld := ⟨0x100200, 15, 1, .ctl, 1, 0, 1, 8, .always⟩
def RNG_DB_PAGE_MAP_FUNC_0 : Fld := ⟨0x100200, 0, 8, .ctl, 0, 0, 0xFF, 8, .always⟩
def RNG_DB_PAGE_MAP_VALID_1 : Fld := ⟨0x100200, 31, 1, .ctl, 1, 0, 1, 8, .always⟩
def RNG_DB_PAGE_MAP_FUNC_1 : Fld := ⟨0x100200, 16, 8, .ctl, 0, 0, 0xFF, 8, .always⟩
def RNG_DB_PAGE_MAP_VALID_2 : Fld := ⟨0x100200, 47, 1, .ctl, 1, 0, 1, 8, .always⟩
def RNG_DB_PAGE_MAP_FUNC_2 : Fld := ⟨0x100200, 32, 8, .ctl, 0, 0, 0xFF, 8, .always⟩
def RNG_DB_PAGE_MAP_VALID_3 : Fld := ⟨0x100200, 63, 1, .ctl, 1, 0, 1, 8, .always⟩
def RNG_DB_PAGE_MAP_FUNC_3 : Fld := ⟨0x100200, 48, 8, .ctl, 0, 0, 0xFF, 8, .always⟩

/-! RNG_GLB_STAT (R113 of 03_rings_and_clauses.md). -/
def RNG_GLB_STAT_NOSLOT_CNT : Fld := ⟨0x100400, 32, 32, .cnt, 0, 0, 0xFFFFFFFF, 0, .always⟩
def RNG_GLB_STAT_PENDING : Fld := ⟨0x100400, 16, 15, .sta, 0, 0, 0x7FFF, 0, .always⟩
def RNG_GLB_STAT_SLOTS : Fld := ⟨0x100400, 0, 13, .sta, 0, 0, 0x1FFF, 0, .always⟩

/-! CAL_TILE_SEL (R162 of 04_caldera_tiles.md). -/
def CAL_TILE_SEL_TILE : Fld := ⟨0x200000, 0, 7, .ctl, 0, 0, 0x7F, 0, .always⟩

/-! CAL_TILE_STAT (R162 of 04_caldera_tiles.md). -/
def CAL_TILE_STAT_NEXT_GEN : Fld := ⟨0x200008, 48, 8, .sta, 1, 0, 0xFF, 0, .always⟩
def CAL_TILE_STAT_GEN : Fld := ⟨0x200008, 40, 8, .sta, 0, 0, 0xFF, 0, .always⟩
def CAL_TILE_STAT_LEAD : Fld := ⟨0x200008, 32, 7, .sta, 0, 0, 0x7F, 0, .always⟩
def CAL_TILE_STAT_FUNC : Fld := ⟨0x200008, 24, 8, .sta, 0, 0, 0xFF, 0, .always⟩
def CAL_TILE_STAT_FAULT : Fld := ⟨0x200008, 16, 8, .sta, 0, 0, 0xFF, 0, .always⟩
def CAL_TILE_STAT_STATE : Fld := ⟨0x200008, 0, 3, .sta, 0, 0, 7, 0, .always⟩

/-! CAL_TILE_FAULT (R162 of 04_caldera_tiles.md). -/
def CAL_TILE_FAULT_PC : Fld := ⟨0x200010, 32, 16, .sta, 0, 0, 0xFFFF, 0, .always⟩
def CAL_TILE_FAULT_UNIT : Fld := ⟨0x200010, 30, 2, .sta, 0, 0, 3, 0, .always⟩
def CAL_TILE_FAULT_TAG : Fld := ⟨0x200010, 24, 6, .sta, 0, 0, 0x3F, 0, .always⟩
def CAL_TILE_FAULT_CODE : Fld := ⟨0x200010, 16, 8, .sta, 0, 0, 0xFF, 0, .always⟩

/-! CAL_TILE_CNT (R162 of 04_caldera_tiles.md). -/
def CAL_TILE_CNT_STALE_IN : Fld := ⟨0x200018, 48, 16, .cnt, 0, 0, 0xFFFF, 0, .always⟩
def CAL_TILE_CNT_STALE_OUT : Fld := ⟨0x200018, 32, 16, .cnt, 0, 0, 0xFFFF, 0, .always⟩
def CAL_TILE_CNT_SRAM_CE : Fld := ⟨0x200018, 16, 16, .cnt, 0, 0, 0xFFFF, 0, .always⟩
def CAL_TILE_CNT_CANCELLED : Fld := ⟨0x200018, 0, 16, .cnt, 0, 0, 0xFFFF, 0, .always⟩

/-! CAL_FN_SEL (R162 of 04_caldera_tiles.md). -/
def CAL_FN_SEL_FUNC : Fld := ⟨0x200100, 0, 8, .ctl, 0, 0, 0xFF, 0, .always⟩

/-! CAL_FN_TILES_LO (R162 of 04_caldera_tiles.md). -/
def CAL_FN_TILES_LO_TILES : Fld := ⟨0x200108, 0, 64, .ctl, 0xFFFFFFFFFFFFFFFF, 0, 0xFFFFFFFFFFFFFFFF, 0, .inst0⟩

/-! CAL_FN_TILES_HI (R162 of 04_caldera_tiles.md). -/
def CAL_FN_TILES_HI_TILES : Fld := ⟨0x200110, 0, 64, .ctl, 0xFFFFFFFFFFFFFFFF, 0, 0xFFFFFFFFFFFFFFFF, 0, .inst0⟩

/-! CAL_GLB_STAT (R162 of 04_caldera_tiles.md). -/
def CAL_GLB_STAT_HELD : Fld := ⟨0x200200, 8, 8, .sta, 0, 0, 0xFF, 0, .always⟩
def CAL_GLB_STAT_ON : Fld := ⟨0x200200, 0, 8, .sta, 0, 0, 0xFF, 0, .always⟩

/-! GEY_FN_STAT (R307 of 08_geyser.md). -/
def GEY_FN_STAT_FULL_CNT : Fld := ⟨0x300000, 48, 16, .cnt, 0, 0, 0xFFFF, 0, .always⟩
def GEY_FN_STAT_INVALID_CNT : Fld := ⟨0x300000, 32, 16, .cnt, 0, 0, 0xFFFF, 0, .always⟩
def GEY_FN_STAT_OPS : Fld := ⟨0x300000, 0, 9, .sta, 0, 0, 0x1FF, 0, .always⟩

/-! GEY_GLB_STAT (R307 of 08_geyser.md). -/
def GEY_GLB_STAT_OPWAIT_CNT : Fld := ⟨0x300100, 32, 32, .cnt, 0, 0, 0xFFFFFFFF, 0, .always⟩
def GEY_GLB_STAT_ON : Fld := ⟨0x300100, 16, 2, .sta, 0, 0, 3, 0, .always⟩
def GEY_GLB_STAT_OPS : Fld := ⟨0x300100, 0, 9, .sta, 0, 0, 0x1FF, 0, .always⟩

/-! GEY_SLICE_SEL (R307 of 08_geyser.md). -/
def GEY_SLICE_SEL_SLICE : Fld := ⟨0x300108, 0, 4, .ctl, 0, 0, 0xC, 0, .always⟩

/-! GEY_SLICE_STAT (R307 of 08_geyser.md). -/
def GEY_SLICE_STAT_ELEM_CNT : Fld := ⟨0x300110, 32, 32, .cnt, 0, 0, 0xFFFFFFFF, 0, .always⟩
def GEY_SLICE_STAT_LOCKWAIT_CNT : Fld := ⟨0x300110, 16, 16, .cnt, 0, 0, 0xFFFF, 0, .always⟩
def GEY_SLICE_STAT_INFLIGHT : Fld := ⟨0x300110, 0, 12, .sta, 0, 0, 0xFFF, 0, .always⟩

/-! MEM_FN_FENCE (R339 of 09_memory.md). -/
def MEM_FN_FENCE_EPOCH : Fld := ⟨0x400000, 32, 16, .sta, 0, 0, 0xFFFF, 0, .always⟩
def MEM_FN_FENCE_PENDING : Fld := ⟨0x400000, 0, 1, .sta, 0, 0, 1, 0, .always⟩

/-! MEM_FN_STAT (R339 of 09_memory.md). -/
def MEM_FN_STAT_WINDOW_CNT : Fld := ⟨0x400008, 48, 16, .cnt, 0, 0, 0xFFFF, 0, .always⟩
def MEM_FN_STAT_WALK_CNT : Fld := ⟨0x400008, 32, 16, .cnt, 0, 0, 0xFFFF, 0, .always⟩
def MEM_FN_STAT_DEVREG_CNT : Fld := ⟨0x400008, 16, 16, .cnt, 0, 0, 0xFFFF, 0, .always⟩

/-! MEM_FN_SEL (R339 of 09_memory.md). -/
def MEM_FN_SEL_FUNC : Fld := ⟨0x400100, 0, 8, .ctl, 0, 0, 0xFF, 0, .always⟩

/-! MEM_XLT_BASE (R339 of 09_memory.md). -/
def MEM_XLT_BASE_L1 : Fld := ⟨0x400108, 20, 44, .ctl, 0, 0, 0xFFFFFFFFFFF, 0, .always⟩
def MEM_XLT_BASE_EN : Fld := ⟨0x400108, 0, 1, .ctl, 0, 0, 1, 0, .always⟩

/-! MEM_XLT_INV (R339 of 09_memory.md). -/
def MEM_XLT_INV_PAGES : Fld := ⟨0x400110, 32, 32, .ctl, 0, 0, 0xFFFFFFFF, 0, .always⟩
def MEM_XLT_INV_GO : Fld := ⟨0x400110, 0, 1, .cmd, 0, 0, 1, 0, .always⟩

/-! MEM_XLT_INV_ADDR (R339 of 09_memory.md). -/
def MEM_XLT_INV_ADDR_PAGE : Fld := ⟨0x400118, 12, 35, .ctl, 0, 0, 0x7FFFFFFFF, 0, .always⟩

/-! MEM_SEL_FENCE (R339 of 09_memory.md). -/
def MEM_SEL_FENCE_EPOCH : Fld := ⟨0x400120, 32, 16, .sta, 0, 0, 0xFFFF, 0, .always⟩
def MEM_SEL_FENCE_PENDING : Fld := ⟨0x400120, 0, 1, .sta, 0, 0, 1, 0, .always⟩

/-! MEM_WIN_BASE (R339 of 09_memory.md). -/
def MEM_WIN_BASE_BASE : Fld := ⟨0x400200, 12, 35, .ctl, 0, 0, 0x7FFFFFFFF, 16, .both0⟩
def MEM_WIN_BASE_WR : Fld := ⟨0x400200, 1, 1, .ctl, 1, 0, 1, 16, .both0⟩
def MEM_WIN_BASE_RD : Fld := ⟨0x400200, 0, 1, .ctl, 1, 0, 1, 16, .both0⟩

/-! MEM_WIN_LIMIT (R339 of 09_memory.md). -/
def MEM_WIN_LIMIT_LIMIT : Fld := ⟨0x400208, 12, 35, .ctl, 0x7FFFFFFFF, 0, 0x7FFFFFFFF, 16, .both0⟩

/-! MEM_DEVREG_BASE (R339 of 09_memory.md). -/
def MEM_DEVREG_BASE_BASE : Fld := ⟨0x400400, 12, 52, .ctl, 0, 0, 0xFFFFFFFFFFFFF, 16, .always⟩
def MEM_DEVREG_BASE_VALID : Fld := ⟨0x400400, 0, 1, .ctl, 0, 0, 1, 16, .always⟩

/-! MEM_DEVREG_LIMIT (R339 of 09_memory.md). -/
def MEM_DEVREG_LIMIT_LIMIT : Fld := ⟨0x400408, 12, 52, .ctl, 0, 0, 0xFFFFFFFFFFFFF, 16, .always⟩

/-! MEM_BAND_MODE (R339 of 09_memory.md). -/
def MEM_BAND_MODE_MODE_0 : Fld := ⟨0x400600, 0, 2, .ctl, 0, 0, 2, 8, .always⟩
def MEM_BAND_MODE_MODE_1 : Fld := ⟨0x400600, 2, 2, .ctl, 0, 0, 2, 8, .always⟩
def MEM_BAND_MODE_MODE_2 : Fld := ⟨0x400600, 4, 2, .ctl, 0, 0, 2, 8, .always⟩
def MEM_BAND_MODE_MODE_3 : Fld := ⟨0x400600, 6, 2, .ctl, 0, 0, 2, 8, .always⟩
def MEM_BAND_MODE_MODE_4 : Fld := ⟨0x400600, 8, 2, .ctl, 0, 0, 2, 8, .always⟩
def MEM_BAND_MODE_MODE_5 : Fld := ⟨0x400600, 10, 2, .ctl, 0, 0, 2, 8, .always⟩
def MEM_BAND_MODE_MODE_6 : Fld := ⟨0x400600, 12, 2, .ctl, 0, 0, 2, 8, .always⟩
def MEM_BAND_MODE_MODE_7 : Fld := ⟨0x400600, 14, 2, .ctl, 0, 0, 2, 8, .always⟩
def MEM_BAND_MODE_MODE_8 : Fld := ⟨0x400600, 16, 2, .ctl, 0, 0, 2, 8, .always⟩
def MEM_BAND_MODE_MODE_9 : Fld := ⟨0x400600, 18, 2, .ctl, 0, 0, 2, 8, .always⟩
def MEM_BAND_MODE_MODE_10 : Fld := ⟨0x400600, 20, 2, .ctl, 0, 0, 2, 8, .always⟩
def MEM_BAND_MODE_MODE_11 : Fld := ⟨0x400600, 22, 2, .ctl, 0, 0, 2, 8, .always⟩
def MEM_BAND_MODE_MODE_12 : Fld := ⟨0x400600, 24, 2, .ctl, 0, 0, 2, 8, .always⟩
def MEM_BAND_MODE_MODE_13 : Fld := ⟨0x400600, 26, 2, .ctl, 0, 0, 2, 8, .always⟩
def MEM_BAND_MODE_MODE_14 : Fld := ⟨0x400600, 28, 2, .ctl, 0, 0, 2, 8, .always⟩
def MEM_BAND_MODE_MODE_15 : Fld := ⟨0x400600, 30, 2, .ctl, 0, 0, 2, 8, .always⟩
def MEM_BAND_MODE_MODE_16 : Fld := ⟨0x400600, 32, 2, .ctl, 0, 0, 2, 8, .always⟩
def MEM_BAND_MODE_MODE_17 : Fld := ⟨0x400600, 34, 2, .ctl, 0, 0, 2, 8, .always⟩
def MEM_BAND_MODE_MODE_18 : Fld := ⟨0x400600, 36, 2, .ctl, 0, 0, 2, 8, .always⟩
def MEM_BAND_MODE_MODE_19 : Fld := ⟨0x400600, 38, 2, .ctl, 0, 0, 2, 8, .always⟩
def MEM_BAND_MODE_MODE_20 : Fld := ⟨0x400600, 40, 2, .ctl, 0, 0, 2, 8, .always⟩
def MEM_BAND_MODE_MODE_21 : Fld := ⟨0x400600, 42, 2, .ctl, 0, 0, 2, 8, .always⟩
def MEM_BAND_MODE_MODE_22 : Fld := ⟨0x400600, 44, 2, .ctl, 0, 0, 2, 8, .always⟩
def MEM_BAND_MODE_MODE_23 : Fld := ⟨0x400600, 46, 2, .ctl, 0, 0, 2, 8, .always⟩
def MEM_BAND_MODE_MODE_24 : Fld := ⟨0x400600, 48, 2, .ctl, 0, 0, 2, 8, .always⟩
def MEM_BAND_MODE_MODE_25 : Fld := ⟨0x400600, 50, 2, .ctl, 0, 0, 2, 8, .always⟩
def MEM_BAND_MODE_MODE_26 : Fld := ⟨0x400600, 52, 2, .ctl, 0, 0, 2, 8, .always⟩
def MEM_BAND_MODE_MODE_27 : Fld := ⟨0x400600, 54, 2, .ctl, 0, 0, 2, 8, .always⟩
def MEM_BAND_MODE_MODE_28 : Fld := ⟨0x400600, 56, 2, .ctl, 0, 0, 2, 8, .always⟩
def MEM_BAND_MODE_MODE_29 : Fld := ⟨0x400600, 58, 2, .ctl, 0, 0, 2, 8, .always⟩
def MEM_BAND_MODE_MODE_30 : Fld := ⟨0x400600, 60, 2, .ctl, 0, 0, 2, 8, .always⟩
def MEM_BAND_MODE_MODE_31 : Fld := ⟨0x400600, 62, 2, .ctl, 0, 0, 2, 8, .always⟩

/-! MEM_CAP_STAT (R339 of 09_memory.md). -/
def MEM_CAP_STAT_INSTALLED_GIB : Fld := ⟨0x400610, 32, 16, .sta, 0, 0, 0xFFFF, 0, .always⟩
def MEM_CAP_STAT_PER_CH_GIB : Fld := ⟨0x400610, 16, 8, .sta, 0, 0, 0xFF, 0, .always⟩
def MEM_CAP_STAT_POPULATED : Fld := ⟨0x400610, 0, 8, .sta, 0, 0, 0xFF, 0, .always⟩

/-! MEM_BUDDY_CTL (R339 of 09_memory.md). -/
def MEM_BUDDY_CTL_APPLY : Fld := ⟨0x400620, 63, 1, .cmd, 0, 0, 1, 0, .always⟩
def MEM_BUDDY_CTL_SIZE_GIB : Fld := ⟨0x400620, 0, 11, .ctl, 0, 0, 0x400, 0, .always⟩

/-! MEM_BUDDY_STAT (R339 of 09_memory.md). -/
def MEM_BUDDY_STAT_WAITING : Fld := ⟨0x400628, 59, 1, .sta, 0, 0, 1, 0, .always⟩
def MEM_BUDDY_STAT_APPLIED_GIB : Fld := ⟨0x400628, 48, 11, .sta, 0, 0, 0x7FF, 0, .always⟩
def MEM_BUDDY_STAT_BASE : Fld := ⟨0x400628, 0, 48, .sta, 0, 0, 0xFFFFFFFFFFFF, 0, .always⟩

/-! MEM_SCRUB_CTL (R339 of 09_memory.md). -/
def MEM_SCRUB_CTL_EN : Fld := ⟨0x400630, 8, 1, .ctl, 1, 0, 1, 0, .always⟩
def MEM_SCRUB_CTL_PERIOD_H : Fld := ⟨0x400630, 0, 8, .ctl, 0x18, 1, 0xFF, 0, .always⟩

/-! MEM_TRAIN_CTL (R339 of 09_memory.md). -/
def MEM_TRAIN_CTL_CRC_LIMIT : Fld := ⟨0x400638, 16, 8, .ctl, 0x10, 0, 0xFF, 0, .always⟩
def MEM_TRAIN_CTL_DRIFT_C : Fld := ⟨0x400638, 8, 8, .ctl, 0xA, 0, 0xFF, 0, .always⟩
def MEM_TRAIN_CTL_INTERVAL_H : Fld := ⟨0x400638, 0, 8, .ctl, 4, 0, 0xFF, 0, .always⟩

/-! MEM_UNIT_SEL (R339 of 09_memory.md). -/
def MEM_UNIT_SEL_UNIT : Fld := ⟨0x400640, 0, 5, .ctl, 0, 0, 0x14, 0, .always⟩

/-! MEM_ECC_STAT (R339 of 09_memory.md). -/
def MEM_ECC_STAT_CE_CNT : Fld := ⟨0x400648, 32, 32, .cnt, 0, 0, 0xFFFFFFFF, 0, .always⟩
def MEM_ECC_STAT_UE_CNT : Fld := ⟨0x400648, 16, 16, .cnt, 0, 0, 0xFFFF, 0, .always⟩
def MEM_ECC_STAT_POISONED : Fld := ⟨0x400648, 0, 16, .sta, 0, 0, 0xFFFF, 0, .always⟩

/-! MEM_ECC_LOG (R339 of 09_memory.md). -/
def MEM_ECC_LOG_VALID : Fld := ⟨0x400650, 63, 1, .evt, 0, 0, 1, 0, .always⟩
def MEM_ECC_LOG_UE : Fld := ⟨0x400650, 62, 1, .sta, 0, 0, 1, 0, .always⟩
def MEM_ECC_LOG_ADDR : Fld := ⟨0x400650, 0, 48, .sta, 0, 0, 0xFFFFFFFFFFFF, 0, .always⟩

/-! MEM_MAINT_UNIT (R339 of 09_memory.md). -/
def MEM_MAINT_UNIT_TRAIN_CNT : Fld := ⟨0x400658, 32, 16, .cnt, 0, 0, 0xFFFF, 0, .always⟩
def MEM_MAINT_UNIT_HOT : Fld := ⟨0x400658, 8, 1, .sta, 0, 0, 1, 0, .always⟩
def MEM_MAINT_UNIT_REFRESH : Fld := ⟨0x400658, 4, 2, .sta, 0, 0, 3, 0, .always⟩
def MEM_MAINT_UNIT_RETRAIN : Fld := ⟨0x400658, 2, 2, .sta, 0, 0, 3, 0, .always⟩
def MEM_MAINT_UNIT_SCRUB : Fld := ⟨0x400658, 0, 2, .sta, 0, 0, 3, 0, .always⟩

/-! MEM_MAINT_DEV (R339 of 09_memory.md). -/
def MEM_MAINT_DEV_FUSE_READ : Fld := ⟨0x400660, 8, 2, .sta, 0, 0, 3, 0, .always⟩
def MEM_MAINT_DEV_TENANCY : Fld := ⟨0x400660, 6, 2, .sta, 0, 0, 3, 0, .always⟩
def MEM_MAINT_DEV_KEY_ROTATION : Fld := ⟨0x400660, 4, 2, .sta, 0, 0, 3, 0, .always⟩
def MEM_MAINT_DEV_CHECKPOINT : Fld := ⟨0x400660, 2, 2, .sta, 0, 0, 3, 0, .always⟩
def MEM_MAINT_DEV_FW_UPDATE : Fld := ⟨0x400660, 0, 2, .sta, 0, 0, 3, 0, .always⟩

/-! MEM_MAINT_CNT (R339 of 09_memory.md). -/
def MEM_MAINT_CNT_PENDING_CNT : Fld := ⟨0x400668, 32, 32, .cnt, 0, 0, 0xFFFFFFFF, 0, .always⟩

/-! HEP_FN_STAT (R375 of 10_host_endpoint.md). -/
def HEP_FN_STAT_FGEN : Fld := ⟨0x500000, 48, 16, .sta, 1, 0, 0xFFFF, 0, .always⟩
def HEP_FN_STAT_CPL_TO_CNT : Fld := ⟨0x500000, 32, 16, .cnt, 0, 0, 0xFFFF, 0, .always⟩
def HEP_FN_STAT_UNEXP_CPL : Fld := ⟨0x500000, 16, 16, .cnt, 0, 0, 0xFFFF, 0, .always⟩
def HEP_FN_STAT_NOVEC_CNT : Fld := ⟨0x500000, 4, 12, .cnt, 0, 0, 0xFFF, 0, .always⟩
def HEP_FN_STAT_DRAINING : Fld := ⟨0x500000, 3, 1, .sta, 0, 0, 1, 0, .always⟩
def HEP_FN_STAT_DSTATE : Fld := ⟨0x500000, 0, 2, .sta, 0, 0, 3, 0, .always⟩

/-! HEP_CPL_TO (R375 of 10_host_endpoint.md). -/
def HEP_CPL_TO_EXACT : Fld := ⟨0x500008, 32, 1, .ctl, 0, 0, 1, 0, .always⟩
def HEP_CPL_TO_VALUE_US : Fld := ⟨0x500008, 0, 32, .ctl, 0, 0, 0xFFFFFFFF, 0, .always⟩

/-! HEP_FN_SEL (R375 of 10_host_endpoint.md). -/
def HEP_FN_SEL_FUNC : Fld := ⟨0x500100, 0, 8, .ctl, 0, 0, 0xFF, 0, .always⟩

/-! HEP_FN_CTL (R375 of 10_host_endpoint.md). -/
def HEP_FN_CTL_RESET : Fld := ⟨0x500108, 16, 1, .cmd, 0, 0, 1, 0, .inst0⟩
def HEP_FN_CTL_NETWORK : Fld := ⟨0x500108, 2, 1, .ctl, 1, 0, 1, 0, .inst0⟩
def HEP_FN_CTL_STORAGE : Fld := ⟨0x500108, 1, 1, .ctl, 1, 0, 1, 0, .inst0⟩
def HEP_FN_CTL_COMPUTE : Fld := ⟨0x500108, 0, 1, .ctl, 1, 0, 1, 0, .inst0⟩

/-! HEP_DEV_CTL (R375 of 10_host_endpoint.md). -/
def HEP_DEV_CTL_CLASS_MODE : Fld := ⟨0x500110, 0, 1, .ctl, 0, 0, 1, 0, .always⟩

/-! HEP_DEV_STAT (R375 of 10_host_endpoint.md). -/
def HEP_DEV_STAT_DDT_READY : Fld := ⟨0x500118, 0, 1, .sta, 0, 0, 1, 0, .always⟩

/-! HEP_LINK_STAT (R375 of 10_host_endpoint.md). -/
def HEP_LINK_STAT_L0P_WIDTH : Fld := ⟨0x500200, 24, 8, .sta, 0, 0, 0xFF, 0, .always⟩
def HEP_LINK_STAT_WIDTH : Fld := ⟨0x500200, 16, 8, .sta, 0, 0, 0xFF, 0, .always⟩
def HEP_LINK_STAT_RATE : Fld := ⟨0x500200, 8, 8, .sta, 0, 0, 0xFF, 0, .always⟩
def HEP_LINK_STAT_STATE : Fld := ⟨0x500200, 1, 3, .sta, 0, 0, 7, 0, .always⟩
def HEP_LINK_STAT_UP : Fld := ⟨0x500200, 0, 1, .sta, 0, 0, 1, 0, .always⟩

/-! HEP_LPM_CTL (R375 of 10_host_endpoint.md). -/
def HEP_LPM_CTL_L1_IDLE_US : Fld := ⟨0x500208, 32, 16, .ctl, 0x64, 0, 0xFFFF, 0, .always⟩
def HEP_LPM_CTL_L0P_DOWN_PCT : Fld := ⟨0x500208, 24, 8, .ctl, 0x14, 0, 0xFF, 0, .always⟩
def HEP_LPM_CTL_L0P_UP_PCT : Fld := ⟨0x500208, 16, 8, .ctl, 0x3C, 0, 0xFF, 0, .always⟩
def HEP_LPM_CTL_L0P_EN : Fld := ⟨0x500208, 1, 1, .ctl, 1, 0, 1, 0, .always⟩

/-! HEP_LINK_CNT (R375 of 10_host_endpoint.md). -/
def HEP_LINK_CNT_RECOVERY_CNT : Fld := ⟨0x500210, 48, 16, .cnt, 0, 0, 0xFFFF, 0, .always⟩
def HEP_LINK_CNT_REPLAY_CNT : Fld := ⟨0x500210, 32, 16, .cnt, 0, 0, 0xFFFF, 0, .always⟩
def HEP_LINK_CNT_CORR_CNT : Fld := ⟨0x500210, 16, 16, .cnt, 0, 0, 0xFFFF, 0, .always⟩
def HEP_LINK_CNT_UNCORR_CNT : Fld := ⟨0x500210, 0, 16, .cnt, 0, 0, 0xFFFF, 0, .always⟩

/-! HEP_DP_SEL (R375 of 10_host_endpoint.md). -/
def HEP_DP_SEL_PORT : Fld := ⟨0x500300, 0, 2, .ctl, 0, 0, 3, 0, .always⟩

/-! HEP_DP_CTL (R375 of 10_host_endpoint.md). -/
def HEP_DP_CTL_MAX_RATE : Fld := ⟨0x500308, 4, 4, .ctl, 5, 1, 5, 0, .always⟩
def HEP_DP_CTL_PWR : Fld := ⟨0x500308, 2, 1, .ctl, 1, 0, 1, 0, .always⟩
def HEP_DP_CTL_EN : Fld := ⟨0x500308, 0, 1, .ctl, 1, 0, 1, 0, .always⟩

/-! HEP_DP_STAT (R375 of 10_host_endpoint.md). -/
def HEP_DP_STAT_SURPRISE_CNT : Fld := ⟨0x500310, 48, 16, .cnt, 0, 0, 0xFFFF, 0, .always⟩
def HEP_DP_STAT_ERR_CNT : Fld := ⟨0x500310, 32, 16, .cnt, 0, 0, 0xFFFF, 0, .always⟩
def HEP_DP_STAT_WIDTH : Fld := ⟨0x500310, 16, 8, .sta, 0, 0, 0xFF, 0, .always⟩
def HEP_DP_STAT_RATE : Fld := ⟨0x500310, 8, 8, .sta, 0, 0, 0xFF, 0, .always⟩
def HEP_DP_STAT_PRESENT : Fld := ⟨0x500310, 2, 1, .sta, 0, 0, 1, 0, .always⟩
def HEP_DP_STAT_CHANGE : Fld := ⟨0x500310, 1, 1, .evt, 0, 0, 1, 0, .always⟩
def HEP_DP_STAT_UP : Fld := ⟨0x500310, 0, 1, .sta, 0, 0, 1, 0, .always⟩

/-! HEP_INTX_CAUSE (R375 of 10_host_endpoint.md). -/
def HEP_INTX_CAUSE_VEC : Fld := ⟨0x500400, 0, 64, .evt, 0, 0, 0xFFFFFFFFFFFFFFFF, 8, .always⟩

/-! STO_FN_STAT (R408 of 11_storage.md). -/
def STO_FN_STAT_PATH_LOST_CNT : Fld := ⟨0x600000, 48, 16, .cnt, 0, 0, 0xFFFF, 0, .always⟩
def STO_FN_STAT_ABORT_CAUGHT : Fld := ⟨0x600000, 32, 16, .cnt, 0, 0, 0xFFFF, 0, .always⟩
def STO_FN_STAT_ABORT_MISSED : Fld := ⟨0x600000, 16, 16, .cnt, 0, 0, 0xFFFF, 0, .always⟩
def STO_FN_STAT_PS : Fld := ⟨0x600000, 0, 2, .sta, 0, 0, 3, 0, .always⟩

/-! STO_NS_CFG (R408 of 11_storage.md). -/
def STO_NS_CFG_KEY_SLOT : Fld := ⟨0x600100, 44, 10, .ctl, 0, 0, 0x3FF, 0, .always⟩
def STO_NS_CFG_ENC : Fld := ⟨0x600100, 43, 1, .ctl, 0, 0, 1, 0, .always⟩
def STO_NS_CFG_CACHE : Fld := ⟨0x600100, 42, 1, .ctl, 0, 0, 1, 0, .always⟩
def STO_NS_CFG_PI : Fld := ⟨0x600100, 40, 2, .ctl, 0, 0, 2, 0, .always⟩
def STO_NS_CFG_LBAF : Fld := ⟨0x600100, 38, 2, .ctl, 0, 0, 1, 0, .always⟩
def STO_NS_CFG_BACKING : Fld := ⟨0x600100, 36, 2, .ctl, 0, 0, 2, 0, .always⟩
def STO_NS_CFG_EXTENTS : Fld := ⟨0x600100, 32, 4, .ctl, 1, 1, 4, 0, .always⟩
def STO_NS_CFG_STRIPE : Fld := ⟨0x600100, 16, 16, .ctl, 1, 0, 0xFFFF, 0, .always⟩

/-! STO_NS_EXT (R408 of 11_storage.md). -/
def STO_NS_EXT_DRIVE : Fld := ⟨0x600108, 62, 2, .ctl, 0, 0, 3, 8, .always⟩
def STO_NS_EXT_MID : Fld := ⟨0x600108, 48, 14, .ctl, 0, 0, 0x3FFF, 8, .always⟩
def STO_NS_EXT_START : Fld := ⟨0x600108, 0, 48, .ctl, 0, 0, 0xFFFFFFFFFFFF, 8, .always⟩

/-! STO_NS_SIZE (R408 of 11_storage.md). -/
def STO_NS_SIZE_NSZE : Fld := ⟨0x600128, 0, 48, .ctl, 0, 0, 0xFFFFFFFFFFFF, 0, .always⟩

/-! STO_NS_CMD (R408 of 11_storage.md). -/
def STO_NS_CMD_NS : Fld := ⟨0x600130, 16, 10, .ctl, 0, 0, 0x3FF, 0, .always⟩
def STO_NS_CMD_FUNC : Fld := ⟨0x600130, 8, 8, .ctl, 0, 0, 0xFF, 0, .always⟩
def STO_NS_CMD_OP : Fld := ⟨0x600130, 1, 3, .ctl, 0, 0, 3, 0, .always⟩
def STO_NS_CMD_GO : Fld := ⟨0x600130, 0, 1, .cmd, 0, 0, 1, 0, .always⟩

/-! STO_NS_RESULT (R408 of 11_storage.md). -/
def STO_NS_RESULT_RESULT : Fld := ⟨0x600138, 4, 4, .sta, 0, 0, 0xF, 0, .always⟩
def STO_NS_RESULT_BUSY : Fld := ⟨0x600138, 1, 1, .sta, 0, 0, 1, 0, .always⟩
def STO_NS_RESULT_DONE : Fld := ⟨0x600138, 0, 1, .evt, 0, 0, 1, 0, .always⟩

/-! STO_CACHE_CTL (R408 of 11_storage.md). -/
def STO_CACHE_CTL_BASE_GIB : Fld := ⟨0x600200, 32, 16, .ctl, 0, 0, 0xFFFF, 0, .always⟩
def STO_CACHE_CTL_SIZE_GIB : Fld := ⟨0x600200, 16, 16, .ctl, 0, 0, 0xFFFF, 0, .always⟩
def STO_CACHE_CTL_ON : Fld := ⟨0x600200, 1, 1, .sta, 0, 0, 1, 0, .always⟩
def STO_CACHE_CTL_EN : Fld := ⟨0x600200, 0, 1, .ctl, 0, 0, 1, 0, .always⟩

/-! STO_LOCK_STAT (R408 of 11_storage.md). -/
def STO_LOCK_STAT_WAIT_CNT : Fld := ⟨0x600208, 32, 32, .cnt, 0, 0, 0xFFFFFFFF, 0, .always⟩
def STO_LOCK_STAT_USED : Fld := ⟨0x600208, 0, 11, .sta, 0, 0, 0x7FF, 0, .always⟩

/-! STO_IRT_STAT (R408 of 11_storage.md). -/
def STO_IRT_STAT_FULL : Fld := ⟨0x600210, 15, 1, .evt, 0, 0, 1, 0, .always⟩
def STO_IRT_STAT_USED : Fld := ⟨0x600210, 0, 9, .sta, 0, 0, 0x1FF, 0, .always⟩

/-! STO_DEV_CTL (R408 of 11_storage.md). -/
def STO_DEV_CTL_CRC_UNITS : Fld := ⟨0x600220, 48, 16, .ctl, 0, 0, 0xFFFF, 0, .always⟩
def STO_DEV_CTL_BACKING_MS : Fld := ⟨0x600220, 0, 32, .ctl, 0x7530, 0x64, 0x927C0, 0, .always⟩

/-! NET_FN_STAT (R441 of 12_network_and_parser.md). -/
def NET_FN_STAT_RX_CNT : Fld := ⟨0x700000, 32, 32, .cnt, 0, 0, 0xFFFFFFFF, 0, .always⟩
def NET_FN_STAT_NOQ_CNT : Fld := ⟨0x700000, 16, 16, .cnt, 0, 0, 0xFFFF, 0, .always⟩
def NET_FN_STAT_DROP_CNT : Fld := ⟨0x700000, 0, 16, .cnt, 0, 0, 0xFFFF, 0, .always⟩

/-! NET_PORT_MODE (R441 of 12_network_and_parser.md). -/
def NET_PORT_MODE_LANE_EN : Fld := ⟨0x700100, 8, 8, .ctl, 0xFF, 0, 0xFF, 0, .always⟩
def NET_PORT_MODE_QUAD1 : Fld := ⟨0x700100, 2, 2, .ctl, 0, 0, 2, 0, .always⟩
def NET_PORT_MODE_QUAD0 : Fld := ⟨0x700100, 0, 2, .ctl, 0, 0, 2, 0, .always⟩

/-! NET_PORT_SEL (R441 of 12_network_and_parser.md). -/
def NET_PORT_SEL_PORT : Fld := ⟨0x700108, 0, 3, .ctl, 0, 0, 7, 0, .always⟩

/-! NET_PORT_CTL (R441 of 12_network_and_parser.md). -/
def NET_PORT_CTL_MAX_FRAME : Fld := ⟨0x700110, 32, 16, .ctl, 0x2580, 0x5EE, 0x2580, 0, .always⟩
def NET_PORT_CTL_XOFF_KIB : Fld := ⟨0x700110, 16, 16, .ctl, 0x100, 0, 0x1000, 0, .always⟩
def NET_PORT_CTL_PFC_EN : Fld := ⟨0x700110, 8, 8, .ctl, 0, 0, 0xFF, 0, .always⟩

/-! NET_PORT_STAT (R441 of 12_network_and_parser.md). -/
def NET_PORT_STAT_RATE : Fld := ⟨0x700118, 8, 8, .sta, 0, 0, 0xFF, 0, .always⟩
def NET_PORT_STAT_CHANGE : Fld := ⟨0x700118, 1, 1, .evt, 0, 0, 1, 0, .always⟩
def NET_PORT_STAT_UP : Fld := ⟨0x700118, 0, 1, .sta, 0, 0, 1, 0, .always⟩

/-! NET_PORT_CNT (R441 of 12_network_and_parser.md). -/
def NET_PORT_CNT_FCS_CNT : Fld := ⟨0x700120, 48, 16, .cnt, 0, 0, 0xFFFF, 0, .always⟩
def NET_PORT_CNT_BUF_DROP_CNT : Fld := ⟨0x700120, 32, 16, .cnt, 0, 0, 0xFFFF, 0, .always⟩
def NET_PORT_CNT_NOMATCH_CNT : Fld := ⟨0x700120, 16, 16, .cnt, 0, 0, 0xFFFF, 0, .always⟩
def NET_PORT_CNT_PARSE_LIMIT_CNT : Fld := ⟨0x700120, 8, 8, .cnt, 0, 0, 0xFF, 0, .always⟩
def NET_PORT_CNT_SIZE_CNT : Fld := ⟨0x700120, 0, 8, .cnt, 0, 0, 0xFF, 0, .always⟩

/-! NET_LEX_CTL (R441 of 12_network_and_parser.md). -/
def NET_LEX_CTL_WINDOW : Fld := ⟨0x700128, 0, 12, .ctl, 0x200, 0x18, 0x800, 0, .always⟩

/-! NET_TBL_ADDR (R441 of 12_network_and_parser.md). -/
def NET_TBL_ADDR_ADDR : Fld := ⟨0x700200, 6, 42, .ctl, 0, 0, 0x3FFFFFFFFFF, 0, .always⟩

/-! NET_TBL_CMD (R441 of 12_network_and_parser.md). -/
def NET_TBL_CMD_COUNT : Fld := ⟨0x700208, 32, 16, .ctl, 0, 0, 0xFFFF, 0, .always⟩
def NET_TBL_CMD_FIRST : Fld := ⟨0x700208, 16, 16, .ctl, 0, 0, 0xFFFF, 0, .always⟩
def NET_TBL_CMD_KIND : Fld := ⟨0x700208, 3, 2, .ctl, 0, 0, 3, 0, .always⟩
def NET_TBL_CMD_OP : Fld := ⟨0x700208, 1, 2, .ctl, 0, 0, 1, 0, .always⟩
def NET_TBL_CMD_GO : Fld := ⟨0x700208, 0, 1, .cmd, 0, 0, 1, 0, .always⟩

/-! NET_TBL_RESULT (R441 of 12_network_and_parser.md). -/
def NET_TBL_RESULT_RESULT : Fld := ⟨0x700210, 4, 4, .sta, 0, 0, 0xF, 0, .always⟩
def NET_TBL_RESULT_ACTIVE : Fld := ⟨0x700210, 3, 1, .sta, 0, 0, 1, 0, .always⟩
def NET_TBL_RESULT_BUSY : Fld := ⟨0x700210, 1, 1, .sta, 0, 0, 1, 0, .always⟩
def NET_TBL_RESULT_DONE : Fld := ⟨0x700210, 0, 1, .evt, 0, 0, 1, 0, .always⟩

/-! NET_FLOW_MEM (R441 of 12_network_and_parser.md). -/
def NET_FLOW_MEM_LOG2 : Fld := ⟨0x700300, 56, 8, .ctl, 0, 0, 0xFF, 0, .always⟩
def NET_FLOW_MEM_BASE : Fld := ⟨0x700300, 8, 40, .ctl, 0, 0, 0xFFFFFFFFFF, 0, .always⟩

/-! NET_FLOW_CTL (R441 of 12_network_and_parser.md). -/
def NET_FLOW_CTL_AGE_S : Fld := ⟨0x700308, 16, 16, .ctl, 0x12C, 1, 0xFFFF, 0, .always⟩

/-! NET_FLOW_CMD (R441 of 12_network_and_parser.md). -/
def NET_FLOW_CMD_ADDR : Fld := ⟨0x700310, 6, 42, .ctl, 0, 0, 0x3FFFFFFFFFF, 0, .always⟩
def NET_FLOW_CMD_OP : Fld := ⟨0x700310, 1, 2, .ctl, 0, 0, 2, 0, .always⟩
def NET_FLOW_CMD_GO : Fld := ⟨0x700310, 0, 1, .cmd, 0, 0, 1, 0, .always⟩

/-! NET_FLOW_RESULT (R441 of 12_network_and_parser.md). -/
def NET_FLOW_RESULT_RESULT : Fld := ⟨0x700318, 4, 4, .sta, 0, 0, 0xF, 0, .always⟩
def NET_FLOW_RESULT_BUSY : Fld := ⟨0x700318, 1, 1, .sta, 0, 0, 1, 0, .always⟩
def NET_FLOW_RESULT_DONE : Fld := ⟨0x700318, 0, 1, .evt, 0, 0, 1, 0, .always⟩

/-! NET_FLOW_STAT (R441 of 12_network_and_parser.md). -/
def NET_FLOW_STAT_EVICT_CNT : Fld := ⟨0x700320, 48, 16, .cnt, 0, 0, 0xFFFF, 0, .always⟩
def NET_FLOW_STAT_AGED_CNT : Fld := ⟨0x700320, 32, 16, .cnt, 0, 0, 0xFFFF, 0, .always⟩
def NET_FLOW_STAT_CHIP_USED : Fld := ⟨0x700320, 0, 17, .sta, 0, 0, 0x1FFFF, 0, .always⟩

/-! NET_FRAG_CTL (R441 of 12_network_and_parser.md). -/
def NET_FRAG_CTL_LIFE_US : Fld := ⟨0x700400, 0, 16, .ctl, 0x7D0, 0x3E8, 0xFFFF, 0, .always⟩

/-! NET_FRAG_STAT (R441 of 12_network_and_parser.md). -/
def NET_FRAG_STAT_EARLY_DROP_CNT : Fld := ⟨0x700408, 48, 16, .cnt, 0, 0, 0xFFFF, 0, .always⟩
def NET_FRAG_STAT_HOLD_FULL_CNT : Fld := ⟨0x700408, 32, 16, .cnt, 0, 0, 0xFFFF, 0, .always⟩
def NET_FRAG_STAT_EVICT_CNT : Fld := ⟨0x700408, 16, 16, .cnt, 0, 0, 0xFFFF, 0, .always⟩
def NET_FRAG_STAT_USED : Fld := ⟨0x700408, 0, 13, .sta, 0, 0, 0x1FFF, 0, .always⟩

/-! RDM_CMD_ADDR (R486 of 13_rdma_and_collectives.md). -/
def RDM_CMD_ADDR_ADDR : Fld := ⟨0x800000, 6, 42, .ctl, 0, 0, 0x3FFFFFFFFFF, 0, .always⟩

/-! RDM_CMD (R486 of 13_rdma_and_collectives.md). -/
def RDM_CMD_INDEX : Fld := ⟨0x800008, 44, 20, .ctl, 0, 0, 0xFFFFF, 0, .always⟩
def RDM_CMD_KIND : Fld := ⟨0x800008, 4, 2, .ctl, 0, 0, 3, 0, .always⟩
def RDM_CMD_OP : Fld := ⟨0x800008, 1, 3, .ctl, 0, 0, 3, 0, .always⟩
def RDM_CMD_GO : Fld := ⟨0x800008, 0, 1, .cmd, 0, 0, 1, 0, .always⟩

/-! RDM_RESULT (R486 of 13_rdma_and_collectives.md). -/
def RDM_RESULT_RKEY : Fld := ⟨0x800010, 32, 32, .sta, 0, 0, 0xFFFFFFFF, 0, .always⟩
def RDM_RESULT_INDEX : Fld := ⟨0x800010, 12, 20, .sta, 0, 0, 0xFFFFF, 0, .always⟩
def RDM_RESULT_RESULT : Fld := ⟨0x800010, 8, 4, .sta, 0, 0, 0xF, 0, .always⟩
def RDM_RESULT_BUSY : Fld := ⟨0x800010, 1, 1, .sta, 0, 0, 1, 0, .always⟩
def RDM_RESULT_DONE : Fld := ⟨0x800010, 0, 1, .evt, 0, 0, 1, 0, .always⟩

/-! RDM_FN_STAT (R486 of 13_rdma_and_collectives.md). -/
def RDM_FN_STAT_RETX_CNT : Fld := ⟨0x800018, 48, 16, .cnt, 0, 0, 0xFFFF, 0, .always⟩
def RDM_FN_STAT_RNR_CNT : Fld := ⟨0x800018, 32, 16, .cnt, 0, 0, 0xFFFF, 0, .always⟩
def RDM_FN_STAT_QPERR_CNT : Fld := ⟨0x800018, 16, 16, .cnt, 0, 0, 0xFFFF, 0, .always⟩
def RDM_FN_STAT_NORECV_CNT : Fld := ⟨0x800018, 0, 16, .cnt, 0, 0, 0xFFFF, 0, .always⟩

/-! RDM_MEM (R486 of 13_rdma_and_collectives.md). -/
def RDM_MEM_BASE : Fld := ⟨0x800100, 30, 18, .ctl, 0, 0, 0x3FFFF, 0, .always⟩
def RDM_MEM_EN : Fld := ⟨0x800100, 0, 1, .ctl, 0, 0, 1, 0, .always⟩

/-! RDM_DISC_CTL (R486 of 13_rdma_and_collectives.md). -/
def RDM_DISC_CTL_GSI_QP : Fld := ⟨0x800108, 44, 20, .ctl, 0, 0, 0xFFFFF, 0, .always⟩
def RDM_DISC_CTL_DEAD_MS : Fld := ⟨0x800108, 16, 16, .ctl, 0x3E8, 0, 0xFFFF, 0, .always⟩
def RDM_DISC_CTL_HELLO_MS : Fld := ⟨0x800108, 8, 8, .ctl, 0x64, 1, 0xFF, 0, .always⟩
def RDM_DISC_CTL_EN : Fld := ⟨0x800108, 0, 1, .ctl, 1, 0, 1, 0, .always⟩

/-! RDM_CAP (R486 of 13_rdma_and_collectives.md). -/
def RDM_CAP_CAP : Fld := ⟨0x800110, 0, 4, .sta, 0xF, 0, 0xF, 0, .always⟩

/-! RDM_TC_SEL (R486 of 13_rdma_and_collectives.md). -/
def RDM_TC_SEL_TC : Fld := ⟨0x800118, 0, 3, .ctl, 0, 0, 7, 0, .always⟩

/-! RDM_TC_CFG (R486 of 13_rdma_and_collectives.md). -/
def RDM_TC_CFG_ALPHA_US : Fld := ⟨0x800120, 48, 16, .ctl, 0x37, 0, 0xFFFF, 0, .always⟩
def RDM_TC_CFG_CNP_GAP_US : Fld := ⟨0x800120, 32, 16, .ctl, 0x32, 0, 0xFFFF, 0, .always⟩
def RDM_TC_CFG_INC_KIB : Fld := ⟨0x800120, 16, 16, .ctl, 0x2800, 0, 0xFFFF, 0, .always⟩
def RDM_TC_CFG_FAST_STEPS : Fld := ⟨0x800120, 12, 4, .ctl, 5, 0, 0xF, 0, .always⟩
def RDM_TC_CFG_G : Fld := ⟨0x800120, 8, 4, .ctl, 8, 0, 0xF, 0, .always⟩
def RDM_TC_CFG_MODE : Fld := ⟨0x800120, 0, 2, .ctl, 1, 0, 2, 0, .always⟩

/-! RDM_TC_RATE (R486 of 13_rdma_and_collectives.md). -/
def RDM_TC_RATE_INC_US : Fld := ⟨0x800128, 48, 16, .ctl, 0x12C, 0, 0xFFFF, 0, .always⟩
def RDM_TC_RATE_HAI_MBPS : Fld := ⟨0x800128, 32, 16, .ctl, 0xFA0, 0, 0xFFFF, 0, .always⟩
def RDM_TC_RATE_AI_MBPS : Fld := ⟨0x800128, 16, 16, .ctl, 0x190, 0, 0xFFFF, 0, .always⟩
def RDM_TC_RATE_RATE_MIN_MBPS : Fld := ⟨0x800128, 0, 16, .ctl, 0x64, 0, 0xFFFF, 0, .always⟩

/-! RDM_TC_CRED (R486 of 13_rdma_and_collectives.md). -/
def RDM_TC_CRED_LIFE_US : Fld := ⟨0x800130, 48, 16, .ctl, 0x14, 0, 0xFFFF, 0, .always⟩
def RDM_TC_CRED_GRANT_KIB : Fld := ⟨0x800130, 32, 16, .ctl, 0x10, 0, 0xFFFF, 0, .always⟩
def RDM_TC_CRED_WINDOW_KIB : Fld := ⟨0x800130, 16, 16, .ctl, 0x80, 0, 0xFFFF, 0, .always⟩
def RDM_TC_CRED_UNSCHED_KIB : Fld := ⟨0x800130, 0, 16, .ctl, 0x40, 0, 0xFFFF, 0, .always⟩

/-! RDM_PEER_SEL (R486 of 13_rdma_and_collectives.md). -/
def RDM_PEER_SEL_PEER : Fld := ⟨0x800138, 0, 12, .ctl, 0, 0, 0xFFF, 0, .always⟩

/-! RDM_PEER_STAT (R486 of 13_rdma_and_collectives.md). -/
def RDM_PEER_STAT_CUR_VER : Fld := ⟨0x800140, 48, 16, .sta, 0, 0, 0xFFFF, 0, .always⟩
def RDM_PEER_STAT_PREV_VER : Fld := ⟨0x800140, 32, 16, .sta, 0, 0, 0xFFFF, 0, .always⟩
def RDM_PEER_STAT_CAP : Fld := ⟨0x800140, 4, 4, .sta, 0, 0, 0xF, 0, .always⟩
def RDM_PEER_STAT_STATE : Fld := ⟨0x800140, 0, 3, .sta, 0, 0, 7, 0, .always⟩

/-! RDM_GLB_STAT (R486 of 13_rdma_and_collectives.md). -/
def RDM_GLB_STAT_EVICT_CNT : Fld := ⟨0x800148, 48, 16, .cnt, 0, 0, 0xFFFF, 0, .always⟩
def RDM_GLB_STAT_UNKNOWN_CNT : Fld := ⟨0x800148, 40, 8, .cnt, 0, 0, 0xFF, 0, .always⟩
def RDM_GLB_STAT_BADQP_CNT : Fld := ⟨0x800148, 32, 8, .cnt, 0, 0, 0xFF, 0, .always⟩
def RDM_GLB_STAT_RECV_ONCHIP : Fld := ⟨0x800148, 16, 14, .sta, 0, 0, 0x3FFF, 0, .always⟩
def RDM_GLB_STAT_CACHED : Fld := ⟨0x800148, 0, 15, .sta, 0, 0, 0x7FFF, 0, .always⟩

/-! SCH_FN_STAT (R503 of 14_traffic_scheduler.md). -/
def SCH_FN_STAT_TX_BYTES : Fld := ⟨0x900000, 0, 64, .cnt, 0, 0, 0xFFFFFFFFFFFFFFFF, 0, .always⟩

/-! SCH_FN_SEL (R503 of 14_traffic_scheduler.md). -/
def SCH_FN_SEL_INDEX : Fld := ⟨0x900100, 0, 8, .ctl, 0, 0, 0xFF, 0, .always⟩

/-! SCH_FN_MAP (R503 of 14_traffic_scheduler.md). -/
def SCH_FN_MAP_RAW_PORT : Fld := ⟨0x900108, 16, 3, .ctl, 0, 0, 7, 0, .always⟩
def SCH_FN_MAP_SUB_LOG2 : Fld := ⟨0x900108, 12, 4, .ctl, 0, 0, 0xC, 0, .always⟩
def SCH_FN_MAP_SUB_BASE : Fld := ⟨0x900108, 0, 12, .ctl, 0, 0, 0xFFF, 0, .always⟩

/-! SCH_SUB_SEL (R503 of 14_traffic_scheduler.md). -/
def SCH_SUB_SEL_INDEX : Fld := ⟨0x900110, 0, 12, .ctl, 0, 0, 0xFFF, 0, .always⟩

/-! SCH_SUB_CFG (R503 of 14_traffic_scheduler.md). -/
def SCH_SUB_CFG_WEIGHT : Fld := ⟨0x900118, 48, 8, .ctl, 0x10, 1, 0xFF, 0, .always⟩
def SCH_SUB_CFG_BURST_KIB : Fld := ⟨0x900118, 32, 8, .ctl, 0x40, 0, 0xFF, 0, .always⟩
def SCH_SUB_CFG_PIR_MBPS : Fld := ⟨0x900118, 0, 24, .ctl, 0, 0, 0xFFFFFF, 0, .always⟩

/-! SCH_SVC_SEL (R503 of 14_traffic_scheduler.md). -/
def SCH_SVC_SEL_PORT : Fld := ⟨0x900120, 3, 3, .ctl, 0, 0, 7, 0, .always⟩
def SCH_SVC_SEL_SVC : Fld := ⟨0x900120, 0, 3, .ctl, 0, 0, 7, 0, .always⟩

/-! SCH_SVC_CFG (R503 of 14_traffic_scheduler.md). -/
def SCH_SVC_CFG_PIR_MBPS : Fld := ⟨0x900128, 32, 24, .ctl, 0, 0, 0xFFFFFF, 0, .always⟩
def SCH_SVC_CFG_PRIO : Fld := ⟨0x900128, 24, 3, .ctl, 0, 0, 7, 0, .service⟩
def SCH_SVC_CFG_CIR_MBPS : Fld := ⟨0x900128, 0, 24, .ctl, 0, 0, 0xFFFFFF, 0, .always⟩

/-! SCH_SVC_BURST (R503 of 14_traffic_scheduler.md). -/
def SCH_SVC_BURST_PBS_KIB : Fld := ⟨0x900130, 8, 8, .ctl, 0x40, 0, 0xFF, 0, .always⟩
def SCH_SVC_BURST_CBS_KIB : Fld := ⟨0x900130, 0, 8, .ctl, 0x40, 0, 0xFF, 0, .always⟩

/-! SCH_PORT_CFG (R503 of 14_traffic_scheduler.md). -/
def SCH_PORT_CFG_GUARD_NS : Fld := ⟨0x900138, 16, 16, .ctl, 0x28, 0, 0xFFFF, 0, .always⟩
def SCH_PORT_CFG_OVH_ENC : Fld := ⟨0x900138, 8, 8, .ctl, 0, 0, 0xFF, 0, .always⟩
def SCH_PORT_CFG_OVH : Fld := ⟨0x900138, 0, 8, .ctl, 0x14, 0, 0xFF, 0, .always⟩

/-! SCH_CTL (R503 of 14_traffic_scheduler.md). -/
def SCH_CTL_REFILL_NS : Fld := ⟨0x900140, 0, 16, .ctl, 0x200, 0x40, 0xFFFF, 0, .always⟩

/-! SCH_DEV_CTL (R503 of 14_traffic_scheduler.md). -/
def SCH_DEV_CTL_CKP_SUB : Fld := ⟨0x900148, 0, 12, .ctl, 0, 0, 0xFFF, 0, .always⟩

/-! SCH_RX_CNT (R503 of 14_traffic_scheduler.md). -/
def SCH_RX_CNT_BYTES : Fld := ⟨0x900150, 0, 64, .cnt, 0, 0, 0xFFFFFFFFFFFFFFFF, 0, .always⟩

/-! SCH_GATE_CTL (R503 of 14_traffic_scheduler.md). -/
def SCH_GATE_CTL_IDLE_MASK : Fld := ⟨0x900200, 16, 8, .ctl, 0xFF, 0, 0xFF, 0, .always⟩
def SCH_GATE_CTL_LEN : Fld := ⟨0x900200, 2, 7, .ctl, 1, 1, 0x40, 0, .always⟩
def SCH_GATE_CTL_APPLY : Fld := ⟨0x900200, 1, 1, .cmd, 0, 0, 1, 0, .always⟩
def SCH_GATE_CTL_EN : Fld := ⟨0x900200, 0, 1, .ctl, 0, 0, 1, 0, .always⟩

/-! SCH_GATE_BASE (R503 of 14_traffic_scheduler.md). -/
def SCH_GATE_BASE_BASE : Fld := ⟨0x900208, 0, 64, .ctl, 0, 0, 0xFFFFFFFFFFFFFFFF, 0, .always⟩

/-! SCH_GATE_CYCLE (R503 of 14_traffic_scheduler.md). -/
def SCH_GATE_CYCLE_CYCLE : Fld := ⟨0x900210, 0, 32, .ctl, 0xF4240, 1, 0xFFFFFFFF, 0, .always⟩

/-! SCH_GATE_STAT (R503 of 14_traffic_scheduler.md). -/
def SCH_GATE_STAT_OVERSIZE_CNT : Fld := ⟨0x900218, 48, 16, .cnt, 0, 0, 0xFFFF, 0, .always⟩
def SCH_GATE_STAT_PAUSED : Fld := ⟨0x900218, 16, 8, .sta, 0, 0, 0xFF, 0, .always⟩
def SCH_GATE_STAT_OPEN : Fld := ⟨0x900218, 8, 8, .sta, 0, 0, 0xFF, 0, .always⟩
def SCH_GATE_STAT_PENDING : Fld := ⟨0x900218, 7, 1, .sta, 0, 0, 1, 0, .always⟩
def SCH_GATE_STAT_ENTRY : Fld := ⟨0x900218, 0, 6, .sta, 0, 0, 0x3F, 0, .always⟩

/-! SCH_GATE_ENT (R503 of 14_traffic_scheduler.md). -/
def SCH_GATE_ENT_INTERVAL_NS : Fld := ⟨0x900400, 8, 32, .ctl, 0xF4240, 0, 0xFFFFFFFF, 8, .always⟩
def SCH_GATE_ENT_MASK : Fld := ⟨0x900400, 0, 8, .ctl, 0xFF, 0, 0xFF, 8, .always⟩

/-! SEC_FN_STAT (R543 of 15_security.md). -/
def SEC_FN_STAT_EXHAUST_CNT : Fld := ⟨0xA00000, 48, 16, .cnt, 0, 0, 0xFFFF, 0, .always⟩
def SEC_FN_STAT_AUTH_CNT : Fld := ⟨0xA00000, 32, 16, .cnt, 0, 0, 0xFFFF, 0, .always⟩
def SEC_FN_STAT_LOCKED : Fld := ⟨0xA00000, 0, 1, .sta, 0, 0, 1, 0, .always⟩

/-! SEC_CTL (R543 of 15_security.md). -/
def SEC_CTL_PROT_PORT : Fld := ⟨0xA00100, 0, 16, .ctl, 0x12B8, 0, 0xFFFF, 0, .always⟩

/-! SEC_LANE (R543 of 15_security.md). -/
def SEC_LANE_PKG_MIN : Fld := ⟨0xA00108, 24, 8, .ctl, 8, 0, 0xFF, 0, .always⟩
def SEC_LANE_STO_MIN : Fld := ⟨0xA00108, 16, 8, .ctl, 0x20, 0, 0xFF, 0, .always⟩
def SEC_LANE_TX_MIN : Fld := ⟨0xA00108, 8, 8, .ctl, 0x40, 0, 0xFF, 0, .always⟩
def SEC_LANE_RX_MIN : Fld := ⟨0xA00108, 0, 8, .ctl, 0x40, 0, 0xFF, 0, .always⟩

/-! SEC_STAT (R543 of 15_security.md). -/
def SEC_STAT_EPOCH : Fld := ⟨0xA00110, 32, 32, .sta, 0, 0, 0xFFFFFFFF, 0, .always⟩
def SEC_STAT_SIGNERS : Fld := ⟨0xA00110, 24, 8, .sta, 0, 0, 0xFF, 0, .always⟩
def SEC_STAT_OWNED : Fld := ⟨0xA00110, 3, 1, .sta, 0, 0, 1, 0, .always⟩
def SEC_STAT_FUSE_HOLD : Fld := ⟨0xA00110, 2, 1, .sta, 0, 0, 1, 0, .always⟩
def SEC_STAT_DEBUG : Fld := ⟨0xA00110, 1, 1, .sta, 0, 0, 1, 0, .always⟩
def SEC_STAT_LOCKED : Fld := ⟨0xA00110, 0, 1, .sta, 0, 0, 1, 0, .always⟩

/-! SEC_PAGE_SEL (R543 of 15_security.md). -/
def SEC_PAGE_SEL_INDEX : Fld := ⟨0xA00118, 0, 8, .ctl, 0, 0, 0xFF, 0, .always⟩

/-! SEC_PAGE_MAP (R543 of 15_security.md). -/
def SEC_PAGE_MAP_VALID : Fld := ⟨0xA00120, 63, 1, .ctl, 0, 0, 1, 0, .always⟩
def SEC_PAGE_MAP_FUNC : Fld := ⟨0xA00120, 40, 8, .ctl, 0, 0, 0xFF, 0, .always⟩
def SEC_PAGE_MAP_SLOT_BASE : Fld := ⟨0xA00120, 16, 10, .ctl, 0, 0, 0x3FF, 0, .always⟩
def SEC_PAGE_MAP_SLOT_COUNT : Fld := ⟨0xA00120, 0, 6, .ctl, 0, 0, 0x20, 0, .always⟩

/-! SEC_PEER_SEL (R543 of 15_security.md). -/
def SEC_PEER_SEL_INDEX : Fld := ⟨0xA00128, 0, 12, .ctl, 0, 0, 0xFFF, 0, .always⟩

/-! SEC_PEER_TX (R543 of 15_security.md). -/
def SEC_PEER_TX_EN_OR_VALID : Fld := ⟨0xA00130, 63, 1, .ctl, 0, 0, 1, 0, .always⟩
def SEC_PEER_TX_SLOT : Fld := ⟨0xA00130, 48, 10, .ctl, 0, 0, 0x3FF, 0, .always⟩
def SEC_PEER_TX_SPI : Fld := ⟨0xA00130, 0, 32, .ctl, 0, 0, 0xFFFFFFFF, 0, .always⟩

/-! SEC_SPI_SEL (R543 of 15_security.md). -/
def SEC_SPI_SEL_INDEX : Fld := ⟨0xA00138, 0, 12, .ctl, 0, 0, 0xFFF, 0, .always⟩

/-! SEC_SPI_RX (R543 of 15_security.md). -/
def SEC_SPI_RX_EN_OR_VALID : Fld := ⟨0xA00140, 63, 1, .ctl, 0, 0, 1, 0, .always⟩
def SEC_SPI_RX_SLOT : Fld := ⟨0xA00140, 48, 10, .ctl, 0, 0, 0x3FF, 0, .always⟩
def SEC_SPI_RX_SPI : Fld := ⟨0xA00140, 0, 32, .ctl, 0, 0, 0xFFFFFFFF, 0, .always⟩

/-! SEC_NET_CNT (R543 of 15_security.md). -/
def SEC_NET_CNT_AUTH_DROP : Fld := ⟨0xA00148, 48, 16, .cnt, 0, 0, 0xFFFF, 0, .always⟩
def SEC_NET_CNT_REPLAY_DROP : Fld := ⟨0xA00148, 32, 16, .cnt, 0, 0, 0xFFFF, 0, .always⟩
def SEC_NET_CNT_NOSPI_DROP : Fld := ⟨0xA00148, 16, 16, .cnt, 0, 0, 0xFFFF, 0, .always⟩
def SEC_NET_CNT_KEY_DROP : Fld := ⟨0xA00148, 0, 16, .cnt, 0, 0, 0xFFFF, 0, .always⟩

/-! SEC_SET_ID (R543 of 15_security.md). -/
def SEC_SET_ID_SET_ID : Fld := ⟨0xA00200, 0, 64, .sta, 0, 0, 0xFFFFFFFFFFFFFFFF, 16, .always⟩

/-! SEC_SET_STAT (R543 of 15_security.md). -/
def SEC_SET_STAT_RANK : Fld := ⟨0xA00208, 24, 8, .sta, 0, 0, 0xFF, 16, .always⟩
def SEC_SET_STAT_PROVEN : Fld := ⟨0xA00208, 16, 8, .sta, 0, 0, 0xFF, 16, .always⟩
def SEC_SET_STAT_MEMBERS : Fld := ⟨0xA00208, 8, 8, .sta, 0, 0, 0xFF, 16, .always⟩
def SEC_SET_STAT_STATE : Fld := ⟨0xA00208, 0, 2, .sta, 0, 0, 3, 16, .always⟩

/-! CKP_CTL (R570 of 16_checkpoint.md). -/
def CKP_CTL_OPEN_MS : Fld := ⟨0xB00100, 32, 16, .ctl, 0x2710, 1, 0xFFFF, 0, .always⟩
def CKP_CTL_FUNC : Fld := ⟨0xB00100, 0, 8, .ctl, 0, 0, 0xFF, 0, .always⟩

/-! CKP_CRC (R570 of 16_checkpoint.md). -/
def CKP_CRC_RX_UNIT : Fld := ⟨0xB00108, 4, 4, .ctl, 0xF, 0, 0xF, 0, .always⟩
def CKP_CRC_TX_UNIT : Fld := ⟨0xB00108, 0, 4, .ctl, 0xE, 0, 0xF, 0, .always⟩

/-! CKP_LIST (R570 of 16_checkpoint.md). -/
def CKP_LIST_COUNT : Fld := ⟨0xB00110, 57, 7, .ctl, 0, 0, 0x60, 0, .always⟩
def CKP_LIST_ADDR : Fld := ⟨0xB00110, 6, 42, .ctl, 0, 0, 0x3FFFFFFFFFF, 0, .always⟩

/-! CKP_TRIG_SEL (R570 of 16_checkpoint.md). -/
def CKP_TRIG_SEL_ENTRY : Fld := ⟨0xB00118, 0, 4, .ctl, 0, 0, 0xF, 0, .always⟩

/-! CKP_TRIG (R570 of 16_checkpoint.md). -/
def CKP_TRIG_VALID : Fld := ⟨0xB00120, 63, 1, .ctl, 0, 0, 1, 0, .always⟩
def CKP_TRIG_WINDOW_S : Fld := ⟨0xB00120, 32, 16, .ctl, 0x258, 1, 0xFFFF, 0, .always⟩
def CKP_TRIG_THRESH : Fld := ⟨0xB00120, 16, 16, .ctl, 0x40, 1, 0xFFFF, 0, .always⟩
def CKP_TRIG_CODE : Fld := ⟨0xB00120, 0, 10, .ctl, 0, 0, 0x3FF, 0, .always⟩

/-! CKP_STAT (R570 of 16_checkpoint.md). -/
def CKP_STAT_STEP : Fld := ⟨0xB00128, 32, 32, .sta, 0, 0, 0xFFFFFFFF, 0, .always⟩
def CKP_STAT_RECEIVING : Fld := ⟨0xB00128, 4, 1, .sta, 0, 0, 1, 0, .always⟩
def CKP_STAT_STATE : Fld := ⟨0xB00128, 0, 4, .sta, 0, 0, 0xF, 0, .always⟩

/-! CKP_CNT (R570 of 16_checkpoint.md). -/
def CKP_CNT_SEALED_CNT : Fld := ⟨0xB00130, 48, 16, .cnt, 0, 0, 0xFFFF, 0, .always⟩
def CKP_CNT_FAIL_CNT : Fld := ⟨0xB00130, 32, 16, .cnt, 0, 0, 0xFFFF, 0, .always⟩
def CKP_CNT_MERGED_CNT : Fld := ⟨0xB00130, 16, 16, .cnt, 0, 0, 0xFFFF, 0, .always⟩
def CKP_CNT_STRAY_CNT : Fld := ⟨0xB00130, 0, 16, .cnt, 0, 0, 0xFFFF, 0, .always⟩

/-! CKP_SLOT (R570 of 16_checkpoint.md). -/
def CKP_SLOT_STEP : Fld := ⟨0xB00138, 32, 32, .sta, 0, 0, 0xFFFFFFFF, 8, .always⟩
def CKP_SLOT_WRITE_NO : Fld := ⟨0xB00138, 8, 24, .sta, 0, 0, 0xFFFFFF, 8, .always⟩
def CKP_SLOT_STATE : Fld := ⟨0xB00138, 0, 2, .sta, 0, 0, 3, 8, .always⟩

/-! CKP_PAIR (R570 of 16_checkpoint.md). -/
def CKP_PAIR_EN : Fld := ⟨0xB00200, 63, 1, .ctl, 0, 0, 1, 8, .always⟩
def CKP_PAIR_QP : Fld := ⟨0xB00200, 0, 20, .ctl, 0, 0, 0xFFFFF, 8, .always⟩

/-! CKP_PARTNER (R570 of 16_checkpoint.md). -/
def CKP_PARTNER_EN : Fld := ⟨0xB00240, 63, 1, .ctl, 0, 0, 1, 8, .always⟩
def CKP_PARTNER_QP : Fld := ⟨0xB00240, 0, 20, .ctl, 0, 0, 0xFFFFF, 8, .always⟩

/-! FUM_BOOT_STAT (R598 of 17_boot_power_reset.md). -/
def FUM_BOOT_STAT_FW_VERSION : Fld := ⟨0xC00100, 32, 32, .sta, 0, 0, 0xFFFFFFFF, 0, .always⟩
def FUM_BOOT_STAT_SVN : Fld := ⟨0xC00100, 16, 16, .sta, 0, 0, 0xFFFF, 0, .always⟩
def FUM_BOOT_STAT_TRIED : Fld := ⟨0xC00100, 15, 1, .sta, 0, 0, 1, 0, .always⟩
def FUM_BOOT_STAT_ROLLBACK : Fld := ⟨0xC00100, 8, 7, .sta, 0, 0, 0x7F, 0, .always⟩
def FUM_BOOT_STAT_SAME : Fld := ⟨0xC00100, 7, 1, .sta, 0, 0, 1, 0, .always⟩
def FUM_BOOT_STAT_TRIAL : Fld := ⟨0xC00100, 6, 1, .sta, 0, 0, 1, 0, .always⟩
def FUM_BOOT_STAT_PREFERRED : Fld := ⟨0xC00100, 5, 1, .sta, 0, 0, 1, 0, .always⟩
def FUM_BOOT_STAT_RUNNING : Fld := ⟨0xC00100, 4, 1, .sta, 0, 0, 1, 0, .always⟩
def FUM_BOOT_STAT_STAGE : Fld := ⟨0xC00100, 0, 4, .sta, 0, 0, 0xF, 0, .always⟩

/-! FUM_RST_STAT (R598 of 17_boot_power_reset.md). -/
def FUM_RST_STAT_WDT_CNT : Fld := ⟨0xC00108, 48, 16, .cnt, 0, 0, 0xFFFF, 0, .always⟩
def FUM_RST_STAT_PERST_CNT : Fld := ⟨0xC00108, 32, 16, .cnt, 0, 0, 0xFFFF, 0, .always⟩
def FUM_RST_STAT_LAST : Fld := ⟨0xC00108, 1, 2, .sta, 0, 0, 3, 0, .always⟩
def FUM_RST_STAT_PERST_HELD : Fld := ⟨0xC00108, 0, 1, .sta, 0, 0, 1, 0, .always⟩

/-! FUM_WDT_CTL (R598 of 17_boot_power_reset.md). -/
def FUM_WDT_CTL_KICK : Fld := ⟨0xC00110, 32, 1, .cmd, 0, 0, 1, 0, .always⟩
def FUM_WDT_CTL_TIMEOUT_MS : Fld := ⟨0xC00110, 0, 16, .ctl, 0x3E8, 0x64, 0xFFFF, 0, .always⟩

/-! FUM_PD_REQ (R598 of 17_boot_power_reset.md). -/
def FUM_PD_REQ_ON : Fld := ⟨0xC00200, 0, 29, .ctl, 0, 0, 0x1FFFFFFF, 0, .always⟩

/-! FUM_PD_STAT (R598 of 17_boot_power_reset.md). -/
def FUM_PD_STAT_PENDING_OFF : Fld := ⟨0xC00208, 32, 30, .sta, 0, 0, 0x3FFFFFFF, 0, .always⟩
def FUM_PD_STAT_ON : Fld := ⟨0xC00208, 0, 30, .sta, 0, 0, 0x3FFFFFFF, 0, .always⟩

/-! FUM_FUSE_SEL (R598 of 17_boot_power_reset.md). -/
def FUM_FUSE_SEL_WORD : Fld := ⟨0xC00300, 0, 6, .ctl, 0, 0, 0x3F, 0, .always⟩

/-! FUM_FUSE_DATA (R598 of 17_boot_power_reset.md). -/
def FUM_FUSE_DATA_VALUE : Fld := ⟨0xC00308, 0, 64, .sta, 0, 0, 0xFFFFFFFFFFFFFFFF, 0, .always⟩

/-! FUM_FUSE_STAT (R598 of 17_boot_power_reset.md). -/
def FUM_FUSE_STAT_TJ_NOW_C : Fld := ⟨0xC00310, 16, 8, .sta, 0, 0, 0xFF, 0, .always⟩
def FUM_FUSE_STAT_TJ_LAST_C : Fld := ⟨0xC00310, 8, 8, .sta, 0, 0, 0xFF, 0, .always⟩
def FUM_FUSE_STAT_CROSS_BOOT : Fld := ⟨0xC00310, 7, 1, .sta, 0, 0, 1, 0, .always⟩
def FUM_FUSE_STAT_HELD : Fld := ⟨0xC00310, 6, 1, .sta, 0, 0, 1, 0, .always⟩
def FUM_FUSE_STAT_FLAGGED : Fld := ⟨0xC00310, 5, 1, .sta, 0, 0, 1, 0, .always⟩
def FUM_FUSE_STAT_COPY_MISMATCH : Fld := ⟨0xC00310, 4, 1, .sta, 0, 0, 1, 0, .always⟩
def FUM_FUSE_STAT_RSVD_MISMATCH : Fld := ⟨0xC00310, 3, 1, .sta, 0, 0, 1, 0, .always⟩
def FUM_FUSE_STAT_USED_B : Fld := ⟨0xC00310, 2, 1, .sta, 0, 0, 1, 0, .always⟩
def FUM_FUSE_STAT_B_DOUBT : Fld := ⟨0xC00310, 1, 1, .sta, 0, 0, 1, 0, .always⟩
def FUM_FUSE_STAT_A_DOUBT : Fld := ⟨0xC00310, 0, 1, .sta, 0, 0, 1, 0, .always⟩

/-! FUM_FUSE_HELD (R598 of 17_boot_power_reset.md). -/
def FUM_FUSE_HELD_HELD : Fld := ⟨0xC00318, 0, 64, .sta, 0, 0, 0xFFFFFFFFFFFFFFFF, 0, .always⟩

/-! FUM_SMB_STAT (R598 of 17_boot_power_reset.md). -/
def FUM_SMB_STAT_TARGET_TO_CNT : Fld := ⟨0xC00400, 48, 16, .cnt, 0, 0, 0xFFFF, 0, .always⟩
def FUM_SMB_STAT_RECOVER_CNT : Fld := ⟨0xC00400, 32, 16, .cnt, 0, 0, 0xFFFF, 0, .always⟩
def FUM_SMB_STAT_FAIL_CNT : Fld := ⟨0xC00400, 16, 16, .cnt, 0, 0, 0xFFFF, 0, .always⟩
def FUM_SMB_STAT_TARGET_ADDR : Fld := ⟨0xC00400, 8, 7, .sta, 0, 0, 0x7F, 0, .always⟩
def FUM_SMB_STAT_SENSOR_FAILED : Fld := ⟨0xC00400, 0, 1, .sta, 0, 0, 1, 0, .always⟩

/-! FUM_PWR_CAP (R65 of 02_clockless_timing.md). -/
def FUM_PWR_CAP_CAP_APPLIED_W : Fld := ⟨0xC01000, 16, 16, .sta, 0x578, 0, 0xFFFF, 0, .always⟩
def FUM_PWR_CAP_CAP_W : Fld := ⟨0xC01000, 0, 16, .ctl, 0x578, 0x12C, 0xFFFF, 0, .always⟩

/-! FUM_PWR_TGT (R65 of 02_clockless_timing.md). -/
def FUM_PWR_TGT_FLOOR : Fld := ⟨0xC01008, 16, 16, .ctl, 0, 0, 0xFFFF, 0, .always⟩
def FUM_PWR_TGT_EFF_EN : Fld := ⟨0xC01008, 8, 1, .ctl, 0, 0, 1, 0, .always⟩
def FUM_PWR_TGT_LIMIT_C : Fld := ⟨0xC01008, 0, 8, .ctl, 0x5F, 0x3C, 0x69, 0, .always⟩

/-! FUM_PWR_STAT (R65 of 02_clockless_timing.md). -/
def FUM_PWR_STAT_POWER_W : Fld := ⟨0xC01010, 48, 16, .sta, 0, 0, 0xFFFF, 0, .always⟩
def FUM_PWR_STAT_TJ_C : Fld := ⟨0xC01010, 40, 8, .sta, 0, 0, 0xFF, 0, .always⟩
def FUM_PWR_STAT_LIMITER_CD1 : Fld := ⟨0xC01010, 36, 3, .sta, 0, 0, 7, 0, .always⟩
def FUM_PWR_STAT_LIMITER_CD0 : Fld := ⟨0xC01010, 32, 3, .sta, 0, 0, 7, 0, .always⟩
def FUM_PWR_STAT_V_CD1_MV : Fld := ⟨0xC01010, 16, 10, .sta, 0, 0, 0x3FF, 0, .always⟩
def FUM_PWR_STAT_V_CD0_MV : Fld := ⟨0xC01010, 0, 10, .sta, 0, 0, 0x3FF, 0, .always⟩

/-! FUM_PWR_EVT (R65 of 02_clockless_timing.md). -/
def FUM_PWR_EVT_VMAX_HIT : Fld := ⟨0xC01018, 4, 1, .evt, 0, 0, 1, 0, .always⟩
def FUM_PWR_EVT_THERM_EMERG : Fld := ⟨0xC01018, 3, 1, .evt, 0, 0, 1, 0, .always⟩
def FUM_PWR_EVT_THERM_HIT : Fld := ⟨0xC01018, 2, 1, .evt, 0, 0, 1, 0, .always⟩
def FUM_PWR_EVT_CAP_HIT : Fld := ⟨0xC01018, 1, 1, .evt, 0, 0, 1, 0, .always⟩
def FUM_PWR_EVT_FLOOR_UNMET : Fld := ⟨0xC01018, 0, 1, .evt, 0, 0, 1, 0, .always⟩

/-! FUM_MBX_CTL (R544 of 15_security.md). -/
def FUM_MBX_CTL_GO : Fld := ⟨0xC02000, 0, 1, .cmd, 0, 0, 1, 0, .always⟩

/-! FUM_MBX_STAT (R544 of 15_security.md). -/
def FUM_MBX_STAT_OPCODE : Fld := ⟨0xC02008, 48, 16, .sta, 0, 0, 0xFFFF, 0, .always⟩
def FUM_MBX_STAT_RESP_LEN : Fld := ⟨0xC02008, 32, 16, .sta, 0, 0, 0xFFFF, 0, .always⟩
def FUM_MBX_STAT_RESULT : Fld := ⟨0xC02008, 8, 8, .sta, 0, 0, 0xFF, 0, .always⟩
def FUM_MBX_STAT_STATE : Fld := ⟨0xC02008, 2, 2, .sta, 0, 0, 3, 0, .always⟩
def FUM_MBX_STAT_BUSY : Fld := ⟨0xC02008, 1, 1, .sta, 0, 0, 1, 0, .always⟩
def FUM_MBX_STAT_DONE : Fld := ⟨0xC02008, 0, 1, .evt, 0, 0, 1, 0, .always⟩

/-! FUM_MBX_CTR (R544 of 15_security.md). -/
def FUM_MBX_CTR_LAST : Fld := ⟨0xC02010, 0, 64, .sta, 0, 0, 0xFFFFFFFFFFFFFFFF, 0, .always⟩

/-! FUM_MBX_CNT (R544 of 15_security.md). -/
def FUM_MBX_CNT_ACCEPT_CNT : Fld := ⟨0xC02018, 32, 32, .cnt, 0, 0, 0xFFFFFFFF, 0, .always⟩
def FUM_MBX_CNT_REJECT_CNT : Fld := ⟨0xC02018, 0, 32, .cnt, 0, 0, 0xFFFFFFFF, 0, .always⟩

/-! SNT_STAT (R626 of 18_observation.md). -/
def SNT_STAT_PERM_CLOSED : Fld := ⟨0xD00100, 57, 1, .sta, 0, 0, 1, 0, .always⟩
def SNT_STAT_DEGRADED : Fld := ⟨0xD00100, 56, 1, .sta, 0, 0, 1, 0, .always⟩
def SNT_STAT_SPARES : Fld := ⟨0xD00100, 48, 7, .sta, 0, 0, 0x7F, 0, .always⟩
def SNT_STAT_CIRC_CAP : Fld := ⟨0xD00100, 32, 13, .sta, 0, 0, 0x1FFF, 0, .always⟩
def SNT_STAT_CIRC_HELD : Fld := ⟨0xD00100, 16, 13, .sta, 0, 0, 0x1FFF, 0, .always⟩
def SNT_STAT_PERM_HELD : Fld := ⟨0xD00100, 0, 13, .sta, 0, 0, 0x1FFF, 0, .always⟩

/-! SNT_INDEX (R626 of 18_observation.md). -/
def SNT_INDEX_BOOTS : Fld := ⟨0xD00108, 32, 32, .sta, 0, 0, 0xFFFFFFFF, 0, .always⟩
def SNT_INDEX_NEXT : Fld := ⟨0xD00108, 0, 32, .sta, 0, 0, 0xFFFFFFFF, 0, .always⟩

/-! SNT_FLASH_STAT (R626 of 18_observation.md). -/
def SNT_FLASH_STAT_MAX_ERASE : Fld := ⟨0xD00110, 32, 32, .sta, 0, 0, 0xFFFFFFFF, 0, .always⟩
def SNT_FLASH_STAT_RETIRED : Fld := ⟨0xD00110, 0, 16, .sta, 0, 0, 0xFFFF, 0, .always⟩

/-! SNT_CODE_SEL (R626 of 18_observation.md). -/
def SNT_CODE_SEL_CODE : Fld := ⟨0xD00118, 0, 10, .ctl, 0, 0, 0x3FF, 0, .always⟩

/-! SNT_CODE_DESC (R626 of 18_observation.md). -/
def SNT_CODE_DESC_VALID : Fld := ⟨0xD00120, 63, 1, .sta, 0, 0, 1, 0, .always⟩
def SNT_CODE_DESC_TRIG : Fld := ⟨0xD00120, 62, 1, .sta, 0, 0, 1, 0, .always⟩
def SNT_CODE_DESC_MODE : Fld := ⟨0xD00120, 61, 1, .sta, 0, 0, 1, 0, .always⟩
def SNT_CODE_DESC_SHIFT : Fld := ⟨0xD00120, 56, 5, .sta, 0, 0, 0x1F, 0, .always⟩
def SNT_CODE_DESC_LIMIT_S : Fld := ⟨0xD00120, 32, 16, .sta, 0, 0, 0xFFFF, 0, .always⟩
def SNT_CODE_DESC_UNIT : Fld := ⟨0xD00120, 0, 8, .sta, 0, 0, 0xFF, 0, .always⟩

/-! SNT_EXP_ADDR (R626 of 18_observation.md). -/
def SNT_EXP_ADDR_ADDR : Fld := ⟨0xD00128, 12, 36, .ctl, 0, 0, 0xFFFFFFFFF, 0, .always⟩

/-! SNT_EXP_CMD (R626 of 18_observation.md). -/
def SNT_EXP_CMD_FIRST : Fld := ⟨0xD00130, 32, 32, .ctl, 0, 0, 0xFFFFFFFF, 0, .always⟩
def SNT_EXP_CMD_COUNT : Fld := ⟨0xD00130, 16, 14, .ctl, 0, 0, 0x2000, 0, .always⟩
def SNT_EXP_CMD_GO : Fld := ⟨0xD00130, 0, 1, .cmd, 0, 0, 1, 0, .always⟩

/-! SNT_EXP_RESULT (R626 of 18_observation.md). -/
def SNT_EXP_RESULT_WRITTEN : Fld := ⟨0xD00138, 32, 32, .sta, 0, 0, 0xFFFFFFFF, 0, .always⟩
def SNT_EXP_RESULT_RESULT : Fld := ⟨0xD00138, 4, 4, .sta, 0, 0, 0xF, 0, .always⟩
def SNT_EXP_RESULT_BUSY : Fld := ⟨0xD00138, 1, 1, .sta, 0, 0, 1, 0, .always⟩
def SNT_EXP_RESULT_DONE : Fld := ⟨0xD00138, 0, 1, .evt, 0, 0, 1, 0, .always⟩

/-! SNT_CRC_SEL (R626 of 18_observation.md). -/
def SNT_CRC_SEL_UNIT : Fld := ⟨0xD00200, 0, 4, .ctl, 0, 0, 0xF, 0, .always⟩

/-! SNT_CRC_CFG (R626 of 18_observation.md). -/
def SNT_CRC_CFG_LOAD : Fld := ⟨0xD00208, 63, 1, .cmd, 0, 0, 1, 0, .always⟩
def SNT_CRC_CFG_MATCH : Fld := ⟨0xD00208, 32, 20, .ctl, 0, 0, 0xFFFFF, 0, .always⟩
def SNT_CRC_CFG_OWNER : Fld := ⟨0xD00208, 22, 2, .sta, 0, 0, 3, 0, .always⟩
def SNT_CRC_CFG_MATCH_EN : Fld := ⟨0xD00208, 21, 1, .ctl, 0, 0, 1, 0, .always⟩
def SNT_CRC_CFG_TAP : Fld := ⟨0xD00208, 16, 5, .ctl, 0, 0, 0x1F, 0, .always⟩
def SNT_CRC_CFG_WIDTH : Fld := ⟨0xD00208, 8, 7, .ctl, 0x20, 8, 0x40, 0, .always⟩
def SNT_CRC_CFG_REFOUT : Fld := ⟨0xD00208, 2, 1, .ctl, 0, 0, 1, 0, .always⟩
def SNT_CRC_CFG_REFIN : Fld := ⟨0xD00208, 1, 1, .ctl, 0, 0, 1, 0, .always⟩
def SNT_CRC_CFG_EN : Fld := ⟨0xD00208, 0, 1, .ctl, 0, 0, 1, 0, .always⟩

/-! SNT_CRC_POLY (R626 of 18_observation.md). -/
def SNT_CRC_POLY_POLY : Fld := ⟨0xD00210, 0, 64, .ctl, 0, 0, 0xFFFFFFFFFFFFFFFF, 0, .always⟩

/-! SNT_CRC_INIT (R626 of 18_observation.md). -/
def SNT_CRC_INIT_INIT : Fld := ⟨0xD00218, 0, 64, .ctl, 0, 0, 0xFFFFFFFFFFFFFFFF, 0, .always⟩

/-! SNT_CRC_XOR (R626 of 18_observation.md). -/
def SNT_CRC_XOR_XOR : Fld := ⟨0xD00220, 0, 64, .ctl, 0, 0, 0xFFFFFFFFFFFFFFFF, 0, .always⟩

/-! SNT_CRC_VALUE (R626 of 18_observation.md). -/
def SNT_CRC_VALUE_VALUE : Fld := ⟨0xD00228, 0, 64, .sta, 0, 0, 0xFFFFFFFFFFFFFFFF, 0, .always⟩

/-! SNT_CRC_FINAL (R626 of 18_observation.md). -/
def SNT_CRC_FINAL_FINAL : Fld := ⟨0xD00230, 0, 64, .sta, 0, 0, 0xFFFFFFFFFFFFFFFF, 0, .always⟩

/-! SNT_LOG_BASE (R626 of 18_observation.md). -/
def SNT_LOG_BASE_BASE : Fld := ⟨0xD00300, 12, 36, .ctl, 0, 0, 0xFFFFFFFFF, 0, .always⟩

/-! SNT_LOG_CFG (R626 of 18_observation.md). -/
def SNT_LOG_CFG_SIZE : Fld := ⟨0xD00308, 4, 4, .ctl, 0, 0, 8, 0, .always⟩
def SNT_LOG_CFG_EN : Fld := ⟨0xD00308, 0, 1, .ctl, 0, 0, 1, 0, .always⟩

/-! SNT_LOG_IDX (R626 of 18_observation.md). -/
def SNT_LOG_IDX_HW_IDX : Fld := ⟨0xD00310, 32, 32, .ptr, 0, 0, 0xFFFFFFFF, 0, .always⟩
def SNT_LOG_IDX_SW_IDX : Fld := ⟨0xD00310, 0, 32, .ptr, 0, 0, 0xFFFFFFFF, 0, .always⟩

/-! SNT_LOG_STAT (R626 of 18_observation.md). -/
def SNT_LOG_STAT_DROP_CNT : Fld := ⟨0xD00318, 32, 32, .cnt, 0, 0, 0xFFFFFFFF, 0, .always⟩

/-! SNT_TRACE_EN (R626 of 18_observation.md). -/
def SNT_TRACE_EN_EN : Fld := ⟨0xD00320, 0, 64, .ctl, 0, 0, 0xFFFFFFFFFFFFFFFF, 8, .always⟩

/-! VNT_STAT (R627 of 18_observation.md). -/
def VNT_STAT_UNLOCK_CNT : Fld := ⟨0xE00000, 32, 16, .cnt, 0, 0, 0xFFFF, 0, .always⟩
def VNT_STAT_UNLOCKED : Fld := ⟨0xE00000, 0, 1, .sta, 0, 0, 1, 0, .always⟩

/-! VNT_CTL (R627 of 18_observation.md). -/
def VNT_CTL_EN : Fld := ⟨0xE00008, 16, 1, .ctl, 0, 0, 1, 0, .always⟩
def VNT_CTL_STROBE : Fld := ⟨0xE00008, 12, 2, .ctl, 0, 0, 2, 0, .always⟩
def VNT_CTL_DIV : Fld := ⟨0xE00008, 8, 3, .ctl, 0, 0, 7, 0, .always⟩
def VNT_CTL_GROUP : Fld := ⟨0xE00008, 0, 8, .ctl, 0, 0, 0xFF, 0, .always⟩

/-! VNT_MATCH (R627 of 18_observation.md). -/
def VNT_MATCH_MASK : Fld := ⟨0xE00010, 16, 16, .ctl, 0, 0, 0xFFFF, 0, .always⟩
def VNT_MATCH_VALUE : Fld := ⟨0xE00010, 0, 16, .ctl, 0, 0, 0xFFFF, 0, .always⟩

end F

/-- The registers of the GLB block. -/
def regsGlb : List RegDef := [
  ⟨0x100, 1, 0, .device, [F.GLB_PACE_CTL_WINDOW, F.GLB_PACE_CTL_CLR_EXT, F.GLB_PACE_CTL_EN]⟩,
  ⟨0x110, 11, 8, .device, [F.GLB_PACE_MON_SEQ, F.GLB_PACE_MON_MAX, F.GLB_PACE_MON_MIN, F.GLB_PACE_MON_PACE]⟩,
  ⟨0x200, 1, 0, .device, [F.GLB_TIMEBASE_TIME]⟩,
  ⟨0x210, 1, 0, .device, [F.GLB_TB_STAT_UNLOCK_CNT, F.GLB_TB_STAT_UNLOCK, F.GLB_TB_STAT_LOCKED]⟩,
  ⟨0x220, 1, 0, .device, [F.GLB_TOD_OFFSET_OFFSET]⟩,
  ⟨0x228, 1, 0, .device, [F.GLB_TOD_STEP_STEP]⟩,
  ⟨0x230, 1, 0, .device, [F.GLB_TOD_CTL_APPLY_STEP, F.GLB_TOD_CTL_SLEW_PPB]⟩]

/-- The registers of the RNG block. -/
def regsRng : List RegDef := [
  ⟨0x100000, 1, 0, .function, [F.RNG_RING_BASE_LO_BASE_31_12]⟩,
  ⟨0x100008, 1, 0, .function, [F.RNG_RING_BASE_HI_BASE_47_32]⟩,
    ⟨0x100010, 1, 0, .function, [F.RNG_RING_CFG_MOD_TIME, F.RNG_RING_CFG_MOD_COUNT, F.RNG_RING_CFG_IRQ_EN,
    F.RNG_RING_CFG_VECTOR, F.RNG_RING_CFG_CQ_ID, F.RNG_RING_CFG_BURST, F.RNG_RING_CFG_PRIO, F.RNG_RING_CFG_SIZE,
    F.RNG_RING_CFG_TYPE]⟩,
  ⟨0x100018, 1, 0, .function, [F.RNG_RING_DB_DB_SLOT]⟩,
    ⟨0x100020, 1, 0, .function, [F.RNG_RING_CMD_POOL, F.RNG_RING_CMD_RING_ID, F.RNG_RING_CMD_RETRY,
    F.RNG_RING_CMD_OP, F.RNG_RING_CMD_GO]⟩,
    ⟨0x100028, 1, 0, .function, [F.RNG_RING_RESULT_GEN, F.RNG_RING_RESULT_POOL, F.RNG_RING_RESULT_RING_ID,
    F.RNG_RING_RESULT_STATUS, F.RNG_RING_RESULT_BUSY, F.RNG_RING_RESULT_DONE]⟩,
  ⟨0x100030, 1, 0, .requester, [F.RNG_RING_SEL_POOL, F.RNG_RING_SEL_RING_ID]⟩,
    ⟨0x100038, 1, 0, .function, [F.RNG_RING_STATE_GEN, F.RNG_RING_STATE_HALT_STATUS, F.RNG_RING_STATE_PRIO,
    F.RNG_RING_STATE_INFLIGHT, F.RNG_RING_STATE_STATE]⟩,
  ⟨0x100040, 1, 0, .function, [F.RNG_RING_INDEX_HW_IDX, F.RNG_RING_INDEX_SW_IDX]⟩,
    ⟨0x100048, 1, 0, .function, [F.RNG_FN_STAT_BAD_DB, F.RNG_FN_STAT_STALE_DB, F.RNG_FN_STAT_STALE_CPL,
    F.RNG_FN_STAT_SLOTS]⟩,
  ⟨0x100050, 1, 0, .function, [F.RNG_EVT_CQ_EN, F.RNG_EVT_CQ_CQ_ID]⟩,
  ⟨0x100100, 1, 0, .requester, [F.RNG_FN_SEL_FUNC]⟩,
    ⟨0x100108, 1, 0, .selected 0x100100 0 8, [F.RNG_FN_QUOTA_PRIO_MIN, F.RNG_FN_QUOTA_SLOT_MAX,
    F.RNG_FN_QUOTA_CQ_MAX, F.RNG_FN_QUOTA_SQ_MAX]⟩,
  ⟨0x100110, 1, 0, .selected 0x100100 0 8, [F.RNG_FN_EVT_EVT_COUNT, F.RNG_FN_EVT_EVT_BASE]⟩,
    ⟨0x100200, 64, 8, .device, [F.RNG_DB_PAGE_MAP_VALID_0, F.RNG_DB_PAGE_MAP_FUNC_0, F.RNG_DB_PAGE_MAP_VALID_1,
    F.RNG_DB_PAGE_MAP_FUNC_1, F.RNG_DB_PAGE_MAP_VALID_2, F.RNG_DB_PAGE_MAP_FUNC_2, F.RNG_DB_PAGE_MAP_VALID_3,
    F.RNG_DB_PAGE_MAP_FUNC_3]⟩,
  ⟨0x100400, 1, 0, .device, [F.RNG_GLB_STAT_NOSLOT_CNT, F.RNG_GLB_STAT_PENDING, F.RNG_GLB_STAT_SLOTS]⟩]

/-- The registers of the CAL block. -/
def regsCal : List RegDef := [
  ⟨0x200000, 1, 0, .requester, [F.CAL_TILE_SEL_TILE]⟩,
    ⟨0x200008, 1, 0, .selected 0x200000 0 7, [F.CAL_TILE_STAT_NEXT_GEN, F.CAL_TILE_STAT_GEN, F.CAL_TILE_STAT_LEAD,
    F.CAL_TILE_STAT_FUNC, F.CAL_TILE_STAT_FAULT, F.CAL_TILE_STAT_STATE]⟩,
    ⟨0x200010, 1, 0, .selected 0x200000 0 7, [F.CAL_TILE_FAULT_PC, F.CAL_TILE_FAULT_UNIT, F.CAL_TILE_FAULT_TAG,
    F.CAL_TILE_FAULT_CODE]⟩,
    ⟨0x200018, 1, 0, .selected 0x200000 0 7, [F.CAL_TILE_CNT_STALE_IN, F.CAL_TILE_CNT_STALE_OUT,
    F.CAL_TILE_CNT_SRAM_CE, F.CAL_TILE_CNT_CANCELLED]⟩,
  ⟨0x200100, 1, 0, .requester, [F.CAL_FN_SEL_FUNC]⟩,
  ⟨0x200108, 1, 0, .selected 0x200100 0 8, [F.CAL_FN_TILES_LO_TILES]⟩,
  ⟨0x200110, 1, 0, .selected 0x200100 0 8, [F.CAL_FN_TILES_HI_TILES]⟩,
  ⟨0x200200, 1, 0, .device, [F.CAL_GLB_STAT_HELD, F.CAL_GLB_STAT_ON]⟩]

/-- The registers of the GEY block. -/
def regsGey : List RegDef := [
  ⟨0x300000, 1, 0, .function, [F.GEY_FN_STAT_FULL_CNT, F.GEY_FN_STAT_INVALID_CNT, F.GEY_FN_STAT_OPS]⟩,
  ⟨0x300100, 1, 0, .device, [F.GEY_GLB_STAT_OPWAIT_CNT, F.GEY_GLB_STAT_ON, F.GEY_GLB_STAT_OPS]⟩,
  ⟨0x300108, 1, 0, .requester, [F.GEY_SLICE_SEL_SLICE]⟩,
    ⟨0x300110, 1, 0, .selected 0x300108 0 4, [F.GEY_SLICE_STAT_ELEM_CNT, F.GEY_SLICE_STAT_LOCKWAIT_CNT,
    F.GEY_SLICE_STAT_INFLIGHT]⟩]

/-- The registers of the MEM block. -/
def regsMem : List RegDef := [
  ⟨0x400000, 1, 0, .function, [F.MEM_FN_FENCE_EPOCH, F.MEM_FN_FENCE_PENDING]⟩,
  ⟨0x400008, 1, 0, .function, [F.MEM_FN_STAT_WINDOW_CNT, F.MEM_FN_STAT_WALK_CNT, F.MEM_FN_STAT_DEVREG_CNT]⟩,
  ⟨0x400100, 1, 0, .requester, [F.MEM_FN_SEL_FUNC]⟩,
  ⟨0x400108, 1, 0, .selected 0x400100 0 8, [F.MEM_XLT_BASE_L1, F.MEM_XLT_BASE_EN]⟩,
  ⟨0x400110, 1, 0, .selected 0x400100 0 8, [F.MEM_XLT_INV_PAGES, F.MEM_XLT_INV_GO]⟩,
  ⟨0x400118, 1, 0, .selected 0x400100 0 8, [F.MEM_XLT_INV_ADDR_PAGE]⟩,
  ⟨0x400120, 1, 0, .selected 0x400100 0 8, [F.MEM_SEL_FENCE_EPOCH, F.MEM_SEL_FENCE_PENDING]⟩,
  ⟨0x400200, 16, 16, .selected 0x400100 0 8, [F.MEM_WIN_BASE_BASE, F.MEM_WIN_BASE_WR, F.MEM_WIN_BASE_RD]⟩,
  ⟨0x400208, 16, 16, .selected 0x400100 0 8, [F.MEM_WIN_LIMIT_LIMIT]⟩,
  ⟨0x400400, 32, 16, .device, [F.MEM_DEVREG_BASE_BASE, F.MEM_DEVREG_BASE_VALID]⟩,
  ⟨0x400408, 32, 16, .device, [F.MEM_DEVREG_LIMIT_LIMIT]⟩,
    ⟨0x400600, 2, 8, .device, [F.MEM_BAND_MODE_MODE_0, F.MEM_BAND_MODE_MODE_1, F.MEM_BAND_MODE_MODE_2,
    F.MEM_BAND_MODE_MODE_3, F.MEM_BAND_MODE_MODE_4, F.MEM_BAND_MODE_MODE_5, F.MEM_BAND_MODE_MODE_6,
    F.MEM_BAND_MODE_MODE_7, F.MEM_BAND_MODE_MODE_8, F.MEM_BAND_MODE_MODE_9, F.MEM_BAND_MODE_MODE_10,
    F.MEM_BAND_MODE_MODE_11, F.MEM_BAND_MODE_MODE_12, F.MEM_BAND_MODE_MODE_13, F.MEM_BAND_MODE_MODE_14,
    F.MEM_BAND_MODE_MODE_15, F.MEM_BAND_MODE_MODE_16, F.MEM_BAND_MODE_MODE_17, F.MEM_BAND_MODE_MODE_18,
    F.MEM_BAND_MODE_MODE_19, F.MEM_BAND_MODE_MODE_20, F.MEM_BAND_MODE_MODE_21, F.MEM_BAND_MODE_MODE_22,
    F.MEM_BAND_MODE_MODE_23, F.MEM_BAND_MODE_MODE_24, F.MEM_BAND_MODE_MODE_25, F.MEM_BAND_MODE_MODE_26,
    F.MEM_BAND_MODE_MODE_27, F.MEM_BAND_MODE_MODE_28, F.MEM_BAND_MODE_MODE_29, F.MEM_BAND_MODE_MODE_30,
    F.MEM_BAND_MODE_MODE_31]⟩,
  ⟨0x400610, 1, 0, .device, [F.MEM_CAP_STAT_INSTALLED_GIB, F.MEM_CAP_STAT_PER_CH_GIB, F.MEM_CAP_STAT_POPULATED]⟩,
  ⟨0x400620, 1, 0, .device, [F.MEM_BUDDY_CTL_APPLY, F.MEM_BUDDY_CTL_SIZE_GIB]⟩,
  ⟨0x400628, 1, 0, .device, [F.MEM_BUDDY_STAT_WAITING, F.MEM_BUDDY_STAT_APPLIED_GIB, F.MEM_BUDDY_STAT_BASE]⟩,
  ⟨0x400630, 1, 0, .device, [F.MEM_SCRUB_CTL_EN, F.MEM_SCRUB_CTL_PERIOD_H]⟩,
  ⟨0x400638, 1, 0, .device, [F.MEM_TRAIN_CTL_CRC_LIMIT, F.MEM_TRAIN_CTL_DRIFT_C, F.MEM_TRAIN_CTL_INTERVAL_H]⟩,
  ⟨0x400640, 1, 0, .requester, [F.MEM_UNIT_SEL_UNIT]⟩,
  ⟨0x400648, 1, 0, .selected 0x400640 0 5, [F.MEM_ECC_STAT_CE_CNT, F.MEM_ECC_STAT_UE_CNT, F.MEM_ECC_STAT_POISONED]⟩,
  ⟨0x400650, 1, 0, .selected 0x400640 0 5, [F.MEM_ECC_LOG_VALID, F.MEM_ECC_LOG_UE, F.MEM_ECC_LOG_ADDR]⟩,
    ⟨0x400658, 1, 0, .selected 0x400640 0 5, [F.MEM_MAINT_UNIT_TRAIN_CNT, F.MEM_MAINT_UNIT_HOT,
    F.MEM_MAINT_UNIT_REFRESH, F.MEM_MAINT_UNIT_RETRAIN, F.MEM_MAINT_UNIT_SCRUB]⟩,
    ⟨0x400660, 1, 0, .device, [F.MEM_MAINT_DEV_FUSE_READ, F.MEM_MAINT_DEV_TENANCY, F.MEM_MAINT_DEV_KEY_ROTATION,
    F.MEM_MAINT_DEV_CHECKPOINT, F.MEM_MAINT_DEV_FW_UPDATE]⟩,
  ⟨0x400668, 1, 0, .device, [F.MEM_MAINT_CNT_PENDING_CNT]⟩]

/-- The registers of the HEP block. -/
def regsHep : List RegDef := [
    ⟨0x500000, 1, 0, .function, [F.HEP_FN_STAT_FGEN, F.HEP_FN_STAT_CPL_TO_CNT, F.HEP_FN_STAT_UNEXP_CPL,
    F.HEP_FN_STAT_NOVEC_CNT, F.HEP_FN_STAT_DRAINING, F.HEP_FN_STAT_DSTATE]⟩,
  ⟨0x500008, 1, 0, .function, [F.HEP_CPL_TO_EXACT, F.HEP_CPL_TO_VALUE_US]⟩,
  ⟨0x500100, 1, 0, .requester, [F.HEP_FN_SEL_FUNC]⟩,
    ⟨0x500108, 1, 0, .selected 0x500100 0 8, [F.HEP_FN_CTL_RESET, F.HEP_FN_CTL_NETWORK, F.HEP_FN_CTL_STORAGE,
    F.HEP_FN_CTL_COMPUTE]⟩,
  ⟨0x500110, 1, 0, .device, [F.HEP_DEV_CTL_CLASS_MODE]⟩,
  ⟨0x500118, 1, 0, .device, [F.HEP_DEV_STAT_DDT_READY]⟩,
    ⟨0x500200, 1, 0, .device, [F.HEP_LINK_STAT_L0P_WIDTH, F.HEP_LINK_STAT_WIDTH, F.HEP_LINK_STAT_RATE,
    F.HEP_LINK_STAT_STATE, F.HEP_LINK_STAT_UP]⟩,
    ⟨0x500208, 1, 0, .device, [F.HEP_LPM_CTL_L1_IDLE_US, F.HEP_LPM_CTL_L0P_DOWN_PCT, F.HEP_LPM_CTL_L0P_UP_PCT,
    F.HEP_LPM_CTL_L0P_EN]⟩,
    ⟨0x500210, 1, 0, .device, [F.HEP_LINK_CNT_RECOVERY_CNT, F.HEP_LINK_CNT_REPLAY_CNT, F.HEP_LINK_CNT_CORR_CNT,
    F.HEP_LINK_CNT_UNCORR_CNT]⟩,
  ⟨0x500300, 1, 0, .requester, [F.HEP_DP_SEL_PORT]⟩,
  ⟨0x500308, 1, 0, .selected 0x500300 0 2, [F.HEP_DP_CTL_MAX_RATE, F.HEP_DP_CTL_PWR, F.HEP_DP_CTL_EN]⟩,
    ⟨0x500310, 1, 0, .selected 0x500300 0 2, [F.HEP_DP_STAT_SURPRISE_CNT, F.HEP_DP_STAT_ERR_CNT,
    F.HEP_DP_STAT_WIDTH, F.HEP_DP_STAT_RATE, F.HEP_DP_STAT_PRESENT, F.HEP_DP_STAT_CHANGE, F.HEP_DP_STAT_UP]⟩,
  ⟨0x500400, 17, 8, .device, [F.HEP_INTX_CAUSE_VEC]⟩]

/-- The registers of the STO block. -/
def regsSto : List RegDef := [
    ⟨0x600000, 1, 0, .function, [F.STO_FN_STAT_PATH_LOST_CNT, F.STO_FN_STAT_ABORT_CAUGHT,
    F.STO_FN_STAT_ABORT_MISSED, F.STO_FN_STAT_PS]⟩,
    ⟨0x600100, 1, 0, .device, [F.STO_NS_CFG_KEY_SLOT, F.STO_NS_CFG_ENC, F.STO_NS_CFG_CACHE, F.STO_NS_CFG_PI,
    F.STO_NS_CFG_LBAF, F.STO_NS_CFG_BACKING, F.STO_NS_CFG_EXTENTS, F.STO_NS_CFG_STRIPE]⟩,
  ⟨0x600108, 1, 0, .device, [F.STO_NS_EXT_DRIVE, F.STO_NS_EXT_MID, F.STO_NS_EXT_START]⟩,
  ⟨0x600110, 3, 8, .device, [F.STO_NS_EXT_DRIVE.at 1, F.STO_NS_EXT_START.at 1]⟩,
  ⟨0x600128, 1, 0, .device, [F.STO_NS_SIZE_NSZE]⟩,
  ⟨0x600130, 1, 0, .device, [F.STO_NS_CMD_NS, F.STO_NS_CMD_FUNC, F.STO_NS_CMD_OP, F.STO_NS_CMD_GO]⟩,
  ⟨0x600138, 1, 0, .device, [F.STO_NS_RESULT_RESULT, F.STO_NS_RESULT_BUSY, F.STO_NS_RESULT_DONE]⟩,
    ⟨0x600200, 1, 0, .device, [F.STO_CACHE_CTL_BASE_GIB, F.STO_CACHE_CTL_SIZE_GIB, F.STO_CACHE_CTL_ON,
    F.STO_CACHE_CTL_EN]⟩,
  ⟨0x600208, 1, 0, .device, [F.STO_LOCK_STAT_WAIT_CNT, F.STO_LOCK_STAT_USED]⟩,
  ⟨0x600210, 1, 0, .device, [F.STO_IRT_STAT_FULL, F.STO_IRT_STAT_USED]⟩,
  ⟨0x600220, 1, 0, .device, [F.STO_DEV_CTL_CRC_UNITS, F.STO_DEV_CTL_BACKING_MS]⟩]

/-- The registers of the NET block. -/
def regsNet : List RegDef := [
  ⟨0x700000, 1, 0, .function, [F.NET_FN_STAT_RX_CNT, F.NET_FN_STAT_NOQ_CNT, F.NET_FN_STAT_DROP_CNT]⟩,
  ⟨0x700100, 1, 0, .device, [F.NET_PORT_MODE_LANE_EN, F.NET_PORT_MODE_QUAD1, F.NET_PORT_MODE_QUAD0]⟩,
  ⟨0x700108, 1, 0, .requester, [F.NET_PORT_SEL_PORT]⟩,
    ⟨0x700110, 1, 0, .selected 0x700108 0 3, [F.NET_PORT_CTL_MAX_FRAME, F.NET_PORT_CTL_XOFF_KIB,
    F.NET_PORT_CTL_PFC_EN]⟩,
  ⟨0x700118, 1, 0, .selected 0x700108 0 3, [F.NET_PORT_STAT_RATE, F.NET_PORT_STAT_CHANGE, F.NET_PORT_STAT_UP]⟩,
    ⟨0x700120, 1, 0, .selected 0x700108 0 3, [F.NET_PORT_CNT_FCS_CNT, F.NET_PORT_CNT_BUF_DROP_CNT,
    F.NET_PORT_CNT_NOMATCH_CNT, F.NET_PORT_CNT_PARSE_LIMIT_CNT, F.NET_PORT_CNT_SIZE_CNT]⟩,
  ⟨0x700128, 1, 0, .device, [F.NET_LEX_CTL_WINDOW]⟩,
  ⟨0x700200, 1, 0, .device, [F.NET_TBL_ADDR_ADDR]⟩,
    ⟨0x700208, 1, 0, .device, [F.NET_TBL_CMD_COUNT, F.NET_TBL_CMD_FIRST, F.NET_TBL_CMD_KIND, F.NET_TBL_CMD_OP,
    F.NET_TBL_CMD_GO]⟩,
    ⟨0x700210, 1, 0, .device, [F.NET_TBL_RESULT_RESULT, F.NET_TBL_RESULT_ACTIVE, F.NET_TBL_RESULT_BUSY,
    F.NET_TBL_RESULT_DONE]⟩,
  ⟨0x700300, 1, 0, .device, [F.NET_FLOW_MEM_LOG2, F.NET_FLOW_MEM_BASE]⟩,
  ⟨0x700308, 1, 0, .device, [F.NET_FLOW_CTL_AGE_S]⟩,
  ⟨0x700310, 1, 0, .device, [F.NET_FLOW_CMD_ADDR, F.NET_FLOW_CMD_OP, F.NET_FLOW_CMD_GO]⟩,
  ⟨0x700318, 1, 0, .device, [F.NET_FLOW_RESULT_RESULT, F.NET_FLOW_RESULT_BUSY, F.NET_FLOW_RESULT_DONE]⟩,
  ⟨0x700320, 1, 0, .device, [F.NET_FLOW_STAT_EVICT_CNT, F.NET_FLOW_STAT_AGED_CNT, F.NET_FLOW_STAT_CHIP_USED]⟩,
  ⟨0x700400, 1, 0, .device, [F.NET_FRAG_CTL_LIFE_US]⟩,
    ⟨0x700408, 1, 0, .device, [F.NET_FRAG_STAT_EARLY_DROP_CNT, F.NET_FRAG_STAT_HOLD_FULL_CNT,
    F.NET_FRAG_STAT_EVICT_CNT, F.NET_FRAG_STAT_USED]⟩]

/-- The registers of the RDM block. -/
def regsRdm : List RegDef := [
  ⟨0x800000, 1, 0, .function, [F.RDM_CMD_ADDR_ADDR]⟩,
  ⟨0x800008, 1, 0, .function, [F.RDM_CMD_INDEX, F.RDM_CMD_KIND, F.RDM_CMD_OP, F.RDM_CMD_GO]⟩,
    ⟨0x800010, 1, 0, .function, [F.RDM_RESULT_RKEY, F.RDM_RESULT_INDEX, F.RDM_RESULT_RESULT, F.RDM_RESULT_BUSY,
    F.RDM_RESULT_DONE]⟩,
    ⟨0x800018, 1, 0, .function, [F.RDM_FN_STAT_RETX_CNT, F.RDM_FN_STAT_RNR_CNT, F.RDM_FN_STAT_QPERR_CNT,
    F.RDM_FN_STAT_NORECV_CNT]⟩,
  ⟨0x800100, 1, 0, .device, [F.RDM_MEM_BASE, F.RDM_MEM_EN]⟩,
    ⟨0x800108, 1, 0, .device, [F.RDM_DISC_CTL_GSI_QP, F.RDM_DISC_CTL_DEAD_MS, F.RDM_DISC_CTL_HELLO_MS,
    F.RDM_DISC_CTL_EN]⟩,
  ⟨0x800110, 1, 0, .device, [F.RDM_CAP_CAP]⟩,
  ⟨0x800118, 1, 0, .requester, [F.RDM_TC_SEL_TC]⟩,
    ⟨0x800120, 1, 0, .selected 0x800118 0 3, [F.RDM_TC_CFG_ALPHA_US, F.RDM_TC_CFG_CNP_GAP_US, F.RDM_TC_CFG_INC_KIB,
    F.RDM_TC_CFG_FAST_STEPS, F.RDM_TC_CFG_G, F.RDM_TC_CFG_MODE]⟩,
    ⟨0x800128, 1, 0, .selected 0x800118 0 3, [F.RDM_TC_RATE_INC_US, F.RDM_TC_RATE_HAI_MBPS, F.RDM_TC_RATE_AI_MBPS,
    F.RDM_TC_RATE_RATE_MIN_MBPS]⟩,
    ⟨0x800130, 1, 0, .selected 0x800118 0 3, [F.RDM_TC_CRED_LIFE_US, F.RDM_TC_CRED_GRANT_KIB,
    F.RDM_TC_CRED_WINDOW_KIB, F.RDM_TC_CRED_UNSCHED_KIB]⟩,
  ⟨0x800138, 1, 0, .requester, [F.RDM_PEER_SEL_PEER]⟩,
    ⟨0x800140, 1, 0, .selected 0x800138 0 12, [F.RDM_PEER_STAT_CUR_VER, F.RDM_PEER_STAT_PREV_VER,
    F.RDM_PEER_STAT_CAP, F.RDM_PEER_STAT_STATE]⟩,
    ⟨0x800148, 1, 0, .device, [F.RDM_GLB_STAT_EVICT_CNT, F.RDM_GLB_STAT_UNKNOWN_CNT, F.RDM_GLB_STAT_BADQP_CNT,
    F.RDM_GLB_STAT_RECV_ONCHIP, F.RDM_GLB_STAT_CACHED]⟩]

/-- The registers of the SCH block. -/
def regsSch : List RegDef := [
  ⟨0x900000, 1, 0, .function, [F.SCH_FN_STAT_TX_BYTES]⟩,
  ⟨0x900100, 1, 0, .requester, [F.SCH_FN_SEL_INDEX]⟩,
  ⟨0x900108, 1, 0, .selected 0x900100 0 8, [F.SCH_FN_MAP_RAW_PORT, F.SCH_FN_MAP_SUB_LOG2, F.SCH_FN_MAP_SUB_BASE]⟩,
  ⟨0x900110, 1, 0, .requester, [F.SCH_SUB_SEL_INDEX]⟩,
  ⟨0x900118, 1, 0, .selected 0x900110 0 12, [F.SCH_SUB_CFG_WEIGHT, F.SCH_SUB_CFG_BURST_KIB, F.SCH_SUB_CFG_PIR_MBPS]⟩,
  ⟨0x900120, 1, 0, .requester, [F.SCH_SVC_SEL_PORT, F.SCH_SVC_SEL_SVC]⟩,
  ⟨0x900128, 1, 0, .selected 0x900120 0 6, [F.SCH_SVC_CFG_PIR_MBPS, F.SCH_SVC_CFG_PRIO, F.SCH_SVC_CFG_CIR_MBPS]⟩,
  ⟨0x900130, 1, 0, .selected 0x900120 0 6, [F.SCH_SVC_BURST_PBS_KIB, F.SCH_SVC_BURST_CBS_KIB]⟩,
  ⟨0x900138, 1, 0, .selected 0x900120 3 3, [F.SCH_PORT_CFG_GUARD_NS, F.SCH_PORT_CFG_OVH_ENC, F.SCH_PORT_CFG_OVH]⟩,
  ⟨0x900140, 1, 0, .device, [F.SCH_CTL_REFILL_NS]⟩,
  ⟨0x900148, 1, 0, .device, [F.SCH_DEV_CTL_CKP_SUB]⟩,
  ⟨0x900150, 1, 0, .selected 0x900120 0 6, [F.SCH_RX_CNT_BYTES]⟩,
    ⟨0x900200, 1, 0, .selected 0x900120 3 3, [F.SCH_GATE_CTL_IDLE_MASK, F.SCH_GATE_CTL_LEN, F.SCH_GATE_CTL_APPLY,
    F.SCH_GATE_CTL_EN]⟩,
  ⟨0x900208, 1, 0, .selected 0x900120 3 3, [F.SCH_GATE_BASE_BASE]⟩,
  ⟨0x900210, 1, 0, .selected 0x900120 3 3, [F.SCH_GATE_CYCLE_CYCLE]⟩,
    ⟨0x900218, 1, 0, .selected 0x900120 3 3, [F.SCH_GATE_STAT_OVERSIZE_CNT, F.SCH_GATE_STAT_PAUSED,
    F.SCH_GATE_STAT_OPEN, F.SCH_GATE_STAT_PENDING, F.SCH_GATE_STAT_ENTRY]⟩,
  ⟨0x900400, 64, 8, .selected 0x900120 3 3, [F.SCH_GATE_ENT_INTERVAL_NS, F.SCH_GATE_ENT_MASK]⟩]

/-- The registers of the SEC block. -/
def regsSec : List RegDef := [
  ⟨0xA00000, 1, 0, .function, [F.SEC_FN_STAT_EXHAUST_CNT, F.SEC_FN_STAT_AUTH_CNT, F.SEC_FN_STAT_LOCKED]⟩,
  ⟨0xA00100, 1, 0, .device, [F.SEC_CTL_PROT_PORT]⟩,
  ⟨0xA00108, 1, 0, .device, [F.SEC_LANE_PKG_MIN, F.SEC_LANE_STO_MIN, F.SEC_LANE_TX_MIN, F.SEC_LANE_RX_MIN]⟩,
    ⟨0xA00110, 1, 0, .device, [F.SEC_STAT_EPOCH, F.SEC_STAT_SIGNERS, F.SEC_STAT_OWNED, F.SEC_STAT_FUSE_HOLD,
    F.SEC_STAT_DEBUG, F.SEC_STAT_LOCKED]⟩,
  ⟨0xA00118, 1, 0, .requester, [F.SEC_PAGE_SEL_INDEX]⟩,
    ⟨0xA00120, 1, 0, .selected 0xA00118 0 8, [F.SEC_PAGE_MAP_VALID, F.SEC_PAGE_MAP_FUNC, F.SEC_PAGE_MAP_SLOT_BASE,
    F.SEC_PAGE_MAP_SLOT_COUNT]⟩,
  ⟨0xA00128, 1, 0, .requester, [F.SEC_PEER_SEL_INDEX]⟩,
  ⟨0xA00130, 1, 0, .selected 0xA00128 0 12, [F.SEC_PEER_TX_EN_OR_VALID, F.SEC_PEER_TX_SLOT, F.SEC_PEER_TX_SPI]⟩,
  ⟨0xA00138, 1, 0, .requester, [F.SEC_SPI_SEL_INDEX]⟩,
  ⟨0xA00140, 1, 0, .selected 0xA00138 0 12, [F.SEC_SPI_RX_EN_OR_VALID, F.SEC_SPI_RX_SLOT, F.SEC_SPI_RX_SPI]⟩,
    ⟨0xA00148, 1, 0, .device, [F.SEC_NET_CNT_AUTH_DROP, F.SEC_NET_CNT_REPLAY_DROP, F.SEC_NET_CNT_NOSPI_DROP,
    F.SEC_NET_CNT_KEY_DROP]⟩,
  ⟨0xA00200, 4, 16, .device, [F.SEC_SET_ID_SET_ID]⟩,
    ⟨0xA00208, 4, 16, .device, [F.SEC_SET_STAT_RANK, F.SEC_SET_STAT_PROVEN, F.SEC_SET_STAT_MEMBERS,
    F.SEC_SET_STAT_STATE]⟩]

/-- The registers of the CKP block. -/
def regsCkp : List RegDef := [
  ⟨0xB00100, 1, 0, .device, [F.CKP_CTL_OPEN_MS, F.CKP_CTL_FUNC]⟩,
  ⟨0xB00108, 1, 0, .device, [F.CKP_CRC_RX_UNIT, F.CKP_CRC_TX_UNIT]⟩,
  ⟨0xB00110, 1, 0, .device, [F.CKP_LIST_COUNT, F.CKP_LIST_ADDR]⟩,
  ⟨0xB00118, 1, 0, .requester, [F.CKP_TRIG_SEL_ENTRY]⟩,
    ⟨0xB00120, 1, 0, .selected 0xB00118 0 4, [F.CKP_TRIG_VALID, F.CKP_TRIG_WINDOW_S, F.CKP_TRIG_THRESH,
    F.CKP_TRIG_CODE]⟩,
  ⟨0xB00128, 1, 0, .device, [F.CKP_STAT_STEP, F.CKP_STAT_RECEIVING, F.CKP_STAT_STATE]⟩,
  ⟨0xB00130, 1, 0, .device, [F.CKP_CNT_SEALED_CNT, F.CKP_CNT_FAIL_CNT, F.CKP_CNT_MERGED_CNT, F.CKP_CNT_STRAY_CNT]⟩,
  ⟨0xB00138, 2, 8, .device, [F.CKP_SLOT_STEP, F.CKP_SLOT_WRITE_NO, F.CKP_SLOT_STATE]⟩,
  ⟨0xB00200, 8, 8, .device, [F.CKP_PAIR_EN, F.CKP_PAIR_QP]⟩,
  ⟨0xB00240, 8, 8, .device, [F.CKP_PARTNER_EN, F.CKP_PARTNER_QP]⟩]

/-- The registers of the FUM block. -/
def regsFum : List RegDef := [
    ⟨0xC00100, 1, 0, .device, [F.FUM_BOOT_STAT_FW_VERSION, F.FUM_BOOT_STAT_SVN, F.FUM_BOOT_STAT_TRIED,
    F.FUM_BOOT_STAT_ROLLBACK, F.FUM_BOOT_STAT_SAME, F.FUM_BOOT_STAT_TRIAL, F.FUM_BOOT_STAT_PREFERRED,
    F.FUM_BOOT_STAT_RUNNING, F.FUM_BOOT_STAT_STAGE]⟩,
    ⟨0xC00108, 1, 0, .device, [F.FUM_RST_STAT_WDT_CNT, F.FUM_RST_STAT_PERST_CNT, F.FUM_RST_STAT_LAST,
    F.FUM_RST_STAT_PERST_HELD]⟩,
  ⟨0xC00110, 1, 0, .device, [F.FUM_WDT_CTL_KICK, F.FUM_WDT_CTL_TIMEOUT_MS]⟩,
  ⟨0xC00200, 1, 0, .device, [F.FUM_PD_REQ_ON]⟩,
  ⟨0xC00208, 1, 0, .device, [F.FUM_PD_STAT_PENDING_OFF, F.FUM_PD_STAT_ON]⟩,
  ⟨0xC00300, 1, 0, .requester, [F.FUM_FUSE_SEL_WORD]⟩,
  ⟨0xC00308, 1, 0, .selected 0xC00300 0 6, [F.FUM_FUSE_DATA_VALUE]⟩,
    ⟨0xC00310, 1, 0, .selected 0xC00300 0 6, [F.FUM_FUSE_STAT_TJ_NOW_C, F.FUM_FUSE_STAT_TJ_LAST_C,
    F.FUM_FUSE_STAT_CROSS_BOOT, F.FUM_FUSE_STAT_HELD, F.FUM_FUSE_STAT_FLAGGED, F.FUM_FUSE_STAT_COPY_MISMATCH,
    F.FUM_FUSE_STAT_RSVD_MISMATCH, F.FUM_FUSE_STAT_USED_B, F.FUM_FUSE_STAT_B_DOUBT, F.FUM_FUSE_STAT_A_DOUBT]⟩,
  ⟨0xC00318, 1, 0, .device, [F.FUM_FUSE_HELD_HELD]⟩,
    ⟨0xC00400, 1, 0, .device, [F.FUM_SMB_STAT_TARGET_TO_CNT, F.FUM_SMB_STAT_RECOVER_CNT, F.FUM_SMB_STAT_FAIL_CNT,
    F.FUM_SMB_STAT_TARGET_ADDR, F.FUM_SMB_STAT_SENSOR_FAILED]⟩,
  ⟨0xC01000, 1, 0, .device, [F.FUM_PWR_CAP_CAP_APPLIED_W, F.FUM_PWR_CAP_CAP_W]⟩,
  ⟨0xC01008, 1, 0, .device, [F.FUM_PWR_TGT_FLOOR, F.FUM_PWR_TGT_EFF_EN, F.FUM_PWR_TGT_LIMIT_C]⟩,
    ⟨0xC01010, 1, 0, .device, [F.FUM_PWR_STAT_POWER_W, F.FUM_PWR_STAT_TJ_C, F.FUM_PWR_STAT_LIMITER_CD1,
    F.FUM_PWR_STAT_LIMITER_CD0, F.FUM_PWR_STAT_V_CD1_MV, F.FUM_PWR_STAT_V_CD0_MV]⟩,
    ⟨0xC01018, 1, 0, .device, [F.FUM_PWR_EVT_VMAX_HIT, F.FUM_PWR_EVT_THERM_EMERG, F.FUM_PWR_EVT_THERM_HIT,
    F.FUM_PWR_EVT_CAP_HIT, F.FUM_PWR_EVT_FLOOR_UNMET]⟩,
  ⟨0xC02000, 1, 0, .device, [F.FUM_MBX_CTL_GO]⟩,
    ⟨0xC02008, 1, 0, .device, [F.FUM_MBX_STAT_OPCODE, F.FUM_MBX_STAT_RESP_LEN, F.FUM_MBX_STAT_RESULT,
    F.FUM_MBX_STAT_STATE, F.FUM_MBX_STAT_BUSY, F.FUM_MBX_STAT_DONE]⟩,
  ⟨0xC02010, 1, 0, .device, [F.FUM_MBX_CTR_LAST]⟩,
  ⟨0xC02018, 1, 0, .device, [F.FUM_MBX_CNT_ACCEPT_CNT, F.FUM_MBX_CNT_REJECT_CNT]⟩]

/-- The registers of the SNT block. -/
def regsSnt : List RegDef := [
    ⟨0xD00100, 1, 0, .device, [F.SNT_STAT_PERM_CLOSED, F.SNT_STAT_DEGRADED, F.SNT_STAT_SPARES, F.SNT_STAT_CIRC_CAP,
    F.SNT_STAT_CIRC_HELD, F.SNT_STAT_PERM_HELD]⟩,
  ⟨0xD00108, 1, 0, .device, [F.SNT_INDEX_BOOTS, F.SNT_INDEX_NEXT]⟩,
  ⟨0xD00110, 1, 0, .device, [F.SNT_FLASH_STAT_MAX_ERASE, F.SNT_FLASH_STAT_RETIRED]⟩,
  ⟨0xD00118, 1, 0, .requester, [F.SNT_CODE_SEL_CODE]⟩,
    ⟨0xD00120, 1, 0, .selected 0xD00118 0 10, [F.SNT_CODE_DESC_VALID, F.SNT_CODE_DESC_TRIG, F.SNT_CODE_DESC_MODE,
    F.SNT_CODE_DESC_SHIFT, F.SNT_CODE_DESC_LIMIT_S, F.SNT_CODE_DESC_UNIT]⟩,
  ⟨0xD00128, 1, 0, .device, [F.SNT_EXP_ADDR_ADDR]⟩,
  ⟨0xD00130, 1, 0, .device, [F.SNT_EXP_CMD_FIRST, F.SNT_EXP_CMD_COUNT, F.SNT_EXP_CMD_GO]⟩,
    ⟨0xD00138, 1, 0, .device, [F.SNT_EXP_RESULT_WRITTEN, F.SNT_EXP_RESULT_RESULT, F.SNT_EXP_RESULT_BUSY,
    F.SNT_EXP_RESULT_DONE]⟩,
  ⟨0xD00200, 1, 0, .requester, [F.SNT_CRC_SEL_UNIT]⟩,
    ⟨0xD00208, 1, 0, .selected 0xD00200 0 4, [F.SNT_CRC_CFG_LOAD, F.SNT_CRC_CFG_MATCH, F.SNT_CRC_CFG_OWNER,
    F.SNT_CRC_CFG_MATCH_EN, F.SNT_CRC_CFG_TAP, F.SNT_CRC_CFG_WIDTH, F.SNT_CRC_CFG_REFOUT, F.SNT_CRC_CFG_REFIN,
    F.SNT_CRC_CFG_EN]⟩,
  ⟨0xD00210, 1, 0, .selected 0xD00200 0 4, [F.SNT_CRC_POLY_POLY]⟩,
  ⟨0xD00218, 1, 0, .selected 0xD00200 0 4, [F.SNT_CRC_INIT_INIT]⟩,
  ⟨0xD00220, 1, 0, .selected 0xD00200 0 4, [F.SNT_CRC_XOR_XOR]⟩,
  ⟨0xD00228, 1, 0, .selected 0xD00200 0 4, [F.SNT_CRC_VALUE_VALUE]⟩,
  ⟨0xD00230, 1, 0, .selected 0xD00200 0 4, [F.SNT_CRC_FINAL_FINAL]⟩,
  ⟨0xD00300, 1, 0, .device, [F.SNT_LOG_BASE_BASE]⟩,
  ⟨0xD00308, 1, 0, .device, [F.SNT_LOG_CFG_SIZE, F.SNT_LOG_CFG_EN]⟩,
  ⟨0xD00310, 1, 0, .device, [F.SNT_LOG_IDX_HW_IDX, F.SNT_LOG_IDX_SW_IDX]⟩,
  ⟨0xD00318, 1, 0, .device, [F.SNT_LOG_STAT_DROP_CNT]⟩,
  ⟨0xD00320, 4, 8, .device, [F.SNT_TRACE_EN_EN]⟩]

/-- The registers of the VNT block. -/
def regsVnt : List RegDef := [
  ⟨0xE00000, 1, 0, .device, [F.VNT_STAT_UNLOCK_CNT, F.VNT_STAT_UNLOCKED]⟩,
  ⟨0xE00008, 1, 0, .device, [F.VNT_CTL_EN, F.VNT_CTL_STROBE, F.VNT_CTL_DIV, F.VNT_CTL_GROUP]⟩,
  ⟨0xE00010, 1, 0, .device, [F.VNT_MATCH_MASK, F.VNT_MATCH_VALUE]⟩]

/-- Every set-up register of the K7 (R648). -/
def regTable : List RegDef :=
  regsGlb ++ regsRng ++ regsCal ++ regsGey ++ regsMem ++ regsHep ++ regsSto ++ regsNet ++ regsRdm ++ regsSch ++ regsSec ++ regsCkp ++ regsFum ++ regsSnt ++ regsVnt

end Sys2Proof.Machine
end

