-- ==== Sys2Proof/Machine/RegFile.lean ====
section
/-! DEFINITION. The register file: one value per field and copy, reads and writes by field kind
(R8, R9, R12 to R14, R652). -/

namespace Sys2Proof.Machine

/-- The register file: field values by field and copy; a field not listed holds its Reset value (R10). -/
abbrev Regs := Tbl Nat

/-- The key of copy `inst` of a field. -/
def Fld.key (f : Fld) (inst : Nat) : Nat := (f.off * 64 + f.lo) * 65536 + inst

/-- The value of copy `inst` of a field. -/
def getF (r : Regs) (f : Fld) (inst : Nat) : Nat := Tbl.getD r (f.key inst) (f.resetAt inst)

/-- Copy `inst` of a field at value `v`, cut to the field's width. -/
def setF (f : Fld) (inst : Nat) (v : Nat) (r : Regs) : Regs :=
  Tbl.put (f.resetAt inst) (f.key inst) (v % 2 ^ f.width) r

/-- A counter field one higher, modulo its width (R14: kind CNT). -/
def incF (f : Fld) (inst : Nat) (r : Regs) : Regs := setF f inst (getF r f inst + 1) r

/-- A field at all ones in its low bit: an event or a status bit set. -/
def setBit (f : Fld) (inst : Nat) (b : Bool) (r : Regs) : Regs := setF f inst (ofBit b) r

/-- Whether a one-bit field is set. -/
def isSet (r : Regs) (f : Fld) (inst : Nat) : Bool := getF r f inst != 0

/-- Whether a value is a valid encoding of a CTL field (R9, R652). -/
def Fld.valid (f : Fld) (v : Nat) : Bool :=
  if f = F.GLB_TOD_CTL_SLEW_PPB then
    decide (-500000 ≤ signed 32 v ∧ signed 32 v ≤ 500000)
  else if f = F.NET_FLOW_MEM_LOG2 then decide (v = 0 ∨ (8 ≤ v ∧ v ≤ 24))
  else if f = F.SEC_CTL_PROT_PORT then decide (v ≠ 0 ∧ v ≠ 0x12B7)
  else decide (f.vmin ≤ v ∧ v ≤ f.vmax)

/-- The value that a software write of `v` leaves in a field, by its kind (R14).
PTR fields are written through doorbells only. -/
def Fld.written (f : Fld) (old v : Nat) : Nat :=
  match f.kind with
  | .ctl => if f.valid v then v else old
  | .sta => old
  | .evt => old - (old &&& v)
  | .cnt => v
  | .ptr => old
  | .cmd => if v ≠ 0 then v else old

/-- The definition of the register that lies at an offset, and which copy of it. -/
def regAt (off : Nat) : Option (RegDef × Nat) :=
  (regTable.find? (fun d =>
      (List.range d.count).any (fun k => d.off + d.stride * k == off))).map
    (fun d => (d, if d.stride = 0 then 0 else (off - d.off) / d.stride))

/-- The 64 bits of a register from its fields; reserved bits read zero (R8). -/
def regWord (r : Regs) (d : RegDef) (k inst : Nat) : Nat :=
  sumOf (d.fields.map (fun f => getF r (f.at k) inst <<< f.lo))

/-- A write of bits [lo+n-1:lo] of `v` to the fields of a register that lie in those bits (R347).
A 32-bit write to half of a wider field keeps the other half; it clears only event bits of its own half. -/
def writeFields (fs : List Fld) (k inst lo n : Nat) (v : Nat) (r : Regs) : Regs :=
  fs.foldl (fun r f =>
    if f.lo < lo + n ∧ lo < f.lo + f.width then
      let old := getF r (f.at k) inst
      let h := max lo f.lo
      let t := min (lo + n) (f.lo + f.width)
      let part := field v (t - 1) h
      let new := if f.kind = .evt then part <<< (h - f.lo) else setField old (t - 1 - f.lo) (h - f.lo) part
      setF (f.at k) inst (if f.kind = .cmd ∧ part = 0 then old else f.written old new) r
    else r) r

end Sys2Proof.Machine
end

