-- ==== Sys2Proof/Machine/RingState.lean ====
section
/-! DEFINITION. The state of the ring engine and of the host endpoint (chapters 3 and 10). -/

namespace Sys2Proof.Machine

/-- Ring types (R67). -/
inductive RingType where
  | clause | completion | workQueue | nvmeSq | nvmeCq
deriving DecidableEq, Repr

/-- Ring states (R113: RNG_RING_STATE.STATE). -/
inductive RingSt where
  | free | active | halted | draining
deriving DecidableEq, Repr

/-- A clause or event entry ready to be written into a completion ring (R74). -/
structure CplEntry where
  result : Word
  evt : Bool
  sq : Nat
  fgen : Nat
  status : Nat
  tag : Nat
  irq : Bool
  /-- the function that owns it -/
  fn : Nat
  /-- the execution slot that it releases when posted -/
  slot : Option Nat
deriving DecidableEq, Repr

/-- A held or executing slotless clause of a ring (R89). -/
structure HeldClause where
  idx : Nat
  words : List Word
  since : Nat
  /-- number of the dispatch, in order over the device -/
  seq : Nat
  /-- status and result once its condition held -/
  done : Option (Nat × Word)
  /-- a BARRIER that named another member count than the ones it found held (R105) -/
  mis : Bool := false
deriving DecidableEq, Repr

/-- The context of one ring identifier. A FREE identifier keeps its generation (R98). -/
structure Ring where
  gen : Nat := 0
  st : RingSt := .free
  typ : RingType := .clause
  fn : Nat := 0
  base : Nat := 0
  size : Nat := 0
  cq : Nat := 0
  burst : Nat := 0
  prio : Nat := 0
  irqEn : Bool := false
  vector : Nat := 0
  modCount : Nat := 0
  modTime : Nat := 0
  /-- doorbell page and slot, as resolved at creation (R86) -/
  dbSlot : Option (Nat × Nat) := none
  /-- fetch index, or hardware producer index -/
  hw : Nat := 0
  /-- producer index, or consumer index, of the last doorbell -/
  sw : Nat := 0
  haltStatus : Nat := 0
  /-- index of the clause whose completion halted the ring (R101) -/
  haltIdx : Option Nat := none
  /-- doorbell pending bit (R93) and the arbitration number at which it was set or last granted (R94) -/
  pend : Bool := false
  age : Nat := 0
  held : Option HeldClause := none
  /-- indices that RESUME with RETRY fetches again (R101) -/
  refetch : Option Nat := none
  /-- next index to be dispatched (R90) -/
  disp : Nat := 0
  /-- DRAINING for a DESTROY (true) or a RESET (false) -/
  destroying : Bool := false
  /-- RNG_RING_RESULT.BUSY waits for this ring's DESTROY or RESET (R97, R99) -/
  byCmd : Bool := false
  /-- time at which an entry of it last completed: a fenced clause behind it dispatches then (R90, R108) -/
  lastDone : Nat := 0
  /-- entries posted since the last interrupt request, and the time at which MOD_TIME of one of them requests it: each
  entry by the MOD_TIME in force when it was posted (R109, R110) -/
  modPosted : Nat := 0
  modDue : Option Nat := none
  /-- entries that wait for a free slot, oldest first (R78) -/
  waiting : List CplEntry := []
  /-- NVMe queue identifier of the controller -/
  qid : Nat := 0
deriving DecidableEq, Repr

/-- How far an entry that holds an execution slot has come (R88). -/
inductive SlotPhase where
  | fetching
  | arrived
  | dispatched
  | done (status : Nat) (result : Word)
  /-- completed; its entry waits for a free slot of the completion ring (R78) -/
  | held
deriving DecidableEq, Repr

/-- An execution slot (R88). -/
structure Slot where
  ring : Nat
  idx : Nat
  fn : Nat
  words : List Word := []
  phase : SlotPhase := .fetching
  /-- number of the dispatch, in order over the device -/
  seq : Nat := 0
  since : Nat := 0
  /-- EPOCH of the function when its accesses were checked (R331) -/
  epoch : Nat := 0
  /-- the entry's function generation (R79) -/
  fgen : Nat := 0
  /-- arbitration number at which it was fetched -/
  born : Nat := 0
  /-- fetched again by RESUME with RETRY (R101) -/
  retry : Bool := false
  /-- bytes moved so far by a copy on its mover; of other clauses, that their checks have passed (R324) -/
  progress : Option Nat := none
  /-- device ranges that its checks admitted under `epoch` and whose accesses are open (R324, R332) -/
  ranges : List (Nat × Nat) := []
deriving DecidableEq, Repr

/-- The ring engine (R28). Completion-side identifiers are kept at 16,384 above submission-side ones. -/
structure RingEngine where
  rings : Tbl Ring := []
  slots : Tbl Slot := []
  counters : Tbl Word := []
  arbNo : Nat := 0
  dispNo : Nat := 0
deriving DecidableEq, Repr

/-- What an outstanding upstream read is for (R362). -/
inductive ReadPurpose where
  | ringFetch (slot : Nat)
  | clauseData (slot : Nat)
  /-- the entry that asked for it was discarded -/
  | discard
deriving DecidableEq, Repr

/-- An outstanding upstream read (R361 to R363). -/
structure UpRead where
  fn : Nat
  addr : Nat
  len : Nat
  sent : Nat
  timeout : Nat
  purpose : ReadPurpose
  /-- EPOCH of the function when the access was checked (R331) -/
  epoch : Nat := 0
deriving DecidableEq, Repr

/-- An MSI-X table entry (R365); every entry is masked after reset. -/
structure MsixEntry where
  addr : Nat := 0
  data : Nat := 0
  masked : Bool := true
deriving DecidableEq, Repr

/-- Waiting interrupt requests of a vector, 0 to 8, and its PBA bit (R111, R367). -/
structure IrqVec where
  count : Nat := 0
  pba : Bool := false
deriving DecidableEq, Repr

/-- The configuration space of a function, as far as the manual gives it an effect (R340 to R346, R361, R367). -/
structure FnConfig where
  bar0 : Nat := 0
  bar2 : Nat := 0
  bar4 : Nat := 0
  rom : Nat := 0
  romEnable : Bool := false
  msixEnable : Bool := false
  msixMask : Bool := false
  intDisable : Bool := false
  cplTimeout : Nat := 0
  relaxed : Bool := true
  /-- Max_Payload_Size and Max_Read_Request_Size: 128 bytes × 2^v -/
  maxPayload : Nat := 0
  maxRead : Nat := 2
  classCode : Nat := 0x120000
deriving DecidableEq, Repr

/-- The host endpoint (chapter 10). -/
structure Endpoint where
  cfg : Tbl FnConfig := []
  vfEnable : Bool := false
  numVfs : Nat := 0
  msix : Tbl MsixEntry := []
  irq : Tbl IrqVec := []
  reads : Tbl UpRead := []
  /-- tags of timed-out or abandoned requests, with the time from which they may be used again (R363) -/
  tagHold : Tbl Nat := []
  nextTag : Nat := 0
  intxAsserted : Bool := false
  /-- start of the earliest function reset that has not completed, per function (R357, R659) -/
  drainStart : Tbl Nat := []
  /-- the reset under way is a Function Level Reset (R358) -/
  drainFlr : Tbl Bool := []
  /-- AER reports: function and error number (`aerReport`), newest first (R360) -/
  aer : List (Nat × Nat) := []
  /-- MSI-X messages sent: function, vector, address and data, newest first (R367) -/
  msgs : List (Nat × Nat × Nat × Nat) := []
  /-- messages sent upstream besides memory writes: 1 Assert_INTA, 2 Deassert_INTA, newest first -/
  intxMsgs : List Nat := []
  /-- what the host enables in Link Control: ASPM L1, the substates L1.1 and L1.2 (R371) -/
  aspmL1 : Bool := false
  aspmL11 : Bool := false
  aspmL12 : Bool := false
  /-- when the upstream link last carried a TLP (R371) -/
  lastTlp : Nat := 0
  l0pWindowStart : Nat := 0
  /-- the expansion ROM table as firmware wrote it (R349 to R353) -/
  ddt : List Byte := []
  /-- Unsupported Request answers to drives, per downstream port (R374) -/
  drvRefused : Tbl Nat := []
  /-- the last value that a register read returned -/
  lastRead : Word := 0
deriving DecidableEq, Repr

end Sys2Proof.Machine
end

