-- ==== Sys2Proof/Machine/SecState.lean ====
section
/-! DEFINITION. The state of the security complex, of the mailboxes and of the flash (chapters 15 and 17). -/

namespace Sys2Proof.Machine

/-- A key slot (R504). -/
structure KeySlot where
  loaded : Bool := false
  alg : Nat := 0
  use : Nat := 0
  /-- the first four bytes of every nonce -/
  salt : List Byte := []
  limit : Nat := 0
  used : Nat := 0
  key : List Byte := []
  warn : Bool := false
deriving DecidableEq, Repr

/-- A revocation that a KREVOKE waits for (R507, R513). -/
structure Revocation where
  /-- the execution slot of the KREVOKE -/
  clause : Nat
  keySlot : Nat
  used : Nat
deriving DecidableEq, Repr

/-- A member of a device set (R531, R534). -/
structure SetMember where
  serial : Nat
  hash : BitVec 384
  proven : Bool
deriving DecidableEq, Repr

/-- A device set (R534, R535): state 0 EMPTY, 1 PROVING, 2 ACTIVE. -/
structure DevSet where
  state : Nat := 0
  id : Nat := 0
  rank : Nat := 0
  members : List SetMember := []
  key : List Byte := []
  nonce : Option (List Byte) := none
deriving DecidableEq, Repr

/-- The replay window of an SPI entry (R519): the highest packet number, and the packet numbers seen among the last 128. -/
structure SpiWindow where
  high : Nat := 0
  seen : List Nat := []
deriving DecidableEq, Repr

/-- An entry of the measurement log (R524). -/
structure LogEntry where
  kind : Nat
  setId : Nat
  digest : BitVec 384
deriving DecidableEq, Repr

/-- A message in the critical-command queue (R525), and how far it has come. -/
structure MbxMsg where
  bytes : List Byte
  /-- it came through the sideband mailbox -/
  sideband : Bool
  /-- its COUNTER is accepted (R527) -/
  accepted : Bool := false
  /-- the action has begun: the step reached -/
  step : Nat := 0
deriving DecidableEq, Repr

/-- An answer of the K7 on the sideband (R594). -/
inductive SideAnswer where
  /-- to an MCTP control message; its bytes are DMTF's -/
  | control (request : List Byte)
  | spdm (response : List Byte)
  /-- of the sideband mailbox: opcode, result and response bytes -/
  | mailbox (opcode result : Nat) (response : List Byte)
  /-- the status response: boot stage, PERST# asserted, PERST_HELD, power in W, junction temperature in °C, held fuse words -/
  | status (stage : Nat) (reset held : Bool) (watts tj : Nat) (fuseHeld : Nat)
  /-- the report that PERST# has been held (R593) -/
  | perstHeld
deriving DecidableEq, Repr

/-- What a JTAG instruction shifts out (R597, R622). -/
inductive JtagOut where
  | bypass
  | status (a : SideAnswer)
  /-- the sixteen words of a live record -/
  | record (words : List Nat)
deriving DecidableEq, Repr

/-- The security complex (chapter 15). -/
structure Security where
  slots : Tbl KeySlot := []
  revs : List Revocation := []
  sets : Tbl DevSet := []
  /-- the package-signer list (R522, R531) -/
  signers : Tbl (BitVec 384) := []
  log : List LogEntry := []
  logOver : Bool := false
  /-- the running measurement RUN -/
  run : BitVec 384 := 0
  spi : Tbl SpiWindow := []
  /-- the key store is locked until the next tenancy switch after a debug unlock (R532) -/
  locked : Bool := false
  mbx : List MbxMsg := []
  /-- bytes of the host mailbox buffer (R544) -/
  mbxBuf : Tbl Byte := []
  /-- the response to the last sideband command -/
  sideResp : List Byte := []
  /-- a tenancy switch is between its steps 2 and 8 (R540, R541) -/
  tenancy : Bool := false
  /-- SPDM requests that wait for domain 26 (R589); true: they came over the sideband -/
  spdmWait : List (Bool × List Byte) := []
  /-- SPDM responses given, newest first -/
  spdmOut : List (List Byte) := []
  /-- sideband answers given, newest first (R594) -/
  sideOut : List SideAnswer := []
deriving DecidableEq, Repr

/-- What the flash keeps besides bytes: the record area (R571) and the BOOT record (R574). -/
structure FlashRecords where
  counter : Nat := 0
  cmdKey : Option (List Byte) := none
  epoch : Nat := 0
  tenant : Nat := 0
  preferred : Nat := 0
  trial : Bool := false
  tried : Bool := false
  /-- last normal read of each fuse word and the junction temperature then (R581) -/
  fuses : Tbl (Nat × Nat) := []
deriving DecidableEq, Repr

/-- One stored copy of the fuse array, and how each word was last resolved (R577, R578). -/
structure FuseArray where
  /-- programmed bits of copy A and copy B, by word; a word not listed holds what Rafold programmed -/
  a : Tbl Nat := []
  b : Tbl Nat := []
  /-- resolved values, secrets included; a word not listed has not been sensed -/
  value : Tbl Nat := []
  /-- words that the last sensing of each copy found clean, with what they read (R582) -/
  lastA : Tbl Nat := []
  lastB : Tbl Nat := []
deriving DecidableEq, Repr

end Sys2Proof.Machine
end

