-- ==== Sys2Proof/Machine/SinterState.lean ====
section
/-! DEFINITION. The state of Sinter: live records, record sets, flash (chapter 18). -/

namespace Sys2Proof.Machine

/-- A live record (R601); MIN is all ones at manufacture. -/
structure SinterRec where
  seq : Nat := 0
  count : Nat := 0
  max : Nat := 0
  min : Nat := 0xFFFFFFFF
  last : Nat := 0
  boot : Nat := 0
  bins : Tbl Nat := []
deriving DecidableEq, Repr

/-- The causes of a record set (R604). -/
inductive SetCause where
  | periodic | fault | pwrfail | thermtrip
deriving DecidableEq, Repr

/-- A record set: a copy of all live records with its header fields (R604). -/
structure RecordSet where
  index : Nat
  cause : SetCause
  code : Nat
  time : Nat
  boot : Nat
  /-- tenancy epoch at the snapshot (R610) -/
  epoch : Nat
  recs : Tbl SinterRec
  /-- its flash form, bytes (R606) -/
  bytes : Nat := 0
  /-- it lies in the permanent area (R608, R609) -/
  perm : Bool := false
  /-- when its end marker stands in flash (R606, R607) -/
  doneAt : Nat := 0
deriving DecidableEq, Repr

/-- A block of the Sinter region in use (R608, R609): its number, its area, the bytes programmed in it, the indices of the
record sets that it holds. -/
structure SntBlock where
  no : Nat
  perm : Bool
  bytes : Nat := 0
  sets : List Nat := []
deriving DecidableEq, Repr

/-- Sinter (R599 to R612). What is stored on flash survives every reset. -/
structure Sinter where
  recs : Tbl SinterRec := []
  /-- record sets that wait in the buffer, oldest first, and their flash form in bytes (R606) -/
  buffer : List RecordSet := []
  bufBytes : Nat := 0
  /-- record sets on flash, oldest first -/
  stored : List RecordSet := []
  /-- index of the next record set (R608) -/
  next : Nat := 0
  /-- power-on count (R601, word 4) -/
  boots : Nat := 0
  /-- time at which a code last triggered a FAULT record set, and the last one of any code (R605) -/
  lastTrig : Tbl Nat := []
  lastFault : Option Nat := none
  /-- multiples of 600 s that have given a PERIODIC record set (R604) -/
  periods : Nat := 0
  /-- blocks in use, in the order in which they were opened; how many of the 559 that are no spares have ever been used; blocks
  erased again; spare blocks left (R608, R612) -/
  blocks : List SntBlock := []
  used : Nat := 0
  erased : List Nat := []
  spares : Nat := 64
  /-- erase counts of blocks, and blocks retired (R612, R626) -/
  erases : Tbl Nat := []
  retired : Nat := 0
  /-- CIRC_CAP, PERM_CLOSED, DEGRADED (R609, R612, R626) -/
  circCap : Nat := 4096
  permClosed : Bool := false
  degraded : Bool := false
  /-- CIRC_CAP of each event RECORDER_DEGRADED that is still to be posted (R612) -/
  notices : List Nat := []
  /-- when the flash has ended the writes asked of it (R607) -/
  flushed : Nat := 0
  /-- index of a record set found without its end marker at power-on (R606) -/
  torn : Option Nat := none
  /-- operations that the flash has performed: the argument of its free outcomes (the model's own, R612) -/
  ops : Nat := 0
  /-- BASE and SIZE of the log ring in force, and the entries produced since EN was set (R617) -/
  logBase : Nat := 0
  logSize : Nat := 0
  logSeq : Nat := 0
deriving DecidableEq, Repr

/-- The vent pins and the strobe (R619, R621), with the time of the last sample. -/
structure Vent where
  pins : Nat := 0
  strobe : Bool := false
  lastSample : Nat := 0
deriving DecidableEq, Repr

end Sys2Proof.Machine
end

