-- ==== Sys2Proof/Machine/StoState.lean ====
section
/-! DEFINITION. The state of the storage engine (chapter 11). -/

namespace Sys2Proof.Machine

/-- The NVMe controller of a function (R376 to R380, R389). -/
structure NvmeCtrl where
  /-- CC.EN -/
  en : Bool := false
  /-- CSTS.RDY -/
  ready : Bool := false
  /-- CSTS.CFS -/
  cfs : Bool := false
  cc : Nat := 0
  aqa : Nat := 0
  asq : Nat := 0
  acq : Nat := 0
  /-- CC.EN was cleared at this time and the reset has not ended (R380) -/
  disabledAt : Option Nat := none
  /-- execution slots of outstanding Asynchronous Event Requests, oldest first -/
  aers : List Nat := []
  /-- events that wait for a request: Dword 0 -/
  events : List Nat := []
  /-- feature values by identifier -/
  feats : Tbl Nat := []
  /-- vectors without interrupt coalescing -/
  noCoalesce : List Nat := []
  /-- the Autonomous Power State Transition table -/
  apst : List Nat := []
  /-- the last operational power state (R391) -/
  lastPs : Nat := 0
  /-- when the controller last completed a command: its idle time counts from there (R389) -/
  lastBusy : Nat := 0
deriving DecidableEq, Repr

/-- An extent of a namespace, with the serial number that its drive had when it was created (R381, R397). -/
structure Extent where
  drive : Nat
  start : Nat
  serial : Nat
deriving DecidableEq, Repr

/-- An attachment: it applies to entries fetched after arbitration number `since` and up to `till` (R383). -/
structure Attach where
  fn : Nat
  since : Nat
  till : Option Nat
deriving DecidableEq, Repr

/-- A namespace (R381, R382). -/
structure Ns where
  lba4k : Bool
  pi : Nat
  enc : Bool
  keySlot : Nat
  cache : Bool
  /-- 0 LOCAL, 1 STRIPE, 2 REMOTE -/
  backing : Nat
  stripe : Nat
  exts : List Extent
  qp : Nat
  rnsid : Nat
  size : Nat
  attach : List Attach := []
  readOnly : Bool := false
deriving DecidableEq, Repr

/-- A local drive (R397). -/
structure Drive where
  up : Bool := false
  serial : Nat := 0
  lbas : Nat := 0
deriving DecidableEq, Repr

/-- The kinds of operation that take a range lock (R387). -/
inductive StoKind where
  | read | write | zero | dealloc | feed
deriving DecidableEq, Repr

/-- A path to backing: a drive port, or an RDMA queue pair. -/
inductive StoPath where
  | drive (port : Nat)
  | remote (qp : Nat)
deriving DecidableEq, Repr

/-- How a backing command ended. -/
inductive BackEnd where
  | ok
  /-- the status that the backing reports, and the first failing LBA of the namespace -/
  | error (st failAt : Nat)
  | pathLost
  /-- a write whose data had been sent, on a path that was lost (R396) -/
  | unknown
  | timedOut
deriving DecidableEq, Repr

/-- How the data of a backing command reaches its target: by the drive's own reads and writes of host buffers, in the capsule of a
fabrics command, or through an SGL Keyed descriptor (R381). -/
inductive Carry where
  | drive | capsule | keyed
deriving DecidableEq, Repr

/-- A backing command (R378, R394). -/
structure Backing where
  id : Nat
  /-- the extent of the namespace, and its path -/
  ext : Nat
  path : StoPath
  /-- first LBA at the backing, and the LBAs of the namespace that it carries, in order -/
  first : Nat
  lbas : List Nat
  /-- data sent with the command, encrypted where the namespace is, and its metadata -/
  payload : List Byte
  info : List Byte
  /-- the command's data has been sent -/
  sent : Bool
  /-- Force Unit Access: set on every write (R378) -/
  fua : Bool := false
  /-- how the data of a write to a remote target goes (R381) -/
  carry : Carry := .drive
  time : Nat
  /-- time of the NVMe Abort that BACKING_TIMEOUT sent -/
  aborted : Option Nat := none
  ended : Option BackEnd := none
  data : List Byte := []
  mdata : List Byte := []
deriving DecidableEq, Repr

/-- An entry of the range-lock table, with the operation that holds it (R387, R388). -/
structure RangeLock where
  id : Nat
  /-- the execution slot of its command; none once abandoned (R402) -/
  slot : Option Nat
  kind : StoKind
  ns : Nat
  lo : Nat
  n : Nat
  /-- the LBA ranges themselves: several for a Deallocate -/
  ranges : List (Nat × Nat)
  granted : Bool := false
  parts : List Backing := []
  /-- its range has been recorded in the indeterminate-range table -/
  recorded : Bool := false
deriving DecidableEq, Repr

/-- An entry of the indeterminate-range table (R398, R401). -/
structure IrtEntry where
  nsid : Nat
  n : Nat
  lba : Nat
  time : Nat
  cause : Nat
  port : Nat
deriving DecidableEq, Repr

/-- A unit of the capacity-tier cache (R385): its place in the region, and the metadata of its LBAs. -/
structure CacheUnit where
  ns : Nat
  unit : Nat
  place : Nat
  mdata : List Byte
deriving DecidableEq, Repr

/-- The storage engine. -/
structure Storage where
  ctrls : Tbl NvmeCtrl := []
  namespaces : Tbl Ns := []
  drives : Tbl Drive := []
  /-- errors of the downstream ports that were passed to the storage engine, per port (R374) -/
  portErrs : Tbl Nat := []
  /-- range-lock entries in the order in which they were taken -/
  locks : List RangeLock := []
  /-- commands that wait for a free entry, oldest first -/
  lockWait : List RangeLock := []
  irt : Tbl IrtEntry := []
  /-- cached units, most recently used first -/
  cache : List CacheUnit := []
  /-- number of range locks and backing commands so far -/
  nextId : Nat := 0
  /-- queue pairs on which a Fabrics Connect command has been sent (R381) -/
  connected : List Nat := []
  /-- the power state that drives and downstream links are in (R390) -/
  drivePs : Nat := 0
deriving DecidableEq, Repr

end Sys2Proof.Machine
end

