-- ==== Sys2Proof/Machine/State.lean ====
section
/-! DEFINITION. The state of the K7, its faults and refusals, and the state after reset. -/

namespace Sys2Proof.Machine

/-- A regulator's answer: when it came, of which rail, current in 0.1 A, voltage at the balls in mV (R637). -/
structure Telemetry where
  time : Nat
  rail : Nat
  amps : Nat
  mv : Nat
deriving DecidableEq, Repr

/-- The timebase, the pace monitors and the power controller (chapters 2 and 19). -/
structure TimeState where
  /-- nanoseconds since the first PLL lock (R47) -/
  time : Nat := 0
  /-- the timebase counts: the PLL has locked once (R47) -/
  running : Bool := false
  /-- bits [63:32] latched by a 32-bit read, per requester (R51) -/
  latch : Tbl Nat := []
  /-- carried fraction of OFFSET under slew, in 10^-9 ns (R53) -/
  slewFrac : Int := 0
  /-- start of the current window of each pace monitor (R43) -/
  paceStart : Tbl Nat := []
  /-- time of the last power decision (R59) -/
  lastDecision : Nat := 0
  /-- the emergency of R62 lasts -/
  emergency : Bool := false
  /-- THERMTRIP# is asserted (R62, R592) -/
  thermtrip : Bool := false
  /-- frames in a row without a valid answer, per rail: VDD_CD0, VDD_CD1, then the rails of TLM (R638) -/
  vcbMissed : Tbl Nat := []
  lastVcb : Nat := 0
  /-- frames sent, newest first: bus (VCB_CD0, VCB_CD1, TLM), COMMAND, MV or rail address (R637) -/
  vcbSent : List (Nat × Nat × Nat) := []
  /-- the regulator of a rail has alerted and the rail is not raised (R638) -/
  railAlert : Tbl Bool := []
  /-- the answers of the last 100 µs, newest first (R655) -/
  telemetry : List Telemetry := []
deriving DecidableEq, Repr

/-- How a Geyser operation ended: the status of a clause, the outcome and value of a unit command, and RESULT
(R275, R276, R281). -/
structure GeyEnd where
  status : Nat
  outcome : Nat
  value : Nat
  result : Word
deriving DecidableEq, Repr

/-- The fields of the seven operand words of a Geyser operation (R267). -/
structure GArgs where
  mode : Nat
  a : Nat
  b : Nat
  c : Nat
  n : Nat
  m : Nat
  x : Nat
  s : Nat
deriving DecidableEq, Repr

/-- Why a Geyser operation or one of its elements does not run to its end: an access failure with its status, a reason of R276
with its index, a role conflict (R146), a refused role check (R145), or a wait. -/
inductive GErr where
  | access (st : Nat)
  | invalid (reason idx : Nat)
  | conflict
  | stale
  | wait
deriving DecidableEq, Repr

/-- An element of an operation as its reading at the start left it (R303): an index, a key or the target of an edge; a value or
the source of an edge; bytes to write; or why it cannot be performed. -/
structure GItem where
  num : Nat := 0
  aux : Nat := 0
  bytes : List Byte := []
  err : Option GErr := none
deriving DecidableEq, Repr

/-- An element operation in flight: its number, the device range that it works on (R265), the home bucket that it holds locked,
by table and bucket, and what its search found: the slot of its key, the first free slot (R287, R293). -/
structure GFlight where
  k : Nat
  addr : Nat
  len : Nat
  lock : Option (Nat × Nat) := none
  found : Option Nat := none
  free : Option Nat := none
deriving DecidableEq, Repr

/-- What an operation has counted so far. -/
structure GAcc where
  /-- elements, keys or vertices of RESULT (R281) -/
  count : Nat := 0
  /-- keys that found no slot (R289) -/
  full : Nat := 0
  /-- an access failed its role check -/
  stale : Bool := false
  /-- FRONTIER: vertices newly visited, and whether it overflowed -/
  visited : Nat := 0
  spill : Bool := false
deriving DecidableEq, Repr

/-- An operation whose element work has begun. -/
structure GeyRun where
  args : GArgs
  items : List GItem := []
  /-- elements not yet dispatched, in input order -/
  todo : List Nat := []
  flight : List GFlight := []
  acc : GAcc := {}
  /-- L and PROBE_MAX of a hash table; VERTICES and PARENT of a graph -/
  dims : Nat × Nat := (0, 0)
  /-- the current frontier -/
  front : List Nat := []
  /-- the device ranges that its checks admitted, and the EPOCH of the checks (R324, R331) -/
  ranges : List (Nat × Nat) := []
  epoch : Nat := 0
  /-- key operations that have been counted as waiting for a lock entry (R305) -/
  lockWaits : List Nat := []
  /-- the failures met: the lowest element with an access failure and its status, the lowest invalid input, a role conflict (R280) -/
  fail : Option (Nat × Nat) := none
  bad : Option (Nat × Nat) := none
  conflict : Bool := false
deriving DecidableEq, Repr

/-- An entry of Geyser's operation table (R305): `run` once its element work has begun, `ended` once it is over. -/
structure GeyOp where
  src : GeySrc
  fn : Nat
  ended : Option GeyEnd := none
  run : Option GeyRun := none
deriving DecidableEq, Repr

/-- Geyser (chapter 8): its operation table, the operations that wait for an entry and have been counted, and the requester
admitted last (R305): 0 the ring engine, 1 + t tile t, 129 the RDMA engine. -/
structure Geyser where
  ops : List GeyOp := []
  waited : List GeySrc := []
  last : Nat := 0
deriving DecidableEq, Repr

/-- Fumarole (chapter 17). -/
structure Fumarole where
  /-- domains that wake, with the time of the request (R588) -/
  waking : Tbl Nat := []
  /-- the blocks outside the island are held in reset as by PERST#: asserted, or CORE_PG fell (R590, R593, R636) -/
  perst : Bool := false
  /-- PERST# itself -/
  perstPin : Bool := false
  perstSince : Nat := 0
  /-- the always-on rail is up and the boot ROM has run (R584) -/
  powered : Bool := false
  fuses : FuseArray := {}
  records : FlashRecords := {}
  /-- the flash device's bytes; what it held before is unspecified (R571) -/
  flash : Memory := { junk := [⟨0, 0x4000000, 0⟩] }
  /-- the 1 MiB of Fumarole shared memory (R586) -/
  shared : Memory := {}
  /-- the Sinter buffer and the key bus staging buffers as management cores see them (R586) -/
  sinterBuf : Memory := {}
  keyBus : Memory := {}
  /-- the running image and its digest -/
  image : Nat := 0
  /-- time of the last KICK, and the times of watchdog restarts, newest first (R591) -/
  lastKick : Nat := 0
  restarts : List Nat := []
  /-- the sensor bus's SDA was found low at this time (R596) -/
  sdaLow : Option Nat := none
  lastRetry : Nat := 0
  /-- the sideband's SCL or SDA was found low at this time (R595) -/
  smbLow : Option Nat := none
  /-- data that JTAG instructions shifted out, newest first (R622) -/
  jtag : List JtagOut := []
  /-- boundary scan drives the pins (R597) -/
  extest : Bool := false
  /-- CORE_PG, and that it fell while the K7 ran and has not risen since (R633, R636) -/
  corePg : Bool := false
  coreFell : Bool := false
deriving DecidableEq, Repr

/-- The state of the K7. -/
structure State where
  /-- the commands that wait, oldest first -/
  pending : List Instr := []
  /-- number of free values taken so far (the model's own field) -/
  fresh : Nat := 0
  /-- set-up registers by field and copy -/
  regs : Regs := []
  tb : TimeState := {}
  rng : RingEngine := {}
  hep : Endpoint := {}
  mem : MemSys := {}
  tiles : Tbl Tile := []
  roles : Tbl Role := []
  gey : Geyser := {}
  mcores : Tbl Core := []
  snt : Sinter := {}
  vnt : Vent := {}
  fum : Fumarole := {}
  sec : Security := {}
  sto : Storage := {}
  sch : Sched := {}
  net : Net := {}
  rdm : Rdma := {}
  ckp : Ckpt := {}
deriving DecidableEq, Repr

/-- The machine never stops with a fault: every command has its effect or none. -/
inductive Fault where
  /-- raised by no command; kept so that the outcome type is inhabited. Safe. -/
  | none
deriving DecidableEq, Repr

/-- Why a command is refused. -/
inductive Refusal where
  /-- the command has no meaning in the model; raised by an arm of exec only. Safe. -/
  | notModelled (mnemonic : String)
deriving DecidableEq, Repr

/-- The K7 right after power-on reset: every field of the set-up registers at its Reset value (R10). -/
def State.reset : State := {}

end Sys2Proof.Machine
end

