-- ==== Sys2Proof/Machine/Base.lean ====
section
/-! DEFINITION. Named reads and updates of the state, the status codes (R112), and the recording of Sinter events
(R599 to R605). -/

namespace Sys2Proof.Machine

/-! The device-wide status codes (R112). -/
namespace St
def SUCCESS : Nat := 0x0000
def BAD_CLAUSE : Nat := 0x0010
def RING_GEN_MISMATCH : Nat := 0x0011
def FUNC_GEN_MISMATCH : Nat := 0x0012
def CLASS_NOT_ENABLED : Nat := 0x0013
def DOORBELL_INVALID : Nat := 0x0014
def WAIT_TIMEOUT : Nat := 0x0015
def BARRIER_MISMATCH : Nat := 0x0016
def EVENT_RANGE : Nat := 0x0017
def NO_RESOURCE : Nat := 0x0018
def CONFIG_INVALID : Nat := 0x0019
def RING_STATE : Nat := 0x001A
def ADDRESS_UNMAPPED : Nat := 0x0100
def DOMAIN_OFF : Nat := 0x0101
def WINDOW_VIOLATION : Nat := 0x0102
def WALK_FAULT : Nat := 0x0103
def WALK_DEVICE_REGION : Nat := 0x0104
def HOST_READ_TIMEOUT : Nat := 0x0105
def HOST_COMPLETION_ERROR : Nat := 0x0106
def DATA_POISONED : Nat := 0x0107
def TILE_FAULT : Nat := 0x0200
def STALE_ROLE : Nat := 0x0201
def ROLE_CONFLICT : Nat := 0x0202
def GEYSER_TABLE_FULL : Nat := 0x0300
def GEYSER_INPUT_INVALID : Nat := 0x0301
def PEER_UNREACHABLE : Nat := 0x0400
def PEER_VERSION_REFUSED : Nat := 0x0401
def QP_ERROR : Nat := 0x0402
def COLLECTIVE_MEMBER_LOST : Nat := 0x0403
def FEED_READ_ERROR : Nat := 0x0500
def FEED_PATH_LOST : Nat := 0x0501
def FEED_RANGE_INDETERMINATE : Nat := 0x0502
def CKPT_NO_BUDDY : Nat := 0x0600
def CKPT_AREA_SMALL : Nat := 0x0601
def CKPT_TRANSFER_CRC : Nat := 0x0602
def CKPT_VERSION : Nat := 0x0603
def KEY_SLOT_EMPTY : Nat := 0x0700
def KEY_USAGE_EXHAUSTED : Nat := 0x0701
def KEY_STORE_LOCKED : Nat := 0x0702
def PACKAGE_AUTH_FAILED : Nat := 0x0703
def NOT_SET_MEMBER : Nat := 0x0704
end St

/-- The next state of a command that never stops. -/
abbrev Out := Host.Outcome State Fault Refusal

/-- A command with its effect where `c` holds, and none otherwise. -/
def when (c : Prop) [Decidable c] (t s : State) : Out := .next (if c then t else s)

/-- A field of the register file. -/
def State.fld (s : State) (f : Fld) (i : Nat) : Nat := getF s.regs f i

/-- Whether a one-bit field is set. -/
def State.flag (s : State) (f : Fld) (i : Nat) : Bool := isSet s.regs f i

/-- A field written. -/
def State.setFld (s : State) (f : Fld) (i v : Nat) : State := { s with regs := setF f i v s.regs }

/-- A one-bit field written. -/
def State.setFlag (s : State) (f : Fld) (i : Nat) (b : Bool) : State := s.setFld f i (ofBit b)

/-- Firmware has published the Device Description Table (R351, R585). -/
def State.ddtReady (s : State) : Bool := s.flag F.HEP_DEV_STAT_DDT_READY 0

/-- A counter field incremented modulo its width (R14). -/
def State.inc (s : State) (f : Fld) (i : Nat) : State := { s with regs := incF f i s.regs }

/-- A counter field raised by `n` modulo its width. -/
def State.bump (s : State) (f : Fld) (i n : Nat) : State := s.setFld f i (s.fld f i + n)

/-- Tile `n`. -/
def State.tile (s : State) (n : Nat) : Tile := Tbl.getD s.tiles n {}
def State.setTile (s : State) (n : Nat) (t : Tile) : State := { s with tiles := Tbl.put {} n t s.tiles }

/-- Submission-side ring `n`, or completion-side ring `n - 16384`. -/
def State.ring (s : State) (n : Nat) : Ring := Tbl.getD s.rng.rings n {}
def State.setRing (s : State) (n : Nat) (r : Ring) : State :=
  { s with rng := { s.rng with rings := Tbl.put {} n r s.rng.rings } }

/-- The key of completion-side identifier `n`. -/
def cqKey (n : Nat) : Nat := 16384 + n

/-- Execution slot `n`. -/
def State.slot? (s : State) (n : Nat) : Option Slot := Tbl.find? n s.rng.slots

/-- The CLASS field of a clause's word 0 (R70). -/
def c0Class (w : Nat) : Nat := field w 11 8

/-- Fields of a command header (R121). -/
def UnitCmd.c (c : UnitCmd) (i : Nat) : Nat := field c.value.toNat (16 * i + 15) (16 * i)
def UnitCmd.unit (c : UnitCmd) : Nat := field (c.c 0) 15 14
def UnitCmd.op (c : UnitCmd) : Nat := field (c.c 0) 13 9
def UnitCmd.rnd (c : UnitCmd) : Bool := bit (c.c 0) 8

/-- The command of a tile with an outstanding tag. -/
def Tile.cmd? (x : Tile) (tag : Nat) : Option UnitCmd := x.cmds.find? (fun c => c.tag == tag)

/-- The completion of a unit command is posted. -/
def isDone : CmdPhase → Bool
  | .done _ => true
  | _ => false

/-- Whether the command or clause of a Geyser operation still stands. -/
def State.geyStands (s : State) : GeySrc → Bool
  | .clause n =>
    match s.slot? n with
    | some x => decide (x.phase = .dispatched ∧ c0Class (wordAt x.words 0) = 3)
    | none => false
  | .unit t tag =>
    match (s.tile t).cmd? tag with
    | some c => decide (c.unit = 3) && !isDone c.phase
    | none => false

/-- The operations in Geyser's table (R305); those of cancelled commands have left it. -/
def State.geyLive (s : State) : List GeyOp := s.gey.ops.filter (fun o => s.geyStands o.src)
def State.setSlot (s : State) (n : Nat) (x : Slot) : State :=
  { s with rng := { s.rng with slots := Tbl.set n x s.rng.slots } }

/-- A range-lock entry or waiting command that slot `n` does not hold. -/
def RangeLock.notOf (n : Nat) (l : RangeLock) : Bool := decide (l.slot ≠ some n)

/-- The range locks of a slot released; waiting commands take freed entries in their order (R387, R388). -/
def State.unlock (s : State) (n : Nat) : State :=
  let kept := s.sto.locks.filter (RangeLock.notOf n)
  let wait := s.sto.lockWait.filter (RangeLock.notOf n)
  { s with sto := { s.sto with
      locks := kept ++ wait.take (1024 - kept.length), lockWait := wait.drop (1024 - kept.length) } }

/-- An execution slot freed, with the range lock that its command holds (R88, R387). -/
def State.freeSlot (s : State) (n : Nat) : State :=
  { s.unlock n with rng := { s.rng with slots := Tbl.del n s.rng.slots } }

/-- Event counter `n` (R107). -/
def State.counter (s : State) (n : Nat) : Word := Tbl.getD s.rng.counters n 0
def State.setCounter (s : State) (n : Nat) (w : Word) : State :=
  { s with rng := { s.rng with counters := Tbl.put 0 n w s.rng.counters } }

/-- The configuration space of function `f`. -/
def State.cfg (s : State) (f : Nat) : FnConfig := Tbl.getD s.hep.cfg f {}
def State.setCfg (s : State) (f : Nat) (c : FnConfig) : State :=
  { s with hep := { s.hep with cfg := Tbl.put {} f c s.hep.cfg } }

/-- Memory unit `u`. -/
def State.unit (s : State) (u : Nat) : UnitState := Tbl.getD s.mem.units u {}
def State.setUnit (s : State) (u : Nat) (x : UnitState) : State :=
  { s with mem := { s.mem with units := Tbl.put {} u x s.mem.units } }

/-- Management core `k`. -/
def State.mcore (s : State) (k : Nat) : Core := Tbl.getD s.mcores k {}
def State.setMcore (s : State) (k : Nat) (c : Core) : State := { s with mcores := Tbl.put {} k c s.mcores }

/-- An interrupt line of every management core pulses (R237, R586). -/
def State.pulseLine (s : State) (l : Nat) : State :=
  (List.range 4).foldl (fun t k => t.setMcore k { t.mcore k with ipend := setField (t.mcore k).ipend l l 1 }) s

/-- The bit of power domain `d` in FUM_PD_STAT.ON set or cleared; an off tile group publishes no pace (R44). -/
def State.setDomain (s : State) (d : Nat) (on : Bool) : State :=
  let s1 := s.setFld F.FUM_PD_STAT_ON 0 (setField (s.fld F.FUM_PD_STAT_ON 0) d d (ofBit on))
  if d < 8 ∧ on = false then s1.setFld (F.GLB_PACE_MON_PACE.at d) 0 0 else s1

/-- The upstream link back in L0, or in L0p, from L1 and its substates, with the PHY's domain on (R371, R372). -/
def State.leaveL1 (s : State) : State :=
  let st := s.fld F.HEP_LINK_STAT_STATE 0
  if st = 3 ∨ st = 4 ∨ st = 5 then
    (s.setFld F.HEP_LINK_STAT_STATE 0 (if s.fld F.HEP_LINK_STAT_L0P_WIDTH 0 = 0 then 1 else 2)).setDomain 29 true
  else s

/-- A TLP crosses the upstream link, which leaves L1 for it; no request is lost (R371, R372). -/
def State.tlp (s : State) : State :=
  let s1 := s.leaveL1
  { s1 with hep := { s1.hep with lastTlp := s1.tb.time } }

/-- A register access of a requester: host software's crosses the upstream link. -/
def State.touch (s : State) (who : Requester) : State :=
  match who with
  | .core _ => s
  | _ => s.tlp

/-- Whether a function exists: the physical function, or a virtual function of an enabled capability (R342). -/
def State.fnExists (s : State) (fn : Nat) : Bool := fn == 0 || (s.hep.vfEnable && decide (fn ≤ s.hep.numVfs))

/-- Device memory and host memory replaced. -/
def State.setDev (s : State) (m : Memory) : State := { s with mem := { s.mem with dev := m } }
def State.setHost (s : State) (m : Memory) : State := { s with mem := { s.mem with host := m } }

/-- One free value taken: the number of the next one advances. -/
def State.tick (s : State) : State := { s with fresh := s.fresh + 1 }

/-- The function that a requester acts for; firmware acts for the physical function (R236, R650). -/
def reqFn : Requester → Nat
  | .pf => 0
  | .core _ => 0
  | .vf f => f

/-- A free bit taken for choice `c`. -/
def State.choice (s : State) (c : Nat) : Bool := Config.freeBit c s.fresh

/-- The number of a requester's selector copies (R650). -/
def reqCode : Requester → Nat
  | .pf => 0
  | .core k => 256 + k
  | .vf f => f

/-- An AER report of a function (R360): 1 Advisory Non-Fatal Error, 2 Completion Timeout, 3 Unexpected Completion,
4 Unsupported Request, 5 Poisoned TLP Received, 6 Corrected Internal Error, 7 Receiver Error, 8 Bad TLP, 9 Bad DLLP, 10 Replay
Timer Timeout, 11 REPLAY_NUM Rollover, 12 Data Link Protocol Error, 13 Flow Control Protocol Error, 14 Malformed TLP,
15 Receiver Overflow. -/
def aerReport (fn err : Nat) (s : State) : State := { s with hep := { s.hep with aer := (fn, err) :: s.hep.aer } }

/-- A Completion Timeout or an Unexpected Completion reported. Whether it is reported as advisory is left open: a free choice
(R360). -/
def aerAdvise (fn err : Nat) (s : State) : State :=
  (if s.choice 0x360 then aerReport fn 1 (aerReport fn err s) else aerReport fn err s).tick

end Sys2Proof.Machine
end

