-- ==== Sys2Proof/Machine/SinterOps.lean ====
section
/-! DEFINITION. Sinter: events and live records (R599 to R602), record sets (R604 to R606), the blocks of its flash region and
their wear (R608, R609, R612). -/

namespace Sys2Proof.Machine

/-! Codes. -/

/-- Codes that a chapter names have VALID = 1; the rest follow their descriptors (R599, R600). -/
def sinterNamed (c : Nat) : Bool :=
  (1 ≤ c && c ≤ 5) || (0x0C0 ≤ c && c ≤ 0x0C3) || (0x140 ≤ c && c ≤ 0x144) || (0x300 ≤ c && c ≤ 0x308) ||
  (0x310 ≤ c && c ≤ 0x317) || (0x320 ≤ c && c ≤ 0x327)

/-- VALID of a code's descriptor. Groups 13 to 15 hold no codes (R599). -/
def sinterIsValid (c : Nat) : Bool := decide (c < 13 * 64) && (sinterNamed c || Config.sinterValid c)

/-- TRIG of a code's descriptor (R600). -/
def sinterTrig (c : Nat) : Bool := [0x003, 0x0C1, 0x142, 0x300, 0x307, 0x322].contains c

/-- UNIT of a code's descriptor (R600, R626): of a named code, the unit of the measure that the table gives it. -/
def sinterUnit (c : Nat) : Nat :=
  if [0x001, 0x143, 0x300, 0x305, 0x306, 0x308, 0x325].contains c then 0
  else if [0x0C2, 0x320].contains c then 2
  else if [0x003, 0x004, 0x304, 0x307].contains c then 4
  else if 0x310 ≤ c ∧ c ≤ 0x317 then 6
  else if c = 0x002 then 7
  else if c = 0x0C0 then 9
  else if sinterNamed c then 5
  else Config.sinterUnit c % 10

/-- LIMIT_S and SHIFT of a code's descriptor, in the widths of their fields (R626). -/
def sinterLimit (c : Nat) : Nat := Config.sinterLimitS c % 65536
def sinterShift (c : Nat) : Nat := Config.sinterShift c % 32

/-! Live records. -/

/-- The bin of a measure (R600). -/
def sinterBin (c m : Nat) : Nat :=
  let v := m >>> sinterShift c
  if Config.sinterLog2 c then (if v = 0 then 0 else min (Nat.log2 v + 1) 15) else min v 15

/-- One update of a live record (R600 to R602). -/
def SinterRec.add (r : SinterRec) (bin m time boot : Nat) : SinterRec :=
  { seq := (r.seq + 1) % 2 ^ 64
    count := Nat.min (r.count + 1) (2 ^ 64 - 1)
    max := Nat.max r.max m
    min := Nat.min r.min m
    last := time
    boot := boot
    bins := Tbl.set bin (Nat.min (Tbl.getD r.bins bin 0 + 1) (2 ^ 32 - 1)) r.bins }

/-- An event recorded in its code's live record; a measure is limited to 32 bits, and is 0 for a code without a unit (R600). -/
def sinterRecord (c m : Nat) (s : State) : State :=
  if sinterIsValid c then
    let m := if sinterUnit c = 0 then 0 else min m (2 ^ 32 - 1)
    { s with snt := { s.snt with
        recs := Tbl.set c ((Tbl.getD s.snt.recs c {}).add (sinterBin c m) m s.tb.time s.snt.boots) s.snt.recs } }
  else s

/-! Record sets. -/

/-- CAUSE of a record set (R610); the causes in the reverse of their precedence (R604). -/
def causeRank : SetCause → Nat
  | .periodic => 0
  | .fault => 1
  | .pwrfail => 2
  | .thermtrip => 3

/-- A record set taken into the buffer (R604, R606). One that waits there and was taken at this same instant is the same record
set: it keeps its index, and the cause that comes first of the two. -/
def sinterTake (cause : SetCause) (code bytes : Nat) (s : State) : State :=
  let set (i : Nat) (c : SetCause) (k : Nat) : RecordSet :=
    { index := i, cause := c, code := k, time := s.tb.time, boot := s.snt.boots, epoch := s.fum.records.epoch
      recs := s.snt.recs, bytes := bytes }
  match s.snt.buffer.getLast? with
  | some r =>
    if r.time = s.tb.time ∧ r.boot = s.snt.boots then
      let x := if causeRank r.cause < causeRank cause then set r.index cause code else set r.index r.cause r.code
      { s with snt := { s.snt with
          buffer := s.snt.buffer.dropLast ++ [x], bufBytes := s.snt.bufBytes - r.bytes + bytes } }
    else
      { s with snt := { s.snt with
          buffer := s.snt.buffer ++ [set s.snt.next cause code]
          bufBytes := s.snt.bufBytes + bytes, next := s.snt.next + 1 } }
  | none =>
    { s with snt := { s.snt with
        buffer := [set s.snt.next cause code], bufBytes := s.snt.bufBytes + bytes, next := s.snt.next + 1 } }

/-- The flash form of the next record set, bytes, where no command gives it: at most 64 KiB (R606). -/
def State.setBytes (s : State) : Nat := min (Config.setBytes s.snt.next) 65536

/-- Whether a TRIG code may take a FAULT record set now (R605). -/
def sinterMayTrigger (c : Nat) (s : State) : Bool :=
  (match Tbl.find? c s.snt.lastTrig with
   | none => true
   | some t => decide (t + sinterLimit c * 1000000000 ≤ s.tb.time)) &&
  (match s.snt.lastFault with
   | none => true
   | some t => decide (t + 1000000000 ≤ s.tb.time))

/-- An event in its live record, and for a TRIG code the FAULT record set in the buffer, or SNAPSHOT_SUPPRESSED (R600, R605). -/
def sinterNote (c m : Nat) (s : State) : State :=
  let s1 := sinterRecord c m s
  if sinterTrig c then
    if sinterMayTrigger c s then
      let s2 := sinterTake .fault c s1.setBytes s1
      { s2 with snt := { s2.snt with lastTrig := Tbl.set c s.tb.time s2.snt.lastTrig, lastFault := some s.tb.time } }
    else sinterRecord 0x324 c s1
  else s1

/-! The blocks of the Sinter region (R571, R608, R609, R612). Blocks are numbered from the first block of the region; blocks 559
to 622 are the spares at manufacture. A record set lies whole in one block. -/

/-- Sinter's flash after `f`. -/
def State.onSnt (s : State) (f : Sinter → Sinter) : State := { s with snt := f s.snt }

/-- A block's number in the flash, which its events carry as their measure (R571, R600). -/
def flashBlock (b : Nat) : Nat := 0x191 + b

/-- Erased blocks: those that nothing has used, and those erased again. -/
def Sinter.erasedCount (x : Sinter) : Nat := 559 - x.used + x.erased.length

/-- Blocks of the circular area, besides the two erased blocks of R606. -/
def Sinter.circBlocks (x : Sinter) : Nat := (x.blocks.filter (fun b => !b.perm)).length + x.erasedCount - 2

/-- An erased block taken. -/
def State.takeErased (s : State) : State × Option Nat :=
  if s.snt.used < 559 then (s.onSnt (fun x => { x with used := x.used + 1 }), some s.snt.used)
  else
    match s.snt.erased with
    | b :: r => (s.onSnt (fun x => { x with erased := r }), some b)
    | [] => (s, none)

/-- Block `b` retired (R612). With the spares used, its replacement comes from the circular area: CIRC_CAP falls by one,
the recorder is degraded, and event 0xC001 is due. -/
def State.retireNote (s : State) (b : Nat) : State :=
  let s1 := sinterNote 0x322 (flashBlock b) (s.onSnt (fun x => { x with retired := x.retired + 1 }))
  if 0 < s1.snt.spares then s1
  else
    sinterRecord 0x323 (flashBlock b) (s1.onSnt (fun x => { x with
      circCap := x.circCap - 1, degraded := true, notices := x.notices ++ [x.circCap - 1] }))

/-- A spare block taken. -/
def State.takeSpare (s : State) : State × Option Nat :=
  if 0 < s.snt.spares then (s.onSnt (fun x => { x with spares := x.spares - 1 }), some (559 + (64 - s.snt.spares)))
  else (s, none)

/-- The block that replaces a retired one: a spare, else one that the circular area gives (R612). -/
def State.replacement (s : State) : State × Option Nat :=
  match s.takeSpare with
  | (t, some b) => (t, some b)
  | (t, none) => t.takeErased

/-- Block `b` erased: free again, or retired where the erase fails its verification or is the block's 100,000th. The outcome of
each operation of the flash is a free value (R612). -/
def State.eraseBlock (s : State) (b : Nat) : State :=
  let n := Tbl.getD s.snt.erases b 0 + 1
  let s1 := s.onSnt (fun x => { x with ops := x.ops + 1, erases := Tbl.set b n x.erases })
  if Config.flashErased s.snt.ops ∧ n < 100000 then s1.onSnt (fun x => { x with erased := x.erased ++ [b] })
  else
    match (s1.retireNote b).takeSpare with
    | (s2, some c) => s2.onSnt (fun x => { x with erased := x.erased ++ [c] })
    | (s2, none) => s2

/-- Two erased blocks in reserve (R606): while fewer stand, the circular area's oldest block is erased and what it held is
dropped. Where the block is given up to the permanent area, CIRC_CAP falls by the record sets that it held (R608, R609). -/
def State.keepReserve (give : Bool) : Nat → State → State
  | 0, s => s
  | n + 1, s =>
    if 2 ≤ s.snt.erasedCount then s
    else
      match s.snt.blocks.find? (fun b => !b.perm) with
      | none => s
      | some b =>
        let lost (r : RecordSet) : Bool := !r.perm && b.sets.contains r.index
        let held := (s.snt.stored.filter lost).length
        State.keepReserve give n ((s.onSnt (fun x => { x with
          blocks := x.blocks.filter (fun y => y.no != b.no)
          stored := x.stored.filter (fun r => !lost r)
          circCap := if give then x.circCap - held else x.circCap })).eraseBlock b.no)

/-- A block opened for an area. -/
def State.openBlock (s : State) (perm : Bool) : State × Option Nat :=
  match s.takeErased with
  | (s1, some b) =>
    let s2 := s1.onSnt (fun x => { x with blocks := x.blocks ++ [{ no := b, perm := perm }] })
    (State.keepReserve perm s2.snt.blocks.length s2, some b)
  | (s1, none) => (s1, none)

/-- `n` pages programmed in block `b`: each has its program time, at most that of 4 MB/s, and its retries, free values of the
flash; the time that all took, ns. A page that needs more than 3 retries ends the run (R600, R607, R612). -/
def State.programPages (b : Nat) : Nat → State → State × Nat × Bool
  | 0, s => (s, 0, true)
  | n + 1, s =>
    let us := min (Config.flashTime s.snt.ops) 64
    let k := Config.flashRetries s.snt.ops
    let s1 := sinterRecord 0x320 us (s.onSnt (fun x => { x with ops := x.ops + 1 }))
    let s2 := (List.range k).foldl (fun t _ => sinterRecord 0x321 (flashBlock b) t) s1
    if 3 < k then (s2, us * 1000, false)
    else
      let r := programPages b n s2
      (r.1, us * 1000 + r.2.1, r.2.2)

/-- `n` pages programmed in block `b`. A block that must be retired is replaced, and `all` pages, those that it held with the new
ones, are programmed in its replacement (R612). The block that holds them in the end, none where no block is left. -/
def State.programIn (all : Nat) : Nat → Nat → Nat → State → State × Nat × Option Nat
  | 0, _, _, s => (s, 0, none)
  | f + 1, b, n, s =>
    match s.programPages b n with
    | (s1, t, true) => (s1, t, some b)
    | (s1, t, false) =>
      match (s1.retireNote b).replacement with
      | (s3, none) => (s3, t, none)
      | (s3, some c) =>
        let s4 := s3.onSnt (fun x => { x with blocks := x.blocks.map (fun y => if y.no = b then { y with no := c } else y) })
        let r := programIn all f c all (State.keepReserve false s4.snt.blocks.length s4)
        (r.1, t + r.2.1, r.2.2)

/-- Pages of 256 bytes that a flash form takes. -/
def formPages (n : Nat) : Nat := (n + 255) / 256

/-- The block of an area that has room for `n` bytes. -/
def Sinter.room (x : Sinter) (perm : Bool) (n : Nat) : Option SntBlock :=
  match (x.blocks.filter (fun b => b.perm == perm)).getLast? with
  | some b => if b.bytes + 256 * formPages n ≤ 65536 then some b else none
  | none => none

/-- The block in which an area's next record set of `n` bytes goes; one is opened where none has room. -/
def State.roomFor (s : State) (perm : Bool) (n : Nat) : State × Option Nat :=
  match s.snt.room perm n with
  | some b => (s, some b.no)
  | none => s.openBlock perm

/-- The permanent area closes at record set `i`, which needs a block that the circular area may not give (R609). -/
def State.permGate (s : State) (r : RecordSet) : State :=
  if r.index < 4096 ∧ s.snt.permClosed = false ∧ (s.snt.room true r.bytes).isNone ∧ s.snt.circBlocks ≤ 32 then
    sinterRecord 0x327 r.index (s.onSnt (fun x => { x with permClosed := true }))
  else s

/-- The record sets that stay after `i` is stored: the permanent ones, and the most recent CIRC_CAP of the circular area
(R608). -/
def heldSets (cap i : Nat) (l : List RecordSet) : List RecordSet :=
  l.filter (fun r => r.perm || decide (i < r.index + cap))

/-- A record set written to flash, with its end marker (R606, R608, R609). -/
def State.storeSet (s : State) (r : RecordSet) : State :=
  let s1 := s.permGate r
  let perm := decide (r.index < 4096) && !s1.snt.permClosed
  match s1.roomFor perm r.bytes with
  | (s2, none) => s2
  | (s2, some b) =>
    let had := ((s2.snt.blocks.find? (fun y => y.no == b)).map SntBlock.bytes).getD 0 / 256
    let n := formPages r.bytes
    match s2.programIn (had + n) (s2.snt.spares + s2.snt.erasedCount + s2.snt.blocks.length + 1) b n with
    | (s3, _, none) => s3
    | (s3, t, some c) =>
      let done := max s.tb.time s3.snt.flushed + t
      s3.onSnt (fun x => { x with
        flushed := done
        blocks := x.blocks.map (fun y =>
          if y.no = c then { y with bytes := y.bytes + 256 * n, sets := y.sets ++ [r.index] } else y)
        stored := heldSets x.circCap r.index (x.stored ++ [{ r with perm := perm, doneAt := done }]) })

/-- The buffered record sets written in index order, those that a retirement adds too (R606, R607). -/
def State.flushSets : Nat → State → State
  | 0, s => s
  | n + 1, s =>
    match s.snt.buffer with
    | [] => s
    | r :: t => State.flushSets n ((s.onSnt (fun x => { x with buffer := t })).storeSet r)

/-- A flush (R606). No more than one record set joins the buffer meanwhile (R605). -/
def sinterFlush (s : State) : State :=
  { s with snt := { (s.flushSets (s.snt.buffer.length + 1)).snt with buffer := [], bufBytes := 0 } }

/-- A Sinter event of code `c` with measure `m`: its record, and for a TRIG code the FAULT record set with its flush,
or SNAPSHOT_SUPPRESSED (R600, R604 to R606). -/
def sinterEvent (c m : Nat) (s : State) : State :=
  if sinterTrig c ∧ sinterMayTrigger c s = true then sinterFlush (sinterNote c m s) else sinterNote c m s

end Sys2Proof.Machine
end

