-- ==== Sys2Proof/Machine/Crc.lean ====
section
/-! DEFINITION. The CRC units and their stream taps (R613 to R616). -/

namespace Sys2Proof.Machine

/-- The parameters of a CRC (R613). -/
structure CrcModel where
  width : Nat
  poly : Nat
  init : Nat
  xor : Nat
  refin : Bool
  refout : Bool
deriving DecidableEq, Repr

/-- The `w` bits of a number in reverse order. -/
def reverseBits (w v : Nat) : Nat := (List.range w).foldl (fun a i => 2 * a + (v >>> i) % 2) 0

/-- One bit folded (R613). -/
def crcBit (w poly v b : Nat) : Nat :=
  let t := (v >>> (w - 1) + b) % 2
  let v1 := (2 * v) % 2 ^ w
  if t = 1 then v1 ^^^ poly else v1

/-- One byte folded (R613). -/
def crcByte (m : CrcModel) (v : Nat) (b : Byte) : Nat :=
  let x := if m.refin then reverseBits 8 b.toNat else b.toNat
  (List.range 8).foldl (fun v i => crcBit m.width m.poly v ((x >>> (7 - i)) % 2)) v

/-- Bytes folded in order. -/
def crcFold (m : CrcModel) (v : Nat) (l : List Byte) : Nat := l.foldl (crcByte m) v

/-- The final value (R613). -/
def crcFinal (m : CrcModel) (v : Nat) : Nat := (if m.refout then reverseBits m.width v else v) ^^^ m.xor

/-- The CRC of a byte string. -/
def crcOf (m : CrcModel) (l : List Byte) : Nat := crcFinal m (crcFold m m.init l)

/-- CRC-16 of R406. -/
def crc16 : CrcModel := ⟨16, 0x8BB7, 0, 0, false, false⟩

/-- CRC-64 of R406. -/
def crc64 : CrcModel := ⟨64, 0xAD93D23594C93659, 0xFFFFFFFFFFFFFFFF, 0xFFFFFFFFFFFFFFFF, true, true⟩

/-- CRC-32C of R613 and of the flow hash. -/
def crc32c : CrcModel := ⟨32, 0x1EDC6F41, 0xFFFFFFFF, 0xFFFFFFFF, true, true⟩

/-- Whether the checkpoint engine owns a unit (R616). -/
def State.crcCkp (s : State) (u : Nat) : Bool :=
  s.fld F.CKP_CRC_TX_UNIT 0 == u || s.fld F.CKP_CRC_RX_UNIT 0 == u

/-- Whether the storage engine owns a unit (R616). -/
def State.crcSto (s : State) (u : Nat) : Bool := bit (s.fld F.STO_DEV_CTL_CRC_UNITS 0) u && !s.crcCkp u

/-- Whether host software owns a unit. -/
def State.crcHost (s : State) (u : Nat) : Bool := !s.crcCkp u && !s.crcSto u

/-- The storage engine has a unit for its guards (R616). -/
def State.stoCrc (s : State) : Bool := (List.range 16).any s.crcSto

/-- The programmed model of a unit. -/
def State.crcModel (s : State) (u : Nat) : CrcModel :=
  { width := s.fld F.SNT_CRC_CFG_WIDTH u
    poly := s.fld F.SNT_CRC_POLY_POLY u
    init := s.fld F.SNT_CRC_INIT_INIT u
    xor := s.fld F.SNT_CRC_XOR_XOR u
    refin := s.flag F.SNT_CRC_CFG_REFIN u
    refout := s.flag F.SNT_CRC_CFG_REFOUT u }

/-- Whether a unit of host software folds the bytes of a tap with a stream tag (R614, R615, R588). -/
def State.crcTaps (s : State) (tap tag u : Nat) : Bool :=
  s.flag F.SNT_CRC_CFG_EN u && s.fld F.SNT_CRC_CFG_TAP u == tap && s.crcHost u &&
  (!s.flag F.SNT_CRC_CFG_MATCH_EN u || s.fld F.SNT_CRC_CFG_MATCH u == tag)

/-- Bytes that pass a stream tap (R614). -/
def State.snoop (s : State) (tap tag : Nat) (l : List Byte) : State :=
  (List.range 16).foldl (fun t u =>
    if s.crcTaps tap tag u then
      t.setFld F.SNT_CRC_VALUE_VALUE u (crcFold (s.crcModel u) (s.fld F.SNT_CRC_VALUE_VALUE u) l)
    else t) s

/-- CRC_LOAD (R615): a unit's VALUE becomes INIT. The owning engine's units take no LOAD from software (R616). -/
def execCrcLoad (unit : Nat) (s : State) : Out :=
  when (unit < 16 ∧ s.flag F.SNT_CRC_CFG_LOAD unit = true) (
    let s1 := s.setFlag F.SNT_CRC_CFG_LOAD unit false
    if s.crcHost unit then s1.setFld F.SNT_CRC_VALUE_VALUE unit (s.fld F.SNT_CRC_INIT_INIT unit) else s1) s

end Sys2Proof.Machine
end

