-- ==== Sys2Proof/Machine/Mem.lean ====
section
/-! DEFINITION. Memory: bytes and ranges of unspecified contents, the address map (R19 to R21), placement on memory
units (R310, R313), poison (R316), power domains (R23, R587), ECC events (R315, R316). -/

namespace Sys2Proof.Machine

/-- A byte of a memory. -/
def Memory.read (m : Memory) (a : Nat) : Byte :=
  match Tbl.find? a m.cells with
  | some b => b
  | none =>
    match m.junk.find? (fun j => decide (j.lo ≤ a ∧ a < j.hi)) with
    | some j => Config.freeByte j.seed a
    | none => 0

/-- A range of unspecified contents without the addresses [lo, hi). -/
def Junk.cut (lo hi : Nat) (j : Junk) : List Junk :=
  (if j.lo < min lo j.hi then [{ j with hi := min lo j.hi }] else []) ++
  (if max hi j.lo < j.hi then [{ j with lo := max hi j.lo }] else [])

/-- One byte written. -/
def Memory.write (a : Nat) (b : Byte) (m : Memory) : Memory :=
  { cells := Tbl.put 0 a b m.cells, junk := m.junk.flatMap (Junk.cut a (a + 1)) }

/-- Consecutive bytes written. -/
def Memory.writeList (a : Nat) : List Byte → Memory → Memory
  | [], m => m
  | b :: t, m => Memory.writeList (a + 1) t (m.write a b)

/-- Consecutive bytes read. -/
def Memory.readList (m : Memory) (a n : Nat) : List Byte := (List.range n).map (fun i => m.read (a + i))

/-- Addresses [lo, hi) of unspecified contents, numbered by `seed`. -/
def Memory.spoil (lo hi seed : Nat) (m : Memory) : Memory :=
  if lo < hi then
    { cells := m.cells.filter (fun c => !decide (lo ≤ c.1 ∧ c.1 < hi))
      junk := ⟨lo, hi, seed⟩ :: m.junk.flatMap (Junk.cut lo hi) }
  else m

/-- Addresses [lo, hi) erased to zero. -/
def Memory.erase (lo hi : Nat) (m : Memory) : Memory :=
  if lo < hi then
    { cells := m.cells.filter (fun c => !decide (lo ≤ c.1 ∧ c.1 < hi)), junk := m.junk.flatMap (Junk.cut lo hi) }
  else m

/-- The canonical form of a memory: addresses strictly rising, no listed zero; a listed address lies in no range of
unspecified contents. -/
def Memory.wf (m : Memory) : Bool :=
  Tbl.wf 0 m.cells &&
  m.cells.all (fun c => m.junk.all (fun j => !decide (j.lo ≤ c.1 ∧ c.1 < j.hi)))

/-! Regions of the device physical address space (R19 to R21). -/

def nearEnd : Nat := 0x00C000000000
def capBase : Nat := 0x010000000000
def sharedBase : Nat := 0x080000000000
def sharedEnd : Nat := 0x080004000000
def tileBase : Nat := 0x090000000000
def tileEnd : Nat := 0x090010000000
def hostBase : Nat := 0x800000000000

/-- The end of the installed capacity tier (R21, R312). -/
def State.capEnd (s : State) : Nat := capBase + s.fld F.MEM_CAP_STAT_INSTALLED_GIB 0 * 2 ^ 30

/-- Regions of R19. -/
inductive Region where
  | near | cap | shared | tile | host | hole
deriving DecidableEq, Repr

/-- The region of a device physical address (R19, R21). -/
def State.region (s : State) (a : Nat) : Region :=
  if a < nearEnd then .near
  else if capBase ≤ a ∧ a < s.capEnd then .cap
  else if sharedBase ≤ a ∧ a < sharedEnd then .shared
  else if tileBase ≤ a ∧ a < tileEnd then .tile
  else if hostBase ≤ a ∧ a < 2 ^ 48 then .host
  else .hole

/-- The first device address of the SRAM window of tile `n` (R20). -/
def sramBase (n : Nat) : Nat := tileBase + n * 0x200000

/-- The mode field of band `b` (R309). -/
def bandMode (b : Nat) : Fld :=
  match b % 32 with
  | 0 => F.MEM_BAND_MODE_MODE_0 | 1 => F.MEM_BAND_MODE_MODE_1 | 2 => F.MEM_BAND_MODE_MODE_2
  | 3 => F.MEM_BAND_MODE_MODE_3 | 4 => F.MEM_BAND_MODE_MODE_4 | 5 => F.MEM_BAND_MODE_MODE_5
  | 6 => F.MEM_BAND_MODE_MODE_6 | 7 => F.MEM_BAND_MODE_MODE_7 | 8 => F.MEM_BAND_MODE_MODE_8
  | 9 => F.MEM_BAND_MODE_MODE_9 | 10 => F.MEM_BAND_MODE_MODE_10 | 11 => F.MEM_BAND_MODE_MODE_11
  | 12 => F.MEM_BAND_MODE_MODE_12 | 13 => F.MEM_BAND_MODE_MODE_13 | 14 => F.MEM_BAND_MODE_MODE_14
  | 15 => F.MEM_BAND_MODE_MODE_15 | 16 => F.MEM_BAND_MODE_MODE_16 | 17 => F.MEM_BAND_MODE_MODE_17
  | 18 => F.MEM_BAND_MODE_MODE_18 | 19 => F.MEM_BAND_MODE_MODE_19 | 20 => F.MEM_BAND_MODE_MODE_20
  | 21 => F.MEM_BAND_MODE_MODE_21 | 22 => F.MEM_BAND_MODE_MODE_22 | 23 => F.MEM_BAND_MODE_MODE_23
  | 24 => F.MEM_BAND_MODE_MODE_24 | 25 => F.MEM_BAND_MODE_MODE_25 | 26 => F.MEM_BAND_MODE_MODE_26
  | 27 => F.MEM_BAND_MODE_MODE_27 | 28 => F.MEM_BAND_MODE_MODE_28 | 29 => F.MEM_BAND_MODE_MODE_29
  | 30 => F.MEM_BAND_MODE_MODE_30 | _ => F.MEM_BAND_MODE_MODE_31

def bandBytes : Nat := 0x300000000

/-- The interleave mode in force in band `b`: the register's, unless a change of it still waits (R311). -/
def State.modeOf (s : State) (b : Nat) : Nat :=
  Tbl.getD s.mem.bandMode b 0

/-- Stack and offset within the band's gibibyte of offset `o` of a band (R310). -/
def bandPlace (mode o : Nat) : Nat × Nat :=
  match mode with
  | 1 =>
    if o < 6 * 2 ^ 30 then
      let u := o / 4096
      (u % 6, u / 6 * 4096 + o % 4096)
    else
      let u := (o - 6 * 2 ^ 30) / 4096
      (6 + u % 6, u / 6 * 4096 + o % 4096)
  | 2 => (o / 2 ^ 30, o % 2 ^ 30)
  | _ =>
    let u := o / 4096
    (u % 12, u / 12 * 4096 + o % 4096)

/-- The populated channels in increasing number (R312). -/
def State.channels (s : State) : List Nat :=
  (List.range 8).filter (fun c => bit (s.fld F.MEM_CAP_STAT_POPULATED 0) c)

/-- The memory unit and unit-local address of a device address: units 0 to 19, 20 for shared SRAM,
0x100 + n for the SRAM of tile n (R308, R310, R313, R657). -/
def State.place (s : State) (a : Nat) : Option (Nat × Nat) :=
  match s.region a with
  | .near =>
    let b := a / bandBytes
    let p := bandPlace (s.modeOf b) (a % bandBytes)
    some (p.1, b * 2 ^ 30 + p.2)
  | .cap =>
    let n := s.channels.length
    let u := (a - capBase) / 4096
    some (12 + s.channels.getD (u % n) 0, u / n * 4096 + a % 4096)
  | .shared => some (20, a - sharedBase)
  | .tile => some (0x100 + (a - tileBase) / 0x200000, a % 0x200000)
  | _ => none

/-- Bytes of a block of ECC protection of a unit (R314, R657, R119). -/
def unitBlock (u : Nat) : Nat := if u < 20 then 64 else 8

/-- The key of the poison mark of a device address. -/
def State.poisonKey (s : State) (a : Nat) : Option Nat :=
  (s.place a).map (fun p => p.1 * 2 ^ 44 + p.2 / unitBlock p.1)

/-- Whether the block that holds a device address is poisoned (R316). -/
def State.poisoned (s : State) (a : Nat) : Bool :=
  match s.poisonKey a with
  | some k => Tbl.getD s.mem.poison k false
  | none => false

/-- The first address of every block of `b` bytes that meets [a, a + n). -/
def blocksOf (b a n : Nat) : List Nat :=
  if n = 0 then [] else (List.range ((a + n - 1) / b - a / b + 1)).map (fun i => (a / b + i) * b)

/-- Block size at a device address. -/
def State.blockAt (s : State) (a : Nat) : Nat :=
  match s.place a with
  | some p => unitBlock p.1
  | none => 64

/-- The poisoned blocks of a device range, by device address of the block. -/
def State.poisonIn (s : State) (a n : Nat) : List Nat :=
  (blocksOf (s.blockAt a) a n).filter s.poisoned

/-- The mark of the block at a device address set or cleared. -/
def State.markPoison (s : State) (a : Nat) (p : Bool) : State :=
  match s.poisonKey a with
  | some k => { s with mem := { s.mem with poison := Tbl.put false k p s.mem.poison } }
  | none => s

/-- The mark of the block `b`, of `bs` bytes, cleared where the write [a, a + n) covers it whole (R316). -/
def clearWhole (bs a n : Nat) (s : State) (b : Nat) : State :=
  if a ≤ b ∧ b + bs ≤ a + n then s.markPoison b false else s

/-- Blocks of a range that a write of it covers only in part and that are poisoned (R318). -/
def State.partialPoison (s : State) (a n : Nat) : Bool :=
  (blocksOf (s.blockAt a) a n).any (fun b =>
    s.poisoned b && !decide (a ≤ b ∧ b + s.blockAt a ≤ a + n))

/-! Reservations (R229). -/

/-- Whether a reservation names memory `m` and a block that meets [lo, hi). Memory 0 is device memory. -/
def rsvHit (m lo hi : Nat) (r : Option (Nat × Nat)) : Bool :=
  match r with
  | some (k, b) => decide (k = m ∧ lo / 64 ≤ b ∧ b ≤ (hi - 1) / 64)
  | none => false

/-- A core after another writer's write to [lo, hi) of memory `m`: a reservation of a block that it meets ends (R231). -/
def Core.endRsv (m lo hi : Nat) (c : Core) : Core :=
  { c with rsv := if rsvHit m lo hi c.rsv then none else c.rsv }

/-- Every core after a write to [lo, hi) of memory `m` (R229). -/
def State.endRsv (s : State) (m lo hi : Nat) : State :=
  if lo < hi then
    { s with
      tiles := s.tiles.map (fun t => (t.1, { t.2 with core := t.2.core.endRsv m lo hi }))
      mcores := s.mcores.map (fun c => (c.1, c.2.endRsv m lo hi)) }
  else s

/-- Device memory changed at [a, a + n): reservations of its blocks end. -/
def State.devPut (s : State) (a n : Nat) (m : Memory) : State := (s.endRsv 0 a (a + n)).setDev m

/-- Device bytes written, whole poisoned blocks cleared (R316). The caller has tested R318. -/
def State.devWrite (s : State) (a : Nat) (bs : List Byte) : State :=
  let s1 := s.devPut a bs.length (s.mem.dev.writeList a bs)
  if s.mem.poison.isEmpty then s1
  else (blocksOf (s.blockAt a) a bs.length).foldl (clearWhole (s.blockAt a) a bs.length) s1

/-- Device bytes read. -/
def State.devRead (s : State) (a n : Nat) : List Byte := s.mem.dev.readList a n

/-- A device range given unspecified contents. -/
def State.spoil (s : State) (a n : Nat) : State :=
  (s.devPut a n (s.mem.dev.spoil a (a + n) s.fresh)).tick

/-! Power domains (R587, R588). -/

/-- Whether a domain may be used: ready, waking, or off or refusing new work (R588). -/
inductive DomState where
  | ready | waking | off
deriving DecidableEq, Repr

def State.domain (s : State) (d : Nat) : DomState :=
  if bit (s.fld F.FUM_PD_STAT_PENDING_OFF 0) d then .off
  else if bit (s.fld F.FUM_PD_STAT_ON 0) d then .ready
  else if Tbl.has s.fum.waking d then .waking
  else .off

/-- Whether a domain is on: ready, or refusing new work until it switches off (R588). What has been admitted runs on. -/
def State.domOn (s : State) (d : Nat) : Bool := bit (s.fld F.FUM_PD_STAT_ON 0) d

/-- The power domain of a memory unit (R587); none for shared SRAM. -/
def unitDomain (u : Nat) : Option Nat :=
  if u < 12 then some (10 + u / 2)
  else if u < 16 then some 16
  else if u < 20 then some 17
  else if 0x100 ≤ u then some ((u - 0x100) / 16)
  else none

/-- The state of the domain behind a device address. -/
def State.domainAt (s : State) (a : Nat) : DomState :=
  match s.place a with
  | some p =>
    match unitDomain p.1 with
    | some d => s.domain d
    | none => .ready
  | none => .ready

/-! ECC events (R315, R316, R657, R119). -/

/-- The device address of the block that holds `a`. -/
def State.blockBase (s : State) (a : Nat) : Nat := a / s.blockAt a * s.blockAt a

/-- MEM_ECC_LOG of a unit written (R315, R316). -/
def eccLog (u a : Nat) (ue : Bool) (s : State) : State :=
  ((s.setFlag F.MEM_ECC_LOG_VALID u true).setFlag F.MEM_ECC_LOG_UE u ue).setFld F.MEM_ECC_LOG_ADDR u a

/-- Whether the code of a memory corrects an error: it is confined to one symbol, one DRAM device or one bit (R314, R119). -/
def eccCorrectable (e : EccEvent) : Bool := decide (e.units ≤ 1)

/-- Symbols or bits that a correction reports: a corrected DRAM device may hold several (R315, R657). -/
def eccMeasure (u : Nat) (e : EccEvent) : Nat := if 12 ≤ u ∧ u < 20 then e.symbols else 1

/-- A correctable error (R315); tile SRAM errors count in SRAM_CE of the tile (R119, R657). -/
def eccCorrect (e : EccEvent) (s : State) : State :=
  match s.place e.addr with
  | some p =>
    let s1 :=
      if p.1 ≤ 20 then eccLog p.1 (s.blockBase e.addr) false (s.inc F.MEM_ECC_STAT_CE_CNT p.1)
      else s.inc F.CAL_TILE_CNT_SRAM_CE (p.1 - 0x100)
    sinterEvent 0x0C0 (eccMeasure p.1 e) s1
  | none => s

/-- An uncorrectable error: the block is poisoned (R316, R119). A block that is poisoned already only reports poison. -/
def eccUncorrect (e : EccEvent) (s : State) : State :=
  if s.poisoned e.addr then s
  else
    match s.place e.addr with
    | some p =>
      let s1 := s.markPoison e.addr true
      let s2 :=
        if p.1 ≤ 20 then eccLog p.1 (s.blockBase e.addr) true (s1.inc F.MEM_ECC_STAT_UE_CNT p.1) else s1
      sinterEvent 0x0C1 p.1 s2
    | none => s

/-- The ECC errors that a read of the device range [a, a + n) finds. -/
def State.eccFind (s : State) (ecc : List EccEvent) (a n : Nat) : State :=
  ecc.foldl (fun s e =>
    if s.blockBase a ≤ e.addr ∧ e.addr < a + n + s.blockAt a ∧ s.blockBase e.addr < a + n then
      (if eccCorrectable e then eccCorrect e s else eccUncorrect e s)
    else s) s

end Sys2Proof.Machine
end

