-- ==== Sys2Proof/Machine/Access.lean ====
section
/-! DEFINITION. Checked access to memory: access windows (R323 to R325, R658), translation (R326 to R330), reads and
writes of ranges for a function. -/

namespace Sys2Proof.Machine

/-- The outcome of a check or of an access: a value, a failure with its status code, or a wait (a waking domain, a
retraining unit, a band whose mode changes, a function in D3hot). -/
inductive Res (α : Type) where
  | ok (a : α)
  | fail (st : Nat)
  | wait
deriving DecidableEq, Repr

/-- The 4 KiB pages that meet a range, by first address. -/
def pagesOf (a n : Nat) : List Nat := blocksOf 4096 a n

/-- Whether some window of function `fn` covers a page and allows the access (R323). -/
def State.windowAllows (s : State) (fn : Nat) (wr : Bool) (page : Nat) : Bool :=
  (List.range 16).any (fun w =>
    s.flag ((if wr then F.MEM_WIN_BASE_WR else F.MEM_WIN_BASE_RD).at w) fn &&
    decide (s.fld (F.MEM_WIN_BASE_BASE.at w) fn ≤ page / 4096 ∧ page / 4096 ≤ s.fld (F.MEM_WIN_LIMIT_LIMIT.at w) fn))

/-- The first address of the buddy area and its size in bytes (R333). -/
def State.buddyBase (s : State) : Nat := s.fld F.MEM_BUDDY_STAT_BASE 0
def State.buddySize (s : State) : Nat := s.fld F.MEM_BUDDY_STAT_APPLIED_GIB 0 * 2 ^ 30

def State.inBuddy (s : State) (a : Nat) : Bool := decide (s.buddyBase ≤ a ∧ a < s.buddyBase + s.buddySize)

/-- Whether a unit is being retrained, so that its accesses wait (R322). -/
def State.retraining (s : State) (u : Nat) : Bool :=
  s.mem.maint.any (fun m => decide (m.act = .retrain ∧ m.unit = u) && m.running)

/-- Whether every access to a page is held, an admitted one too: its unit retrains (R322). -/
def State.pageHeld (s : State) (page : Nat) : Bool :=
  match s.place page with | some p => s.retraining p.1 | none => false

/-- Whether an admitted access to a range is held (R322). -/
def State.rangeHeld (s : State) (a n : Nat) : Bool := (pagesOf a n).any s.pageHeld

/-- Whether an access to a mapped, allowed page has to wait (R311, R322, R588). -/
def State.pageWaits (s : State) (page : Nat) : Bool :=
  decide (s.domainAt page = .waking) ||
  (decide (s.region page = .near) && Tbl.has s.mem.bandWait (page / bandBytes)) ||
  s.pageHeld page

/-- The check of a range in the order of R658. Pages of the host window pass here and are checked when their
translation resolves (R324). `buddy` admits the checkpoint engine to the buddy area (R325). -/
def State.checkRange (s : State) (fn : Nat) (wr buddy : Bool) (a n : Nat) : Res Unit :=
  let ps := pagesOf a n
  let dev := ps.filter (fun p => decide (s.region p ≠ .host))
  if ps.any (fun p => decide (s.region p = .hole)) then .fail St.ADDRESS_UNMAPPED
  else if dev.any (fun p => (s.inBuddy p && !buddy) || !(buddy && s.inBuddy p) && !s.windowAllows fn wr p) then
    .fail St.WINDOW_VIOLATION
  else if dev.any (fun p => decide (s.domainAt p = .off)) then .fail St.DOMAIN_OFF
  else if dev.any s.pageWaits then .wait
  else .ok ()

/-- A refused access or walk counted for its function (R339: WINDOW_CNT, WALK_CNT, DEVREG_CNT). -/
def State.refuse (s : State) (fn st : Nat) : State :=
  if st = St.WINDOW_VIOLATION then s.inc F.MEM_FN_STAT_WINDOW_CNT fn
  else if st = St.WALK_FAULT then s.inc F.MEM_FN_STAT_WALK_CNT fn
  else if st = St.WALK_DEVICE_REGION then s.inc F.MEM_FN_STAT_DEVREG_CNT fn
  else s

/-! Translation. -/

/-- Sizes of BAR0, BAR2 and BAR4 of a function (R346). -/
def barSizes (f : Nat) : Nat × Nat × Nat :=
  if f = 0 then (16 * 2 ^ 20, 2 ^ 20, 16 * 2 ^ 10) else (64 * 2 ^ 10, 64 * 2 ^ 10, 16 * 2 ^ 10)

/-- Whether a host address lies in a device region (R329). A BAR that the host has not assigned holds 0. -/
def State.deviceRegion (s : State) (h : Nat) : Bool :=
  (List.range 32).any (fun k =>
    s.flag (F.MEM_DEVREG_BASE_VALID.at k) 0 &&
    decide (s.fld (F.MEM_DEVREG_BASE_BASE.at k) 0 ≤ h / 4096 ∧ h / 4096 ≤ s.fld (F.MEM_DEVREG_LIMIT_LIMIT.at k) 0)) ||
  s.hep.cfg.any (fun c =>
    let z := barSizes c.1
    decide ((c.2.bar0 ≠ 0 ∧ c.2.bar0 ≤ h ∧ h < c.2.bar0 + z.1) ∨
      (c.2.bar2 ≠ 0 ∧ c.2.bar2 ≤ h ∧ h < c.2.bar2 + z.2.1) ∨
      (c.2.bar4 ≠ 0 ∧ c.2.bar4 ≤ h ∧ h < c.2.bar4 + z.2.2) ∨
      (c.1 = 0 ∧ c.2.rom ≠ 0 ∧ c.2.rom ≤ h ∧ h < c.2.rom + 2 ^ 20)))

/-- How the environment fails an upstream read of [h, h + n), if it does. -/
def hostFails (env : Env) (h n : Nat) : Option HostFail :=
  (env.host.find? (fun e => decide (h ≤ e.addr ∧ e.addr < h + n))).map (fun e => e.fail)

/-- The status of a clause whose host read fails (R362, R364). -/
def hostStatus : HostFail → Nat
  | .timeout => St.HOST_READ_TIMEOUT
  | .errorStatus => St.HOST_COMPLETION_ERROR
  | .poisoned => St.DATA_POISONED

/-- Bytes of host memory. -/
def State.hostRead (s : State) (h n : Nat) : List Byte := s.mem.host.readList h n
def State.hostWord (s : State) (h : Nat) : Word := BitVec.ofNat 64 (ofBytes (s.hostRead h 8))

/-- Bytes written into host memory, by posted writes on the upstream link. -/
def State.hostWrite (s : State) (h : Nat) (bs : List Byte) : State := s.tlp.setHost (s.mem.host.writeList h bs)

/-- The function generation (R354). -/
def State.fgen (s : State) (f : Nat) : Nat := s.fld F.HEP_FN_STAT_FGEN f

/-- A cached entry of a function (R330). -/
def State.cached (s : State) (fn : Nat) (l1 : Bool) (idx : Nat) : Option Word :=
  (s.mem.cache.find? (fun c => decide (c.fn = fn ∧ c.fgen = s.fgen fn ∧ c.level1 = l1 ∧ c.idx = idx))).map (fun c => c.entry)

/-- Fields of a translation entry (R327). -/
def entAddr (e : Word) : Nat := e.toNat / 4096 * 4096
def entBlk (e : Word) : Bool := bit e.toNat 2
def entWr (e : Word) : Bool := bit e.toNat 1
def entV (e : Word) : Bool := bit e.toNat 0
def entMalformed (e : Word) (l1 : Bool) : Bool :=
  field e.toNat 11 3 != 0 || (entBlk e && (!l1 || field e.toNat 29 12 != 0))

/-- How a walk ends: a host address or a status, the entries that it caches, and the entries, by level and index, that
failed and of which the cache keeps nothing (R330). -/
structure Walk where
  out : Res Nat
  fill : List XltEntry := []
  drop : List (Bool × Nat) := []
  /-- a walk read that the host failed: how (R362, R364) -/
  lost : Option HostFail := none

/-- Whether a walk, or the access that follows it, sends a request upstream. -/
def Walk.sends (w : Walk) : Bool :=
  (match w.out with | .ok _ => true | _ => false) || !w.fill.isEmpty || !w.drop.isEmpty || w.lost.isSome

/-- One walk read: the cached entry, or the entry in host memory and that it was read there, or how the read failed. Where
a cached entry differs from host memory, the K7 may use either until the invalidation (R330): a free choice of each level. -/
def State.walkRead (s : State) (env : Env) (fn : Nat) (l1 : Bool) (idx t : Nat) : Except HostFail (Word × Bool) :=
  let now := s.hostWord t
  let read : Except HostFail (Word × Bool) := match hostFails env t 8 with
    | some f => .error f
    | none => .ok (now, true)
  match s.cached fn l1 idx with
  | some e => if e = now ∨ s.choice (if l1 then 0x330 else 0x331) then .ok (e, false) else read
  | none => read

/-- The walk of R328. -/
def State.walk (s : State) (env : Env) (fn : Nat) (wr : Bool) (io : Nat) : Walk :=
  if !s.flag F.MEM_XLT_BASE_EN fn then { out := .fail St.WINDOW_VIOLATION }
  else
    let i1 := field io 46 30
    let t1 := s.fld F.MEM_XLT_BASE_L1 fn * 2 ^ 20 + 8 * i1
    if s.deviceRegion t1 then { out := .fail St.WALK_DEVICE_REGION }
    else
      match s.walkRead env fn true i1 t1 with
      | .error f => { out := .fail St.WALK_FAULT, lost := some f }
      | .ok (e, fresh) =>
        if !entV e then { out := .fail St.WINDOW_VIOLATION, drop := [(true, i1)] }
        else if entMalformed e true then { out := .fail St.WALK_FAULT, drop := [(true, i1)] }
        else
          let keep (l1 : Bool) (i : Nat) (x : Word) (new : Bool) : List XltEntry :=
            if new then [⟨fn, s.fgen fn, l1, i, x⟩] else []
          let fill1 := keep true i1 e fresh
          if entBlk e then
            let pa := entAddr e + field io 29 0
            if s.deviceRegion (pa / 4096 * 4096) then { out := .fail St.WALK_DEVICE_REGION, fill := fill1 }
            else if wr && !entWr e then { out := .fail St.WINDOW_VIOLATION, drop := [(true, i1)] }
            else { out := .ok pa, fill := fill1 }
          else
            let i2 := field io 46 12
            let t2 := entAddr e + 8 * field io 29 12
            if s.deviceRegion t2 then { out := .fail St.WALK_DEVICE_REGION, fill := fill1 }
            else
              match s.walkRead env fn false i2 t2 with
              | .error f => { out := .fail St.WALK_FAULT, fill := fill1, lost := some f }
              | .ok (e2, fresh2) =>
                if !entV e2 then { out := .fail St.WINDOW_VIOLATION, fill := fill1, drop := [(false, i2)] }
                else if entMalformed e2 false then { out := .fail St.WALK_FAULT, fill := fill1, drop := [(false, i2)] }
                else
                  let pa := entAddr e2 + field io 11 0
                  let fill2 := keep false i2 e2 fresh2
                  if s.deviceRegion (pa / 4096 * 4096) then { out := .fail St.WALK_DEVICE_REGION, fill := fill1 ++ fill2 }
                  else if wr && !(entWr e2 && entWr e) then
                    { out := .fail St.WINDOW_VIOLATION
                      fill := (if entWr e then fill1 else []) ++ (if entWr e2 then fill2 else [])
                      drop := (if entWr e then [] else [(true, i1)]) ++ (if entWr e2 then [] else [(false, i2)]) }
                  else { out := .ok pa, fill := fill1 ++ fill2 }

/-- The entries that a translation cache holds (R330). -/
def cacheSize : Nat := 16384

/-- Entries put into the translation cache, replacing those of the same tag; past its size the oldest goes (R330). -/
def cacheFill (l : List XltEntry) (s : State) : State :=
  l.foldl (fun s e =>
    { s with mem := { s.mem with
        cache := (e :: s.mem.cache.filter (fun c =>
          !decide (c.fn = e.fn ∧ c.fgen = e.fgen ∧ c.level1 = e.level1 ∧ c.idx = e.idx))).take cacheSize } }) s

/-- Cached entries of a function discarded by level and index: those that a walk found to fail (R330). -/
def State.cacheLose (s : State) (fn : Nat) (l : List (Bool × Nat)) : State :=
  { s with mem := { s.mem with cache := s.mem.cache.filter (fun c => !(c.fn == fn && l.contains (c.level1, c.idx))) } }

/-- A host read that fails is reported: a timeout counts in CPL_TO_CNT and in Sinter (R362), poison as Poisoned TLP
Received (R364), both under AER (R360). -/
def State.hostFailed (s : State) (fn : Nat) (f : HostFail) : State :=
  match f with
  | .timeout => aerAdvise fn 2 (sinterEvent 0x140 fn (s.inc F.HEP_FN_STAT_CPL_TO_CNT fn))
  | .errorStatus => s
  | .poisoned => aerReport fn 5 s

/-- The translation of a host-window address for function `fn` (R326, R328, R330); a refused walk is counted, a walk read
that the host fails is reported as any read of the function is (R362, R364). -/
def State.translate (s : State) (env : Env) (fn : Nat) (wr : Bool) (a : Nat) : State × Res Nat :=
  if s.fld F.HEP_FN_STAT_DSTATE fn = 3 then (s, .wait)
  else
    let w := s.walk env fn wr (a - hostBase)
    let s0 := if w.sends then s.tlp else s
    let s1 := (cacheFill w.fill (s0.cacheLose fn w.drop)).tick
    let s2 := match w.lost with
      | some f => s1.hostFailed fn f
      | none => s1
    match w.out with
    | .fail st => (s2.refuse fn st, .fail st)
    | r => (s2, r)

/-- The pieces [a, a + n) of a range cut at 4 KiB pages: address and length of each. -/
def pageCuts (a n : Nat) : List (Nat × Nat) :=
  (pagesOf a n).map (fun p => (max a p, min (a + n) (p + 4096) - max a p))

/-- One page piece of the host window read. -/
def State.hostPiece (s : State) (env : Env) (fn a n : Nat) : State × Res (List Byte) :=
  match s.translate env fn false a with
  | (s1, .ok h) =>
    match hostFails env h n with
    | some f => (s1.hostFailed fn f, .fail (hostStatus f))
    | none => (s1.snoop 24 fn (s1.hostRead h n), .ok (s1.hostRead h n))
  | (s1, .fail st) => (s1, .fail st)
  | (s1, .wait) => (s1, .wait)

/-- A range of the host window read page by page; the first failure ends it. -/
def State.readHostRange (s : State) (env : Env) (fn : Nat) : List (Nat × Nat) → State × Res (List Byte)
  | [] => (s, .ok [])
  | (a, n) :: t =>
    match s.hostPiece env fn a n with
    | (s1, .ok bs) =>
      match s1.readHostRange env fn t with
      | (s2, .ok rest) => (s2, .ok (bs ++ rest))
      | r => r
    | r => r

/-- The reads that the checks of a clause operand have admitted, held while a unit retrains (R322): ECC and poison in device memory (R315 to R317), the
translation and its failures in the host window. -/
def State.readChecked (s : State) (env : Env) (fn a n : Nat) : State × Res (List Byte) :=
  if n = 0 then (s, .ok [])
  else if s.region a = .host then s.readHostRange env fn (pageCuts a n)
  else if s.rangeHeld a n then (s, .wait)
  else
    let s1 := s.eccFind env.ecc a n
    if s1.poisonIn a n = [] then (s1, .ok (s1.devRead a n)) else (s1, .fail St.DATA_POISONED)

/-- A range of the host window written page by page; the first failure ends it. -/
def State.writeHostRange (s : State) (env : Env) (fn : Nat) : List (Nat × Nat) → List Byte → State × Res Unit
  | [], _ => (s, .ok ())
  | (a, n) :: t, bs =>
    match s.translate env fn true a with
    | (s1, .ok h) => ((s1.snoop 25 fn (bs.take n)).hostWrite h (bs.take n)).writeHostRange env fn t (bs.drop n)
    | (s1, .fail st) => (s1, .fail st)
    | (s1, .wait) => (s1, .wait)

/-- The writes that the checks have admitted, held while a unit retrains (R316, R318, R322). -/
def State.writeChecked (s : State) (env : Env) (fn a : Nat) (bs : List Byte) : State × Res Unit :=
  if bs.length = 0 then (s, .ok ())
  else if s.region a = .host then s.writeHostRange env fn (pageCuts a bs.length) bs
  else if s.rangeHeld a bs.length then (s, .wait)
  else if s.partialPoison a bs.length then (s, .fail St.DATA_POISONED)
  else (s.devWrite a bs, .ok ())

/-- A tile of the range's SRAM windows holds a role (R146). -/
def State.roleConflict (s : State) (a n : Nat) : Bool :=
  (pagesOf a n).any (fun p => decide (s.region p = .tile) && (s.tile ((p - tileBase) / 0x200000)).role.isSome)

/-- The checks of a range that a clause names (R146, R658). -/
def State.checkClause (s : State) (fn : Nat) (wr : Bool) (a n : Nat) : Res Unit :=
  match s.checkRange fn wr false a n with
  | .ok _ => if s.roleConflict a n then .fail St.ROLE_CONFLICT else .ok ()
  | r => r

/-- A range checked and read for a function's clause. -/
def State.readFor (s : State) (env : Env) (fn a n : Nat) : State × Res (List Byte) :=
  match s.checkClause fn false a n with
  | .ok _ => s.readChecked env fn a n
  | .fail st => (s.refuse fn st, .fail st)
  | .wait => (s, .wait)

/-- A range checked and written for a function's clause. -/
def State.writeFor (s : State) (env : Env) (fn a : Nat) (bs : List Byte) : State × Res Unit :=
  match s.checkClause fn true a bs.length with
  | .ok _ => s.writeChecked env fn a bs
  | .fail st => (s.refuse fn st, .fail st)
  | .wait => (s, .wait)

/-- A 64-bit word read for a function, least significant byte first. -/
def State.wordFor (s : State) (env : Env) (fn a : Nat) : State × Res Word :=
  match s.readFor env fn a 8 with
  | (s1, .ok bs) => (s1, .ok (BitVec.ofNat 64 (ofBytes bs)))
  | (s1, .fail st) => (s1, .fail st)
  | (s1, .wait) => (s1, .wait)

/-! Open accesses (R311, R332). -/

/-- An access to device memory that has been checked and has not completed: its function, the EPOCH of its check, its range. -/
structure OpenAccess where
  fn : Nat
  epoch : Nat
  lo : Nat
  len : Nat
deriving DecidableEq, Repr

/-- The device ranges of a list of ranges: those that the dispatch checks pass whole (R324). -/
def State.deviceRanges (s : State) (l : List (Nat × Nat)) : List (Nat × Nat) := l.filter (fun r => decide (s.region r.1 ≠ .host))

/-- A clause admitted: its ranges have passed their checks under the EPOCH of its function, and what changes after that does not
touch it (R25, R324, R331, R588). -/
def State.openRanges (s : State) (n : Nat) (x : Slot) (l : List (Nat × Nat)) : State :=
  s.setSlot n { x with progress := some 0, epoch := s.fld F.MEM_FN_FENCE_EPOCH x.fn, ranges := s.deviceRanges l }

/-- The open accesses of a Geyser operation: the ranges that its checks admitted, and its element operations in flight. -/
def GeyOp.open (o : GeyOp) : List OpenAccess :=
  match o.run with
  | some r => (r.ranges ++ r.flight.map (fun f => (f.addr, f.len))).map (fun x => ⟨o.fn, r.epoch, x.1, x.2⟩)
  | none => []

/-- Whether an operation is a clause. -/
def geyIsClause : GeySrc → Bool
  | .clause _ => true
  | .unit .. => false

/-- The open accesses of clauses in execution slots: the ranges that their checks admitted, and those of Geyser's clauses. -/
def State.slotsOpen (s : State) : List OpenAccess :=
  s.rng.slots.flatMap (fun x => x.2.ranges.map (fun r => ⟨x.2.fn, x.2.epoch, r.1, r.2⟩)) ++
  (s.geyLive.filter (fun o => geyIsClause o.src)).flatMap GeyOp.open

/-- The open accesses of the Geyser commands of tiles. -/
def State.unitsOpen (s : State) : List OpenAccess :=
  (s.geyLive.filter (fun o => !geyIsClause o.src)).flatMap GeyOp.open

/-- The open window accesses to device memory of a core that acts for function `fn`. -/
def Core.open (c : Core) (fn : Nat) : List OpenAccess :=
  (c.accesses.filter (fun a => decide (a.space = .device))).map (fun a => ⟨fn, a.epoch, a.addr, 2⟩)

/-- The open window accesses of tiles and of management cores. -/
def State.coresOpen (s : State) : List OpenAccess :=
  s.roles.flatMap (fun r => r.2.tiles.flatMap (fun t => (s.tile t).core.open r.2.fn)) ++
  s.mcores.flatMap (fun c => c.2.open 0)

/-- Slot A or B of the buddy area: its first address, and half the area (R549). -/
def State.ckSlotBase (s : State) (k : Nat) : Nat := s.buddyBase + k * (s.buddySize / 2)

/-- The buddy function (R545). -/
def State.buddyFn (s : State) : Nat := s.fld F.CKP_CTL_FUNC 0

/-- The ranges of an accepted receive: LOCAL, and TAG_OUT where it has one (R450). -/
def PostedRecv.ranges (v : PostedRecv) : List (Nat × Nat) :=
  (v.addr, v.len) :: match v.tagged with
    | some (_, _, out) => if out = 0 then [] else [(out, 8)]
    | none => []

/-- The open accesses of an accepted receive of a function. -/
def State.recvOpen (s : State) (fn : Nat) (v : PostedRecv) : List OpenAccess :=
  (s.deviceRanges v.ranges).map (fun r => ⟨fn, v.epoch, r.1, r.2⟩)

/-- The open accesses of the RDMA engine beside those of its send requests, which their slots hold: READ requests whose responses
are being sent, WRITE messages that arrive (R455), and accepted receives (R456, R459). -/
def State.rdmOpen (s : State) : List OpenAccess :=
  s.rdm.qps.flatMap (fun q => q.2.jobs.map (fun j => ⟨q.2.fn, j.epoch, j.addr, j.left⟩) ++
    (match q.2.msg with
      | some m => (match m.region with | some _ => [⟨q.2.fn, m.epoch, m.addr, m.left⟩] | none => []) ++
        (match m.recv with | some v => s.recvOpen q.2.fn v | none => [])
      | none => [])) ++
  (s.rdm.recvs ++ s.rdm.rawRecvs).flatMap (fun v => s.recvOpen (s.ring v.ring).fn v)

/-- The open accesses to the regions of a checkpoint. -/
def State.jobOpen (s : State) (j : CkJob) : List OpenAccess :=
  j.regions.map (fun r => ⟨s.buddyFn, j.epoch, r.addr, r.len⟩)

/-- The open accesses of the checkpoint engine: the regions of a checkpoint until its capture has ended, those of a RESTORE, the
slot that is written, and the slots that a FETCH or an EXPORT reads. -/
def State.ckOpen (s : State) : List OpenAccess :=
  s.ckp.waits.flatMap s.jobOpen ++
  (match s.ckp.job with
    | some j => if s.fld F.CKP_STAT_STATE 0 = 4 then [] else s.jobOpen j
    | none => []) ++
  (match s.ckp.restore with
    | some r => if r.dead then [] else r.regions.map (fun g => ⟨s.buddyFn, r.epoch, g.addr, g.len⟩)
    | none => []) ++
  (match s.ckp.recv with
    | some r => [⟨s.buddyFn, r.epoch, s.ckSlotBase r.slot, 0x1000 + r.bytes⟩]
    | none => []) ++
  (match s.ckp.serving with
    | some x => [⟨s.buddyFn, s.ckp.servingEpoch, s.ckSlotBase x.1, s.buddySize / 2⟩]
    | none => []) ++
  (match s.ckp.exporting with
    | some x => [⟨s.buddyFn, ((s.slot? x.1).map (fun y => y.epoch)).getD 0, s.ckSlotBase x.2, s.buddySize / 2⟩]
    | none => [])

/-- Every access to device memory that has been checked and has not completed. -/
def State.openAccesses (s : State) : List OpenAccess :=
  s.slotsOpen ++ s.unitsOpen ++ s.coresOpen ++ s.rdmOpen ++ s.ckOpen

/-- Accesses admitted to the device range [lo, hi) that have not completed (R311, R587). -/
def State.inFlightTo (s : State) (lo hi : Nat) : Bool :=
  s.openAccesses.any (fun a => overlaps a.lo a.len lo (hi - lo))

/-- Accesses admitted to the memory of domain `d` that have not completed (R587). -/
def State.inFlightIn (s : State) (d : Nat) : Bool :=
  s.openAccesses.any (fun a => (pagesOf a.lo a.len).any (fun p => (s.place p).bind (fun u => unitDomain u.1) == some d))

/-- PENDING of a function (R332): an access checked under an older EPOCH has not completed, of device memory or upstream. -/
def State.fencePending (s : State) (fn : Nat) : Bool :=
  let ep := s.fld F.MEM_FN_FENCE_EPOCH fn
  s.openAccesses.any (fun a => decide (a.fn = fn ∧ a.epoch ≠ ep)) ||
  s.hep.reads.any (fun r => decide (r.2.fn = fn ∧ r.2.epoch ≠ ep))

end Sys2Proof.Machine
end

