-- ==== Sys2Proof/Machine/Rings.lean ====
section
/-! DEFINITION. Shared operations of the ring engine: interrupts (R109 to R111, R366 to R369), completion entries
(R74 to R81), halts (R100, R102), slots, event counters (R107, R108). -/

namespace Sys2Proof.Machine

/-! Interrupts. -/

/-- MSI-X vectors of a function (R365). -/
def vecCount (fn : Nat) : Nat := if fn = 0 then 1036 else 12

/-- Key of vector `v` of function `fn` in the tables of entries and of waiting requests. -/
def vecKey (fn v : Nat) : Nat := fn * 4096 + v

def State.msixEntry (s : State) (fn v : Nat) : MsixEntry := Tbl.getD s.hep.msix (vecKey fn v) {}
def State.irqVec (s : State) (fn v : Nat) : IrqVec := Tbl.getD s.hep.irq (vecKey fn v) {}
def State.setIrq (s : State) (fn v : Nat) (x : IrqVec) : State :=
  { s with hep := { s.hep with irq := Tbl.put {} (vecKey fn v) x s.hep.irq } }

/-- One MSI-X message sent (R367, R368). -/
def State.sendMsix (s : State) (fn v : Nat) : State :=
  let s1 := s.tlp
  { s1 with hep := { s1.hep with msgs := (fn, v, (s.msixEntry fn v).addr, (s.msixEntry fn v).data) :: s1.hep.msgs } }

/-- Whether a message of a vector may be sent now (R367, R370). -/
def State.mayInterrupt (s : State) (fn v : Nat) : Bool :=
  (s.cfg fn).msixEnable && !(s.cfg fn).msixMask && !(s.msixEntry fn v).masked &&
  decide (s.fld F.HEP_FN_STAT_DSTATE fn ≠ 3)

/-- All INTx cause bits are clear (R369). -/
def State.intxClear (s : State) : Bool :=
  (List.range 17).all (fun k => s.fld (F.HEP_INTX_CAUSE_VEC.at k) 0 == 0)

/-- Assert_INTA (true) or Deassert_INTA sent; Interrupt Status follows (R369). -/
def State.intxSend (s : State) (on : Bool) : State :=
  let s1 := s.tlp
  { s1 with hep := { s1.hep with intxAsserted := on, intxMsgs := (if on then 1 else 2) :: s1.hep.intxMsgs } }

/-- The cause bit of a physical-function vector set, with Assert_INTA for the first (R369). -/
def State.intxRaise (s : State) (v : Nat) : State :=
  let f := F.HEP_INTX_CAUSE_VEC.at (v / 64)
  let s1 := if s.intxClear then s.intxSend true else s
  s1.setFld f 0 (s1.fld f 0 ||| 2 ^ (v % 64))

/-- Whether requests of the physical function set cause bits now (R367, R369, R370). -/
def State.intxOn (s : State) : Bool :=
  !(s.cfg 0).msixEnable && !(s.cfg 0).intDisable && decide (s.fld F.HEP_FN_STAT_DSTATE 0 ≠ 3)

/-- An interrupt request of vector `v` of function `fn` (R111, R366, R367, R369). -/
def State.irqRequest (s : State) (fn v : Nat) : State :=
  if vecCount fn ≤ v then s.inc F.HEP_FN_STAT_NOVEC_CNT fn
  else if s.mayInterrupt fn v then s.sendMsix fn v
  else if fn = 0 ∧ s.intxOn then s.intxRaise v
  else s.setIrq fn v { count := min 8 ((s.irqVec fn v).count + 1), pba := true }

/-! Rings and slots. -/

/-- Entries of a ring (R68). -/
def Ring.entries (r : Ring) : Nat := r.size

/-- Index difference modulo 2^32 (R69). -/
def idxSub (a b : Nat) : Nat := (a + 2 ^ 32 - b % 2 ^ 32) % 2 ^ 32
def idxNext (a : Nat) : Nat := (a + 1) % 2 ^ 32

/-- Whether index `a` lies before index `b`. -/
def idxBefore (a b : Nat) : Bool := decide (a ≠ b ∧ idxSub b a < 2 ^ 31)

/-- Bytes of an entry (R67). -/
def entryBytes (t : RingType) : Nat :=
  match t with
  | .completion => 16
  | .nvmeCq => 16
  | _ => 64

/-- The slots that a submission-side ring holds (R113: INFLIGHT). -/
def State.ringSlots (s : State) (r : Nat) : List (Nat × Slot) := s.rng.slots.filter (fun x => decide (x.2.ring = r))
def State.inflight (s : State) (r : Nat) : Nat := (s.ringSlots r).length

/-- The slots that a function holds. -/
def State.fnSlots (s : State) (fn : Nat) : Nat := (s.rng.slots.filter (fun x => decide (x.2.fn = fn))).length

/-- Whether an entry has completed: its completion entry is made (R77). -/
def Slot.completed (x : Slot) : Bool := decide (x.phase = .held)

/-- Every clause of ring `r` before index `i` has completed (R90, R104). -/
def State.earlierDone (s : State) (r i : Nat) : Bool :=
  s.rng.slots.all (fun x => decide (x.2.ring ≠ r) || !idxBefore x.2.idx i || x.2.completed)

/-- Fields of a clause's word 0 (R70). -/
def c0Rgen (w : Nat) : Nat := field w 63 48
def c0Fgen (w : Nat) : Nat := field w 47 32
def c0Tag (w : Nat) : Nat := field w 31 16
def c0Irq (w : Nat) : Bool := bit w 15
def c0Quiet (w : Nat) : Bool := bit w 14
def c0Fence (w : Nat) : Bool := bit w 12
def c0Op (w : Nat) : Nat := field w 7 0

/-- A clause discarded before its dispatch: its slot is free and the data of its fetch goes nowhere (R99, R102). -/
def State.dropSlot (s : State) (n : Nat) : State :=
  { s.freeSlot n with hep := { s.hep with
      reads := s.hep.reads.map (fun r =>
        if r.2.purpose = .ringFetch n then (r.1, { r.2 with purpose := .discard }) else r) } }

/-- Every entry of a ring that is fetched and not dispatched is discarded. -/
def State.dropUndispatched (s : State) (r : Nat) : State :=
  ((s.ringSlots r).filter (fun x => decide (x.2.phase = .fetching ∨ x.2.phase = .arrived))).foldl
    (fun s x => s.dropSlot x.1) s

/-- The completion entry of 16 bytes (R74, R76): PHASE is 1 on even passes. -/
def entryWords (r : Ring) (e : CplEntry) : List Word :=
  let phase := if (r.hw / r.entries) % 2 = 0 then 1 else 0
  if r.typ = .nvmeCq then
    -- an NVMe completion: Dword 0, Dword 2 (queue and head), Dword 3 (identifier, phase, status)
    [BitVec.ofNat 64 (field e.result.toNat 31 0),
      BitVec.ofNat 64 (field e.result.toNat 63 32 + (e.tag % 2 ^ 16 + phase <<< 16 + (e.status % 2 ^ 15) <<< 17) <<< 32)]
  else
  [e.result, BitVec.ofNat 64 (phase <<< 63 + ofBit e.evt <<< 62 + (e.sq % 2 ^ 14) <<< 48 + (e.fgen % 2 ^ 16) <<< 32 +
    (e.status % 2 ^ 16) <<< 16 + e.tag % 2 ^ 16)]

/-- A completion ring that can take an entry: not halted, and not full (R78); an NVMe queue is full with one entry free. -/
def Ring.hasRoom (r : Ring) : Bool := 
  decide (r.st ≠ .halted ∧ idxSub r.hw r.sw < if r.typ = .nvmeCq then r.entries - 1 else r.entries)

/-- The entry of slot `n` has completed: its ring notes the time, from which a fenced clause behind it counts (R90, R108). -/
def State.noteDone (s : State) (n : Nat) : State :=
  match s.slot? n with
  | some x => s.setRing x.ring { s.ring x.ring with lastDone := s.tb.time }
  | none => s

/-- A slot released by the completion of its entry (R88). -/
def State.releaseSlot (s : State) (n : Nat) : State := (s.noteDone n).freeSlot n

/-- The slot of a posted entry is released (R77, R88). -/
def State.releaseOf (s : State) (e : CplEntry) : State :=
  match e.slot with
  | some n => s.releaseSlot n
  | none => s

/-- The time at which MOD_TIME requests an interrupt once an entry is posted at `now` (R109): the entry counts MOD_TIME as it is
when it is posted (R110). -/
def Ring.dueAfter (r : Ring) (now : Nat) : Option Nat :=
  if r.modTime = 0 then r.modDue else some (Nat.min (now + r.modTime * 1000) (r.modDue.getD (now + r.modTime * 1000)))

/-- Moderation after an entry is posted into ring `k` (R109, R110). -/
def State.moderate (s : State) (k : Nat) (irq : Bool) : State :=
  let r := s.ring k
  if !r.irqEn then s
  else if irq ∨ r.modCount + 1 ≤ r.modPosted + 1 then
    (s.setRing k { r with modPosted := 0, modDue := none }).irqRequest r.fn r.vector
  else s.setRing k { r with modPosted := r.modPosted + 1, modDue := r.dueAfter s.tb.time }

/-- An entry that waits for its completion ring (R78): the clause keeps its slot. -/
def State.holdEntry (s : State) (k : Nat) (e : CplEntry) : State :=
  let s1 := match e.slot with
    | some n => match s.slot? n with
      | some x => (s.noteDone n).setSlot n { x with phase := .held }
      | none => s
    | none => s
  s1.setRing k { s1.ring k with waiting := (s1.ring k).waiting ++ [e] }

/-- Bytes written into a completion ring: an NVMe completion queue lies at a host address. -/
def State.writeCq (s : State) (env : Env) (r : Ring) (a : Nat) (bs : List Byte) : State × Res Unit :=
  if r.typ = .nvmeCq then
    if s.fld F.HEP_FN_STAT_DSTATE r.fn = 3 then (s, .wait) else ((s.snoop 25 r.fn bs).hostWrite a bs, .ok ())
  else s.writeFor env r.fn a bs

/-- One entry written into completion ring `k`: as two posted writes of the owner (R75, R656). The answer is the
state, and the status of a failed write. -/
def State.writeEntry (s : State) (env : Env) (k : Nat) (e : CplEntry) : State × Res Unit :=
  let r := s.ring k
  match s.writeCq env r (r.base + r.hw % r.entries * 16) (bytesOfWords (entryWords r e)) with
  | (s1, .ok _) =>
    (((s1.setRing k { s1.ring k with hw := idxNext r.hw }).releaseOf e).moderate k e.irq, .ok ())
  | (s1, .fail st) => (s1, .fail st)
  | (s1, .wait) => (s1, .wait)

/-- A completion ring halted by the failed write of an entry that it now holds (R78). -/
def State.haltCq (s : State) (k st : Nat) : State :=
  let r := s.ring k
  if r.st = .active then s.setRing k { r with st := .halted, haltStatus := st, haltIdx := none } else s

/-- An entry posted, or held. A failed write halts the ring; its status is answered. -/
def State.postOne (s : State) (env : Env) (k : Nat) (e : CplEntry) : State × Option Nat :=
  let r := s.ring k
  if e.fgen ≠ s.fgen e.fn ∨ s.flag F.HEP_FN_STAT_DRAINING e.fn then
    -- R79, R356: the entry of an old generation is dropped; what is posted before the drain ends is old work's
    ((s.inc F.RNG_FN_STAT_STALE_CPL e.fn).releaseOf e, none)
  else if !r.waiting.isEmpty ∨ !r.hasRoom then (s.holdEntry k e, none)
  else
    match s.writeEntry env k e with
    | (s1, .ok _) => (s1, none)
    | (s1, .fail st) => ((s1.holdEntry k e).haltCq k st, some st)
    | (s1, .wait) => (s1.holdEntry k e, none)

/-- The RING_HALTED entry of a ring (R81). -/
def haltEntry (s : State) (key st fn : Nat) : CplEntry :=
  { result := BitVec.ofNat 64 ((s.ring key).hw % 2 ^ 32 + if 16384 ≤ key then 2 ^ 63 else 0)
    evt := true, sq := key % 16384, fgen := s.fgen fn, status := st, tag := 0x4001, irq := false, fn := fn, slot := none }

/-- RING_HALTED for a completion-side ring: into the function's event ring, unless that is the ring itself or
RNG_EVT_CQ.EN is 0 (R81). A write of the event that fails halts the event ring, which has no ring to report in. -/
def State.postCqHalt (s : State) (env : Env) (k st : Nat) : State :=
  let fn := (s.ring k).fn
  let ev := cqKey (s.fld F.RNG_EVT_CQ_CQ_ID fn)
  if !s.flag F.RNG_EVT_CQ_EN fn ∨ ev = k then s
  else (s.postOne env ev (haltEntry s k st fn)).1

/-- An entry posted into completion ring `k` (R77 to R81). -/
def State.post (s : State) (env : Env) (k : Nat) (e : CplEntry) : State :=
  match s.postOne env k e with
  | (s1, none) => s1
  | (s1, some st) => s1.postCqHalt env k st

/-- An event entry of a function that belongs to no ring (R80). -/
def State.postEvent (s : State) (env : Env) (fn code : Nat) (result : Word) (status : Nat) : State :=
  if s.flag F.RNG_EVT_CQ_EN fn then
    s.post env (cqKey (s.fld F.RNG_EVT_CQ_CQ_ID fn))
      { result := result, evt := true, sq := 0, fgen := s.fgen fn, status := status, tag := code, irq := false
        fn := fn, slot := none }
  else s

/-- A running checkpoint holds the completion of ring `r`'s BARRIER (R557). -/
def State.ckHolds (s : State) (r : Nat) : Bool :=
  match s.ckp.job with
  | some j => j.rings.contains r
  | none => false

/-- The held clause of a ring that stays when the ring halts, is reset or destroyed: one that has completed, and a BARRIER whose
condition has held and whose completion the checkpoint engine holds, which counts as dispatched (R90, R99, R102, R557). -/
def State.heldKept (s : State) (r : Nat) : Option HeldClause :=
  (s.ring r).held.filter (fun h => h.done.isSome || s.ckHolds r)

/-- The index of the first entry of a ring that has not been dispatched. -/
def State.undispatched (s : State) (r : Nat) : Nat :=
  let g := s.ring r
  match s.heldKept r with
  | some h => if h.idx = g.disp then idxNext g.disp else g.disp
  | none => g.disp

/-- A submission-side ring halted (R102): fetched entries that are not dispatched are discarded, the held clause too,
and the fetch index names the first entry that was not dispatched. A DRAINING ring stays DRAINING (R100), a ring
that is halted already keeps its first status. -/
def State.haltRing (s : State) (r st : Nat) (idx : Option Nat) : State :=
  let g := s.ring r
  if g.st = .active then
    let s1 := s.dropUndispatched r
    let u := s.undispatched r
    s1.setRing r { g with
      st := .halted, haltStatus := st, haltIdx := idx, held := s.heldKept r
      hw := u, disp := u, refetch := none, pend := decide (u ≠ g.sw) }
  else s

def State.ctrl (s : State) (fn : Nat) : NvmeCtrl := Tbl.getD s.sto.ctrls fn {}
def State.setCtrl (s : State) (fn : Nat) (c : NvmeCtrl) : State :=
  { s with sto := { s.sto with ctrls := Tbl.put {} fn c s.sto.ctrls } }

/-- An NVMe controller's fatal status. -/
def State.ctrlFatal (s : State) (fn : Nat) : State := s.setCtrl fn { s.ctrl fn with cfs := true }

/-- A submission-side ring halted without a clause completion (R81): RING_HALTED goes into its completion ring.
An NVMe submission queue halts with CSTS.CFS set and nothing posted (the model's choice, log entry 161). -/
def State.haltWithEvent (s : State) (env : Env) (r st : Nat) : State :=
  let g := s.ring r
  if g.st = .active then
    let s1 := s.haltRing r st none
    if g.typ = .nvmeSq then s1.ctrlFatal g.fn
    else s1.post env (cqKey g.cq) (haltEntry s1 r st g.fn)
  else s

/-- A dispatched entry completes with a status and a RESULT; any status other than SUCCESS halts its clause ring
(R102). The entry itself is posted by COMPLETION_POST. -/
def State.slotDone (s : State) (n st : Nat) (result : Word) : State :=
  match s.slot? n with
  | some x =>
    let s1 := s.setSlot n { x with phase := .done st result, progress := none, ranges := [] }
    if st ≠ St.SUCCESS ∧ (s.ring x.ring).typ = .clause then s1.haltRing x.ring st (some x.idx) else s1
  | none => s

/-- A slotless clause of ring `r` completes (R89). -/
def State.heldDone (s : State) (r st : Nat) (result : Word) : State :=
  let g := s.ring r
  match g.held with
  | some h =>
    let h1 : HeldClause := { h with done := some (st, result) }
    let s1 := s.setRing r { g with held := some h1, disp := if h.idx = g.disp then idxNext g.disp else g.disp }
    if st ≠ St.SUCCESS then s1.haltRing r st (some h.idx) else s1
  | none => s

/-- The timebase as a word. -/
def State.now (s : State) : Word := BitVec.ofNat 64 s.tb.time

/-! Event counters. -/

/-- The absolute number of a function's counter; none outside its range (R107). -/
def State.evtNumber (s : State) (fn rel : Nat) : Option Nat :=
  if rel < s.fld F.RNG_FN_EVT_EVT_COUNT fn then some (s.fld F.RNG_FN_EVT_EVT_BASE fn + rel) else none

/-- The operand checks that the wait-on-event class shares: word 1 names a counter (R107). -/
def evtOperand (h : HeldClause) : Bool := field (wordAt h.words 1) 63 13 == 0

/-- Words from `i` to 7 are zero (R73). -/
def zeroFrom (ws : List Word) (i : Nat) : Bool := (ws.drop i).all (· == 0)

/-- The operands of a WAIT hold no reserved encoding (R73, R107). -/
def waitOk (h : HeldClause) : Bool := evtOperand h && field (wordAt h.words 3) 63 32 == 0 && zeroFrom h.words 4

/-- Whether the held clause of a ring is a WAIT on counter `n` that `w` satisfies and that may dispatch. -/
def State.waitSatisfied (s : State) (r n : Nat) (w : Word) : Bool :=
  let g := s.ring r
  match g.held with
  | some h =>
    let w0 := wordAt h.words 0
    decide (c0Class w0 = 8 ∧ c0Op w0 = 0) && waitOk h && h.done.isNone &&
    (s.evtNumber g.fn (field (wordAt h.words 1) 12 0) == some n) &&
    decide (wordAt h.words 2 ≤ w.toNat) && (!c0Fence w0 || s.earlierDone r h.idx)
  | none => false

/-- A counter written, and every held WAIT on it tested (R108). -/
def State.updateCounter (s : State) (n : Nat) (w : Word) : State :=
  s.rng.rings.foldl (fun t x => if s.waitSatisfied x.1 n w then t.heldDone x.1 St.SUCCESS w else t)
    (s.setCounter n w)

/-- A counter increased modulo 2^64. -/
def State.addCounter (s : State) (n : Nat) (w : Word) : State := s.updateCounter n (s.counter n + w)

end Sys2Proof.Machine
end

