-- ==== Sys2Proof/Machine/RingCmds.lean ====
section
/-! DEFINITION. The ring engine's commands: doorbells (R82 to R87), arbitration (R88, R94), arrival (R72), dispatch (R90),
posting (R77, R78) and the ring life cycle (R97 to R101, R110). -/

namespace Sys2Proof.Machine

/-! Doorbells. -/

/-- The owner and validity of doorbell page `p` (R85). -/
def State.pageOwner (s : State) (p : Nat) : Option Nat :=
  let v := match p % 4 with
    | 0 => (F.RNG_DB_PAGE_MAP_VALID_0, F.RNG_DB_PAGE_MAP_FUNC_0)
    | 1 => (F.RNG_DB_PAGE_MAP_VALID_1, F.RNG_DB_PAGE_MAP_FUNC_1)
    | 2 => (F.RNG_DB_PAGE_MAP_VALID_2, F.RNG_DB_PAGE_MAP_FUNC_2)
    | _ => (F.RNG_DB_PAGE_MAP_VALID_3, F.RNG_DB_PAGE_MAP_FUNC_3)
  if s.flag (v.1.at (p / 4)) 0 then some (s.fld (v.2.at (p / 4)) 0) else none

/-- The doorbell page that a function sees at its page offset `k` (R85). -/
def State.visiblePage (s : State) (fn k : Nat) : Option Nat :=
  if k < (if fn = 0 then 256 else 16) then
    ((List.range 256).filter (fun p => decide (s.pageOwner p = some fn)))[k]?
  else none

/-- The ring that is bound to a slot of a page. -/
def State.boundRing (s : State) (page slot : Nat) : Option Nat :=
  (s.rng.rings.find? (fun x => decide (x.2.dbSlot = some (page, slot)))).map (fun x => x.1)

/-- The ring's doorbell pending bit after a valid doorbell: set, with its age, where entries are to be fetched; clear where the
indices meet (R93, R94). -/
def Ring.ring (r : Ring) (no : Nat) : Ring :=
  if r.hw = r.sw then { r with pend := false } else if r.pend then r else { r with pend := true, age := no }

/-- A doorbell with index `i` on a ring of the right generation (R84). -/
def State.ringDoorbell (s : State) (key i : Nat) : State :=
  let r := s.ring key
  let i := i % 2 ^ 32
  if key < 16384 then
    if r.entries < idxSub i r.hw then s.haltWithEvent {} key St.DOORBELL_INVALID
    else
      { s.setRing key (Ring.ring { r with sw := i } s.rng.arbNo) with
        rng := { (s.setRing key (Ring.ring { r with sw := i } s.rng.arbNo)).rng with arbNo := s.rng.arbNo + 1 } }
  else if r.entries < idxSub r.hw i then
    if r.st = .active then (s.haltCq key St.DOORBELL_INVALID).postCqHalt {} key St.DOORBELL_INVALID else s
  else s.setRing key { r with sw := i }

/-- A doorbell with its generation, on a bound ring of the function (R83, R99). -/
def State.doorbell (s : State) (fn key gen i : Nat) : State :=
  let r := s.ring key
  if r.st = .draining ∨ gen ≠ r.gen then s.inc F.RNG_FN_STAT_STALE_DB fn else s.ringDoorbell key i

/-- DOORBELL_WRITE: a write to the doorbell window of a function (R82 to R86); outside the window, or to a function that is not
enabled, an Unsupported Request (R346, R360). -/
def execDoorbellWrite (fn off bytes : Nat) (v : Word) (s : State) : Out :=
  .next (
    let s := s.tlp
    if !s.fnExists fn ∨ (barSizes fn).2.1 ≤ off then aerReport (fn % 256) 4 s
    else if bytes ≠ 8 ∨ off % 8 ≠ 0 then s.inc F.RNG_FN_STAT_BAD_DB fn
    else
      match s.visiblePage fn (off / 4096) with
      | none => s.inc F.RNG_FN_STAT_BAD_DB fn
      | some p =>
        match s.boundRing p (off % 4096 / 8) with
        | none => s.inc F.RNG_FN_STAT_BAD_DB fn
        | some key =>
          if (s.ring key).fn ≠ fn then s.inc F.RNG_FN_STAT_BAD_DB fn
          else s.doorbell fn key (field v.toNat 47 32) (field v.toNat 31 0))

/-- The ring that a requester's copy of RNG_RING_SEL selects (R650). -/
def State.selRing (s : State) (who : Requester) : Nat :=
  s.fld F.RNG_RING_SEL_RING_ID (reqCode who) + if s.flag F.RNG_RING_SEL_POOL (reqCode who) then 16384 else 0

/-- A write to RNG_RING_INDEX that writes no index: counted where the selected ring is FREE or another function's (R113). -/
def State.indexMiss (s : State) (who : Requester) : State :=
  let r := s.ring (s.selRing who)
  if r.st = .free ∨ r.fn ≠ reqFn who then s.inc F.RNG_FN_STAT_BAD_DB (reqFn who) else s

/-- A write of SW_IDX (R113): a doorbell with the current generation on the selected ring. -/
def State.indexWrite (s : State) (who : Requester) (i : Nat) : State :=
  let fn := reqFn who
  let key := s.selRing who
  let r := s.ring key
  if r.st = .free ∨ r.fn ≠ fn then s.inc F.RNG_FN_STAT_BAD_DB fn else s.doorbell fn key r.gen i

/-- RING_INDEX_WRITE (R113). -/
def execRingIndexWrite (who : Requester) (v : Word) (s : State) : Out :=
  when (s.ddtReady = true) ((s.touch who).indexWrite who (field v.toNat 31 0)) s

/-- The NVMe queue of a controller by its queue identifier. -/
def State.nvmeQueue (s : State) (fn qid : Nat) (t : RingType) : Option Nat :=
  (s.rng.rings.find? (fun x => decide (x.2.fn = fn ∧ x.2.typ = t ∧ x.2.qid = qid ∧ x.2.st ≠ .free))).map (fun x => x.1)

/-- An NVMe doorbell value as a new index: the current one plus the distance modulo the queue size (R87). -/
def nvmeIndex (cur v size : Nat) : Nat := (cur + (v + size - cur % size) % size) % 2 ^ 32

/-! Arbitration and fetch. -/

/-- A send ring whose queue pair is an enabled checkpoint lane: its requests wait unfetched (R546). -/
def State.laneRing (s : State) (key : Nat) : Bool :=
  (List.range 8).any (fun k => s.flag (F.CKP_PAIR_EN.at k) 0 &&
    (match Tbl.find? (s.fld (F.CKP_PAIR_QP.at k) 0) s.rdm.qps with
     | some q => q.sq == key
     | none => false))

/-- A ring that the arbiter may grant, slots apart (R78, R94, R356, R370). -/
def State.eligible (s : State) (key : Nat) : Bool :=
  let r := s.ring key
  decide (key < 16384 ∧ r.st = .active) && (r.pend || r.refetch.isSome) &&
  (s.ring (cqKey r.cq)).hasRoom &&
  decide (s.fld F.HEP_FN_STAT_DSTATE r.fn ≠ 3) && !s.flag F.HEP_FN_STAT_DRAINING r.fn &&
  (decide (r.typ ≠ .workQueue) || !s.laneRing key) &&
  (decide (r.typ ≠ .nvmeSq) || ((s.ctrl r.fn).ready && (s.ctrl r.fn).disabledAt.isNone))

/-- R88: a slot is free and the function holds fewer than SLOT_MAX. -/
def State.slotsFor (s : State) (fn : Nat) : Nat :=
  min (4096 - s.rng.slots.length) (s.fld F.RNG_FN_QUOTA_SLOT_MAX fn - s.fnSlots fn)

/-- The better of two candidates: lower priority number, then greater age (R94). -/
def betterRing (s : State) (a : Option Nat) (k : Nat) : Option Nat :=
  match a with
  | none => some k
  | some j =>
    if (s.ring k).prio < (s.ring j).prio ∨ (s.ring k).prio = (s.ring j).prio ∧ (s.ring k).age < (s.ring j).age then
      some k else some j

/-- The ring that R94 grants among those that satisfy `p`. -/
def State.grant (s : State) (p : Nat → Bool) : Option Nat :=
  ((s.rng.rings.map (fun x => x.1)).filter (fun k => s.eligible k && p k)).foldl (betterRing s) none

/-- The timeout of a function's upstream reads, ns (R361). -/
def State.cplTimeout (s : State) (fn : Nat) : Nat :=
  if s.flag F.HEP_CPL_TO_EXACT fn then s.fld F.HEP_CPL_TO_VALUE_US fn * 1000
  else
    match (s.cfg fn).cplTimeout with
    | 1 => 50000
    | 2 => 5000000
    | 6 => 200000000
    | 9 => 500000000
    | 10 => 3500000000
    | _ => 50000000

/-- A tag for a new upstream read: not outstanding, not held by R363; none with 8,192 outstanding (R340). -/
def State.freeTag (s : State) : Option Nat :=
  if 8192 ≤ s.hep.reads.length then none
  else (List.range 16384).find? (fun t =>
    !Tbl.has s.hep.reads t && decide (Tbl.getD s.hep.tagHold t 0 ≤ s.tb.time))

/-- An upstream read sent with tag `t` (R361). -/
def State.sendRead (s : State) (t fn a n : Nat) (p : ReadPurpose) : State :=
  let s1 := s.tlp
  { s1 with hep := { s1.hep with
      reads := Tbl.set t { fn := fn, addr := a, len := n, sent := s.tb.time, timeout := s.cplTimeout fn, purpose := p,
                           epoch := s.fld F.MEM_FN_FENCE_EPOCH fn }
        s.hep.reads } }

/-- How the fetch of one entry goes: the state with the entry's slot taken, or a failure. -/
def State.fetchOne (s : State) (env : Env) (key idx : Nat) (retry : Bool) : State × Res Unit :=
  let r := s.ring key
  let a := r.base + idx % r.entries * 64
  match Tbl.firstFree s.rng.slots 4096 0 with
  | none => (s, .wait)
  | some n =>
    let x : Slot := { ring := key, idx := idx, fn := r.fn, since := s.tb.time, born := s.rng.arbNo, retry := retry }
    if r.typ = .nvmeSq then
      -- an NVMe queue lies at a host address
      match s.freeTag with
      | none => (s, .wait)
      | some t => ((s.setSlot n x).sendRead t r.fn a 64 (.ringFetch n), .ok ())
    else
    match s.checkRange r.fn false false a 64 with
    | .fail st => (s.refuse r.fn st, .fail st)
    | .wait => (s, .wait)
    | .ok _ =>
      if s.region a = .host then
        match s.freeTag with
        | none => (s, .wait)
        | some t =>
          match s.translate env r.fn false a with
          | (s1, .ok h) => ((s1.setSlot n x).sendRead t r.fn h 64 (.ringFetch n), .ok ())
          | (s1, .fail st) => (s1, .fail st)
          | (s1, .wait) => (s1, .wait)
      else
        match s.readChecked env r.fn a 64 with
        | (s1, .ok bs) => (s1.setSlot n { x with words := wordsOf 8 bs }, .ok ())
        | (s1, .fail st) => (s1, .fail st)
        | (s1, .wait) => (s1, .wait)

/-- Up to `n` entries fetched in index order; a failed fetch halts the ring (R81, R90, R656). -/
def State.fetchBurst (s : State) (env : Env) (key : Nat) : Nat → State
  | 0 => s
  | n + 1 =>
    let r := s.ring key
    match r.refetch with
    | some i =>
      match s.fetchOne env key i true with
      | (s1, .ok _) => (s1.setRing key { s1.ring key with refetch := none }).fetchBurst env key n
      | (s1, .fail st) => s1.haltWithEvent env key st
      | (s1, .wait) => s1
    | none =>
      if r.hw = r.sw then s
      else
        match s.fetchOne env key r.hw false with
        | (s1, .ok _) =>
          let g := s1.ring key
          let h := idxNext g.hw
          (s1.setRing key { g with hw := h, pend := decide (h ≠ g.sw) }).fetchBurst env key n
        | (s1, .fail st) => s1.haltWithEvent env key st
        | (s1, .wait) => s1

/-- RING_ARBITRATION (R88, R94): one grant and its burst. -/
def execRingArbitration (env : Env) (s : State) : Out :=
  .next (
    let ok := fun k => decide (0 < s.slotsFor (s.ring k).fn)
    let s1 := match s.grant (fun _ => true) with
      | some k => if ok k then s else s.inc F.RNG_GLB_STAT_NOSLOT_CNT 0
      | none => s
    match s.grant ok with
    | none => s1
    | some k =>
      let r := s1.ring k
      let s2 := s1.setRing k { r with age := s1.rng.arbNo }
      let s3 := { s2 with rng := { s2.rng with arbNo := s2.rng.arbNo + 1 } }
      s3.fetchBurst env k (min (r.burst + 1) (s1.slotsFor r.fn)))

/-! Arrival and dispatch. -/

/-- Whether OPCODE is defined for CLASS (R71 and the tables of each class). -/
def opDefined (cls op : Nat) : Bool :=
  match cls with
  | 0 => op == 0
  | 1 => op < 3
  | 2 => op < 2
  | 3 => op < 12
  | 4 => op < 5
  | 5 => op == 0
  | 6 => op < 3
  | 7 => op < 3
  | 8 => op < 3
  | 9 => op < 6
  | _ => false

/-- Whether the enables of a function allow a class (R343). -/
def State.classEnabled (s : State) (fn cls : Nat) : Bool :=
  let c := s.flag F.HEP_FN_CTL_COMPUTE fn
  let d := s.flag F.HEP_FN_CTL_STORAGE fn
  let n := s.flag F.HEP_FN_CTL_NETWORK fn
  match cls with
  | 1 | 2 | 3 | 6 => c
  | 4 => c && n
  | 5 => d
  | 9 => c || d || n
  | _ => true

/-- The word-0 checks of R72, in order. -/
def State.checkWord0 (s : State) (key w : Nat) : Nat :=
  let r := s.ring key
  if c0Rgen w ≠ r.gen then St.RING_GEN_MISMATCH
  else if c0Fgen w ≠ s.fgen r.fn then St.FUNC_GEN_MISMATCH
  else if !opDefined (c0Class w) (c0Op w) ∨ bit w 13 then St.BAD_CLAUSE
  else if !s.classEnabled r.fn (c0Class w) then St.CLASS_NOT_ENABLED
  else St.SUCCESS

/-- Whether a slot is the entry of its ring that is next in index order, a clause fetched again by RETRY first. -/
def State.isNext (s : State) (x : Slot) : Bool :=
  x.retry || (decide (x.idx = (s.ring x.ring).disp) && (s.ringSlots x.ring).all (fun y =>
    !y.2.retry || decide (y.2.phase ≠ .fetching ∧ y.2.phase ≠ .arrived)))

/-- The entry of a slot dispatched: the ring's dispatch index and the device's dispatch count advance. -/
def State.dispatch (s : State) (n : Nat) (x : Slot) : State :=
  let g := s.ring x.ring
  let s1 := s.setRing x.ring { g with disp := if x.retry then g.disp else idxNext x.idx }
  { s1.setSlot n { x with phase := .dispatched, seq := s.rng.dispNo, epoch := s.fld F.MEM_FN_FENCE_EPOCH x.fn
                          since := s.tb.time } with
    rng := { (s1.setSlot n { x with phase := .dispatched, seq := s.rng.dispNo
                                    epoch := s.fld F.MEM_FN_FENCE_EPOCH x.fn, since := s.tb.time }).rng with
      dispNo := s.rng.dispNo + 1 } }

/-- Classes that release their slot after the word-0 checks (R89). -/
def slotless (cls : Nat) : Bool := cls == 0 || cls == 7 || cls == 8

/-- The NVMe command opcodes that the controllers support (R376). -/
def nvmeSupported (admin : Bool) (op : Nat) : Bool :=
  if admin then [0x00, 0x01, 0x02, 0x04, 0x05, 0x06, 0x08, 0x09, 0x0A, 0x0C, 0xC4].contains op
  else [0x00, 0x01, 0x02, 0x08, 0x09].contains op

/-- HELD_CLAUSE_DISPATCH (R90): a fenced clause of a ring dispatches once every earlier one has completed. -/
def execHeldClauseDispatch (ring : Nat) (s : State) : Out :=
  .next (
    match (s.ringSlots ring).find? (fun x => decide (x.2.phase = .arrived)) with
    | some (n, x) => if s.earlierDone ring x.idx then s.dispatch n x else s
    | none => s)

/-! Completion. -/

/-- The entry of a completed clause (R74). -/
def clauseEntry (key : Nat) (r : Ring) (w fgen st : Nat) (res : Word) (slot : Option Nat) : CplEntry :=
  { result := res, evt := false, sq := key, fgen := fgen, status := st, tag := c0Tag w, irq := c0Irq w
    fn := r.fn, slot := slot }

/-- MODERATION_TIMER (R109, R110): MOD_TIME has passed since the first entry after the last request. -/
def execModerationTimer (cq : Nat) (s : State) : Out :=
  .next (
    let k := cqKey cq
    let r := s.ring k
    match r.modDue with
    | some t =>
      if r.irqEn ∧ t ≤ s.tb.time then
        (s.setRing k { r with modPosted := 0, modDue := none }).irqRequest r.fn r.vector
      else s
    | none => s)

/-! The ring life cycle. -/

/-- Whether a ring command of a function with operation `op` waits for acceptance (R97). -/
def State.cmdReady (s : State) (fn op : Nat) : Bool :=
  s.flag F.RNG_RING_CMD_GO fn && !s.flag F.RNG_RING_RESULT_BUSY fn && s.fld F.RNG_RING_CMD_OP fn == op

/-- The key of the ring that RNG_RING_CMD names. -/
def State.cmdRing (s : State) (fn : Nat) : Nat :=
  s.fld F.RNG_RING_CMD_RING_ID fn + if s.flag F.RNG_RING_CMD_POOL fn then 16384 else 0

/-- A command's result written: STATUS, POOL, RING_ID and GEN, BUSY clear, DONE set (R97). -/
def State.cmdResult (s : State) (fn st key : Nat) : State :=
  (((((s.setFld F.RNG_RING_RESULT_STATUS fn st).setFlag F.RNG_RING_RESULT_POOL fn (decide (16384 ≤ key))).setFld
    F.RNG_RING_RESULT_RING_ID fn (key % 16384)).setFld F.RNG_RING_RESULT_GEN fn (s.ring key).gen).setFlag
    F.RNG_RING_RESULT_BUSY fn false).setFlag F.RNG_RING_RESULT_DONE fn true

/-- A command accepted: GO clears (R97). -/
def State.cmdAccept (s : State) (fn : Nat) : State := s.setFlag F.RNG_RING_CMD_GO fn false

/-- The next ring generation (R98). -/
def genNext (g : Nat) : Nat := if g = 0xFFFF then 1 else g + 1

/-- Rings of a function on one side. -/
def State.ringCount (s : State) (fn : Nat) (cq : Bool) : Nat :=
  (s.rng.rings.filter (fun x => decide (x.2.fn = fn ∧ x.2.st ≠ .free ∧ (16384 ≤ x.1 ↔ cq = true)))).length

/-- The lowest free identifier of a side, as a key. -/
def State.freeRing (s : State) (cq : Bool) : Option Nat :=
  ((List.range 16384).find? (fun n => decide ((s.ring (n + if cq then 16384 else 0)).st = .free))).map
    (fun n => n + if cq then 16384 else 0)

/-- An ACTIVE completion ring of a function. -/
def State.isCq (s : State) (fn id : Nat) : Bool :=
  let r := s.ring (cqKey id)
  decide (r.st = .active ∧ r.typ = .completion ∧ r.fn = fn)

/-- The page and slot of a doorbell slot number in a function's BAR2 (R86). -/
def State.dbResolve (s : State) (fn slot : Nat) : Option (Nat × Nat) :=
  (s.visiblePage fn (slot / 512)).map (fun p => (p, slot % 512))

/-- The CONFIG_INVALID conditions of CREATE (R98, R343). -/
def State.createInvalid (s : State) (fn : Nat) : Bool :=
  let base := s.fld F.RNG_RING_BASE_HI_BASE_47_32 fn * 2 ^ 32 + s.fld F.RNG_RING_BASE_LO_BASE_31_12 fn * 4096
  let typ := s.fld F.RNG_RING_CFG_TYPE fn
  let reg := s.region base
  !decide (reg = .near ∨ reg = .cap ∨ reg = .shared ∨ reg = .host) ||
  (typ != 1 && !s.isCq fn (s.fld F.RNG_RING_CFG_CQ_ID fn)) ||
  (match s.dbResolve fn (s.fld F.RNG_RING_DB_DB_SLOT fn) with
   | none => true
   | some p => (s.boundRing p.1 p.2).isSome) ||
  (typ == 2 && !s.flag F.HEP_FN_CTL_NETWORK fn)

/-- The ring that CREATE makes from the staging registers (R95, R98). -/
def State.newRing (s : State) (fn key : Nat) : Ring :=
  { gen := genNext (s.ring key).gen
    st := .active
    typ := match s.fld F.RNG_RING_CFG_TYPE fn with | 1 => .completion | 2 => .workQueue | _ => .clause
    fn := fn
    base := s.fld F.RNG_RING_BASE_HI_BASE_47_32 fn * 2 ^ 32 + s.fld F.RNG_RING_BASE_LO_BASE_31_12 fn * 4096
    size := 64 * 2 ^ s.fld F.RNG_RING_CFG_SIZE fn
    cq := s.fld F.RNG_RING_CFG_CQ_ID fn
    burst := s.fld F.RNG_RING_CFG_BURST fn
    prio := max (s.fld F.RNG_RING_CFG_PRIO fn) (s.fld F.RNG_FN_QUOTA_PRIO_MIN fn)
    irqEn := s.flag F.RNG_RING_CFG_IRQ_EN fn
    vector := s.fld F.RNG_RING_CFG_VECTOR fn
    modCount := s.fld F.RNG_RING_CFG_MOD_COUNT fn
    modTime := s.fld F.RNG_RING_CFG_MOD_TIME fn
    dbSlot := s.dbResolve fn (s.fld F.RNG_RING_DB_DB_SLOT fn) }

/-- RING_CREATE (R98, R540). A failed CREATE names no ring: its POOL is the side, RING_ID and GEN are zero. While domain 25
is off a CREATE ends DOMAIN_OFF, while it wakes it waits (R588; DEDUCED). -/
def execRingCreate (fn : Nat) (s : State) : Out :=
  when (s.cmdReady fn 0 = true ∧ s.domain 25 ≠ .waking) (
    let s1 := s.cmdAccept fn
    let cq := s.fld F.RNG_RING_CFG_TYPE fn == 1
    let side := if cq then 16384 else 0
    let max := if cq then s.fld F.RNG_FN_QUOTA_CQ_MAX fn else s.fld F.RNG_FN_QUOTA_SQ_MAX fn
    let fail := fun st => (s1.cmdResult fn st side).setFld F.RNG_RING_RESULT_GEN fn 0
    if s.sec.tenancy then fail St.RING_STATE
    else if s.domain 25 = .off then fail St.DOMAIN_OFF
    else if s.createInvalid fn then fail St.CONFIG_INVALID
    else
      match s.freeRing cq with
      | none => fail St.NO_RESOURCE
      | some key =>
        if max ≤ s.ringCount fn cq then fail St.NO_RESOURCE
        else (s1.setRing key (s.newRing fn key)).cmdResult fn St.SUCCESS key) s

/-- A ring of the function that a command may act on (R101). -/
def State.ownRing (s : State) (fn key : Nat) : Bool := decide ((s.ring key).st ≠ .free ∧ (s.ring key).fn = fn)

/-- A completion ring that some submission-side ring or the function's event ring names (R99). -/
def State.cqNamed (s : State) (fn key : Nat) : Bool :=
  decide (16384 ≤ key) &&
  (s.rng.rings.any (fun x => decide (x.1 < 16384 ∧ x.2.st ≠ .free ∧ x.2.cq = key - 16384)) ||
   (s.flag F.RNG_EVT_CQ_EN fn && s.fld F.RNG_EVT_CQ_CQ_ID fn == key - 16384))

/-- Steps 1 and 2 of R99: the generation, no more fetching, the held clause discarded, DRAINING. Entries that have been fetched
and not dispatched are discarded without a completion (log entry 140). -/
def State.drainRing (s : State) (key : Nat) (destroy : Bool) : State :=
  let s1 := s.dropUndispatched key
  let g := s1.ring key
  s1.setRing key { g with
    gen := genNext g.gen, st := .draining, held := s.heldKept key, refetch := none, destroying := destroy }

/-- A ring whose DESTROY or RESET command is under way: RNG_RING_RESULT.BUSY waits for it (R97). -/
def State.markCmd (s : State) (key : Nat) : State := s.setRing key { s.ring key with byCmd := true }

/-- RING_DESTROY (R99, steps 1 to 3). On a ring that is DRAINING already it ends RING_STATE (log entry 141). -/
def execRingDestroy (fn : Nat) (s : State) : Out :=
  when (s.cmdReady fn 1 = true) (
    let s1 := s.cmdAccept fn
    let key := s.cmdRing fn
    if s.sec.tenancy ∨ !s.ownRing fn key ∨ s.cqNamed fn key ∨ (s.ring key).st = .draining then s1.cmdResult fn St.RING_STATE key
    else ((s1.drainRing key true).markCmd key).setFlag F.RNG_RING_RESULT_BUSY fn true) s

/-- RING_RESET (R99, steps 1 to 3). -/
def execRingReset (fn : Nat) (s : State) : Out :=
  when (s.cmdReady fn 2 = true) (
    let s1 := s.cmdAccept fn
    let key := s.cmdRing fn
    if s.sec.tenancy ∨ !s.ownRing fn key ∨ (s.ring key).st = .draining then s1.cmdResult fn St.RING_STATE key
    else ((s1.drainRing key false).markCmd key).setFlag F.RNG_RING_RESULT_BUSY fn true) s

/-- A drained ring after step 4 of R99. -/
def Ring.drained (r : Ring) : Ring :=
  if r.destroying then { gen := r.gen }
  else { r with st := .active, hw := 0, sw := 0, disp := 0, held := none, haltStatus := 0, haltIdx := none
                pend := false, byCmd := false, modPosted := 0, modDue := none }

/-- RING_DRAIN_DONE (R99, step 4). -/
def execRingDrainDone (pool : Bool) (ring : Nat) (s : State) : Out :=
  let key := ring + if pool then 16384 else 0
  let r := s.ring key
  when (r.st = .draining ∧ s.inflight key = 0 ∧ r.held.isNone ∧ s.flag F.HEP_FN_STAT_DRAINING r.fn = false) (
    let s1 := s.setRing key r.drained
    if r.byCmd then s1.cmdResult r.fn St.SUCCESS key else s1) s

/-- RESUME (R101). -/
def execResume (fn : Nat) (s : State) : Out :=
  when (s.cmdReady fn 3 = true) (
    let s1 := s.cmdAccept fn
    let key := s.cmdRing fn
    let r := s.ring key
    if s.sec.tenancy ∨ !s.ownRing fn key ∨ r.st ≠ .halted then s1.cmdResult fn St.RING_STATE key
    else
      let retry := if key < 16384 ∧ s.flag F.RNG_RING_CMD_RETRY fn then r.haltIdx else none
      (s1.setRing key { r with st := .active, refetch := retry, haltIdx := none }).cmdResult fn St.SUCCESS key) s

/-- SET_PRIO (R95, R96, R101). -/
def execSetPrio (fn : Nat) (s : State) : Out :=
  when (s.cmdReady fn 4 = true) (
    let s1 := s.cmdAccept fn
    let key := s.cmdRing fn
    if s.sec.tenancy ∨ !s.ownRing fn key then s1.cmdResult fn St.RING_STATE key
    else
      (s1.setRing key { s.ring key with
        prio := max (s.fld F.RNG_RING_CFG_PRIO fn) (s.fld F.RNG_FN_QUOTA_PRIO_MIN fn) }).cmdResult fn St.SUCCESS key) s

/-- SET_MOD (R101, R110). -/
def execSetMod (fn : Nat) (s : State) : Out :=
  when (s.cmdReady fn 5 = true) (
    let s1 := s.cmdAccept fn
    let key := s.cmdRing fn
    if s.sec.tenancy ∨ !s.ownRing fn key then s1.cmdResult fn St.RING_STATE key
    else
      (s1.setRing key { s.ring key with
        modCount := s.fld F.RNG_RING_CFG_MOD_COUNT fn, modTime := s.fld F.RNG_RING_CFG_MOD_TIME fn }).cmdResult
        fn St.SUCCESS key) s

end Sys2Proof.Machine
end

