-- ==== Sys2Proof/Machine/RingClauses.lean ====
section
/-! DEFINITION. The clauses that the ring engine executes: no-op, copy and fill (R103), fences and the state of barriers (R104 to R106),
wait, signal and set (R107, R108). -/

namespace Sys2Proof.Machine

/-- The slot's clause, dispatched, of a class and an opcode: its slot and words. -/
def State.clauseAt (s : State) (n cls op : Nat) : Option Slot :=
  match s.slot? n with
  | some x =>
    let w := wordAt x.words 0
    if x.phase = .dispatched ∧ (s.ring x.ring).typ = .clause ∧ c0Class w = cls ∧ c0Op w = op then some x else none
  | none => none

/-- The held clause of ring `r`, not yet complete, of a class and an opcode, whose FENCE flag does not hold it (R70, R90). -/
def State.heldAt (s : State) (r cls op : Nat) : Option HeldClause :=
  match (s.ring r).held with
  | some h =>
    let w := wordAt h.words 0
    if h.done.isNone ∧ c0Class w = cls ∧ c0Op w = op ∧ (!c0Fence w || s.earlierDone r h.idx) then some h else none
  | none => none

/-- NOP (R103): completes with the timebase at dispatch. -/
def execNopClause (ring : Nat) (s : State) : Out :=
  .next (
    match s.heldAt ring 0 0 with
    | some h => if zeroFrom h.words 1 then s.heldDone ring St.SUCCESS s.now else s.heldDone ring St.BAD_CLAUSE 0
    | none => s)

/-! The copy movers. -/

/-- The pieces of a move of `len` bytes from offset `off`: one for each 64-byte block of the destination, which is written only
when all its data has been read (R317). -/
def movePieces (dst len : Nat) : Nat → Nat → List (Nat × Nat)
  | 0, _ => []
  | fuel + 1, off =>
    if len ≤ off then []
    else
      let n := min (len - off) (64 - (dst + off) % 64)
      (off, n) :: movePieces dst len fuel (off + n)

/-- The copy movers (R103). -/
def copyMovers : Nat := 16

/-- Whether a slot's clause runs on a copy mover. -/
def State.onMover (s : State) (x : Slot) : Bool :=
  x.progress.isSome && decide ((s.ring x.ring).typ = .clause ∧ c0Class (wordAt x.words 0) = 2)

/-- Copy movers at work. -/
def State.moversBusy (s : State) : Nat := (s.rng.slots.filter (fun x => s.onMover x.2)).length

/-- What a mover writes: bytes of a source range, or a pattern (R103). -/
inductive MoveSrc where
  | range (a : Nat)
  | pattern (w : Nat)
deriving DecidableEq, Repr

/-- The bytes for piece (off, n). -/
def State.moveRead (s : State) (env : Env) (fn : Nat) (src : MoveSrc) (off n : Nat) : State × Res (List Byte) :=
  match src with
  | .range a =>
    match s.readChecked env fn (a + off) n with
    | (s1, .ok bs) => (s1.snoop 30 fn bs, .ok bs)
    | r => r
  | .pattern w => (s, .ok ((List.range n).map (fun i => BitVec.ofNat 8 (w >>> (8 * ((off + i) % 8))))))

/-- The bytes of one piece written; a device block's poison mark is cleared when the whole move ends (R316). -/
def State.moveWrite (s : State) (env : Env) (fn a : Nat) (bs : List Byte) : State × Res Unit :=
  if s.region a = .host then s.writeHostRange env fn (pageCuts a bs.length) bs
  else if s.rangeHeld a bs.length then (s, .wait)
  else (s.devPut a bs.length (s.mem.dev.writeList a bs), .ok ())

/-- The pieces of a move, one after another, up to offset `stop`: the state, the offset reached, the outcome. A held access
leaves the move where it stands (R322). -/
def State.movePiecesRun (s : State) (env : Env) (fn : Nat) (src : MoveSrc) (dst stop : Nat) :
    List (Nat × Nat) → State × Res Nat
  | [] => (s, .ok stop)
  | (off, n) :: t =>
    if stop ≤ off then (s, .ok off)
    else
      match s.moveRead env fn src off n with
      | (s1, .ok bs) =>
        match s1.moveWrite env fn (dst + off) bs with
        | (s2, .ok _) => s2.movePiecesRun env fn src dst stop t
        | (s2, .fail st) => (s2, .fail st)
        | (s2, .wait) => (s2, .ok off)
      | (s1, .fail st) => (s1, .fail st)
      | (s1, .wait) => (s1, .ok off)

/-- The device or host address behind a device physical address, no counter touched. -/
def State.peek (s : State) (env : Env) (fn : Nat) (wr : Bool) (a : Nat) : Option (Bool × Nat) :=
  if s.region a = .host then
    match (s.walk env fn wr (a - hostBase)).out with
    | .ok h => some (true, h)
    | _ => none
  else some (false, a)

/-- One byte of a memory by the answer of `peek`. -/
def State.peekByte (s : State) (x : Bool × Nat) : Byte := if x.1 then s.mem.host.read x.2 else s.mem.dev.read x.2

/-- Whether the destination block that holds byte `off` of a move takes poisoned data: nothing of it is written (R317). `t` holds
the marks that the move has found. -/
def State.poisonedBlock (s t : State) (env : Env) (fn : Nat) (src : MoveSrc) (dst len off : Nat) : Bool :=
  let a := dst + off
  let bs := if s.region a = .host then 64 else s.blockAt a
  let lo := Nat.max dst (alignDown a bs)
  let n := Nat.min (dst + len) (alignDown a bs + bs) - lo
  match src with
  | .pattern _ => false
  | .range b =>
    let x := b + (lo - dst)
    if s.region x = .host then
      (pageCuts x n).any (fun p => match s.peek env fn false p.1 with
        | some h => decide (hostFails env h.2 p.2 = some .poisoned)
        | none => false)
    else !(t.poisonIn x n).isEmpty

/-- Byte `off` of a failed move: the old value or the value that the clause would have written, as a free bit has it; a block that
takes poisoned data keeps its old bytes (R103, R317), and so does a poisoned block that the clause covers in part (R318). -/
def mixByte (s0 : State) (env : Env) (fn : Nat) (src : MoveSrc) (dst len seed : Nat) (t : State) (off : Nat) : State :=
  let a := dst + off
  match s0.peek env fn true a with
  | none => t
  | some d =>
    let put (v : Byte) : State :=
      if d.1 then t.setHost (t.mem.host.write d.2 v) else t.devPut d.2 1 (t.mem.dev.write d.2 v)
    let new : Option Byte := match src with
      | .pattern w => some (BitVec.ofNat 8 (w >>> (8 * (off % 8))))
      | .range b => (s0.peek env fn false (b + off)).map s0.peekByte
    let blk := alignDown a (s0.blockAt a)
    if s0.poisonedBlock t env fn src dst len off then put (s0.peekByte d)
    else if !d.1 ∧ t.poisoned a ∧ !decide (dst ≤ blk ∧ blk + s0.blockAt a ≤ dst + len) then t
    else
      match new with
      | none => t
      | some v => put (if Config.freeBit seed off then v else s0.peekByte d)

/-- The device ranges of a move: those that its dispatch checks pass (R324). -/
def State.moveRanges (s : State) (src : MoveSrc) (dst len : Nat) : List (Nat × Nat) :=
  ((match src with | .range a => [(a, len)] | .pattern _ => []) ++ [(dst, len)]).filter (fun r => decide (s.region r.1 ≠ .host))

/-- Where a move of `len` bytes stops in this invocation: at the end of a destination block, or of the move. -/
def moveStop (env : Env) (dst len start : Nat) : Nat :=
  match env.pause with
  | some k => if len ≤ k then len else Nat.max start (alignDown (dst + k) 64 - dst)
  | none => len

/-- A copy-class clause run on a mover, once one is free (R103, R317, R318): checked whole at its dispatch (R324), then moved
destination block by destination block; the environment may leave it in flight. -/
def State.runMove (s : State) (slot : Nat) (x : Slot) (env : Env) (src : MoveSrc) (dst len : Nat) : State :=
  let fn := x.fn
  let start := x.progress.getD 0
  let checks : Res Unit := match x.progress with
    | some _ => .ok ()
    | none =>
      if copyMovers ≤ s.moversBusy then .wait
      else
        match (match src with
          | .range a => s.checkClause fn false a len
          | .pattern _ => .ok ()) with
        | .ok _ => s.checkClause fn true dst len
        | r => r
  match checks with
  | .wait => s
  | .fail st => (s.refuse fn st).slotDone slot st 0
  | .ok _ =>
    let failed := fun (t : State) (st : Nat) =>
      let t1 := (List.range (len - start)).foldl
        (fun t i => mixByte s env fn src dst len s.fresh t (start + i)) t.tick
      t1.slotDone slot st 0
    if s.region dst ≠ .host ∧ s.partialPoison dst len then failed s St.DATA_POISONED
    else
      match s.movePiecesRun env fn src dst (moveStop env dst len start) (movePieces dst len (len / 64 + 2) start) with
      | (s1, .ok k) =>
        if k < len then
          let ep := if x.progress.isNone then s.fld F.MEM_FN_FENCE_EPOCH fn else x.epoch
          let s2 := s1.setSlot slot { x with progress := some k, epoch := ep, ranges := s.moveRanges src dst len }
          match src with
          | .range b =>
            if s2.region (b + k) = .host ∧ env.pause.isSome ∧ s.fld F.HEP_FN_STAT_DSTATE fn ≠ 3 then
              match s2.freeTag, s2.peek env fn false (b + k) with
              | some t, some h => s2.sendRead t fn h.2 (min 64 (len - k)) (.clauseData slot)
              | _, _ => s2
            else s2
          | .pattern _ => s2
        else
          let s2 :=
            if s1.region dst = .host ∨ s1.mem.poison.isEmpty then s1
            else (blocksOf (s1.blockAt dst) dst len).foldl (clearWhole (s1.blockAt dst) dst len) s1
          s2.slotDone slot St.SUCCESS (BitVec.ofNat 64 len)
      | (s1, .fail st) => failed s1 st
      | (s1, .wait) => s1

/-- Whether a read of a clause is outstanding, so that the clause waits for it. -/
def State.awaitsRead (s : State) (slot : Nat) : Bool :=
  s.hep.reads.any (fun r => decide (r.2.purpose = .clauseData slot))

/-- COPY (R103). -/
def execCopy (slot : Nat) (env : Env) (s : State) : Out :=
  .next (
    match s.clauseAt slot 2 0 with
    | none => s
    | some x =>
      let w := fun i => wordAt x.words i
      let src := field (w 1) 47 0
      let dst := field (w 2) 47 0
      let len := field (w 3) 39 0
      if s.awaitsRead slot then s
      else if field (w 1) 63 48 ≠ 0 ∨ field (w 2) 63 48 ≠ 0 ∨ field (w 3) 63 40 ≠ 0 ∨ !zeroFrom x.words 4 ∨
          overlaps src len dst len then s.slotDone slot St.BAD_CLAUSE 0
      else if len = 0 then s.slotDone slot St.SUCCESS 0
      else s.runMove slot x env (.range src) dst len)

/-- FILL (R103). -/
def execFill (slot : Nat) (env : Env) (s : State) : Out :=
  .next (
    match s.clauseAt slot 2 1 with
    | none => s
    | some x =>
      let w := fun i => wordAt x.words i
      let dst := field (w 2) 47 0
      let len := field (w 3) 39 0
      if field (w 2) 63 48 ≠ 0 ∨ field (w 3) 63 40 ≠ 0 ∨ !zeroFrom x.words 4 then s.slotDone slot St.BAD_CLAUSE 0
      else if len = 0 then s.slotDone slot St.SUCCESS 0
      else s.runMove slot x env (.pattern (w 1)) dst len)

/-! Fences and barriers. -/

/-- FENCE (R104). -/
def execFence (ring : Nat) (s : State) : Out :=
  .next (
    match s.heldAt ring 7 0 with
    | none => s
    | some h =>
      if !zeroFrom h.words 1 then s.heldDone ring St.BAD_CLAUSE 0
      else if s.earlierDone ring h.idx then s.heldDone ring St.SUCCESS s.now
      else s)

/-- Every entry of a function that was dispatched before number `seq` has completed (R104). -/
def State.fnDone (s : State) (fn seq : Nat) : Bool :=
  s.rng.slots.all (fun x => decide (x.2.fn ≠ fn ∨ seq ≤ x.2.seq ∨ x.2.phase = .fetching ∨ x.2.phase = .arrived) ||
    x.2.completed) &&
  s.rng.rings.all (fun r => decide (r.2.fn ≠ fn) ||
    (match r.2.held with | some h => h.done.isNone || decide (seq ≤ h.seq) | none => true))

/-- FENCE_FN (R104). -/
def execFenceFn (ring : Nat) (s : State) : Out :=
  .next (
    match s.heldAt ring 7 1 with
    | none => s
    | some h =>
      if !zeroFrom h.words 1 then s.heldDone ring St.BAD_CLAUSE 0
      else if s.fnDone (s.ring ring).fn h.seq then s.heldDone ring St.SUCCESS s.now
      else s)

/-- Fields of a BARRIER clause (R104). -/
def barrierId (h : HeldClause) : Nat := field (wordAt h.words 1) 5 0
def barrierN (h : HeldClause) : Nat := field (wordAt h.words 1) 15 8
def barrierStep (h : HeldClause) : Bool := bit (wordAt h.words 1) 16
def barrierBad (h : HeldClause) : Bool :=
  field (wordAt h.words 1) 7 6 != 0 || field (wordAt h.words 1) 63 17 != 0 || barrierN h == 0 || !zeroFrom h.words 3

/-- The held BARRIER clause of ring `r`, if it has one under identifier `id` that is well formed, counts for its identifier (R105)
and waits for others. -/
def State.barrierOf (s : State) (fn id r : Nat) : Option HeldClause :=
  if (s.ring r).fn = fn ∧ !s.ckHolds r then
    (s.heldAt r 7 2).filter (fun h => barrierId h == id && !barrierBad h && !h.mis)
  else none

/-- The rings that hold a BARRIER of a function under an identifier. -/
def State.barrierRings (s : State) (fn id : Nat) : List Nat :=
  (s.rng.rings.map (fun x => x.1)).filter (fun r => (s.barrierOf fn id r).isSome)

/-- Whether a BARRIER clause that arrives on a ring of `fn` names another N than the clauses held under its identifier (R105). -/
def State.barrierMis (s : State) (fn : Nat) (h : HeldClause) : Bool :=
  s.rng.rings.any (fun x => decide (x.2.fn = fn) && !s.ckHolds x.1 &&
    (match x.2.held with
     | some o => o.done.isNone && decide (c0Class (wordAt o.words 0) = 7 ∧ c0Op (wordAt o.words 0) = 2) && !barrierBad o &&
        !o.mis && barrierId o == barrierId h && barrierN o != barrierN h
     | none => false))

/-- Arrival number of the BARRIER that a ring holds. -/
def State.barrierSeq (s : State) (r : Nat) : Nat := ((s.ring r).held.map (fun h => h.seq)).getD 0

/-- A ring put into a list of rings that stands in the order in which their BARRIER clauses arrived. -/
def State.barrierInsert (s : State) (r : Nat) : List Nat → List Nat
  | [] => [r]
  | q :: t => if s.barrierSeq r < s.barrierSeq q then r :: q :: t else q :: s.barrierInsert r t

/-- The rings whose BARRIER under an identifier has seen every earlier clause of its ring complete, in order of arrival (R104). -/
def State.barrierReady (s : State) (fn id : Nat) : List Nat :=
  ((s.barrierRings fn id).filter (fun r => match s.barrierOf fn id r with
    | some o => s.earlierDone r o.idx
    | none => false)).foldl (fun l r => s.barrierInsert r l) []

/-! Event counters. -/

/-- WAIT (R107): completes when its counter has reached the threshold. -/
def execWait (ring : Nat) (s : State) : Out :=
  .next (
    match s.heldAt ring 8 0 with
    | none => s
    | some h =>
      if !waitOk h then s.heldDone ring St.BAD_CLAUSE 0
      else
        match s.evtNumber (s.ring ring).fn (field (wordAt h.words 1) 12 0) with
        | none => s.heldDone ring St.EVENT_RANGE 0
        | some n =>
          if wordAt h.words 2 ≤ (s.counter n).toNat then s.heldDone ring St.SUCCESS (s.counter n) else s)

/-- SIGNAL (R107): after the earlier clauses of its ring, adds its addend. A bad operand or a counter out of range ends it before
them (the model's choice, log entry 163). -/
def execSignal (ring : Nat) (s : State) : Out :=
  .next (
    match s.heldAt ring 8 1 with
    | none => s
    | some h =>
      if !evtOperand h ∨ !zeroFrom h.words 3 then s.heldDone ring St.BAD_CLAUSE 0
      else
        match s.evtNumber (s.ring ring).fn (field (wordAt h.words 1) 12 0) with
        | none => s.heldDone ring St.EVENT_RANGE 0
        | some n =>
          if s.earlierDone ring h.idx then
            (s.addCounter n (h.words.getD 2 0)).heldDone ring St.SUCCESS (s.counter n + h.words.getD 2 0)
          else s)

/-- SET (R107): after the earlier clauses of its ring, writes its value; RESULT is the value before. -/
def execSet (ring : Nat) (s : State) : Out :=
  .next (
    match s.heldAt ring 8 2 with
    | none => s
    | some h =>
      if !evtOperand h ∨ !zeroFrom h.words 3 then s.heldDone ring St.BAD_CLAUSE 0
      else
        match s.evtNumber (s.ring ring).fn (field (wordAt h.words 1) 12 0) with
        | none => s.heldDone ring St.EVENT_RANGE 0
        | some n =>
          if s.earlierDone ring h.idx then
            (s.updateCounter n (h.words.getD 2 0)).heldDone ring St.SUCCESS (s.counter n)
          else s)

/-- The time at which a held clause was dispatched to wait for its own condition: when it was first held or, with FENCE, when the
last earlier clause of its ring completed (R70, R90, R108). -/
def State.heldFrom (s : State) (ring : Nat) (h : HeldClause) : Nat :=
  if c0Fence (wordAt h.words 0) then Nat.max h.since (s.ring ring).lastDone else h.since

/-- WAIT_TIMEOUT (R108): the timeout of a held WAIT has passed since its dispatch. -/
def execWaitTimeout (ring : Nat) (s : State) : Out :=
  .next (
    match s.heldAt ring 8 0 with
    | none => s
    | some h =>
      let us := field (wordAt h.words 3) 31 0
      match s.evtNumber (s.ring ring).fn (field (wordAt h.words 1) 12 0) with
      | none => s
      | some n =>
        if us ≠ 0 ∧ waitOk h ∧ s.heldFrom ring h + us * 1000 ≤ s.tb.time then
          if wordAt h.words 2 ≤ (s.counter n).toNat then s.heldDone ring St.SUCCESS (s.counter n)
          else s.heldDone ring St.WAIT_TIMEOUT (s.counter n)
        else s)

end Sys2Proof.Machine
end

