-- ==== Sys2Proof/Machine/Time.lean ====
section
/-! DEFINITION. Pace monitors, the timebase and the power controller (chapter 2). -/

namespace Sys2Proof.Machine

/-- Fields of pace monitor `m`: tile groups 0 to 7, dies 8 to 10 (R46). -/
def paceField (f : Fld) (m : Nat) : Fld := f.at m

/-- The length of a pace window, ns (R46). -/
def State.paceWindow (s : State) : Nat :=
  match s.fld F.GLB_PACE_CTL_WINDOW 0 with
  | 0 => 1000
  | 1 => 10000
  | _ => 100000

/-- Every monitor's window starts now (R43). -/
def State.restartPace (s : State) : State :=
  { s with tb := { s.tb with paceStart := (List.range 11).map (fun m => (m, s.tb.time)) } }

/-- The pace that a monitor's replica chains give: the lowest of them (R654). -/
def lowestPace : List Nat → Nat
  | [] => 0
  | p :: t => t.foldl Nat.min p

/-- Whether the chains of a monitor cycle: a tile group's domain is on, and so is a die's core rail (R44, R588). -/
def State.paceRuns (s : State) (mon : Nat) : Bool := if mon < 8 then s.domOn mon else s.fum.corePg

/-- PACE_SAMPLE (R43, R44, R577, R654): the window of a monitor has ended, with the pace of each of its replica chains; a monitor
whose logic is off publishes none, and a tile group then reads PACE 0. With CAL held the monitors publish nothing, nor while they
are held in reset. -/
def execPaceSample (mon : Nat) (chains : List Nat) (s : State) : Out :=
  let v := lowestPace chains % 2 ^ 16
  when (mon < 11 ∧ chains ≠ [] ∧ s.fum.perst = false ∧ s.flag F.GLB_PACE_CTL_EN 0 = true ∧
      Tbl.getD s.tb.paceStart mon 0 + s.paceWindow ≤ s.tb.time ∧ bit (s.fld F.FUM_FUSE_HELD_HELD 0) 18 = false) (
    let s0 : State := { s with tb := { s.tb with paceStart := Tbl.set mon s.tb.time s.tb.paceStart } }
    if s.paceRuns mon = false then (if mon < 8 then s0.setFld (F.GLB_PACE_MON_PACE.at mon) 0 0 else s0)
    else
      let s1 := s0.setFld (F.GLB_PACE_MON_PACE.at mon) 0 v
      let s2 := if v < s.fld (F.GLB_PACE_MON_MIN.at mon) 0 then s1.setFld (F.GLB_PACE_MON_MIN.at mon) 0 v else s1
      let s3 := if s.fld (F.GLB_PACE_MON_MAX.at mon) 0 < v then s2.setFld (F.GLB_PACE_MON_MAX.at mon) 0 v else s2
      s3.inc (F.GLB_PACE_MON_SEQ.at mon) 0) s

/-- What a write to GLB_PACE_CTL does beyond its fields (R43). -/
def State.paceCtlChanged (old s : State) : State :=
  if s.fld F.GLB_PACE_CTL_WINDOW 0 ≠ old.fld F.GLB_PACE_CTL_WINDOW 0 ∨
     (!old.flag F.GLB_PACE_CTL_EN 0 && s.flag F.GLB_PACE_CTL_EN 0) then s.restartPace
  else s

/-- The fields of a device register written whole from a 64-bit value. -/
def State.writeWhole (s : State) (fs : List Fld) (v : Nat) : State :=
  { s with regs := writeFields fs 0 0 0 64 v s.regs }

/-- Whether a requester is a virtual function. -/
def isVf : Requester → Bool
  | .vf _ => true
  | _ => false

/-- PACE_CTL_WRITE (R43). -/
def execPaceCtlWrite (who : Requester) (v : Word) (s : State) : Out :=
  when (s.fum.perst = false ∧ isVf who = false) (
    let s := s.touch who
    State.paceCtlChanged s
      (s.writeWhole [F.GLB_PACE_CTL_WINDOW, F.GLB_PACE_CTL_CLR_EXT, F.GLB_PACE_CTL_EN] v.toNat)) s

/-- CLR_EXT (R45, R46). -/
def execClrExt (s : State) : Out :=
  when (s.flag F.GLB_PACE_CTL_CLR_EXT 0 = true) (
    (List.range 11).foldl (fun t m =>
      (t.setFld (F.GLB_PACE_MON_MIN.at m) 0 0xFFFF).setFld (F.GLB_PACE_MON_MAX.at m) 0 0)
      (s.setFlag F.GLB_PACE_CTL_CLR_EXT 0 false)) s

/-- PLL_UNLOCK (R49). -/
def execPllUnlock (s : State) : Out :=
  when (s.flag F.GLB_TB_STAT_LOCKED 0 = true) (
    sinterEvent 0x001 0 (((s.setFlag F.GLB_TB_STAT_LOCKED 0 false).setFlag F.GLB_TB_STAT_UNLOCK 0 true).inc
      F.GLB_TB_STAT_UNLOCK_CNT 0)) s

/-- PLL_RELOCK (R49): crystal accuracy resumes without a jump in the count. -/
def execPllRelock (s : State) : Out := .next (s.setFlag F.GLB_TB_STAT_LOCKED 0 true)

/-- TIMEBASE_LOW_READ (R50, R51, R55): answers bits [31:0] and latches bits [63:32] for the reading function. -/
def execTimebaseLowRead (who : Requester) (s : State) : Out :=
  let s := s.touch who
  .next { s with
    tb := { s.tb with latch := Tbl.set (reqFn who) (s.tb.time / 2 ^ 32 % 2 ^ 32) s.tb.latch }
    hep := { s.hep with lastRead := BitVec.ofNat 64 (s.tb.time % 2 ^ 32) } }

/-- What a 32-bit read at the upper half of GLB_TIMEBASE answers: the bits that the reading function's latch holds (R51, R55). -/
def State.timebaseHigh (s : State) (who : Requester) : Nat := Tbl.getD s.tb.latch (reqFn who) 0

/-- APPLY_STEP (R53). -/
def execApplyStep (s : State) : Out :=
  when (s.flag F.GLB_TOD_CTL_APPLY_STEP 0 = true)
    ((s.setFlag F.GLB_TOD_CTL_APPLY_STEP 0 false).setFld F.GLB_TOD_OFFSET_OFFSET 0
      (s.fld F.GLB_TOD_OFFSET_OFFSET 0 + s.fld F.GLB_TOD_STEP_STEP 0)) s

/-- TOD_SLEW_TICK (R47, R53): `ns` nanoseconds of timebase pass, each of which slews OFFSET by SLEW_PPB × 10^-9 ns. -/
def execTodSlewTick (ns : Nat) (s : State) : Out :=
  when (s.tb.running = true) (
    let total := s.tb.slewFrac + (ns : Int) * signed 32 (s.fld F.GLB_TOD_CTL_SLEW_PPB 0)
    let whole := total / 1000000000
    let s1 : State := { s with tb := { s.tb with
      time := s.tb.time + ns, slewFrac := total - whole * 1000000000 } }
    let s2 := s1.setFld F.GLB_TIMEBASE_TIME 0 (s.tb.time + ns)
    s2.setFld F.GLB_TOD_OFFSET_OFFSET 0 (unsigned 64 ((s.fld F.GLB_TOD_OFFSET_OFFSET 0 : Int) + whole))) s

/-- Adjusted time (R52). -/
def State.adjusted (s : State) : Nat := (s.tb.time + s.fld F.GLB_TOD_OFFSET_OFFSET 0) % 2 ^ 64

/-! The power controller. -/

/-- The fused maximum package power, W (R1, R577): an AKS-K7-S while PART is held. A PART word of 0, which no shipped part has,
counts as an AKS-K7-H: the manual does not say (DESIGN CHOICE, log 143). -/
def State.fusedMaxW (s : State) : Nat :=
  let v := s.fld F.FUM_FUSE_DATA_VALUE 17
  if bit (s.fld F.FUM_FUSE_HELD_HELD 0) 17 then 1200 else if v = 0 then 1400 else field v 31 16

/-- The voltage of least energy per beat, mV (R60, R577). -/
def State.vEff (s : State) : Nat := field (s.fld F.FUM_FUSE_DATA_VALUE 18) 41 32

/-- The lowest PACE among the tile groups of die `d` whose domains are on; none if no domain is (R60, R61). A domain that
waits to switch off is on (R588). -/
def State.diePace (s : State) (d : Nat) : Option Nat :=
  (((List.range 4).map (fun i => 4 * d + i)).filter s.domOn).foldl
    (fun (a : Option Nat) g =>
      let v := s.fld (F.GLB_PACE_MON_PACE.at g) 0
      match a with
      | none => some v
      | some b => some (min b v)) none

/-- What a decision does to a rail. -/
inductive RailMove where
  | lower | hold | raise
deriving DecidableEq, Repr

/-- A decision: the move, the limiter code, and the events it sets. -/
structure Decision where
  move : RailMove
  limiter : Nat
  thermHit : Bool := false
  capHit : Bool := false
  floorUnmet : Bool := false
  vmaxHit : Bool := false
deriving DecidableEq, Repr

/-- The decision of R60 for one rail: `v` in mV, `pace` and `floor` in 1/16 beat per µs, `tj` and `limit` in °C,
`p` and `cap` in one unit of power. A decision to lower sets its event also where the rail stands at 0.60 V already
(DESIGN CHOICE, log 144). -/
def decide60 (tj limit p cap v vEff floor pace : Nat) (effEn : Bool) : Decision :=
  let raiseOk := decide (100 * p ≤ 98 * cap) && decide (tj + 2 ≤ limit)
  let capNear := decide (98 * cap < 100 * p)
  if limit ≤ tj then { move := .lower, limiter := 4, thermHit := true }
  else if cap < p then { move := .lower, limiter := 3, capHit := true }
  else if floor ≠ 0 ∧ pace < floor then
    if 900 ≤ v then { move := .hold, limiter := 0, floorUnmet := true, vmaxHit := true }
    else if !raiseOk then { move := .hold, limiter := if capNear then 3 else 4, floorUnmet := true }
    else { move := .raise, limiter := 2 }
  else if effEn then
    if vEff < v ∧ (floor = 0 ∨ floor + 256 ≤ pace) then { move := .lower, limiter := 1 }
    else if floor ≠ 0 ∧ vEff < v then { move := .hold, limiter := 2 }
    else { move := .hold, limiter := 1 }
  else if v < 900 ∧ raiseOk then { move := .raise, limiter := 0 }
  else { move := .hold, limiter := if 900 ≤ v then 0 else if capNear then 3 else 4 }

/-- The rail voltage after a move: 5 mV steps within 600 to 900 mV (R59). -/
def railAfter (v : Nat) (m : RailMove) : Nat :=
  match m with
  | .lower => if v ≤ 605 then 600 else v - 5
  | .hold => v
  | .raise => max 600 (min 900 (v + 5))

def vField (d : Nat) : Fld := if d = 0 then F.FUM_PWR_STAT_V_CD0_MV else F.FUM_PWR_STAT_V_CD1_MV
def limField (d : Nat) : Fld := if d = 0 then F.FUM_PWR_STAT_LIMITER_CD0 else F.FUM_PWR_STAT_LIMITER_CD1

/-- An event field of FUM_PWR_EVT set if `b` holds, with a pulse of line 3 (R586). -/
def State.raiseIf (s : State) (b : Bool) (f : Fld) : State := if b then (s.setFlag f 0 true).pulseLine 3 else s

/-- A frame sent on a bus: 1 SET, 2 READ, 3 EMERGENCY (R637). -/
def State.vcbSend (s : State) (bus cmd mv : Nat) : State :=
  { s with tb := { s.tb with vcbSent := (bus, cmd, mv) :: s.tb.vcbSent } }

/-- The rails: VDD_CD0, VDD_CD1, and those that TLM reads (R631, R637). -/
def railCount : Nat := 12

/-- The mean power of a rail over the last 100 µs of telemetry, in 0.1 mW. -/
def State.railPower (s : State) (rail : Nat) : Nat :=
  let l := s.tb.telemetry.filter (fun x => decide (x.rail = rail ∧ s.tb.time < x.time + 100000))
  sumOf (l.map (fun x => x.amps * x.mv)) / l.length

/-- Package power, the mean of the last 100 µs over all rails, in 0.1 mW (R655). A rail without a reading counts nothing. -/
def State.packagePower (s : State) : Nat := sumOf ((List.range railCount).map s.railPower)

/-- Whether missing telemetry makes package power count as above the cap for rail `d`: three frames in a row unanswered by its own
regulator, or by one that TLM reads (R638). -/
def State.powerUnknown (s : State) (d : Nat) : Bool :=
  decide (3 ≤ Tbl.getD s.tb.vcbMissed d 0) ||
  (List.range railCount).any (fun r => decide (2 ≤ r ∧ 3 ≤ Tbl.getD s.tb.vcbMissed r 0))

/-- The normal decision for rail `d` (R59 to R61, R64; with CAL held, R577 ignores floor and efficiency target).
A rail whose regulator alerts is not raised; with three frames in a row unanswered, package power counts as above the cap
(R638). `p` is in 0.1 mW. -/
def State.decideRail (s : State) (tj p d : Nat) : State :=
  let cal := bit (s.fld F.FUM_FUSE_HELD_HELD 0) 18
  let pace := s.diePace d
  let floor := if cal ∨ pace.isNone then 0 else s.fld F.FUM_PWR_TGT_FLOOR 0
  let v := s.fld (vField d) 0
  let cap := s.fld F.FUM_PWR_CAP_CAP_APPLIED_W 0 * 10000
  let p := if s.powerUnknown d then Nat.max p (cap + 1) else p
  let x := decide60 tj (s.fld F.FUM_PWR_TGT_LIMIT_C 0) p cap v s.vEff floor
    (pace.getD 0) (s.flag F.FUM_PWR_TGT_EFF_EN 0 && !cal)
  let move := if x.move = .raise ∧ Tbl.getD s.tb.railAlert d false then .hold else x.move
  let s1 := (s.setFld (vField d) 0 (railAfter v move)).setFld (limField d) 0 x.limiter
  let s2 := (((s1.raiseIf x.thermHit F.FUM_PWR_EVT_THERM_HIT).raiseIf x.capHit F.FUM_PWR_EVT_CAP_HIT).raiseIf
    x.floorUnmet F.FUM_PWR_EVT_FLOOR_UNMET).raiseIf x.vmaxHit F.FUM_PWR_EVT_VMAX_HIT
  let s3 := if x.thermHit then sinterEvent 0x004 tj s2 else s2
  if x.floorUnmet ∨ x.vmaxHit then sinterEvent 0x002 (floor - pace.getD 0) s3 else s3

/-- POWER_DECISION (R59 to R64, R655, R2): every 10 µs while the core rails are up, one decision for each compute-die rail from the
latest readings of the 40 junction sensors (those of the compute dies, then those of the I/O die), the telemetry and the pace samples; a cap request takes effect here, limited to the fused
maximum. -/
def execPowerDecision (compute io : List Nat) (s : State) : Out :=
  let tj := (compute ++ io).foldl Nat.max 0
  let p := s.packagePower
  when (s.fum.corePg = true ∧ s.tb.lastDecision + 10000 ≤ s.tb.time) (
    let s0 : State := { s with tb := { s.tb with lastDecision := s.tb.time } }
    let s1 := ((s0.setFld F.FUM_PWR_CAP_CAP_APPLIED_W 0 (min (s.fld F.FUM_PWR_CAP_CAP_W 0) s.fusedMaxW)).setFld
      F.FUM_PWR_STAT_TJ_C 0 tj).setFld F.FUM_PWR_STAT_POWER_W 0 (p / 10000)
    if s.tb.emergency ∧ s.fld F.FUM_PWR_TGT_LIMIT_C 0 ≤ tj then
      ((((s1.setFld F.FUM_PWR_STAT_V_CD0_MV 0 600).setFld F.FUM_PWR_STAT_V_CD1_MV 0 600).setFld
        F.FUM_PWR_STAT_LIMITER_CD0 0 5).setFld F.FUM_PWR_STAT_LIMITER_CD1 0 5)
    else
      let s2 : State := { s1 with tb := { s1.tb with emergency := false } }
      (s2.decideRail tj p 0).decideRail tj p 1) s

/-- FUM_PWR_CAP_WRITE (R2, R63, R65): the request is stored; R63 applies it at the next control interval. -/
def execFumPwrCapWrite (who : Requester) (v : Word) (s : State) : Out :=
  when (isVf who = false) ((s.touch who).writeWhole [F.FUM_PWR_CAP_CAP_APPLIED_W, F.FUM_PWR_CAP_CAP_W] v.toNat) s

/-- The EMERGENCY frames of both compute-die rails, once their regulators are up (R62, R637). -/
def State.emergencyFrames (s : State) : State := if s.fum.corePg then (s.vcbSend 0 3 600).vcbSend 1 3 600 else s

/-- THERM_EMERG (R62): a junction reaches 110 °C. -/
def execThermEmerg (tj : Nat) (s : State) : Out :=
  when (110 ≤ tj ∧ s.tb.emergency = false) (
    let s1 := ({ s with tb := { s.tb with emergency := true } } : State).emergencyFrames
    sinterEvent 0x003 tj (((((((s1.setFld F.FUM_PWR_STAT_V_CD0_MV 0 600).setFld F.FUM_PWR_STAT_V_CD1_MV 0 600).setFld
      F.FUM_PWR_STAT_LIMITER_CD0 0 5).setFld F.FUM_PWR_STAT_LIMITER_CD1 0 5).raiseIf true F.FUM_PWR_EVT_THERM_EMERG).setFld F.FUM_PWR_STAT_TJ_C 0 tj))) s

end Sys2Proof.Machine
end

