-- ==== Sys2Proof/Machine/Tiles.lean ====
section
/-! DEFINITION. Tiles and roles: fault codes (R158), roles (R142 to R147), unit commands (R121 to R126), and the tile
launch class (R148 to R156) with tile faults (R159 to R161). -/

namespace Sys2Proof.Machine

/-! Fault codes (R158). -/
namespace TF
def ILLEGAL_INSTRUCTION : Nat := 0x01
def STACK_LIMIT : Nat := 0x02
def WINDOW_FAULT : Nat := 0x03
def PROGRAM_FAULT : Nat := 0x04
def UNIT_CMD_INVALID : Nat := 0x05
def SRAM_RANGE : Nat := 0x06
def SRAM_UNCORRECTABLE : Nat := 0x07
def EVENT_RANGE : Nat := 0x0F
def LAUNCH_TIMEOUT : Nat := 0x10
def ABORTED : Nat := 0x11
def PEER_FAULT : Nat := 0x12
def GEYSER_FAULT : Nat := 0x13
end TF

/-- The fault code named after a status (R138, R158, R364). -/
def faultOf (st : Nat) : Nat :=
  if st = St.ADDRESS_UNMAPPED then 0x08
  else if st = St.DOMAIN_OFF then 0x09
  else if st = St.WINDOW_VIOLATION then 0x0A
  else if st = St.WALK_FAULT then 0x0B
  else if st = St.WALK_DEVICE_REGION then 0x0C
  else if st = St.DATA_POISONED then 0x0E
  else 0x0D

/-- The role of a tile. -/
def State.roleOf (s : State) (t : Nat) : Option Role := (s.tile t).role.bind (fun l => Tbl.find? l s.roles)
def State.setRole (s : State) (lead : Nat) (r : Role) : State := { s with roles := Tbl.set lead r s.roles }

/-- The function that launched a tile (R24). -/
def State.tileFn (s : State) (t : Nat) : Nat := ((s.roleOf t).map (fun r => r.fn)).getD 0

/-- Of two faults of one tile that stand at the arbiter together, the one that comes first in program order (R235); a fault with
no place in program order leaves the one that stands (log entry 147). -/
def FaultRec.first (old new : FaultRec) : FaultRec :=
  match old.order, new.order with
  | some a, some b => if b < a then new else old
  | _, _ => old

/-- A fault detected at a tile: its sequencer stops, and the fault waits for the tile group's arbiter (R159, R160, R235). -/
def State.raiseFault (s : State) (t : Nat) (f : FaultRec) : State :=
  let x := s.tile t
  s.setTile t { x with
    fault := some ((x.fault.map (fun o => o.first f)).getD f), core := { x.core with run := .stopped } }

/-! Unit commands. -/

/-- The commands issued before a tag. -/
def Tile.before (x : Tile) (tag : Nat) : List UnitCmd := x.cmds.takeWhile (fun c => c.tag != tag)

/-- Whether a command loads tables (R188). -/
def UnitCmd.isLoad (c : UnitCmd) : Bool := c.unit == 2 && decide (8 ≤ c.op ∧ c.op ≤ 11)

/-- Commands that the tile DMA keeps in flight at once (R140). -/
def dmaInFlight : Nat := 16

/-- A command that has started and whose completion has not been posted. -/
def UnitCmd.inFlight (c : UnitCmd) : Bool := decide (c.phase ≠ .queued)

/-- A queued, committed command of a unit and an operation that may start (R125, R126, R133, R139, R140, R189). -/
def Tile.ready (x : Tile) (tag unit : Nat) (ops : Nat → Bool) : Option UnitCmd :=
  match x.cmd? tag with
  | none => none
  | some c =>
    let pre := x.before tag
    if c.unit = unit ∧ ops c.op ∧ c.phase = .queued ∧ c.depth = 0 ∧
       pre.all (fun d => d.unit != unit || (d.phase ≠ .queued : Bool)) ∧
       (unit < 2 → pre.all (fun d => !d.isLoad)) ∧
       (c.isLoad → pre.all (fun d => decide (2 ≤ d.unit))) ∧
       (unit = 2 ∧ c.op = 2 → pre.all (fun d => d.unit != 2)) ∧
       (unit = 2 → (x.cmds.filter (fun d => d.unit == 2 && d.inFlight)).length < dmaInFlight) then some c
    else none

/-- A command's phase changed. -/
def Tile.setPhase (x : Tile) (tag : Nat) (p : CmdPhase) : Tile :=
  { x with cmds := x.cmds.map (fun c => if c.tag = tag then { c with phase := p } else c) }

/-- A command removed: completed, cancelled or failed. -/
def Tile.dropCmd (x : Tile) (tag : Nat) : Tile := { x with cmds := x.cmds.filter (fun c => c.tag != tag) }

/-- A command's effect is made; UNIT_COMPLETION posts its word (R123). -/
def State.cmdDone (s : State) (t tag : Nat) (outcome value : Nat) : State :=
  s.setTile t ((s.tile t).setPhase tag (.done (BitVec.ofNat 16 (outcome * 4096 + value))))

/-- A command fails: the unit performs no part of it beyond what has been done, and the tile faults (R124, R138). -/
def State.cmdFault (s : State) (t : Nat) (c : UnitCmd) (code : Nat) : State :=
  (s.setTile t ((s.tile t).dropCmd c.tag)).raiseFault t ⟨code, c.pc, c.unit, c.tag, some c.order⟩

/-! Tensor descriptors (R128, R129). -/

/-- A tensor descriptor's fields, and whether it holds a reserved encoding. -/
structure TensorDesc where
  fmt : Nat
  stride : Nat
  cols : Nat
  rows : Nat
  scale : Nat
  base : Nat
  reserved : Bool
deriving DecidableEq, Repr

def tensorDesc (d : Nat) : TensorDesc :=
  { fmt := field d 87 80, stride := field d 78 64 * 64, cols := field d 63 48, rows := field d 47 32
    scale := field d 30 16 * 64, base := field d 14 0 * 64
    reserved := field d 127 88 != 0 || bit d 79 || bit d 31 || bit d 15 || field d 63 48 == 0 || field d 47 32 == 0 }

/-- The descriptor of a command by number, as ISSUE found it (R128). -/
def UnitCmd.desc (c : UnitCmd) (n : Nat) : TensorDesc := tensorDesc (Tbl.getD c.descs n 0)

/-- Bytes of a row (R164). -/
def rowBytes (cols w : Nat) : Nat := ceilDiv (cols * w) 8

/-- Bytes of the scale plane: rows by 32 for a weight load, else columns by 32 (R170). -/
def planeBytes (d : TensorDesc) (ldw : Bool) : Nat :=
  if ldw then ceilDiv d.rows 32 * d.cols else d.rows * ceilDiv d.cols 32

def sramSize : Nat := 0x200000

/-! The banks of tile SRAM and their arbiters (R117, R118). -/

/-- Tile SRAM is 16 banks of 128 KiB, interleaved by 128 bytes (R117). -/
def bankCount : Nat := 16
def bankSize : Nat := sramSize / bankCount
def bankLine : Nat := 128

/-- The bank of a byte of tile SRAM at offset `a`. -/
def bankOf (a : Nat) : Nat := a / bankLine % bankCount

/-- The requesters of a bank's arbiter, in the order in which it grants those that have waited equally long (R118). -/
inductive BankReq where
  | fabric | tileDma | matrix | vector | sequencer
deriving DecidableEq, Repr

def BankReq.rank : BankReq → Nat
  | .fabric => 0 | .tileDma => 1 | .matrix => 2 | .vector => 3 | .sequencer => 4

/-- A request that waits at a bank, with the timebase since which it waits. -/
structure BankWait where
  req : BankReq
  since : Nat
deriving DecidableEq, Repr

/-- Whether the arbiter grants request `x` before request `y` (R118). -/
def BankWait.before (x y : BankWait) : Bool :=
  decide (x.since < y.since ∨ (x.since = y.since ∧ x.req.rank < y.req.rank))

/-- Whether the arbiter of a bank at which the requests `l` wait may grant request `x`. -/
def bankGrants (l : List BankWait) (x : BankWait) : Bool := l.all (fun y => !y.before x)

/-- The tile SRAM byte that an outstanding window access of core `n` waits for: its tile, its offset in the tile's SRAM, and how it
waits there. An access of a tile's own sequencer is a sequencer request; one through the device address space is an incoming
fabric request. -/
def WinAccess.sram (n : Nat) (x : WinAccess) : Option (Nat × Nat × BankWait) :=
  match x.space with
  | .ownSram => some (n, x.addr, ⟨.sequencer, x.since⟩)
  | .device =>
    if tileBase ≤ x.addr ∧ x.addr < tileEnd then
      some ((x.addr - tileBase) / sramSize, (x.addr - tileBase) % sramSize, ⟨.fabric, x.since⟩)
    else none
  | .management => none

/-- The check of a descriptor (R130): its format, or the fault code. -/
def descCheck (tb : TileTables) (d : TensorDesc) (ldw : Bool) : Except Nat Format :=
  match formatOf tb d.fmt with
  | none => .error TF.UNIT_CMD_INVALID
  | some f =>
    if d.reserved ∨ d.stride < rowBytes d.cols f.width then .error TF.UNIT_CMD_INVALID
    else if sramSize < d.base + (d.rows - 1) * d.stride + rowBytes d.cols f.width ∨
        (f.block ∧ sramSize < d.scale + planeBytes d ldw) then .error TF.SRAM_RANGE
    else .ok f

/-! Tile SRAM as the tile's own units reach it (R119). -/

/-- A range of tile SRAM read; none where a unit of it is poisoned. -/
def State.sramRead (s : State) (env : Env) (t off n : Nat) : State × Option (List Byte) :=
  let a := sramBase t + off
  let s1 := s.eccFind env.ecc a n
  if s1.poisonIn a n = [] then (s1, some (s1.devRead a n)) else (s1, none)

/-- A range of tile SRAM written; none where a poisoned unit would be written in part. -/
def State.sramWrite (s : State) (t off : Nat) (bs : List Byte) : Option State :=
  let a := sramBase t + off
  if s.partialPoison a bs.length then none else some (s.devWrite a bs)

/-- The ranges (offset, length) of the rows of a descriptor. -/
def rowRanges (d : TensorDesc) (w : Nat) : List (Nat × Nat) :=
  (List.range d.rows).map (fun r => (d.base + r * d.stride, rowBytes d.cols w))

/-- Several ranges of tile SRAM read. -/
def State.sramReadAll (s : State) (env : Env) (t : Nat) : List (Nat × Nat) → State × Option (List (List Byte))
  | [] => (s, some [])
  | (o, n) :: rest =>
    match s.sramRead env t o n with
    | (s1, some bs) =>
      match s1.sramReadAll env t rest with
      | (s2, some l) => (s2, some (bs :: l))
      | r => r
    | (s1, none) => (s1, none)

/-- Several ranges of tile SRAM written. -/
def State.sramWriteAll (s : State) (t : Nat) : List (Nat × List Byte) → Option State
  | [] => some s
  | (o, bs) :: rest =>
    match s.sramWrite t o bs with
    | some s1 => s1.sramWriteAll t rest
    | none => none

/-- Element `k` of a row of width `w` (R164). -/
def elemAt (row : List Byte) (w k : Nat) : Nat := field (ofBytes row) ((k + 1) * w - 1) (k * w)

/-- A matrix of element codes with their scale bytes: rows of (code, scale byte). -/
abbrev Codes := List (List (Nat × Option Nat))

/-- The codes that a descriptor's bytes spell, with the scale byte of each element's block (R164, R170). -/
def codesOf (d : TensorDesc) (f : Format) (ldw : Bool) (rows : List (List Byte)) (plane : List Byte) : Codes :=
  rows.mapIdx (fun r row => (List.range d.cols).map (fun k =>
    (elemAt row f.width k,
     if f.block then
       some ((plane.getD (if ldw then r / 32 * d.cols + k else r * ceilDiv d.cols 32 + k / 32) 0).toNat)
     else none)))

/-- An operand read from tile SRAM (R119): its codes, or none where a unit is poisoned. -/
def State.readOperand (s : State) (env : Env) (t : Nat) (d : TensorDesc) (f : Format) (ldw : Bool) :
    State × Option Codes :=
  match s.sramReadAll env t (rowRanges d f.width) with
  | (s1, some rows) =>
    if f.block then
      match s1.sramRead env t d.scale (planeBytes d ldw) with
      | (s2, some plane) => (s2, some (codesOf d f ldw rows plane))
      | (s2, none) => (s2, none)
    else (s1, some (codesOf d f ldw rows []))
  | (s1, none) => (s1, none)

/-- The exponent of the block scale of an element; 0 for a format without block scales (R167, R172). -/
def scaleOf (sc : Option Nat) : Option Int :=
  match sc with
  | none => some 0
  | some b => scaleExp b

/-! Roles. -/

/-- The tiles that a LAUNCH selects (R149). -/
def launchTiles (w1 : Nat) : List Nat :=
  ((List.range 16).filter (fun i => bit w1 (16 + i))).map (fun i => 16 * field w1 2 0 + i)

/-- The encodings that LAUNCH refuses (R73, R149, R190). -/
def launchBad (ws : List Word) : Bool :=
  let w := fun i => wordAt ws i
  field (w 1) 63 48 != 0 || field (w 1) 15 3 != 0 || field (w 1) 31 16 == 0 ||
  field (w 2) 63 48 != 0 || w 2 % 64 != 0 ||
  w 3 == 0 || decide (65536 < w 3) ||
  field (w 6) 63 48 != 0 || w 6 % 64 != 0 ||
  field (w 7) 63 32 != 0 || decide (w 3 ≤ field (w 1) 47 32)

/-- Whether tile `t` lies in a function's CAL_FN_TILES mask. -/
def State.tileAllowed (s : State) (fn t : Nat) : Bool :=
  if t < 64 then bit (s.fld F.CAL_FN_TILES_LO_TILES fn) t else bit (s.fld F.CAL_FN_TILES_HI_TILES fn) (t - 64)

/-- A clause access already admitted to the SRAM window of some of the tiles has not completed (R147). -/
def State.accessInFlight (s : State) (ts : List Nat) : Bool :=
  (s.slotsOpen ++ s.rdmOpen).any (fun a => ts.any (fun t => overlaps a.lo a.len (sramBase t) sramSize))

/-- The tiles taken and the role assigned (R142, R151 step 1). The fault fields of the last role read 0 from here on (the model's
choice, log entry 149). -/
def State.takeTiles (s : State) (slot : Nat) (x : Slot) (ts : List Nat) : State :=
  let lead := ts.headD 0
  let gen := s.fld F.CAL_TILE_STAT_NEXT_GEN lead
  let s1 := s.setFld F.CAL_TILE_STAT_NEXT_GEN lead (gen + 1)
  let s2 := s1.setRole lead
    { gen := gen, fn := x.fn, tiles := ts, slot := slot, phase := .loading
      entry := BitVec.ofNat 16 (field (wordAt x.words 1) 47 32), words := wordAt x.words 3, started := 0
      timeoutUs := field (wordAt x.words 7) 31 0, report := none }
  ts.foldl (fun t n =>
    let t1 := ((((t.setFld F.CAL_TILE_STAT_GEN n gen).setFld F.CAL_TILE_STAT_LEAD n lead).setFld
      F.CAL_TILE_STAT_FUNC n x.fn).setFld F.CAL_TILE_STAT_FAULT n 0)
    let t2 := (((t1.setFld F.CAL_TILE_FAULT_CODE n 0).setFld F.CAL_TILE_FAULT_PC n 0).setFld
      F.CAL_TILE_FAULT_UNIT n 0).setFld F.CAL_TILE_FAULT_TAG n 0
    let y := t2.tile n
    t2.setTile n { y with role := some lead, everHeld := true, fault := none, core := { y.core with run := .stopped } }) s2

/-- LAUNCH (R149 to R151, step 1). -/
def execLaunch (slot : Nat) (s : State) : Out :=
  .next (
    match s.clauseAt slot 1 0 with
    | none => s
    | some x =>
      let ts := launchTiles (wordAt x.words 1)
      if x.progress.isSome then s
      else if launchBad x.words then s.slotDone slot St.BAD_CLAUSE 0
      else
        match s.domain (field (wordAt x.words 1) 2 0) with
        | .off => s.slotDone slot St.DOMAIN_OFF 0
        | .waking => s
        | .ready =>
          if ts.any (fun t => (s.tile t).role.isSome || !s.tileAllowed x.fn t) then s.slotDone slot St.ROLE_CONFLICT 0
          else if s.accessInFlight ts then s
          else (s.setSlot slot { x with progress := some 0 }).takeTiles slot x ts)

/-- The role that a slot's LAUNCH made. -/
def State.roleOfSlot (s : State) (slot : Nat) : Option (Nat × Role) :=
  s.roles.find? (fun r => decide (r.2.slot = slot))

/-- The tiles of a role released (R143): each keeps its memories; its tile is IDLE. -/
def State.releaseTiles (s : State) (lead : Nat) (r : Role) : State :=
  let s1 := r.tiles.foldl (fun t n =>
    let y := t.tile n
    t.setTile n { y with role := none, fault := none, cmds := [], core := { y.core with run := .stopped } }) s
  { s1 with roles := Tbl.del lead s1.roles }

/-- Consecutive entries of a table written from entry `k`. -/
def fillHalf (k : Nat) : List Nat → Tbl Half → Tbl Half
  | [], t => t
  | e :: l, t => fillHalf (k + 1) l (Tbl.put 0 k (BitVec.ofNat 16 e) t)
def fillQuad (k : Nat) : List Nat → Tbl Quad → Tbl Quad
  | [], t => t
  | e :: l, t => fillQuad (k + 1) l (Tbl.put 0 k (BitVec.ofNat 32 e) t)
def fillWord (k : Nat) : List Word → Tbl Word → Tbl Word
  | [], t => t
  | e :: l, t => fillWord (k + 1) l (Tbl.put 0 k e t)

/-- The tables after a table image (R190, R191): the header, and each part whose bit is set. -/
def loadImage (h : Nat) (ctl dec enc crv : List Byte) (tb : TileTables) : TileTables :=
  let t1 := if bit h 16 then loadControl tb (wordsOf 16 ctl) else tb
  let t2 := if bit h 17 then { t1 with dec := fillHalf 0 (groupsOf 2 256 dec) [] } else t1
  let t3 := if bit h 18 then { t2 with enc := fillQuad 0 (groupsOf 4 256 enc) [] } else t2
  if bit h 19 then { t3 with curve := fillWord 0 (wordsOf 136 crv) [] } else t3

/-- A reserved encoding in the header or a part that is read (R191), for tiles with the tables `tbs`. The slots that use an encode
entry are those of the image where it has a control block. -/
def imageReserved (tbs : List TileTables) (hdr : List Byte) (h : Nat) (ctl enc crv : List Byte) : Bool :=
  field h 15 0 != 1 || field h 63 20 != 0 || (hdr.drop 8).any (· != 0) ||
  (bit h 16 && controlReserved (wordsOf 16 ctl)) ||
  (bit h 18 && tbs.any (fun tb =>
    encListReserved (if bit h 16 then loadControl tb (wordsOf 16 ctl) else tb) 0 (groupsOf 4 256 enc))) ||
  (bit h 19 && curveReserved (wordsOf 136 crv))

/-- A part of a table image read, if its bit is set. -/
def State.readPart (s : State) (env : Env) (fn : Nat) (on : Bool) (a n : Nat) : State × Res (List Byte) :=
  if on then s.readFor env fn a n else (s, .ok [])

/-- A table image read whole (R151 step 3, R190, R191): its header word and its four parts; BAD_CLAUSE for a reserved
encoding. -/
def State.readImage (s : State) (env : Env) (fn a : Nat) (tbs : List TileTables) :
    State × Res (Nat × List Byte × List Byte × List Byte × List Byte) :=
  match s.readFor env fn a 64 with
  | (s1, .ok hdr) =>
    let h := ofBytes (hdr.take 8)
    if field h 15 0 ≠ 1 then (s1, .fail St.BAD_CLAUSE)
    else
      match s1.readPart env fn (bit h 16) (a + 0x40) 128 with
      | (s2, .ok ctl) =>
        match s2.readPart env fn (bit h 17) (a + 0xC0) 512 with
        | (s3, .ok dec) =>
          match s3.readPart env fn (bit h 18) (a + 0x2C0) 1024 with
          | (s4, .ok enc) =>
            match s4.readPart env fn (bit h 19) (a + 0x6C0) 1088 with
            | (s5, .ok crv) =>
              if imageReserved tbs hdr h ctl enc crv then (s5, .fail St.BAD_CLAUSE) else (s5, .ok (h, ctl, dec, enc, crv))
            | (s5, .fail st) => (s5, .fail st)
            | (s5, .wait) => (s5, .wait)
          | (s4, .fail st) => (s4, .fail st)
          | (s4, .wait) => (s4, .wait)
        | (s3, .fail st) => (s3, .fail st)
        | (s3, .wait) => (s3, .wait)
      | (s2, .fail st) => (s2, .fail st)
      | (s2, .wait) => (s2, .wait)
  | (s1, .fail st) => (s1, .fail st)
  | (s1, .wait) => (s1, .wait)

/-- The 16 argument words of a launch (R151). -/
def argWords (arg0 arg1 : Nat) (rank count lead gen tile : Nat) : List Nat :=
  (List.range 4).map (fun i => field arg0 (16 * i + 15) (16 * i)) ++
  (List.range 4).map (fun i => field arg1 (16 * i + 15) (16 * i)) ++
  [rank, count, gen * 256 + lead, tile, 0, 0, 0, 0]

/-- The core of a tile started by a launch (R151 step 5, R196): the sequencer at its launch state, the new program from
word 0, the data space kept but for the argument words. -/
def launchCore (old : Core) (entry : Half) (words : Nat) (prog : List Nat) (args : List Nat) : Core :=
  { run := .running, pc := entry, words := words
    prog := fillHalf 0 prog old.prog
    data := fillHalf 0 args old.data }

/-- LAUNCH_LOAD_DONE (R151 steps 2 to 5, R152, R191). -/
def execLaunchLoadDone (slot : Nat) (env : Env) (s : State) : Out :=
  .next (
    match s.clauseAt slot 1 0, s.roleOfSlot slot with
    | some x, some (lead, r) =>
      if r.phase ≠ .loading ∨ r.tiles.any (fun t => (s.tile t).fault.isSome) then s
      else
        let fail := fun (t : State) (st : Nat) => (t.releaseTiles lead r).slotDone slot st 0
        match s.readFor env r.fn (wordAt x.words 2) (2 * r.words) with
        | (s1, .fail st) => fail s1 st
        | (_, .wait) => s
        | (s1, .ok prog) =>
          let start := fun (t : State) (img : Option (Nat × List Byte × List Byte × List Byte × List Byte)) =>
            let t1 := r.tiles.foldl (fun (acc : State × Nat) n =>
              let y := acc.1.tile n
              let tb := match img with
                | some (h, ctl, dec, enc, crv) => loadImage h ctl dec enc crv y.tables
                | none => y.tables
              let args := argWords (wordAt x.words 4) (wordAt x.words 5) acc.2 r.tiles.length lead r.gen n
              (acc.1.setTile n { y with
                tables := tb, core := launchCore y.core r.entry r.words (groupsOf 2 r.words prog) args }, acc.2 + 1))
              (t, 0)
            t1.1.setRole lead { r with phase := .running, started := s.tb.time }
          let ta := wordAt x.words 6
          if ta = 0 then start s1 none
          else
            match s1.readImage env r.fn ta (r.tiles.map (fun n => (s1.tile n).tables)) with
            | (s2, .ok img) => start s2 (some img)
            | (s2, .fail st) => fail s2 st
            | (_, .wait) => s
    | _, _ => s)

/-- The role of an identity (R142, R144). -/
def State.roleIs (s : State) (lead gen : Nat) : Bool :=
  match Tbl.find? lead s.roles with
  | some r => r.gen == gen
  | none => false

/-- Whether a target tile holds the role (lead, gen) (R144). -/
def State.holdsRole (s : State) (target lead gen : Nat) : Bool :=
  decide ((s.tile target).role = some lead) && s.roleIs lead gen

/-- A message delivered into a tile's queue (R141). -/
def State.pushMsg (s : State) (target : Nat) (m : Word) : State :=
  s.setTile target { s.tile target with msgs := (s.tile target).msgs ++ [m] }

/-- SEND of the tile launch class (R154). -/
def execTileSendClause (slot : Nat) (s : State) : Out :=
  .next (
    match s.clauseAt slot 1 1 with
    | none => s
    | some x =>
      let w1 := wordAt x.words 1
      if bit w1 7 ∨ field w1 63 23 ≠ 0 ∨ !zeroFrom x.words 3 then s.slotDone slot St.BAD_CLAUSE 0
      else
        let target := field w1 22 16
        if !s.holdsRole target (field w1 6 0) (field w1 15 8) then
          (s.inc F.CAL_TILE_CNT_STALE_IN target).slotDone slot St.STALE_ROLE 0
        else if 16 ≤ (s.tile target).msgs.length then s
        else (s.pushMsg target (x.words.getD 2 0)).slotDone slot St.SUCCESS 0)

/-- ABORT (R155, R156): stops the role, then completes after the LAUNCH completion has been posted. -/
def execAbort (slot : Nat) (s : State) : Out :=
  .next (
    match s.clauseAt slot 1 2 with
    | none => s
    | some x =>
      let w1 := wordAt x.words 1
      if bit w1 7 ∨ field w1 63 16 ≠ 0 ∨ !zeroFrom x.words 2 then s.slotDone slot St.BAD_CLAUSE 0
      else
        let lead := field w1 6 0
        match x.progress with
        | some launchSlot =>
          let posted := match s.slot? launchSlot with
            | some y => match y.phase with
              | .done _ _ => false
              | .held => false
              | _ => true
            | none => true
          if s.roleIs lead (field w1 15 8) ∨ !posted then s else s.slotDone slot St.SUCCESS 0
        | none =>
          match Tbl.find? lead s.roles with
          | some r =>
            let ended := decide (r.phase = .running) &&
              r.tiles.all (fun t => decide ((s.tile t).core.run = .ended))
            if r.gen ≠ field w1 15 8 ∨ ended then s.slotDone slot St.STALE_ROLE 0
            else (s.setSlot slot { x with progress := some r.slot }).raiseFault lead ⟨TF.ABORTED, 0, 0, 0, none⟩
          | none => s.slotDone slot St.STALE_ROLE 0)

/-- LAUNCH_TIMEOUT (R156, R158): TIMEOUT µs have passed since the first tile started. The fault is the lead tile's, as R155 has it
for ABORTED; for a timeout that is the model's choice (log entry 150). -/
def execLaunchTimeout (lead : Nat) (s : State) : Out :=
  .next (
    match Tbl.find? lead s.roles with
    | some r =>
      if r.phase = .running ∧ r.timeoutUs ≠ 0 ∧ r.started + r.timeoutUs * 1000 ≤ s.tb.time ∧
          !r.tiles.all (fun t => decide ((s.tile t).core.run = .ended)) then
        s.raiseFault lead ⟨TF.LAUNCH_TIMEOUT, 0, 0, 0, none⟩
      else s
    | none => s)

/-- CAL_TILE_FAULT and CAL_TILE_STAT.FAULT of a tile (R159, R162). -/
def State.recordFault (s : State) (t : Nat) (f : FaultRec) : State :=
  ((((s.setFld F.CAL_TILE_FAULT_CODE t f.code).setFld F.CAL_TILE_FAULT_PC t f.pc.toNat).setFld
    F.CAL_TILE_FAULT_UNIT t f.unit).setFld F.CAL_TILE_FAULT_TAG t f.tag).setFld F.CAL_TILE_STAT_FAULT t f.code

/-- The RESULT of a LAUNCH that completes with TILE_FAULT (R161). -/
def faultReport (f : FaultRec) (t gen lead : Nat) : Word :=
  BitVec.ofNat 64 (f.code % 256 + t % 128 * 2 ^ 8 + f.pc.toNat * 2 ^ 16 + gen % 256 * 2 ^ 32 + lead % 128 * 2 ^ 40)

/-- Data space without the stores that the sequencer holds on a speculative path (R219, R221). -/
def Core.sureData (c : Core) : Tbl Half := (c.specs.head?.map (fun p => p.data)).getD c.data

/-- A tile of a stopping role: its sequencer stops; speculative instructions are squashed, and uncommitted commands are cancelled
and counted (R126, R159, R234). -/
def State.stopTile (s : State) (t : Nat) : State :=
  let x := s.tile t
  let cancelled := (x.cmds.filter (fun c => c.depth != 0)).length
  (s.setTile t { x with
    fault := none, cmds := x.cmds.filter (fun c => c.depth == 0)
    core := { x.core with
      run := if x.core.run = .ended then .ended else .stopped
      data := x.core.sureData, heldExc := none, specs := [], waitu := none } }).bump F.CAL_TILE_CNT_CANCELLED t cancelled

/-- A role stopped by the fault `f` of tile `t` (R159 to R161). PC, UNIT and TAG of PEER_FAULT, and of a fault that no instruction
raises, are recorded as 0 (the model's choice, log entry 30). -/
def State.stopRole (s : State) (lead : Nat) (r : Role) (t : Nat) (f : FaultRec) : State :=
  let s1 := r.tiles.foldl (fun u n =>
    let u1 :=
      if n = t then u.recordFault n f
      else if (u.tile n).core.run = .ended then u
      else u.recordFault n ⟨TF.PEER_FAULT, 0, 0, 0, none⟩
    u1.stopTile n) s
  s1.setRole lead { r with phase := .stopping, report := some (faultReport f t r.gen lead) }

/-- TILE_FAULT (R159, R160): the faults that stand at the tile group's arbiter for the role of this tile; the
lowest-numbered tile's is reported. A fault of a role that is stopping is only recorded. -/
def execTileFault (tile : Nat) (s : State) : Out :=
  .next (
    match s.roleOf tile, (s.tile tile).role, (s.tile tile).fault with
    | some r, some lead, some f0 =>
      if r.phase = .stopping then
        (s.recordFault tile f0).setTile tile { s.tile tile with fault := none }
      else
        match r.tiles.find? (fun n => (s.tile n).fault.isSome) with
        | some t =>
          match (s.tile t).fault with
          | some f => s.stopRole lead r t f
          | none => s
        | none => s
    | _, _, _ => s)

/-- ROLE_RELEASE (R143, R153, R159 step 4): the role has ended or stopped, none of its requests is outstanding, and no fault of its
tiles waits for the arbiter (R160). -/
def execRoleRelease (lead : Nat) (s : State) : Out :=
  .next (
    match Tbl.find? lead s.roles with
    | none => s
    | some r =>
      let quiet := r.tiles.all (fun t => (s.tile t).cmds.isEmpty && (s.tile t).core.accesses.isEmpty &&
        (s.tile t).fault.isNone)
      let ended := r.tiles.all (fun t => decide ((s.tile t).core.run = .ended))
      if !quiet then s
      else
        match r.phase with
        | .loading => s
        | .running =>
          if ended then
            let d := (s.tile lead).core.data
            let v := (List.range 4).foldl (fun a i => a + (Tbl.getD d (0x0C + i) 0).toNat * 2 ^ (16 * i)) 0
            (s.releaseTiles lead r).slotDone r.slot St.SUCCESS (BitVec.ofNat 64 v)
          else s
        | .stopping => (s.releaseTiles lead r).slotDone r.slot St.TILE_FAULT (r.report.getD 0))

/-- The defined OP values of the matrix unit, the vector unit and the tile DMA (R131, R135, R137, R188); Geyser has its own
(R268). -/
def UnitCmd.opDefined (c : UnitCmd) : Bool :=
  match c.unit with
  | 0 => c.op < 2
  | 1 => c.op < 6
  | 2 => c.op < 5 || (8 ≤ c.op && c.op < 12) || 16 ≤ c.op
  | _ => c.op < 12

end Sys2Proof.Machine
end

