-- ==== Sys2Proof/Machine/TileUnits.lean ====
section
/-! DEFINITION. The matrix unit (R131 to R133, R172, R173), the vector unit (R135, R136, R174 to R180) and the tile DMA
(R137 to R141, R188, R189). -/

namespace Sys2Proof.Machine

/-! Operands shared by the units. -/

/-- The format of a descriptor, or the fault that it raises. -/
def State.descOf (s : State) (t : Nat) (c : UnitCmd) (n : Nat) (ldw : Bool) : Except Nat (TensorDesc × Format) :=
  match descCheck (s.tile t).tables (c.desc n) ldw with
  | .ok f => .ok (c.desc n, f)
  | .error e => .error e

/-- Accumulator entry at a row and a lane (R114). -/
def accKey (row lane : Nat) : Nat := row * 64 + lane
def Tile.accAt (x : Tile) (row lane : Nat) : Quad := Tbl.getD x.acc (accKey row lane) 0

/-- Poisoned 64-bit units of accumulator rows (R119). -/
def Tile.accBad (x : Tile) (row n : Nat) : Bool :=
  x.accPoison.any (fun p => decide (row * 32 ≤ p.1 ∧ p.1 < (row + n) * 32))

/-- ECC events of the accumulator file of tile `t` carry addresses from 0x0A00_0000_0000 + t × 128 KiB (the model's
numbering: the file has no device address). -/
def accEccBase (t : Nat) : Nat := 0x0A0000000000 + t * 0x20000

/-- The ECC errors that a read of accumulator rows finds (R119, R657). -/
def State.accEcc (s : State) (env : Env) (t row n : Nat) : State :=
  env.ecc.foldl (fun s e =>
    let lo := accEccBase t + row * 256
    if lo ≤ e.addr ∧ e.addr < lo + n * 256 then
      let k := (e.addr - accEccBase t) / 8
      if eccCorrectable e then sinterEvent 0x0C0 1 (s.inc F.CAL_TILE_CNT_SRAM_CE t)
      else if Tbl.getD (s.tile t).accPoison k false then s
      else
        let y := s.tile t
        sinterEvent 0x0C1 (0x100 + t) (s.setTile t { y with accPoison := Tbl.set k true y.accPoison })
    else s) s

/-- Accumulator rows written whole: their poison marks clear (R119). -/
def Tile.accWrite (x : Tile) (row : Nat) (rows : List (List Quad)) : Tile :=
  { x with
    acc := (rows.mapIdx (fun i r => (i, r))).foldl (fun a ir =>
      (ir.2.mapIdx (fun l v => (l, v))).foldl (fun a lv => Tbl.put 0 (accKey (row + ir.1) lv.1) lv.2 a) a) x.acc
    accPoison := x.accPoison.filter (fun p => !decide (row * 32 ≤ p.1 ∧ p.1 < (row + rows.length) * 32)) }

/-! The matrix unit. -/

/-- LDW (R131, R170). -/
def execLdw (tile tag : Nat) (env : Env) (s : State) : Out :=
  .next (
    match (s.tile tile).ready tag 0 (· == 0) with
    | none => s
    | some c =>
      if field (c.c 0) 7 6 ≠ 0 ∨ c.rnd ∨ field (c.c 1) 15 5 ≠ 0 ∨ c.c 2 ≠ 0 ∨ c.c 3 ≠ 0 then
        s.cmdFault tile c TF.UNIT_CMD_INVALID
      else
        match s.descOf tile c (field (c.c 1) 3 0) true with
        | .error e => s.cmdFault tile c e
        | .ok (d, f) =>
          if d.rows ≠ f.cls.k ∨ d.cols ≠ 64 then s.cmdFault tile c TF.UNIT_CMD_INVALID
          else
            match s.readOperand env tile d f true with
            | (s1, none) => s1.cmdFault tile c TF.SRAM_UNCORRECTABLE
            | (s1, some codes) =>
              let tb := (s.tile tile).tables
              let elems : Tbl (FVal × Option Int) := (codes.mapIdx (fun r row =>
                row.mapIdx (fun k e => (r * 64 + k, (decodeElem tb f e.1, scaleOf e.2))))).flatten
              let b : Bank := ⟨f.cls, elems⟩
              let y := s1.tile tile
              (s1.setTile tile (if bit (c.c 1) 4 then { y with bank1 := b } else { y with bank0 := b })).cmdDone
                tile tag 0 0)

/-- The two bf16 parts of a decoded fp32 element (R116). How a finite value other than zero splits is free (log entry 26); zero has
two zero parts, and an infinity or a NaN stands whole in the high part, so that R173 holds of the operands themselves. -/
def fp32Parts (v : FVal) : FVal × FVal :=
  match v with
  | .fin s 0 _ => (.fin s 0 0, .fin s 0 0)
  | .fin _ _ _ => (bf16Val (Config.fp32High (toFp32 v)).toNat, bf16Val (Config.fp32Low (toFp32 v)).toNat)
  | _ => (v, .fin false 0 0)

/-- The operands of one pass of R116 over a pair: the parts `p` and `q`. A pair with an infinity or a NaN, or with a zero beside one,
is multiplied whole in the first pass and adds nothing in the others (R173). -/
def fp32Term (first : Bool) (p q : FVal × FVal → FVal) (a b : FVal) : FVal :=
  if a.isNan || a.isInf || b.isNan || b.isInf then (if first then a.mul b else .fin false 0 0)
  else (p (fp32Parts a)).mul (q (fp32Parts b))

/-- One accumulator lane after an MMA row (R172, R173); the fp32 class makes three rounded passes (R116). -/
def mmaLane (b : Bank) (row : List (FVal × Option Int)) (lane : Nat) (old : Quad) : Quad :=
  let pairs := row.mapIdx (fun k a => (a, Tbl.getD b.elems (k * 64 + lane) (FVal.fin false 0 0, some 0)))
  match b.cls with
  | .f32 =>
    let pass := fun (first : Bool) (o : Quad) (p q : FVal × FVal → FVal) =>
      mmaAdd o (pairs.map (fun x => fp32Term first p q x.1.1 x.2.1))
    pass false (pass false (pass true old Prod.fst Prod.fst) Prod.fst Prod.snd) Prod.snd Prod.fst
  | _ => mmaAdd old (pairs.map (fun x => mmaTerm x.1.1 x.1.2 x.2.1 x.2.2))

/-- MMA (R131 to R133, R172). -/
def execMma (tile tag : Nat) (env : Env) (s : State) : Out :=
  .next (
    match (s.tile tile).ready tag 0 (· == 1) with
    | none => s
    | some c =>
      let acc := field (c.c 2) 8 0
      let zero := bit (c.c 1) 5
      if field (c.c 0) 7 6 ≠ 0 ∨ c.rnd ∨ field (c.c 1) 15 6 ≠ 0 ∨ field (c.c 2) 15 9 ≠ 0 ∨ c.c 3 ≠ 0 then
        s.cmdFault tile c TF.UNIT_CMD_INVALID
      else
        match s.descOf tile c (field (c.c 1) 3 0) false with
        | .error e => s.cmdFault tile c e
        | .ok (d, f) =>
          let b := if bit (c.c 1) 4 then (s.tile tile).bank1 else (s.tile tile).bank0
          if f.cls ≠ b.cls ∨ d.cols ≠ b.cls.k ∨ 512 < acc + d.rows then s.cmdFault tile c TF.UNIT_CMD_INVALID
          else
            match s.readOperand env tile d f false with
            | (s1, none) => s1.cmdFault tile c TF.SRAM_UNCORRECTABLE
            | (s1, some codes) =>
              let s2 := if zero then s1 else s1.accEcc env tile acc d.rows
              if !zero ∧ (s2.tile tile).accBad acc d.rows then s2.cmdFault tile c TF.SRAM_UNCORRECTABLE
              else
                let x := s2.tile tile
                let rows := codes.mapIdx (fun r row =>
                  let vs := row.map (fun e => (decodeElem x.tables f e.1, scaleOf e.2))
                  (List.range 64).map (fun l => mmaLane b vs l (if zero then 0 else x.accAt (acc + r) l)))
                (s2.setTile tile (x.accWrite acc rows)).cmdDone tile tag 0 0)

/-! The vector unit. -/

/-- The fp32 elements of an operand (R136, R171). -/
def decodeCodes (tb : TileTables) (f : Format) (m : Codes) : List (List Quad) :=
  m.map (fun row => row.map (fun e => decodeScaled tb f e.1 (scaleOf e.2)))

/-- The operations of EW and SCALAR (R135, R174). -/
def vecOp (op : Nat) (a b : Quad) : Quad :=
  match op with
  | 0 => fadd a b
  | 1 => fsub a b
  | 2 => fmul a b
  | 3 => fmax a b
  | _ => fmin a b

/-- The rounding of element (r, c) of a stored result: for RND = 1 the lane's state advances first (R180). -/
def drawLane (tb : TileTables) (tile : Nat) (rnd : Bool) (col : Nat) : TileTables × Rounding :=
  if rnd then
    let s := laneNext (laneState tb tile (col % 64))
    ({ tb with lanes := Tbl.set (col % 64) s tb.lanes }, .random (s.toNat / 2 ^ 16))
  else (tb, .nearest)

/-- One row encoded in increasing column (R175 to R177, R180): the tables with the lanes advanced, and the codes. -/
def encodeRow (tile : Nat) (f : Format) (rnd : Bool) (scales : List Nat) :
    Nat → List Quad → TileTables → TileTables × List Nat
  | _, [], tb => (tb, [])
  | k, v :: rest, tb =>
    let p := drawLane tb tile rnd k
    let code := if f.block then encodeBlockElem tb f (scales.getD (k / 32) 0) p.2 v else encodeElem tb f p.2 (fp32Val v)
    let q := encodeRow tile f rnd scales (k + 1) rest p.1
    (q.1, code :: q.2)

/-- The scale bytes of the blocks of a row (R170, R177). -/
def rowScales (tb : TileTables) (f : Format) (row : List Quad) : List Nat :=
  (List.range (ceilDiv row.length 32)).map (fun j => blockScale tb f ((row.drop (32 * j)).take 32))

/-- The bytes of a row of codes of width `w`; bits beyond the last element are zero (R164). -/
def packRow (w : Nat) (codes : List Nat) : List Byte :=
  toBytes (rowBytes codes.length w) (codes.foldr (fun c a => c % 2 ^ w + a * 2 ^ w) 0)

/-- All rows encoded: the tables, and each row's codes and scale bytes. -/
def encodeRows (tile : Nat) (f : Format) (rnd : Bool) : List (List Quad) → TileTables → TileTables × List (List Nat × List Nat)
  | [], tb => (tb, [])
  | row :: rest, tb =>
    let sc := if f.block then rowScales tb f row else []
    let p := encodeRow tile f rnd sc 0 row tb
    let q := encodeRows tile f rnd rest p.1
    (q.1, (p.2, sc) :: q.2)

/-- A result stored into D (R164, R175 to R180); none where a poisoned unit of tile SRAM would be written in part. -/
def State.storeResult (s : State) (t : Nat) (d : TensorDesc) (f : Format) (rnd : Bool) (rows : List (List Quad)) :
    Option State :=
  let p := encodeRows t f rnd rows (s.tile t).tables
  let data := p.2.mapIdx (fun r x => (d.base + r * d.stride, packRow f.width x.1))
  let plane := if f.block then [(d.scale, (p.2.flatMap (fun x => x.2)).map (BitVec.ofNat 8))] else []
  ((s.setTile t { s.tile t with tables := p.1 }).sramWriteAll t (data ++ plane))

/-- A result stored and the command's effect made, or the fault. -/
def State.storeDone (s : State) (t : Nat) (c : UnitCmd) (d : TensorDesc) (f : Format) (rows : List (List Quad)) : State :=
  match s.storeResult t d f c.rnd rows with
  | some s1 => s1.cmdDone t c.tag 0 0
  | none => s.cmdFault t c TF.SRAM_UNCORRECTABLE

/-- The fields that every vector command checks: reserved header bits, reserved c1 bits, and c2, c3 by masks of the
bits that the operation uses (R121, R124, R135). -/
def vecFields (c : UnitCmd) (usesA usesB : Bool) (c2bits c3bits : Nat) : Bool :=
  field (c.c 0) 7 6 == 0 && field (c.c 1) 15 12 == 0 && (usesA || field (c.c 1) 7 4 == 0) &&
  (usesB || field (c.c 1) 11 8 == 0) && decide (c.c 2 < 2 ^ c2bits) && decide (c.c 3 < 2 ^ c3bits)

/-- An operand with the shape of D, or the fault. -/
def State.vecOperand (s : State) (t : Nat) (c : UnitCmd) (n : Nat) (d : TensorDesc) (sameCols : Bool) :
    Except Nat (TensorDesc × Format) :=
  match s.descOf t c n false with
  | .error e => .error e
  | .ok (a, f) =>
    if a.rows ≠ d.rows ∨ (sameCols ∧ a.cols ≠ d.cols) then .error TF.UNIT_CMD_INVALID else .ok (a, f)

/-- A vector command over A alone: D = `g` of each row of A. -/
def State.vecUnary (s : State) (tile : Nat) (c : UnitCmd) (env : Env) (sameCols : Bool) (okD : TensorDesc → Bool)
    (g : TileTables → List Quad → List Quad) : State :=
  match s.descOf tile c (field (c.c 1) 3 0) false with
  | .error e => s.cmdFault tile c e
  | .ok (d, f) =>
    if !okD d then s.cmdFault tile c TF.UNIT_CMD_INVALID
    else
      match s.vecOperand tile c (field (c.c 1) 7 4) d sameCols with
      | .error e => s.cmdFault tile c e
      | .ok (a, fa) =>
        match s.readOperand env tile a fa false with
        | (s1, none) => s1.cmdFault tile c TF.SRAM_UNCORRECTABLE
        | (s1, some m) =>
          let tb := (s.tile tile).tables
          s1.storeDone tile c d f ((decodeCodes tb fa m).map (g tb))

/-- EW (R135). -/
def execEw (tile tag : Nat) (env : Env) (s : State) : Out :=
  .next (
    match (s.tile tile).ready tag 1 (· == 0) with
    | none => s
    | some c =>
      if !vecFields c true true 3 0 ∨ 5 < c.c 2 then s.cmdFault tile c TF.UNIT_CMD_INVALID
      else
        match s.descOf tile c (field (c.c 1) 3 0) false with
        | .error e => s.cmdFault tile c e
        | .ok (d, f) =>
          match s.vecOperand tile c (field (c.c 1) 7 4) d true, s.vecOperand tile c (field (c.c 1) 11 8) d true with
          | .error e, _ => s.cmdFault tile c e
          | _, .error e => s.cmdFault tile c e
          | .ok (a, fa), .ok (b, fb) =>
            match s.readOperand env tile a fa false with
            | (s1, none) => s1.cmdFault tile c TF.SRAM_UNCORRECTABLE
            | (s1, some ma) =>
              match s1.readOperand env tile b fb false with
              | (s2, none) => s2.cmdFault tile c TF.SRAM_UNCORRECTABLE
              | (s2, some mb) =>
                let tb := (s.tile tile).tables
                let va := decodeCodes tb fa ma
                let vb := decodeCodes tb fb mb
                if c.c 2 = 5 then
                  match s2.readOperand env tile d f false with
                  | (s3, none) => s3.cmdFault tile c TF.SRAM_UNCORRECTABLE
                  | (s3, some md) =>
                    s3.storeDone tile c d f (List.zipWith (fun r (p : List Quad × List Quad) =>
                      List.zipWith (fun z (q : Quad × Quad) => ffma q.1 q.2 z) r (p.1.zip p.2))
                      (decodeCodes tb f md) (va.zip vb))
                else s2.storeDone tile c d f (List.zipWith (List.zipWith (vecOp (c.c 2))) va vb))

/-- The fp32 value of a bf16 scalar (R174). -/
def bf16Scalar (v : Nat) : Quad := BitVec.ofNat 32 (v * 2 ^ 16)

/-- SCALAR (R135). -/
def execScalar (tile tag : Nat) (env : Env) (s : State) : Out :=
  .next (
    match (s.tile tile).ready tag 1 (· == 1) with
    | none => s
    | some c =>
      if !vecFields c true false 3 16 ∨ 4 < c.c 2 then s.cmdFault tile c TF.UNIT_CMD_INVALID
      else s.vecUnary tile c env true (fun _ => true) (fun _ r => r.map (fun a => vecOp (c.c 2) a (bf16Scalar (c.c 3)))))

/-- CURVE (R135, R194). -/
def execCurve (tile tag : Nat) (env : Env) (s : State) : Out :=
  .next (
    match (s.tile tile).ready tag 1 (· == 2) with
    | none => s
    | some c =>
      if !vecFields c true false 0 0 then s.cmdFault tile c TF.UNIT_CMD_INVALID
      else s.vecUnary tile c env true (fun _ => true) (fun tb r => r.map (curveAt tb)))

/-- ACCRD (R135). -/
def execAccrd (tile tag : Nat) (env : Env) (s : State) : Out :=
  .next (
    match (s.tile tile).ready tag 1 (· == 3) with
    | none => s
    | some c =>
      let acc := field (c.c 2) 8 0
      if !vecFields c false false 9 16 then s.cmdFault tile c TF.UNIT_CMD_INVALID
      else
        match s.descOf tile c (field (c.c 1) 3 0) false with
        | .error e => s.cmdFault tile c e
        | .ok (d, f) =>
          if d.cols ≠ 64 ∨ 512 < acc + d.rows then s.cmdFault tile c TF.UNIT_CMD_INVALID
          else
            let s1 := s.accEcc env tile acc d.rows
            if (s1.tile tile).accBad acc d.rows then s1.cmdFault tile c TF.SRAM_UNCORRECTABLE
            else
              let x := s1.tile tile
              s1.storeDone tile c d f ((List.range d.rows).map (fun r =>
                (List.range 64).map (fun l => fmul (x.accAt (acc + r) l) (bf16Scalar (c.c 3))))))

/-- One step of the fixed tree over partials; an absent partial passes the other on (R174, DEDUCED for rows of fewer
than 64 elements). -/
def treeStep (g : Quad → Quad → Quad) : List (Option Quad) → List (Option Quad)
  | a :: b :: t =>
    (match a, b with
     | some x, some y => some (g x y)
     | some x, none => some x
     | none, y => y) :: treeStep g t
  | l => l

/-- REDUCE of one row: 64 partials, then the fixed tree (R174). -/
def reduceRow (g : Quad → Quad → Quad) (row : List Quad) : Quad :=
  let parts := (List.range 64).map (fun l =>
    ((row.zipIdx.filter (fun p => p.2 % 64 == l)).map (fun p => p.1)).foldl
      (fun (a : Option Quad) v => some (match a with | none => v | some b => g b v)) none)
  ((List.range 6).foldl (fun l _ => treeStep g l) parts).headD none |>.getD 0

/-- REDUCE (R135, R174). -/
def execReduce (tile tag : Nat) (env : Env) (s : State) : Out :=
  .next (
    match (s.tile tile).ready tag 1 (· == 4) with
    | none => s
    | some c =>
      if !vecFields c true false 1 0 then s.cmdFault tile c TF.UNIT_CMD_INVALID
      else s.vecUnary tile c env false (fun d => d.cols == 1)
        (fun _ r => [reduceRow (if c.c 2 = 0 then fadd else fmax) r]))

/-- CVT (R135). -/
def execCvt (tile tag : Nat) (env : Env) (s : State) : Out :=
  .next (
    match (s.tile tile).ready tag 1 (· == 5) with
    | none => s
    | some c =>
      if !vecFields c true false 0 0 then s.cmdFault tile c TF.UNIT_CMD_INVALID
      else s.vecUnary tile c env true (fun _ => true) (fun _ r => r))

/-! The tile DMA. -/

/-- Address register DA`k` (R137). -/
def Tile.daAt (x : Tile) (k : Nat) : Nat := Tbl.getD x.da k 0

/-- The tile whose SRAM window holds a device address. -/
def windowTile (a : Nat) : Option Nat := if tileBase ≤ a ∧ a < tileEnd then some ((a - tileBase) / 0x200000) else none

/-- Whether an access of tile `t` to a device address passes the role check of R144. -/
def State.rolePasses (s : State) (t a : Nat) : Bool :=
  match windowTile a with
  | none => true
  | some n => decide ((s.tile n).role.isSome ∧ (s.tile n).role = (s.tile t).role)

/-- A refused request counted at both ends (R145). -/
def State.stale (s : State) (t a : Nat) : State :=
  match windowTile a with
  | none => s
  | some n => (s.inc F.CAL_TILE_CNT_STALE_IN n).inc F.CAL_TILE_CNT_STALE_OUT t

/-- The outcome of several checks of one access, in the order of R658. -/
def checksAll (rs : List (Res Unit)) : Res Unit :=
  let has := fun st => rs.any (fun r => decide (r = .fail st))
  if has St.ADDRESS_UNMAPPED then .fail St.ADDRESS_UNMAPPED
  else if has St.WINDOW_VIOLATION then .fail St.WINDOW_VIOLATION
  else if has St.DOMAIN_OFF then .fail St.DOMAIN_OFF
  else if rs.any (fun r => decide (r = .wait)) then .wait
  else .ok ()

/-- The check of several ranges as one named range, in the order of R658. -/
def State.checkRanges (s : State) (fn : Nat) (wr : Bool) (l : List (Nat × Nat)) : Res Unit :=
  checksAll (l.map (fun p => s.checkRange fn wr false p.1 p.2))

/-- A range of at most 2 MiB cut where one tile SRAM window ends and the next begins (R20): address, offset in the range, and bytes
of each piece. A piece reaches one tile, and carries one role check (R144). -/
def windowPieces (a n : Nat) : List (Nat × Nat × Nat) :=
  let cut := (a / sramSize + 1) * sramSize - a
  if n ≤ cut then [(a, 0, n)] else [(a, 0, cut), (a + cut, cut, n - cut)]

/-- The pieces of a range that tile `t`'s role check refuses. -/
def State.refused (s : State) (t a n : Nat) : List (Nat × Nat × Nat) :=
  (windowPieces a n).filter (fun p => !s.rolePasses t p.1)

/-- The fault code of poisoned data at a device address read by tile `t` (R119). -/
def poisonFault (t a st : Nat) : Nat :=
  if st = St.DATA_POISONED ∧ windowTile a = some t then TF.SRAM_UNCORRECTABLE else faultOf st

/-- Pieces of rows copied one after another by GET or PUT (R137): (device address, tile SRAM offset, bytes). The answer holds
whether some piece was refused as stale (R145), and the fault that ended the command. -/
def State.dmaRows (s : State) (env : Env) (t fn : Nat) (put stale : Bool) :
    List (Nat × Nat × Nat) → State × Res Bool
  | [] => (s, .ok stale)
  | (a, o, n) :: rest =>
    if !s.rolePasses t a then (s.stale t a).dmaRows env t fn put true rest
    else if put then
      match s.sramRead env t o n with
      | (s1, none) => (s1, .fail TF.SRAM_UNCORRECTABLE)
      | (s1, some bs) =>
        match s1.writeChecked env fn a bs with
        | (s2, .ok _) => s2.dmaRows env t fn put stale rest
        | (s2, .fail st) => (s2, .fail (poisonFault t a st))
        | (s2, .wait) => (s2, .wait)
    else
      match s.readChecked env fn a n with
      | (s1, .ok bs) =>
        match s1.sramWrite t o bs with
        | some s2 => s2.dmaRows env t fn put stale rest
        | none => (s1, .fail TF.SRAM_UNCORRECTABLE)
      | (s1, .fail st) => (s1, .fail (poisonFault t a st))
      | (s1, .wait) => (s1, .wait)

/-- GET and PUT (R137, R138, R165). -/
def State.runDma (s : State) (tile : Nat) (c : UnitCmd) (env : Env) (put : Bool) : State :=
  let fn := s.tileFn tile
  if field (c.c 0) 8 6 ≠ 0 ∨ field (c.c 1) 15 8 ≠ 0 ∨ c.c 3 ≠ 0 then s.cmdFault tile c TF.UNIT_CMD_INVALID
  else
    match s.descOf tile c (field (c.c 1) 3 0) false with
    | .error e => s.cmdFault tile c e
    | .ok (d, f) =>
      let n := rowBytes d.cols f.width
      let base := (s.tile tile).daAt (field (c.c 1) 7 4)
      let rows := (List.range d.rows).map (fun r => (base + r * c.c 2 * 64, d.base + r * d.stride))
      match s.checkRanges fn put (rows.map (fun p => (p.1, n))) with
      | .fail st => (s.refuse fn st).cmdFault tile c (faultOf st)
      | .wait => s
      | .ok _ =>
        match s.dmaRows env tile fn put false
            (rows.flatMap (fun r => (windowPieces r.1 n).map (fun p => (p.1, r.2 + p.2.1, p.2.2)))) with
        | (s1, .ok stale) => s1.cmdDone tile c.tag (if stale then 1 else 0) 0
        | (s1, .fail code) => s1.cmdFault tile c code
        | (_, .wait) => s

/-- GET (R137). -/
def execGet (tile tag : Nat) (env : Env) (s : State) : Out :=
  .next (
    match (s.tile tile).ready tag 2 (· == 0) with
    | none => s
    | some c => s.runDma tile c env false)

/-- PUT (R137). -/
def execPut (tile tag : Nat) (env : Env) (s : State) : Out :=
  .next (
    match (s.tile tile).ready tag 2 (· == 1) with
    | none => s
    | some c => s.runDma tile c env true)

/-- EVADD (R137, R139). -/
def execEvadd (tile tag : Nat) (s : State) : Out :=
  .next (
    match (s.tile tile).ready tag 2 (· == 2) with
    | none => s
    | some c =>
      if field (c.c 0) 8 6 ≠ 0 ∨ field (c.c 1) 15 13 ≠ 0 then s.cmdFault tile c TF.UNIT_CMD_INVALID
      else
        match s.evtNumber (s.tileFn tile) (field (c.c 1) 12 0) with
        | none => s.cmdFault tile c TF.EVENT_RANGE
        | some n => (s.addCounter n (BitVec.ofNat 64 (c.c 2 + c.c 3 * 2 ^ 16))).cmdDone tile tag 0 0)

/-- SEND of a tile (R137): the message is read and set on its way; MESSAGE_DELIVER delivers it. -/
def execSend (tile tag : Nat) (env : Env) (s : State) : Out :=
  .next (
    match (s.tile tile).ready tag 2 (· == 3) with
    | none => s
    | some c =>
      if field (c.c 0) 8 6 ≠ 0 ∨ bit (c.c 1) 7 ∨ field (c.c 1) 15 12 ≠ 0 ∨ c.c 2 ≠ 0 ∨ c.c 3 ≠ 0 then
        s.cmdFault tile c TF.UNIT_CMD_INVALID
      else
        match s.descOf tile c (field (c.c 1) 11 8) false with
        | .error e => s.cmdFault tile c e
        | .ok (d, _) =>
          if sramSize < d.base + 8 then s.cmdFault tile c TF.SRAM_RANGE
          else
            match s.sramRead env tile d.base 8 with
            | (s1, none) => s1.cmdFault tile c TF.SRAM_UNCORRECTABLE
            | (s1, some bs) => s1.setTile tile ((s1.tile tile).setPhase tag (.sent (BitVec.ofNat 64 (ofBytes bs)))))

/-- MESSAGE_DELIVER (R141, R144, R145): a message on its way reaches its target's queue, or is refused as stale; with
a full queue the sender waits. Messages of one sender arrive in the order sent. -/
def execMessageDeliver (tile tag : Nat) (s : State) : Out :=
  .next (
    let x := s.tile tile
    match x.cmd? tag with
    | none => s
    | some c =>
      match c.phase with
      | .sent m =>
        let target := field (c.c 1) 6 0
        let earlier := (x.before tag).any (fun d => d.unit == 2 && d.op == 3 && !isDone d.phase)
        if c.unit ≠ 2 ∨ earlier then s
        else if !s.rolePasses tile (sramBase target) then
          (s.stale tile (sramBase target)).cmdDone tile tag 1 0
        else if 16 ≤ (s.tile target).msgs.length then s
        else (s.pushMsg target m).cmdDone tile tag 0 0
      | _ => s)

/-- MSGRD (R137, R140). -/
def execMsgrd (tile tag : Nat) (s : State) : Out :=
  .next (
    match (s.tile tile).ready tag 2 (· == 4) with
    | none => s
    | some c =>
      if field (c.c 0) 8 6 ≠ 0 ∨ field (c.c 1) 15 4 ≠ 0 ∨ c.c 2 ≠ 0 ∨ c.c 3 ≠ 0 then
        s.cmdFault tile c TF.UNIT_CMD_INVALID
      else
        match s.descOf tile c (field (c.c 1) 3 0) false with
        | .error e => s.cmdFault tile c e
        | .ok (d, _) =>
          let x := s.tile tile
          let n := min (min 16 (d.rows * d.stride / 8)) x.msgs.length
          if sramSize < d.base + 8 * n then s.cmdFault tile c TF.SRAM_RANGE
          else
            match s.sramWrite tile d.base (bytesOfWords (x.msgs.take n)) with
            | none => s.cmdFault tile c TF.SRAM_UNCORRECTABLE
            | some s1 => (s1.setTile tile { s1.tile tile with msgs := x.msgs.drop n }).cmdDone tile tag 0 n)

/-- SETA (R137). -/
def execSeta (tile tag : Nat) (s : State) : Out :=
  .next (
    match (s.tile tile).ready tag 2 (fun op => decide (16 ≤ op)) with
    | none => s
    | some c =>
      if field (c.c 0) 8 6 ≠ 0 then s.cmdFault tile c TF.UNIT_CMD_INVALID
      else
        let x := s.tile tile
        (s.setTile tile { x with
          da := Tbl.put 0 (c.op - 16) (c.c 1 + c.c 2 * 2 ^ 16 + c.c 3 * 2 ^ 32) x.da }).cmdDone tile tag 0 0)

/-- A table load (R188, R189): the whole source is read, then `put` writes the tables, unless `bad` finds a reserved
encoding in the source. -/
def State.tableLoad (s : State) (tile : Nat) (c : UnitCmd) (env : Env) (okFields : Bool) (n : Nat)
    (bad : TileTables → List Byte → Bool) (put : List Byte → TileTables → TileTables) : State :=
  let a := (s.tile tile).daAt (field (c.c 1) 7 4)
  let fn := s.tileFn tile
  if field (c.c 0) 8 6 ≠ 0 ∨ field (c.c 1) 3 0 ≠ 0 ∨ field (c.c 1) 15 8 ≠ 0 ∨ !okFields ∨ a % 64 ≠ 0 then
    s.cmdFault tile c TF.UNIT_CMD_INVALID
  else
    match s.checkRange fn false false a n with
    | .fail st => (s.refuse fn st).cmdFault tile c (faultOf st)
    | .wait => s
    | .ok _ =>
      if s.refused tile a n ≠ [] then
        ((s.refused tile a n).foldl (fun t p => t.stale tile p.1) s).cmdDone tile c.tag 1 0
      else
        match s.readChecked env fn a n with
        | (s1, .fail st) => s1.cmdFault tile c (poisonFault tile a st)
        | (_, .wait) => s
        | (s1, .ok bs) =>
          if bad (s1.tile tile).tables bs then s1.cmdFault tile c TF.UNIT_CMD_INVALID
          else
            let x := s1.tile tile
            (s1.setTile tile { x with tables := put bs x.tables }).cmdDone tile c.tag 0 0

/-- The FIRST and COUNT fields of LDDEC and LDENC (R188). -/
def countFields (c : UnitCmd) : Bool :=
  field (c.c 2) 15 8 == 0 && field (c.c 3) 15 9 == 0 && decide (1 ≤ c.c 3 ∧ c.c 3 ≤ 256 ∧ c.c 2 + c.c 3 ≤ 256)

/-- LDDEC (R188). -/
def execLddec (tile tag : Nat) (env : Env) (s : State) : Out :=
  .next (
    match (s.tile tile).ready tag 2 (· == 8) with
    | none => s
    | some c => s.tableLoad tile c env (countFields c) (c.c 3 * 2) (fun _ _ => false)
        (fun bs tb => { tb with dec := fillHalf (c.c 2) (groupsOf 2 (c.c 3) bs) tb.dec }))

/-- LDENC (R185, R188). -/
def execLdenc (tile tag : Nat) (env : Env) (s : State) : Out :=
  .next (
    match (s.tile tile).ready tag 2 (· == 9) with
    | none => s
    | some c => s.tableLoad tile c env (countFields c) (c.c 3 * 4) (fun tb bs => encListReserved tb (c.c 2) (groupsOf 4 (c.c 3) bs))
        (fun bs tb => { tb with enc := fillQuad (c.c 2) (groupsOf 4 (c.c 3) bs) tb.enc }))

/-- LDCTL (R181, R188). -/
def execLdctl (tile tag : Nat) (env : Env) (s : State) : Out :=
  .next (
    match (s.tile tile).ready tag 2 (· == 10) with
    | none => s
    | some c => s.tableLoad tile c env (c.c 2 == 0 && c.c 3 == 0) 128 (fun _ bs => controlReserved (wordsOf 16 bs))
        (fun bs tb => loadControl tb (wordsOf 16 bs)))

/-- LDCRV (R188, R193). -/
def execLdcrv (tile tag : Nat) (env : Env) (s : State) : Out :=
  .next (
    match (s.tile tile).ready tag 2 (· == 11) with
    | none => s
    | some c => s.tableLoad tile c env (c.c 2 == 0 && c.c 3 == 0) 1088 (fun _ bs => curveReserved (wordsOf 136 bs))
        (fun bs tb => { tb with curve := fillWord 0 (wordsOf 136 bs) [] }))

end Sys2Proof.Machine
end

