-- ==== Sys2Proof/Machine/MemMaint.lean ====
section
/-! DEFINITION. Band modes (R309 to R311), refresh, scrub and retraining (R319 to R322), rule changes (R330 to R332) and the
maintenance arbiter (R335 to R338). -/

namespace Sys2Proof.Machine

/-! The maintenance arbiter. -/

/-- Activities that apply to the whole device (R335). -/
def isDeviceAct : MaintAct → Bool
  | .scrub | .retrain | .refresh => false
  | _ => true

/-- Whether two activities conflict always, on the same unit only, or never (R336). -/
inductive Clash where
  | never | sameUnit | always
deriving DecidableEq, Repr

/-- The table of R336. -/
def clash (a b : MaintAct) : Clash :=
  match a, b with
  | .scrub, .scrub | .scrub, .retrain | .retrain, .scrub | .retrain, .retrain => .sameUnit
  | .retrain, .refresh | .refresh, .retrain | .refresh, .refresh => .sameUnit
  | .scrub, .tenancy | .tenancy, .scrub | .retrain, .tenancy | .tenancy, .retrain => .always
  | .scrub, _ | _, .scrub | .retrain, _ | _, .retrain | .refresh, _ | _, .refresh => .never
  | .checkpoint, .fuseRead | .fuseRead, .checkpoint | .fuseRead, .fuseRead => 
    if a = .fuseRead ∧ b = .fuseRead then .always else .never
  | _, _ => .always

/-- Whether two requests conflict (R336). -/
def MaintReq.conflicts (p q : MaintReq) : Bool :=
  match clash p.act q.act with
  | .never => false
  | .sameUnit => p.unit == q.unit
  | .always => true

/-- The state that the maintenance registers show: 0 IDLE, 1 PENDING, 2 RUNNING (R339). -/
def State.maintState (s : State) (a : MaintAct) (u : Nat) : Nat :=
  let l := s.mem.maint.filter (fun m => decide (m.act = a ∧ m.unit = u))
  if l.any (fun m => m.running) then 2 else if l.isEmpty then 0 else 1

/-- Whether an activity is RUNNING. -/
def State.maintRuns (s : State) (a : MaintAct) (u : Nat) : Bool := s.maintState a u == 2

/-- A request at the arbiter (R337): it starts, waits, or merges with the same request that waits; a start
pulses line 6 (R586). -/
def State.maintRequest (s : State) (a : MaintAct) (u : Nat) : State :=
  let u := if isDeviceAct a then 0 else u
  let m : MaintReq := ⟨a, u, false⟩
  if s.mem.maint.any (fun x => decide (x = m)) then s
  else if s.mem.maint.any (fun x => x.conflicts m) then
    { s with mem := { s.mem with maint := s.mem.maint ++ [m] } }.inc F.MEM_MAINT_CNT_PENDING_CNT 0
  else ({ s with mem := { s.mem with maint := s.mem.maint ++ [{ m with running := true }] } } : State).pulseLine 6

/-- The requests in order, each started once no request before it conflicts with it (R337). -/
def startReady (before : List MaintReq) : List MaintReq → List MaintReq
  | [] => []
  | m :: t =>
    let m1 := if m.running ∨ !before.any (fun x => x.conflicts m) then { m with running := true } else m
    m1 :: startReady (before ++ [m1]) t

/-- The first running request of an activity on a unit removed. -/
def dropRunning (a : MaintAct) (u : Nat) : List MaintReq → List MaintReq
  | [] => []
  | m :: t => if m.act = a ∧ m.unit = u ∧ m.running then t else m :: dropRunning a u t

/-- The end of a running activity; waiting ones start (R337); line 6 pulses (R586). -/
def State.maintFinish (s : State) (a : MaintAct) (u : Nat) : State :=
  ({ s with mem := { s.mem with
      maint := startReady [] (dropRunning a (if isDeviceAct a then 0 else u) s.mem.maint) } } : State).pulseLine 6

/-- Bytes of a memory unit that the K7 uses (R308, R312). -/
def State.unitBytes (s : State) (u : Nat) : Nat :=
  if u < 12 then 64 * 2 ^ 30
  else if u < 20 ∧ bit (s.fld F.MEM_CAP_STAT_POPULATED 0) (u - 12) then s.fld F.MEM_CAP_STAT_PER_CH_GIB 0 * 2 ^ 30
  else 0

/-- Whether a unit is one of the populated memory units. -/
def State.populated (s : State) (u : Nat) : Bool := s.unitBytes u != 0

/-- Whether a unit's domain is ready: otherwise the K7 requests no SCRUB, RETRAIN or REFRESH for it (R661). -/
def State.unitReady (s : State) (u : Nat) : Bool := decide (s.domain ((unitDomain u).getD 0) = .ready)

/-- Nanoseconds between scrub bursts of a unit: bursts of 64 KiB spread evenly over PERIOD_H hours (R320). -/
def State.scrubGap (s : State) (u : Nat) : Nat :=
  s.fld F.MEM_SCRUB_CTL_PERIOD_H 0 * 3600000000000 * 65536 / s.unitBytes u

/-- MAINT_REQUEST (R337, R338). A scrub burst is requested by the patrol scrub: it is on, the unit is populated, its
domain is ready and the next burst is due (R320). -/
def execMaintRequest (act : MaintAct) (unit : Nat) (s : State) : Out :=
  when (isDeviceAct act = true ∨ (unit < 20 ∧ s.populated unit = true ∧
      s.unitReady unit = true ∧ (act = .scrub → s.flag F.MEM_SCRUB_CTL_EN 0 = true ∧
        (s.unit unit).lastScrub + s.scrubGap unit ≤ s.tb.time))) (s.maintRequest act unit) s

/-- The checkpoint engine has no work on the device (R558). -/
def Ckpt.idle (c : Ckpt) : Bool :=
  (match c.job with | none => true | some j => j.rings.isEmpty && j.bytes == 0) && c.recv.isNone && c.restore.isNone &&
  c.serving.isNone && c.exporting.isNone

/-- Whether the environment may end a device activity: the checkpoint engine's ends when it is idle, one that a critical
command has begun ends with that command. -/
def State.mayEnd (s : State) (act : MaintAct) : Bool :=
  match act with
  | .scrub | .retrain => false
  | .checkpoint => s.ckp.idle
  | .fwUpdate | .keyRotation | .tenancy => s.sec.mbx.all (fun m => m.step == 0)
  | .fuseRead => false
  | _ => true

/-- MAINT_END (R337): an activity that runs has ended. A refresh rate change is in force then (R319). SCRUB_BURST and
RETRAIN_DONE end their own activities. -/
def execMaintEnd (act : MaintAct) (unit : Nat) (s : State) : Out :=
  let u := if isDeviceAct act then 0 else unit
  when (s.maintRuns act u = true ∧ s.mayEnd act = true) (
    let s1 := if act = .refresh then s.setFlag F.MEM_MAINT_UNIT_HOT u (s.unit u).wantHot else s
    s1.maintFinish act u) s

/-! Refresh, scrub and retraining. -/

/-- Nanoseconds between the refreshes of a unit: the interval that HBM4 or DDR5 defines, half of it at the doubled rate (R319). -/
def State.refreshGap (s : State) (u : Nat) : Nat :=
  Config.refreshNs (decide (u < 12)) / (if s.flag F.MEM_MAINT_UNIT_HOT u then 2 else 1)

/-- REFRESH_ISSUE (R319, R56): refresh is issued to a memory unit once its interval has passed; its next interval begins. -/
def execRefreshIssue (unit : Nat) (s : State) : Out :=
  when (unit < 20 ∧ s.populated unit = true ∧ (s.unit unit).lastRefresh + s.refreshGap unit ≤ s.tb.time) (s.setUnit unit { s.unit unit with lastRefresh := s.tb.time }) s

/-- While the board sensor bus has failed, every RDIMM that serves is treated as above 85 °C (R319, R596). -/
def State.dimmsHot (s : State) : State :=
  if s.flag F.FUM_SMB_STAT_SENSOR_FAILED 0 then
    (List.range 8).foldl (fun t c =>
      let u := 12 + c
      if t.populated u ∧ t.unitReady u ∧ !(t.unit u).wantHot then
        (t.setUnit u { t.unit u with wantHot := true }).maintRequest .refresh u
      else t) s
  else s

/-- REFRESH_RATE_CHANGE (R319): above 85 °C the rate is to be doubled, below 80 °C normal again; the change is the
REFRESH activity of the unit. While the sensor bus has failed, an RDIMM counts as above 85 °C (R596). -/
def execRefreshRateChange (unit temp : Nat) (s : State) : Out :=
  .next (
    let x := s.unit unit
    if 20 ≤ unit ∨ s.populated unit = false ∨ s.unitReady unit = false then s
    else if (85 < temp ∨ (12 ≤ unit ∧ s.flag F.FUM_SMB_STAT_SENSOR_FAILED 0 = true)) ∧ x.wantHot = false then
      (s.setUnit unit { x with temp := temp, wantHot := true }).maintRequest .refresh unit
    else if temp < 80 ∧ x.wantHot = true ∧ (unit < 12 ∨ s.flag F.FUM_SMB_STAT_SENSOR_FAILED 0 = false) then
      (s.setUnit unit { x with temp := temp, wantHot := false }).maintRequest .refresh unit
    else s.setUnit unit { x with temp := temp })

/-- SCRUB_BURST (R320, R315, R316, R338): 64 KiB of a unit are read from where the patrol scrub stands; the burst's
activity ends. `ecc` lists the errors that it finds. -/
def execScrubBurst (unit : Nat) (ecc : List EccEvent) (s : State) : Out :=
  when (s.maintRuns .scrub unit = true) (
    let x := s.unit unit
    let s1 := ecc.foldl (fun t e =>
      match t.place e.addr with
      | some p =>
        if p.1 = unit ∧ x.scrubPos ≤ p.2 ∧ p.2 < x.scrubPos + 65536 then
          (if eccCorrectable e then eccCorrect e t else eccUncorrect e t)
        else t
      | none => t) s
    (s1.setUnit unit { x with
      scrubPos := (x.scrubPos + 65536) % max 65536 (s.unitBytes unit), lastScrub := s.tb.time }).maintFinish .scrub unit) s

/-- The conditions of R321 for retraining a unit at temperature `temp` with `errs` link errors in one second. -/
def State.mustRetrain (s : State) (u temp errs : Nat) : Bool :=
  let x := s.unit u
  let h := s.fld F.MEM_TRAIN_CTL_INTERVAL_H 0
  let d := s.fld F.MEM_TRAIN_CTL_DRIFT_C 0
  let c := s.fld F.MEM_TRAIN_CTL_CRC_LIMIT 0
  (h != 0 && decide (x.lastTrain + h * 3600000000000 ≤ s.tb.time)) ||
  (d != 0 && decide (x.trainTemp + d < temp ∨ temp + d < x.trainTemp)) ||
  (c != 0 && decide (c ≤ errs))

/-- RETRAIN_TRIGGER (R321, R661): firmware finds a unit at `temp` with `linkErrs` link errors in the last second, each a
Sinter event, and requests a retraining if a condition of R321 holds. -/
def execRetrainTrigger (unit temp linkErrs : Nat) (s : State) : Out :=
  when (unit < 20 ∧ s.populated unit = true ∧ s.unitReady unit = true) (
    let s1 := (List.range linkErrs).foldl (fun t _ => sinterEvent 0x0C3 unit t) s
    let s2 := s1.setUnit unit { s.unit unit with temp := temp, linkErrs := linkErrs, errSince := s.tb.time }
    if s.mustRetrain unit temp linkErrs then (s2.pulseLine 7).maintRequest .retrain unit else s2) s

/-- RETRAIN_DONE (R322): `us` microseconds after its start, at most 20 for a stack and 50 for a channel, the unit has trained; accesses to it go on. -/
def execRetrainDone (unit us : Nat) (s : State) : Out :=
  when (s.maintRuns .retrain unit = true ∧ us ≤ if unit < 12 then 20 else 50) (
    let x := s.unit unit
    ((sinterEvent 0x0C2 us (s.setUnit unit { x with lastTrain := s.tb.time, trainTemp := x.temp, linkErrs := 0 })).inc
      F.MEM_MAINT_UNIT_TRAIN_CNT unit).maintFinish .retrain unit) s

/-! Band modes. -/

/-- A write of a band mode register: every band whose mode it changes waits for its accesses (R311). -/
def State.bandModeWritten (old s : State) (k : Nat) : State :=
  (List.range 32).foldl (fun t j =>
    let f := (bandMode j).at k
    if s.fld f 0 ≠ old.fld f 0 then
      { t with mem := { t.mem with bandWait := Tbl.set (32 * k + j) (s.fld f 0) t.mem.bandWait } }
    else t) s

/-- The fields of a band mode register. -/
def bandFields : List Fld := (List.range 32).map bandMode

/-- BAND_MODE_WRITE (R309, R311). -/
def execBandModeWrite (who : Requester) (k : Nat) (v : Word) (s : State) : Out :=
  when (s.ddtReady = true ∧ isVf who = false ∧ k < 2)
    (let s := s.touch who; s.bandModeWritten { s with regs := writeFields bandFields k 0 0 64 v.toNat s.regs } k) s

/-- BAND_MODE_APPLY (R311): the band's admitted accesses have completed; the new mode applies and every byte of the
band holds unspecified contents. -/
def execBandModeApply (band : Nat) (s : State) : Out :=
  .next (
    match Tbl.find? band s.mem.bandWait with
    | none => s
    | some m =>
      if s.inFlightTo (band * bandBytes) ((band + 1) * bandBytes) then s
      else
        let s1 : State := { s with mem := { s.mem with bandWait := Tbl.del band s.mem.bandWait } }
        if m = s.modeOf band then s1
        else
          ({ s1 with mem := { s1.mem with bandMode := Tbl.put 0 band m s1.mem.bandMode } }).spoil
            (band * bandBytes) bandBytes)

/-! Rule changes. -/

/-- EPOCH of a function incremented (R331). -/
def State.ruleChange (s : State) (fn : Nat) : State := s.inc F.MEM_FN_FENCE_EPOCH fn

/-- The function that a requester's MEM_FN_SEL names. -/
def State.memSel (s : State) (who : Requester) : Nat := s.fld F.MEM_FN_SEL_FUNC (reqCode who)

/-- The function and the change of a write to a window or device-region register (R331): `lo` and `n` are the bits
written. -/
def State.windowWrite (s : State) (who : Requester) (off lo n v : Nat) : State :=
  match regAt off with
  | none => s
  | some (d, k) =>
    if 0x400200 ≤ off ∧ off < 0x400300 then
      let f := s.memSel who
      ({ s with regs := writeFields d.fields k f lo n v s.regs }).ruleChange f
    else if 0x400400 ≤ off ∧ off < 0x400600 then
      (List.range 256).foldl (fun t f => t.ruleChange f) { s with regs := writeFields d.fields k 0 lo n v s.regs }
    else s

/-- WINDOW_RULE_CHANGE (R331). -/
def execWindowRuleChange (who : Requester) (off : Nat) (v : Word) (s : State) : Out :=
  when (s.ddtReady = true ∧ isVf who = false) ((s.touch who).windowWrite who off 0 64 v.toNat) s

/-- The cached entries of a function discarded (R330). -/
def State.cacheDrop (s : State) (fn : Nat) : State :=
  { s with mem := { s.mem with cache := s.mem.cache.filter (fun c => c.fn != fn) } }

/-- A write to MEM_XLT_BASE of the selected function (R330, R331). -/
def State.xltBase (s : State) (who : Requester) (lo n v : Nat) : State :=
  let f := s.memSel who
  (({ s with regs := writeFields [F.MEM_XLT_BASE_L1, F.MEM_XLT_BASE_EN] 0 f lo n v s.regs }).cacheDrop f).ruleChange f

/-- XLT_BASE_WRITE (R330, R331). -/
def execXltBaseWrite (who : Requester) (v : Word) (s : State) : Out :=
  when (s.ddtReady = true ∧ isVf who = false) ((s.touch who).xltBase who 0 64 v.toNat) s

/-- Whether an invalidation of `n` pages from page `p` names a cached entry (R330). -/
def XltEntry.named (c : XltEntry) (p n : Nat) : Bool :=
  n == 0 ||
  (if c.level1 then decide (c.idx * 262144 < p + n ∧ p < (c.idx + 1) * 262144) else decide (p ≤ c.idx ∧ c.idx < p + n))

/-- XLT_INVALIDATE (R330, R331). -/
def execXltInvalidate (fn : Nat) (s : State) : Out :=
  when (s.flag F.MEM_XLT_INV_GO fn = true) (
    let s1 := s.setFlag F.MEM_XLT_INV_GO fn false
    let p := s.fld F.MEM_XLT_INV_ADDR_PAGE fn
    let n := s.fld F.MEM_XLT_INV_PAGES fn
    ({ s1 with mem := { s1.mem with
        cache := s1.mem.cache.filter (fun c => !(c.fn == fn && c.named p n)) } }).ruleChange fn) s

end Sys2Proof.Machine
end

