-- ==== Sys2Proof/Machine/Endpoint.lean ====
section
/-! DEFINITION. The host endpoint's events: completions and timeouts (R361 to R364), interrupt masks (R367 to R369), power
states (R370 to R372), virtual functions (R342, R345), downstream ports (R373, R374). Function resets stand in FnReset. -/

namespace Sys2Proof.Machine

/-- The state of an outcome; a stop leaves `s`. -/
def outState (s : State) : Out → State
  | .next t => t
  | _ => s

/-! Completions. -/

/-- An upstream read no longer outstanding. -/
def State.dropRead (s : State) (tag : Nat) : State :=
  { s with hep := { s.hep with reads := Tbl.del tag s.hep.reads } }

/-- A read given up: its tag is not reused until 8 s after it was sent (R363). -/
def State.giveUpRead (s : State) (tag : Nat) (r : UpRead) : State :=
  let s1 := s.dropRead tag
  { s1 with hep := { s1.hep with tagHold := Tbl.set tag (r.sent + 8000000000) s1.hep.tagHold } }

/-- The outcome of a failed read for the entry or clause that asked for it (R362, R364). -/
def State.readFailed (s : State) (r : UpRead) (f : HostFail) : State :=
  match r.purpose with
  | .ringFetch n =>
    match s.slot? n with
    | some x => (s.hostFailed r.fn f).haltWithEvent {} x.ring (hostStatus f)
    | none => s.hostFailed r.fn f
  | .clauseData n => outState s (execCopy n { host := [⟨r.addr, f⟩] } s)
  | .discard => s.hostFailed r.fn f

/-- HOST_COMPLETION_ARRIVE (R362 to R364): the completion of an outstanding read. Data of a fetch becomes the entry of its
slot; data of a clause lets the clause go on; host memory held `data` when it was read. -/
def execHostCompletionArrive (tag : Nat) (status : HostStatus) (data : List Byte) (s : State) : Out :=
  .next (
    match Tbl.find? tag s.hep.reads with
    | none => s
    | some r =>
      let s1 := (s.dropRead tag).tlp
      match status with
      | .errorStatus => s1.readFailed r .errorStatus
      | .poisoned => s1.readFailed r .poisoned
      | .success =>
        if data.length ≠ r.len then s
        else
          let s2 := s1.hostWrite r.addr data
          match r.purpose with
          | .ringFetch n =>
            match s2.slot? n with
            | some x => (s2.setSlot n { x with words := wordsOf 8 data }).snoop 24 r.fn data
            | none => s2
          | _ => s2)

/-- COMPLETION_TIMEOUT (R361 to R363): the read's timeout has passed. -/
def execCompletionTimeout (tag : Nat) (s : State) : Out :=
  .next (
    match Tbl.find? tag s.hep.reads with
    | none => s
    | some r => if r.sent + r.timeout ≤ s.tb.time then (s.giveUpRead tag r).readFailed r .timeout else s)

/-- UNEXPECTED_COMPLETION (R360, R363): a completion for a request that is not outstanding is discarded and counted, by the
function that it names, or by the physical function if it names none. -/
def execUnexpectedCompletion (fn tag : Nat) (s : State) : Out :=
  let f := if fn < 256 then fn else 0
  when (Tbl.has s.hep.reads tag = false)
    (aerAdvise f 3 (sinterEvent 0x141 f (s.tlp.inc F.HEP_FN_STAT_UNEXP_CPL f))) s

/-! Configuration space. -/

/-- A configuration request to function `fn`: Unsupported Request where the function is not enabled (R360), Request Retry Status
while it resets (R356), else its effect. -/
def State.configured (s : State) (fn : Nat) (f : State → State) : State :=
  let t := s.tlp
  if !t.fnExists fn then aerReport (fn % 256) 4 t
  else if t.flag F.HEP_FN_STAT_DRAINING fn then t
  else f t

/-- A field of a configuration space as host software leaves it: a BAR holds a multiple of its size (R346). -/
def CfgField.put (fn : Nat) (c : FnConfig) : CfgField → FnConfig
  | .bar0 a => { c with bar0 := a / (barSizes fn).1 * (barSizes fn).1 }
  | .bar2 a => { c with bar2 := a / (barSizes fn).2.1 * (barSizes fn).2.1 }
  | .bar4 a => { c with bar4 := a / (barSizes fn).2.2 * (barSizes fn).2.2 }
  | .rom a e => if fn = 0 then { c with rom := a / 2 ^ 20 * 2 ^ 20, romEnable := e } else c
  | .cplTimeout v => { c with cplTimeout := v % 16 }
  | .relaxed b => { c with relaxed := b }
  | .maxPayload v => { c with maxPayload := v % 8 }
  | .maxRead v => { c with maxRead := v % 8 }

/-- The configuration requests of host software, in order. -/
def State.enumerate (s : State) (cfg : List (Nat × CfgField)) : State :=
  cfg.foldl (fun t x => t.configured x.1 (fun u => u.setCfg x.1 (CfgField.put x.1 (u.cfg x.1) x.2))) s

/-- What the configuration space of a function reports and no request changes (R340 to R342, R345, R346, R365, R370). -/
structure FnCaps where
  vendor : Nat
  device : Nat
  classCode : Nat
  /-- index, size and prefetchable of each BAR, every one 64-bit memory space -/
  bars : List (Nat × Nat × Bool)
  romBytes : Nat
  /-- MSI-X Table Size, offsets of table and PBA in BAR0 -/
  msixSize : Nat
  msixTable : Nat
  msixPba : Nat
  /-- TotalVFs, InitialVFs, First VF Offset, VF Stride and VF Device ID of the SR-IOV capability -/
  sriov : Option (Nat × Nat × Nat × Nat × Nat)
  aer : Bool
  ari : Bool
  doe : Bool
  intx : Bool
  /-- Max_Payload_Size Supported and the largest Max_Read_Request_Size, bytes -/
  payloadMax : Nat
  readMax : Nat
  /-- L1 exit latency and L1.2 exit latency, µs; L0s is not supported -/
  exitL1 : Nat
  exitL12 : Nat
  l11 : Bool
  l12 : Bool
  l0p : Bool
  noSoftReset : Bool
  pme : Bool
  cplTimeoutDisable : Bool
  /-- ATS, PRI, PASID, TPH, PTM, IDE, AtomicOp, No Snoop and ID-Based Ordering: not implemented (R340, R341) -/
  others : List Bool
deriving DecidableEq, Repr

/-- The capabilities of a function. -/
def State.fnCaps (s : State) (fn : Nat) : FnCaps :=
  let pf := decide (fn = 0)
  { vendor := 0x1ED7
    device := if pf then 0x4B07 else 0x4B17
    classCode := (s.cfg fn).classCode
    bars := [(0, (barSizes fn).1, false), (2, (barSizes fn).2.1, false), (4, (barSizes fn).2.2, false)]
    romBytes := if pf then 2 ^ 20 else 0
    msixSize := vecCount fn - 1
    msixTable := if pf then 0x580000 else 0xE000
    msixPba := if pf then 0x5C0000 else 0xE800
    sriov := if pf then some (255, 255, 1, 1, 0x4B17) else none
    aer := true, ari := true, doe := pf, intx := pf
    payloadMax := 512, readMax := 4096, exitL1 := 4, exitL12 := 32, l11 := true, l12 := true, l0p := true
    noSoftReset := true, pme := false, cplTimeoutDisable := false
    others := List.replicate 9 false }

/-- Max_Payload_Size and Max_Read_Request_Size of a function, bytes: what host software programs, within what is supported
(R340). -/
def State.payloadBytes (s : State) (fn : Nat) : Nat := min 512 (128 * 2 ^ (s.cfg fn).maxPayload)
def State.readBytes (s : State) (fn : Nat) : Nat := min 4096 (128 * 2 ^ (s.cfg fn).maxRead)

/-- What the K7 writes upstream. -/
inductive UpWrite where
  /-- data of a copy mover or of Geyser -/
  | data
  | completion
  | interrupt
deriving DecidableEq, Repr

/-- The Relaxed Ordering attribute of a posted write (R75, R340). -/
def State.relaxedOrder (s : State) (fn : Nat) (w : UpWrite) : Bool := decide (w = .data) && (s.cfg fn).relaxed

/-! Interrupt masks. -/

/-- Every waiting request of a function whose vector may send now is sent; its PBA bit clears (R367). -/
def State.flushIrq (s : State) (fn : Nat) : State :=
  s.hep.irq.foldl (fun t x =>
    let v := x.1 % 4096
    if x.1 / 4096 = fn ∧ x.2.count ≠ 0 ∧ t.mayInterrupt fn v then
      ((List.range x.2.count).foldl (fun u _ => u.sendMsix fn v) t).setIrq fn v {}
    else t) s

/-- The mask change of MSIX_UNMASK. -/
def State.unmask (s : State) (fn : Nat) : MsixUnmask → State
  | .entry v =>
    if v < vecCount fn then
      { s with hep := { s.hep with
          msix := Tbl.put {} (vecKey fn v) { s.msixEntry fn v with masked := false } s.hep.msix } }
    else s
  | .function => s.setCfg fn { s.cfg fn with msixMask := false }
  | .enable => s.setCfg fn { s.cfg fn with msixEnable := true }

/-- MSIX_UNMASK (R111, R356, R367): an entry's Mask bit lies in the function's table; the Function Mask and MSI-X Enable lie in
its configuration space. -/
def execMsixUnmask (fn : Nat) (what : MsixUnmask) (s : State) : Out :=
  .next (
    match what with
    | .entry v => if s.fnExists fn then (s.tlp.unmask fn (.entry v)).flushIrq fn else aerReport (fn % 256) 4 s.tlp
    | w => s.configured fn (fun t => (t.unmask fn w).flushIrq fn))

/-- Cause bits cleared by software; Deassert_INTA when the last one clears (R369). -/
def State.intxCleared (old s : State) : State := if s.intxClear && !old.intxClear then s.intxSend false else s

/-- Requests of the physical function that wait for INTx set their cause bits, and their counts and PBA bits clear (R367). -/
def State.flushIntx (s : State) : State :=
  if s.intxOn then
    s.hep.irq.foldl (fun t x => if x.1 < vecCount 0 ∧ x.2.count ≠ 0 then (t.intxRaise x.1).setIrq 0 x.1 {} else t) s
  else s

/-- INTX_CAUSE_CLEAR (R369): a write of ones to HEP_INTX_CAUSE k. -/
def execIntxCauseClear (k : Nat) (v : Word) (s : State) : Out :=
  when (k < 17) (
    let s := s.tlp
    let f := F.HEP_INTX_CAUSE_VEC.at k
    s.intxCleared (s.setFld f 0 (s.fld f 0 - (s.fld f 0 &&& v.toNat)))) s

/-- INTERRUPT_DISABLE_CLEAR (R356, R367, R370): with MSI-X off, each vector with waiting requests sets its cause bit, in D0. -/
def execInterruptDisableClear (s : State) : Out :=
  .next (s.configured 0 (fun t => (t.setCfg 0 { t.cfg 0 with intDisable := false }).flushIntx))

/-! Power states. -/

/-- POWER_STATE_CHANGE (R356, R370): D3hot or D0; back in D0 the waiting messages are sent and the waiting INTx requests set
their cause bits. -/
def execPowerStateChange (fn : Nat) (d3hot : Bool) (s : State) : Out :=
  .next (s.configured fn (fun t =>
    if d3hot then t.setFld F.HEP_FN_STAT_DSTATE fn 3
    else
      let u := (t.setFld F.HEP_FN_STAT_DSTATE fn 0).flushIrq fn
      if fn = 0 then u.flushIntx else u))

/-- The link state that an L1 request ends in (R371): L1.2 or L1.1 where the host enables it. -/
def l1State (l11 l12 : Bool) : Nat := if l12 then 5 else if l11 then 4 else 3

/-- L1_ENTRY (R371): the link has carried no TLP for L1_IDLE_US, no upstream read is outstanding and no TLP waits; `aspm`
is what the host enables in Link Control. With L1.2 the low-power state of domain 29 switches. -/
def execL1Entry (aspm : Aspm) (s : State) : Out :=
  let lim := s.fld F.HEP_LPM_CTL_L1_IDLE_US 0
  let st := s.fld F.HEP_LINK_STAT_STATE 0
  let s1 : State := { s with hep := { s.hep with aspmL1 := aspm.l1, aspmL11 := aspm.l11, aspmL12 := aspm.l12 } }
  .next (
    if lim ≠ 0 ∧ s.hep.lastTlp + lim * 1000 ≤ s.tb.time ∧ s.hep.reads.isEmpty = true ∧ (st = 1 ∨ st = 2) ∧ aspm.l1 = true then
      let s2 := s1.setFld F.HEP_LINK_STAT_STATE 0 (l1State aspm.l11 aspm.l12)
      if aspm.l12 then s2.setDomain 29 false else s2
    else s1)

/-- L1_EXIT (R371, R372): the link is back in L0. -/
def execL1Exit (s : State) : Out := .next s.leaveL1

/-- A replay of the upstream link, counted and recorded (R375, R600). -/
def State.replayed (s : State) : State := sinterEvent 0x143 0 (s.inc F.HEP_LINK_CNT_REPLAY_CNT 0)

/-- What the upstream link reports (R360, R375): the physical function alone reports link errors; HEP_LINK_CNT counts them, the
replays and the entries to Recovery. -/
def State.linkErr (s : State) : LinkErr → State
  | .receiver => aerReport 0 7 (s.inc F.HEP_LINK_CNT_CORR_CNT 0)
  | .badTlp => aerReport 0 8 (s.inc F.HEP_LINK_CNT_CORR_CNT 0)
  | .badDllp => aerReport 0 9 (s.inc F.HEP_LINK_CNT_CORR_CNT 0)
  | .replayTimeout => aerReport 0 10 (s.inc F.HEP_LINK_CNT_CORR_CNT 0).replayed
  | .replayRollover => aerReport 0 11 (s.inc F.HEP_LINK_CNT_CORR_CNT 0)
  | .corrected => aerReport 0 6 s
  | .dlProtocol => aerReport 0 12 (s.inc F.HEP_LINK_CNT_UNCORR_CNT 0)
  | .flowControl => aerReport 0 13 (s.inc F.HEP_LINK_CNT_UNCORR_CNT 0)
  | .malformed => aerReport 0 14 (s.inc F.HEP_LINK_CNT_UNCORR_CNT 0)
  | .overflow => aerReport 0 15 (s.inc F.HEP_LINK_CNT_UNCORR_CNT 0)
  | .nak => s.replayed
  | .recovery =>
    if s.flag F.HEP_LINK_STAT_UP 0 then
      (s.leaveL1.setFld F.HEP_LINK_STAT_STATE 0 6).inc F.HEP_LINK_CNT_RECOVERY_CNT 0
    else s

/-- L0P_WINDOW (R371, R375): `util` percent of the current width was used in a 100 µs window, or a TLP has waited 2 µs; `seen`
says so, and what the link has reported since. The request takes effect: the link partner's answer is not modelled. -/
def execL0pWindow (util : Nat) (seen : L0pSeen) (s : State) : Out :=
  let s := seen.errs.foldl State.linkErr s
  let dn := s.fld F.HEP_LPM_CTL_L0P_DOWN_PCT 0
  let up := s.fld F.HEP_LPM_CTL_L0P_UP_PCT 0
  let full := s.fld F.HEP_LINK_STAT_WIDTH 0
  let l0p := s.fld F.HEP_LINK_STAT_L0P_WIDTH 0
  let cur := if l0p = 0 then full else l0p
  let st := s.fld F.HEP_LINK_STAT_STATE 0
  let due := decide (s.hep.l0pWindowStart + 100000 ≤ s.tb.time)
  when (s.flag F.HEP_LPM_CTL_L0P_EN 0 = true ∧ dn < up ∧ (st = 1 ∨ st = 2) ∧ (due = true ∨ seen.tlpWaited = true)) (
    let s1 : State := if due then { s with hep := { s.hep with l0pWindowStart := s.tb.time } } else s
    let w := if seen.tlpWaited ∨ up < util then min full (2 * cur) else if util < dn ∧ 2 < cur then cur / 2 else cur
    (s1.setFld F.HEP_LINK_STAT_L0P_WIDTH 0 (if w = full then 0 else w)).setFld F.HEP_LINK_STAT_STATE 0
      (if w = full then 1 else 2)) s

/-- The upstream link up at a rate and width, in L0. A link that was up has trained through Recovery (R375). -/
def State.linkUp (s : State) (rate width : Nat) : State :=
  let s1 := if s.flag F.HEP_LINK_STAT_UP 0 ∧ s.fld F.HEP_LINK_STAT_STATE 0 ≠ 6 then
      s.leaveL1.inc F.HEP_LINK_CNT_RECOVERY_CNT 0 else s
  ((((s1.setFld F.HEP_LINK_STAT_RATE 0 rate).setFld F.HEP_LINK_STAT_WIDTH 0 width).setFld
    F.HEP_LINK_STAT_L0P_WIDTH 0 0).setFld F.HEP_LINK_STAT_STATE 0 1).setFlag F.HEP_LINK_STAT_UP 0 true

/-- UPSTREAM_LINK_TRAINED (R340, R585): the data link layer is up at a rate (encoded as HEP_LINK_STAT.RATE) and width, after which
the configuration requests `cfg` of host software are answered. -/
def execUpstreamLinkTrained (link : LinkShape) (cfg : List (Nat × CfgField)) (s : State) : Out :=
  when (1 ≤ link.rate ∧ link.rate ≤ 6 ∧ [1, 2, 4, 8, 16].contains link.width = true ∧ s.fum.perst = false ∧
      3 ≤ s.fld F.FUM_BOOT_STAT_STAGE 0 ∧ s.fld F.FUM_BOOT_STAT_STAGE 0 ≠ 6)
    ((s.linkUp link.rate link.width).enumerate cfg) s

/-! Virtual functions. -/

/-- The class code of a virtual function when VF Enable becomes 1 (R345). -/
def State.vfClass (s : State) (f : Nat) : Nat :=
  let c := s.flag F.HEP_FN_CTL_COMPUTE f
  let d := s.flag F.HEP_FN_CTL_STORAGE f
  let n := s.flag F.HEP_FN_CTL_NETWORK f
  if !s.flag F.HEP_DEV_CTL_CLASS_MODE 0 then 0x120000
  else if d && !c && !n then 0x010802
  else if n && !c && !d then 0x020000
  else 0x120000

/-- VF Enable set with NumVFs: the class code of every virtual function is settled (R342, R345). A write while VF Enable is 1
changes neither. -/
def State.vfOn (s : State) (numVfs : Nat) : State :=
  if s.hep.vfEnable = false ∧ numVfs ≤ 255 then
    (List.range 255).foldl (fun t i => t.setCfg (i + 1) { t.cfg (i + 1) with classCode := s.vfClass (i + 1) })
      { s with hep := { s.hep with vfEnable := true, numVfs := numVfs } }
  else s

/-- VF_ENABLE_SET (R342, R345, R356), with the configuration requests to the virtual functions that follow it. -/
def execVfEnableSet (on : VfEnable) (s : State) : Out :=
  .next ((s.configured 0 (fun t => t.vfOn on.numVfs)).enumerate on.cfg)

/-! Downstream ports. -/

/-- The link of a downstream port goes down: the port stops forwarding (R373), and a device that was present and powered counts in
SURPRISE_CNT (R375). -/
def State.dpDown (s : State) (port : Nat) : State :=
  if s.flag F.HEP_DP_STAT_UP port then
    let t := (((s.setFlag F.HEP_DP_STAT_UP port false).setFld F.HEP_DP_STAT_WIDTH port 0).setFld
      F.HEP_DP_STAT_RATE port 0).setFlag F.HEP_DP_STAT_CHANGE port true
    if s.flag F.HEP_DP_STAT_PRESENT port ∧ s.flag F.HEP_DP_CTL_PWR port then t.inc F.HEP_DP_STAT_SURPRISE_CNT port else t
  else s

/-- DP_PRESENCE_CHANGE (R373, R375): a device appears or goes; a device that goes takes its link down. -/
def execDpPresenceChange (port : Nat) (present : Bool) (s : State) : Out :=
  when (port < 4 ∧ s.flag F.HEP_DP_STAT_PRESENT port ≠ present)
    ((((if present then s else s.dpDown port).setFlag F.HEP_DP_STAT_PRESENT port present).setFlag
      F.HEP_DP_STAT_CHANGE port true)) s

/-- What a write of HEP_DP_CTL does beyond its fields (R375): a link without EN or slot power is held down. -/
def State.dpCtlChanged (s : State) (port : Nat) : State :=
  if s.flag F.HEP_DP_CTL_EN port ∧ s.flag F.HEP_DP_CTL_PWR port then s else s.dpDown port

/-- DP_ERROR (R374): counted, recorded, and passed to the storage engine; never sent upstream. -/
def execDpError (port : Nat) (s : State) : Out :=
  when (port < 4) (
    let t := sinterEvent 0x144 port (s.inc F.HEP_DP_STAT_ERR_CNT port)
    { t with sto := { t.sto with portErrs := Tbl.put 0 port (Tbl.getD t.sto.portErrs port 0 + 1) t.sto.portErrs } }) s

/-- Whether an address lies in a buffer that the storage engine has opened for the drive of a port: that of a backing command
which has not ended (R374). The manual does not say where the buffers lie. -/
def State.driveBuffer (s : State) (port addr : Nat) : Bool :=
  s.sto.locks.any (fun l => l.parts.any (fun p => p.ended.isNone && decide (p.path = .drive port) &&
    decide ((Config.driveBuffer p.id).1 ≤ addr ∧ addr < (Config.driveBuffer p.id).1 + (Config.driveBuffer p.id).2)))

/-- DRIVE_MEMORY_REQUEST (R374): a request outside the opened buffers is answered with Unsupported Request; no part of it is
performed. One inside them belongs to its backing command. -/
def execDriveMemoryRequest (port : Nat) (addr : Nat) (s : State) : Out :=
  when (port < 4 ∧ s.driveBuffer port addr = false)
    { s with hep := { s.hep with
        drvRefused := Tbl.set port (Tbl.getD s.hep.drvRefused port 0 + 1) s.hep.drvRefused } } s

end Sys2Proof.Machine
end

