-- ==== Sys2Proof/Machine/Geyser.lean ====
section
/-! DEFINITION. Geyser: operands, checks, the element work of an operation, outcomes and the operation table (R265 to R281, R293,
R294, R303 to R305). The operations stand in GeyserOps. -/

namespace Sys2Proof.Machine

/-! Operands. -/

/-- The fields of words 1 to 7 of a clause or an operand block. -/
def geyArgs (w : List Word) : GArgs :=
  { mode := field (wordAt w 1) 63 48, a := field (wordAt w 1) 47 0, b := field (wordAt w 2) 47 0
    c := field (wordAt w 3) 47 0, n := field (wordAt w 4) 39 0, m := field (wordAt w 5) 39 0
    x := field (wordAt w 6) 47 0, s := wordAt w 7 }

/-- An element size or a row stride that R277 does not allow: a reserved encoding (R652). `w` is the width of a combined type. -/
def gatherSizeBad (g : GArgs) (w : Nat) : Bool :=
  decide (g.m < 4 ∨ 4096 < g.m) || g.m % w != 0 || g.s % 4 != 0

/-- COMBINE of SCATTER, and its entry width in bytes; 4 for a copy (R269, R277). -/
def combineOf (x : GArgs) : Nat := field x.mode 5 2
def combineWidth (c : Nat) : Nat := if c = 3 then 8 else 4

/-- A field that an operation leaves unused, or an encoding that it does not define (R267 to R269, R277). -/
def geyModeBad (op : Nat) (g : GArgs) : Bool :=
  let md := g.mode
  match op with
  | 0 => decide (4 ≤ md) || decide (2 ^ 32 ≤ g.s) || gatherSizeBad g 4
  | 1 => decide (64 ≤ md) || decide (7 < field md 5 2) || decide (2 ^ 32 ≤ g.s) || gatherSizeBad g (combineWidth (combineOf g))
  | 2 => decide (2 < md) || g.m != 0
  | 3 => md != 0 || g.m != 0 || g.x != 0
  | 4 => md != 0 || g.m != 0 || g.x != 0 || g.s != 0
  | 5 => decide (32 ≤ md) || field md 2 1 == 3 || field md 4 3 == 3 || g.b != 0 || g.m != 0 || g.s != 0
  | 6 => decide (32 ≤ md) || field md 2 1 == 3 || field md 4 3 == 3 || g.x != 0 || g.s != 0
  | 7 => decide (16 ≤ md) || field md 1 0 == 3 || field md 3 2 == 3 || g.x != 0
  | 8 => decide (32 ≤ md) || field md 1 0 == 3 || field md 3 2 == 3 || g.x != 0
  | 9 => decide (8 ≤ md) || field md 2 1 == 3 || g.x != 0 || g.s != 0
  | 10 => decide (2 ≤ md) || g.m != 0 || g.x != 0 || g.s != 0
  | _ => decide (4 ≤ md) || (bit md 0 && !bit md 1) || (bit md 1 && g.n != 0) || decide (2 ^ 48 ≤ g.s)

/-- A reserved encoding or a non-zero unused field in words 1 to 7 (R267 to R269, R277). -/
def geyReserved (op : Nat) (w : List Word) : Bool :=
  field (wordAt w 2) 63 48 != 0 || field (wordAt w 3) 63 48 != 0 || field (wordAt w 4) 63 40 != 0 ||
  field (wordAt w 5) 63 40 != 0 || field (wordAt w 6) 63 48 != 0 || geyModeBad op (geyArgs w)

/-! Accesses. -/

/-- For whom an operation accesses memory: its function, and the tile of a unit command. -/
structure GCtx where
  fn : Nat
  tile : Option Nat
  env : Env

/-- A state with a result or a failure. -/
abbrev GRes (α : Type) := State × Except GErr α

/-- The next part of a computation, after its first part succeeded. -/
def gBind {α β : Type} (r : GRes α) (f : State → α → GRes β) : GRes β :=
  match r with
  | (s, .ok a) => f s a
  | (s, .error e) => (s, .error e)

/-- The tile rules for an access: the role check of a unit command (R144, R145), the role conflict of a clause (R146). -/
def State.gRole (s : State) (g : GCtx) (a n : Nat) : GRes Unit :=
  match g.tile with
  | some t =>
    match s.refused t a n with
    | [] => (s, .ok ())
    | l => (l.foldl (fun u p => u.stale t p.1) s, .error .stale)
  | none => if s.roleConflict a n then (s, .error .conflict) else (s, .ok ())

/-- The checks of one element access at an address derived from data, in the order of R280 (R272, R273, R324). -/
def State.gGate (s : State) (g : GCtx) (wr : Bool) (a n : Nat) : GRes Unit :=
  if s.region a = .host then (s, .error (.invalid 1 0))
  else
    match s.checkRange g.fn wr false a n with
    | .fail st => (s.refuse g.fn st, .error (.access st))
    | .wait => (s, .error .wait)
    | .ok _ => s.gRole g a n

/-- A result of an access that has been checked. -/
def gAnswer {α : Type} (r : State × Res α) : GRes α :=
  match r with
  | (s, .ok a) => (s, .ok a)
  | (s, .fail st) => (s, .error (.access st))
  | (s, .wait) => (s, .error .wait)

/-- Bytes read of a range that the operation names: its windows have been checked before the element work (R324). -/
def State.gRead (s : State) (g : GCtx) (a n : Nat) : GRes (List Byte) :=
  if n = 0 then (s, .ok []) else gBind (s.gRole g a n) (fun s1 _ => gAnswer (s1.readChecked g.env g.fn a n))

/-- Bytes read at an address derived from data. -/
def State.gFetch (s : State) (g : GCtx) (a n : Nat) : GRes (List Byte) :=
  if n = 0 then (s, .ok []) else gBind (s.gGate g false a n) (fun s1 _ => gAnswer (s1.readChecked g.env g.fn a n))

/-- Bytes written to a range that the operation names. -/
def State.gWrite (s : State) (g : GCtx) (a : Nat) (bs : List Byte) : GRes Unit :=
  if bs.length = 0 then (s, .ok ())
  else gBind (s.gRole g a bs.length) (fun s1 _ => gAnswer (s1.writeChecked g.env g.fn a bs))

/-- Bytes written at an address derived from data. -/
def State.gStore (s : State) (g : GCtx) (a : Nat) (bs : List Byte) : GRes Unit :=
  if bs.length = 0 then (s, .ok ())
  else gBind (s.gGate g true a bs.length) (fun s1 _ => gAnswer (s1.writeChecked g.env g.fn a bs))

/-- A number of `w` bytes, of a named range. -/
def State.gNumber (s : State) (g : GCtx) (a w : Nat) : GRes Nat :=
  gBind (s.gRead g a w) (fun s1 bs => (s1, .ok (ofBytes bs)))

/-- An array of `n` numbers of `w` bytes of a named range read whole. -/
def State.gArray (s : State) (g : GCtx) (a w n : Nat) : GRes (List Nat) :=
  gBind (s.gRead g a (w * n)) (fun s1 bs => (s1, .ok (groupsOf w n bs)))

/-- Elements read one after another; one that fails keeps its failure, a wait holds the whole reading. -/
def gItems (f : State → Nat → GRes GItem) : List Nat → State → GRes (List GItem)
  | [], s => (s, .ok [])
  | i :: t, s =>
    match f s i with
    | (s1, .error .wait) => (s1, .error .wait)
    | (s1, .error e) => gBind (gItems f t s1) (fun s2 l => (s2, .ok ({ err := some e } :: l)))
    | (s1, .ok it) => gBind (gItems f t s1) (fun s2 l => (s2, .ok (it :: l)))

/-- The executor of an address: the slice of its stack, or the central unit 12 (R265). -/
def State.executor (s : State) (a : Nat) : Nat :=
  match s.place a with
  | some p => if p.1 < 12 then p.1 else 12
  | none => 12

/-- The executors of an element operation: one part runs in each (R265). -/
def State.executors (s : State) (a n : Nat) : List Nat := ((blocksOf 64 a (max n 1)).map s.executor).eraseDups

/-- An element operation performed and counted at each of its executors (R307). -/
def State.elemDone (s : State) (a n : Nat) : State :=
  (s.executors a n).foldl (fun t e => t.inc F.GEY_SLICE_STAT_ELEM_CNT e) s

/-- A range given unspecified contents where the tile rules let the operation write (R273, R279). -/
def State.gSpoil (s : State) (g : GCtx) (a n : Nat) : State :=
  (windowPieces a n).foldl (fun t p =>
    match (t.gRole g p.1 p.2.2).2 with
    | .ok _ => t.spoil p.1 p.2.2
    | .error _ => t) s

/-- Output ranges given unspecified contents (R279). -/
def State.gSpoilAll (s : State) (g : GCtx) (outs : List (Nat × Nat)) : State := outs.foldl (fun t r => t.gSpoil g r.1 r.2) s

/-! Checks before any element work. -/

/-- What an operation names: ranges with the direction of access, ranges of which only the domains are checked (R266), addresses
without a known extent, alignment, output and input ranges for the overlap check, and the hash table or graph that it names. -/
structure GPlan where
  ranges : List (Nat × Nat × Bool)
  domains : List (Nat × Nat) := []
  points : List Nat := []
  aligned : Bool
  outs : List (Nat × Nat) := []
  ins : List (Nat × Nat) := []
  tables : List Nat := []

/-- The slice domains that a range needs (R266). -/
def State.sliceDomains (s : State) (a n : Nat) : List Nat :=
  (pagesOf a n).filterMap (fun p =>
    match s.place p with
    | some (u, _) => if u < 6 then some 8 else if u < 12 then some 9 else none
    | none => none)

/-- Output ranges against input ranges; SORT and SEGSCAN may take C equal to A (R278). -/
def planOverlaps (same : Option Nat) (outs ins : List (Nat × Nat)) : Bool :=
  outs.any (fun o => ins.any (fun i =>
    overlaps o.1 o.2 i.1 i.2 && !(same == some o.1 && same == some i.1)))

/-- The address that the output may share with the input A (R278). -/
def planSame (op : Nat) (x : GArgs) : Option Nat := if op = 5 ∨ op = 8 then some x.a else none

/-- The slice domains of what an operation names (R266): of every range in the near tier, or both where it names a hash table or
a graph there. -/
def State.planDomains (s : State) (p : GPlan) : List Nat :=
  (p.ranges.map (fun r => (r.1, r.2.1)) ++ p.domains).flatMap (fun r => s.sliceDomains r.1 r.2) ++
  (if p.tables.any (fun a => decide (s.region a = .near)) then [8, 9] else [])

/-- The checks before any element work, in the order of R280, then of the reasons of R276. -/
def State.gPre (s : State) (g : GCtx) (same : Option Nat) (p : GPlan) : GRes Unit :=
  let dev := p.ranges.filter (fun r => decide (s.region r.1 ≠ .host))
  let bad := (dev.map (fun r => s.checkRange g.fn r.2.2 false r.1 r.2.1)).find? (fun r => decide (r ≠ .ok ()))
  let doms := s.planDomains p
  match bad with
  | some (.fail st) => (s.refuse g.fn st, .error (.access st))
  | some .wait => (s, .error .wait)
  | _ =>
    if doms.any (fun d => decide (s.domain d = .off)) then (s, .error (.access St.DOMAIN_OFF))
    else if doms.any (fun d => decide (s.domain d = .waking)) then (s, .error .wait)
    else if p.points.any (fun a => decide (s.region a = .host)) ∨
        p.ranges.any (fun r => decide (0 < r.2.1 ∧ hostBase < r.1 + r.2.1)) then (s, .error (.invalid 1 0))
    else if !p.aligned then (s, .error (.invalid 2 0))
    else if planOverlaps same p.outs p.ins then (s, .error (.invalid 3 0))
    else (s, .ok ())

/-! The operation table. -/

/-- The function of a source. -/
def State.geyFn (s : State) : GeySrc → Nat
  | .clause n => ((s.slot? n).map (fun x => x.fn)).getD 0
  | .unit t _ => s.tileFn t

/-- The requester that a source belongs to (R305). -/
def geyRequester : GeySrc → Nat
  | .clause _ => 0
  | .unit t _ => 1 + t

/-- Whether a source has its entry in the table. -/
def State.geyHas (s : State) (src : GeySrc) : Bool := s.geyLive.any (fun o => decide (o.src = src))

/-- Whether an operation of a requester waits for an entry. -/
def State.geyWaiting (s : State) (q : Nat) : Bool :=
  if q = 0 then s.rng.slots.any (fun x => s.geyStands (.clause x.1) && !s.geyHas (.clause x.1))
  else (s.tile (q - 1)).cmds.any (fun c => s.geyStands (.unit (q - 1) c.tag) && !s.geyHas (.unit (q - 1) c.tag))

/-- The requester that is admitted next: round-robin among those with an operation that waits (R305). A search of the RDMA engine
takes its entry within one step. -/
def State.geyTurn (s : State) : Option Nat :=
  ((List.range 129).map (fun i => (s.gey.last + 1 + i) % 130)).find? s.geyWaiting |>.orElse
    (fun _ => if s.geyWaiting s.gey.last then some s.gey.last else none)

/-- GEYSER_OP_ADMIT (R305): an operation whose requester's turn it is takes an entry of the table, or waits and is counted once. -/
def execGeyserOpAdmit (src : GeySrc) (s : State) : Out :=
  when (s.geyStands src = true ∧ s.geyHas src = false ∧ s.geyTurn = some (geyRequester src)) (
    if s.geyLive.length < 256 then
      { s with gey := { ops := s.geyLive ++ [{ src := src, fn := s.geyFn src }]
                        waited := s.gey.waited.filter (fun x => decide (x ≠ src))
                        last := geyRequester src } }
    else if s.gey.waited.contains src then s
    else
      let s1 := s.inc F.GEY_GLB_STAT_OPWAIT_CNT 0
      { s1 with gey := { s1.gey with waited := s1.gey.waited ++ [src] } }) s

/-- The entry of an operation changed. -/
def State.geySet (s : State) (src : GeySrc) (f : GeyOp → GeyOp) : State :=
  { s with gey := { s.gey with ops := s.gey.ops.map (fun o => if o.src = src then f o else o) } }

/-- The end of an operation recorded in its entry, and counted (R307). -/
def State.geyEnd (s : State) (src : GeySrc) (e : GeyEnd) : State :=
  let fn := s.geyFn src
  let s1 := s.geySet src (fun o => { o with ended := some e, run := none })
  if e.status = St.GEYSER_TABLE_FULL then s1.inc F.GEY_FN_STAT_FULL_CNT fn
  else if e.status = St.GEYSER_INPUT_INVALID then s1.inc F.GEY_FN_STAT_INVALID_CNT fn
  else s1

/-- RESULT of an invalid input (R276). -/
def geyInvalid (reason idx : Nat) : Word := BitVec.ofNat 64 (reason * 2 ^ 56 + idx % 2 ^ 40)

/-- RESULT of an operation that ran (R281). -/
def geyResult (op : Nat) (x : GArgs) (a : GAcc) : Nat :=
  match op with
  | 5 => x.n
  | 6 => x.n + x.m
  | 7 => x.m
  | 8 => x.n
  | 11 => a.visited * 2 ^ 32 + a.count
  | _ => a.count

/-- The end of an operation that ran: the first outcome of R275 that applies (R281, R289). -/
def geyDone (op : Nat) (x : GArgs) (a : GAcc) : GeyEnd :=
  if a.stale then ⟨St.SUCCESS, 1, 0, BitVec.ofNat 64 (geyResult op x a)⟩
  else if a.full ≠ 0 then ⟨St.GEYSER_TABLE_FULL, 2, min a.full 0xFFF, BitVec.ofNat 64 a.full⟩
  else ⟨St.SUCCESS, if a.spill then 4 else 0, 0, BitVec.ofNat 64 (geyResult op x a)⟩

/-- The end of an operation that a failure stops (R276, R280). -/
def geyFailed (op : Nat) (x : GArgs) : GErr → GeyEnd
  | .access st => ⟨st, 0, 0, 0⟩
  | .invalid r i => ⟨St.GEYSER_INPUT_INVALID, 3, r, geyInvalid r i⟩
  | .conflict => ⟨St.ROLE_CONFLICT, 0, 0, 0⟩
  | .stale => geyDone op x { stale := true }
  | .wait => ⟨St.SUCCESS, 0, 0, 0⟩

/-- Whether an operation ended with an access failure, which faults the tile of a unit command (R280). -/
def GeyEnd.accessFailed (e : GeyEnd) : Bool :=
  decide (e.status ≠ St.SUCCESS ∧ e.status ≠ St.GEYSER_TABLE_FULL ∧ e.status ≠ St.GEYSER_INPUT_INVALID)

/-- An operation is over: its end stands in its entry until GEYSER_OP_COMPLETE, or its tile faults (R280). -/
def State.geyClose (s : State) (src : GeySrc) (e : GeyEnd) : State :=
  match src with
  | .clause _ => s.geyEnd src e
  | .unit t tag =>
    match (s.tile t).cmd? tag with
    | none => s
    | some c =>
      if e.accessFailed then s.cmdFault t c (faultOf e.status)
      else (s.setTile t ((s.tile t).setPhase tag (.sent 0))).geyEnd src e

/-! Element work. -/

/-- What the header or descriptor of an operation gives: its two numbers, the words of a graph descriptor, further named ranges. -/
structure GHead where
  dims : Nat × Nat := (0, 0)
  graph : List Nat := []
  ranges : List (Nat × Nat × Bool) := []

/-- How an operation runs. -/
structure GeyCode where
  plan : GArgs → GPlan
  /-- checks that need the table header or the graph descriptor -/
  header : GCtx → GArgs → State → GRes GHead := fun _ _ s => (s, .ok {})
  /-- the inputs read (R303): the elements -/
  start : GCtx → GArgs → GHead → State → GRes GeyRun
  /-- the device range that an element works on (R265) -/
  range : GeyRun → GItem → Nat → Nat × Nat
  /-- elements of one group take effect in input order (R292, R294, R296) -/
  group : GItem → Option Nat := fun _ => none
  /-- the lock that an element takes, by table and bucket, and its search (R287, R293) -/
  lock : GeyRun → GItem → Option (Nat × Nat) := fun _ _ => none
  seek : GCtx → GeyRun → GItem → State → GRes (Option Nat × Option Nat) := fun _ _ _ s => (s, .ok (none, none))
  /-- an element performed -/
  perform : GCtx → GeyRun → GFlight → GItem → State → GRes GAcc

/-- The entry of an operation that is not over. -/
def State.geyEntry (s : State) (src : GeySrc) : Option GeyOp :=
  s.geyLive.find? (fun o => decide (o.src = src ∧ o.ended = none))

/-- The run of an operation whose element work has begun. -/
def State.geyRunOf (s : State) (src : GeySrc) : Option GeyRun := (s.geyEntry src).bind (fun o => o.run)

def State.setRun (s : State) (src : GeySrc) (r : GeyRun) : State := s.geySet src (fun o => { o with run := some r })

/-- For whom a source accesses memory. -/
def State.geyCtx (s : State) (src : GeySrc) (env : Env) : GCtx :=
  { fn := s.geyFn src
    tile := match src with
      | .unit t _ => some t
      | .clause _ => none
    env := env }

/-- The element operations in flight at executor `e` (R305, R307). -/
def State.flyingAt (s : State) (e : Nat) : Nat :=
  (s.geyLive.flatMap (fun o => match o.run with
    | some r => r.flight.filter (fun f => (s.executors f.addr f.len).contains e)
    | none => [])).length

/-- The home-bucket locks held: table, bucket, and the address of the bucket. -/
def State.locksHeld (s : State) : List ((Nat × Nat) × Nat) :=
  s.geyLive.flatMap (fun o => match o.run with
    | some r => r.flight.filterMap (fun f => f.lock.map (fun l => (l, f.addr)))
    | none => [])

/-- The locks held at executor `e` (R305). -/
def State.locksAt (s : State) (e : Nat) : Nat := (s.locksHeld.filter (fun l => s.executor l.2 == e)).length

/-- An element is over without effect: its failure is kept. An access failure and an invalid input stop the dispatch of elements
after it; those before it are still dispatched, so that the lowest is found (R276, R279, R280). -/
def GeyRun.miss (r : GeyRun) (k : Nat) (e : GErr) : GeyRun :=
  let r1 : GeyRun := { r with todo := r.todo.filter (fun i => decide (i ≠ k)), flight := r.flight.filter (fun f => decide (f.k ≠ k)) }
  let upTo := fun (n : Nat) => r1.todo.filter (fun i => decide (i < n))
  match e with
  | .access st =>
    { r1 with todo := upTo k
              fail := match r1.fail with
                | some f => if k < f.1 then some (k, st) else some f
                | none => some (k, st) }
  | .invalid c i =>
    { r1 with todo := if c = 9 then [] else upTo k
              bad := match r1.bad with
                | some b => if c < b.1 ∨ (c = b.1 ∧ i < b.2) then some (c, i) else some b
                | none => some (c, i) }
  | .conflict => { r1 with todo := upTo k, conflict := true }
  | .stale => { r1 with acc := { r1.acc with stale := true } }
  | .wait => r

/-- An earlier element of the same group that is not over holds an element back (R292, R294, R296). -/
def GeyRun.heldBack (r : GeyRun) (k : GeyCode) (i : Nat) (it : GItem) : Bool :=
  match k.group it with
  | none => false
  | some u => (r.todo ++ r.flight.map (fun f => f.k)).any (fun j => decide (j < i) && k.group (r.items.getD j {}) == some u)

/-- An element dispatched (R293, R305): it takes a place at each of its executors; a key operation takes the lock of its home
bucket and a lock entry, and searches. -/
def State.geyDispatch (s : State) (k : GeyCode) (g : GCtx) (src : GeySrc) (r : GeyRun) (i : Nat) : State :=
  let it := r.items.getD i {}
  if r.heldBack k i it then s
  else
    match it.err with
    | some e => s.setRun src (r.miss i e)
    | none =>
      let rg := k.range r it i
      let fly := fun (t : State) (l : Option (Nat × Nat)) (f : Option Nat × Option Nat) =>
        t.setRun src { r with todo := r.todo.filter (fun j => decide (j ≠ i))
                              flight := r.flight ++ [⟨i, rg.1, rg.2, l, f.1, f.2⟩] }
      if (s.executors rg.1 rg.2).any (fun e => decide (2048 ≤ s.flyingAt e)) then s
      else
        match k.lock r it with
        | none => fly s none (none, none)
        | some l =>
          if s.locksHeld.any (fun h => h.1 == l) then s
          else if 512 ≤ s.locksAt (s.executor rg.1) then
            if r.lockWaits.contains i then s
            else (s.inc F.GEY_SLICE_STAT_LOCKWAIT_CNT (s.executor rg.1)).setRun src { r with lockWaits := i :: r.lockWaits }
          else
            match k.seek g r it s with
            | (s1, .ok f) => fly s1 (some l) f
            | (_, .error .wait) => s
            | (s1, .error e) => s1.setRun src (r.miss i e)

/-- An element in flight performed: each whole (R279). -/
def State.geyPerform (s : State) (k : GeyCode) (g : GCtx) (src : GeySrc) (r : GeyRun) (f : GFlight) : State :=
  match k.perform g r f (r.items.getD f.k {}) s with
  | (s1, .ok acc) =>
    (s1.elemDone f.addr f.len).setRun src { r with flight := r.flight.filter (fun h => decide (h.k ≠ f.k)), acc := acc }
  | (_, .error .wait) => s
  | (s1, .error e) => s1.setRun src (r.miss f.k e)

/-- An element taken one stage on: dispatched, then performed. -/
def State.geyAdvance (k : GeyCode) (g : GCtx) (src : GeySrc) (s : State) (i : Nat) : State :=
  match s.geyRunOf src with
  | none => s
  | some r =>
    match r.flight.find? (fun f => decide (f.k = i)) with
    | some f => s.geyPerform k g src r f
    | none => if r.todo.contains i then s.geyDispatch k g src r i else s

/-- The elements that a command takes on: those picked, a stage for each time that they are picked; with none picked, every element
that is not over, in input order, each to its end. -/
def State.geyDrive (s : State) (k : GeyCode) (g : GCtx) (src : GeySrc) (picks : List Nat) : State :=
  match picks, s.geyRunOf src with
  | [], some r =>
    (r.flight.map (fun f => f.k) ++ r.todo).foldl (fun t i => State.geyAdvance k g src (State.geyAdvance k g src t i) i) s
  | _, _ => picks.foldl (State.geyAdvance k g src) s

/-- How an operation without elements left has ended (R280). -/
def GeyRun.result (r : GeyRun) (op : Nat) : GeyEnd :=
  match r.fail, r.bad with
  | some f, _ => geyFailed op r.args (.access f.2)
  | none, some b => geyFailed op r.args (.invalid b.1 b.2)
  | none, none => if r.conflict then geyFailed op r.args .conflict else geyDone op r.args r.acc

/-- Whether a failure has stopped an operation. -/
def GeyRun.failed (r : GeyRun) : Bool := r.fail.isSome || r.bad.isSome || r.conflict

/-- An operation whose elements are all over ends; a failure leaves its output ranges unspecified (R279). -/
def State.geySettle (s : State) (k : GeyCode) (op : Nat) (g : GCtx) (src : GeySrc) : State :=
  match s.geyRunOf src with
  | some r =>
    if r.todo = [] ∧ r.flight = [] then
      (if r.failed then s.gSpoilAll g (k.plan r.args).outs else s).geyClose src (r.result op)
    else s
  | none => s

/-- The device ranges among ranges with a direction. -/
def State.devRanges (s : State) (l : List (Nat × Nat × Bool)) : List (Nat × Nat) :=
  s.deviceRanges (l.map (fun r => (r.1, r.2.1)))

/-- The checks, then the inputs read. The flag of a failure tells whether the work had begun. -/
def State.geyStart (s : State) (k : GeyCode) (op : Nat) (g : GCtx) (x : GArgs) : State × Except (GErr × Bool) GeyRun :=
  match gBind (s.gPre g (planSame op x) (k.plan x)) (fun s1 _ => k.header g x s1) with
  | (s1, .error e) => (s1, .error (e, false))
  | (s1, .ok h) =>
    let rs := s1.devRanges ((k.plan x).ranges ++ h.ranges)
    if g.tile.isNone ∧ rs.any (fun r => s1.roleConflict r.1 r.2) then (s1, .error (.conflict, false))
    else
      match k.start g x h s1 with
      | (s2, .error e) => (s2, .error (e, true))
      | (s2, .ok r) =>
        (s2, .ok { r with args := x, dims := h.dims, ranges := rs, epoch := s.fld F.MEM_FN_FENCE_EPOCH g.fn })

/-- The element work of an operation begins (R303), or the operation ends with its failure. -/
def State.geyBegin (s : State) (k : GeyCode) (op : Nat) (g : GCtx) (src : GeySrc) (x : GArgs) (picks : List Nat) : State :=
  match s.geyStart k op g x with
  | (s1, .ok r) => ((s1.setRun src r).geyDrive k g src picks).geySettle k op g src
  | (_, .error (.wait, _)) => s
  | (s1, .error (e, b)) =>
    (if b ∧ e ≠ .stale then s1.gSpoilAll g (k.plan x).outs else s1).geyClose src (geyFailed op x e)

/-- The operand block of a Geyser unit command (R270). -/
def geyBlock (c : UnitCmd) : Nat := field (c.c 1) 14 0 * 64

/-- A clause of class 0x3 starts (R73, R276, R280). -/
def State.geyClause (s : State) (n op : Nat) (picks : List Nat) (env : Env) (k : GeyCode) : State :=
  match s.clauseAt n 3 op with
  | none => s
  | some x =>
    if geyReserved op x.words then s.geyEnd (.clause n) ⟨St.BAD_CLAUSE, 0, 0, 0⟩
    else s.geyBegin k op (s.geyCtx (.clause n) env) (.clause n) (geyArgs x.words) picks

/-- A Geyser unit command starts (R270, R271, R304): after its commit token; its operand block is read once. -/
def State.geyUnit (s : State) (t tag op : Nat) (picks : List Nat) (env : Env) (k : GeyCode) : State :=
  match (s.tile t).cmd? tag with
  | none => s
  | some c =>
    if c.unit ≠ 3 ∨ c.op ≠ op ∨ c.phase ≠ .queued ∨ c.depth ≠ 0 then s
    else if field (c.c 0) 8 6 ≠ 0 ∨ bit (c.c 1) 15 ∨ c.c 2 ≠ 0 ∨ c.c 3 ≠ 0 then s.cmdFault t c TF.UNIT_CMD_INVALID
    else
      match s.sramRead env t (geyBlock c) 64 with
      | (s1, none) => s1.cmdFault t c TF.SRAM_UNCORRECTABLE
      | (s1, some bs) =>
        let w := wordsOf 8 bs
        if geyReserved op w then s1.cmdFault t c TF.GEYSER_FAULT
        else s1.geyBegin k op (s1.geyCtx (.unit t tag) env) (.unit t tag) (geyArgs w) picks

/-- Whether a source is an operation with OP or OPCODE `op`. -/
def State.geyIs (s : State) (src : GeySrc) (op : Nat) : Bool :=
  match src with
  | .clause n => (s.clauseAt n 3 op).isSome
  | .unit t tag =>
    match (s.tile t).cmd? tag with
    | some c => decide (c.unit = 3 ∧ c.op = op)
    | none => false

/-- An admitted operation of either form starts, or goes on with its elements. -/
def State.geyRun (s : State) (src : GeySrc) (op : Nat) (picks : List Nat) (env : Env) (k : GeyCode) : State :=
  match s.geyEntry src with
  | none => s
  | some o =>
    match o.run with
    | some _ =>
      let g := s.geyCtx src env
      if s.geyIs src op then (s.geyDrive k g src picks).geySettle k op g src else s
    | none =>
      match src with
      | .clause n => s.geyClause n op picks env k
      | .unit t tag => s.geyUnit t tag op picks env k

/-- An operation cut short (R279, R357): its elements in flight have been performed or not, each whole, which of them is free; its
output ranges hold unspecified contents. -/
def State.geyCut (s : State) (k : GeyCode) (src : GeySrc) (x : GArgs) : State :=
  let g := s.geyCtx src {}
  let s1 := match s.geyRunOf src with
    | some r => (r.flight.foldl (fun (t : State) (f : GFlight) =>
        if Config.freeBit s.fresh f.k then State.geyAdvance k g src t f.k else t) s).tick
    | none => s
  s1.gSpoilAll g (k.plan x).outs

/-- GEYSER_OP_COMPLETE (R271, R274, R275): the operation leaves the table. A unit command has RESULT written into word 0 of
its operand block before its completion word. A unit command with an undefined OP faults its tile (R268). -/
def execGeyserOpComplete (src : GeySrc) (s : State) : Out :=
  .next (
    match s.geyLive.find? (fun o => decide (o.src = src)) with
    | none => s
    | some o =>
      let s1 : State := { s with gey := { s.gey with ops := s.geyLive.filter (fun p => decide (p.src ≠ src)) } }
      match o.ended, src with
      | some e, .clause n => s1.slotDone n e.status e.result
      | some e, .unit t tag =>
        match (s1.tile t).cmd? tag with
        | none => s1
        | some c =>
          match s1.sramWrite t (geyBlock c) (toBytes 8 e.result.toNat) with
          | some s2 => s2.cmdDone t tag e.outcome e.value
          | none => s1.cmdFault t c TF.SRAM_UNCORRECTABLE
      | none, .unit t tag =>
        match (s1.tile t).cmd? tag with
        | some c => if !c.opDefined ∧ c.depth = 0 then s1.cmdFault t c TF.UNIT_CMD_INVALID else s
        | none => s
      | none, .clause _ => s)

end Sys2Proof.Machine
end

