-- ==== Sys2Proof/Machine/GeyserOps.lean ====
section
/-! DEFINITION. The Geyser operations: gather and scatter (R291, R292), hash tables (R285 to R289, R293 to R296), sort, merge and
sets (R297, R298), segmented reduce and scan (R299), frontier expansion (R290, R300 to R302). -/

namespace Sys2Proof.Machine

/-- Addresses that are multiples of `k`. -/
def allAligned (l : List (Nat × Nat)) : Bool := l.all (fun p => p.1 % p.2 == 0)

/-- The run of an operation with the elements read: all of them are to be performed. -/
def runOf (x : GArgs) (items : List GItem) : GeyRun := { args := x, items := items, todo := List.range items.length }

/-- An operation whose elements write one after another from C, `w` bytes each. -/
def storeItems (x : GArgs) (l : List (List Byte)) : GeyRun := runOf x (l.map (fun b => { bytes := b }))

/-- An element's bytes written to its place in C. -/
def storeElem (w : GArgs → Nat) (g : GCtx) (r : GeyRun) (f : GFlight) (it : GItem) (s : State) : GRes GAcc :=
  gBind (s.gWrite g (r.args.c + f.k * w r.args) it.bytes) (fun s1 _ => (s1, .ok { r.acc with count := r.acc.count + 1 }))

/-! Gather and scatter. -/

def idxBytes (x : GArgs) : Nat := if bit x.mode 0 then 8 else 4
def rowStride (x : GArgs) : Nat := x.s % 2 ^ 32
def tableExtent (x : GArgs) : Nat := if x.x = 0 then 0 else (x.x - 1) * rowStride x + x.m

/-- The alignment of the arrays of GATHER and SCATTER (R277); `w` is the width of a combined type, 4 for a copy. -/
def gatherAligned (x : GArgs) (w : Nat) : Bool := allAligned [(x.a, idxBytes x), (x.b, w), (x.c, w)]

def planGather (x : GArgs) : GPlan :=
  { ranges := [(x.a, x.n * idxBytes x, false), (x.c, x.n * x.m, true)], domains := [(x.b, tableExtent x)]
    points := [x.a, x.b, x.c], aligned := gatherAligned x 4
    outs := [(x.c, x.n * x.m)], ins := [(x.a, x.n * idxBytes x), (x.b, tableExtent x)] }

/-- The table element of index `j` (R282). -/
def tableElem (x : GArgs) (j : Nat) : Nat := x.b + j * rowStride x

/-- Element `i` of GATHER read (R291, R303): the table element of its index, zero for an index out of range under OOB_ZERO. -/
def gatherItem (g : GCtx) (x : GArgs) (s : State) (i : Nat) : GRes GItem :=
  gBind (s.gNumber g (x.a + i * idxBytes x) (idxBytes x)) (fun s1 j =>
    if x.x ≤ j then
      if bit x.mode 1 then (s1, .ok { num := j, bytes := List.replicate x.m 0 }) else (s1, .error (.invalid 5 i))
    else gBind (s1.gFetch g (tableElem x j) x.m) (fun s2 bs => (s2, .ok { num := j, bytes := bs })))

def codeGather : GeyCode :=
  { plan := planGather
    start := fun g x _ s => gBind (gItems (gatherItem g x) (List.range x.n) s) (fun s1 l => (s1, .ok (runOf x l)))
    range := fun r it k =>
      (if r.args.x ≤ it.num then r.args.c + k * r.args.m else tableElem r.args it.num, r.args.m)
    perform := storeElem (fun x => x.m) }

/-- GATHER (R291). -/
def execGather (src : GeySrc) (work : GeyWork) (s : State) : Out := .next (s.geyRun src 0 work.picks work.env codeGather)

/-- Two entries combined (R269, R291). -/
def combineEntry (c a b : Nat) : Nat :=
  let q := fun (f : Quad → Quad → Quad) => (f (BitVec.ofNat 32 a) (BitVec.ofNat 32 b)).toNat
  match c with
  | 1 => q fadd
  | 2 => (a + b) % 2 ^ 32
  | 3 => (a + b) % 2 ^ 64
  | 4 => q fmax
  | 5 => q fmin
  | 6 => if signed 32 a < signed 32 b then b else a
  | 7 => if signed 32 b < signed 32 a then b else a
  | _ => b

/-- An element combined entry by entry (R291). -/
def combineBytes (c m : Nat) (old new : List Byte) : List Byte :=
  let w := combineWidth c
  (List.zipWith (combineEntry c) (groupsOf w (m / w) old) (groupsOf w (m / w) new)).flatMap (toBytes w)

def planScatter (x : GArgs) : GPlan :=
  { ranges := [(x.a, x.n * idxBytes x, false), (x.c, x.n * x.m, false)], domains := [(x.b, tableExtent x)]
    points := [x.a, x.b, x.c], aligned := gatherAligned x (combineWidth (combineOf x)) }

/-- Element `i` of SCATTER read (R291, R303): its index and its source element; `aux` is 1 where OOB_SKIP skips it. -/
def scatterItem (g : GCtx) (x : GArgs) (s : State) (i : Nat) : GRes GItem :=
  gBind (s.gNumber g (x.a + i * idxBytes x) (idxBytes x)) (fun s1 j =>
    if x.x ≤ j then
      if bit x.mode 1 then (s1, .ok { num := j, aux := 1 }) else (s1, .error (.invalid 5 i))
    else gBind (s1.gRead g (x.c + i * x.m) x.m) (fun s2 bs => (s2, .ok { num := j, bytes := bs })))

/-- An element of SCATTER applied to its target (R291, R292). -/
def scatterElem (g : GCtx) (r : GeyRun) (_f : GFlight) (it : GItem) (s : State) : GRes GAcc :=
  let x := r.args
  let a := tableElem x it.num
  let c := combineOf x
  gBind (if c = 0 then (s, .ok it.bytes) else
      gBind (s.gFetch g a x.m) (fun s1 old => (s1, .ok (combineBytes c x.m old it.bytes)))) (fun s1 bs =>
    gBind (s1.gStore g a bs) (fun s2 _ => (s2, .ok { r.acc with count := r.acc.count + 1 })))

def codeScatter : GeyCode :=
  { plan := planScatter
    start := fun g x _ s => gBind (gItems (scatterItem g x) (List.range x.n) s) (fun s1 l =>
      (s1, .ok { runOf x l with todo := (List.range l.length).filter (fun i => (l.getD i {}).aux == 0) }))
    range := fun r it _ => (tableElem r.args it.num, r.args.m)
    group := fun it => some it.num
    perform := scatterElem }

/-- SCATTER (R291, R292). -/
def execScatter (src : GeySrc) (work : GeyWork) (s : State) : Out := .next (s.geyRun src 1 work.picks work.env codeScatter)

/-! Hash tables. -/

/-- L and PROBE_MAX of a table header; none for a reserved encoding (R285). -/
def hashHeader (w : List Word) : Option (Nat × Nat) :=
  let h := wordAt w 0
  let l := field h 5 0
  let p := field h 15 8
  if field h 63 16 = 0 ∧ field h 7 6 = 0 ∧ 4 ≤ l ∧ l ≤ 34 ∧ 1 ≤ p ∧ p ≤ 64 ∧ (w.drop 3).all (· == 0) then some (l, p)
  else none

def reservedKey (k : Nat) : Bool := decide (k = 2 ^ 64 - 1 ∨ k = 2 ^ 64 - 2)

/-- The home bucket of a key (R287). -/
def homeBucket (l k : Nat) : Nat := k * 0x9E3779B97F4A7C15 % 2 ^ 64 / 2 ^ (64 - l)

/-- Bucket `j` of a table at `b`. -/
def bucketAt (b j : Nat) : Nat := b + 64 + 64 * j

/-- A bucket inspected: the slot that holds `k`, and the first free slot, EMPTY or TOMB (R286, R287). -/
def scanBucket (k : Nat) (ks : List Nat) : Option Nat × Option Nat :=
  (ks.findIdx? (· == k), ks.findIdx? reservedKey)

/-- The search of R287: the address of the slot that holds `k`, and of the first free slot seen. -/
def State.hashSearch (s : State) (g : GCtx) (b l k : Nat) : Nat → Nat → Option Nat → GRes (Option Nat × Option Nat)
  | 0, _, free => (s, .ok (none, free))
  | fuel + 1, j, free =>
    gBind (s.gFetch g (bucketAt b j) 64) (fun s1 bs =>
      let ks := (List.range 4).map (fun i => (groupsOf 8 8 bs).getD (2 * i) 0)
      let r := scanBucket k ks
      let free1 := free.orElse (fun _ => r.2.map (fun i => bucketAt b j + 16 * i))
      match r.1 with
      | some i => (s1, .ok (some (bucketAt b j + 16 * i), free1))
      | none =>
        if ks.contains (2 ^ 64 - 1) then (s1, .ok (none, free1))
        else s1.hashSearch g b l k fuel ((j + 1) % 2 ^ l) free1)

/-- COUNT and TOMBS of a table changed by numbers that they hold (R285, R288). -/
def countsBytes (l : List Nat) (dCount dTombs : Int) : List Byte :=
  toBytes 8 (unsigned 64 ((l.getD 0 0 : Int) + dCount)) ++ toBytes 8 (unsigned 64 ((l.getD 1 0 : Int) + dTombs))

/-- A slot stored at `a` together with the header's counts (R288): the header is read before anything is written. -/
def State.storeSlot (s : State) (g : GCtx) (x : GArgs) (a : Nat) (bs : List Byte) (dCount dTombs : Int) : GRes Unit :=
  gBind (s.gArray g (x.b + 8) 8 2) (fun s1 l =>
    gBind (s1.gStore g a bs) (fun s2 _ => s2.gWrite g (x.b + 8) (countsBytes l dCount dTombs)))

/-- The checks that need the table header (R276 reasons 3 and 4): a well-formed header, and outputs that do not meet the
buckets. -/
def hashCheck (outs : GArgs → List (Nat × Nat)) (g : GCtx) (x : GArgs) (s : State) : GRes GHead :=
  gBind (s.gRead g x.b 64) (fun s1 bs =>
    match hashHeader (wordsOf 8 bs) with
    | none => (s1, .error (.invalid 4 0))
    | some (l, p) =>
      if planOverlaps none (outs x) [(x.b, 64 + 64 * 2 ^ l)] then (s1, .error (.invalid 3 0)) else (s1, .ok { dims := (l, p) }))

/-- The home bucket of a key of an operation (R287). -/
def GeyRun.home (r : GeyRun) (k : Nat) : Nat := homeBucket r.dims.1 k

/-- The search of a key operation from its home bucket (R287). -/
def keySeek (g : GCtx) (r : GeyRun) (it : GItem) (s : State) : GRes (Option Nat × Option Nat) :=
  s.hashSearch g r.args.b r.dims.1 it.num r.dims.2 (r.home it.num) none

/-- A key operation: its home bucket is locked from the start of its search until its last write; operations on the same key take
effect in input order (R293, R294). A reserved key searches nothing (R286). -/
def keyCode (plan : GArgs → GPlan) (header : GCtx → GArgs → State → GRes GHead) (item : GCtx → GArgs → State → Nat → GRes GItem)
    (perform : GCtx → GeyRun → GFlight → GItem → State → GRes GAcc) : GeyCode :=
  { plan := plan, header := header
    start := fun g x _ s => gBind (gItems (item g x) (List.range x.n) s) (fun s1 l => (s1, .ok (runOf x l)))
    range := fun r it k =>
      if reservedKey it.num then (r.args.a + 8 * k, 8) else (bucketAt r.args.b (r.home it.num), 64)
    group := fun it => some it.num
    lock := fun r it => if reservedKey it.num then none else some (r.args.b, r.home it.num)
    seek := keySeek
    perform := perform }

/-- Key `i` read (R303). -/
def keyItem (g : GCtx) (x : GArgs) (s : State) (i : Nat) : GRes GItem :=
  gBind (s.gNumber g (x.a + 8 * i) 8) (fun s1 k => (s1, .ok { num := k }))

/-- The result byte of key `i`, if the operation writes them (R288). -/
def State.resultByte (s : State) (g : GCtx) (x : GArgs) (i v : Nat) (acc : GAcc) : GRes GAcc :=
  if x.c = 0 then (s, .ok acc) else gBind (s.gWrite g (x.c + i) [BitVec.ofNat 8 v]) (fun s1 _ => (s1, .ok acc))

/-- The outputs of HINS and HDEL: result bytes. -/
def byteOuts (x : GArgs) : List (Nat × Nat) := if x.c = 0 then [] else [(x.c, x.n)]

def planHins (x : GArgs) : GPlan :=
  { ranges := [(x.a, 8 * x.n, false), (x.b, 64, true)] ++ (if x.c = 0 then [] else [(x.c, x.n, true)]) ++
      (if x.x = 0 then [] else [(x.x, 8 * x.n, false)])
    points := [x.a, x.b] ++ (if x.c = 0 then [] else [x.c]) ++ (if x.x = 0 then [] else [x.x])
    aligned := allAligned [(x.a, 8), (x.b, 64), (x.c, 8), (x.x, 8)]
    outs := byteOuts x, ins := [(x.a, 8 * x.n), (x.b, 64)] ++ (if x.x = 0 then [] else [(x.x, 8 * x.n)])
    tables := [x.b] }

/-- Key `i` of HINS and the value that it presents (R288). -/
def hinsItem (g : GCtx) (x : GArgs) (s : State) (i : Nat) : GRes GItem :=
  gBind (s.gNumber g (x.a + 8 * i) 8) (fun s1 k =>
    if x.x = 0 then (s1, .ok { num := k, aux := x.s })
    else gBind (s1.gNumber g (x.x + 8 * i) 8) (fun s2 v => (s2, .ok { num := k, aux := v })))

/-- The search after another key claimed the free slot at `a` first: it goes on from that slot's bucket (R293). -/
def State.seekOn (s : State) (g : GCtx) (r : GeyRun) (k a : Nat) : GRes (Option Nat × Option Nat) :=
  let n := 2 ^ r.dims.1
  let j := (a - (r.args.b + 64)) / 64
  let gone := (j + n - r.home k) % n
  s.hashSearch g r.args.b r.dims.1 k (r.dims.2 - gone) j none

/-- The slot that an insertion uses: what its search found, unless another key has claimed the free slot since (R293). -/
def State.hinsSlot (s : State) (g : GCtx) (r : GeyRun) (f : GFlight) (k : Nat) : GRes (Option Nat × Option Nat) :=
  match f.found, f.free with
  | none, some a =>
    gBind (s.gFetch g a 8) (fun s1 bs => if reservedKey (ofBytes bs) then (s1, .ok (none, some a)) else s1.seekOn g r k a)
  | _, _ => (s, .ok (f.found, f.free))

/-- One key of HINS (R288, R289). -/
def hinsElem (g : GCtx) (r : GeyRun) (f : GFlight) (it : GItem) (s : State) : GRes GAcc :=
  let x := r.args
  if reservedKey it.num then s.resultByte g x f.k 3 r.acc
  else
    gBind (s.hinsSlot g r f it.num) (fun t q =>
      match q with
      | (some a, _) =>
        gBind (match x.mode with
          | 1 => t.gStore g (a + 8) (toBytes 8 it.aux)
          | 2 => gBind (t.gFetch g (a + 8) 8) (fun u bs => u.gStore g (a + 8) (toBytes 8 (ofBytes bs + it.aux)))
          | _ => (t, .ok ())) (fun u _ => u.resultByte g x f.k 1 r.acc)
      | (none, none) => t.resultByte g x f.k 2 { r.acc with full := r.acc.full + 1 }
      | (none, some a) =>
        gBind (t.gFetch g a 8) (fun u old =>
          gBind (u.storeSlot g x a (toBytes 8 it.num ++ toBytes 8 it.aux) 1 (if ofBytes old = 2 ^ 64 - 2 then -1 else 0))
            (fun u1 _ => u1.resultByte g x f.k 0 { r.acc with count := r.acc.count + 1 })))

def codeHins : GeyCode := keyCode planHins (hashCheck byteOuts) hinsItem hinsElem

/-- HINS (R288, R289, R293, R294). -/
def execHins (src : GeySrc) (work : GeyWork) (s : State) : Out := .next (s.geyRun src 2 work.picks work.env codeHins)

def planHprobe (x : GArgs) : GPlan :=
  { ranges := [(x.a, 8 * x.n, false), (x.b, 64, false), (x.c, 8 * x.n, true)], points := [x.a, x.b, x.c]
    aligned := allAligned [(x.a, 8), (x.b, 64), (x.c, 8)]
    outs := [(x.c, 8 * x.n)], ins := [(x.a, 8 * x.n), (x.b, 64)], tables := [x.b] }

/-- One key of HPROBE (R286, R288). -/
def hprobeElem (g : GCtx) (r : GeyRun) (f : GFlight) (_it : GItem) (s : State) : GRes GAcc :=
  let x := r.args
  match f.found with
  | none => gBind (s.gWrite g (x.c + 8 * f.k) (toBytes 8 x.s)) (fun u _ => (u, .ok r.acc))
  | some a =>
    gBind (s.gFetch g (a + 8) 8) (fun u bs =>
      gBind (u.gWrite g (x.c + 8 * f.k) bs) (fun u1 _ => (u1, .ok { r.acc with count := r.acc.count + 1 })))

def codeHprobe : GeyCode := keyCode planHprobe (hashCheck (fun x => (planHprobe x).outs)) keyItem hprobeElem

/-- HPROBE (R288). -/
def execHprobe (src : GeySrc) (work : GeyWork) (s : State) : Out := .next (s.geyRun src 3 work.picks work.env codeHprobe)

def planHdel (x : GArgs) : GPlan :=
  { ranges := [(x.a, 8 * x.n, false), (x.b, 64, true)] ++ (if x.c = 0 then [] else [(x.c, x.n, true)])
    points := [x.a, x.b] ++ (if x.c = 0 then [] else [x.c])
    aligned := allAligned [(x.a, 8), (x.b, 64), (x.c, 8)]
    outs := byteOuts x, ins := [(x.a, 8 * x.n), (x.b, 64)], tables := [x.b] }

/-- One key of HDEL (R288): its slot becomes a TOMB. -/
def hdelElem (g : GCtx) (r : GeyRun) (f : GFlight) (it : GItem) (s : State) : GRes GAcc :=
  let x := r.args
  if reservedKey it.num then s.resultByte g x f.k 3 r.acc
  else
    match f.found with
    | none => s.resultByte g x f.k 1 r.acc
    | some a =>
      gBind (s.storeSlot g x a (toBytes 8 (2 ^ 64 - 2)) (-1) 1) (fun u _ =>
        u.resultByte g x f.k 0 { r.acc with count := r.acc.count + 1 })

def codeHdel : GeyCode := keyCode planHdel (hashCheck byteOuts) keyItem hdelElem

/-- HDEL (R288). -/
def execHdel (src : GeySrc) (work : GeyWork) (s : State) : Out := .next (s.geyRun src 4 work.picks work.env codeHdel)

def planHsetop (x : GArgs) : GPlan :=
  { ranges := [(x.a, 8 * x.n, false), (x.b, 64, false), (x.c, 8 * x.n, true)], points := [x.a, x.b, x.c]
    aligned := allAligned [(x.a, 8), (x.b, 64), (x.c, 8)]
    outs := [(x.c, 8 * x.n)], ins := [(x.a, 8 * x.n), (x.b, 64)], tables := [x.b] }

/-- One key of HSETOP (R296): written to C if it qualifies. -/
def hsetopElem (g : GCtx) (r : GeyRun) (f : GFlight) (it : GItem) (s : State) : GRes GAcc :=
  let x := r.args
  if f.found.isSome = bit x.mode 0 then (s, .ok r.acc)
  else gBind (s.gWrite g (x.c + 8 * r.acc.count) (toBytes 8 it.num)) (fun u _ =>
    (u, .ok { r.acc with count := r.acc.count + 1 }))

/-- The keys of HSETOP are written in the order of A (R296): its elements form one group. -/
def codeHsetop : GeyCode :=
  { keyCode planHsetop (hashCheck (fun x => (planHsetop x).outs)) keyItem hsetopElem with group := fun _ => some 0 }

/-- HSETOP (R296). -/
def execHsetop (src : GeySrc) (work : GeyWork) (s : State) : Out := .next (s.geyRun src 10 work.picks work.env codeHsetop)

/-! Sort, merge and sorted sets. -/

/-- Key and record widths in bytes (R269, R283). -/
def keyBytes (x : GArgs) : Nat := if bit x.mode 0 then 8 else 4
def recBytes (x : GArgs) : Nat := keyBytes x + (match field x.mode 4 3 with | 1 => 4 | 2 => 8 | _ => 0)

/-- The place of a key in the order of its KTYPE (R283). -/
def keyRank (x : GArgs) (k : Nat) : Nat :=
  let w := 8 * keyBytes x
  match field x.mode 2 1 with
  | 1 => (k + 2 ^ (w - 1)) % 2 ^ w
  | 2 => if bit k (w - 1) then 2 ^ w - 1 - k else k + 2 ^ (w - 1)
  | _ => k

/-- Records with the rank of their key. -/
def rankedRecs (x : GArgs) (bs : List Byte) (n : Nat) : List (Nat × List Byte) :=
  (List.range n).map (fun i =>
    let r := (bs.drop (i * recBytes x)).take (recBytes x)
    (keyRank x (ofBytes (r.take (keyBytes x))), r))

/-- A record put before the first record of a greater key. -/
def insertRec (r : Nat × List Byte) : List (Nat × List Byte) → List (Nat × List Byte)
  | [] => [r]
  | q :: t => if r.1 < q.1 then r :: q :: t else q :: insertRec r t

/-- The stable ascending order (R297). -/
def sortRecs (l : List (Nat × List Byte)) : List (Nat × List Byte) := l.foldl (fun a r => insertRec r a) []

/-- The first position whose key breaks the ascending order, or the strictly ascending one (R276). -/
def firstUnsorted (strict : Bool) (ks : List Nat) : Option Nat :=
  (List.range ks.length).find? (fun i =>
    decide (0 < i) && (decide (ks.getD i 0 < ks.getD (i - 1) 0) ||
      (strict && decide (ks.getD i 0 = ks.getD (i - 1) 0))))

/-- How an operation runs whose outputs of `w` bytes each go to C, all of them computed when the inputs are read. -/
def storeCode (plan : GArgs → GPlan) (w : GArgs → Nat) (out : GCtx → GArgs → State → GRes (List (List Byte))) : GeyCode :=
  { plan := plan
    start := fun g x _ s => gBind (out g x s) (fun s1 l => (s1, .ok (storeItems x l)))
    range := fun r _ k => (r.args.c + k * w r.args, w r.args)
    perform := storeElem w }

def planSort (x : GArgs) : GPlan :=
  let n := x.n * recBytes x
  { ranges := [(x.a, n, false), (x.c, n, true), (x.x, n, true)], points := [x.a, x.c, x.x]
    aligned := allAligned [(x.a, keyBytes x), (x.c, keyBytes x), (x.x, keyBytes x)]
    outs := [(x.c, n)], ins := [(x.a, n)] }

/-- The scratch area used (R297): its contents are unspecified after that. Whether some access to it fails the role check (R273). -/
def State.useScratch (s : State) (g : GCtx) (a n : Nat) : State × Bool :=
  match g.tile with
  | some t =>
    let l := s.refused t a n
    ((l.foldl (fun u p => u.stale t p.1) s).gSpoil g a n, !l.isEmpty)
  | none => (s.gSpoil g a n, false)

/-- SORT (R297): the records in their order; the scratch area is left with unspecified contents. -/
def codeSort : GeyCode :=
  { storeCode planSort recBytes (fun _ _ s => (s, .ok [])) with
    start := fun g x _ s => gBind (s.gRead g x.a (x.n * recBytes x)) (fun s1 bs =>
      let q := s1.useScratch g x.x (x.n * recBytes x)
      (q.1, .ok { storeItems x ((sortRecs (rankedRecs x bs x.n)).map (fun r => r.2)) with acc := { stale := q.2 } })) }

/-- SORT (R283, R297). -/
def execSort (src : GeySrc) (work : GeyWork) (s : State) : Out := .next (s.geyRun src 5 work.picks work.env codeSort)

def planMerge (x : GArgs) : GPlan :=
  let r := recBytes x
  { ranges := [(x.a, x.n * r, false), (x.b, x.m * r, false), (x.c, (x.n + x.m) * r, true)], points := [x.a, x.b, x.c]
    aligned := allAligned [(x.a, keyBytes x), (x.b, keyBytes x), (x.c, keyBytes x)]
    outs := [(x.c, (x.n + x.m) * r)], ins := [(x.a, x.n * r), (x.b, x.m * r)] }

/-- The lowest position that breaks the order of two runs; run b counts on from the length of run a (R276). -/
def runsUnsorted (strict : Bool) (a b : List Nat) : Option Nat :=
  (firstUnsorted strict a).orElse (fun _ => (firstUnsorted strict b).map (fun i => i + a.length))

/-- MERGE's records (R297): those of run a come before equal ones of run b. -/
def mergeOut (g : GCtx) (x : GArgs) (s : State) : GRes (List (List Byte)) :=
  gBind (s.gRead g x.a (x.n * recBytes x)) (fun s1 ba =>
    gBind (s1.gRead g x.b (x.m * recBytes x)) (fun s2 bb =>
      let la := rankedRecs x ba x.n
      let lb := rankedRecs x bb x.m
      match runsUnsorted false (la.map (fun r => r.1)) (lb.map (fun r => r.1)) with
      | some i => (s2, .error (.invalid 6 i))
      | none => (s2, .ok ((sortRecs (la ++ lb)).map (fun r => r.2)))))

def codeMerge : GeyCode := storeCode planMerge recBytes mergeOut

/-- MERGE (R297). -/
def execMerge (src : GeySrc) (work : GeyWork) (s : State) : Out := .next (s.geyRun src 6 work.picks work.env codeMerge)

/-- Room that SETOP's output needs, in keys (R298). -/
def setRoom (x : GArgs) : Nat :=
  match field x.mode 2 1 with
  | 0 => x.n + x.m
  | 1 => min x.n x.m
  | _ => x.n

def planSetop (x : GArgs) : GPlan :=
  let k := keyBytes x
  { ranges := [(x.a, x.n * k, false), (x.b, x.m * k, false), (x.c, setRoom x * k, true)], points := [x.a, x.b, x.c]
    aligned := allAligned [(x.a, k), (x.b, k), (x.c, k)]
    outs := [(x.c, setRoom x * k)], ins := [(x.a, x.n * k), (x.b, x.m * k)] }

/-- Two strictly ascending lists merged into one strictly ascending list. -/
def unionKeys (a b : List Nat) : List Nat :=
  (sortRecs ((a ++ b.filter (fun k => !a.contains k)).map (fun k => (k, [])))).map (fun r => r.1)

/-- SETOP's keys (R284, R298). -/
def setopOut (g : GCtx) (x : GArgs) (s : State) : GRes (List (List Byte)) :=
  gBind (s.gArray g x.a (keyBytes x) x.n) (fun s1 a =>
    gBind (s1.gArray g x.b (keyBytes x) x.m) (fun s2 b =>
      match runsUnsorted true a b with
      | some i => (s2, .error (.invalid 6 i))
      | none =>
        let out := match field x.mode 2 1 with
          | 0 => unionKeys a b
          | 1 => a.filter (fun k => b.contains k)
          | _ => a.filter (fun k => !b.contains k)
        (s2, .ok (out.map (toBytes (keyBytes x))))))

def codeSetop : GeyCode := storeCode planSetop keyBytes setopOut

/-- SETOP (R298). -/
def execSetop (src : GeySrc) (work : GeyWork) (s : State) : Out := .next (s.geyRun src 9 work.picks work.env codeSetop)

/-! Segmented reduce and scan. -/

/-- Value width in bytes (R269). -/
def segBytes (x : GArgs) : Nat := if field x.mode 1 0 = 2 then 8 else 4

/-- OP of R269 on two values of TYPE (R299). -/
def segOp (x : GArgs) (a b : Nat) : Nat :=
  let ty := field x.mode 1 0
  let w := 8 * segBytes x
  let q := fun (f : Quad → Quad → Quad) => (f (BitVec.ofNat 32 a) (BitVec.ofNat 32 b)).toNat
  match field x.mode 3 2 with
  | 0 => if ty = 0 then q fadd else (a + b) % 2 ^ w
  | 1 => if ty = 0 then q fmax else if signed w a < signed w b then b else a
  | _ => if ty = 0 then q fmin else if signed w b < signed w a then b else a

def planSeg (outs : Nat) (x : GArgs) : GPlan :=
  let w := segBytes x
  { ranges := [(x.a, x.n * w, false), (x.b, 8 * (x.m + 1), false), (x.c, outs * w, true)], points := [x.a, x.b, x.c]
    aligned := allAligned [(x.a, w), (x.b, 8), (x.c, w)]
    outs := [(x.c, outs * w)], ins := [(x.a, x.n * w), (x.b, 8 * (x.m + 1))] }

/-- The lowest segment offset that decreases, or M where the last offset is not N (R276). -/
def badOffset (n m : Nat) (o : List Nat) : Option Nat :=
  ((List.range (m + 1)).find? (fun j => decide (0 < j ∧ o.getD j 0 < o.getD (j - 1) 0))).orElse
    (fun _ => if o.getD m 0 ≠ n then some m else none)

/-- Values and offsets read and checked, then the output values. -/
def segOut (out : GArgs → State → List Nat → List Nat → List Nat) (g : GCtx) (x : GArgs) (s : State) : GRes (List (List Byte)) :=
  gBind (s.gArray g x.a (segBytes x) x.n) (fun s1 vs =>
    gBind (s1.gArray g x.b 8 (x.m + 1)) (fun s2 os =>
      match badOffset x.n x.m os with
      | some j => (s2, .error (.invalid 7 j))
      | none => (s2.tick, .ok ((out x s2 vs os).map (toBytes (segBytes x))))))

/-- The values of a segment combined in order; S for an empty segment (R299). -/
def segValue (x : GArgs) (vs os : List Nat) (j : Nat) : Nat :=
  match (vs.take (os.getD (j + 1) 0)).drop (os.getD j 0) with
  | [] => x.s % 2 ^ (8 * segBytes x)
  | v :: t => t.foldl (segOp x) v

def codeSegred : GeyCode :=
  storeCode (fun x => planSeg x.m x) segBytes (segOut (fun x _ vs os => (List.range x.m).map (segValue x vs os)))

/-- SEGRED (R299). -/
def execSegred (src : GeySrc) (work : GeyWork) (s : State) : Out := .next (s.geyRun src 7 work.picks work.env codeSegred)

/-- The running combination of a list: inclusive, or exclusive from `first`. -/
def scanFrom (op : Nat → Nat → Nat) (excl : Bool) (acc : Option Nat) : List Nat → List Nat
  | [] => []
  | v :: t =>
    let next := match acc with | some a => op a v | none => v
    (if excl then acc.getD v else next) :: scanFrom op excl (some next) t

/-- The outputs of SEGSCAN from the first segment's first value on (R299). -/
def segScan (x : GArgs) (vs os : List Nat) : List Nat :=
  let excl := bit x.mode 4
  (List.range x.m).flatMap (fun j =>
    scanFrom (segOp x) excl (if excl then some (x.s % 2 ^ (8 * segBytes x)) else none)
      ((vs.take (os.getD (j + 1) 0)).drop (os.getD j 0)))

/-- The N outputs of SEGSCAN: those before the first segment have no value stated, so theirs are free (DESIGN CHOICE, log entry
155). -/
def segscanOut (x : GArgs) (s : State) (vs os : List Nat) : List Nat :=
  (List.range (os.headD 0)).map (fun i => ofBytes ((List.range (segBytes x)).map (fun j => Config.freeByte s.fresh (i * 8 + j)))) ++
  segScan x vs os

def codeSegscan : GeyCode := storeCode (fun x => planSeg x.n x) segBytes (segOut segscanOut)

/-- SEGSCAN (R299). -/
def execSegscan (src : GeySrc) (work : GeyWork) (s : State) : Out := .next (s.geyRun src 8 work.picks work.env codeSegscan)

/-! Frontier expansion. -/

/-- A graph descriptor (R290). -/
structure Graph where
  vertices : Nat
  adj : Nat
  cols : Nat
  edges : Nat
  parent : Nat

/-- The descriptor that 64 bytes hold; none for a reserved encoding. -/
def graphOf (coo : Bool) (w : List Word) : Option Graph :=
  let f := fun i => wordAt w i
  if field (f 0) 63 32 = 0 ∧ field (f 1) 63 48 = 0 ∧ field (f 2) 63 48 = 0 ∧ field (f 3) 63 40 = 0 ∧
      field (f 4) 63 48 = 0 ∧ (w.drop 5).all (· == 0) ∧ (if coo then f 2 = 0 else f 3 = 0) then
    some ⟨field (f 0) 31 0, field (f 1) 47 0, field (f 2) 47 0, field (f 3) 39 0, field (f 4) 47 0⟩
  else none

def isCoo (x : GArgs) : Bool := bit x.mode 0
def isBitmap (x : GArgs) : Bool := bit x.mode 1
def overAt (x : GArgs) : Nat := x.s % 2 ^ 48

/-- Bytes of a bitmap of `v` vertices. -/
def bitmapBytes (v : Nat) : Nat := ceilDiv v 8

def planFrontier (x : GArgs) : GPlan :=
  { ranges := [(x.b, 64, false), (x.c, 4 * x.m, true)] ++ (if isBitmap x then [] else [(x.a, 4 * x.n, false)])
    points := [x.a, x.b, x.c, x.x] ++ (if overAt x = 0 then [] else [overAt x])
    aligned := allAligned [(x.a, if isBitmap x then 8 else 4), (x.b, 64), (x.c, 4), (x.x, 8), (overAt x, 8)]
    outs := [(x.c, 4 * x.m)], ins := (x.b, 64) :: (if isBitmap x then [] else [(x.a, 4 * x.n)])
    tables := [x.b] }

/-- The bitmaps that the clause names, whose extent the descriptor gives: address, length and direction. -/
def bitmapRanges (x : GArgs) (gr : Graph) : List (Nat × Nat × Bool) :=
  (if isBitmap x then [(x.a, bitmapBytes gr.vertices, false)] else []) ++
  [(x.x, bitmapBytes gr.vertices, true)] ++ (if overAt x = 0 then [] else [(overAt x, bitmapBytes gr.vertices, true)])

/-- The arrays that the descriptor names, by address and length; `edges` is the number of entries of COLS. -/
def graphArrays (x : GArgs) (gr : Graph) (edges : Nat) : List (Nat × Nat) :=
  (if isCoo x then [(gr.adj, 8 * gr.edges)] else [(gr.adj, 8 * (gr.vertices + 1)), (gr.cols, 4 * edges)]) ++
  (if gr.parent = 0 then [] else [(gr.parent, 4 * gr.vertices)])

/-- The checks that need the graph descriptor (R276): its header, then those of R280 for the arrays that it names. The extent of
COLS is the last offset of ADJ. -/
def frontierHeader (g : GCtx) (x : GArgs) (s : State) : GRes GHead :=
  gBind (s.gRead g x.b 64) (fun s1 bs =>
    match graphOf (isCoo x) (wordsOf 8 bs) with
    | none => (s1, .error (.invalid 4 0))
    | some gr =>
      gBind (if isCoo x then (s1, .ok []) else s1.gFetch g (gr.adj + 8 * gr.vertices) 8) (fun s2 last =>
        let rs := bitmapRanges x gr
        let arrays := graphArrays x gr (ofBytes last)
        gBind (s2.gPre g none
          { ranges := rs, points := rs.map (fun r => r.1) ++ arrays.map (fun r => r.1)
            aligned := allAligned [(gr.adj, 8), (gr.cols, 4), (gr.parent, 4)]
            outs := [(x.c, 4 * x.m)], ins := rs.map (fun r => (r.1, r.2.1)) ++ arrays
            tables := arrays.map (fun r => r.1) }) (fun s3 _ =>
          (s3, .ok { dims := (gr.vertices, gr.parent), graph := (wordsOf 8 bs).map (fun w => w.toNat), ranges := rs }))))

/-- The vertices whose bit is set in a bitmap. -/
def bitmapList (v : Nat) (bs : List Byte) : List Nat :=
  (List.range v).filter (fun i => bit (bs.getD (i / 8) 0).toNat (i % 8))

/-- The current frontier (R300), or the first list entry that is no vertex. -/
def State.frontierOf (s : State) (g : GCtx) (x : GArgs) (gr : Graph) : GRes (List Nat) :=
  if isBitmap x then
    gBind (s.gRead g x.a (bitmapBytes gr.vertices)) (fun s1 bs => (s1, .ok (bitmapList gr.vertices bs)))
  else
    gBind (s.gArray g x.a 4 x.n) (fun s1 l =>
      match l.findIdx? (fun v => decide (gr.vertices ≤ v)) with
      | some i => (s1, .error (.invalid 8 i))
      | none => (s1, .ok l))

/-- Column entry `i` of vertex `u` read: the edge from u to it (R290). -/
def colItem (g : GCtx) (gr : Graph) (u : Nat) (s : State) (i : Nat) : GRes GItem :=
  gBind (s.gFetch g (gr.cols + 4 * i) 4) (fun s1 bs =>
    let v := ofBytes bs
    if gr.vertices ≤ v then (s1, .error (.invalid 8 i)) else (s1, .ok { num := v, aux := u }))

/-- The edges of one frontier vertex of a CSR graph (R290). -/
def State.csrEdges (s : State) (g : GCtx) (gr : Graph) (u : Nat) : GRes (List GItem) :=
  match s.gFetch g (gr.adj + 8 * u) 16 with
  | (s1, .ok bs) =>
    let lo := ofBytes (bs.take 8)
    let hi := ofBytes (bs.drop 8)
    if hi < lo then (s1, .ok [{ err := some (.invalid 8 (u + 1)) }])
    else gItems (colItem g gr u) ((List.range (hi - lo)).map (fun k => lo + k)) s1
  | (s1, .error .wait) => (s1, .error .wait)
  | (s1, .error e) => (s1, .ok [{ err := some e }])

/-- The edges of the frontier in their stored order. -/
def State.csrAll (s : State) (g : GCtx) (gr : Graph) : List Nat → GRes (List GItem)
  | [] => (s, .ok [])
  | u :: us => gBind (s.csrEdges g gr u) (fun s1 l => gBind (s1.csrAll g gr us) (fun s2 m => (s2, .ok (l ++ m))))

/-- Edge `i` of a COO graph read (R290); `num` is VERTICES for one that does not leave the frontier. -/
def cooItem (g : GCtx) (gr : Graph) (front : List Nat) (s : State) (i : Nat) : GRes GItem :=
  gBind (s.gFetch g (gr.adj + 8 * i) 8) (fun s1 bs =>
    let u := ofBytes (bs.take 4)
    let v := ofBytes (bs.drop 4)
    if gr.vertices ≤ u ∨ gr.vertices ≤ v then (s1, .error (.invalid 8 i))
    else (s1, .ok { num := if front.contains u then v else gr.vertices, aux := u }))

/-- The edges that leave the frontier (R300); an invalid entry is reported at the lowest index of all (R276). -/
def State.frontierEdges (s : State) (g : GCtx) (x : GArgs) (gr : Graph) (front : List Nat) : GRes (List GItem) :=
  gBind (if isCoo x then gItems (cooItem g gr front) (List.range gr.edges) s else s.csrAll g gr front) (fun s1 l =>
    let low := (l.filterMap (fun it => match it.err with
      | some (.invalid _ i) => some i
      | _ => none)).min?
    let one := fun (it : GItem) => match it.err, low with
      | some (.invalid c _), some i => { it with err := some (.invalid c i) }
      | _, _ => it
    (s1, .ok ((l.filter (fun it => it.err.isSome || it.num != gr.vertices)).map one)))

/-- The frontier and its edges (R300, R303). -/
def frontierStart (g : GCtx) (x : GArgs) (h : GHead) (s : State) : GRes GeyRun :=
  match graphOf (isCoo x) (h.graph.map (BitVec.ofNat 64)) with
  | none => (s, .error (.invalid 4 0))
  | some gr =>
    gBind (s.frontierOf g x gr) (fun s1 front =>
      gBind (s1.frontierEdges g x gr front) (fun s2 l => (s2, .ok { runOf x l with front := front })))

/-- One edge (R300 to R302): its target is claimed if it is unvisited and not of the frontier itself; then its parent is written,
and it goes to the list, or to the overflow bitmap. -/
def frontierElem (g : GCtx) (r : GeyRun) (_f : GFlight) (it : GItem) (s : State) : GRes GAcc :=
  let x := r.args
  let v := it.num
  let va := x.x + v / 8
  let mark := fun (b : List Byte) => [BitVec.ofNat 8 ((b.headD 0).toNat ||| 2 ^ (v % 8))]
  gBind (s.gRead g va 1) (fun s1 b =>
    if bit (b.headD 0).toNat (v % 8) ∨ r.front.contains v then (s1, .ok r.acc)
    else
      gBind (s1.gWrite g va (mark b)) (fun s2 _ =>
        gBind (if r.dims.2 = 0 then (s2, .ok ()) else s2.gStore g (r.dims.2 + 4 * v) (toBytes 4 it.aux)) (fun s3 _ =>
          if r.acc.count < x.m then
            gBind (s3.gWrite g (x.c + 4 * r.acc.count) (toBytes 4 v)) (fun s4 _ =>
              (s4, .ok { r.acc with count := r.acc.count + 1, visited := r.acc.visited + 1 }))
          else if overAt x = 0 then (s3, .error (.invalid 9 0))
          else
            gBind (s3.gRead g (overAt x + v / 8) 1) (fun s4 ob =>
              gBind (s4.gWrite g (overAt x + v / 8) (mark ob)) (fun s5 _ =>
                (s5, .ok { r.acc with visited := r.acc.visited + 1, spill := true }))))))

def codeFrontier : GeyCode :=
  { plan := planFrontier
    header := frontierHeader
    start := frontierStart
    range := fun r it _ => (r.args.x + it.num / 8, 1)
    perform := frontierElem }

/-- FRONTIER (R300 to R302). `picks` gives the order in which claims are granted. -/
def execFrontier (src : GeySrc) (picks : List Nat) (env : Env) (s : State) : Out := .next (s.geyRun src 11 picks env codeFrontier)

/-- How the operation of an OP or OPCODE runs (R268). -/
def geyCode (op : Nat) : GeyCode :=
  match op with
  | 0 => codeGather
  | 1 => codeScatter
  | 2 => codeHins
  | 3 => codeHprobe
  | 4 => codeHdel
  | 5 => codeSort
  | 6 => codeMerge
  | 7 => codeSegred
  | 8 => codeSegscan
  | 9 => codeSetop
  | 10 => codeHsetop
  | _ => codeFrontier

end Sys2Proof.Machine
end

