-- ==== Sys2Proof/Machine/KeyStore.lean ====
section
/-! DEFINITION. Key slots and their uses (R504 to R511), the key operation class (R512 to R514), Keak packages (R521 to R524),
the locked key store (R532) and device sets (R534 to R536). -/

namespace Sys2Proof.Machine

/-! Shared helpers. -/

/-- Bytes of a byte string from an offset. -/
def slice (l : List Byte) (a n : Nat) : List Byte := (l.drop a).take n

/-- A little-endian number in a byte string. -/
def leAt (l : List Byte) (a n : Nat) : Nat := ofBytes (slice l a n)

/-- Data under the counter keystream of AES-256-GCM: the same for encryption and decryption. -/
def gcmXor (key nonce data : List Byte) : List Byte := data.mapIdx (fun i b => b ^^^ Config.gcmPad key nonce i)

/-- The 16 tag bytes of AES-256-GCM. -/
def gcmTagBytes (key nonce aad ct : List Byte) : List Byte := toBytes 16 (Config.gcmTag key nonce aad ct).toNat

/-- The plaintext of a ciphertext whose tag matches. -/
def gcmOpen (key nonce aad ct tag : List Byte) : Option (List Byte) :=
  if gcmTagBytes key nonce aad ct = tag then some (gcmXor key nonce ct) else none

/-- A slot of a clause whose engine's domain `d` is not ready: DOMAIN_OFF, or a wait (R22, R588). -/
def State.withDomain (s : State) (slot d : Nat) (f : State) : State :=
  match s.domain d with
  | .off => s.slotDone slot St.DOMAIN_OFF 0
  | .waking => s
  | .ready => f

/-- The same for a clause in its slot; one that has been admitted goes on (R588). -/
def State.withDomainOf (s : State) (slot : Nat) (x : Slot) (d : Nat) (f : State) : State :=
  if x.progress.isSome then f else s.withDomain slot d f

/-! Key slots. -/

def State.keySlot (s : State) (k : Nat) : KeySlot := Tbl.getD s.sec.slots k {}
def State.setKeySlot (s : State) (k : Nat) (x : KeySlot) : State :=
  { s with sec := { s.sec with slots := Tbl.put {} k x s.sec.slots } }

/-- The key store is locked (R532): debug unlocked, not yet released after one, or a security fuse word held. -/
def State.keyLocked (s : State) : Bool := s.flag F.SEC_STAT_LOCKED 0

/-- The page that names a key slot (R509). -/
def State.keyPage (s : State) (k : Nat) : Option Nat :=
  (List.range 256).find? (fun p =>
    s.flag F.SEC_PAGE_MAP_VALID p &&
    decide (s.fld F.SEC_PAGE_MAP_SLOT_BASE p ≤ k ∧ k < s.fld F.SEC_PAGE_MAP_SLOT_BASE p + s.fld F.SEC_PAGE_MAP_SLOT_COUNT p))

/-- The function that owns a key slot: its page's function, or the physical function (R509). -/
def State.keyOwner (s : State) (k : Nat) : Nat :=
  match s.keyPage k with
  | some p => s.fld F.SEC_PAGE_MAP_FUNC p
  | none => 0

/-- A purpose of a use: its USE bit and its ALG (R505). -/
inductive KeyUse where
  | netTx | netRx | storage | package | wrap
deriving DecidableEq, Repr

def useBit : KeyUse → Nat
  | .netTx => 0 | .netRx => 1 | .storage => 2 | .package => 3 | .wrap => 4

def useAlg : KeyUse → Nat
  | .storage => 2
  | .wrap => 3
  | _ => 1

/-- Whether a slot can serve a purpose; one that cannot counts as EMPTY (R505, R532). -/
def State.keyServes (s : State) (k : Nat) (u : KeyUse) : Bool :=
  let x := s.keySlot k
  !s.keyLocked && x.loaded && bit x.use (useBit u) && x.alg == useAlg u

/-- One use of a slot (R505, R506): the slot as it stood before the use, or KEY_SLOT_EMPTY or KEY_USAGE_EXHAUSTED. -/
def State.useKey (s : State) (k : Nat) (u : KeyUse) : State × Except Nat KeySlot :=
  let x := s.keySlot k
  let fn := s.keyOwner k
  if !s.keyServes k u then (s, .error St.KEY_SLOT_EMPTY)
  else if x.limit ≤ x.used then (s.inc F.SEC_FN_STAT_EXHAUST_CNT fn, .error St.KEY_USAGE_EXHAUSTED)
  else
    let warnAt := max 1 (x.limit * 7 / 8)
    let s1 := s.setKeySlot k { x with used := x.used + 1, warn := x.warn || x.used + 1 == warnAt }
    let s2 := if x.used + 1 = warnAt then s1.postEvent {} fn 0xA001 (BitVec.ofNat 64 k) 0 else s1
    (if x.used + 1 = x.limit then s2.postEvent {} fn 0xA002 (BitVec.ofNat 64 k) 0 else s2, .ok x)

/-- A slot revoked: its material is zeroised and it is EMPTY (R507). -/
def State.revokeKey (s : State) (k : Nat) : State := s.setKeySlot k {}

/-- The nonce of packet or use number `n` of a slot (R504, R517). -/
def keyNonce (x : KeySlot) (n : Nat) : List Byte := x.salt ++ (toBytes 8 n).reverse

/-! Device sets. -/

def State.devSet (s : State) (i : Nat) : DevSet := Tbl.getD s.sec.sets i {}

/-- A device set with its registers SEC_SET_ID and SEC_SET_STAT. -/
def State.setDevSet (s : State) (i : Nat) (x : DevSet) : State :=
  let s1 : State := { s with sec := { s.sec with sets := Tbl.put {} i x s.sec.sets } }
  ((((s1.setFld (F.SEC_SET_ID_SET_ID.at i) 0 x.id).setFld (F.SEC_SET_STAT_RANK.at i) 0 x.rank).setFld
    (F.SEC_SET_STAT_PROVEN.at i) 0 (x.members.filter (fun m => m.proven)).length).setFld
    (F.SEC_SET_STAT_MEMBERS.at i) 0 x.members.length).setFld (F.SEC_SET_STAT_STATE.at i) 0 x.state

/-- Every key slot revoked, and every device set emptied with its key (R507, R532). -/
def State.revokeAll (s : State) : State :=
  (List.range 4).foldl (fun t i => t.setDevSet i {}) { s with sec := { s.sec with slots := [] } }

/-- The key store locks: every key is revoked and KEY_STORE_LOCK is posted with its reason (R532). -/
def State.lockKeys (s : State) (reason : Nat) : State :=
  if s.keyLocked then s.revokeAll
  else (s.revokeAll.setFlag F.SEC_STAT_LOCKED 0 true).postEvent {} 0 0xA003 (BitVec.ofNat 64 reason) 0

/-! The key operation class. -/

/-- A clause that ends PACKAGE_AUTH_FAILED with a reason of R514. -/
def State.authFailed (s : State) (slot fn reason : Nat) : State :=
  (s.inc F.SEC_FN_STAT_AUTH_CNT fn).slotDone slot St.PACKAGE_AUTH_FAILED (BitVec.ofNat 64 (reason * 2 ^ 56))

/-- A read of a clause's range, and what follows it; a failure completes the clause. -/
def State.clauseRead (s : State) (env : Env) (slot fn a n : Nat) (f : State → List Byte → State) : State :=
  match s.readFor env fn a n with
  | (s1, .ok bs) => f s1 bs
  | (s1, .fail st) => s1.slotDone slot st 0
  | (_, .wait) => s

/-- A malformed wrapped key (R512). -/
def blobBad (b : List Byte) : Bool :=
  let alg := leAt b 0 1
  !decide (1 ≤ alg ∧ alg ≤ 3) || leAt b 1 1 / 32 != 0 || leAt b 2 2 != 0 || leAt b 14 2 != 0 || leAt b 8 6 == 0 ||
  (slice b 0x10 16).any (· != 0) || leAt b 0x2C 4 != 0

/-- The slot that attributes and key material give (R504, R512). -/
def blobSlot (b material : List Byte) : KeySlot :=
  { loaded := true, alg := leAt b 0 1, use := leAt b 1 1 % 32, salt := slice b 4 4, limit := leAt b 8 6, used := 0
    key := material.take (if leAt b 0 1 = 2 then 64 else 32) }

/-- KLOAD (R513, R514). -/
def execKload (slot : Nat) (env : Env) (s : State) : Out :=
  .next (
    match s.clauseAt slot 9 0 with
    | none => s
    | some x =>
      let w1 := wordAt x.words 1
      let k := field w1 9 0
      let kek := field w1 25 16
      let a := wordAt x.words 2
      if field w1 15 10 ≠ 0 ∨ field w1 63 26 ≠ 0 ∨ 2 ^ 48 ≤ a ∨ a % 64 ≠ 0 ∨ !zeroFrom x.words 3 then
        s.slotDone slot St.BAD_CLAUSE 0
      else s.withDomain slot 26 (
        if s.keyLocked then s.slotDone slot St.KEY_STORE_LOCKED 0
        else
          s.clauseRead env slot x.fn a 128 (fun s1 b =>
            if s1.keyOwner k ≠ x.fn ∨ s1.keyOwner kek ≠ x.fn then s1.slotDone slot St.KEY_SLOT_EMPTY 0
            else
              match s1.useKey kek .wrap with
              | (s2, .error st) => s2.slotDone slot st 0
              | (s2, .ok kk) =>
                if blobBad b then s2.authFailed slot x.fn 1
                else
                  match gcmOpen kk.key (slice b 0x20 12) (b.take 0x30) (slice b 0x30 64) (slice b 0x70 16) with
                  | none => s2.authFailed slot x.fn 6
                  | some m => ((s2.revokeKey k).setKeySlot k (blobSlot b m)).slotDone slot St.SUCCESS 0)))

/-- KREVOKE (R507, R513): the slot is EMPTY; REVOCATION_COMPLETE completes the clause. -/
def execKrevoke (slot : Nat) (s : State) : Out :=
  .next (
    match s.clauseAt slot 9 1 with
    | none => s
    | some x =>
      let w1 := wordAt x.words 1
      let k := field w1 9 0
      if s.sec.revs.any (fun r => r.clause == slot) then s
      else if 1024 ≤ w1 ∨ !zeroFrom x.words 2 then s.slotDone slot St.BAD_CLAUSE 0
      else s.withDomain slot 26 (
        if s.keyOwner k ≠ x.fn ∨ (s.keySlot k).loaded = false then s.slotDone slot St.KEY_SLOT_EMPTY 0
        else
          let s1 := s.revokeKey k
          { s1 with sec := { s1.sec with revs := s1.sec.revs ++ [⟨slot, k, (s.keySlot k).used⟩] } }))

/-- REVOCATION_COMPLETE (R507): every use granted before the revocation has ended; in this model a use ends with the
command that makes it. -/
def execRevocationComplete (keySlot : Nat) (s : State) : Out :=
  .next (
    match s.sec.revs.find? (fun r => r.keySlot == keySlot) with
    | none => s
    | some r =>
      let s1 : State := { s with sec := { s.sec with revs := s.sec.revs.filter (fun q => decide (q ≠ r)) } }
      s1.slotDone r.clause St.SUCCESS (BitVec.ofNat 64 r.used))

/-- KQUERY's RESULT (R513). -/
def keyWord (x : KeySlot) : Nat :=
  if x.loaded then 2 ^ 63 + ofBit x.warn * 2 ^ 62 + x.use * 2 ^ 56 + x.alg * 2 ^ 48 + x.used else 0

/-- KQUERY (R510, R513): a slot that the function does not own reads as EMPTY. -/
def execKquery (slot : Nat) (s : State) : Out :=
  .next (
    match s.clauseAt slot 9 2 with
    | none => s
    | some x =>
      let w1 := wordAt x.words 1
      let k := field w1 9 0
      if 1024 ≤ w1 ∨ !zeroFrom x.words 2 then s.slotDone slot St.BAD_CLAUSE 0
      else s.withDomain slot 26
        (s.slotDone slot St.SUCCESS (BitVec.ofNat 64 (if s.keyOwner k = x.fn then keyWord (s.keySlot k) else 0))))

/-! Keak packages. -/

/-- The header check of R521 and R522 step 1. -/
def pkgBad (h : List Byte) : Bool :=
  leAt h 0 4 != 0x4B41454B || leAt h 4 2 != 1 || !decide (1 ≤ leAt h 6 2 ∧ leAt h 6 2 ≤ 4) ||
  !decide (1 ≤ leAt h 8 8 ∧ leAt h 8 8 ≤ 2 ^ 40) || (slice h 0x24 12).any (· != 0) || (slice h 0x120 224).any (· != 0)

def pkgLen (h : List Byte) : Nat := leAt h 8 8

/-- The signature of a package header (R522 step 3). -/
def pkgSigned (h : List Byte) : Bool :=
  Config.ecdsaOk (slice h 0x60 96) (Config.sha384 (h.take 0xC0)) (slice h 0xC0 96)

/-- The plaintext of a package: its tag and its digest match, or the reason TAG or DIGEST (R514, R522 step 7). -/
def pkgOpen (key h ct tag : List Byte) : Except Nat (List Byte) :=
  match gcmOpen key (slice h 0x18 12) h ct tag with
  | none => .error 4
  | some pt => if toBytes 48 (Config.sha384 pt).toNat = slice h 0x30 48 then .ok pt else .error 5

/-- The measurement log and RUN after a loaded package (R524). -/
def State.measure (s : State) (h : List Byte) : State :=
  let d : BitVec 384 := BitVec.ofNat 384 (leAt h 0x30 48)
  let run := Config.sha384 (toBytes 48 s.sec.run.toNat ++ slice h 0x30 48)
  if s.sec.log.length < 256 then
    { s with sec := { s.sec with run := run, log := s.sec.log ++ [⟨leAt h 6 2, leAt h 0x10 8, d⟩] } }
  else { s with sec := { s.sec with run := run, logOver := true } }

/-- Zeros written over a range page by page; a page that cannot be written is passed over (R523). -/
def State.zeroRange (s : State) (env : Env) (fn a n : Nat) : State :=
  (pageCuts a n).foldl (fun t p => (t.writeChecked env fn p.1 (List.replicate p.2 0)).1) s

/-- Step 4 of R522: the key of an ACTIVE set, or a PACKAGE use of a slot. -/
def State.pkgKey (s : State) (fn setId k : Nat) : State × Except Nat (List Byte) :=
  if setId ≠ 0 then
    match (List.range 4).find? (fun i => decide ((s.devSet i).state = 2 ∧ (s.devSet i).id = setId)) with
    | some i => (s, .ok (s.devSet i).key)
    | none => (s, .error St.NOT_SET_MEMBER)
  else if s.keyOwner k ≠ fn then (s, .error St.KEY_SLOT_EMPTY)
  else
    match s.useKey k .package with
    | (s1, .ok x) => (s1, .ok x.key)
    | (s1, .error st) => (s1, .error st)

/-- PKG_LOAD (R514, R521 to R524). -/
def execPkgLoad (slot : Nat) (env : Env) (s : State) : Out :=
  .next (
    match s.clauseAt slot 9 3 with
    | none => s
    | some x =>
      let src := wordAt x.words 1
      let dest := wordAt x.words 2
      let cap := wordAt x.words 3
      let k := wordAt x.words 4
      if 2 ^ 48 ≤ src ∨ 2 ^ 48 ≤ dest ∨ 2 ^ 48 ≤ cap ∨ 1024 ≤ k ∨ !zeroFrom x.words 5 then
        s.slotDone slot St.BAD_CLAUSE 0
      else s.withDomain slot 26 (
        if s.keyLocked then s.slotDone slot St.KEY_STORE_LOCKED 0
        else
          match s.checkClause x.fn true dest cap with
          | .fail st => (s.refuse x.fn st).slotDone slot st 0
          | .wait => s
          | .ok _ =>
            s.clauseRead env slot x.fn src 512 (fun s1 h =>
              let signer := Config.sha384 (slice h 0x60 96)
              if pkgBad h ∨ leAt h 6 2 = 4 then s1.authFailed slot x.fn 1
              else if !s1.sec.signers.any (fun e => decide (e.2 = signer)) then s1.authFailed slot x.fn 2
              else if !pkgSigned h then s1.authFailed slot x.fn 3
              else
                match s1.pkgKey x.fn (leAt h 0x10 8) k with
                | (s2, .error st) => s2.slotDone slot st 0
                | (s2, .ok key) =>
                  let n := pkgLen h
                  if cap < n then s2.authFailed slot x.fn 7
                  else
                    match s2.readFor env x.fn (src + 512) (n + 16) with
                    | (_, .wait) => s
                    | (s3, .fail st) => s3.slotDone slot st 0
                    | (s3, .ok b) =>
                      match pkgOpen key h (b.take n) (b.drop n) with
                      | .error r => (s3.zeroRange env x.fn dest n).authFailed slot x.fn r
                      | .ok pt =>
                        match s3.writeChecked env x.fn dest pt with
                        | (s4, .ok _) => (s4.measure h).slotDone slot St.SUCCESS (BitVec.ofNat 64 n)
                        | (s4, .fail st) => (s4.zeroRange env x.fn dest n).slotDone slot st 0
                        | (_, .wait) => s)))

/-! Device sets: PROVE_NONCE and PROVE. -/

/-- 32 fresh random bytes, by number of the draw. -/
def randomBytes (n : Nat) : List Byte := (List.range 32).map (Config.randomByte n)

/-- PROVE_NONCE (R513). -/
def execProveNonce (slot : Nat) (env : Env) (s : State) : Out :=
  .next (
    match s.clauseAt slot 9 4 with
    | none => s
    | some x =>
      let i := wordAt x.words 1
      let dest := wordAt x.words 2
      if x.fn ≠ 0 ∨ 4 ≤ i ∨ 2 ^ 48 ≤ dest ∨ !zeroFrom x.words 3 then s.slotDone slot St.BAD_CLAUSE 0
      else s.withDomain slot 26 (
        if s.keyLocked then s.slotDone slot St.KEY_STORE_LOCKED 0
        else
          match s.checkClause x.fn true dest 32 with
          | .fail st => (s.refuse x.fn st).slotDone slot st 0
          | .wait => s
          | .ok _ =>
            if (s.devSet i).state = 0 then s.slotDone slot St.NOT_SET_MEMBER 0
            else
              let r := randomBytes s.fresh
              match s.tick.writeChecked env x.fn dest r with
              | (s1, .ok _) => (s1.setDevSet i { s1.devSet i with nonce := some r }).slotDone slot St.SUCCESS 0
              | (s1, .fail st) => s1.slotDone slot st 0
              | (_, .wait) => s))

/-- The conditions of R536 for member `m` of a set. -/
def evidencePasses (d : DevSet) (m : SetMember) (e : Evidence) : Bool :=
  decide (e.keyHash = m.hash) && e.signed && decide (d.nonce = some e.nonce) && decide (e.setId = d.id) &&
  decide (e.setState = 1 ∨ e.setState = 2) && e.debugLocked && !e.fuseHold

/-- A member marked proven. -/
def DevSet.prove (d : DevSet) (i : Nat) : DevSet :=
  { d with members := d.members.mapIdx (fun j m => if j = i then { m with proven := true } else m) }

/-- PROVE (R513, R535, R536): the nonce is consumed in every case; the set becomes ACTIVE once every member is proven. -/
def execProve (slot : Nat) (env : Env) (s : State) : Out :=
  .next (
    match s.clauseAt slot 9 5 with
    | none => s
    | some x =>
      let w1 := wordAt x.words 1
      let i := field w1 1 0
      let m := field w1 23 16
      let a := wordAt x.words 2
      let n := wordAt x.words 3
      if x.fn ≠ 0 ∨ field w1 15 2 ≠ 0 ∨ field w1 63 24 ≠ 0 ∨ 2 ^ 48 ≤ a ∨ 2 ^ 16 ≤ n ∨ !zeroFrom x.words 4 then
        s.slotDone slot St.BAD_CLAUSE 0
      else s.withDomain slot 26 (
        if s.keyLocked then s.slotDone slot St.KEY_STORE_LOCKED 0
        else
          s.clauseRead env slot x.fn a n (fun s1 bs =>
            let d := s1.devSet i
            let s2 := s1.setDevSet i { d with nonce := none }
            if d.state = 0 then s1.slotDone slot St.NOT_SET_MEMBER 0
            else
              match d.members[m]?, Config.evidence bs with
              | none, _ => s2.slotDone slot St.NOT_SET_MEMBER 0
              | some _, none => s2.authFailed slot x.fn 1
              | some mb, some e =>
                if !evidencePasses d mb e then s2.authFailed slot x.fn 8
                else
                  let d1 := { d with nonce := none }.prove m
                  let all := d1.members.all (fun q => q.proven)
                  let s3 := s2.setDevSet i { d1 with state := if all then 2 else d1.state }
                  let s4 := if all ∧ d.state = 1 then s3.postEvent env 0 0xA005 (BitVec.ofNat 64 i) 0 else s3
                  s4.slotDone slot St.SUCCESS (BitVec.ofNat 64 (d1.members.filter (fun q => q.proven)).length))))

end Sys2Proof.Machine
end

