-- ==== Sys2Proof/Machine/Sched.lean ====
section
/-! DEFINITION. The traffic scheduler (chapter 14): queues, accounted lengths, shapers, the choice of the next frame, time
gates and pauses. -/

namespace Sys2Proof.Machine

/-! Ports. -/

/-- Whether a port exists in the mode of its quad (R409). -/
def State.portExists (s : State) (p : Nat) : Bool :=
  decide (p < 8) && p % 2 ^ s.fld (if p < 4 then F.NET_PORT_MODE_QUAD0 else F.NET_PORT_MODE_QUAD1) 0 == 0

/-- The power domain of a port's quad (R587). -/
def portDomain (p : Nat) : Nat := if p < 4 then 18 else 19

/-- Whether a scheduler port can send (R489). -/
def State.canSend (s : State) (p : Nat) : Bool :=
  s.portExists p && s.flag F.NET_PORT_STAT_UP p && decide (s.domain (portDomain p) = .ready)

/-- The rate of a port in Gb/s. -/
def State.portRate (s : State) (p : Nat) : Nat := s.fld F.NET_PORT_STAT_RATE p * 8

/-! Lengths. -/

/-- The bytes of a packet after the BTH, padding apart: the headers of its kind and its data. -/
def bodyBytes : Body → Nat
  | .send _ _ imm tag data =>
    (if imm.isSome then 4 else 0) + (if tag.isSome then Config.vendorHeader 0xC1 else 0) + alignUp data.length 4
  | .write first _ _ _ _ imm data => (if first then 16 else 0) + (if imm.isSome then 4 else 0) + alignUp data.length 4
  | .readReq _ _ _ => 16
  | .readResp _ data => 4 + alignUp data.length 4
  | .ack => 4
  | .nakSeq => 4
  | .nakAccess => 4
  | .nakOp => 4
  | .rnr => 4
  | .cnp => 16
  | .hello _ _ _ _ _ _ => 29 + 3
  | .creditReq _ => Config.vendorHeader 0xC2
  | .grant _ => Config.vendorHeader 0xC3
  | .coll _ _ _ _ _ data => Config.vendorHeader 0xC7 + alignUp data.length 4
  | .abort _ _ _ => Config.vendorHeader 0xC4
  | .ck (.data _ _ data) => 16 + alignUp data.length 4
  | .ck (.openReq _ _ _ _ r) => Config.vendorHeader 0xC5 + r.length
  | .ck (.header b) => Config.vendorHeader 0xC5 + b.length
  | .ck _ => Config.vendorHeader 0xC5

/-- The data that a packet carries, as the stream taps see it (R614). -/
def bodyData : Body → List Byte
  | .send _ _ _ _ data => data
  | .write _ _ _ _ _ _ data => data
  | .readResp _ data => data
  | .coll _ _ _ _ _ data => data
  | .ck (.data _ _ data) => data
  | .ck (.openReq _ _ _ _ r) => r
  | .ck (.header b) => b
  | _ => []

/-- An address in the form of R418 that is an IPv4 address. -/
def isV4 (a : List Byte) : Bool := a.take 12 == List.replicate 10 (0 : Byte) ++ [0xFF, 0xFF]

/-- The frame of a packet to a peer, FCS included: Ethernet, VLAN tag, IP, UDP, BTH, ICRC, FCS, at least 64 bytes. -/
def packetLen (peer : List Word) (b : Body) : Nat :=
  let vlan := if bit (wordAt peer 0) 20 then 4 else 0
  let ip := if isV4 (bytesOfWords (peer.drop 2)) then 20 else 40
  max 64 (14 + vlan + ip + 8 + 12 + bodyBytes b + 4 + 4)

/-- Whether the security complex will encrypt a frame (R491, R518). -/
def State.encrypts (s : State) (f : TxFrame) : Bool :=
  match f.pkt, f.peer with
  | some p, some i =>
    (match p.body with | .hello _ _ _ _ _ _ => false | _ => true) && s.flag F.SEC_PEER_TX_EN_OR_VALID i
  | _, _ => false

/-- The accounted length of a frame (R491). -/
def State.accounted (s : State) (f : TxFrame) : Nat :=
  let i : Int := (f.len : Int) + signed 8 (s.fld F.SCH_PORT_CFG_OVH f.port) +
    (if s.encrypts f then s.fld F.SCH_PORT_CFG_OVH_ENC f.port else 0 : Nat)
  (max 1 i).toNat

/-! Queues. -/

/-- The number of a port service. -/
def svcKey (port svc : Nat) : Nat := port * 8 + svc

/-- Whether a frame waits in subscriber queue (u, s) toward port n. -/
def TxFrame.inQueue (f : TxFrame) (sub svc port : Nat) : Bool := f.sub == sub && f.svc == svc && f.port == port

/-- Whether a subscriber queue has room for a frame (R488). -/
def State.queueRoom (s : State) (sub svc port : Nat) : Bool :=
  decide ((s.sch.frames.filter (fun f => f.inQueue sub svc port)).length < 64)

/-- The subscriber of queue pair `q` of function `fn` (R487). -/
def State.subOf (s : State) (fn q : Nat) : Nat := s.fld F.SCH_FN_MAP_SUB_BASE fn + q % 2 ^ s.fld F.SCH_FN_MAP_SUB_LOG2 fn

/-- A port service begins to wait where it held no frame. -/
def Sched.wait (c : Sched) (k now : Nat) : Sched := { c with since := if Tbl.has c.since k then c.since else Tbl.set k now c.since }

/-- The frames of RAW requests marked with the time since which they have been at the head of their queue toward a port that
cannot send (R489). -/
def markFrames (s : State) : List (Nat × Nat × Nat) → List TxFrame → List TxFrame
  | _, [] => []
  | seen, f :: t =>
    let k := (f.sub, f.svc, f.port)
    let stuck := f.slot.isSome && !seen.contains k && !s.canSend f.port
    { f with headSince := if stuck then some (f.headSince.getD s.tb.time) else none } :: markFrames s (k :: seen) t
def State.markHeads (s : State) : State := { s with sch := { s.sch with frames := markFrames s [] s.sch.frames } }

/-- A frame put into its subscriber queue, or at the head of its port service; a control frame toward a port that
cannot send is discarded (R487 to R490). -/
def State.enqueue (s : State) (f : TxFrame) : State :=
  let k := svcKey f.port f.svc
  match f.src with
  | .control _ =>
    if s.canSend f.port then
      { s with sch := Sched.wait { s.sch with control := s.sch.control ++ [f] } k s.tb.time }
    else s
  | _ =>
    let o := Tbl.getD s.sch.order k []
    let c : Sched := { s.sch with
      frames := s.sch.frames ++ [f], order := Tbl.set k (if o.contains f.sub then o else o ++ [f.sub]) s.sch.order }
    ({ s with sch := Sched.wait c k s.tb.time } : State).markHeads

/-- Whether a port service holds a frame. -/
def Sched.holds (c : Sched) (port svc : Nat) : Bool :=
  c.frames.any (fun f => f.port == port && f.svc == svc) || c.control.any (fun f => f.port == port && f.svc == svc)

/-- The tables of a port service brought in line with its frames: a subscriber without frames leaves the round and
loses its deficit, a port service without frames does not wait. -/
def State.settleSvc (s : State) (port svc : Nat) : State :=
  let k := svcKey port svc
  let o := Tbl.getD s.sch.order k []
  let keep := o.filter (fun u => s.sch.frames.any (fun f => f.inQueue u svc port))
  { s with sch := { s.sch with
      order := Tbl.put [] k keep s.sch.order
      deficit := s.sch.deficit.filter (fun d => decide (d.1 / 4096 ≠ k ∨ d.1 % 4096 ∈ keep))
      since := if s.sch.holds port svc then s.sch.since else Tbl.del k s.sch.since } }

/-- Frames that satisfy `p` removed from the subscriber queues and the control lists. -/
def State.dropFrames (s : State) (p : TxFrame → Bool) : State :=
  let s1 : State := { s with sch := { s.sch with
    frames := s.sch.frames.filter (fun f => !p f), control := s.sch.control.filter (fun f => !p f) } }
  ((List.range 64).foldl (fun t k => if Tbl.has t.sch.since k then t.settleSvc (k / 8) (k % 8) else t) s1).markHeads

/-! Shapers (R492, R493). -/

/-- Tokens of 64 KiB, in 1/8,000 byte. -/
def fullTokens : Int := 64 * 1024 * 8000

def tokensOf (t : Tbl Int) (k : Nat) : Int := Tbl.getD t k fullTokens

/-- One shaper's refill. -/
def refill (t : Tbl Int) (k rate ns kib : Nat) : Tbl Int :=
  Tbl.put fullTokens k (min (tokensOf t k + (rate * ns : Nat)) ((kib * 1024 * 8000 : Nat) : Int)) t

/-- SHAPER_REFILL (R492, R493): every shaper, with the rates and bursts that its registers hold now. -/
def execShaperRefill (s : State) : Out :=
  let ns := s.fld F.SCH_CTL_REFILL_NS 0
  when (s.sch.lastRefill + ns ≤ s.tb.time ∧ s.domOn 21 = true) (
    let c := s.sch
    let subs := List.range 4096
    let svcs := List.range 64
    { s with sch := { c with
        lastRefill := c.lastRefill + ns
        subTok := subs.foldl (fun t u => refill t u (s.fld F.SCH_SUB_CFG_PIR_MBPS u) ns (s.fld F.SCH_SUB_CFG_BURST_KIB u)) c.subTok
        cirTok := svcs.foldl (fun t k => refill t k (s.fld F.SCH_SVC_CFG_CIR_MBPS k) ns (s.fld F.SCH_SVC_BURST_CBS_KIB k)) c.cirTok
        pirTok := svcs.foldl (fun t k => refill t k (s.fld F.SCH_SVC_CFG_PIR_MBPS k) ns (s.fld F.SCH_SVC_BURST_PBS_KIB k)) c.pirTok
        subRate := subs.foldl (fun t u => Tbl.put 0 u (s.fld F.SCH_SUB_CFG_PIR_MBPS u) t) c.subRate
        cirRate := svcs.foldl (fun t k => Tbl.put 0 k (s.fld F.SCH_SVC_CFG_CIR_MBPS k) t) c.cirRate
        pirRate := svcs.foldl (fun t k => Tbl.put 0 k (s.fld F.SCH_SVC_CFG_PIR_MBPS k) t) c.pirRate } }) s

/-- A peak shaper of rate `r` with tokens `t` is eligible; a committed one. -/
def peakOk (r : Nat) (t : Int) : Bool := r == 0 || decide (0 < t)
def committedOk (r : Nat) (t : Int) : Bool := r != 0 && decide (0 < t)

def Sched.subOk (c : Sched) (u : Nat) : Bool := peakOk (Tbl.getD c.subRate u 0) (tokensOf c.subTok u)
def Sched.pirOk (c : Sched) (k : Nat) : Bool := peakOk (Tbl.getD c.pirRate k 0) (tokensOf c.pirTok k)
def Sched.cirOk (c : Sched) (k : Nat) : Bool := committedOk (Tbl.getD c.cirRate k 0) (tokensOf c.cirTok k)

/-- The shaper of key `k` drawn by `n` bytes where its rate is not 0. -/
def drawn (rate : Nat) (t : Tbl Int) (k n : Nat) : Tbl Int :=
  if rate = 0 then t else Tbl.put fullTokens k (tokensOf t k - (n * 8000 : Nat)) t

/-! Time gates (R497 to R500). -/

/-- The segments of a cycle: start, end and mask; the last entry holds to the end of the cycle, which cuts the rest. -/
def gateSegs (cycle : Nat) : Nat → List (Nat × Nat) → List (Nat × Nat × Nat)
  | _, [] => []
  | a, [(_, m)] => if a < cycle then [(a, cycle, m)] else []
  | a, (n, m) :: t => if a < cycle then (a, min (a + n) cycle, m) :: gateSegs cycle (a + n) t else []

/-- How long gate `v` stays open from position `p` of a list: none where it is closed, and `some none` where it never
closes. -/
def gateRun (cycle : Nat) (segs : List (Nat × Nat × Nat)) (v p : Nat) : Option (Option Nat) :=
  let two := (segs ++ segs.map (fun x => (x.1 + cycle, x.2.1 + cycle, x.2.2))).filter (fun x => decide (p < x.2.1))
  match two with
  | [] => none
  | x :: _ =>
    if !bit x.2.2 v then none
    else if segs.all (fun y => bit y.2.2 v) then some none
    else
      match two.find? (fun y => !bit y.2.2 v) with
      | some y => some (some (y.1 - p))
      | none => some none

def State.gateList (s : State) (port : Nat) : GateList := Tbl.getD s.sch.gates port {}

/-- Gate `v` of a port at adjusted time `t` (R497, R499). -/
def State.gateAt (s : State) (port v t : Nat) : Option (Option Nat) :=
  let g := s.gateList port
  let idle := bit (s.fld F.SCH_GATE_CTL_IDLE_MASK port) v
  let segs := gateSegs g.cycle 0 g.entries
  if !s.flag F.SCH_GATE_CTL_EN port then (if idle then some none else none)
  else if t < g.base then
    if !idle then none
    else
      match gateRun g.cycle segs v 0 with
      | none => some (some (g.base - t))
      | some none => some none
      | some (some n) => some (some (g.base - t + n))
  else gateRun g.cycle segs v ((t - g.base) % g.cycle)

/-- Whether an open run of `n` ns holds the wire time of `acc` bytes and the guard band. -/
def State.fits (s : State) (port acc n : Nat) : Bool :=
  decide (acc * 8 + s.fld F.SCH_PORT_CFG_GUARD_NS port * s.portRate port ≤ n * s.portRate port)

/-- A frame of service `v` and `acc` bytes is oversize for the active list of its port (R498). -/
def State.oversize (s : State) (port v acc : Nat) : Bool :=
  let g := s.gateList port
  let segs := gateSegs g.cycle 0 g.entries
  s.flag F.SCH_GATE_CTL_EN port && segs.all (fun x =>
    match gateRun g.cycle segs v x.1 with
    | none => true
    | some none => false
    | some (some n) => !s.fits port acc n)

/-- Whether a frame of service `v` and `acc` bytes may start now on a port (R497, R498). -/
def State.mayStart (s : State) (port v acc : Nat) : Bool :=
  match s.gateAt port v s.adjusted with
  | none => false
  | some none => true
  | some (some n) => s.fits port acc n || s.oversize port v acc

/-! Serving a port (R494, R495). -/

/-- The head frames of the subscriber queues of a port service, in round-robin order, that may start and whose
subscriber is eligible. -/
def State.heads (s : State) (port svc : Nat) : List TxFrame :=
  (Tbl.getD s.sch.order (svcKey port svc) []).filterMap (fun u =>
    (s.sch.frames.find? (fun f => f.inQueue u svc port)).filter (fun f =>
      s.sch.subOk u && s.mayStart port svc (s.accounted f)))

/-- The control frame that a port service may start. -/
def State.headControl (s : State) (port svc : Nat) : Option TxFrame :=
  (s.sch.control.find? (fun f => f.port == port && f.svc == svc)).filter (fun f => s.mayStart port svc (s.accounted f))

/-- Whether a port service may be chosen (R494). -/
def State.servable (s : State) (port svc : Nat) : Bool :=
  ((s.headControl port svc).isSome || !(s.heads port svc).isEmpty) &&
  decide (Tbl.getD s.sch.pause (svcKey port svc) 0 ≤ s.tb.time) && s.sch.pirOk (svcKey port svc)

/-- The order of R494 between two services: committed first, then PRIO, then the longest wait. -/
def State.svcBefore (s : State) (port a b : Nat) : Bool :=
  let ka := svcKey port a
  let kb := svcKey port b
  let ca := ofBit (!s.sch.cirOk ka)
  let cb := ofBit (!s.sch.cirOk kb)
  let pa := s.fld F.SCH_SVC_CFG_PRIO ka
  let pb := s.fld F.SCH_SVC_CFG_PRIO kb
  let ta := Tbl.getD s.sch.since ka 0
  let tb := Tbl.getD s.sch.since kb 0
  decide (ca < cb) || (ca == cb && (decide (pa < pb) || (pa == pb && decide (ta < tb))))

/-- The port service that R494 chooses. -/
def State.chooseSvc (s : State) (port : Nat) : Option Nat :=
  ((List.range 8).filter (s.servable port)).foldl (fun best v =>
    match best with
    | none => some v
    | some b => if s.svcBefore port v b then some v else some b) none

def defKey (port svc u : Nat) : Nat := svcKey port svc * 4096 + u

/-- Deficit round robin (R495): the first subscriber in order whose deficit covers its head frame; one that falls short
takes a quantum and goes behind the others. -/
def State.roundRobin (s : State) (port svc : Nat) : Nat → State × Option TxFrame
  | 0 => (s, none)
  | fuel + 1 =>
    match s.heads port svc with
    | [] => (s, none)
    | f :: _ =>
      let k := defKey port svc f.sub
      let d := Tbl.getD s.sch.deficit k 0
      if s.accounted f ≤ d then
        ({ s with sch := { s.sch with deficit := Tbl.put 0 k (d - s.accounted f) s.sch.deficit } }, some f)
      else
        let o := Tbl.getD s.sch.order (svcKey port svc) []
        State.roundRobin { s with sch := { s.sch with
          deficit := Tbl.set k (d + s.fld F.SCH_SUB_CFG_WEIGHT f.sub * 256) s.sch.deficit
          order := Tbl.set (svcKey port svc) (o.filter (fun u => u != f.sub) ++ [f.sub]) s.sch.order } } port svc fuel

/-- The frame that a port starts next, out of its queue. -/
def State.nextFrame (s : State) (port : Nat) : State × Option TxFrame :=
  match s.chooseSvc port with
  | none => (s, none)
  | some v =>
    match s.headControl port v with
    | some f => ({ s with sch := { s.sch with control := s.sch.control.erase f } }, some f)
    | none =>
      match s.roundRobin port v (4096 * 64) with
      | (s1, some f) => ({ s1 with sch := { s1.sch with frames := s1.sch.frames.erase f } }, some f)
      | r => r

/-- The function whose sources TX_BYTES counts a frame for (R503). -/
def State.txFn (s : State) (f : TxFrame) : Nat :=
  match f.src with
  | .qp q => (Tbl.getD s.rdm.qps q {}).fn
  | .ckp _ => s.fld F.CKP_CTL_FUNC 0
  | .control fn => fn

/-- The accounting of a frame that starts: shapers, TX_BYTES, OVERSIZE_CNT, the wire time and the age of its service
(R491, R492, R496, R498). -/
def State.accountFrame (s : State) (f : TxFrame) : State :=
  let n := s.accounted f
  let k := svcKey f.port f.svc
  let c := s.sch
  let big : Bool := match s.gateAt f.port f.svc s.adjusted with
    | some (some _) => s.oversize f.port f.svc n
    | _ => false
  let s1 : State := { s with sch := { c with
    subTok := match f.src with
      | .control _ => c.subTok
      | _ => drawn (Tbl.getD c.subRate f.sub 0) c.subTok f.sub n
    cirTok := if c.cirOk k then drawn (Tbl.getD c.cirRate k 0) c.cirTok k n else c.cirTok
    pirTok := drawn (Tbl.getD c.pirRate k 0) c.pirTok k n
    since := Tbl.set k s.tb.time c.since
    busyUntil := Tbl.set f.port (s.tb.time + ceilDiv (n * 8) (s.portRate f.port)) c.busyUntil } }
  let s2 := (s1.settleSvc f.port f.svc).bump F.SCH_FN_STAT_TX_BYTES (s.txFn f) n
  if big then s2.inc F.SCH_GATE_STAT_OVERSIZE_CNT f.port else s2

/-- The stream tag of a transmitted payload: its source queue pair (R614). -/
def TxFrame.tag (f : TxFrame) : Nat :=
  match f.src with
  | .qp q => q
  | .ckp q => q
  | .control _ => 0

/-- The frame in the security complex and on the wire (R30, R518): a frame that it cannot protect is dropped. -/
def State.emitFrame (s : State) (f : TxFrame) : State :=
  let s1 := s.snoop (16 + f.port) f.tag (match f.pkt with | some p => bodyData p.body | none => f.raw)
  let log := fun (t : State) (p : Option (Nat × Nat)) =>
    ({ t with sch := { t.sch with sent := ⟨f, t.adjusted, p⟩ :: t.sch.sent } } : State)
  if s.encrypts f then
    let i := f.peer.getD 0
    match s1.useKey (s.fld F.SEC_PEER_TX_SLOT i) .netTx with
    | (s2, .ok x) => log s2 (some (s.fld F.SEC_PEER_TX_SPI i, x.used + 1))
    | (s2, .error _) => s2.inc F.SEC_NET_CNT_KEY_DROP 0
  else log s1 none

/-! Gate registers. -/

/-- The shadow list of a port (R500). -/
def State.shadowList (s : State) (port : Nat) : GateList :=
  { entries := (List.range (s.fld F.SCH_GATE_CTL_LEN port)).map (fun k =>
      (s.fld (F.SCH_GATE_ENT_INTERVAL_NS.at k) port, s.fld (F.SCH_GATE_ENT_MASK.at k) port))
    base := s.fld F.SCH_GATE_BASE_BASE port
    cycle := s.fld F.SCH_GATE_CYCLE_CYCLE port }

/-- The shadow list made active. -/
def State.applyGates (s : State) (port : Nat) : State :=
  { s.setFlag F.SCH_GATE_STAT_PENDING port false with sch := { s.sch with
      gates := Tbl.put {} port (s.shadowList port) s.sch.gates, gateWait := Tbl.del port s.sch.gateWait } }

/-- GATE_APPLY (R500). -/
def execGateApply (port : Nat) (s : State) : Out :=
  when (port < 8 ∧ s.flag F.SCH_GATE_CTL_APPLY port = true) (
    let s1 := s.setFlag F.SCH_GATE_CTL_APPLY port false
    if !s.flag F.SCH_GATE_CTL_EN port then s1.applyGates port
    else
      { s1.setFlag F.SCH_GATE_STAT_PENDING port true with
        sch := { s.sch with gateWait := Tbl.set port s.adjusted s.sch.gateWait } }) s

/-- The first cycle start of a list at or after adjusted time `t`. -/
def GateList.cycleStart (g : GateList) (t : Nat) : Nat :=
  if t ≤ g.base then g.base else g.base + ceilDiv (t - g.base) g.cycle * g.cycle

/-- GATE_LIST_SWITCH (R500). -/
def execGateListSwitch (port : Nat) (s : State) : Out :=
  .next (
    match Tbl.find? port s.sch.gateWait with
    | none => s
    | some t =>
      if !s.flag F.SCH_GATE_CTL_EN port ∨ (s.gateList port).cycleStart t ≤ s.adjusted then s.applyGates port else s)

/-- The entry of a list at adjusted time `t`. -/
def GateList.entryAt (g : GateList) (t : Nat) : Nat :=
  if t < g.base then 0
  else ((gateSegs g.cycle 0 g.entries).filter (fun x => decide (x.1 ≤ (t - g.base) % g.cycle))).length - 1

/-- GATE_ENTRY_ADVANCE (R499): SCH_GATE_STAT shows the gates that are open now and the active entry. -/
def execGateEntryAdvance (port : Nat) (s : State) : Out :=
  when (port < 8) (
    let mask := sumOf ((List.range 8).map (fun v => ofBit (s.gateAt port v s.adjusted).isSome * 2 ^ v))
    (s.setFld F.SCH_GATE_STAT_OPEN port mask).setFld F.SCH_GATE_STAT_ENTRY port ((s.gateList port).entryAt s.adjusted)) s

/-! Pauses (R413, R501). -/

/-- The PAUSED bit of a port and priority. -/
def State.showPause (s : State) (port prio : Nat) (on : Bool) : State :=
  let v := s.fld F.SCH_GATE_STAT_PAUSED port
  s.setFld F.SCH_GATE_STAT_PAUSED port (setField v prio prio (ofBit on))

/-- PFC_FRAME_RECEIVE (R411, R413, R501): the priority pauses for `quanta` × 512 bit times at the port rate. -/
def execPfcFrameReceive (port prio quanta : Nat) (s : State) : Out :=
  when (prio < 8 ∧ s.canSend port = true ∧ bit (s.fld F.NET_PORT_CTL_PFC_EN port) prio = true) (
    let k := svcKey port prio
    let stop := s.tb.time + ceilDiv (quanta * 512) (s.portRate port)
    if quanta = 0 then
      ({ s with sch := { s.sch with pause := Tbl.del k s.sch.pause } } : State).showPause port prio false
    else ({ s with sch := { s.sch with pause := Tbl.set k stop s.sch.pause } } : State).showPause port prio true) s

/-- PAUSE_EXPIRY (R501). -/
def execPauseExpiry (port prio : Nat) (s : State) : Out :=
  .next (
    match Tbl.find? (svcKey port prio) s.sch.pause with
    | some t =>
      if t ≤ s.tb.time then
        ({ s with sch := { s.sch with pause := Tbl.del (svcKey port prio) s.sch.pause } } : State).showPause port prio false
      else s
    | none => s)

end Sys2Proof.Machine
end

