-- ==== Sys2Proof/Machine/Net.lean ====
section
/-! DEFINITION. The Ethernet ports (R409 to R415), the header stage (R416 to R418), frame protection on receive (R517, R519),
Lexicon (R419, R420), tables and banks, fragments, the flow table and classification (R421 to R440). -/

namespace Sys2Proof.Machine

/-! Bytes of a frame. -/

def byteAt (l : List Byte) (i : Nat) : Nat := (l.getD i 0).toNat
def be (l : List Byte) (i n : Nat) : Nat := ofBytesBE ((l.drop i).take n)

/-- An IPv4 address in the form of R418. -/
def mapV4 (a : List Byte) : List Byte := List.replicate 10 0 ++ [0xFF, 0xFF] ++ a

/-! The header stage. -/

/-- What follows in a frame. -/
inductive NextHdr where
  | ethernet (outer : Bool)
  | etype (v : Nat)
  | ipv4 | ipv6
  | proto (v : Nat)
  /-- UDP destination port, selector of a custom node -/
  | port (v : Nat)
  | sel (v : Nat)
  | payload
deriving DecidableEq, Repr

/-- Fields of a parse node (R417). -/
def nodeOn (w : Nat) : Nat := field w 62 61
def nodeMatch (w : Nat) : Nat := field w 60 45
def nodeThen (w : Nat) : Nat := field w 44 42
def nodeLen (w : Nat) : Nat := field w 41 36
def nodeVar (w : Nat) : Bool := bit w 35

/-- The node that follows a next-protocol value, if one does (R417). -/
def findNode (nodes : List Nat) (n : NextHdr) : Option Nat :=
  let hit := fun (on v : Nat) => nodes.find? (fun w => bit w 63 && nodeOn w == on && nodeMatch w == v)
  match n with
  | .etype v => hit 0 v
  | .proto v => hit 1 v
  | .port v => hit 2 v
  | .sel v => hit 3 v
  | _ => none

/-- The EtherType position behind the VLAN tags (up to two) that start at `i`, and the outer tag. -/
def skipTags (b : List Byte) (i : Nat) : Nat × Option Nat :=
  let tag := fun j => be b j 2 == 0x8100 || be b j 2 == 0x88A8
  if tag i then ((if tag (i + 4) then i + 8 else i + 4), some (be b (i + 2) 2)) else (i, none)

/-- One header of a kind at an offset: its length, what follows, and what the parse records; none where the bytes are not
such a header. -/
def oneHeader (nodes : List Nat) (b : List Byte) (ext : Nat) (n : NextHdr) (off : Nat) (p : Parse) :
    Option (Nat × NextHdr × Parse) :=
  match findNode nodes n with
  | some w =>
    let len := if nodeVar w then byteAt b (off + field w 34 29) * 4 else nodeLen w * 4
    let nxt := match nodeThen w with
      | 1 => .ethernet false
      | 2 => .ipv4
      | 3 => .ipv6
      | 4 => .sel (be b (off + field w 28 23) 2)
      | _ => .payload
    some (len, nxt, p)
  | none =>
    match n with
    | .ethernet outer =>
      let t := skipTags b (off + 12)
      let et := be b t.1 2
      some (t.1 + 2 - off, .etype et,
        if outer then { p with dmac := be b off 6, etype := et, tci := t.2.getD 0, vlan := t.2.map (fun x => x % 4096) }
        else p)
    | .etype 0x0800 => some (0, .ipv4, p)
    | .etype 0x86DD => some (0, .ipv6, p)
    | .ipv4 =>
      let hl := byteAt b off % 16 * 4
      if byteAt b off / 16 ≠ 4 ∨ hl < 20 then none
      else
        let fr := be b (off + 6) 2
        let later := fr % 8192 != 0
        let p1 : Parse := { p with
          src := mapV4 (slice b (off + 12) 4), dst := mapV4 (slice b (off + 16) 4), proto := byteAt b (off + 9)
          sport := 0, dport := 0, udp := false, tcp := false, ip := true, ipv6 := false, l3 := off, l4 := 0
          ecn := byteAt b (off + 1) % 4
          frag := if later || bit fr 13 then some (be b (off + 4) 2, later, bit fr 13) else none }
        some (hl, (if later then .payload else .proto p1.proto), p1)
    | .ipv6 =>
      if byteAt b off / 16 ≠ 6 then none
      else
        let nh := byteAt b (off + 6)
        some (40, .proto nh, { p with
          src := slice b (off + 8) 16, dst := slice b (off + 24) 16, proto := nh, sport := 0, dport := 0
          udp := false, tcp := false, ip := true, ipv6 := true, l3 := off, l4 := 0
          ecn := (be b off 2 / 16) % 4, frag := none })
    | .proto 17 =>
      some (8, .port (be b (off + 2) 2), { p with
        sport := be b off 2, dport := be b (off + 2) 2, udp := true, l4 := off
        payEnd := min b.length (off + max 8 (be b (off + 4) 2)) })
    | .proto 6 =>
      let hl := byteAt b (off + 12) / 16 * 4
      if hl < 20 then none
      else some (hl, .payload, { p with sport := be b off 2, dport := be b (off + 2) 2, tcp := true, l4 := off })
    | .proto v =>
      if !p.ipv6 ∨ 4 ≤ ext then none
      else if v = 44 then
        let fr := be b (off + 2) 2
        let later := fr / 8 != 0
        let nh := byteAt b off
        some (8, (if later then .payload else .proto nh), { p with
          proto := nh, frag := if later || bit fr 0 then some (be b (off + 4) 4, later, bit fr 0) else none })
      else if v = 0 ∨ v = 43 ∨ v = 60 then
        let nh := byteAt b off
        some ((byteAt b (off + 1) + 1) * 8, .proto nh, { p with proto := nh })
      else none
    | .port 4791 => some (12, .payload, p)
    | .port 4789 => some (8, .ethernet false, p)
    | _ => none

/-- Whether a step counts as an IPv6 extension header, or as no header at all (an EtherType that names IP). -/
def isExt (nodes : List Nat) (n : NextHdr) : Bool :=
  (findNode nodes n).isNone && (match n with | .proto v => [0, 43, 44, 60].contains v | _ => false)
def isLink (nodes : List Nat) (n : NextHdr) : Bool :=
  (findNode nodes n).isNone && (match n with | .etype v => v == 0x0800 || v == 0x86DD | _ => false)

/-- The parse from an offset: at most 10 headers and 256 bytes (R416); a custom header of no length ends it (R417). -/
def parseFrom (nodes : List Nat) (b : List Byte) : Nat → Nat → Nat → NextHdr → Nat → Parse → Parse
  | 0, _, _, _, off, p => { p with pay := off, limit := true }
  | fuel + 1, count, ext, n, off, p =>
    match n with
    | .payload => { p with pay := off }
    | _ =>
      match oneHeader nodes b ext n off p with
      | none => { p with pay := off }
      | some (len, nxt, p1) =>
        if isLink nodes n then parseFrom nodes b fuel count ext nxt off p1
        else if len = 0 then { p with pay := off, limit := true }
        else if isExt nodes n then
          if 256 < off + len then { p with pay := off, limit := true }
          else if b.length < off + len then { p with pay := off }
          else parseFrom nodes b fuel count (ext + 1) nxt (off + len) p1
        else if 10 ≤ count ∨ 256 < off + len then { p with pay := off, limit := true }
        else if b.length < off + len then { p with pay := off }
        else parseFrom nodes b fuel (count + 1) (match n with | .ipv6 => 0 | _ => ext) nxt (off + len) p1

/-- The parse of a frame under a bank (R416, R417). -/
def parseFrame (k : NetBank) (b : List Byte) : Parse :=
  let p := parseFrom ((List.range 32).map (fun i => (Tbl.getD k.nodes i 0).toNat)) b 80 0 0 (.ethernet true) 0
    { payEnd := b.length }
  { p with payEnd := if p.udp then p.payEnd else b.length }

/-- The flow key (R418). -/
def Parse.key (p : Parse) : List Byte :=
  if p.ip then
    p.src ++ p.dst ++ [BitVec.ofNat 8 p.proto, 0] ++ (toBytes 2 p.sport).reverse ++ (toBytes 2 p.dport).reverse ++
      (toBytes 2 (p.vlan.getD 0)).reverse
  else List.replicate 40 0

/-- The flow hash (R418). -/
def Parse.hash (p : Parse) : Nat := crcOf crc32c p.key

/-- The fragment key: addresses, protocol, identification (R423). -/
def Parse.fragKey (p : Parse) (id : Nat) : List Byte := p.src ++ p.dst ++ [BitVec.ofNat 8 p.proto] ++ toBytes 4 id

/-- A later fragment; a first fragment (R423). -/
def Parse.laterFrag (p : Parse) : Option Nat :=
  match p.frag with
  | some (id, true, _) => some id
  | _ => none
def Parse.firstFrag (p : Parse) : Option Nat :=
  match p.frag with
  | some (id, false, true) => some id
  | _ => none

/-! Tables and banks. -/

def State.bank (s : State) (k : Bool) : NetBank := if k then s.net.bank1 else s.net.bank0
def State.setBank (s : State) (k : Bool) (b : NetBank) : State :=
  { s with net := if k then { s.net with bank1 := b } else { s.net with bank0 := b } }

/-- The active bank (R421). -/
def State.activeBank (s : State) : Bool := s.flag F.NET_TBL_RESULT_ACTIVE 0

/-- Bytes of an entry, and entries, of a table kind. -/
def tblEntry (kind : Nat) : Nat := match kind with | 0 => 8 | 1 => 16 | 2 => 32 | _ => 64
def tblSize (kind : Nat) : Nat := match kind with | 0 => 32 | 2 => 256 | _ => 1024

/-- An action with a reserved encoding (R434). -/
def actionBad (w : Nat) : Bool := decide (12 < field w 39 36) || field w 1 0 == 3

/-- An entry in use that holds a reserved encoding (R417, R419, R434). -/
def entryBad (kind : Nat) (e : List Byte) : Bool :=
  let w0 := leAt e 0 8
  match kind with
  | 0 => bit w0 63 && (decide (4 < nodeThen w0) || nodeLen w0 == 0 || decide (62 < field w0 28 23))
  | 1 => bit w0 63 && actionBad (leAt e 8 8)
  | 2 => bit w0 63 && actionBad (leAt e 24 8)
  | _ => let c := leAt e 48 8
         bit c 63 && !decide (1 ≤ field c 44 40 ∧ field c 44 40 ≤ 24)

/-- An entry written into a bank. -/
def NetBank.put (b : NetBank) (kind i : Nat) (e : List Byte) : NetBank :=
  match kind with
  | 0 => { b with nodes := Tbl.set i (BitVec.ofNat 64 (leAt e 0 8)) b.nodes }
  | 1 => { b with macs := Tbl.set i (wordsOf 2 e) b.macs }
  | 2 => { b with rules := Tbl.set i (wordsOf 4 e) b.rules }
  | _ => { b with patterns := Tbl.set i e b.patterns }

/-- A table command's result (R421, R422). -/
def State.tblDone (s : State) (r : Nat) : State :=
  ((s.setFld F.NET_TBL_RESULT_RESULT 0 r).setFlag F.NET_TBL_RESULT_BUSY 0 false).setFlag F.NET_TBL_RESULT_DONE 0 true

/-- TABLE_LOAD (R421): the whole source is read before any entry is written. -/
def execTableLoad (env : Env) (s : State) : Out :=
  .next (
    if s.flag F.NET_TBL_CMD_GO 0 ∧ s.fld F.NET_TBL_CMD_OP 0 = 0 ∧ s.net.swapping = false then
      let s1 := s.setFlag F.NET_TBL_CMD_GO 0 false
      let kind := s.fld F.NET_TBL_CMD_KIND 0
      let n := s.fld F.NET_TBL_CMD_COUNT 0
      let first := s.fld F.NET_TBL_CMD_FIRST 0
      let z := tblEntry kind
      if tblSize kind < first + n then s1.tblDone 1
      else
        match s1.readFor env 0 (s.fld F.NET_TBL_ADDR_ADDR 0 * 64) (n * z) with
        | (_, .wait) => s
        | (s2, .fail _) => s2.tblDone 2
        | (s2, .ok bs) =>
          let es := (List.range n).map (fun i => slice bs (i * z) z)
          if es.any (entryBad kind) then s2.tblDone 1
          else
            let k := !s.activeBank
            (s2.setBank k ((List.range n).foldl (fun b i => b.put kind (first + i) (es.getD i [])) (s2.bank k))).tblDone 0
    else s)

/-- TABLE_SWAP (R422). -/
def execTableSwap (s : State) : Out :=
  when (s.flag F.NET_TBL_CMD_GO 0 = true ∧ s.fld F.NET_TBL_CMD_OP 0 = 1 ∧ s.net.swapping = false) (
    let s1 := ((s.setFlag F.NET_TBL_CMD_GO 0 false).setFlag F.NET_TBL_RESULT_BUSY 0 true).setFlag
      F.NET_TBL_RESULT_ACTIVE 0 (!s.activeBank)
    { s1 with net := { s1.net with swapping := true } }) s

/-- TABLE_SWAP_DONE (R422): every frame of the old bank has left the reorder stage. -/
def execTableSwapDone (s : State) : Out :=
  when (s.net.swapping = true ∧ s.net.reorder.all (fun q => q.2.all (fun f => f.bank == s.activeBank)) = true) (
    ({ s with net := { s.net with swapping := false } } : State).tblDone 0) s

/-! Lexicon. -/

/-- Whether a pattern matches at a payload offset (R420). -/
def patternAt (e payload : List Byte) (o : Nat) : Bool :=
  let len := field (leAt e 48 8) 44 40
  decide (o + len ≤ payload.length) &&
  (List.range len).all (fun i =>
    (payload.getD (o + i) 0 &&& e.getD (24 + i) 0) == (e.getD i 0 &&& e.getD (24 + i) 0))

/-- The lowest-numbered pattern that matches (R419, R420). -/
def lexicon (k : NetBank) (window : Nat) (payload : List Byte) : Option Nat :=
  let p := payload.take window
  (k.patterns.find? (fun x =>
    let c := leAt x.2 48 8
    bit c 63 &&
    (if bit c 62 then patternAt x.2 p (field c 58 48)
     else (List.range (window + 1 - field c 44 40)).any (patternAt x.2 p)))).map (fun x => x.1)

/-! The flow table. -/

def State.flowSet (s : State) (i : Nat) : List FlowEntry := Tbl.getD s.net.flows i []

/-- A set of the on-chip table written, and CHIP_USED. -/
def State.setFlowSet (s : State) (i : Nat) (l : List FlowEntry) : State :=
  let t := Tbl.put [] i l s.net.flows
  ({ s with net := { s.net with flows := t } } : State).setFld F.NET_FLOW_STAT_CHIP_USED 0
    (sumOf (t.map (fun x => x.2.length)))

/-- Where entry `j` of bucket `b` of the memory-backed table lies (R429). -/
def State.flowAddr (s : State) (b j : Nat) : Nat := s.net.flowBase + b * 256 + j * 64

/-- A flow entry as 64 bytes (R428), and back. -/
def FlowEntry.bytes (e : FlowEntry) : List Byte := e.key ++ toBytes 8 e.action ++ toBytes 8 e.lastHit ++ toBytes 8 e.hits
def flowOf (b : List Byte) : Option FlowEntry :=
  if bit (leAt b 40 8) 63 then some ⟨b.take 40, leAt b 40 8, leAt b 48 8, leAt b 56 8⟩ else none

/-- The entries of a bucket; a poisoned block holds none. -/
def State.bucket (s : State) (b : Nat) : List (Option FlowEntry) :=
  (List.range 4).map (fun j =>
    if s.poisoned (s.flowAddr b j) then none else flowOf (s.devRead (s.flowAddr b j) 64))

def State.hasFlowMem (s : State) : Bool := s.net.flowLog2 != 0
def State.bucketOf (s : State) (key : List Byte) : Nat := crcOf crc32c key % 2 ^ s.net.flowLog2

/-- The place of a key in the memory-backed table: bucket, entry number, entry. -/
def State.findMem (s : State) (key : List Byte) : Option (Nat × Nat × FlowEntry) :=
  if s.hasFlowMem then
    let b := s.bucketOf key
    (List.range 4).findSome? (fun j =>
      match ((s.bucket b).getD j none) with
      | some e => if e.key = key then some (b, j, e) else none
      | none => none)
  else none

/-- Entry `j` of bucket `b` written, or cleared. -/
def State.putMem (s : State) (b j : Nat) (e : Option FlowEntry) : State :=
  s.devWrite (s.flowAddr b j) (match e with | some x => x.bytes | none => List.replicate 64 0)

/-- A free place of a bucket. -/
def State.freeMem (s : State) (b : Nat) : Option Nat :=
  (List.range 4).find? (fun j => ((s.bucket b).getD j none).isNone)

/-- The entry of a set whose LAST_HIT is oldest. -/
def oldestFlow : List FlowEntry → Option FlowEntry
  | [] => none
  | e :: t => some (t.foldl (fun a b => if b.lastHit < a.lastHit then b else a) e)

/-- A hit in the memory-backed table (R431): the entry changes places with the oldest on-chip entry of its set. -/
def State.promote (s : State) (b j : Nat) (e : FlowEntry) : State :=
  let i := crcOf crc32c e.key % 4096
  let l := s.flowSet i
  if l.length < 16 then (s.putMem b j none).setFlowSet i (l ++ [e])
  else
    match oldestFlow l with
    | none => s.putMem b j (some e)
    | some v =>
      let s1 := s.putMem b j none
      let vb := s1.bucketOf v.key
      match s1.freeMem vb with
      | some q => (s1.putMem vb q (some v)).setFlowSet i (l.erase v ++ [e])
      | none => s.putMem b j (some e)

/-- A lookup with its hit (R428, R429, R431): source and action. -/
def State.flowLookup (s : State) (key : List Byte) : State × Option (Nat × Nat) :=
  let i := crcOf crc32c key % 4096
  let l := s.flowSet i
  let hit := fun (e : FlowEntry) => { e with lastHit := s.tb.time, hits := (e.hits + 1) % 2 ^ 64 }
  match l.find? (fun e => e.key == key) with
  | some e => (s.setFlowSet i (l.map (fun x => if x.key = key then hit x else x)), some (0, e.action))
  | none =>
    match s.findMem key with
    | some (b, j, e) => (s.promote b j (hit e), some (1, e.action))
    | none => (s, none)

/-- A flow command's result (R430). -/
def State.flowDone (s : State) (r : Nat) : State :=
  ((s.setFld F.NET_FLOW_RESULT_RESULT 0 r).setFlag F.NET_FLOW_RESULT_BUSY 0 false).setFlag F.NET_FLOW_RESULT_DONE 0 true

def State.flowReady (s : State) (op : Nat) : Bool := s.flag F.NET_FLOW_CMD_GO 0 && s.fld F.NET_FLOW_CMD_OP 0 == op
def State.flowAt (s : State) : Nat := s.fld F.NET_FLOW_CMD_ADDR 0 * 64

/-- The entry at ADDR read for a flow command; a failed read answers INVALID. -/
def State.flowCmd (s : State) (env : Env) (op : Nat) (f : State → List Byte → State) : Out :=
  .next (
    if s.flowReady op then
      match (s.setFlag F.NET_FLOW_CMD_GO 0 false).readFor env 0 s.flowAt 64 with
      | (_, .wait) => s
      | (s1, .fail _) => s1.flowDone 3
      | (s1, .ok b) => f s1 b
    else s)

/-- A new entry put into its set, the oldest entry of a full set into its bucket (R430). -/
def State.flowPlace (s : State) (e : FlowEntry) : State :=
  let i := crcOf crc32c e.key % 4096
  let l := s.flowSet i
  if l.length < 16 then (s.setFlowSet i (l ++ [e])).flowDone 0
  else
    match oldestFlow l with
    | none => s
    | some v =>
      let full := (s.flowDone 1).postEvent {} 0 0x7002 0 0
      if !s.hasFlowMem then full
      else
        match s.freeMem (s.bucketOf v.key) with
        | none => full
        | some q =>
          (((s.putMem (s.bucketOf v.key) q (some v)).inc F.NET_FLOW_STAT_EVICT_CNT 0).setFlowSet i (l.erase v ++ [e])).flowDone 0

/-- FLOW_INSERT (R430, R440). -/
def execFlowInsert (env : Env) (s : State) : Out :=
  s.flowCmd env 0 (fun s1 b =>
    let key := b.take 40
    let act := leAt b 40 8
    let i := crcOf crc32c key % 4096
    if !bit act 63 ∨ actionBad act then s1.flowDone 3
    else if (s1.flowSet i).any (fun e => e.key == key) then
      (s1.setFlowSet i ((s1.flowSet i).map (fun e => if e.key = key then { e with action := act } else e))).flowDone 0
    else
      match s1.findMem key with
      | some (k, j, e) => (s1.putMem k j (some { e with action := act })).flowDone 0
      | none => s1.flowPlace ⟨key, act, s1.tb.time, 0⟩)

/-- FLOW_DELETE (R430). -/
def execFlowDelete (env : Env) (s : State) : Out :=
  s.flowCmd env 1 (fun s1 b =>
    let key := b.take 40
    let i := crcOf crc32c key % 4096
    if (s1.flowSet i).any (fun e => e.key == key) then
      (s1.setFlowSet i ((s1.flowSet i).filter (fun e => e.key != key))).flowDone 0
    else
      match s1.findMem key with
      | some (k, j, _) => (s1.putMem k j none).flowDone 0
      | none => s1.flowDone 2)

/-- FLOW_QUERY (R430). -/
def execFlowQuery (env : Env) (s : State) : Out :=
  s.flowCmd env 2 (fun s1 b =>
    let key := b.take 40
    let found : Option FlowEntry := match (s1.flowSet (crcOf crc32c key % 4096)).find? (fun e => e.key == key) with
      | some e => some e
      | none => (s1.findMem key).map (fun x => x.2.2)
    match found with
    | none => s1.flowDone 2
    | some e =>
      match s1.writeFor env 0 s.flowAt e.bytes with
      | (s2, .ok _) => s2.flowDone 0
      | (s2, .fail _) => s2.flowDone 3
      | (_, .wait) => s)

/-- Whether the sweep removes an entry (R432). -/
def FlowEntry.aged (e : FlowEntry) (now age : Nat) : Bool := bit e.action 62 && decide (e.lastHit + age < now)

/-- FLOW_AGE_SWEEP (R432): the on-chip table, then the memory-backed one. -/
def execFlowAgeSweep (s : State) : Out :=
  let age := s.fld F.NET_FLOW_CTL_AGE_S 0 * 1000000000
  when (s.net.lastSweep + age ≤ s.tb.time) (
    let now := s.tb.time
    let s1 := s.net.flows.foldl (fun t x =>
      let keep := x.2.filter (fun e => !e.aged now age)
      (t.setFlowSet x.1 keep).bump F.NET_FLOW_STAT_AGED_CNT 0 (x.2.length - keep.length)) s
    let s2 := if s.hasFlowMem then
        (List.range (2 ^ s.net.flowLog2 * 4)).foldl (fun t k =>
          match (t.bucket (k / 4)).getD (k % 4) none with
          | some e => if e.aged now age then (t.putMem (k / 4) (k % 4) none).inc F.NET_FLOW_STAT_AGED_CNT 0 else t
          | none => t) s1
      else s1
    { s2 with net := { s2.net with lastSweep := now } }) s

/-- What a write to NET_FLOW_MEM does (R433): the memory-backed table has its new place, empty. -/
def State.flowMemChanged (s : State) : State :=
  let lg := s.fld F.NET_FLOW_MEM_LOG2 0
  let base := s.fld F.NET_FLOW_MEM_BASE 0 * 256
  let s1 : State := { s with net := { s.net with flowLog2 := lg, flowBase := base } }
  if lg = 0 then s1 else s1.setDev (s1.mem.dev.erase base (base + 256 * 2 ^ lg))

/-- FLOW_MEM_WRITE (R433). -/
def execFlowMemWrite (who : Requester) (v : Word) (s : State) : Out :=
  when (s.ddtReady = true ∧ isVf who = false) ((s.touch who).writeWhole [F.NET_FLOW_MEM_LOG2, F.NET_FLOW_MEM_BASE] v.toNat).flowMemChanged s

/-! Classification. -/

/-- The lowest-numbered MAC filter that a frame hits (R435). -/
def macHit (k : NetBank) (p : Parse) : Option (Nat × Nat) :=
  (k.macs.find? (fun x =>
    let w := wordAt x.2 0
    bit w 63 && field w 47 0 == p.dmac && (bit w 62 || (p.vlan == some (field w 59 48))))).map
    (fun x => (x.1, wordAt x.2 1))

/-- Whether a rule matches (R436). -/
def ruleHits (r : List Word) (p : Parse) (lex : Option Nat) (mac : Option Nat) : Bool :=
  let w0 := wordAt r 0
  let w1 := wordAt r 1
  let w2 := wordAt r 2
  let lo := field w1 47 32
  let hi := field w1 63 48
  bit w0 63 &&
  ((p.proto &&& field w0 47 40) == (field w0 55 48 &&& field w0 47 40)) &&
  ((p.etype &&& field w0 15 0) == (field w0 31 16 &&& field w0 15 0)) &&
  (if p.udp || p.tcp then decide (lo ≤ p.dport ∧ p.dport ≤ hi) else lo == 0 && hi == 0xFFFF) &&
  (!bit w1 12 || lex == some (field w1 11 0)) &&
  (!bit w2 63 || mac == some (field w2 57 48))

/-- FUNC, KIND and the queue of an action (R434). -/
def actFn (a : Nat) : Nat := field a 47 40
def actKind (a : Nat) : Nat := field a 1 0
def actQueue (a hash : Nat) : Nat := field a 31 12 + hash % 2 ^ field a 39 36

/-- Steps 2 to 5 of R437; none is step 6. -/
def State.classify (s : State) (k : NetBank) (p : Parse) (lex : Option Nat) : State × Option NetDecision :=
  match s.flowLookup p.key with
  | (s1, some (src, a)) => (s1, some ⟨src, a, 0⟩)
  | (s1, none) =>
    let mac : Option (Nat × Nat) := macHit k p
    let roce : Option (Nat × Nat) := mac.filter (fun (m : Nat × Nat) => p.udp && p.dport == 4791 && s.flag F.HEP_FN_CTL_NETWORK (actFn m.2))
    match roce with
    | some m => (s1, some ⟨2, actFn m.2 * 2 ^ 40 + 1, m.1⟩)
    | none =>
      match k.rules.find? (fun (x : Nat × List Word) => ruleHits x.2 p lex (mac.map (fun m => m.1))) with
      | some x => (s1, some ⟨3, wordAt x.2 3, x.1⟩)
      | none =>
        match mac with
        | some m => (s1, some ⟨4, m.2, m.1⟩)
        | none => (s1, none)

/-! Frame protection on receive (R517, R519). -/

/-- The IPv4 header checksum over a header whose checksum field counts as zero. -/
def ipChecksum (h : List Byte) : Nat :=
  let n := sumOf ((List.range (h.length / 2)).map (fun i => if i = 5 then 0 else be h (2 * i) 2))
  let f := n % 65536 + n / 65536
  0xFFFF - (f % 65536 + f / 65536)

/-- Two big-endian bytes replaced. -/
def putBe16 (b : List Byte) (i v : Nat) : List Byte := b.take i ++ (toBytes 2 v).reverse ++ b.drop (i + 2)

/-- A frame without its protection: header and ICV removed, INNER_PORT and the lengths restored. -/
def unprotect (b : List Byte) (p : Parse) (inner : Nat) (plain : List Byte) : List Byte :=
  let u := p.l4
  let b1 := b.take (u + 8) ++ plain
  let b2 := putBe16 (putBe16 b1 (u + 2) inner) (u + 4) (be b (u + 4) 2 - 32)
  if p.ipv6 then putBe16 b2 (p.l3 + 4) (be b (p.l3 + 4) 2 - 32)
  else
    let b3 := putBe16 b2 (p.l3 + 2) (be b (p.l3 + 2) 2 - 32)
    putBe16 b3 (p.l3 + 10) (ipChecksum (slice b3 p.l3 (byteAt b p.l3 % 16 * 4)))

/-- The replay test of R519 step 2. -/
def SpiWindow.replayed (w : SpiWindow) (pn : Nat) : Bool := pn == 0 || decide (pn + 128 ≤ w.high) || w.seen.contains pn

/-- The window with a packet number marked. -/
def SpiWindow.mark (w : SpiWindow) (pn : Nat) : SpiWindow :=
  let h := Nat.max w.high pn
  { high := h, seen := (pn :: w.seen).filter (fun x => decide (h < x + 128)) }

/-- The SPI entry in use that holds an SPI. -/
def State.spiEntry (s : State) (spi : Nat) : Option Nat :=
  (List.range 4096).find? (fun i => s.flag F.SEC_SPI_RX_EN_OR_VALID i && s.fld F.SEC_SPI_RX_SPI i == spi)

/-- The security complex on receive (R519): the frame, its parse and DECRYPTED, or a drop. -/
def State.unseal (s : State) (b : List Byte) (p : Parse) : State × Option (List Byte × Parse × Bool) :=
  if !p.udp ∨ p.dport ≠ s.fld F.SEC_CTL_PROT_PORT 0 then (s, some (b, p, false))
  else
    let pl := slice b (p.l4 + 8) (p.payEnd - (p.l4 + 8))
    match s.spiEntry (be pl 0 4) with
    | none => (s.inc F.SEC_NET_CNT_NOSPI_DROP 0, none)
    | some i =>
      let pn := be pl 8 8
      let w : SpiWindow := Tbl.getD s.sec.spi i {}
      if w.replayed pn then (s.inc F.SEC_NET_CNT_REPLAY_DROP 0, none)
      else
        match s.useKey (s.fld F.SEC_SPI_RX_SLOT i) .netRx with
        | (s1, .error _) => (s1.inc F.SEC_NET_CNT_KEY_DROP 0, none)
        | (s1, .ok k) =>
          let ct := slice pl 16 (pl.length - 32)
          match gcmOpen k.key (keyNonce k pn) (pl.take 16) ct (pl.drop (pl.length - 16)) with
          | none => (s1.inc F.SEC_NET_CNT_AUTH_DROP 0, none)
          | some plain =>
            let s2 : State := { s1 with sec := { s1.sec with spi := Tbl.set i (w.mark pn) s1.sec.spi } }
            let inner := be pl 4 2
            let p1 : Parse := { p with dport := inner, payEnd := p.payEnd - 32 }
            (s2, some (unprotect b p inner plain, p1, true))

/-! Fragments. -/

/-- The fragment follow table written, and USED. -/
def State.setFrags (s : State) (l : List FragEntry) : State :=
  ({ s with net := { s.net with frags := l } } : State).setFld F.NET_FRAG_STAT_USED 0 l.length

def State.findFrag (s : State) (key : List Byte) : Option FragEntry := s.net.frags.find? (fun e => e.key == key)

/-- A frame put behind the others of its port in the reorder stage. -/
def State.toReorder (s : State) (f : RxFrame) : State :=
  { s with net := { s.net with reorder := Tbl.set f.port (Tbl.getD s.net.reorder f.port [] ++ [f]) s.net.reorder } }

/-- The decision of a first fragment recorded, and the held fragments of its key released (R424, R426, R427). -/
def State.recordFrag (s : State) (key : List Byte) (d : NetDecision) : State :=
  let l := s.net.frags.filter (fun e => e.key != key)
  let full := decide (4096 ≤ l.length)
  let s1 := if full then s.inc F.NET_FRAG_STAT_EVICT_CNT 0 else s
  let s2 := s1.setFrags ((if full then l.drop 1 else l) ++ [⟨key, d, s.tb.time⟩])
  let mine := fun (f : RxFrame) => (f.parse.frag.map (fun x => f.parse.fragKey x.1)) == some key
  (s.net.hold.filter mine).foldl (fun t f => t.toReorder { f with decision := { d with source := 5 } })
    { s2 with net := { s2.net with hold := s2.net.hold.filter (fun f => !mine f) } }

/-- A later fragment: it follows its entry, or is held (R425, R426). -/
def State.laterFragment (s : State) (f : RxFrame) (key : List Byte) : State :=
  match s.findFrag key with
  | some e =>
    (s.setFrags (s.net.frags.erase e ++ [{ e with used := s.tb.time }])).toReorder
      { f with decision := { e.decision with source := 5 } }
  | none =>
    if 512 ≤ s.net.hold.length then s.inc F.NET_FRAG_STAT_HOLD_FULL_CNT 0
    else { s with net := { s.net with hold := s.net.hold ++ [f] } }

/-- Entries of the fragment follow table that have expired (R424), and held fragments whose 1 ms has passed, drop out before the
table is used; a coincident recording is applied first (R427). -/
def State.fragExpire (s : State) : State :=
  let keep := fun (f : RxFrame) => decide (s.tb.time ≤ f.time + 1000000)
  let s1 := s.setFrags (s.net.frags.filter (fun e => decide (s.tb.time < e.used + s.fld F.NET_FRAG_CTL_LIFE_US 0 * 1000)))
  ({ s1 with net := { s1.net with hold := s1.net.hold.filter keep } } : State).bump F.NET_FRAG_STAT_EARLY_DROP_CNT 0
    (s.net.hold.filter (fun f => !keep f)).length

/-- FRAGMENT_HOLD_EXPIRY (R426). -/
def execFragmentHoldExpiry (s : State) : Out :=
  .next (
    match s.net.hold with
    | f :: rest =>
      if f.time + 1000000 ≤ s.tb.time then
        ({ s with net := { s.net with hold := rest } } : State).inc F.NET_FRAG_STAT_EARLY_DROP_CNT 0
      else s
    | [] => s)

/-- FRAGMENT_ENTRY_EXPIRY (R424). -/
def execFragmentEntryExpiry (s : State) : Out :=
  .next (s.setFrags (s.net.frags.filter (fun e =>
    decide (s.tb.time < e.used + s.fld F.NET_FRAG_CTL_LIFE_US 0 * 1000))))

/-! Receive. -/

/-- The priority of a frame (R412). -/
def framePrio (b : List Byte) : Nat := match (skipTags b 12).2 with | some t => t / 8192 | none => 0

/-- The pipeline of R30 from a parse engine to the reorder stage (R416 to R427, R437, R519). -/
def State.pipeline (s : State) (port : Nat) (b : List Byte) (stamp time : Nat) : State :=
  let act := s.activeBank
  let k := s.bank act
  let p := parseFrame k b
  let s1 := if p.limit then s.inc F.NET_PORT_CNT_PARSE_LIMIT_CNT port else s
  match s1.unseal b p with
  | (s2, none) => s2
  | (s2, some (b1, p1, dec)) =>
    let lex := if p1.laterFrag.isSome then none
      else lexicon k (s.fld F.NET_LEX_CTL_WINDOW 0) (slice b1 p1.pay (p1.payEnd - p1.pay))
    let f : RxFrame := { port := port, prio := framePrio b, bytes := b1, parse := p1, hash := p1.hash, lex := lex
                         decrypted := dec, stamp := stamp, time := time, decision := ⟨0, 0, 0⟩, bank := act }
    match p1.laterFrag with
    | some id => s2.fragExpire.laterFragment f (p1.fragKey id)
    | none =>
      match s2.classify k p1 lex with
      | (s3, none) => s3.inc F.NET_PORT_CNT_NOMATCH_CNT port
      | (s3, some d) =>
        let s4 := if actKind d.action = 2 then s3.inc F.NET_FN_STAT_DROP_CNT (actFn d.action)
          else s3.toReorder { f with decision := d }
        match p1.firstFrag with
        | some id => s4.fragExpire.recordFrag (p1.fragKey id) d
        | none => s4

/-- A pause frame sent for a priority (R412). -/
def State.sendPause (s : State) (port prio : Nat) (x : Bool) : State :=
  { s with net := { s.net with
      xoff := Tbl.put false (svcKey port prio) x s.net.xoff, pauses := (port, prio, x) :: s.net.pauses } }

/-- The bytes that a priority holds in a port's buffer, and XOFF or XON where they cross a threshold (R412). -/
def State.setHeld (s : State) (port prio n : Nat) : State :=
  let k := svcKey port prio
  let s1 : State := { s with net := { s.net with held := Tbl.put 0 k n s.net.held } }
  let lim := s.fld F.NET_PORT_CTL_XOFF_KIB port * 1024
  let on := Tbl.getD s.net.xoff k false
  if !on ∧ lim < n ∧ bit (s.fld F.NET_PORT_CTL_PFC_EN port) prio then s1.sendPause port prio true
  else if on ∧ 2 * n < lim then s1.sendPause port prio false
  else s1

def State.heldBytes (s : State) (port prio : Nat) : Nat := Tbl.getD s.net.held (svcKey port prio) 0

/-- Frames taken from a port's buffer while the reorder stage has room (R414). -/
def State.drainBuffer (s : State) (port : Nat) : Nat → State
  | 0 => s
  | fuel + 1 =>
    match Tbl.getD s.net.buffer port [] with
    | [] => s
    | (b, stamp, time) :: rest =>
      if 2048 ≤ (Tbl.getD s.net.reorder port []).length then s
      else
        let s1 : State := { s with net := { s.net with buffer := Tbl.put [] port rest s.net.buffer } }
        let s2 := s1.setHeld port (framePrio b) (s1.heldBytes port (framePrio b) - b.length)
        (s2.pipeline port b stamp time).drainBuffer port fuel

/-- Whether a port receives: it exists, its link is up, its quad's domain is on (R410). -/
def State.receives (s : State) (port : Nat) : Bool := s.canSend port

/-- FRAME_RECEIVE (R58, R409 to R420, R437, R519): `bytes` is the frame without FCS. A frame that finds the receive FIFO at the PHY
boundary full is dropped there, since Ethernet gives no credit to withhold, and Sinter records it. -/
def execFrameReceive (port : Nat) (bytes : List Byte) (how : Arrival) (s : State) : Out :=
  when (s.receives port = true) (
    let n := bytes.length
    if how.fifoFull then sinterEvent 0x005 2 s
    else if n + 4 < 64 ∨ s.fld F.NET_PORT_CTL_MAX_FRAME port < n + 4 then s.inc F.NET_PORT_CNT_SIZE_CNT port
    else if !how.fcsOk then s.inc F.NET_PORT_CNT_FCS_CNT port
    else if 4 * 2 ^ 20 < sumOf ((List.range 8).map (s.heldBytes port)) + n then s.inc F.NET_PORT_CNT_BUF_DROP_CNT port
    else
      let l := Tbl.getD s.net.buffer port []
      let s1 : State := { s with net := { s.net with
        buffer := Tbl.set port (l ++ [(bytes, s.adjusted, s.tb.time)]) s.net.buffer } }
      (s1.setHeld port (framePrio bytes) (s1.heldBytes port (framePrio bytes) + n)).drainBuffer port (l.length + 1)) s

/-! Links. -/

/-- The rate of a port by the mode of its quad, in Gb/s (R409). -/
def State.modeRate (s : State) (p : Nat) : Nat :=
  200 * 2 ^ s.fld (if p < 4 then F.NET_PORT_MODE_QUAD0 else F.NET_PORT_MODE_QUAD1) 0

/-- A port's link goes up or down: UP, CHANGE, RATE and the event (R440, R441); control frames toward a port that cannot
send are discarded (R489). -/
def State.setLink (s : State) (p : Nat) (up : Bool) : State :=
  let rate := if s.portExists p then s.modeRate p / 8 else 0
  let s1 := s.setFld F.NET_PORT_STAT_RATE p rate
  if s.flag F.NET_PORT_STAT_UP p = up then s1
  else
    let s2 := ((s1.setFlag F.NET_PORT_STAT_UP p up).setFlag F.NET_PORT_STAT_CHANGE p true).postEvent {} 0 0x7001
      (BitVec.ofNat 64 p) 0
    if up then s2.markHeads else s2.dropFrames (fun f => f.port == p && (match f.src with | .control _ => true | _ => false))

/-- LINK_CHANGE (R440): a link comes up only on an existing port whose lanes may train and whose domain is on. -/
def execLinkChange (port : Nat) (up : Bool) (s : State) : Out :=
  let lanes := 2 ^ s.fld (if port < 4 then F.NET_PORT_MODE_QUAD0 else F.NET_PORT_MODE_QUAD1) 0
  when (port < 8 ∧ (up = false ∨ s.portExists port ∧ s.domain (portDomain port) = .ready ∧
      (List.range lanes).all (fun i => bit (s.fld F.NET_PORT_MODE_LANE_EN 0) (port + i)) = true)) (s.setLink port up) s

/-- A port's receive buffer emptied; its frames are counted where `count` says so (R410). -/
def State.flushBuffer (s : State) (port : Nat) (count : Bool) : State :=
  let l := Tbl.getD s.net.buffer port []
  let s1 := (List.range 8).foldl (fun t p => t.setHeld port p 0)
    { s with net := { s.net with buffer := Tbl.put [] port [] s.net.buffer } }
  if count then s1.bump F.NET_PORT_CNT_BUF_DROP_CNT port l.length else s1

/-- What a write to NET_PORT_MODE does (R410): the links of a quad whose mode changes go down. -/
def State.portModeChanged (old s : State) : State :=
  (List.range 8).foldl (fun t p =>
    let f := if p < 4 then F.NET_PORT_MODE_QUAD0 else F.NET_PORT_MODE_QUAD1
    if s.fld f 0 ≠ old.fld f 0 then (t.flushBuffer p true).setLink p false else t) s

/-- QUAD_MODE_CHANGE (R410). -/
def execQuadModeChange (who : Requester) (v : Word) (s : State) : Out :=
  when (s.ddtReady = true ∧ isVf who = false) (
    State.portModeChanged s
      ((s.touch who).writeWhole [F.NET_PORT_MODE_LANE_EN, F.NET_PORT_MODE_QUAD1, F.NET_PORT_MODE_QUAD0] v.toNat)) s

end Sys2Proof.Machine
end

