-- ==== Sys2Proof/Machine/RdmaBase.lean ====
section
/-! DEFINITION. What the RDMA, collective and checkpoint engines share (chapters 13 and 16): queue pairs, contexts, peers, control
packets, and how a queue pair, a collective and a checkpoint fail (R449, R469 to R475, R483 to R485, R557 to R559, R565). -/

namespace Sys2Proof.Machine

/-! Accessors. -/

def State.qp? (s : State) (q : Nat) : Option Qp := Tbl.find? q s.rdm.qps
def State.setQp (s : State) (q : Nat) (x : Qp) : State := { s with rdm := { s.rdm with qps := Tbl.set q x s.rdm.qps } }
def State.setRdm (s : State) (r : Rdma) : State := { s with rdm := r }
def State.peer? (s : State) (p : Nat) : Option Peer := Tbl.find? p s.rdm.peers
def State.group? (s : State) (g : Nat) : Option Group := Tbl.find? g s.rdm.groups
def State.setGroup (s : State) (g : Nat) (x : Group) : State :=
  { s with rdm := { s.rdm with groups := Tbl.set g x s.rdm.groups } }

/-- The queue pair whose send ring is `r`; the queue pairs whose receive ring is `r`. -/
def State.qpOfSq (s : State) (r : Nat) : Option (Nat × Qp) := s.rdm.qps.find? (fun x => x.2.group.isNone && x.2.sq == r)
def State.qpsOfRq (s : State) (r : Nat) : List (Nat × Qp) :=
  s.rdm.qps.filter (fun x => x.2.group.isNone && x.2.rqEn && x.2.rq == r)

/-- A queue pair's context used (R449): it is cached, the least recently used one is written back where the cache is full. -/
def State.touchQp (s : State) (q : Nat) : State :=
  let l := q :: s.rdm.cached.filter (fun x => x != q)
  let s1 : State := { s with rdm := { s.rdm with cached := l.take 16384 } }
  let s2 := s1.setFld F.RDM_GLB_STAT_CACHED 0 (l.take 16384).length
  if 16384 < l.length then s2.inc F.RDM_GLB_STAT_EVICT_CNT 0 else s2

/-- The bytes of a packet's data at a queue pair's MTU (R446). -/
def Qp.mtuBytes (q : Qp) : Nat := 128 * 2 ^ q.mtu

/-- The pieces that a message of `n` bytes takes. -/
def packets (n mtu : Nat) : Nat := max 1 (ceilDiv n mtu)

/-- PSN distance modulo 2^24 (R461, R462). -/
def psnSub (a b : Nat) : Nat := (a + 2 ^ 24 - b % 2 ^ 24) % 2 ^ 24

/-! Peers. -/

/-- Fields of a peer block (R472). -/
def Peer.port (p : Peer) : Nat := field (wordAt p.words 0) 4 2
def Peer.tc (p : Peer) : Nat := field (wordAt p.words 0) 7 5
def Peer.ip (p : Peer) : List Byte := bytesOfWords ((p.words.drop 2).take 2)
def Peer.foreign (p : Peer) : Bool := p.state == 5
/-- A FOREIGN peer counts as UP (R474). -/
def Peer.up (p : Peer) : Bool := p.state == 2 || p.state == 5

/-- The protocol versions of this device (R475). -/
def State.versions (s : State) : Nat × Nat := Config.protoVersion s.fum.image

/-- The capability set shared with a peer (R474, R475). -/
def State.sharedCaps (s : State) (p : Peer) : Nat := if p.foreign then 0 else p.caps &&& s.fld F.RDM_CAP_CAP 0

/-- Whether two version pairs are within one step (R475). -/
def withinStep (a b : Nat × Nat) : Bool :=
  a.1 == b.1 || (a.1 == b.1 + 1 && a.2 == b.1) || (b.1 == a.1 + 1 && b.2 == a.1)

/-- A peer entry written, with RDM_PEER_STAT. -/
def State.setPeer (s : State) (i : Nat) (p : Peer) : State :=
  let s1 : State := { s with rdm := { s.rdm with peers := Tbl.set i p s.rdm.peers } }
  (((s1.setFld F.RDM_PEER_STAT_STATE i p.state).setFld F.RDM_PEER_STAT_CAP i
    (if p.state = 2 then s.sharedCaps p else 0)).setFld F.RDM_PEER_STAT_CUR_VER i p.cur).setFld F.RDM_PEER_STAT_PREV_VER i p.prev

/-- The serial number of this device: fuse word 16; 0 while it is held (R577, R578). -/
def State.serial (s : State) : Nat :=
  if bit (s.fld F.FUM_FUSE_HELD_HELD 0) 16 then 0 else Tbl.getD s.fum.fuses.value 16 0

/-! Control packets (R463, R487, R490). -/

/-- A control packet toward a peer at a traffic class. -/
def State.sendCtl (s : State) (fn peer tc : Nat) (k : Pkt) : State :=
  match s.peer? peer with
  | none => s
  | some p =>
    s.enqueue { src := .control fn, sub := 0, svc := tc, port := p.port, len := packetLen p.words k.body
                peer := some peer, raw := [], pkt := some k, slot := none, headSince := none }

/-- A control packet of a queue pair. -/
def State.qpCtl (s : State) (q psn : Nat) (b : Body) : State :=
  match s.qp? q with
  | some x => s.sendCtl x.fn x.peer x.tc ⟨x.dest, psn % 2 ^ 24, false, b⟩
  | none => s

/-! Receive completions (R458, R469). -/

/-- The completion of a posted receive. -/
def State.recvDone (s : State) (env : Env) (v : PostedRecv) (st : Nat) (result : Word) : State :=
  let r := s.ring v.ring
  if c0Quiet v.w0 ∧ st = St.SUCCESS then s
  else s.post env (cqKey r.cq) (clauseEntry v.ring r v.w0 v.fgen st result none)

/-- A QP_ERROR result with its cause (R469). -/
def causeWord (c : Nat) : Word := BitVec.ofNat 64 c

/-- The store of posted receives written: entries move on chip in posting order as room allows, and RECV_ONCHIP (R456). -/
def balanceRecvs : Nat → List PostedRecv → List PostedRecv
  | _, [] => []
  | room, v :: t =>
    if v.onChip then v :: balanceRecvs room t
    else if 0 < room then { v with onChip := true } :: balanceRecvs (room - 1) t
    else v :: balanceRecvs 0 t
def State.setRecvs (s : State) (l : List PostedRecv) : State :=
  let used := (l.filter (fun v => v.onChip)).length
  let l1 := balanceRecvs (8192 - used) l
  ({ s with rdm := { s.rdm with recvs := l1 } } : State).setFld F.RDM_GLB_STAT_RECV_ONCHIP 0
    (l1.filter (fun v => v.onChip)).length

/-! The end of a checkpoint (R557 to R559, R565). -/

/-- CKP_STAT.STATE. -/
def State.setCkState (s : State) (v : Nat) : State := s.setFld F.CKP_STAT_STATE 0 v

/-- The STATE byte of slot `k`'s header set to EMPTY (R333, R549). -/
def State.emptySlot (s : State) (k : Nat) : State :=
  let a := s.buddyBase + k * (s.buddySize / 2)
  let b := s.devRead a 64
  if s.buddySize = 0 then s else s.devWrite a (b.take 6 ++ [(0 : Byte)] ++ b.drop 7)

/-- A buddy size in GiB applied (R333): at most the installed size; both slots are empty. -/
def State.buddySet (s : State) (n : Nat) : State :=
  let g := min n (s.fld F.MEM_CAP_STAT_INSTALLED_GIB 0)
  let s1 := ((s.setFld F.MEM_BUDDY_STAT_APPLIED_GIB 0 g).setFlag F.MEM_BUDDY_STAT_WAITING 0 false).setFld
    F.MEM_BUDDY_STAT_BASE 0 (if g = 0 then 0 else s.capEnd - g * 2 ^ 30)
  (({ s1 with mem := { s1.mem with buddyWait := none } } : State).emptySlot 0).emptySlot 1

/-- A checkpoint transfer into or out of the buddy area is running (R333). -/
def Ckpt.transfers (c : Ckpt) : Bool := c.recv.isSome || c.serving.isSome || c.exporting.isSome

/-- The CHECKPOINT activity ends when the engine is idle, and a buddy size that waits for the end of a transfer is applied
(R333, R558). -/
def State.ckSettle (s : State) : State :=
  let s1 : State := if s.ckp.idle then
      { s with mem := { s.mem with maint := startReady [] (s.mem.maint.filter (fun m => decide (m.act ≠ .checkpoint))) } }
    else s
  match s1.mem.buddyWait with
  | some n => if s1.ckp.transfers then s1 else s1.buddySet n
  | none => s1

/-- The held barrier completions posted with the step number (R559). -/
def State.releaseBarrier (s : State) (j : CkJob) : State :=
  j.rings.foldl (fun t r =>
    match t.heldAt r 7 2 with
    | some h => t.heldDone r St.SUCCESS (h.words.getD 2 0)
    | none => t) s

/-- The checkpoint data of lanes that has not been sent is withdrawn; what has been sent keeps its sequence numbers. -/
def Qp.trim (q : Qp) : Qp :=
  let keep := (q.wqes.filter (fun w => decide (w.psn < q.next))).map (fun w => { w with n := Nat.min w.n (q.next - w.psn) })
  { q with wqes := keep, tail := q.next, sendAt := Nat.min q.sendAt q.next }

/-- The queue pairs of the enabled lanes, in order (R546). -/
def State.lanes (s : State) : List Nat :=
  ((List.range 8).filter (fun k => s.flag (F.CKP_PAIR_EN.at k) 0)).map (fun k => s.fld (F.CKP_PAIR_QP.at k) 0)

/-- A checkpoint fails (R565): the ARM completes or CKPT_FAILED is posted, and the barrier is released. -/
def State.ckFail (s : State) (st cause : Nat) : State :=
  match s.ckp.job with
  | none => s
  | some j =>
    let s1 := (s.releaseBarrier j).inc F.CKP_CNT_FAIL_CNT 0
    let s2 : State := { s1 with ckp := { s1.ckp with job := none } }
    let s3 := (s.lanes.foldl (fun t q => match t.qp? q with | some x => t.setQp q x.trim | none => t) s2).setCkState 0
    let s4 := match j.slot with
      | some n => s3.slotDone n st (BitVec.ofNat 64 (cause * 2 ^ 56))
      | none => s3.postEvent {} s.buddyFn 0xB003 (BitVec.ofNat 64 (st + cause * 2 ^ 56)) 0
    s4.ckSettle

/-- A RESTORE fails or ends. -/
def State.restoreEnd (s : State) (st : Nat) (result : Word) : State :=
  match s.ckp.restore with
  | none => s
  | some r =>
    let s1 : State := { s with ckp := { s.ckp with restore := none } }
    (if r.dead then s1 else (s1.slotDone r.slot st result).setCkState 0).ckSettle

/-- Whether a queue pair carries a partner's messages (R547): it is an enabled partner lane, or, while none is enabled, an
entry of CKP_PARTNER names it. -/
def State.ckPartner (s : State) (q : Nat) : Bool :=
  let named := fun k => s.fld (F.CKP_PARTNER_QP.at k) 0 == q
  let en := fun k => s.flag (F.CKP_PARTNER_EN.at k) 0
  (List.range 8).any (fun k => named k && en k) || ((List.range 8).any named && !(List.range 8).any en)

/-- The partner's copy no longer arrives, and no FETCH is served: the slot stays WRITING (R565, R566). -/
def State.partnerEnd (s : State) : State :=
  (({ s with ckp := { s.ckp with recv := none, serving := none } } : State).setFlag F.CKP_STAT_RECEIVING 0 false).ckSettle

/-! The end of a collective (R480, R483, R484). -/

/-- The internal queue pair of group `g` toward rank `r` (R476). -/
def internalQp (g r : Nat) : Nat := 0xFFFFF - (4096 * g + r)

/-- Bytes of an element of a DTYPE, and of a chunk (R478). -/
def dtypeBytes (t : Nat) : Nat := if t = 0 ∨ t = 3 then 4 else 2

/-- Fields of a collective clause (R478). -/
structure CollArgs where
  op : Nat
  group : Nat
  dtype : Nat
  rop : Nat
  wire : Nat
  root : Nat
  src : Nat
  dst : Nat
  count : Nat
  timeout : Nat

def collArgs (ws : List Word) : CollArgs :=
  let w1 := wordAt ws 1
  { op := c0Op (wordAt ws 0), group := field w1 7 0, dtype := field w1 11 8, rop := field w1 15 12, wire := field w1 19 16
    root := field w1 31 20, src := wordAt ws 2, dst := wordAt ws 3, count := wordAt ws 4, timeout := wordAt ws 7 }

def CollArgs.chunk (a : CollArgs) : Nat := a.count * dtypeBytes a.dtype

/-- Chunks at DST (R478). -/
def CollArgs.outChunks (a : CollArgs) (n : Nat) : Nat := if a.op = 0 ∨ a.op = 3 then 1 else n

/-- The running collective of a group ends: its clause completes and the group is free (R480). -/
def State.collEnd (s : State) (g : Nat) (st : Nat) (result : Word) : State :=
  match s.group? g with
  | none => s
  | some x =>
    match x.op with
    | none => s
    | some o => (s.setGroup g { x with op := none }).slotDone o.slot st result

/-- The notices of a failed collective to every other member (R483). -/
def State.abortNotices (s : State) (g : Nat) (x : Group) (seq cause rank : Nat) : State :=
  (List.range x.n).foldl (fun t r =>
    if r = x.rank then t
    else t.sendCtl x.fn (x.peers.getD r 0) x.tc ⟨internalQp g x.rank, 0, false, .abort seq cause rank⟩) s

/-- DST of a collective given unspecified contents (R484). -/
def State.spoilDst (s : State) (o : CollOp) (n : Nat) : State :=
  match s.slot? o.slot with
  | some x =>
    let a := collArgs x.words
    if s.region a.dst = .host then s else s.spoil a.dst (a.chunk * a.outChunks n)
  | none => s

/-- The running collective of a group fails (R483, R484): causes 1 MEMBER_DOWN, 2 VERSION, 3 TIMEOUT, 4 TRANSPORT. -/
def State.collFail (s : State) (g cause rank : Nat) (notify : Bool) : State :=
  match s.group? g with
  | none => s
  | some x =>
    match x.op with
    | none => s
    | some o =>
      let s1 := if notify then s.abortNotices g x o.seq cause rank else s
      (s1.spoilDst o x.n).collEnd g St.COLLECTIVE_MEMBER_LOST (BitVec.ofNat 64 (cause * 2 ^ 56 + rank))

/-- The internal queue pairs of a group in RTS, at the start of their sequence numbers (R476, R484). -/
def freshInternal (x : Group) (g r : Nat) (rate now : Nat) : Qp :=
  { fn := x.fn, state := 3, tc := x.tc, mtu := 5, dest := internalQp g x.rank, peer := x.peers.getD r 0
    rtoUs := field (wordAt x.words 4) 15 0, retryCnt := field (wordAt x.words 4) 18 16, rnrRetry := 7, rdOut := 1
    group := some (g, r), rc := rate, rt := rate, alpha := 2 ^ 64, alphaAt := now, rateAt := now }

/-- The port rate of a peer in 1/16 Mb/s. -/
def State.peerRate (s : State) (i : Nat) : Nat :=
  match s.peer? i with
  | some p => s.modeRate p.port * 16000
  | none => 0

/-- A group whose members are all UP: its failed internal queue pairs return to RTS (R484). -/
def State.reviveGroup (s : State) (g : Nat) : State :=
  match s.group? g with
  | none => s
  | some x =>
    if (List.range x.n).all (fun r => r == x.rank || (match s.peer? (x.peers.getD r 0) with | some p => p.up | none => false)) then
      (List.range x.n).foldl (fun t r =>
        match t.qp? (internalQp g r) with
        | some q => if q.state = 4 then
            t.setQp (internalQp g r) (freshInternal x g r (t.peerRate (x.peers.getD r 0)) t.tb.time) else t
        | none => t) s
    else s

/-! ERROR (R469, R470). -/

/-- The posted receives of a receive ring flushed (R470). -/
def State.flushRecvs (s : State) (ring : Nat) : State :=
  let mine := fun (v : PostedRecv) => v.ring == ring
  let l := (s.rdm.recvs ++ s.rdm.rawRecvs).filter mine
  let s1 : State := { s with rdm := { s.rdm with rawRecvs := s.rdm.rawRecvs.filter (fun v => !mine v) } }
  l.foldl (fun t v => t.recvDone {} v St.QP_ERROR (causeWord 0x10)) (s1.setRecvs (s.rdm.recvs.filter (fun v => !mine v)))

/-- A queue pair enters ERROR with a cause (R469, R470). The request in slot `who` completes with `st`, the others are
flushed; its queued frames leave the scheduler (R489); the collective and the checkpoint that use it fail. -/
def State.qpError (s : State) (q cause : Nat) (who : Option Nat) (st : Nat) : State :=
  match s.qp? q with
  | none => s
  | some x =>
    if x.state = 4 then s
    else
      let s1 := s.setQp q { x with state := 4, cause := cause, wqes := [], jobs := [], msg := none, rnrUntil := none, reqAt := none
                                   unacked := 0, base := x.next, sendAt := x.next, tail := x.next }
      let mine := fun (f : TxFrame) => decide (f.src = .qp q ∨ f.src = .ckp q)
      let slots := x.wqes.filterMap (fun w => w.slot) ++ (s.sch.frames.filter mine).filterMap (fun f => f.slot)
      let s2 := slots.foldl (fun t n =>
        if some n = who then t.slotDone n st (if st = St.QP_ERROR then causeWord cause else 0)
        else t.slotDone n St.QP_ERROR (causeWord 0x10)) (s1.dropFrames mine)
      let s3 := match x.msg.bind (fun m => m.recv) with
        | some v => s2.recvDone {} v St.QP_ERROR (causeWord (if cause = 5 then 5 else 0x10))
        | none => s2
      let s4 := if x.group.isNone ∧ x.rqEn ∧ (s.qpsOfRq x.rq).length ≤ 1 then s3.flushRecvs x.rq else s3
      let s5 := s4.inc F.RDM_FN_STAT_QPERR_CNT x.fn
      let s6 := if x.group.isSome then s5
        else s5.post {} (cqKey (s.ring x.sq).cq)
          { result := BitVec.ofNat 64 (q + cause * 2 ^ 32), evt := true, sq := x.sq, fgen := s.fgen x.fn, status := 0, tag := 0x8001
            irq := false, fn := x.fn, slot := none }
      let s7 := match x.group with
        | some (g, r) => (s6.collFail g 4 r true).reviveGroup g
        | none => s6
      let s8 := if s.ckPartner q then s7.partnerEnd else s7
      if s.lanes.contains q then (s8.ckFail St.QP_ERROR cause).restoreEnd St.QP_ERROR (causeWord cause) else s8

/-- The slot of the oldest uncompleted request of a queue pair. -/
def Qp.headSlot (q : Qp) : Option Nat := q.wqes.head?.bind (fun w => w.slot)

/-- A peer is lost (R469, R474, R483, R565): collectives and checkpoints toward it fail, and its queue pairs enter ERROR. -/
def State.peerLost (s : State) (i st : Nat) : State :=
  let s1 := s.rdm.groups.foldl (fun t g =>
    match g.2.peers.findIdx? (fun p => p == i) with
    | some r => t.collFail g.1 1 r true
    | none => t) s
  let lane := s.lanes.any (fun q => match s.qp? q with | some x => x.peer == i | none => false)
  let s2 := if lane then (s1.ckFail St.PEER_UNREACHABLE 0).restoreEnd St.PEER_UNREACHABLE 0 else s1
  s.rdm.qps.foldl (fun t q =>
    if q.2.raw = false ∧ q.2.peer = i ∧ (q.2.state = 2 ∨ q.2.state = 3) then
      t.qpError q.1 7 ((t.qp? q.1).bind Qp.headSlot) st
    else t) s2

end Sys2Proof.Machine
end

