-- ==== Sys2Proof/Machine/RdmaIo.lean ====
section
/-! DEFINITION. Packets of the RDMA engine out and in: narrow conversion (R552), sending and pacing (R453, R460, R467, R468),
the responder (R455 to R458, R462, R463) and the chunks of a collective (R480 to R483). -/

namespace Sys2Proof.Machine

/-! Block formats on the wire (R481, R482, R552). -/

/-- MXFP8 with E4M3, with E5M2, and MXINT8. -/
def mxE4m3 : Format := ⟨.float .e4m3, 8, .w8, true⟩
def mxE5m2 : Format := ⟨.float .e5m2, 8, .w8, true⟩
def mxInt8 : Format := ⟨.mxint8, 8, .w8, true⟩

/-- One block of 32 values as 33 bytes: the scale byte and the element bytes (R482). -/
def blockBytes (f : Format) (xs : List Quad) : List Byte :=
  let sc := blockScale {} f xs
  BitVec.ofNat 8 sc :: xs.map (fun x => BitVec.ofNat 8 (encodeBlockElem {} f sc .nearest x))

/-- The 32 values of a block of 33 bytes (R171). -/
def blockVals (f : Format) (b : List Byte) : List Quad :=
  (b.drop 1).map (fun e => decodeScaled {} f e.toNat (scaleExp (byteAt b 0)))

/-- Values as the bytes of a plain format, and back. -/
def plainBytes (f : FFmt) (xs : List Quad) : List Byte :=
  xs.flatMap (fun x => toBytes (f.width / 8) (encodeFloat f .nearest (fp32Val x)))
def plainVals (f : FFmt) (b : List Byte) : List Quad :=
  (groupsOf (f.width / 8) (b.length / (f.width / 8)) b).map (fun c => toFp32 (f.decode c))

/-- Values as bytes of a DTYPE, and back (R478): int32 as they stand. -/
def dtypeOut (t : Nat) (xs : List Quad) : List Byte :=
  match t with
  | 1 => plainBytes .bf16 xs
  | 2 => plainBytes .fp16 xs
  | _ => xs.flatMap (fun x => toBytes 4 x.toNat)
def dtypeIn (t : Nat) (b : List Byte) : List Quad :=
  match t with
  | 1 => plainVals .bf16 b
  | 2 => plainVals .fp16 b
  | _ => (groupsOf 4 (b.length / 4) b).map (BitVec.ofNat 32)

/-- Cuts of `n` elements. -/
def chunksOf {α : Type} (n : Nat) (l : List α) : List (List α) :=
  (List.range (ceilDiv l.length n)).map (fun i => (l.drop (i * n)).take n)

def wireBlock (w : Nat) : Format := match w with | 2 => mxE4m3 | 3 => mxE5m2 | _ => mxInt8

/-- Values in a wire format, and back (R478, R482). -/
def wireOut (wire dtype : Nat) (xs : List Quad) : List Byte :=
  match wire with
  | 0 => dtypeOut dtype xs
  | 1 => plainBytes .bf16 xs
  | _ => (chunksOf 32 xs).flatMap (blockBytes (wireBlock wire))
def wireIn (wire dtype : Nat) (b : List Byte) : List Quad :=
  match wire with
  | 0 => dtypeIn dtype b
  | 1 => plainVals .bf16 b
  | _ => (chunksOf 33 b).flatMap (blockVals (wireBlock wire))

/-- incoming ROP local (R481). -/
def ropOf (dtype rop : Nat) (a b : Quad) : Quad :=
  if dtype = 3 then
    match rop with
    | 0 => a + b
    | 1 => if a.toInt < b.toInt then b else a
    | _ => if a.toInt < b.toInt then a else b
  else
    match rop with
    | 0 => fadd a b
    | 1 => fmax a b
    | _ => fmin a b

/-! Narrow conversion (R552). -/

/-- The MXFP8 element format of the conversions: the manual names MXFP8 and not which of the two. -/
def convFormat : Format := if Config.freeBit 0x552 0 then mxE4m3 else mxE5m2

/-- Source bytes and stored bytes of one unit of a conversion. -/
def convUnit (c : Nat) : Nat × Nat :=
  match c with
  | 1 => (4, 2)
  | 2 => (64, 33)
  | 3 => (128, 33)
  | _ => (1, 1)

/-- Source bytes, whole units, as stored bytes. -/
def convOut (c : Nat) (b : List Byte) : List Byte :=
  match c with
  | 1 => plainBytes .bf16 (dtypeIn 0 b)
  | 2 => (chunksOf 64 b).flatMap (fun u => blockBytes convFormat (plainVals .bf16 u))
  | 3 => (chunksOf 128 b).flatMap (fun u => blockBytes convFormat (dtypeIn 0 u))
  | _ => b

/-- Stored bytes, whole units, as the bytes written back. -/
def convIn (c : Nat) (b : List Byte) : List Byte :=
  match c with
  | 1 => dtypeOut 0 (plainVals .bf16 b)
  | 2 => (chunksOf 33 b).flatMap (fun u => plainBytes .bf16 (blockVals convFormat u))
  | 3 => (chunksOf 33 b).flatMap (fun u => dtypeOut 0 (blockVals convFormat u))
  | _ => b

/-- Stored length of a region (R552). -/
def CkRegion.storedLen (r : CkRegion) : Nat := r.len / (convUnit r.conv).1 * (convUnit r.conv).2

/-- The stored bytes [lo, hi) of one region. -/
def State.ckRegionRead (s : State) (env : Env) (fn : Nat) (r : CkRegion) (lo hi : Nat) : State × Res (List Byte) :=
  let su := (convUnit r.conv).1
  let ds := (convUnit r.conv).2
  let u0 := lo / ds
  let u1 := ceilDiv hi ds
  match s.readChecked env fn (r.addr + u0 * su) ((u1 - u0) * su) with
  | (s1, .ok b) => (s1, .ok (slice (convOut r.conv b) (lo - u0 * ds) (hi - lo)))
  | (s1, .fail st) => (s1, .fail st)
  | (s1, .wait) => (s1, .wait)

/-- The stored bytes [off, off + n) of a region list; padding is zero (R551). -/
def State.ckRead (s : State) (env : Env) (fn off n : Nat) : List CkRegion → State × Res (List Byte)
  | [] => (s, .ok (List.replicate n 0))
  | r :: t =>
    match s.ckRead env fn off n t with
    | (s1, .ok base) =>
      let lo := max off r.stored
      let hi := min (off + n) (r.stored + r.storedLen)
      if lo < hi then
        match s1.ckRegionRead env fn r (lo - r.stored) (hi - r.stored) with
        | (s2, .ok b) => (s2, .ok (base.take (lo - off) ++ b ++ base.drop (hi - off)))
        | x => x
      else (s1, .ok base)
    | x => x

/-- Packets of a lane's checkpoint data, and where packet `i` lies in the stored data: offset and bytes (R560). -/
def laneStripes (lane lanes bytes : Nat) : Nat :=
  let n := ceilDiv bytes 65536
  if lane < n then ceilDiv (n - lane) lanes else 0
def lanePackets (lane lanes bytes : Nat) : Nat :=
  sumOf ((List.range (laneStripes lane lanes bytes)).map (fun j =>
    ceilDiv (min 65536 (bytes - (lane + j * lanes) * 65536)) 4080))
def lanePacket (lane lanes bytes i : Nat) : Nat × Nat :=
  let off := (lane + i / 17 * lanes) * 65536 + i % 17 * 4080
  (off, min (min 4080 (65536 - i % 17 * 4080)) (bytes - off))

/-! Sending. -/

/-- The congestion-control mode of a queue pair: 0 NONE, 1 ECN, 2 CREDIT (R465). -/
def State.ccMode (s : State) (x : Qp) : Nat :=
  let m := s.fld F.RDM_TC_CFG_MODE x.tc
  let plain : Bool := match s.peer? x.peer with
    | some p => p.foreign || !bit (s.sharedCaps p) 0
    | none => true
  if m = 2 ∧ plain = true then 1 else m

/-- The body of packet `i` of a request, and the sequence numbers that it takes (R450, R453, R460). -/
def State.wqeBody (s : State) (env : Env) (x : Qp) (w : Wqe) (i : Nat) : State × Res (Body × Nat) :=
  let m := x.mtuBytes
  let len := min m (w.len - i * m)
  let first := i == 0
  let last := i + 1 == w.n
  let imm := if last then w.imm else none
  let fill := fun (r : State × Res (List Byte)) (f : List Byte → Body) =>
    match r with
    | (t, .ok b) => (t, Res.ok (f b, 1))
    | (t, .fail st) => (t, Res.fail st)
    | (t, .wait) => (t, Res.wait)
  match w.kind with
  | .send => fill (s.readChecked env x.fn (w.addr + i * m) len) (.send first last imm (if first then w.tag else none))
  | .write => fill (s.readChecked env x.fn (w.addr + i * m) len) (.write first last w.remote w.rkey w.len imm)
  | .read => (s, .ok (.readReq (w.remote + i * m) w.rkey (w.len - i * m), w.n - i))
  | .coll seq v ph c => (s, .ok (.coll seq v ph c last (slice w.bytes (i * m) len), 1))
  | .ck c => (s, .ok (.ck c, 1))
  | .ckData src lane lanes slot bytes =>
    let p := lanePacket lane lanes bytes i
    fill (match src with
      | some rs => s.ckRead env s.buddyFn p.1 p.2 rs
      | none => s.readChecked env s.buddyFn (s.ckSlotBase slot + 0x1000 + p.1) p.2) (fun b => .ck (.data slot p.1 b))

/-- The request of a queue pair that holds an extended sequence number. -/
def Qp.wqeAt (x : Qp) (e : Nat) : Option Wqe := x.wqes.find? (fun w => decide (w.psn ≤ e ∧ e < w.psn + w.n))

/-- READs outstanding of a requester. -/
def Qp.readsOut (x : Qp) : Nat := (x.wqes.filter (fun w => decide (w.kind = .read ∧ w.psn < x.next))).length

/-- Bytes of a new packet that need credit, and of what is left of its message (R468): a checkpoint DATA packet is a message of its
own. -/
def creditNeed (unsched : Nat) (w : Wqe) (i m : Nat) : Nat :=
  match w.kind with
  | .send | .write | .coll _ _ _ _ => min w.len (i * m + m) - max (i * m) unsched
  | .ckData _ lane lanes _ bytes => (lanePacket lane lanes bytes i).2 - unsched
  | _ => 0
def creditLeft (unsched : Nat) (w : Wqe) (i m : Nat) : Nat :=
  match w.kind with
  | .send | .write | .coll _ _ _ _ => w.len - max (i * m) unsched
  | _ => creditNeed unsched w i m

/-- The bytes of credit that a queue pair holds, and `n` bytes taken from it, the oldest grant first (R468). -/
def Qp.credits (x : Qp) : Nat := sumOf (x.credit.map (fun c => c.1))
def spendCredit : Nat → List (Nat × Nat) → List (Nat × Nat)
  | _, [] => []
  | n, c :: t => if c.1 ≤ n then spendCredit (n - c.1) t else (c.1 - n, c.2) :: t

/-- A credit request sent, unless one is outstanding (R468). -/
def State.askCredit (s : State) (q : Nat) (x : Qp) (w : Wqe) (i : Nat) : State :=
  if x.reqAt.isSome then s
  else
    let need := creditLeft (s.fld F.RDM_TC_CRED_UNSCHED_KIB x.tc * 1024) w i x.mtuBytes - x.credits
    (s.setQp q { x with reqAt := some s.tb.time }).qpCtl q 0 (.creditReq need)

/-- The subscriber of a queue pair's data frames and their source (R487). -/
def State.txPlace (s : State) (q : Nat) (x : Qp) : Nat × TxSrc :=
  if s.lanes.contains q ∨ s.ckPartner q then
    (s.fld F.SCH_DEV_CTL_CKP_SUB 0, .ckp q)
  else (s.subOf x.fn q, .qp q)

/-- A data frame of a queue pair put into its subscriber queue, with its pacing (R467, R487). -/
def State.pushData (s : State) (q : Nat) (x : Qp) (p : Peer) (k : Pkt) : State :=
  let pl := s.txPlace q x
  let len := packetLen p.words k.body
  let s1 := s.enqueue { src := pl.2, sub := pl.1, svc := x.tc, port := p.port, len := len, peer := some x.peer
                        raw := [], pkt := some k, slot := none, headSince := none }
  if s.ccMode x = 1 ∧ 0 < x.rc then
    s1.setQp q { x with
      paceAt := Nat.max s.tb.time x.paceAt + ceilDiv (len * 8 * 16000) x.rc, sentBytes := x.sentBytes + len }
  else s1.setQp q x

/-- The running CRC of a lane's stream over a data packet that goes out for the first time (R562, R614). -/
def State.ckSent (s : State) (lane : Nat) (b : List Byte) : State :=
  match s.ckp.job with
  | none => s
  | some j =>
    ({ s with ckp := { s.ckp with job := some { j with
        crcs := j.crcs.mapIdx (fun k c => if k = lane then crcFold crc64 c b else c) } } } : State).snoop 26 lane b

/-- A response packet of the oldest READ at the responder (R455). -/
def State.pumpResponse (s : State) (env : Env) (q : Nat) (x : Qp) (p : Peer) (j : ReadJob) (js : List ReadJob) : Option State :=
  let n := min x.mtuBytes j.left
  match s.readChecked env x.fn j.addr n with
  | (_, .wait) => none
  | (s1, .fail _) => some ((s1.setQp q { x with jobs := js }).qpCtl q j.psn .nakOp)
  | (s1, .ok b) =>
    let last := j.left ≤ n
    let x1 := { x with jobs := if last then js else { j with psn := j.psn + 1, addr := j.addr + n, left := j.left - n } :: js }
    some (s1.pushData q x1 p ⟨x.dest, j.psn % 2 ^ 24, false, .readResp (decide last) b⟩)

/-- A read of the source that fails (R469, R565, R567). -/
def State.sourceFailed (s : State) (q : Nat) (w : Wqe) (st : Nat) : State :=
  match w.kind with
  | .ckData (some _) _ _ _ _ => s.ckFail st 0
  | .ckData none _ _ _ _ =>
    match s.qp? q with
    | some x =>
      let y := x.trim
      let s1 := s.setQp q { y with
        wqes := y.wqes ++ [{ slot := none, kind := .ck (.done st), psn := y.tail, n := 1 }], tail := y.tail + 1 }
      ({ s1 with ckp := { s1.ckp with serving := none } } : State).ckSettle
    | none => s
  | _ => s.qpError q 6 w.slot st

/-- The next packet of a requester (R444, R453, R460, R464, R467, R468). -/
def State.pumpRequest (s : State) (env : Env) (q : Nat) (x : Qp) (p : Peer) : Option State :=
  let e := x.sendAt
  if x.state ≠ 3 ∨ x.rnrUntil.isSome then none
  else
    match x.wqeAt e with
    | none => none
    | some w =>
      let i := e - w.psn
      let new := decide (x.next ≤ e)
      if new ∧ (2 ^ 22 ≤ e - x.base ∨ (i = 0 ∧ w.fence ∧ x.wqes.head? ≠ some w) ∨
          (i = 0 ∧ w.kind = .read ∧ x.rdOut ≤ x.readsOut)) then none
      else if s.ccMode x = 1 ∧ s.tb.time < x.paceAt then none
      else
        let need := creditNeed (s.fld F.RDM_TC_CRED_UNSCHED_KIB x.tc * 1024) w i x.mtuBytes
        if new ∧ s.ccMode x = 2 ∧ x.credits < need then
          if x.reqAt.isSome then none else some (s.askCredit q x w i)
        else
          match s.wqeBody env x w i with
          | (_, .wait) => none
          | (s1, .fail st) => some (s1.sourceFailed q w st)
          | (s1, .ok (b, k)) =>
            let x1 := { x with
              sendAt := e + k, next := Nat.max x.next (e + k)
              credit := if new ∧ s.ccMode x = 2 then spendCredit need x.credit else x.credit
              progress := if x.base = x.next then s.tb.time else x.progress }
            let s2 := s1.pushData q x1 p ⟨x.dest, e % 2 ^ 24, decide (i + k = w.n ∧ w.kind ≠ .read), b⟩
            let s3 := if new then s2 else s2.inc F.RDM_FN_STAT_RETX_CNT x.fn
            match w.kind, b with
            | .ckData (some _) lane _ _ _, .ck (.data _ _ d) => some (if new then s3.ckSent lane d else s3)
            | .coll _ _ _ _, .coll _ _ _ _ _ d => some (match x.group with
                | some (g, _) => if new then s3.snoop 31 g d else s3
                | none => s3)
            | _, _ => some s3

/-- One packet of a queue pair into the scheduler, if one may go. -/
def State.pumpStep (s : State) (env : Env) (q : Nat) : Option State :=
  match s.qp? q with
  | none => none
  | some x =>
    match s.peer? x.peer with
    | none => none
    | some p =>
      if x.raw ∨ !s.queueRoom (s.txPlace q x).1 x.tc p.port then none
      else
        match x.jobs with
        | j :: js => s.pumpResponse env q x p j js
        | [] => s.pumpRequest env q x p

/-- Packets of a queue pair into the scheduler while they may go. -/
def State.pumpQp (s : State) (env : Env) (q : Nat) : Nat → State
  | 0 => s
  | fuel + 1 =>
    match s.pumpStep env q with
    | none => s
    | some t => t.pumpQp env q fuel

/-- At most the 64 frames of a subscriber queue enter at once. -/
def State.pump (s : State) (env : Env) (q : Nat) : State := s.pumpQp env q 65

/-- Every queue pair. -/
def State.pumpAll (s : State) (env : Env) : State := s.rdm.qps.foldl (fun t q => t.pump env q.1) s

/-- A request appended to a queue pair's send queue. -/
def State.pushWqe (s : State) (q : Nat) (w : Wqe) : State :=
  match s.qp? q with
  | some x => s.setQp q { x with wqes := x.wqes ++ [{ w with psn := x.tail }], tail := x.tail + w.n }
  | none => s

/-! Collectives (R480 to R484). -/

/-- A chunk in wire bytes sent to a rank. -/
def State.collSend (s : State) (g : Nat) (o : CollOp) (to_ phase chunk : Nat) (b : List Byte) : State :=
  s.pushWqe (internalQp g to_)
    { slot := none, kind := .coll o.seq o.version phase chunk, bytes := b, len := b.length, n := packets b.length 4096 }

/-- Whether the internal queue pairs of a group have no segment of an operation left. -/
def State.collSent (s : State) (g : Nat) (x : Group) (seq : Nat) : Bool :=
  (List.range x.n).all (fun r =>
    match s.qp? (internalQp g r) with
    | some q => q.wqes.all (fun w => match w.kind with | .coll q1 _ _ _ => q1 != seq | _ => true)
    | none => true)

/-- A collective is complete when DST is written and its own segments are acknowledged. -/
def State.collCheck (s : State) (g : Nat) : State :=
  match s.group? g with
  | none => s
  | some x =>
    match x.op with
    | none => s
    | some o =>
      match s.slot? o.slot with
      | none => s
      | some y =>
        let a := collArgs y.words
        if a.outChunks x.n ≤ o.written ∧ s.collSent g x o.seq then s.collEnd g St.SUCCESS (BitVec.ofNat 64 o.sent) else s

/-- A memory failure of a collective: the clause ends with its status, the others hear TRANSPORT. -/
def State.collMemFail (s : State) (g : Nat) (x : Group) (o : CollOp) (st : Nat) : State :=
  ((s.abortNotices g x o.seq 4 x.rank).spoilDst o x.n).collEnd g st 0

/-- The running operation of a group changed. -/
def State.setOp (s : State) (g : Nat) (f : CollOp → CollOp) : State :=
  match s.group? g with
  | some x => s.setGroup g { x with op := x.op.map f }
  | none => s

/-- A chunk of DST written from values (R481); the dispatch checks have admitted DST (R324). -/
def State.collWrite (s : State) (env : Env) (g fn : Nat) (a : CollArgs) (c : Nat) (b : List Byte) : State × Res Unit :=
  match s.writeChecked env fn (a.dst + (if a.outChunks 2 = 1 then 0 else c) * a.chunk) b with
  | (s1, .ok _) => (s1.setOp g (fun o => { o with written := o.written + 1 }), .ok ())
  | r => r

/-- The gather phase: a member's own chunk encoded once, written as its decode, and passed on (R482). -/
def State.collGather (s : State) (env : Env) (g fn : Nat) (x : Group) (o : CollOp) (a : CollArgs) (c : Nat) (w : List Byte)
    (pass : Bool) : State × Res Unit :=
  match s.collWrite env g fn a c (dtypeOut a.dtype (wireIn a.wire a.dtype w)) with
  | (s1, .ok _) =>
    if pass then
      ((s1.setOp g (fun o => { o with sent := o.sent + w.length })).collSend g o ((x.rank + 1) % x.n) 1 c w, .ok ())
    else (s1, .ok ())
  | r => r

/-- A whole chunk that arrived from a rank at the running operation (R481). -/
def State.collChunk (s : State) (env : Env) (g from_ phase c : Nat) (w : List Byte) : State × Res Unit :=
  match s.group? g with
  | none => (s, .ok ())
  | some x =>
    match x.op with
    | none => (s, .ok ())
    | some o =>
      match s.slot? o.slot with
      | none => (s, .ok ())
      | some y =>
        let a := collArgs y.words
        let next := (x.rank + 1) % x.n
        if a.op = 4 then s.collWrite env g y.fn a from_ (dtypeOut a.dtype (wireIn a.wire a.dtype w))
        else if a.op = 1 ∨ a.op = 3 ∨ phase = 1 then
          s.collGather env g y.fn x o a c w (decide (next ≠ if a.op = 3 then a.root else c))
        else
          match s.readChecked env y.fn (a.src + c * a.chunk) a.chunk with
          | (s1, .fail st) => (s1, .fail st)
          | (s1, .wait) => (s1, .wait)
          | (s1, .ok lb) =>
            let v := List.zipWith (ropOf a.dtype a.rop) (wireIn a.wire a.dtype w) (dtypeIn a.dtype lb)
            if c ≠ x.rank then
              let b := wireOut a.wire a.dtype v
              ((s1.setOp g (fun o => { o with sent := o.sent + b.length })).collSend g o next 0 c b, .ok ())
            else if a.op = 0 then s1.collWrite env g y.fn a c (dtypeOut a.dtype v)
            else
              let b := wireOut a.wire a.dtype (dtypeIn a.dtype (dtypeOut a.dtype v))
              (s1.setOp g (fun o => { o with phase := 1 })).collGather env g y.fn x o a c b true

/-- How the responder takes a packet: taken with `n` sequence numbers, or the answer that it gets. -/
inductive RxOut where
  | ok (n : Nat)
  | rnr
  | nakAccess
  | nakOp
  | wait
deriving DecidableEq, Repr

/-- A segment of a collective (R480, R483). -/
def State.takeColl (s : State) (env : Env) (g r seq version phase c : Nat) (last : Bool) (d : List Byte) : State × RxOut :=
  match s.group? g with
  | none => (s, .ok 1)
  | some x =>
    match x.op with
    | none => if (seq + 65536 - x.seq % 65536) % 65536 < 32768 then (s, .rnr) else (s, .ok 1)
    | some o =>
      if seq ≠ o.seq then
        if (seq + 65536 - o.seq) % 65536 < 32768 then (s, .rnr) else (s, .ok 1)
      else if version ≠ o.version then (s.collFail g 2 r true, .ok 1)
      else
        let part := Tbl.getD o.parts r [] ++ d
        if !last then (s.setOp g (fun o => { o with parts := Tbl.set r part o.parts }), .ok 1)
        else
          match (s.setOp g (fun o => { o with parts := Tbl.del r o.parts })).collChunk env g r phase c part with
          | (s1, .ok _) => (s1.collCheck g, .ok 1)
          | (s1, .fail st) => (s1.collMemFail g x o st, .ok 1)
          | (_, .wait) => (s, .wait)

/-! The responder. -/

/-- Whether a message for a receive ring matches a posted receive (R457). -/
def PostedRecv.matches (v : PostedRecv) (ring : Nat) (tag : Option Nat) : Bool :=
  v.ring == ring && (match tag, v.tagged with
    | none, none => true
    | some t, some (g, m, _) => (t &&& m) == (g &&& m)
    | _, _ => false)

/-- The oldest posted receive that a message matches (R457): on chip, or found by Geyser's search of the ring's overflow list, which
waits while the operation table has no free entry (R305). -/
def State.matchRecv (s : State) (ring : Nat) (tag : Option Nat) : Res (Option PostedRecv) :=
  let l := s.rdm.recvs.filter (fun v => !v.onChip && v.ring == ring)
  match s.rdm.recvs.find? (fun v => v.onChip && v.matches ring tag) with
  | some v => .ok (some v)
  | none =>
    if l.isEmpty then .ok none
    else if 256 ≤ s.geyLive.length then .wait
    else .ok (l.find? (fun v => v.matches ring tag))

/-- A receive that ends a message: TAG_OUT, then the completion (R458). -/
def State.finishRecv (s : State) (env : Env) (x : Qp) (v : PostedRecv) (m : RxMsg) (imm : Option Nat) : State × Res Unit :=
  let res := BitVec.ofNat 64 (m.got + (match imm with | some i => 2 ^ 31 + i * 2 ^ 32 | none => 0))
  match v.tagged with
  | some (_, _, out) =>
    if out = 0 then (s.recvDone env v St.SUCCESS res, .ok ())
    else
      match s.writeChecked env x.fn out (toBytes 8 m.tag) with
      | (s1, .ok _) => (s1.recvDone env v St.SUCCESS res, .ok ())
      | r => r
  | none => (s.recvDone env v St.SUCCESS res, .ok ())

/-- A failure of LOCAL at the responder (R469): the receive completes with the status, the queue pair enters ERROR. -/
def State.recvFailed (s : State) (env : Env) (q : Nat) (v : PostedRecv) (st : Nat) : State :=
  let s1 := match s.qp? q with
    | some x => s.setQp q { x with msg := none }
    | none => s
  (s1.recvDone env v st 0).qpError q 6 none 0

/-- A SEND, SEND_IMM or TSEND packet (R457, R458). -/
def State.takeSend (s : State) (env : Env) (q : Nat) (x : Qp) (first last : Bool) (imm tag : Option Nat) (d : List Byte) :
    State × RxOut :=
  let start : Except RxOut (State × RxMsg) :=
    if first then
      match if x.rqEn then s.matchRecv x.rq tag else .ok none with
      | .ok (some v) => .ok (s.setRecvs (s.rdm.recvs.erase v), { recv := some v, addr := v.addr, tag := tag.getD 0 })
      | .ok none => .error .rnr
      | _ => .error .wait
    else match x.msg with
      | some m => .ok (s, m)
      | none => .error .nakOp
  match start with
  | .error e => (s, e)
  | .ok (s1, m) =>
    match m.recv with
    | none => (s, .nakOp)
    | some v =>
      if v.len < m.got + d.length then ((s1.setQp q { x with msg := some m }).qpError q 5 none 0, .nakOp)
      else
        match s1.writeChecked env x.fn m.addr d with
        | (_, .wait) => (s, .wait)
        | (s2, .fail st) => (s2.recvFailed env q v st, .nakOp)
        | (s2, .ok _) =>
          let m1 := { m with addr := m.addr + d.length, got := m.got + d.length }
          if !last then (s2.setQp q { x with msg := some m1 }, .ok 1)
          else
            match s2.finishRecv env x v m1 imm with
            | (s3, .ok _) => (s3.setQp q { x with msg := none }, .ok 1)
            | (s3, .fail st) => (s3.recvFailed env q v st, .nakOp)
            | (_, .wait) => (s, .wait)

/-- The pages of a host-window range translated, counting refusals. -/
def State.walkPages (s : State) (env : Env) (fn : Nat) (wr : Bool) : List (Nat × Nat) → State × Res Unit
  | [] => (s, .ok ())
  | (a, _) :: t =>
    match s.translate env fn wr a with
    | (s1, .ok _) => s1.walkPages env fn wr t
    | (s1, .fail st) => (s1, .fail st)
    | (s1, .wait) => (s1, .wait)

/-- The checks of an incoming access (R455): the region and its address, or the answer. -/
def State.regionCheck (s : State) (env : Env) (x : Qp) (wr : Bool) (off rkey len : Nat) : State × Except RxOut (Nat × Nat) :=
  match Tbl.find? (rkey / 256) s.rdm.regions with
  | none => (s, .error .nakAccess)
  | some g =>
    if 2 ^ 28 ≤ rkey ∨ g.dying ∨ rkey % 256 ≠ g.key ∨ g.fn ≠ x.fn ∨ g.pd ≠ x.pd ∨ !(if wr then g.wr else g.rd) ∨
        g.len < off + len then (s, .error .nakAccess)
    else
      let a := g.base + off
      match s.checkRange x.fn wr false a len with
      | .fail st => (s.refuse x.fn st, .error .nakAccess)
      | .wait => (s, .error .wait)
      | .ok _ =>
        if s.region a = .host then
          match s.walkPages env x.fn wr (pageCuts a len) with
          | (s1, .ok _) => (s1, .ok (rkey / 256, a))
          | (s1, .fail _) => (s1, .error .nakAccess)
          | (s1, .wait) => (s1, .error .wait)
        else (s, .ok (rkey / 256, a))

/-- A WRITE or WRITE_IMM packet (R455, R457, R458): its first packet's check admits the whole message. -/
def State.takeWrite (s : State) (env : Env) (q : Nat) (x : Qp) (first last : Bool) (off rkey dlen : Nat) (imm : Option Nat)
    (d : List Byte) : State × RxOut :=
  let start : State × Except RxOut RxMsg :=
    if first then
      match s.regionCheck env x true off rkey dlen with
      | (s1, .ok (r, a)) => (s1, .ok { region := some r, addr := a, left := dlen, epoch := s.fld F.MEM_FN_FENCE_EPOCH x.fn })
      | (s1, .error e) => (s1, .error e)
    else
      match x.msg with
      | some m => (s, .ok m)
      | none => (s, .error .nakOp)
  match start with
  | (s1, .error e) => (s1, e)
  | (s1, .ok m) =>
    match (if last ∧ imm.isSome ∧ x.rqEn then s.matchRecv x.rq none else .ok none) with
    | .wait => (s, .wait)
    | .fail _ => (s, .nakOp)
    | .ok rv =>
      if m.left < d.length then (s1, .nakAccess)
      else if last ∧ imm.isSome ∧ rv.isNone then (s1, .rnr)
      else
        match s1.writeChecked env x.fn m.addr d with
        | (_, .wait) => (s, .wait)
        | (s2, .fail _) => (s2, if s.region m.addr = .host then .nakAccess else .nakOp)
        | (s2, .ok _) =>
          if !last then
            (s2.setQp q { x with msg := some { m with
              addr := m.addr + d.length, got := m.got + d.length, left := m.left - d.length } }, .ok 1)
          else
            let s3 := s2.setQp q { x with msg := none }
            match imm, rv with
            | some i, some v => ((s3.setRecvs (s3.rdm.recvs.erase v)).recvDone env v St.SUCCESS
                (BitVec.ofNat 64 (2 ^ 31 + i * 2 ^ 32)), .ok 1)
            | _, _ => (s3, .ok 1)

/-- A checkpoint message (R547, R560): the partner's arrive on the partner lanes, the buddy's answers on the own lanes; a
stray one is dropped and counted; DATA that no transfer expects there is refused. -/
def State.takeCk (s : State) (q : Nat) (m : CkMsg) : State × RxOut :=
  let put : State := { s with ckp := { s.ckp with inbox := s.ckp.inbox ++ [(q, m)] } }
  let partner := s.ckPartner q
  let own := s.lanes.contains q
  let stray : State × RxOut := (s.inc F.CKP_CNT_STRAY_CNT 0, .ok 1)
  match m with
  | .data slot off b =>
    let fits := (partner && (match s.ckp.recv with
        | some r => r.slot == slot && decide (off + b.length ≤ r.bytes)
        | none => false)) ||
      (own && (match s.ckp.restore with
        | some r => r.dead || (match r.header with | some h => decide (off + b.length ≤ leAt h 0x20 8) | none => true)
        | none => false))
    if !partner ∧ !own then stray else if fits then (put, .ok 1) else (s, .nakAccess)
  | .seal _ =>
    if !partner then stray else if s.ckp.recv.isSome then (put, .ok 1) else (s, .nakAccess)
  | .openReq .. | .fetch .. => if partner then (put, .ok 1) else stray
  | _ => if own then (put, .ok 1) else stray

/-- A packet whose sequence number is expected (R455 to R458, R480, R547). -/
def State.takeBody (s : State) (env : Env) (q : Nat) (x : Qp) (b : Body) (psn : Nat) : State × RxOut :=
  match b with
  | .send first last imm tag d => s.takeSend env q x first last imm tag d
  | .write first last off rkey dlen imm d => s.takeWrite env q x first last off rkey dlen imm d
  | .readReq off rkey dlen =>
    match s.regionCheck env x false off rkey dlen with
    | (s1, .ok (r, a)) =>
      (s1.setQp q { x with jobs := x.jobs ++ [⟨psn, r, a, dlen, s.fld F.MEM_FN_FENCE_EPOCH x.fn⟩] }, .ok (packets dlen x.mtuBytes))
    | (s1, .error e) => (s1, e)
  | .coll seq v ph c last d =>
    match x.group with
    | some (g, r) => s.takeColl env g r seq v ph c last d
    | none => (s, .nakOp)
  | .ck m => s.takeCk q m
  | _ => (s, .ok 1)

end Sys2Proof.Machine
end

