-- ==== Sys2Proof/Machine/RdmaCmds.lean ====
section
/-! DEFINITION. The commands of RDM_CMD (R444 to R447, R454, R472, R476, R477) and the work requests of queue pairs (R450 to
R453, R456, R459). -/

namespace Sys2Proof.Machine

/-! RDM_CMD. -/

/-- Whether a command of a kind and an operation waits for acceptance (R445). -/
def State.rdmReady (s : State) (fn kind op : Nat) : Bool :=
  s.flag F.RDM_CMD_GO fn && !s.flag F.RDM_RESULT_BUSY fn && s.fld F.RDM_CMD_KIND fn == kind && s.fld F.RDM_CMD_OP fn == op &&
  decide (s.domain 20 = .ready)

/-- A command's result: 0 OK, 1 NO_ROOM, 2 INVALID, 3 DENIED, 4 STATE, 5 READ_ERROR (R445, R486). -/
def State.rdmDone (s : State) (fn result index rkey : Nat) : State :=
  ((((s.setFld F.RDM_RESULT_RESULT fn result).setFld F.RDM_RESULT_INDEX fn index).setFld F.RDM_RESULT_RKEY fn rkey).setFlag
    F.RDM_RESULT_BUSY fn false).setFlag F.RDM_RESULT_DONE fn true

def State.rdmAccept (s : State) (fn : Nat) : State := s.setFlag F.RDM_CMD_GO fn false
def State.rdmIndex (s : State) (fn : Nat) : Nat := s.fld F.RDM_CMD_INDEX fn
def State.rdmAddr (s : State) (fn : Nat) : Nat := s.fld F.RDM_CMD_ADDR_ADDR fn * 64

/-- The result of a command on an index that names nothing of the function's: the manual states none, a free choice of
INVALID and STATE. -/
def State.noSuch (s : State) (fn : Nat) : State :=
  s.tick.rdmDone fn (if s.choice 0x445 then 2 else 4) (s.rdmIndex fn) 0

/-- A command that reads its block; a failed read changes nothing (R445). -/
def State.rdmBlock (s : State) (fn : Nat) (env : Env) (f : State → List Word → State) : State :=
  match (s.rdmAccept fn).readFor env fn (s.rdmAddr fn) 64 with
  | (_, .wait) => s
  | (s1, .fail _) => s1.rdmDone fn 5 (s.rdmIndex fn) 0
  | (s1, .ok b) => f s1 (wordsOf 8 b)

/-- A QUERY that writes its block back; a failed write has no result of its own, and answers READ_ERROR or INVALID freely. -/
def State.rdmWrite (s : State) (fn : Nat) (env : Env) (ws : List Word) : State :=
  match (s.rdmAccept fn).writeFor env fn (s.rdmAddr fn) (bytesOfWords ws) with
  | (_, .wait) => s
  | (s1, .fail _) => s1.tick.rdmDone fn (if s1.choice 0x446 then 5 else 2) (s.rdmIndex fn) 0
  | (s1, .ok _) => s1.rdmDone fn 0 (s.rdmIndex fn) 0

/-- An ACTIVE queue-pair work queue of a function (R447). -/
def State.isWq (s : State) (fn r : Nat) : Bool :=
  decide ((s.ring r).st = .active ∧ (s.ring r).typ = .workQueue ∧ (s.ring r).fn = fn)

/-- The INVALID conditions of R447, and the sharing rule of receive rings. -/
def State.qpInvalid (s : State) (fn : Nat) (raw : Bool) (pd sq rq : Nat) (rqEn : Bool) : Bool :=
  !s.flag F.RDM_MEM_EN 0 || !s.isWq fn sq || (s.qpOfSq sq).isSome ||
  (rqEn && (!s.isWq fn rq ||
    (s.qpsOfRq rq).any (fun y => raw || y.2.raw || y.2.fn != fn || y.2.pd != pd)))

/-- QP_CREATE (R445, R447). -/
def execQpCreate (fn : Nat) (env : Env) (s : State) : Out :=
  when (s.rdmReady fn 0 0 = true) (
    s.rdmBlock fn env (fun s1 b =>
      let w0 := wordAt b 0
      let w1 := wordAt b 1
      let x : Qp := { fn := fn, raw := bit w0 3, pd := field w0 31 16, sq := field w1 13 0, rq := field w1 29 16
                      rqEn := bit w1 30 }
      if s1.qpInvalid fn x.raw x.pd x.sq x.rq x.rqEn then s1.rdmDone fn 2 (s.rdmIndex fn) 0
      else
        match Tbl.firstFree s1.rdm.qps 0xBFFFE 2 with
        | none => s1.rdmDone fn 1 (s.rdmIndex fn) 0
        | some q => ((s1.setQp q x).touchQp q).rdmDone fn 0 q 0)) s

/-- The start of a requester (R444, R467). -/
def Qp.toRts (x : Qp) (psn rate now : Nat) : Qp :=
  { x with
    state := 3, sqPsn := psn, base := psn, next := psn, sendAt := psn, tail := psn, retries := 0, expiries := 0, rnrs := 0
    progress := now, rc := rate, rt := rate, alpha := 2 ^ 64, steps := 0, alphaAt := now, rateAt := now, sentBytes := 0
    paceAt := now, credit := [], reqAt := none }

/-- A queue pair in RESET: PSNs and congestion state at their initial values (R444). -/
def Qp.toReset (x : Qp) : Qp :=
  { fn := x.fn, raw := x.raw, pd := x.pd, sq := x.sq, rq := x.rq, rqEn := x.rqEn, group := x.group, cause := x.cause }

/-- MODIFY of a queue pair by its block (R444, R446): the queue pair, or RESULT. -/
def State.modifyQp (s : State) (x : Qp) (b : List Word) : Except Nat Qp :=
  let w := fun i => wordAt b i
  match field (w 0) 2 0, x.state with
  | 1, 0 => .ok { x with state := 1 }
  | 2, 1 =>
    if x.raw then .ok { x with state := 2, tc := field (w 0) 6 4 }
    else
      let mtu := field (w 0) 10 8
      let peer := field (w 3) 43 32
      if mtu = 0 ∨ 5 < mtu ∨ (s.peer? peer).isNone then .error 2
      else .ok { x with state := 2, tc := field (w 0) 6 4, mtu := mtu, rqPsn := field (w 2) 55 32, exp := field (w 2) 55 32
                        dest := field (w 3) 23 0, peer := peer }
  | 3, 2 =>
    if x.raw then .ok (x.toRts 0 0 s.tb.time)
    else
      let rto := field (w 4) 15 0
      let rd := field (w 4) 44 40
      if rto = 0 ∨ rd = 0 ∨ 16 < rd then .error 2
      else .ok { x.toRts (field (w 2) 23 0) (s.peerRate x.peer) s.tb.time with
        rtoUs := rto, rnrUs := field (w 4) 31 16, retryCnt := field (w 4) 34 32, rnrRetry := field (w 4) 37 35, rdOut := rd }
  | 0, 4 => .ok x.toReset
  | _, _ => .error 4

/-- An accepted command that waits. -/
def State.rdmWait (s : State) (w : RdmWait) : State := { s with rdm := { s.rdm with waits := s.rdm.waits ++ [w] } }

/-- Whether a packet of a queue pair is in flight in the device. -/
def State.qpBusy (s : State) (q : Nat) : Bool :=
  (s.sch.frames ++ s.sch.control).any (fun f => decide (f.src = .qp q ∨ f.src = .ckp q)) ||
  s.rdm.inbox.any (fun i => i.pkt.qpn == q)

/-- QP_MODIFY (R444 to R446). MODIFY of another kind has no meaning of its own. -/
def execQpModify (fn : Nat) (env : Env) (s : State) : Out :=
  .next (
    let kind := s.fld F.RDM_CMD_KIND fn
    if s.rdmReady fn kind 1 then
      let i := s.rdmIndex fn
      if kind ≠ 0 then
        if 2 ≤ kind ∧ fn ≠ 0 then (s.rdmAccept fn).rdmDone fn 3 i 0 else (s.rdmAccept fn).noSuch fn
      else
        match (s.qp? i).filter (fun x => x.fn == fn && x.group.isNone) with
        | none => (s.rdmAccept fn).noSuch fn
        | some x =>
          s.rdmBlock fn env (fun s1 b =>
            let to_ := field (wordAt b 0) 2 0
            if to_ = 4 then
              if x.state = 4 then s1.rdmDone fn 0 i 0 else (s1.qpError i 9 none 0).rdmDone fn 0 i 0
            else
              match s1.modifyQp x b with
              | .error r => s1.rdmDone fn r i 0
              | .ok y =>
                if to_ = 0 ∧ s.qpBusy i then (s1.setFlag F.RDM_RESULT_BUSY fn true).rdmWait ⟨fn, 0, i⟩
                else ((s1.setQp i y).touchQp i).rdmDone fn 0 i 0)
    else s)

/-- A queue pair removed with its frames, its requests and its receives. -/
def State.dropQp (s : State) (q : Nat) : State :=
  let s1 := s.qpError q 9 none 0
  let s2 : State := { s1 with rdm := { s1.rdm with
    qps := Tbl.del q s1.rdm.qps, cached := s1.rdm.cached.filter (fun y => y != q)
    asks := s1.rdm.asks.filter (fun y => y.qp != q), outs := s1.rdm.outs.filter (fun y => y.qp != q) } }
  s2.setFld F.RDM_GLB_STAT_CACHED 0 s2.rdm.cached.length

/-- QP_DESTROY (R445). -/
def execQpDestroy (fn : Nat) (s : State) : Out :=
  when (s.rdmReady fn 0 2 = true) (
    let i := s.rdmIndex fn
    match (s.qp? i).filter (fun x => x.fn == fn && x.group.isNone) with
    | none => (s.rdmAccept fn).noSuch fn
    | some _ => ((s.rdmAccept fn).dropQp i).rdmDone fn 0 i 0) s

/-- The block of a queue pair (R446). -/
def Qp.block (x : Qp) : List Word :=
  [x.state + ofBit x.raw * 8 + x.tc * 2 ^ 4 + x.mtu * 2 ^ 8 + x.pd * 2 ^ 16,
   x.sq + x.rq * 2 ^ 16 + ofBit x.rqEn * 2 ^ 30,
   x.sqPsn + x.rqPsn * 2 ^ 32,
   x.dest + x.peer * 2 ^ 32,
   x.rtoUs + x.rnrUs * 2 ^ 16 + x.retryCnt * 2 ^ 32 + x.rnrRetry * 2 ^ 35 + x.rdOut * 2 ^ 40,
   x.next % 2 ^ 24 + x.base % 2 ^ 24 * 2 ^ 32,
   x.cause + x.rc / 16 * 2 ^ 32, 0].map (BitVec.ofNat 64)

/-- QP_QUERY (R446). -/
def execQpQuery (fn : Nat) (env : Env) (s : State) : Out :=
  when (s.rdmReady fn 0 3 = true) (
    match (s.qp? (s.rdmIndex fn)).filter (fun x => x.fn == fn) with
    | none => (s.rdmAccept fn).noSuch fn
    | some x => s.rdmWrite fn env x.block) s

/-- REGION_CREATE (R445, R454). -/
def execRegionCreate (fn : Nat) (env : Env) (s : State) : Out :=
  when (s.rdmReady fn 1 0 = true) (
    s.rdmBlock fn env (fun s1 b =>
      let base := field (wordAt b 0) 47 0
      let len := field (wordAt b 1) 47 0
      let w2 := wordAt b 2
      if len = 0 ∨ 2 ^ 47 < len ∨ s1.region base = .hole ∨ s1.region (base + len - 1) = .hole then
        s1.rdmDone fn 2 (s.rdmIndex fn) 0
      else
        match Tbl.firstFree s1.rdm.regions 0x100000 0 with
        | none => s1.rdmDone fn 1 (s.rdmIndex fn) 0
        | some i =>
          let g : MemRegion := { fn := fn, base := base, len := len, pd := field w2 15 0, rd := bit w2 16, wr := bit w2 17
                                 key := field w2 31 24 }
          ({ s1 with rdm := { s1.rdm with regions := Tbl.set i g s1.rdm.regions } } : State).rdmDone fn 0 i (i * 256 + g.key))) s

/-- Whether an incoming access that was checked against a region has not completed (R455). -/
def State.regionBusy (s : State) (i : Nat) : Bool :=
  s.rdm.qps.any (fun q => q.2.jobs.any (fun j => j.region == i) || (q.2.msg.bind (fun m => m.region)) == some i)

/-- Waiting commands finish: a DESTROY whose region no access uses (R455), a MODIFY to RESET whose queue pair has no packet in
flight (R444). -/
def State.settleWaits (s : State) : State :=
  s.rdm.waits.foldl (fun t w =>
    let t1 : State := { t with rdm := { t.rdm with waits := t.rdm.waits.filter (fun y => decide (y ≠ w)) } }
    if w.kind = 1 then
      if t.regionBusy w.index then t
      else ({ t1 with rdm := { t1.rdm with regions := Tbl.del w.index t1.rdm.regions } } : State).rdmDone w.fn 0 w.index 0
    else if t.qpBusy w.index then t
    else
      match t1.qp? w.index with
      | some x => ((t1.setQp w.index x.toReset).touchQp w.index).rdmDone w.fn 0 w.index 0
      | none => t1) s

/-- REGION_DESTROY (R445, R455): DONE once every checked incoming access has completed. -/
def execRegionDestroy (fn : Nat) (s : State) : Out :=
  when (s.rdmReady fn 1 2 = true) (
    let i := s.rdmIndex fn
    match (Tbl.find? i s.rdm.regions).filter (fun g => g.fn == fn) with
    | none => (s.rdmAccept fn).noSuch fn
    | some g =>
      let s1 := (s.rdmAccept fn).setFlag F.RDM_RESULT_BUSY fn true
      (({ s1 with rdm := { s1.rdm with regions := Tbl.set i { g with dying := true } s1.rdm.regions } } : State).rdmWait
        ⟨fn, 1, i⟩).settleWaits) s

/-- REGION_QUERY (R445). -/
def execRegionQuery (fn : Nat) (env : Env) (s : State) : Out :=
  when (s.rdmReady fn 1 3 = true) (
    match (Tbl.find? (s.rdmIndex fn) s.rdm.regions).filter (fun g => g.fn == fn) with
    | none => (s.rdmAccept fn).noSuch fn
    | some g => s.rdmWrite fn env ([g.base, g.len, g.pd + ofBit g.rd * 2 ^ 16 + ofBit g.wr * 2 ^ 17 + g.key * 2 ^ 24,
        0, 0, 0, 0, 0].map (BitVec.ofNat 64))) s

/-- A PEER or GROUP command of a virtual function is DENIED (R445). -/
def State.pfOnly (s : State) (fn : Nat) (t : State) : State :=
  if fn ≠ 0 then (s.rdmAccept fn).rdmDone fn 3 (s.rdmIndex fn) 0 else t

/-- PEER_CREATE (R445, R472, R474). -/
def execPeerCreate (fn : Nat) (env : Env) (s : State) : Out :=
  when (s.rdmReady fn 2 0 = true) (
    s.pfOnly fn (
      let i := s.rdmIndex fn
      s.rdmBlock fn env (fun s1 b =>
        if 4096 ≤ i ∨ !bit (wordAt b 0) 0 then s1.rdmDone fn 2 i 0
        else if (s1.peer? i).isSome then s1.rdmDone fn 4 i 0
        else
          (s1.setPeer i { state := if bit (wordAt b 0) 1 then 5 else 1, words := b.take 6 }).rdmDone fn 0 i 0))) s

/-- PEER_DESTROY (R445): the entry is INVALID, which no queue pair survives (R469). -/
def execPeerDestroy (fn : Nat) (s : State) : Out :=
  when (s.rdmReady fn 2 2 = true) (
    s.pfOnly fn (
      let i := s.rdmIndex fn
      match s.peer? i with
      | none => (s.rdmAccept fn).noSuch fn
      | some p =>
        let s1 := ((s.rdmAccept fn).setPeer i { p with state := 0, cur := 0, prev := 0, caps := 0 }).peerLost i St.PEER_UNREACHABLE
        ({ s1 with rdm := { s1.rdm with peers := Tbl.del i s1.rdm.peers } } : State).rdmDone fn 0 i 0)) s

/-- PEER_QUERY (R472): the block, with the peer's serial number in word 7. -/
def execPeerQuery (fn : Nat) (env : Env) (s : State) : Out :=
  when (s.rdmReady fn 2 3 = true) (
    s.pfOnly fn (
      match s.peer? (s.rdmIndex fn) with
      | none => (s.rdmAccept fn).noSuch fn
      | some p => s.rdmWrite fn env (p.words ++ [0, BitVec.ofNat 64 p.serial]))) s

/-- The member list of a group block that is not well formed (R476, R477). -/
def State.groupInvalid (s : State) (b : List Word) : Bool :=
  let n := field (wordAt b 0) 12 0
  !decide (2 ≤ n ∧ n ≤ 4096) || decide (n ≤ field (wordAt b 0) 27 16) || field (wordAt b 1) 5 0 != 0 ||
  decide (field (wordAt b 3) 39 0 < 8 * 2 ^ 20) || decide (s.region (field (wordAt b 2) 47 0) ≠ .near) ||
  field (wordAt b 4) 15 0 == 0
def State.membersInvalid (s : State) (rank : Nat) (l : List Nat) : Bool :=
  l.getD rank 0 != 0xFFFF ||
  (List.range l.length).any (fun r => r != rank && (l.getD r 0 == 0xFFFF ||
    (match s.peer? (l.getD r 0) with | some p => p.foreign | none => true) ||
    (l.filter (fun p => p == l.getD r 0)).length != 1))

/-- GROUP_CREATE (R445, R476, R477). -/
def execGroupCreate (fn : Nat) (env : Env) (s : State) : Out :=
  when (s.rdmReady fn 3 0 = true) (
    s.pfOnly fn (
      let i := s.rdmIndex fn
      s.rdmBlock fn env (fun s1 b =>
        let n := field (wordAt b 0) 12 0
        let rank := field (wordAt b 0) 27 16
        if 64 ≤ i ∨ s1.groupInvalid b ∨ !s1.flag F.RDM_MEM_EN 0 then s1.rdmDone fn 2 i 0
        else if (s1.group? i).isSome then s1.rdmDone fn 4 i 0
        else
          match s1.readFor env fn (field (wordAt b 1) 47 0) (2 * n) with
          | (_, .wait) => s
          | (s2, .fail _) => s2.rdmDone fn 5 i 0
          | (s2, .ok lb) =>
            let l := groupsOf 2 n lb
            if s2.membersInvalid rank l then s2.rdmDone fn 2 i 0
            else
              let g : Group := { words := b, fn := field (wordAt b 0) 39 32, issuer := fn, n := n, rank := rank
                                 tc := field (wordAt b 0) 30 28, peers := l }
              let s3 := (List.range n).foldl (fun t r =>
                if r = rank then t
                else (t.setQp (internalQp i r) (freshInternal g i r (t.peerRate (l.getD r 0)) t.tb.time)).touchQp (internalQp i r))
                (s2.setGroup i g)
              s3.rdmDone fn 0 i 0))) s

/-- GROUP_DESTROY (R445): the group's running collective has ended. -/
def execGroupDestroy (fn : Nat) (s : State) : Out :=
  when (s.rdmReady fn 3 2 = true) (
    s.pfOnly fn (
      let i := s.rdmIndex fn
      match s.group? i with
      | none => (s.rdmAccept fn).noSuch fn
      | some g =>
        if g.op.isSome then s
        else
          let s1 := (List.range g.n).foldl (fun t r => if r = g.rank then t else t.dropQp (internalQp i r)) (s.rdmAccept fn)
          ({ s1 with rdm := { s1.rdm with groups := Tbl.del i s1.rdm.groups } } : State).rdmDone fn 0 i 0)) s

/-- GROUP_QUERY (R445). -/
def execGroupQuery (fn : Nat) (env : Env) (s : State) : Out :=
  when (s.rdmReady fn 3 3 = true) (
    s.pfOnly fn (
      match s.group? (s.rdmIndex fn) with
      | none => (s.rdmAccept fn).noSuch fn
      | some g => s.rdmWrite fn env g.words)) s

/-! Work requests. -/

/-- A dispatched entry of a queue-pair work queue with an opcode. -/
def State.wqAt (s : State) (slot op : Nat) : Option Slot :=
  match s.slot? slot with
  | some x => if x.phase = .dispatched ∧ (s.ring x.ring).typ = .workQueue ∧ c0Op (wordAt x.words 0) = op then some x else none
  | none => none

/-- Whether a queue pair has accepted the request of a slot. -/
def State.wqTaken (s : State) (q slot : Nat) : Bool :=
  (match s.qp? q with | some x => x.wqes.any (fun w => w.slot == some slot) | none => false) ||
  s.sch.frames.any (fun f => f.slot == some slot)

/-- Every earlier entry of the ring has been accepted or has completed (R453). -/
def State.wqFirst (s : State) (q : Nat) (x : Slot) : Bool :=
  (s.ringSlots x.ring).all (fun y => !idxBefore y.2.idx x.idx || decide (y.2.phase ≠ .fetching ∧ y.2.phase ≠ .arrived) &&
    (decide (y.2.phase ≠ .dispatched) || s.wqTaken q y.1))

/-- A request that fails its checks: it completes and the queue pair enters ERROR (R451, R469). -/
def State.wqFail (s : State) (slot q cause st : Nat) : State := (s.slotDone slot st 0).qpError q cause none 0

/-- A send-side request of an RC queue pair (R450 to R453, R460, R469); LOCAL is checked whole, once (R324, R453). -/
def State.request (s : State) (slot op : Nat) (env : Env) (bad : List Word → Bool) (mk : List Word → Wqe) : State :=
  match s.wqAt slot op with
  | none => s
  | some y =>
    match s.qpOfSq y.ring with
    | none => s
    | some (q, x) =>
      if s.wqTaken q slot then s.pump env q
      else if !s.wqFirst q y then s
      else if x.state = 4 then s.slotDone slot St.QP_ERROR (causeWord 0x10)
      else if x.state ≠ 3 then s
      else if x.raw ∨ bad y.words then s.wqFail slot q 8 St.BAD_CLAUSE
      else if s.domain 20 = .off then s.wqFail slot q 6 St.DOMAIN_OFF
      else if s.domain 20 = .waking then s
      else
        match s.peer? x.peer with
        | none => s.wqFail slot q 7 St.PEER_UNREACHABLE
        | some p =>
          if p.state = 4 then s.wqFail slot q 7 St.PEER_VERSION_REFUSED
          else if !p.up then s.wqFail slot q 7 St.PEER_UNREACHABLE
          else if op = 5 ∧ !bit (s.sharedCaps p) 3 then s.wqFail slot q 8 St.PEER_VERSION_REFUSED
          else
            let w := mk y.words
            match s.checkClause x.fn (decide (op = 4)) w.addr w.len with
            | .wait => s
            | .fail st => (s.refuse x.fn st).wqFail slot q 6 st
            | .ok _ => ((((s.openRanges slot y [(w.addr, w.len)]).touchQp q).pushWqe q { w with
                slot := some slot, fence := c0Fence (wordAt y.words 0), n := packets w.len x.mtuBytes }).pump env q)

/-- Reserved bits of LOCAL and LENGTH, with or without IMM, and words from `k` on (R450). -/
def wqBad (imm : Bool) (k : Nat) (ws : List Word) : Bool :=
  field (wordAt ws 1) 63 48 != 0 || bit (wordAt ws 2) 31 || (!imm && field (wordAt ws 2) 63 32 != 0) || !zeroFrom ws k
def wqBadRemote (imm : Bool) (ws : List Word) : Bool :=
  wqBad imm 5 ws || field (wordAt ws 3) 63 48 != 0 || field (wordAt ws 4) 63 32 != 0

def wqSend (imm : Bool) (ws : List Word) : Wqe :=
  { slot := none, kind := .send, addr := wordAt ws 1, len := field (wordAt ws 2) 30 0
    imm := if imm then some (field (wordAt ws 2) 63 32) else none }
def wqRemote (k : WorkKind) (imm : Bool) (ws : List Word) : Wqe :=
  { wqSend imm ws with kind := k, remote := wordAt ws 3, rkey := field (wordAt ws 4) 31 0 }

/-- SEND (R450). -/
def execRdmaSend (slot : Nat) (env : Env) (s : State) : Out := .next (s.request slot 0 env (wqBad false 3) (wqSend false))
/-- SEND_IMM (R450). -/
def execSendImm (slot : Nat) (env : Env) (s : State) : Out := .next (s.request slot 1 env (wqBad true 3) (wqSend true))
/-- WRITE (R450). -/
def execRdmaWrite (slot : Nat) (env : Env) (s : State) : Out :=
  .next (s.request slot 2 env (wqBadRemote false) (wqRemote .write false))
/-- WRITE_IMM (R450). -/
def execWriteImm (slot : Nat) (env : Env) (s : State) : Out :=
  .next (s.request slot 3 env (wqBadRemote true) (wqRemote .write true))
/-- READ (R450). -/
def execRdmaRead (slot : Nat) (env : Env) (s : State) : Out :=
  .next (s.request slot 4 env (wqBadRemote false) (wqRemote .read false))
/-- TSEND (R450): the tag in word 5. -/
def execTsend (slot : Nat) (env : Env) (s : State) : Out :=
  .next (s.request slot 5 env (fun ws => wqBad false 6 ws || wordAt ws 3 != 0 || wordAt ws 4 != 0)
    (fun ws => { wqSend false ws with tag := some (wordAt ws 5) }))

/-- FRAME (R450, R487, R488): the frame of a RAW queue pair enters its subscriber queue. -/
def execFrame (slot : Nat) (env : Env) (s : State) : Out :=
  .next (
    match s.wqAt slot 6 with
    | none => s
    | some y =>
      match s.qpOfSq y.ring with
      | none => s
      | some (q, x) =>
        let port := s.fld F.SCH_FN_MAP_RAW_PORT x.fn
        let len := field (wordAt y.words 2) 13 0
        if s.wqTaken q slot ∨ !s.wqFirst q y then s
        else if x.state = 4 then s.slotDone slot St.QP_ERROR (causeWord 0x10)
        else if x.state ≠ 3 then s
        else if !x.raw ∨ field (wordAt y.words 1) 63 48 ≠ 0 ∨ field (wordAt y.words 2) 63 14 ≠ 0 ∨ !zeroFrom y.words 3 ∨
            len < 60 ∨ s.fld F.NET_PORT_CTL_MAX_FRAME port < len + 4 then s.wqFail slot q 8 St.BAD_CLAUSE
        else if s.domain 20 = .off then s.wqFail slot q 6 St.DOMAIN_OFF
        else if s.domain 20 = .waking then s
        else if !s.queueRoom (s.subOf x.fn q) x.tc port ∨ (c0Fence (wordAt y.words 0) ∧ !s.earlierDone y.ring y.idx) then s
        else
          match s.readFor env x.fn (wordAt y.words 1) len with
          | (_, .wait) => s
          | (s1, .fail st) => s1.wqFail slot q 6 st
          | (s1, .ok b) =>
            (s1.touchQp q).enqueue
              { src := .qp q, sub := s.subOf x.fn q, svc := x.tc, port := port, len := len + 4, peer := none, raw := b
                pkt := none, slot := some slot, headSince := none })

/-- The checks of the ranges that one entry names: the first failure decides. -/
def State.checkClauses (s : State) (fn : Nat) (wr : Bool) : List (Nat × Nat) → Res Unit
  | [] => .ok ()
  | p :: t =>
    match s.checkClause fn wr p.1 p.2 with
    | .ok _ => s.checkClauses fn wr t
    | e => e

/-- Room for one more accepted receive of a ring: 8 prefetched ones of a RAW ring (R459); the overflow list of the others (R456). -/
def State.recvRoom (s : State) (raw : Bool) (ring : Nat) : Bool :=
  if raw then decide ((s.rdm.rawRecvs.filter (fun z => z.ring == ring)).length < 8)
  else decide (s.rdm.recvs.length < 524288 + 8192 ∧ (s.rdm.recvs.filter (fun z => !z.onChip)).length < 524288)

/-- A receive request (R452, R456, R459): its ranges are checked whole when the engine accepts it as a posted receive (R324, R453);
then its slot is free. -/
def State.receive (s : State) (slot op : Nat) (bad : List Word → Bool) (tagged : List Word → Option (Nat × Nat × Nat)) : State :=
  match s.wqAt slot op with
  | none => s
  | some y =>
    match s.qpsOfRq y.ring with
    | [] => s
    | (q, x) :: rest =>
      let fail := fun (t : State) (cause st : Nat) =>
        ((q, x) :: rest).foldl (fun t z => t.qpError z.1 cause none 0) (t.slotDone slot st 0)
      if !(s.ringSlots y.ring).all (fun z => !idxBefore z.2.idx y.idx || decide (z.2.phase ≠ .dispatched)) then s
      else if rest.isEmpty ∧ x.state = 4 then s.slotDone slot St.QP_ERROR (causeWord 0x10)
      else if bad y.words ∨ (x.raw ∧ op = 0x11) then fail s 8 St.BAD_CLAUSE
      else
        let v : PostedRecv := { ring := y.ring, w0 := wordAt y.words 0, fgen := y.fgen, addr := wordAt y.words 1
                                len := field (wordAt y.words 2) 30 0, tagged := tagged y.words, onChip := false
                                epoch := s.fld F.MEM_FN_FENCE_EPOCH y.fn }
        if s.domain 20 = .off then fail s 6 St.DOMAIN_OFF
        else if s.domain 20 = .waking ∨ s.recvRoom x.raw y.ring = false then s
        else
          match s.checkClauses y.fn true v.ranges with
          | .wait => s
          | .fail st => fail (s.refuse y.fn st) 6 st
          | .ok _ =>
            let s1 := s.releaseSlot slot
            if x.raw then { s1 with rdm := { s1.rdm with rawRecvs := s1.rdm.rawRecvs ++ [v] } }
            else s1.setRecvs (s1.rdm.recvs ++ [v])

/-- RECV (R450, R456). -/
def execRecv (slot : Nat) (s : State) : Out := .next (s.receive slot 0x10 (wqBad false 3) (fun _ => none))
/-- TRECV (R450, R456): TAG, MASK and TAG_OUT in words 5 to 7. -/
def execTrecv (slot : Nat) (s : State) : Out :=
  .next (s.receive slot 0x11
    (fun ws => field (wordAt ws 1) 63 48 != 0 || field (wordAt ws 2) 63 31 != 0 || wordAt ws 3 != 0 || wordAt ws 4 != 0 ||
      field (wordAt ws 7) 63 48 != 0)
    (fun ws => some (wordAt ws 5, wordAt ws 6, wordAt ws 7)))

end Sys2Proof.Machine
end

