-- ==== Sys2Proof/Machine/Rdma.lean ====
section
/-! DEFINITION. Frames delivered and sent (R414, R438, R439, R459, R487 to R502), the packets that a queue pair receives
(R442, R460 to R464), congestion control (R465 to R468), peers (R472 to R475) and collectives (R478 to R484). -/

namespace Sys2Proof.Machine

/-! The wire format of RoCE v2: the BTH and the standard opcodes of reliable connections (PRESUMED InfiniBand's), and the
HELLO payload of R473. The vendor bodies are free. -/

/-- First and last of an opcode within a family that runs First, Middle, Last, Last with Immediate, Only, Only with
Immediate. -/
def opFirst (k : Nat) : Bool := k == 0 || k == 4 || k == 5
def opLast (k : Nat) : Bool := 2 ≤ k
def opImm (k : Nat) : Bool := k == 3 || k == 5

/-- The body of a packet by its opcode and the bytes after the BTH. -/
def decodeBody (op : Nat) (b : List Byte) : Option Body :=
  if op < 6 then
    let k := op
    some (.send (opFirst k) (opLast k) (if opImm k then some (be b 0 4) else none) none (if opImm k then b.drop 4 else b))
  else if op < 12 then
    let k := op - 6
    let r := if opFirst k then 16 else 0
    let i := if opImm k then 4 else 0
    some (.write (opFirst k) (opLast k) (be b 0 8) (be b 8 4) (be b 12 4) (if opImm k then some (be b r 4) else none)
      (b.drop (r + i)))
  else if op = 12 then some (.readReq (be b 0 8) (be b 8 4) (be b 12 4))
  else if op = 13 then some (.readResp false (b.drop 4))
  else if op = 14 then some (.readResp false b)
  else if op = 15 ∨ op = 16 then some (.readResp true (b.drop 4))
  else if op = 17 then
    let y := byteAt b 0
    if field y 6 5 = 0 then some .ack
    else if field y 6 5 = 1 then some .rnr
    else if field y 4 0 = 0 then some .nakSeq
    else if field y 4 0 = 2 then some .nakAccess
    else some .nakOp
  else if op = 0x81 then some .cnp
  else if op = 0xC0 then
    if 29 ≤ b.length then
      some (.hello (leAt b 0 8) (leAt b 8 2) (leAt b 10 2) (leAt b 12 8) (leAt b 20 8) (byteAt b 28 == 1))
    else none
  else Config.vendorBody op b

/-- The packet in the UDP payload of a frame to port 4791. -/
def decodePkt (b : List Byte) : Option Pkt :=
  if b.length < 16 then none
  else
    let pad := field (byteAt b 1) 5 4
    (decodeBody (byteAt b 0) (slice b 12 (b.length - 16 - pad))).map (fun body =>
      { qpn := be b 5 3, psn := be b 9 3, ackReq := bit (byteAt b 8) 7, body := body })

/-! Delivery. -/

/-- The 32-byte classification result (R439). -/
def RxFrame.result (f : RxFrame) : List Byte :=
  let p := f.parse
  toBytes 8 f.stamp ++
  toBytes 8 (f.hash * 2 ^ 32 + f.lex.getD 0 * 2 ^ 20 + ofBit f.lex.isSome * 2 ^ 19 + f.prio * 2 ^ 16 + f.port * 2 ^ 13 +
    p.ecn * 2 ^ 11 + ofBit p.limit * 2 ^ 10 + ofBit p.frag.isSome * 2 ^ 9 + ofBit f.decrypted * 2 ^ 8 +
    f.decision.source * 2 ^ 4) ++
  toBytes 8 (p.tci * 2 ^ 48 + f.decision.index * 2 ^ 32 + ofBit p.tcp * 2 ^ 29 + ofBit p.udp * 2 ^ 28 +
    ofBit p.ipv6 * 2 ^ 27 + p.pay % 512 * 2 ^ 18 + p.l4 % 512 * 2 ^ 9 + p.l3 % 512) ++
  toBytes 8 f.decision.action

/-- Receive accounting of a delivered frame (R439, R502, R614). -/
def State.delivered (s : State) (fn q : Nat) (f : RxFrame) : State :=
  ((s.inc F.NET_FN_STAT_RX_CNT fn).bump F.SCH_RX_CNT_BYTES (svcKey f.port f.prio) (f.bytes.length + 4)).snoop (8 + f.port) q
    (slice f.bytes f.parse.pay (f.parse.payEnd - f.parse.pay))

/-- A frame to a host receive queue (R438, R459). -/
def State.rawDeliver (s : State) (env : Env) (fn q : Nat) (f : RxFrame) : State × Res Unit :=
  match (s.qp? q).filter (fun x => x.raw && x.rqEn && x.fn == fn) with
  | none => (s.inc F.NET_FN_STAT_NOQ_CNT fn, .ok ())
  | some x =>
    let s1 := s.delivered fn q f
    if x.state ≠ 2 ∧ x.state ≠ 3 then (s1, .ok ())
    else
      match s1.rdm.rawRecvs.find? (fun v => v.ring == x.rq) with
      | none => (s1.inc F.RDM_FN_STAT_NORECV_CNT fn, .ok ())
      | some v =>
        let all := f.result ++ f.bytes
        let b := all.take v.len
        let s2 : State := { s1 with rdm := { s1.rdm with rawRecvs := s1.rdm.rawRecvs.erase v } }
        match s2.writeChecked env fn v.addr b with
        | (_, .wait) => (s, .wait)
        | (s3, .fail st) => ((s3.recvDone env v st 0).qpError q 6 none 0, .ok ())
        | (s3, .ok _) => (s3.recvDone env v St.SUCCESS
            (BitVec.ofNat 64 (b.length + if b.length < all.length then 2 ^ 31 else 0)), .ok ())

/-- A frame to the RDMA engine (R442): QPN 1 goes to the queue pair of GSI_QP. -/
def State.rdmaDeliver (s : State) (env : Env) (fn : Nat) (f : RxFrame) : State × Res Unit :=
  let p := f.parse
  match if p.udp then decodePkt (slice f.bytes (p.l4 + 8) (p.payEnd - (p.l4 + 8))) else none with
  | none => (s, .ok ())
  | some k =>
    if k.qpn = 1 then
      let g := s.fld F.RDM_DISC_CTL_GSI_QP 0
      match if g = 0 then none else s.qp? g with
      | some x => s.rawDeliver env x.fn g f
      | none => (s, .ok ())
    else
      let s1 := s.delivered fn k.qpn f
      ({ s1 with rdm := { s1.rdm with inbox := s1.rdm.inbox ++ [⟨fn, k, f.port, p.ecn, p.src, f.bytes.length⟩] } }, .ok ())

/-- REORDER_DELIVER (R414, R438, R439, R502): the oldest frame of a port goes to its destination. -/
def execReorderDeliver (port : Nat) (env : Env) (s : State) : Out :=
  .next (
    match Tbl.getD s.net.reorder port [] with
    | [] => s
    | f :: rest =>
      let fn := actFn f.decision.action
      let s1 : State := { s with net := { s.net with reorder := Tbl.put [] port rest s.net.reorder } }
      let r : State × Res Unit :=
        if actKind f.decision.action = 2 then (s1.inc F.NET_FN_STAT_DROP_CNT fn, .ok ())
        else if !s.flag F.HEP_FN_CTL_NETWORK fn then (s1.inc F.NET_FN_STAT_NOQ_CNT fn, .ok ())
        else if actKind f.decision.action = 1 then s1.rdmaDeliver env fn f
        else s1.rawDeliver env fn (actQueue f.decision.action f.hash) f
      match r with
      | (_, .wait) => s
      | (s2, _) => s2.drainBuffer port ((Tbl.getD s2.net.buffer port []).length + 1))

/-! Sending. -/

/-- PORT_TRANSMIT_START (R487 to R498, R518): a port starts its next frame. -/
def execPortTransmitStart (port : Nat) (env : Env) (s : State) : Out :=
  when (s.canSend port = true ∧ Tbl.getD s.sch.busyUntil port 0 ≤ s.tb.time ∧ s.domain 21 ≠ .waking) (
    match (s.pumpAll env).nextFrame port with
    | (s1, none) => s1.settleWaits
    | (s1, some f) =>
      let s2 := (s1.accountFrame f).emitFrame f
      let s3 := match f.slot with
        | some n => s2.slotDone n St.SUCCESS (BitVec.ofNat 64 (f.len - 4))
        | none => s2
      s3.settleWaits) s

/-- RAW_FRAME_TIMEOUT (R489): a RAW frame has been at the head toward a port that cannot send for 100 ms. -/
def execRawFrameTimeout (s : State) : Out :=
  .next (
    match s.sch.frames.find? (fun f => match f.headSince with | some t => decide (t + 100000000 ≤ s.tb.time) | none => false) with
    | some f =>
      match f.src with
      | .qp q => (s.qpError q 6 f.slot St.QP_ERROR)
      | _ => s
    | none => s)

/-! Acknowledgements (R460 to R464). -/

/-- What acknowledged checkpoint data sets off: the end of a capture with its SEAL, the DONE of a FETCH (R559, R560, R567). -/
def State.ckAcked (s : State) : State :=
  let left := fun (own : Bool) (qs : List Nat) => qs.any (fun q => match s.qp? q with
    | some x => x.wqes.any (fun w => match w.kind with | .ckData src _ _ _ _ => src.isSome == own | _ => false)
    | none => false)
  let s1 := match s.ckp.job with
    | some j =>
      if s.fld F.CKP_STAT_STATE 0 = 3 ∧ !left true s.lanes then
        let s1 := (s.releaseBarrier j).setCkState 4
        let s2 : State := { s1 with ckp := { s1.ckp with job := some { j with rings := [] } } }
        s2.pushWqe (s.lanes.headD 0) { slot := none, kind := .ck (.seal (j.crcs.map (crcFinal crc64))), n := 1 }
      else s
    | none => s
  match s1.ckp.serving with
  | some (_, q) =>
    if left false (s.rdm.qps.map (fun x => x.1)) then s1
    else
      let s2 := s1.pushWqe q { slot := none, kind := .ck (.done 0), n := 1 }
      ({ s2 with ckp := { s2.ckp with serving := none } } : State).ckSettle
  | none => s1

/-- The requests of a queue pair that an extended base passes complete in order (R452, R461). -/
def State.advance (s : State) (q e : Nat) : State :=
  match s.qp? q with
  | none => s
  | some x =>
    if e ≤ x.base then s
    else
      let done := x.wqes.filter (fun w => decide (w.psn + w.n ≤ e))
      let s1 := s.setQp q { x with
        base := e, sendAt := Nat.max x.sendAt e, wqes := x.wqes.filter (fun w => decide (e < w.psn + w.n))
        progress := s.tb.time, retries := 0, expiries := 0, rnrs := 0 }
      let s2 := done.foldl (fun t w => match w.slot with
        | some n => t.slotDone n St.SUCCESS (BitVec.ofNat 64 w.len)
        | none => t) s1
      match x.group with
      | some (g, _) => s2.collCheck g
      | none => s2.ckAcked

/-- The extended number up to which an acknowledgement may move the base: not past a READ without its responses. -/
def Qp.ackLimit (x : Qp) (e : Nat) : Nat :=
  match x.wqes.find? (fun w => decide (w.kind = .read)) with
  | some w => Nat.min e (Nat.max x.base w.psn)
  | none => e

/-- A resend from the extended base, or ERROR after RETRY_CNT of them (R464). -/
def State.resend (s : State) (env : Env) (q : Nat) (timer : Bool) : State :=
  match s.qp? q with
  | none => s
  | some x =>
    if x.retryCnt ≤ x.retries then s.qpError q 1 x.headSlot St.QP_ERROR
    else
      (s.setQp q { x with sendAt := x.base, retries := x.retries + 1
                          expiries := if timer then x.expiries + 1 else x.expiries }).pump env q

/-- The oldest packet of the RDMA engine's inbox, if its body satisfies `p`, and the state without it. -/
def State.front (s : State) (p : Body → Bool) : Option (InPkt × State) :=
  match s.rdm.inbox with
  | i :: rest =>
    if p i.pkt.body then some (i, ({ s with rdm := { s.rdm with inbox := rest } } : State).settleWaits) else none
  | [] => none

/-- The queue pair that a packet is for: a packet to none is counted in BADQP_CNT (R442). -/
def State.target (s : State) (i : InPkt) (f : Nat → Qp → State) : State :=
  match if i.pkt.qpn < 2 ^ 20 then (s.qp? i.pkt.qpn).filter (fun x => x.fn == i.fn && !x.raw) else none with
  | none => s.inc F.RDM_GLB_STAT_BADQP_CNT 0
  | some x => if x.state = 2 ∨ x.state = 3 then f i.pkt.qpn x else s

def isAck : Body → Bool
  | .ack | .nakSeq | .nakAccess | .nakOp | .rnr => true
  | _ => false

/-- ACK_RECEIVE (R461, R463, R464, R469). -/
def execAckReceive (env : Env) (s : State) : Out :=
  .next (
    match s.front isAck with
    | none => s
    | some (i, s0) =>
      s0.target i (fun q x =>
        let d := psnSub i.pkt.psn (x.base % 2 ^ 24)
        if x.state ≠ 3 ∨ x.next - x.base ≤ d then s0
        else
          let e := x.base + d
          let who := (x.wqeAt e).bind (fun w => w.slot)
          match i.pkt.body with
          | .ack => ((s0.touchQp q).advance q (x.ackLimit (e + 1))).pump env q
          | .nakSeq => ((s0.touchQp q).advance q (x.ackLimit e)).resend env q false
          | .nakAccess => ((s0.touchQp q).advance q (x.ackLimit e)).qpError q 3 who St.QP_ERROR
          | .nakOp => ((s0.touchQp q).advance q (x.ackLimit e)).qpError q 4 who St.QP_ERROR
          | .rnr =>
            let s1 := ((s0.touchQp q).advance q (x.ackLimit e)).inc F.RDM_FN_STAT_RNR_CNT x.fn
            match s1.qp? q with
            | none => s1
            | some y =>
              if y.rnrRetry ≠ 7 ∧ y.rnrRetry ≤ y.rnrs then s1.qpError q 2 who St.QP_ERROR
              else s1.setQp q { y with rnrs := y.rnrs + 1, rnrUntil := some (s.tb.time + y.rnrUs * 1000), sendAt := y.base }
          | _ => s0))

/-- RETRANSMIT_TIMEOUT (R464). -/
def execRetransmitTimeout (qp : Nat) (env : Env) (s : State) : Out :=
  .next (
    match s.qp? qp with
    | none => s
    | some x =>
      if x.state = 3 ∧ x.base < x.next ∧ x.rnrUntil.isNone ∧
          x.progress + x.rtoUs * 1000 * 2 ^ min 7 x.expiries ≤ s.tb.time then (s.touchQp qp).resend env qp true
      else s)

/-- RNR_WAIT_EXPIRY (R464). -/
def execRnrWaitExpiry (qp : Nat) (env : Env) (s : State) : Out :=
  .next (
    match s.qp? qp with
    | none => s
    | some x =>
      match x.rnrUntil with
      | some t =>
        if t ≤ s.tb.time then
          ((s.touchQp qp).setQp qp { x with rnrUntil := none, sendAt := x.base, progress := s.tb.time }).pump env qp
        else s
      | none => s)

/-! The responder. -/

/-- An acknowledgement of everything before the expected PSN (R463). -/
def State.ackNow (s : State) (q : Nat) : State :=
  match s.qp? q with
  | some x => (s.setQp q { x with unacked := 0 }).qpCtl q (x.exp + 2 ^ 24 - 1) .ack
  | none => s

/-- ACK_DELAY_EXPIRY (R463). -/
def execAckDelayExpiry (qp : Nat) (s : State) : Out :=
  .next (
    match s.qp? qp with
    | some x => if 0 < x.unacked ∧ x.unackedAt + 4000 ≤ s.tb.time then (s.touchQp qp).ackNow qp else s
    | none => s)

/-- A CNP for a marked packet in ECN mode, at most one per CNP_GAP_US (R466). -/
def State.markSeen (s : State) (q : Nat) (x : Qp) (ecn : Nat) : State :=
  let gap : Bool := match x.lastCnp with
    | some t => decide (t + s.fld F.RDM_TC_CFG_CNP_GAP_US x.tc * 1000 ≤ s.tb.time)
    | none => true
  if ecn = 3 ∧ s.ccMode x = 1 ∧ gap then (s.setQp q { x with lastCnp := some s.tb.time }).qpCtl q 0 .cnp else s

/-- Granted bytes that arrive; bytes beyond the grants count against the window (R468). -/
def fillGrants (q now : Nat) : Nat → List CreditOut → List CreditOut
  | n, [] => if n = 0 then [] else [⟨q, n, now⟩]
  | n, o :: t =>
    if o.qp ≠ q then o :: fillGrants q now n t
    else if o.left ≤ n then fillGrants q now (n - o.left) t
    else { o with left := o.left - n } :: t

/-- The sequence state of a responder after a packet that it takes (R462, R463). -/
def State.accepted (s : State) (q n : Nat) (i : InPkt) : State :=
  match s.qp? q with
  | none => s
  | some x =>
    let x1 := { x with exp := (x.exp + n) % 2 ^ 24, nakSent := false }
    match i.pkt.body with
    | .readReq _ _ _ => s.setQp q x1
    | b =>
      let s1 := s.setQp q { x1 with unacked := x.unacked + 1
                                    unackedAt := if x.unacked = 0 then s.tb.time else x.unackedAt }
      let s2 : State := if s.ccMode x = 2 then
          { s1 with rdm := { s1.rdm with outs := fillGrants q s.tb.time (bodyData b).length s1.rdm.outs } } else s1
      if i.pkt.ackReq ∨ 8 ≤ x.unacked + 1 then s2.ackNow q else s2

/-- A READ response at the requester (R450, R461). -/
def State.readData (s : State) (env : Env) (q : Nat) (x : Qp) (psn : Nat) (b : List Byte) : Option State :=
  let d := psnSub psn (x.base % 2 ^ 24)
  let e := x.base + d
  if x.next - x.base ≤ d then some s
  else
    match x.wqeAt e with
    | none => some s
    | some w =>
      if w.kind ≠ .read ∨ e ≠ Nat.max x.base w.psn then some s
      else
        match s.writeChecked env x.fn (w.addr + (e - w.psn) * x.mtuBytes) b with
        | (_, .wait) => none
        | (s1, .fail st) => some ((s1.advance q (Nat.max x.base w.psn)).qpError q 6 w.slot st)
        | (s1, .ok _) => some ((s1.advance q (e + 1)).pump env q)

def isData : Body → Bool
  | .send _ _ _ _ _ | .write _ _ _ _ _ _ _ | .readReq _ _ _ | .readResp _ _ | .coll _ _ _ _ _ _ | .ck _ => true
  | _ => false

/-- RC_PACKET_RECEIVE (R442, R455 to R458, R462, R463, R466, R480). -/
def execRcPacketReceive (env : Env) (s : State) : Out :=
  .next (
    match s.front isData with
    | none => s
    | some (i, s0) =>
      s0.target i (fun q x0 =>
        let s1 := (s0.touchQp q).markSeen q x0 i.ecn
        let x := (s1.qp? q).getD x0
        match i.pkt.body with
        | .readResp _ b => ((s1.readData env q x i.pkt.psn b).getD s)
        | b =>
          let d := psnSub i.pkt.psn x.exp
          if d = 0 then
            match s1.takeBody env q x b x.exp with
            | (_, .wait) => s
            | (s2, .ok n) => (s2.accepted q n i).settleWaits
            | (s2, .rnr) => s2.qpCtl q x.exp .rnr
            | (s2, .nakAccess) => s2.qpCtl q x.exp .nakAccess
            | (s2, .nakOp) => s2.qpCtl q x.exp .nakOp
          else if d < 2 ^ 23 then
            if x.nakSent then s1 else (s1.setQp q { x with nakSent := true }).qpCtl q x.exp .nakSeq
          else
            match b with
            | .readReq off rkey len =>
              match s1.regionCheck env x false off rkey len with
              | (_, .error .wait) => s
              | (s2, .ok (r, a)) => s2.setQp q { x with jobs := x.jobs ++ [⟨i.pkt.psn, r, a, len, s.fld F.MEM_FN_FENCE_EPOCH x.fn⟩] }
              | (s2, .error _) => s2.qpCtl q i.pkt.psn .nakAccess
            | _ => s1.ackNow q))

/-! Congestion control (R465 to R468). -/

/-- CNP_RECEIVE (R467). -/
def execCnpReceive (s : State) : Out :=
  .next (
    match s.front (fun b => decide (b = .cnp)) with
    | none => s
    | some (i, s0) =>
      s0.target i (fun q x =>
        if s.ccMode x ≠ 1 then s0
        else
          let g := s.fld F.RDM_TC_CFG_G x.tc
          (s0.touchQp q).setQp q { x with
            rt := x.rc
            rc := Nat.max (s.fld F.RDM_TC_RATE_RATE_MIN_MBPS x.tc * 16) (x.rc * (2 ^ 65 - x.alpha) / 2 ^ 65)
            alpha := x.alpha * (2 ^ g - 1) / 2 ^ g + 2 ^ 64 / 2 ^ g
            steps := 0, alphaAt := s.tb.time, rateAt := s.tb.time, sentBytes := 0 }))

/-- ALPHA_TIMER (R467). -/
def execAlphaTimer (qp : Nat) (s : State) : Out :=
  .next (
    match s.qp? qp with
    | none => s
    | some x =>
      let g := s.fld F.RDM_TC_CFG_G x.tc
      if x.state = 3 ∧ s.ccMode x = 1 ∧ x.alphaAt + s.fld F.RDM_TC_CFG_ALPHA_US x.tc * 1000 ≤ s.tb.time then
        (s.touchQp qp).setQp qp { x with alpha := x.alpha * (2 ^ g - 1) / 2 ^ g, alphaAt := s.tb.time }
      else s)

/-- RATE_INCREASE (R467). -/
def execRateIncrease (qp : Nat) (s : State) : Out :=
  .next (
    match s.qp? qp with
    | none => s
    | some x =>
      let fast := s.fld F.RDM_TC_CFG_FAST_STEPS x.tc
      if x.state = 3 ∧ s.ccMode x = 1 ∧ (x.rateAt + s.fld F.RDM_TC_RATE_INC_US x.tc * 1000 ≤ s.tb.time ∨
          s.fld F.RDM_TC_CFG_INC_KIB x.tc * 1024 ≤ x.sentBytes) then
        let n := x.steps + 1
        let up := if 2 * fast < n then s.fld F.RDM_TC_RATE_HAI_MBPS x.tc * 16
          else if fast < n then s.fld F.RDM_TC_RATE_AI_MBPS x.tc * 16 else 0
        let rt := Nat.min (x.rt + up) (s.peerRate x.peer)
        (s.touchQp qp).setQp qp { x with steps := n, rt := rt, rc := (rt + x.rc) / 2, rateAt := s.tb.time, sentBytes := 0 }
      else s)

/-- CREDIT_REQUEST_RECEIVE (R468). -/
def execCreditRequestReceive (s : State) : Out :=
  .next (
    match s.front (fun b => match b with | .creditReq _ => true | _ => false) with
    | none => s
    | some (i, s0) =>
      s0.target i (fun q _ =>
        match i.pkt.body with
        | .creditReq n =>
          let l := s0.rdm.asks
          { s0 with rdm := { s0.rdm with
              asks := if l.any (fun a => a.qp == q) then l.map (fun a => if a.qp = q then { a with bytes := n } else a)
                else l ++ [⟨q, n⟩] } }
        | _ => s0))

/-- The port and class of a queue pair. -/
def State.qpPortTc (s : State) (q : Nat) : Nat × Nat :=
  match s.qp? q with
  | some x => (((s.peer? x.peer).map Peer.port).getD 8, x.tc)
  | none => (8, 8)

/-- CREDIT_GRANT (R468): the next requesting queue pair of a port and class gets what the window has room for. -/
def execCreditGrant (port tc : Nat) (s : State) : Out :=
  .next (
    match s.rdm.asks.find? (fun a => decide (s.qpPortTc a.qp = (port, tc))) with
    | none => s
    | some a =>
      let used := sumOf ((s.rdm.outs.filter (fun o => decide (s.qpPortTc o.qp = (port, tc)))).map (fun o => o.left))
      let room := s.fld F.RDM_TC_CRED_WINDOW_KIB tc * 1024 - used
      let g := min (min a.bytes room) (s.fld F.RDM_TC_CRED_GRANT_KIB tc * 1024)
      if g = 0 then s
      else
        let rest := s.rdm.asks.erase a
        ({ s with rdm := { s.rdm with
            asks := if a.bytes ≤ g then rest else rest ++ [⟨a.qp, a.bytes - g⟩]
            outs := s.rdm.outs ++ [⟨a.qp, g, s.tb.time⟩] } } : State).qpCtl a.qp 0 (.grant g))

/-- CREDIT_GRANT_RECEIVE (R468). -/
def execCreditGrantReceive (env : Env) (s : State) : Out :=
  .next (
    match s.front (fun b => match b with | .grant _ => true | _ => false) with
    | none => s
    | some (i, s0) =>
      s0.target i (fun q x =>
        match i.pkt.body with
        | .grant n => (s0.setQp q { x with credit := x.credit ++ [(n, s.tb.time)], reqAt := none }).pump env q
        | _ => s0))

/-- CREDIT_EXPIRY (R468): credit is discarded LIFE_US after its grant arrived; a request without a grant is repeated. -/
def execCreditExpiry (qp : Nat) (env : Env) (s : State) : Out :=
  .next (
    match s.qp? qp with
    | none => s
    | some x =>
      let life := s.fld F.RDM_TC_CRED_LIFE_US x.tc * 1000
      let x1 := { x with credit := x.credit.filter (fun c => decide (s.tb.time < c.2 + life)) }
      match x.reqAt with
      | some t => if t + life ≤ s.tb.time then (s.setQp qp { x1 with reqAt := none }).pump env qp else s.setQp qp x1
      | none => s.setQp qp x1)

/-- CREDIT_RETURN (R468): unfilled granted bytes return to the window 2 × LIFE_US after their grant. -/
def execCreditReturn (s : State) : Out :=
  .next { s with rdm := { s.rdm with outs := s.rdm.outs.filter (fun o =>
    decide (s.tb.time < o.time + 2 * s.fld F.RDM_TC_CRED_LIFE_US (s.qpPortTc o.qp).2 * 1000)) } }

/-! Peers. -/

/-- A HELLO or LEAVE toward a peer entry (R473, R474). -/
def State.sendHello (s : State) (i : Nat) (p : Peer) (leave : Bool) : State :=
  s.sendCtl 0 i p.tc
    ⟨0, 0, false, .hello s.serial s.versions.1 s.versions.2 (s.fld F.RDM_CAP_CAP 0) p.serial leave⟩

/-- HELLO_SEND (R473): while the serial number is held none is sent (R578). -/
def execHelloSend (s : State) : Out :=
  when (s.flag F.RDM_DISC_CTL_EN 0 = true ∧ s.rdm.lastHello + s.fld F.RDM_DISC_CTL_HELLO_MS 0 * 1000000 ≤ s.tb.time ∧
      bit (s.fld F.FUM_FUSE_HELD_HELD 0) 16 = false ∧ s.domOn 20 = true) (
    s.rdm.peers.foldl (fun t p => if p.2.foreign then t else t.sendHello p.1 p.2 false)
      { s with rdm := { s.rdm with lastHello := s.tb.time } }) s

/-- LEAVE to every UP peer (R474). -/
def State.sendLeaves (s : State) : State :=
  s.rdm.peers.foldl (fun t p => if p.2.state = 2 then t.sendHello p.1 p.2 true else t) s

/-- A peer entry leaves UP (R474). -/
def State.peerDown (s : State) (i : Nat) (p : Peer) : State :=
  ((s.setPeer i { p with state := 3 }).peerLost i St.PEER_UNREACHABLE).postEvent {} 0 0x8003 (BitVec.ofNat 64 i) 0

/-- HELLO_RECEIVE (R473 to R475). -/
def execHelloReceive (s : State) : Out :=
  .next (
    match s.front (fun b => match b with | .hello _ _ _ _ _ _ => true | _ => false) with
    | none => s
    | some (i, s0) =>
      if i.pkt.qpn ≠ 0 then s0.inc F.RDM_GLB_STAT_BADQP_CNT 0
      else
        match s.rdm.peers.find? (fun p => !p.2.foreign && decide (p.2.ip = i.srcIp)) with
        | none => s0.inc F.RDM_GLB_STAT_UNKNOWN_CNT 0
        | some (n, p) =>
          match i.pkt.body with
          | .hello serial cur prev caps echo leave =>
            let p1 : Peer := { p with serial := serial, cur := cur, prev := prev, caps := caps, lastHeard := s.tb.time }
            if leave then (if p.state = 2 then s0.peerDown n p1 else s0.setPeer n p1)
            else if (p.state = 1 ∨ p.state = 3) ∧ echo = s.serial then
              if withinStep s.versions (cur, prev) then
                s.rdm.groups.foldl (fun t g => t.reviveGroup g.1)
                  ((s0.setPeer n { p1 with state := 2 }).postEvent {} 0 0x8002 (BitVec.ofNat 64 n) 0)
              else
                ((s0.setPeer n { p1 with state := 4 }).peerLost n St.PEER_VERSION_REFUSED).postEvent {} 0 0x8004
                  (BitVec.ofNat 64 n) 0
            else s0.setPeer n p1
          | _ => s0)

/-- PEER_DEAD_TIMEOUT (R474). -/
def execPeerDeadTimeout (peer : Nat) (s : State) : Out :=
  .next (
    match s.peer? peer with
    | some p =>
      if p.state = 2 ∧ p.lastHeard + s.fld F.RDM_DISC_CTL_DEAD_MS 0 * 1000000 ≤ s.tb.time then s.peerDown peer p else s
    | none => s)

/-- What a write to RDM_DISC_CTL does (R474). -/
def State.discChanged (old s : State) : State :=
  if old.flag F.RDM_DISC_CTL_EN 0 ∧ !s.flag F.RDM_DISC_CTL_EN 0 then s.sendLeaves else s

/-- DISCOVERY_DISABLE (R474): a write to RDM_DISC_CTL. -/
def execDiscoveryDisable (who : Requester) (v : Word) (s : State) : Out :=
  when (isVf who = false) (
    let s := s.touch who
    State.discChanged s (s.writeWhole [F.RDM_DISC_CTL_GSI_QP, F.RDM_DISC_CTL_DEAD_MS, F.RDM_DISC_CTL_HELLO_MS,
      F.RDM_DISC_CTL_EN] v.toNat)) s

/-! Collectives (R478 to R484). -/

/-- Reserved encodings and unused fields of a collective clause (R73, R478, R479). -/
def collBad (ws : List Word) (n : Nat) : Bool :=
  let a := collArgs ws
  decide (3 < a.dtype) || decide (2 < a.rop) || decide (4 < a.wire) || field (wordAt ws 1) 63 32 != 0 ||
  decide (2 ^ 48 ≤ a.src ∨ 2 ^ 48 ≤ a.dst ∨ 2 ^ 40 ≤ a.count) || wordAt ws 5 != 0 || wordAt ws 6 != 0 ||
  decide (2 ^ 32 ≤ a.timeout) || a.count == 0 || (decide (2 ≤ a.wire) && a.count % 32 != 0) ||
  (a.dtype == 3 && a.wire != 0) || (a.wire == 1 && a.dtype != 0) || decide (n ≤ a.root)

/-- The ranges that a collective reads and writes (R478). -/
def CollArgs.ranges (a : CollArgs) (x : Group) : (Nat × Nat) × (Nat × Nat) :=
  let n := if a.op = 1 then 1 else if a.op = 3 then (if x.rank = a.root then 1 else 0) else x.n
  ((a.src, n * a.chunk), (a.dst, a.chunk * a.outChunks x.n))

/-- The reachability checks of R479: 0, or a status. -/
def State.collPeers (s : State) (a : CollArgs) (x : Group) : Nat :=
  let ms := ((List.range x.n).filter (fun r => r != x.rank)).filterMap (fun r => s.peer? (x.peers.getD r 0))
  let caps := ms.foldl (fun c p => c &&& s.sharedCaps p) (s.fld F.RDM_CAP_CAP 0)
  if ms.any (fun p => !p.up && p.state != 4) then St.PEER_UNREACHABLE
  else if ms.any (fun p => p.state == 4) then St.PEER_VERSION_REFUSED
  else if (a.wire = 2 ∨ a.wire = 3) ∧ !bit caps 1 ∨ a.wire = 4 ∧ !bit caps 2 then St.PEER_VERSION_REFUSED
  else 0

/-- The lowest current protocol version among the members (R483). -/
def State.collVersion (s : State) (x : Group) : Nat :=
  ((List.range x.n).filterMap (fun r => if r = x.rank then none else (s.peer? (x.peers.getD r 0)).map (fun p => p.cur))).foldl
    Nat.min s.versions.1

/-- What a member sends of its own accord at the start of an operation (R481). -/
def State.collBegin (s : State) (env : Env) (g : Nat) (x : Group) (o : CollOp) (a : CollArgs) (fn : Nat) : State × Res Unit :=
  let next := (x.rank + 1) % x.n
  let send := fun (t : State) (to_ ph c : Nat) (b : List Byte) =>
    (t.setOp g (fun o => { o with sent := o.sent + b.length })).collSend g o to_ ph c b
  let chunk := fun (t : State) (c : Nat) => t.readChecked env fn (a.src + c * a.chunk) a.chunk
  if a.op = 0 ∨ a.op = 2 then
    let c := (x.rank + x.n - 1) % x.n
    match chunk s c with
    | (s1, .ok b) => (send s1 next 0 c (wireOut a.wire a.dtype (dtypeIn a.dtype b)), .ok ())
    | (s1, .fail st) => (s1, .fail st)
    | (s1, .wait) => (s1, .wait)
  else if a.op = 1 ∨ (a.op = 3 ∧ x.rank = a.root) then
    match s.readChecked env fn a.src a.chunk with
    | (s1, .ok b) => s1.collGather env g fn x o a x.rank (wireOut a.wire a.dtype (dtypeIn a.dtype b)) true
    | (s1, .fail st) => (s1, .fail st)
    | (s1, .wait) => (s1, .wait)
  else if a.op = 4 then
    (List.range x.n).foldl (fun (r : State × Res Unit) j =>
      match r with
      | (t, .ok _) =>
        match chunk t j with
        | (t1, .ok b) =>
          if j = x.rank then t1.collWrite env g fn a j b
          else (send t1 j 0 x.rank (wireOut a.wire a.dtype (dtypeIn a.dtype b)), .ok ())
        | (t1, .fail st) => (t1, .fail st)
        | (t1, .wait) => (t1, .wait)
      | r => r) (s, .ok ())
  else (s, .ok ())

/-- The memory checks of a collective, made once (R324, R479). -/
def State.collRanges (s : State) (y : Slot) (r : (Nat × Nat) × (Nat × Nat)) : Res Unit :=
  if y.progress.isSome then .ok ()
  else
    match if r.1.2 = 0 then .ok () else s.checkClause y.fn false r.1.1 r.1.2 with
    | .ok _ => s.checkClause y.fn true r.2.1 r.2.2
    | e => e

/-- An earlier collective of the same group has not ended (R480). -/
def State.collEarlier (s : State) (y : Slot) (g : Nat) : Bool :=
  s.rng.slots.any (fun z => decide (z.2.phase = .dispatched ∧ z.2.seq < y.seq) &&
    decide ((s.ring z.2.ring).typ = .clause) && c0Class (wordAt z.2.words 0) == 4 && (collArgs z.2.words).group == g)

/-- A collective that has passed its checks starts on its group. -/
def State.collStart (s : State) (env : Env) (slot : Nat) (y : Slot) (x : Group) (a : CollArgs) : State :=
  let o : CollOp := { slot := slot, seq := x.seq % 65536, version := s.collVersion x, started := y.since, phase := 0 }
  let s1 := s.setGroup a.group { x with op := some o, seq := x.seq + 1 }
  let s2 := s1.spoil (field (wordAt x.words 2) 47 0) (field (wordAt x.words 3) 39 0)
  match s2.collBegin env a.group x o a y.fn with
  | (s3, .ok _) => s3.collCheck a.group
  | (s3, .fail st) => s3.collMemFail a.group x o st
  | (_, .wait) => s

/-- A collective clause (R479 to R483). -/
def State.collective (s : State) (slot op : Nat) (env : Env) : State :=
  match s.clauseAt slot 4 op with
  | none => s
  | some y =>
    let a := collArgs y.words
    match s.group? a.group with
    | none => s.withDomain slot 20 (s.slotDone slot St.BAD_CLAUSE 0)
    | some x =>
      if (match x.op with | some o => o.slot == slot | none => false) then s
      else s.withDomainOf slot y 20 (
        if x.fn ≠ y.fn ∨ collBad y.words x.n then s.slotDone slot St.BAD_CLAUSE 0
        else
          let r := a.ranges x
          match s.collRanges y r with
          | .fail st => (s.refuse y.fn st).slotDone slot st 0
          | .wait => s
          | .ok _ =>
            let s1 := if y.progress.isSome then s else s.openRanges slot y ([r.1, r.2].filter (fun p => decide (p.2 ≠ 0)))
            let st := s.collPeers a x
            if st ≠ 0 then s1.slotDone slot st 0
            else if x.op.isSome ∨ s.collEarlier y a.group then s1
            else s1.collStart env slot y x a)

/-- REDUCE_SCATTER (R478, R481). -/
def execReduceScatter (slot : Nat) (env : Env) (s : State) : Out := .next (s.collective slot 0 env)
/-- ALL_GATHER (R478, R481). -/
def execAllGather (slot : Nat) (env : Env) (s : State) : Out := .next (s.collective slot 1 env)
/-- ALL_REDUCE (R478, R481). -/
def execAllReduce (slot : Nat) (env : Env) (s : State) : Out := .next (s.collective slot 2 env)
/-- BROADCAST (R478, R481). -/
def execBroadcast (slot : Nat) (env : Env) (s : State) : Out := .next (s.collective slot 3 env)
/-- ALL_TO_ALL (R478, R481). -/
def execAllToAll (slot : Nat) (env : Env) (s : State) : Out := .next (s.collective slot 4 env)

/-- COLLECTIVE_TIMEOUT (R478, R483): TIMEOUT µs since the dispatch of a group's running operation. -/
def execCollectiveTimeout (group : Nat) (s : State) : Out :=
  .next (
    match s.group? group with
    | none => s
    | some x =>
      match x.op with
      | none => s
      | some o =>
        let t := match s.slot? o.slot with | some y => (collArgs y.words).timeout | none => 0
        if t ≠ 0 ∧ o.started + t * 1000 ≤ s.tb.time then s.collFail group 3 x.rank true else s)

/-- ABORT_NOTICE_RECEIVE (R483): the named operation fails with the same cause. -/
def execAbortNoticeReceive (s : State) : Out :=
  .next (
    match s.front (fun b => match b with | .abort _ _ _ => true | _ => false) with
    | none => s
    | some (i, s0) =>
      s0.target i (fun _ x =>
        match x.group, i.pkt.body with
        | some (g, _), .abort seq cause rank =>
          match (s0.group? g).bind (fun y => y.op) with
          | some o => if o.seq = seq then s0.collFail g cause rank false else s0
          | none => s0
        | _, _ => s0))

end Sys2Proof.Machine
end

