-- ==== Sys2Proof/Machine/Arrival.lean ====
section
/-! DEFINITION. The arrival of fetched entries: clauses (R72, R89, R90), NVMe commands (R376) and work requests (R451). -/

namespace Sys2Proof.Machine

/-- Whether an opcode is defined for the role of a work queue ring and the type of its queue pair (R450, R459). -/
def workOpcode (send raw : Bool) (op : Nat) : Bool :=
  if send then (if raw then op == 6 else decide (op < 6)) else op == 0x10 || (!raw && op == 0x11)

/-- The arrival of a work request (R451): a failed check completes it, and the queue pairs of its ring enter ERROR. An entry
of a ring that no queue pair uses waits. -/
def State.workArrival (s : State) (slot : Nat) (x : Slot) : State :=
  let r := s.ring x.ring
  let w := wordAt x.words 0
  let send := (s.qpOfSq x.ring).isSome
  match (match s.qpOfSq x.ring with | some q => [q] | none => s.qpsOfRq x.ring) with
  | [] => s
  | q :: qs =>
    let st :=
      if c0Rgen w ≠ r.gen then St.RING_GEN_MISMATCH
      else if c0Fgen w ≠ s.fgen r.fn then St.FUNC_GEN_MISMATCH
      else if c0Class w ≠ 0 ∨ bit w 13 ∨ !workOpcode send q.2.raw (c0Op w) then St.BAD_CLAUSE
      else if !s.flag F.HEP_FN_CTL_NETWORK r.fn then St.CLASS_NOT_ENABLED
      else St.SUCCESS
    let s1 := s.dispatch slot { x with fgen := if st = St.FUNC_GEN_MISMATCH then s.fgen x.fn else c0Fgen w }
    if st = St.SUCCESS then s1
    else (q :: qs).foldl (fun t z => t.qpError z.1 8 none 0) (s1.slotDone slot st 0)

/-- CLAUSE_ARRIVAL (R72, R89, R90, R451): the word-0 checks of the next entry of a ring, then its dispatch or its hold. RESULT
of a clause that ends here is 0 (the model's choice, log entry 162). -/
def execClauseArrival (slot : Nat) (s : State) : Out :=
  .next (
    match s.slot? slot with
    | none => s
    | some x =>
      if x.phase = .fetching ∧ x.words.length = 8 ∧ s.isNext x ∧ (s.ring x.ring).held.isNone then
        let r := s.ring x.ring
        if r.typ = .nvmeSq then
          let s1 := s.dispatch slot { x with fgen := s.fgen x.fn }
          -- R376: a command opcode that is not supported
          if nvmeSupported (r.qid == 0) (field (wordAt x.words 0) 7 0) then s1 else s1.slotDone slot 0x001 0
        else if r.typ = .workQueue then s.workArrival slot x
        else if r.typ ≠ .clause then s.dispatch slot { x with fgen := s.fgen x.fn }
        else
          let w := wordAt x.words 0
          let st := s.checkWord0 x.ring w
          let x1 := { x with fgen := if st = St.FUNC_GEN_MISMATCH then s.fgen x.fn else c0Fgen w }
          if st ≠ St.SUCCESS then
            ((s.setSlot slot x1).setRing x.ring { r with disp := if x.retry then r.disp else idxNext x.idx }).slotDone
              slot st 0
          else if slotless (c0Class w) then
            let s1 := s.freeSlot slot
            let h : HeldClause := { idx := x.idx, words := x.words, since := s.tb.time, seq := s.rng.dispNo, done := none }
            let s2 := s1.setRing x.ring { r with
              held := some { h with mis := c0Class w == 7 && c0Op w == 2 && !barrierBad h && s.barrierMis r.fn h } }
            { s2 with rng := { s2.rng with dispNo := s2.rng.dispNo + 1 } }
          else if c0Fence w ∧ !s.earlierDone x.ring x.idx then s.setSlot slot { x1 with phase := .arrived }
          else s.dispatch slot x1
      else s)

end Sys2Proof.Machine
end

