-- ==== Sys2Proof/Machine/Ckpt.lean ====
section
/-! DEFINITION. The checkpoint engine (chapter 16): arming, the cut with the barriers (R104 to R106, R557), the transfer, the
buddy area (R333, R549, R550), restore and export. -/

namespace Sys2Proof.Machine

/-! The CHECKPOINT activity (R558). -/

/-- Checkpoint work joins the activity, or requests it. -/
def State.ckJoin (s : State) : State :=
  if s.mem.maint.any (fun m => decide (m.act = .checkpoint)) then s else s.maintRequest .checkpoint 0

/-- Work that goes on once the activity is RUNNING. -/
def State.ckRun (s : State) (f : State → State) : State :=
  let s1 := s.ckJoin
  if s1.maintRuns .checkpoint 0 then f s1 else s1

/-! Region lists (R551, R552). -/

/-- A region entry of 32 bytes as it stands in a list. -/
def ckEntry (b : List Byte) : CkRegion := { addr := leAt b 0 6, len := leAt b 8 5, conv := leAt b 16 1 % 16 }

/-- A malformed entry (R551, R552). -/
def ckEntryBad (s : State) (b : List Byte) : Bool :=
  let r := ckEntry b
  let ends := [s.region r.addr, s.region (r.addr + r.len - 1)]
  leAt b 6 2 != 0 || leAt b 13 3 != 0 || leAt b 16 8 / 16 != 0 || leAt b 24 8 != 0 || decide (3 < r.conv) ||
  r.len == 0 || r.addr % 64 != 0 || r.len % (convUnit r.conv).1 != 0 ||
  !ends.all (fun x => decide (x = .near ∨ x = .cap ∨ x = .shared)) || decide (ends.head? ≠ ends.getLast?)

/-- Regions that share an address. -/
def ckOverlap : List CkRegion → Bool
  | [] => false
  | r :: t => t.any (fun x => overlaps r.addr r.len x.addr x.len) || ckOverlap t

/-- STORED of every region (R551). -/
def ckPlace : Nat → List CkRegion → List CkRegion
  | _, [] => []
  | off, r :: t => { r with stored := off } :: ckPlace (alignUp (off + r.storedLen) 64) t

/-- BYTES: the end of the last region's stored data. -/
def ckBytes (l : List CkRegion) : Nat :=
  match l.getLast? with
  | some r => r.stored + r.storedLen
  | none => 0

/-- The region entries with STORED set, as a slot header's table of 3,072 bytes (R549). -/
def ckTable (l : List CkRegion) : List Byte :=
  let b := l.flatMap (fun r => toBytes 8 r.addr ++ toBytes 8 r.len ++ toBytes 8 r.conv ++ toBytes 8 r.stored)
  b ++ List.replicate (3072 - b.length) 0

/-- The regions of a header's table. -/
def ckRegions (h : List Byte) : List CkRegion :=
  ckPlace 0 ((List.range (leAt h 7 1)).map (fun i => ckEntry (slice h (0x100 + 32 * i) 32)))

/-- The first failure of the checks of every region (R324, R22). -/
def State.ckAccess (s : State) (wr : Bool) : List CkRegion → Res Unit
  | [] => .ok ()
  | r :: t =>
    match s.checkRange s.buddyFn wr true r.addr r.len with
    | .ok _ => s.ckAccess wr t
    | x => x

/-! Lanes (R546). -/

/-- The serial number of a queue pair's peer. -/
def State.qpSerial (s : State) (q : Nat) : Nat :=
  match (s.qp? q).bind (fun x => s.peer? x.peer) with
  | some p => p.serial
  | none => 0

/-- A lane that breaks R546. -/
def State.laneBad (s : State) (q : Nat) : Bool :=
  match s.qp? q with
  | none => true
  | some x =>
    x.raw || x.fn != s.buddyFn || x.state != 3 || x.mtu != 5 || s.qpSerial q != s.qpSerial (s.lanes.headD 0) ||
    (match s.peer? x.peer with
     | some p => p.foreign
     | none => true)

/-- Steps 3 and 4 of R554: the status of the first failure, or none. -/
def State.lanesFail (s : State) : Option Nat :=
  let gap := (List.range 8).any (fun k => s.flag (F.CKP_PAIR_EN.at k) 0 && decide (s.lanes.length ≤ k))
  if !s.flag (F.CKP_PAIR_EN.at 0) 0 ∨ gap ∨ s.lanes.any s.laneBad then some St.CKPT_NO_BUDDY
  else
    s.lanes.findSome? (fun q =>
      match (s.qp? q).bind (fun x => s.peer? x.peer) with
      | some p => if p.state = 2 then none else if p.state = 4 then some St.PEER_VERSION_REFUSED else some St.PEER_UNREACHABLE
      | none => some St.PEER_UNREACHABLE)

/-! Arming (R554 to R556). -/

/-- A list read and checked in the order of R554: its regions. -/
def State.ckList (s : State) (env : Env) (a n : Nat) : State × Res (List CkRegion) :=
  match s.readFor env s.buddyFn a (n * 32) with
  | (s1, .fail st) => (s1, .fail st)
  | (s1, .wait) => (s1, .wait)
  | (s1, .ok b) =>
    let es := (List.range n).map (fun i => slice b (32 * i) 32)
    let rs := ckPlace 0 (es.map ckEntry)
    if es.any (ckEntryBad s) ∨ ckOverlap rs then (s1, .fail St.BAD_CLAUSE)
    else
      match s1.ckAccess false rs with
      | .fail st => (s1.refuse s.buddyFn st, .fail st)
      | .wait => (s1, .wait)
      | .ok _ =>
        match s1.lanesFail with
        | some st => (s1, .fail st)
        | none => (s1, .ok rs)

/-- CKP_STAT.STATE is IDLE. -/
def State.ckIdle (s : State) : Bool := s.fld F.CKP_STAT_STATE 0 == 0

/-- The checkpoint of a region list that has just been checked, for an ARM clause or a warning. -/
def State.ckJob (s : State) (slot : Option Nat) (rs : List CkRegion) : CkJob :=
  { slot := slot, regions := rs, epoch := s.fld F.MEM_FN_FENCE_EPOCH s.buddyFn }

/-- A checkpoint armed. -/
def State.ckArm (s : State) (j : CkJob) : State :=
  ({ s with ckp := { s.ckp with job := some j, waits := s.ckp.waits.filter (fun w => decide (w.slot ≠ j.slot)) } } : State).setCkState 1

/-- A warning has armed the engine and the cut has not begun (R556). -/
def State.warned (s : State) : Bool :=
  match s.ckp.job with
  | some j => j.slot.isNone && j.rings.isEmpty && j.bytes == 0
  | none => false

/-- An ARM that has passed its checks arms, or waits with its region list until the engine is idle (R554, R556). -/
def State.ckTake (s : State) (j : CkJob) : State :=
  if s.ckIdle ∨ s.warned then s.ckArm j
  else if s.ckp.waits.any (fun w => decide (w.slot = j.slot)) then s
  else { s with ckp := { s.ckp with waits := s.ckp.waits ++ [j] } }

/-- ARM (R545, R553, R554, R556). -/
def execArm (slot : Nat) (env : Env) (s : State) : Out :=
  .next (
    match s.clauseAt slot 6 0 with
    | none => s
    | some x =>
      let a := wordAt x.words 1
      let c := wordAt x.words 2
      let a1 := if a = 0 then s.fld F.CKP_LIST_ADDR 0 * 64 else a
      let n := if a = 0 then s.fld F.CKP_LIST_COUNT 0 else c
      if s.ckp.job.any (fun j => decide (j.slot = some slot)) then s
      else
      match s.ckp.waits.find? (fun j => decide (j.slot = some slot)) with
      | some j => s.ckTake j
      | none =>
      if x.fn ≠ s.buddyFn ∨ 2 ^ 48 ≤ a ∨ a % 64 ≠ 0 ∨ 128 ≤ c ∨ !zeroFrom x.words 3 ∨ n = 0 ∨ 96 < n then
        s.slotDone slot St.BAD_CLAUSE 0
      else s.withDomain slot 27 (
        match s.ckList env a1 n with
        | (s1, .fail st) => s1.slotDone slot st 0
        | (_, .wait) => s
        | (s1, .ok rs) => s1.ckTake (s1.ckJob (some slot) rs)))

/-- The count of a Sinter code. -/
def State.sinterCount (s : State) (c : Nat) : Nat := (Tbl.getD s.snt.recs c {}).count

/-- A firing of entry `k` (R555): what the engine does. A checkpoint armed by a warning reads its list at once; a failure of a
check of R554 then fails it. -/
def State.trigFire (s : State) (env : Env) (k : Nat) : State :=
  let req := fun (t : State) (no : Nat) =>
    t.postEvent env t.buddyFn 0xB001 (BitVec.ofNat 64 (k + s.fld F.CKP_TRIG_CODE k * 2 ^ 16 + no * 2 ^ 63)) 0
  if s.ckp.job.isSome then s.inc F.CKP_CNT_MERGED_CNT 0
  else if s.ckIdle ∧ s.fld F.CKP_LIST_COUNT 0 ≠ 0 ∧ s.flag (F.CKP_PAIR_EN.at 0) 0 then
    match s.ckList env (s.fld F.CKP_LIST_ADDR 0 * 64) (s.fld F.CKP_LIST_COUNT 0) with
    | (s1, .ok rs) => (req s1 0).ckArm (s1.ckJob none rs)
    | (s1, .fail st) => ((req s1 0).ckArm (s1.ckJob none [])).ckFail st 0
    | (_, .wait) => req s 1
  else req s 1

/-- One entry's sample (R555). -/
def State.trigSample (env : Env) (s : State) (k : Nat) : State :=
  let c := s.sinterCount (s.fld F.CKP_TRIG_CODE k)
  let put := fun (t : State) => ({ t with ckp := { t.ckp with trigs := Tbl.set k ⟨s.tb.time, c⟩ t.ckp.trigs } } : State)
  if !s.flag F.CKP_TRIG_VALID k then { s with ckp := { s.ckp with trigs := Tbl.del k s.ckp.trigs } }
  else
    match Tbl.find? k s.ckp.trigs with
    | none => put s
    | some w =>
      if w.count + s.fld F.CKP_TRIG_THRESH k ≤ c then put (s.trigFire env k)
      else if w.start + s.fld F.CKP_TRIG_WINDOW_S k * 1000000000 ≤ s.tb.time then put s
      else s

/-- TRIGGER_SAMPLE (R555): every second of timebase. -/
def execTriggerSample (env : Env) (s : State) : Out :=
  when (s.ckp.lastSample + 1000000000 ≤ s.tb.time ∧ s.domain 27 = .ready)
    ((List.range 16).foldl (State.trigSample env) { s with ckp := { s.ckp with lastSample := s.tb.time } }) s

/-! The cut (R557) and barriers. -/

/-- OPEN sent on lane 0 (R560, R561). -/
def State.sendOpen (s : State) (j : CkJob) : State :=
  let q := s.lanes.headD 0
  let peerCur := match (s.qp? q).bind (fun x => s.peer? x.peer) with
    | some p => p.cur
    | none => 0
  let fmt := min s.versions.1 peerCur
  let n := ckBytes j.regions
  let j1 : CkJob := { j with lanes := s.lanes.length, bytes := n, format := fmt, since := s.tb.time }
  ({ s with ckp := { s.ckp with job := some j1 } } : State).pushWqe q
    { slot := none, n := 1, kind := .ck (.openReq fmt j.step n s.lanes.length (ckTable j.regions)) }

/-- The cut goes on once the activity runs: OPEN is sent, once. -/
def State.ckKick (s : State) : State :=
  match s.ckp.job with
  | some j => if !j.rings.isEmpty ∧ j.bytes = 0 then s.ckRun (fun t => t.sendOpen j) else s
  | none => s

/-- Whether a barrier of `fn` whose member clauses stand on the rings `rs` is the cut of the armed checkpoint: one of them marks
a step boundary (R106, R557). -/
def State.cutsHere (s : State) (fn : Nat) (rs : List Nat) : Bool :=
  fn == s.buddyFn && s.fld F.CKP_STAT_STATE 0 == 1 && s.ckp.job.isSome &&
  rs.any (fun r => match (s.ring r).held with | some h => barrierStep h | none => false)

/-- The BARRIER clauses of the rings `rs` complete together, each with its step number (R104, R105). -/
def State.barrierDone (s : State) (rs : List Nat) : State :=
  rs.foldl (fun t r => match (t.ring r).held with
    | some o => t.heldDone r St.SUCCESS (o.words.getD 2 0)
    | none => t) s

/-- BARRIER (R104, R105, R557): one that arrived with another N than those held completes alone; otherwise the first N of those
that are held, each after every earlier clause of its own ring, complete together. The RESULT is the clause's step number. The
first STEP barrier of the buddy function while a checkpoint is armed is the cut: its completions are held. -/
def execBarrier (ring : Nat) (s : State) : Out :=
  .next (
    if s.ckHolds ring then s.ckKick
    else
    match s.heldAt ring 7 2 with
    | none => s
    | some h =>
      let fn := (s.ring ring).fn
      if barrierBad h then s.heldDone ring St.BAD_CLAUSE 0
      else if h.mis then s.heldDone ring St.BARRIER_MISMATCH 0
      else
        let ready := s.barrierReady fn (barrierId h)
        if barrierN h ≤ ready.length then
          let rs := ready.take (barrierN h)
          if s.cutsHere fn rs then
            (({ s with ckp := { s.ckp with
                job := s.ckp.job.map (fun j => { j with rings := rs, step := wordAt h.words 2 }) } } : State).setCkState 2).ckKick
          else s.barrierDone rs
        else s)

/-! Slots of the buddy area (R549, R550). -/

/-- The header of a slot, and its STATE: 0 EMPTY, 1 WRITING, 2 VALID. -/
def State.ckHeader (s : State) (k : Nat) : List Byte := s.devRead (s.ckSlotBase k) 0x1000
def State.ckSlotState (s : State) (k : Nat) : Nat :=
  let h := s.devRead (s.ckSlotBase k) 64
  if s.buddySize = 0 ∨ leAt h 0 4 ≠ 0x4B43374B ∨ 2 < leAt h 6 1 then 0 else leAt h 6 1
def State.ckWriteNo (s : State) (k : Nat) : Nat :=
  if s.ckSlotState k = 0 then 0 else leAt (s.devRead (s.ckSlotBase k) 64) 0x18 8

/-- The bytes of a slot that a read of it touches: the header, and the stored data of a VALID copy. -/
def State.ckSlotLen (s : State) (k : Nat) : Nat :=
  0x1000 + (if s.ckSlotState k = 2 then leAt (s.devRead (s.ckSlotBase k) 64) 0x20 8 else 0)

/-- A slot that a FETCH or an EXPORT reads. -/
def State.ckReading (s : State) (k : Nat) : Bool :=
  s.ckp.serving.any (fun x => x.1 == k) || s.ckp.exporting.any (fun x => x.2 == k)

/-- The slot that R550 takes; none while it is being read. -/
def State.ckChoose (s : State) : Option Nat :=
  let va := s.ckSlotState 0 == 2
  let vb := s.ckSlotState 1 == 2
  let k := if va ∧ vb then (if s.ckWriteNo 1 < s.ckWriteNo 0 then 1 else 0) else if va then 1 else 0
  if s.ckReading k then none else some k

/-- The header of a slot being written (R549, R560). -/
def ckNewHeader (fmt regions serial step wno : Nat) (table : List Byte) : List Byte :=
  toBytes 4 0x4B43374B ++ toBytes 2 fmt ++ [(1 : Byte)] ++ toBytes 1 regions ++ toBytes 8 serial ++ toBytes 8 step ++
  toBytes 8 wno ++ List.replicate 0xE0 0 ++ table ++ List.replicate 0x300 0

/-- Entries in a region table: those with a length. -/
def ckEntries (table : List Byte) : Nat := ((List.range 96).filter (fun i => leAt table (32 * i + 8) 5 != 0)).length

/-- Whether a message begins new work of the engine: a domain that is to switch off refuses it, and goes on with the rest (R588). -/
def ckOpens (m : CkMsg) : Bool := match m with | .openReq .. | .fetch .. => true | _ => false

/-- The oldest checkpoint message, if it satisfies `p`, and the state without it; none while the engine's domain is off. -/
def State.ckFront (s : State) (p : CkMsg → Bool) : Option (Nat × CkMsg × State) :=
  match s.ckp.inbox with
  | (q, m) :: rest =>
    if p m ∧ (if ckOpens m then decide (s.domain 27 = DomState.ready) else s.domOn 27) then some (q, m, { s with ckp := { s.ckp with inbox := rest } }) else none
  | [] => none

/-- A control message sent on a queue pair. -/
def State.ckSay (s : State) (q : Nat) (m : CkMsg) : State := s.pushWqe q { slot := none, kind := .ck m, n := 1 }

/-- OPEN (R550, R560, R561): refused, or answered with the slot that is taken; its header says WRITING, and BYTES, SEALED, LANES
and CRC in it are not stated before the seal. Where the slot's memory is off (R23), the OPEN is not answered (log 142). -/
def execOpenMsg (s : State) : Out :=
  .next (
    match s.ckFront (fun m => match m with | .openReq .. => true | _ => false) with
    | some (q, .openReq fmt step n lanes table, s0) =>
      if s.buddySize = 0 ∨ !(List.range 8).any (fun k => s.flag (F.CKP_PARTNER_EN.at k) 0) then s0.ckSay q (.refuse 1)
      else if s.buddySize / 2 < 0x1000 + n then s0.ckSay q (.refuse 2)
      else
        match s.ckChoose with
        | none => s
        | some k =>
          let s1 := s.ckJoin
          let a := s.ckSlotBase k
          if !s1.maintRuns .checkpoint 0 then s1
          else
            match s1.checkRange s.buddyFn true true a (0x1000 + n) with
            | .wait => s1
            | .fail st => (({ s1 with ckp := s0.ckp } : State).refuse s.buddyFn st).ckSettle
            | .ok _ =>
              let wno := max (s.ckWriteNo 0) (s.ckWriteNo 1) + 1
              let h := ckNewHeader fmt (ckEntries table) (s.qpSerial q) step wno table
              let s2 := ((({ s1 with ckp := s0.ckp } : State).devWrite a h).spoil (a + 0x20) 17).spoil (a + 0x40) 64
              (({ s2 with ckp := { s2.ckp with
                  recv := some { slot := k, bytes := n, lanes := lanes, crcs := List.replicate lanes crc64.init
                                 epoch := s.fld F.MEM_FN_FENCE_EPOCH s.buddyFn } } } : State).setFlag
                F.CKP_STAT_RECEIVING 0 true).ckSay q (.accept k)
    | _ => s)

/-- ACCEPT (R560, R562): the data of every lane starts. -/
def execAccept (s : State) : Out :=
  .next (
    match s.ckFront (fun m => match m with | .accept _ => true | _ => false) with
    | some (_, .accept k, s0) =>
      match s.ckp.job with
      | some j =>
        if s.fld F.CKP_STAT_STATE 0 = 2 ∧ j.bytes ≠ 0 then
          let s1 : State := { s0 with ckp := { s0.ckp with
            job := some { j with target := k, crcs := List.replicate j.lanes crc64.init } } }
          (s.lanes.zipIdx.foldl (fun t x =>
            let n := lanePackets x.2 j.lanes j.bytes
            if n = 0 then t
            else t.pushWqe x.1 { slot := none, kind := .ckData (some j.regions) x.2 j.lanes k j.bytes, n := n }) s1).setCkState 3
        else s0
      | none => s0
    | _ => s)

/-- REFUSE (R565). -/
def execRefuse (s : State) : Out :=
  .next (
    match s.ckFront (fun m => match m with | .refuse _ => true | _ => false) with
    | some (_, .refuse r, s0) =>
      if s.fld F.CKP_STAT_STATE 0 = 2 then
        if r = 2 then s0.ckFail St.CKPT_AREA_SMALL 0 else s0.ckFail St.CKPT_NO_BUDDY 1
      else s0
    | _ => s)

/-- OPEN_TIMEOUT (R565): no ACCEPT, or no answer to a FETCH, within OPEN_MS. -/
def execOpenTimeout (s : State) : Out :=
  .next (
    let lim := s.fld F.CKP_CTL_OPEN_MS 0 * 1000000
    let s1 := match s.ckp.job with
      | some j =>
        if s.fld F.CKP_STAT_STATE 0 = 2 ∧ j.bytes ≠ 0 ∧ j.since + lim ≤ s.tb.time then s.ckFail St.CKPT_NO_BUDDY 2 else s
      | none => s
    match s1.ckp.restore with
    | some r =>
      if r.header.isNone ∧ !r.dead ∧ r.since + lim ≤ s1.tb.time then
        s1.restoreEnd St.CKPT_NO_BUDDY (BitVec.ofNat 64 (2 * 2 ^ 56))
      else s1
    | none => s1)

/-! Data, seal (R560 to R563). -/

/-- DATA of a partner's copy: written into the slot, whose range was admitted at the OPEN (R324), and folded into its stream
(R562, R614). Data that would fill a poisoned block in part is not written (R318), and the copy is then not sealed (log 142). -/
def State.ckStore (s0 : State) (r : CkRecv) (off : Nat) (b : List Byte) : State :=
  let k := if r.lanes = 0 then 0 else off / 65536 % r.lanes
  let a := s0.ckSlotBase r.slot + 0x1000 + off
  let no := s0.partialPoison a b.length
  let s1 := if no then s0 else s0.devWrite a b
  ({ s1 with ckp := { s1.ckp with recv := some { r with
      bad := r.bad || no
      crcs := r.crcs.mapIdx (fun i c => if i = k then crcFold crc64 c b else c) } } } : State).snoop 27 k b

/-- A RESTORE that fails before the holder has sent everything: its clause completes, and what still arrives is dropped. -/
def State.restoreDrop (s : State) (r : CkRestore) (st : Nat) : State :=
  (({ s with ckp := { s.ckp with restore := some { r with dead := true } } } : State).slotDone r.slot st 0).setCkState 0

/-- The header that answers a FETCH (R561, R567 step 2). -/
def State.ckGotHeader (s : State) (r : CkRestore) (h : List Byte) : State :=
  let v := s.versions.1
  let fmt := leAt h 4 2
  if fmt ≠ v ∧ fmt + 1 ≠ v then s.restoreDrop r St.CKPT_VERSION
  else
    match s.ckAccess true (ckRegions h) with
    | .fail st => (s.refuse s.buddyFn st).restoreDrop r st
    | _ => { s with ckp := { s.ckp with restore := some { r with
        header := some h, regions := ckRegions h, epoch := s.fld F.MEM_FN_FENCE_EPOCH s.buddyFn } } }

/-- DATA (R560, R567): into the slot of the partner's copy, or, on restore, kept for the regions. The header that answers a FETCH
comes first. -/
def execDataMsg (s : State) : Out :=
  .next (
    match s.ckFront (fun m => match m with | .data .. | .header _ => true | _ => false) with
    | some (_, .header h, s0) =>
      match s.ckp.restore with
      | some r =>
        if r.dead then s0
        else if decide (s.ckAccess true (ckRegions h) = .wait) then s
        else s0.ckGotHeader r h
      | none => s0
    | some (q, .data slot off b, s0) =>
      match s.ckp.recv.filter (fun r => s.ckPartner q && r.slot == slot && decide (off + b.length ≤ r.bytes)) with
      | some r =>
        if s.rangeHeld (s.ckSlotBase r.slot + 0x1000 + off) b.length then s else s0.ckStore r off b
      | none =>
        match s.ckp.restore with
        | some r =>
          match r.header with
          | some h =>
            let n := leAt h 0x30 1
            let s1 : State := { s0 with ckp := { s0.ckp with restore := some { r with got := r.got ++ [(off, b)] } } }
            s1.snoop 27 (if n = 0 then 0 else off / 65536 % n) b
          | none => s0
        | none => s0
    | _ => s)

/-- SEAL (R563): the stream CRCs are compared; STATE VALID is written last. -/
def execSealMsg (env : Env) (s : State) : Out :=
  .next (
    match s.ckFront (fun m => match m with | .seal _ => true | _ => false) with
    | some (q, .seal crcs, s0) =>
      match s.ckp.recv with
      | none => s0
      | some r =>
        let a := s.ckSlotBase r.slot
        if s.rangeHeld a 128 then s
        else
        let s1 := (({ s0 with ckp := { s0.ckp with recv := none } } : State).setFlag F.CKP_STAT_RECEIVING 0 false)
        if r.crcs.map (crcFinal crc64) = crcs ∧ r.bad = false then
          let h := s.devRead a 128
          let h1 := h.take 0x20 ++ toBytes 8 r.bytes ++ toBytes 8 s.tb.time ++ toBytes 1 r.lanes ++ slice h 0x31 15 ++
            crcs.flatMap (toBytes 8) ++ List.replicate (64 - 8 * crcs.length) 0
          let s2 := (s1.devWrite a h1).devWrite a (h1.take 6 ++ [(2 : Byte)] ++ slice h1 7 57)
          let s3 := s2.postEvent env s.buddyFn 0xB004 (BitVec.ofNat 64 (r.slot + leAt h 0x10 4 * 2 ^ 32)) 0
          (s3.ckSay q (.sealed 0)).ckSettle
        else (s1.ckSay q (.sealed 1)).ckSettle
    | _ => s)

/-- SEALED (R565): the sender's checkpoint completes or fails. -/
def execSealed (env : Env) (s : State) : Out :=
  .next (
    match s.ckFront (fun m => match m with | .sealed _ => true | _ => false) with
    | some (_, .sealed c, s0) =>
      match s.ckp.job with
      | none => s0
      | some j =>
        if s.fld F.CKP_STAT_STATE 0 ≠ 4 then s0
        else if c ≠ 0 then s0.ckFail St.CKPT_TRANSFER_CRC 0
        else
          let s1 := ((s0.inc F.CKP_CNT_SEALED_CNT 0).setFld F.CKP_STAT_STEP 0 j.step).setCkState 0
          let s2 : State := { s1 with ckp := { s1.ckp with job := none } }
          let s3 := match j.slot with
            | some n => s2.slotDone n St.SUCCESS (BitVec.ofNat 64 j.step)
            | none => s2.postEvent env s.buddyFn 0xB002 (BitVec.ofNat 64 j.step) 0
          s3.ckSettle
    | _ => s)

/-! Restore (R567). -/

/-- RESTORE: a FETCH goes out on lane 0. -/
def execRestore (slot : Nat) (s : State) : Out :=
  .next (
    match s.clauseAt slot 6 1 with
    | none => s
    | some x =>
      let w := fun i => wordAt x.words i
      if s.ckp.restore.any (fun r => r.slot == slot && !r.dead) then s
      else if x.fn ≠ s.buddyFn ∨ 3 ≤ w 1 ∨ !zeroFrom x.words 4 then s.slotDone slot St.BAD_CLAUSE 0
      else s.withDomainOf slot x 27 (
        match s.lanesFail with
        | some st => s.slotDone slot st 0
        | none =>
          if !s.ckIdle ∨ s.ckp.restore.isSome then s.openRanges slot x []
          else s.ckRun (fun t =>
            (({ t with ckp := { t.ckp with restore := some { slot := slot, since := s.tb.time } } } : State).setCkState 5).ckSay
              (s.lanes.headD 0) (.fetch (w 1) (w 2) (w 3)))))

/-- The slot that a FETCH takes (R567 step 1): VALID, of the serial number and the step; of several the newest. -/
def State.ckSelect (s : State) (sel serial step : Nat) : Option Nat :=
  let ok := fun k =>
    let h := s.devRead (s.ckSlotBase k) 64
    decide (sel = 0 ∨ sel = k + 1) && s.ckSlotState k == 2 && leAt h 8 8 == serial && (step == 0 || leAt h 0x10 8 == step)
  if ok 0 ∧ ok 1 then some (if s.ckWriteNo 0 < s.ckWriteNo 1 then 1 else 0)
  else if ok 0 then some 0 else if ok 1 then some 1 else none

/-- FETCH (R567): the holder sends the header, then the data over its partner lanes, or DONE with a status. -/
def execFetch (env : Env) (s : State) : Out :=
  .next (
    match s.ckFront (fun m => match m with | .fetch .. => true | _ => false) with
    | some (q, .fetch sel serial step, s0) =>
      if s.ckp.serving.isSome then s
      else
        match s.ckSelect sel (if serial = 0 then s.qpSerial q else serial) step with
        | none => s0.ckSay q (.done St.CKPT_NO_BUDDY)
        | some k =>
          let s1 := s.ckJoin
          if !s1.maintRuns .checkpoint 0 then s1
          else
            let s2 : State := { s1 with ckp := s0.ckp }
            match s.checkRange s.buddyFn false true (s.ckSlotBase k) (s.ckSlotLen k) with
            | .wait => s1
            | .fail st => (s2.ckSay q (.done st)).ckSettle
            | .ok _ =>
              match s2.readChecked env s.buddyFn (s.ckSlotBase k) 0x1000 with
              | (s3, .ok h) =>
                let n := leAt h 0x20 8
                let ls := ((List.range 8).filter (fun i => s.flag (F.CKP_PARTNER_EN.at i) 0)).map
                  (fun i => s.fld (F.CKP_PARTNER_QP.at i) 0)
                let qs := if ls.isEmpty then [q] else ls
                let s4 := ({ s3 with ckp := { s3.ckp with
                  serving := some (k, q), servingEpoch := s.fld F.MEM_FN_FENCE_EPOCH s.buddyFn } } : State).ckSay q (.header h)
                qs.zipIdx.foldl (fun t x =>
                  let m := lanePackets x.2 qs.length n
                  if m = 0 then t
                  else t.pushWqe x.1 { slot := none, kind := .ckData none x.2 qs.length k n, n := m }) s4
              | (s3, .fail st) => (s3.ckSay q (.done st)).ckSettle
              | (_, .wait) => s1
    | _ => s)

/-- The stored data that has arrived, laid out by offset. -/
def ckAssemble (n : Nat) (got : List (Nat × List Byte)) : Memory :=
  got.foldl (fun m x => if x.1 + x.2.length ≤ n then m.writeList x.1 x.2 else m) {}

/-- The CRC of stream `k` of `n` over stored data (R562). -/
def ckStreamCrc (m : Memory) (bytes k n : Nat) : Nat :=
  crcFinal crc64 ((List.range (laneStripes k n bytes)).foldl (fun c j =>
    let off := (k + j * n) * 65536
    crcFold crc64 c (m.readList off (min 65536 (bytes - off)))) crc64.init)

/-- Whether every stream CRC of a header holds over the stored data. -/
def ckCrcsOk (h : List Byte) (m : Memory) : Bool :=
  let n := leAt h 0x30 1
  (List.range n).all (fun k => ckStreamCrc m (leAt h 0x20 8) k n == leAt h (0x40 + 8 * k) 8)

/-- The regions given unspecified contents (R567 step 4). -/
def State.ckSpoil (s : State) (l : List CkRegion) : State := l.foldl (fun t r => t.spoil r.addr r.len) s

/-- The regions written back (R552, R567 step 3). -/
def State.ckWriteBack (s : State) (env : Env) (m : Memory) : List CkRegion → State × Res Unit
  | [] => (s, .ok ())
  | r :: t =>
    match s.writeChecked env s.buddyFn r.addr (convIn r.conv (m.readList r.stored r.storedLen)) with
    | (s1, .ok _) => s1.ckWriteBack env m t
    | x => x

/-- DONE (R567): the end of a FETCH. -/
def execDoneMsg (env : Env) (s : State) : Out :=
  .next (
    match s.ckFront (fun m => match m with | .done _ => true | _ => false) with
    | some (_, .done st, s0) =>
      match s.ckp.restore with
      | none => s0
      | some r =>
        match r.header with
        | none => s0.restoreEnd (if st = 0 then St.CKPT_NO_BUDDY else st)
            (if st = 0 ∨ st = St.CKPT_NO_BUDDY then BitVec.ofNat 64 (3 * 2 ^ 56) else 0)
        | some h =>
          let rs := ckRegions h
          let m := ckAssemble (leAt h 0x20 8) r.got
          if r.dead then s0.restoreEnd 0 0
          else if st ≠ 0 then (s0.ckSpoil rs).restoreEnd st 0
          else if !ckCrcsOk h m then (s0.ckSpoil rs).restoreEnd St.CKPT_TRANSFER_CRC 0
          else
            match s0.ckWriteBack env m rs with
            | (s1, .ok _) => s1.restoreEnd St.SUCCESS (BitVec.ofNat 64 (leAt h 0x20 8))
            | (s1, .fail e) => (s1.ckSpoil rs).restoreEnd e 0
            | (_, .wait) => s
    | _ => s)

/-! Export (R568). -/

/-- The copy of an EXPORT that runs: a FORMAT that R561 does not accept fails with CKPT_VERSION. -/
def State.ckExport (s : State) (env : Env) (slot k dest cap : Nat) : State :=
  let fin := fun (t : State) (st : Nat) (res : Nat) =>
    (({ t with ckp := { t.ckp with exporting := none } } : State).setCkState 0).slotDone slot st (BitVec.ofNat 64 res)
  if s.ckSlotState k ≠ 2 then (fin s St.CKPT_NO_BUDDY (3 * 2 ^ 56)).ckSettle
  else
    match s.readChecked env s.buddyFn (s.ckSlotBase k) 0x1000 with
    | (_, .wait) => s
    | (s1, .fail st) => (fin s1 st 0).ckSettle
    | (s1, .ok h) =>
      let n := leAt h 0x20 8
      if leAt h 4 2 ≠ s.versions.1 ∧ leAt h 4 2 + 1 ≠ s.versions.1 then (fin s1 St.CKPT_VERSION 0).ckSettle
      else if cap < 0x1000 + n then (fin s1 St.CKPT_AREA_SMALL 0).ckSettle
      else
        match s1.readChecked env s.buddyFn (s.ckSlotBase k + 0x1000) n with
        | (_, .wait) => s
        | (s2, .fail st) => (fin s2 st 0).ckSettle
        | (s2, .ok b) =>
          if !ckCrcsOk h (Memory.writeList 0 b {}) then (fin s2 St.CKPT_TRANSFER_CRC 0).ckSettle
          else
            match s2.writeChecked env s.buddyFn dest (h ++ b) with
            | (s3, .ok _) => (fin s3 St.SUCCESS (0x1000 + n)).ckSettle
            | (s3, .fail st) => (fin s3 st 0).ckSettle
            | (_, .wait) => s

/-- The checks of an EXPORT: DEST under R324, and the slot that is read, as the checkpoint engine reads it (R22, R23, R325). -/
def State.ckExportCheck (s : State) (fn k dest cap : Nat) : Res Unit :=
  match s.checkClause fn true dest cap with
  | .ok _ => if s.buddySize = 0 then .ok () else s.checkRange fn false true (s.ckSlotBase k) (s.ckSlotLen k)
  | r => r

/-- EXPORT (R553, R568): it is checked once, becomes the engine's work, and then the slot is copied. -/
def execExportClause (slot : Nat) (env : Env) (s : State) : Out :=
  .next (
    match s.clauseAt slot 6 2 with
    | none => s
    | some x =>
      let k := wordAt x.words 1
      let dest := wordAt x.words 2
      let cap := wordAt x.words 3
      if s.ckp.exporting = some (slot, k) then
        if s.maintRuns .checkpoint 0 then s.ckExport env slot k dest cap else s
      else if x.fn ≠ s.buddyFn ∨ 2 ≤ k ∨ 2 ^ 48 ≤ dest ∨ 2 ^ 48 ≤ cap ∨ !zeroFrom x.words 4 then
        s.slotDone slot St.BAD_CLAUSE 0
      else s.withDomainOf slot x 27 (
        match (if x.progress.isSome then .ok () else s.ckExportCheck x.fn k dest cap) with
        | .fail st => (s.refuse x.fn st).slotDone slot st 0
        | .wait => s
        | .ok _ =>
          let s1 := if x.progress.isSome then s else s.openRanges slot x [(dest, cap)]
          if !s.ckIdle ∨ s.ckp.exporting.isSome then s1
          else s1.ckRun (fun t =>
            ({ t with ckp := { t.ckp with exporting := some (slot, k) } } : State).setCkState 6)))

/-! The buddy size and function resets. -/

/-- BUDDY_APPLY (R333). -/
def execBuddyApply (s : State) : Out :=
  when (s.flag F.MEM_BUDDY_CTL_APPLY 0 = true) (
    let s1 := s.setFlag F.MEM_BUDDY_CTL_APPLY 0 false
    let n := s.fld F.MEM_BUDDY_CTL_SIZE_GIB 0
    if s.ckp.transfers then
      ({ s1 with mem := { s1.mem with buddyWait := some n } } : State).setFlag F.MEM_BUDDY_STAT_WAITING 0 true
    else s1.buddySet n) s

/-- A function reset of the buddy function ends every activity of the engine as a failure (R566). -/
def State.ckReset (s : State) : State :=
  let s1 := (s.ckFail St.CKPT_NO_BUDDY 0).restoreEnd St.CKPT_NO_BUDDY 0
  let s2 := match s1.ckp.exporting with
    | some (n, _) => (({ s1 with ckp := { s1.ckp with exporting := none } } : State).setCkState 0).slotDone n St.CKPT_NO_BUDDY 0
    | none => s1
  let s3 := s2.ckp.waits.foldl (fun t j => match j.slot with
    | some n => t.slotDone n St.CKPT_NO_BUDDY 0
    | none => t) s2
  ({ s3 with ckp := { s3.ckp with waits := [] } } : State).partnerEnd

end Sys2Proof.Machine
end

