-- ==== Sys2Proof/Machine/Storage.lean ====
section
/-! DEFINITION. The storage engine: namespaces and their backing (R381, R384), the cache (R385, R386), range locks
(R387, R388), backing commands (R394 to R402), protection information (R406) and direct feed (R403 to R405). -/

namespace Sys2Proof.Machine

/-! NVMe status values: Status Code Type × 256 + Status Code. The vendor values are those of R400; the others are NVM
Express's numbers for the statuses that the manual names (PRESUMED). -/
namespace Nv
def OK : Nat := 0x000
def INVALID_OPCODE : Nat := 0x001
def INVALID_FIELD : Nat := 0x002
def DATA_TRANSFER_ERROR : Nat := 0x004
def INTERNAL_ERROR : Nat := 0x006
def ABORT_REQUESTED : Nat := 0x007
def INVALID_NAMESPACE : Nat := 0x00B
def COMMAND_SEQUENCE : Nat := 0x00C
def SGL_LENGTH : Nat := 0x00F
def SGL_TYPE : Nat := 0x011
def PRP_OFFSET : Nat := 0x013
def WRITE_PROTECTED : Nat := 0x020
def LBA_RANGE : Nat := 0x080
def CQ_INVALID : Nat := 0x100
def QUEUE_ID : Nat := 0x101
def QUEUE_SIZE : Nat := 0x102
def ABORT_LIMIT : Nat := 0x103
def AER_LIMIT : Nat := 0x105
def INVALID_VECTOR : Nat := 0x108
def LOG_PAGE : Nat := 0x109
def QUEUE_DELETION : Nat := 0x10C
def NOT_SAVEABLE : Nat := 0x10D
def GUARD : Nat := 0x282
def APP_TAG : Nat := 0x283
def REF_TAG : Nat := 0x284
def ACCESS_DENIED : Nat := 0x286
def OUTCOME_UNKNOWN : Nat := 0x780
def PATH_LOST : Nat := 0x781
def RANGE_INDETERMINATE : Nat := 0x782
end Nv

/-! Namespaces. -/

def State.ns? (s : State) (i : Nat) : Option Ns := Tbl.find? i s.sto.namespaces
def State.setNs (s : State) (i : Nat) (n : Ns) : State :=
  { s with sto := { s.sto with namespaces := Tbl.set i n s.sto.namespaces } }

def Ns.lbaBytes (n : Ns) : Nat := if n.lba4k then 4096 else 512
def Ns.piBytes (n : Ns) : Nat := match n.pi with | 1 => 8 | 2 => 16 | _ => 0

/-- LBAs of a stripe unit (R381). -/
def Ns.stripeLbas (n : Ns) : Nat := n.stripe * 65536 / n.lbaBytes

/-- An entry fetched at arbitration number `born` finds the namespace attached (R383). -/
def Ns.attachedTo (n : Ns) (fn born : Nat) : Bool :=
  n.attach.any (fun a => decide (a.fn = fn ∧ a.since < born) &&
    (match a.till with | none => true | some t => decide (born ≤ t)))

/-- Attached now. -/
def Ns.attachedNow (n : Ns) (fn : Nat) : Bool := n.attach.any (fun a => decide (a.fn = fn) && a.till.isNone)

/-- The extent and the LBA at the backing of an LBA (R381). -/
def Ns.spot (n : Ns) (lba : Nat) : Nat × Nat :=
  if n.backing = 2 then (0, lba)
  else if n.backing = 1 then
    let k := n.exts.length
    let z := n.stripeLbas
    let u := lba / z
    (u % k, ((n.exts[u % k]?).map (fun e => e.start)).getD 0 + u / k * z + lba % z)
  else (0, ((n.exts[0]?).map (fun e => e.start)).getD 0 + lba)

/-- The path of an extent. -/
def Ns.pathOf (n : Ns) (j : Nat) : StoPath :=
  if n.backing = 2 then .remote n.qp else .drive (((n.exts[j]?).map (fun e => e.drive)).getD 0)

def State.drive (s : State) (p : Nat) : Drive := Tbl.getD s.sto.drives p {}

/-- Whether the path of an extent is present (R396, R397): its drive is up with the serial number that it had and its
port's domain is ready, or its queue pair can send. -/
def State.pathUp (s : State) (n : Ns) (j : Nat) : Bool :=
  if n.backing = 2 then (match Tbl.find? n.qp s.rdm.qps with | some q => decide (q.fn = 0 ∧ q.state = 3) | none => false)
  else
    match n.exts[j]? with
    | some e => (s.drive e.drive).up && (s.drive e.drive).serial == e.serial &&
      decide (s.domain (23 + e.drive / 2) = .ready)
    | none => false

/-- The namespace of an NSID for the entry of a slot (R383): its index and itself. -/
def State.nsFor (s : State) (x : Slot) (nsid : Nat) : Option (Nat × Ns) :=
  if nsid = 0 then none
  else
    match s.ns? (nsid - 1) with
    | some n => if n.attachedTo x.fn x.born then some (nsid - 1, n) else none
    | none => none

/-! Ends of commands. -/

/-- The value of a feature that no Set Features has changed. Asynchronous Event Configuration starts with Namespace Attribute Notices
on, since R383 posts them (DESIGN CHOICE, log 157). -/
def featDefault (fid : Nat) : Nat := if fid = 0x0B then 0x100 else 0

/-- Whether Asynchronous Event Configuration masks an event (R376): the notice Namespace Attribute Changed has a bit in it; the
manual's other events have none. -/
def NvmeCtrl.masks (c : NvmeCtrl) (dw0 : Nat) : Bool :=
  dw0 == 0x040002 && !bit (Tbl.getD c.feats 0x0B (featDefault 0x0B)) 8

/-- An asynchronous event for a controller: it completes the oldest outstanding request, or waits for one. -/
def State.nvmeEvent (s : State) (fn dw0 : Nat) : State :=
  let c := s.ctrl fn
  if !c.ready ∨ c.masks dw0 then s
  else
    match c.aers with
    | n :: rest => (s.setCtrl fn { c with aers := rest }).slotDone n Nv.OK (BitVec.ofNat 64 dw0)
    | [] => s.setCtrl fn { c with events := c.events ++ [dw0] }

/-- The operation of a slot ends: an NVMe command with an NVMe status, a FEED with a clause status and RESULT. A path-lost
status is counted (R408). -/
def State.opEnd (s : State) (slot : Nat) (k : StoKind) (nv cl res : Nat) : State :=
  let fn := ((s.slot? slot).map (fun x => x.fn)).getD 0
  let s1 := if nv = Nv.PATH_LOST ∨ nv = Nv.OUTCOME_UNKNOWN then s.inc F.STO_FN_STAT_PATH_LOST_CNT fn else s
  if k = .feed then s1.slotDone slot cl (BitVec.ofNat 64 res) else s1.slotDone slot nv (BitVec.ofNat 64 res)

/-- A FEED_READ_ERROR RESULT (R405). -/
def feedError (reason off : Nat) : Nat := reason * 2 ^ 56 + off % 2 ^ 32

/-! The indeterminate-range table. -/

/-- Whether an entry overlaps LBAs of a namespace (R398). -/
def State.irtHit (s : State) (ns lo n : Nat) : Bool :=
  s.sto.irt.any (fun e => e.2.nsid == ns + 1 && overlaps e.2.lba e.2.n lo n)

/-- Every entry that one of the ranges covers whole leaves the table (R398). -/
def State.irtCovered (s : State) (ns : Nat) (rs : List (Nat × Nat)) : State :=
  { s with sto := { s.sto with irt := s.sto.irt.filter (fun e =>
      !(e.2.nsid == ns + 1 && rs.any (fun r => decide (r.1 ≤ e.2.lba ∧ e.2.lba + e.2.n ≤ r.1 + r.2)))) } }

/-- The controllers to which a namespace is attached now. -/
def Ns.watchers (n : Ns) : List Nat := (n.attach.filter (fun a => a.till.isNone)).map (fun a => a.fn)

/-- A range lock recorded as such. -/
def markRecorded (id : Nat) (l : RangeLock) : RangeLock := if l.id = id then { l with recorded := true } else l

/-- The range of an operation recorded with its cause (R396, R399, R401, R407). -/
def State.irtRecord (s : State) (l : RangeLock) (cause port : Nat) : State :=
  if l.recorded then s
  else
    let s0 : State := { s with sto := { s.sto with locks := s.sto.locks.map (markRecorded l.id) } }
    match s.ns? l.ns with
    | none => s0
    | some n =>
      match firstBelow 256 (fun i => !Tbl.has s.sto.irt i) with
      | some i =>
        let e : IrtEntry := ⟨l.ns + 1, l.n, l.lo, s.tb.time, cause, port⟩
        let s1 : State := { s0 with sto := { s0.sto with irt := Tbl.set i e s0.sto.irt } }
        let s2 := s1.postEvent {} 0 0x6005 (BitVec.ofNat 64 i) 0
        n.watchers.foldl (fun t f => t.nvmeEvent f 0xC0C007) s2
      | none =>
        let s1 := s0.setFlag F.STO_IRT_STAT_FULL 0 true
        if n.readOnly then s1
        else (s1.setNs l.ns { n with readOnly := true }).postEvent {} 0 0x6003 (BitVec.ofNat 64 (l.ns + 1)) 0

/-! The cache. -/

/-- The cache region is valid and requested (R385). -/
def State.cacheOn (s : State) : Bool :=
  let b := s.fld F.STO_CACHE_CTL_BASE_GIB 0
  let z := s.fld F.STO_CACHE_CTL_SIZE_GIB 0
  s.flag F.STO_CACHE_CTL_EN 0 && decide (b + z ≤ s.fld F.MEM_CAP_STAT_INSTALLED_GIB 0) &&
  !overlaps (capBase + b * 2 ^ 30) (z * 2 ^ 30) s.buddyBase s.buddySize

def State.cacheAddr (s : State) (place : Nat) : Nat :=
  capBase + s.fld F.STO_CACHE_CTL_BASE_GIB 0 * 2 ^ 30 + place * 65536

/-- Units that the region holds. -/
def State.cacheUnits (s : State) : Nat := s.fld F.STO_CACHE_CTL_SIZE_GIB 0 * 16384

/-- LBAs of a 64 KiB unit. -/
def Ns.unitLbas (n : Ns) : Nat := 65536 / n.lbaBytes

/-- The units that LBAs touch. -/
def Ns.unitsOf (n : Ns) (lo cnt : Nat) : List Nat := (blocksOf n.unitLbas lo cnt).map (fun b => b / n.unitLbas)

def State.cached? (s : State) (i u : Nat) : Option CacheUnit :=
  s.sto.cache.find? (fun c => decide (c.ns = i ∧ c.unit = u))

/-- A unit's data can be used: its memory is on and not poisoned. -/
def State.cacheUsable (s : State) (c : CacheUnit) : Bool :=
  decide (s.domainAt (s.cacheAddr c.place) = .ready) && (s.poisonIn (s.cacheAddr c.place) 65536).isEmpty

/-- A unit made the most recently used. -/
def State.cacheTouch (s : State) (i u : Nat) : State :=
  match s.cached? i u with
  | some c => { s with sto := { s.sto with cache := c :: s.sto.cache.filter (fun d => decide (d ≠ c)) } }
  | none => s

/-- The units of an LBA range leave the cache (R385). -/
def State.cacheInvalidate (s : State) (i : Nat) (n : Ns) (rs : List (Nat × Nat)) : State :=
  { s with sto := { s.sto with cache := s.sto.cache.filter (fun c =>
      !(c.ns == i && rs.any (fun r => (n.unitsOf r.1 r.2).contains c.unit))) } }

/-- A unit filled with data and metadata; the least recently used one makes room (R385). -/
def State.cacheFillUnit (s : State) (i u : Nat) (data mdata : List Byte) : State :=
  let old := s.sto.cache.filter (fun c => !decide (c.ns = i ∧ c.unit = u))
  let room := if old.length < s.cacheUnits then old else old.dropLast
  match firstBelow s.cacheUnits (fun p => !room.any (fun c => c.place == p)) with
  | none => s
  | some p =>
    if s.domainAt (s.cacheAddr p) = .ready then
      let s1 : State := { s with sto := { s.sto with cache := ⟨i, u, p, mdata⟩ :: room } }
      s1.devWrite (s.cacheAddr p) data
    else s

/-! Range locks. -/

def RangeLock.excl (l : RangeLock) : Bool := decide (l.kind ≠ .read ∧ l.kind ≠ .feed)

/-- Two locks that may not be held together (R387). -/
def RangeLock.clashes (a b : RangeLock) : Bool :=
  a.ns == b.ns && overlaps a.lo a.n b.lo b.n && (a.excl || b.excl)

def State.lock? (s : State) (id : Nat) : Option RangeLock := s.sto.locks.find? (fun l => l.id == id)

/-- The lock of a slot's command, or the place where it waits for one. -/
def State.lockOf (s : State) (slot : Nat) : Option RangeLock :=
  (s.sto.locks ++ s.sto.lockWait).find? (fun l => decide (l.slot = some slot))

/-- No earlier entry conflicts (R387). -/
def State.grantable (s : State) (l : RangeLock) : Bool :=
  !(s.sto.locks.takeWhile (fun m => m.id != l.id)).any (fun m => m.clashes l)

/-- A lock replaced by its new value. -/
def State.setLock (s : State) (l : RangeLock) : State :=
  { s with sto := { s.sto with locks := s.sto.locks.map (fun m => if m.id = l.id then l else m) } }

/-- A lock removed; waiting commands take the freed entry. -/
def State.dropLock (s : State) (id : Nat) : State :=
  let kept := s.sto.locks.filter (fun m => m.id != id)
  { s with sto := { s.sto with
      locks := kept ++ s.sto.lockWait.take (1024 - kept.length)
      lockWait := s.sto.lockWait.drop (1024 - kept.length) } }

/-- An entry taken for a command, or a wait for one (R387, R388). The answer names the lock if it is granted at once. -/
def State.takeLock (s : State) (slot : Nat) (k : StoKind) (i lo n : Nat) (rs : List (Nat × Nat)) :
    State × Option RangeLock :=
  let l : RangeLock := { id := s.sto.nextId, slot := some slot, kind := k, ns := i, lo := lo, n := n, ranges := rs }
  let s1 : State := { s with sto := { s.sto with nextId := s.sto.nextId + 1 } }
  if s.sto.locks.length < 1024 then
    if s.sto.locks.any (fun m => m.clashes l) then
      ({ s1 with sto := { s1.sto with locks := s1.sto.locks ++ [l] } }, none)
    else
      let g := { l with granted := true }
      ({ s1 with sto := { s1.sto with locks := s1.sto.locks ++ [g] } }, some g)
  else (({ s1 with sto := { s1.sto with lockWait := s1.sto.lockWait ++ [l] } }).inc F.STO_LOCK_STAT_WAIT_CNT 0, none)

/-! Host buffers of NVMe commands. NVMe addresses are host addresses. -/

/-- Dword `i` of a command. -/
def Slot.dw (x : Slot) (i : Nat) : Nat := field (wordAt x.words (i / 2)) (32 * (i % 2) + 31) (32 * (i % 2))

/-- The PRP list from address `a`, for `rem` bytes in pages of `pg`. -/
def State.prpList (s : State) (env : Env) (pg : Nat) : Nat → Nat → Nat → Except Nat (List (Nat × Nat))
  | 0, _, _ => .ok []
  | fuel + 1, a, rem =>
    if rem = 0 then .ok []
    else if (hostFails env a 8).isSome then .error Nv.DATA_TRANSFER_ERROR
    else
      let e := (s.hostWord a).toNat
      if (a + 8) % pg = 0 ∧ pg < rem then s.prpList env pg fuel e rem
      else if e % pg ≠ 0 then .error Nv.PRP_OFFSET
      else
        match s.prpList env pg fuel (a + 8) (rem - min pg rem) with
        | .ok t => .ok ((e, min pg rem) :: t)
        | r => r

/-- The host ranges of a command's data buffer of `len` bytes, or the NVMe status of its refusal (R376). -/
def State.bufRanges (s : State) (env : Env) (x : Slot) (len : Nat) : Except Nat (List (Nat × Nat)) :=
  let pg := 4096 * 2 ^ field (s.ctrl x.fn).cc 10 7
  let p1 := wordAt x.words 3
  let p2 := wordAt x.words 4
  match field (x.dw 0) 15 14 with
  | 0 =>
    let first := pg - p1 % pg
    if p1 % 4 ≠ 0 then .error Nv.PRP_OFFSET
    else if len ≤ first then .ok [(p1, len)]
    else if len - first ≤ pg then
      if p2 % pg ≠ 0 then .error Nv.PRP_OFFSET else .ok [(p1, first), (p2, len - first)]
    else
      match s.prpList env pg (2 * (len / pg) + 4) p2 (len - first) with
      | .ok t => .ok ((p1, first) :: t)
      | r => r
  | 1 =>
    if field p2 63 60 ≠ 0 then .error Nv.SGL_TYPE
    else if field p2 31 0 < len then .error Nv.SGL_LENGTH
    else .ok [(p1, len)]
  | _ => .error Nv.INVALID_FIELD

/-- Host bytes of the ranges of a buffer; a read that fails is reported (R362, R364, R395). -/
def State.bufRead (s : State) (env : Env) (fn : Nat) : List (Nat × Nat) → State × Except Nat (List Byte)
  | [] => (s, .ok [])
  | (a, n) :: t =>
    match hostFails env a n with
    | some f => (s.tlp.hostFailed fn f, .error Nv.DATA_TRANSFER_ERROR)
    | none =>
      match (s.tlp.snoop 24 fn (s.hostRead a n)).bufRead env fn t with
      | (s1, .ok r) => (s1, .ok (s.hostRead a n ++ r))
      | r => r

/-- Bytes written into the ranges of a buffer. -/
def State.bufWrite (s : State) (fn : Nat) : List (Nat × Nat) → List Byte → State
  | [], _ => s
  | (a, n) :: t, bs => ((s.snoop 25 fn (bs.take n)).hostWrite a (bs.take n)).bufWrite fn t (bs.drop n)

/-! Encryption (R384) and protection information (R406). -/

/-- Whether a key slot can serve a namespace. -/
def State.nsKeyOk (s : State) (n : Ns) : Bool := !n.enc || s.keyServes n.keySlot .storage

/-- LBAs encrypted or decrypted one by one, a use of the key slot for each (R384, R505). -/
def State.cryptLbas (s : State) (n : Ns) (enc : Bool) : List (Nat × List Byte) → State × Except Nat (List (List Byte))
  | [] => (s, .ok [])
  | (lba, d) :: t =>
    if !n.enc then
      match s.cryptLbas n enc t with
      | (s1, .ok r) => (s1, .ok (d :: r))
      | r => r
    else
      match s.useKey n.keySlot .storage with
      | (s1, .error st) => (s1, .error st)
      | (s1, .ok k) =>
        match s1.cryptLbas n enc t with
        | (s2, .ok r) => (s2, .ok (d.mapIdx (fun i _ => Config.xtsByte enc k.key lba d i) :: r))
        | r => r

/-- Big-endian bytes. -/
def toBytesBE (k n : Nat) : List Byte := (toBytes k n).reverse

/-- The guard of an LBA's data. -/
def Ns.guard (n : Ns) (d : List Byte) : Nat := if n.pi = 1 then crcOf crc16 d else crcOf crc64 d

/-- Bits of the reference tag. -/
def Ns.refBits (n : Ns) : Nat := if n.pi = 1 then 32 else 48

/-- A namespace has type 3 protection information instead of type 1: the manual does not say which (R406). -/
def nsType3 (i : Nat) : Bool := Config.freeBit 0x406 i

/-- The protection information of an LBA. -/
def Ns.pi8 (n : Ns) (d : List Byte) (app ref : Nat) : List Byte :=
  toBytesBE (n.piBytes - (2 + n.refBits / 8)) (n.guard d) ++ toBytesBE 2 app ++ toBytesBE (n.refBits / 8) ref

/-- What a command asks of the protection information. -/
structure PiAsk where
  act : Bool
  guard : Bool
  app : Bool
  ref : Bool
  appTag : Nat
  appMask : Nat
  refTag : Nat
deriving DecidableEq, Repr

/-- The fields of a Read or Write command. -/
def Slot.piAsk (x : Slot) : PiAsk :=
  { act := bit (x.dw 12) 29, guard := bit (x.dw 12) 28, app := bit (x.dw 12) 27, ref := bit (x.dw 12) 26
    appTag := field (x.dw 15) 15 0, appMask := field (x.dw 15) 31 16, refTag := x.dw 14 + field (x.dw 3) 15 0 * 2 ^ 32 }

/-- The check of one LBA's protection information; `k` is the LBA's number in the command. -/
def Ns.piCheck (n : Ns) (t3 : Bool) (q : PiAsk) (k : Nat) (d m : List Byte) : Nat :=
  let gb := n.piBytes - (2 + n.refBits / 8)
  let guard := ofBytesBE (m.take gb)
  let app := ofBytesBE (slice m gb 2)
  let ref := ofBytesBE (m.drop (gb + 2))
  let skip := app == 0xFFFF && (!t3 || ref == 2 ^ n.refBits - 1)
  if skip then Nv.OK
  else if q.guard ∧ guard ≠ n.guard d then Nv.GUARD
  else if q.app ∧ (app &&& q.appMask) ≠ (q.appTag &&& q.appMask) then Nv.APP_TAG
  else if q.ref ∧ t3 = false ∧ ref ≠ (q.refTag + k) % 2 ^ n.refBits then Nv.REF_TAG
  else Nv.OK

/-- Chunks of `k` bytes. -/
def chunks (k : Nat) : Nat → List Byte → List (List Byte)
  | 0, _ => []
  | n + 1, l => l.take k :: chunks k n (l.drop k)

/-- The first LBA, by its number in the command, that fails a check. -/
def firstBad (f : Nat → Nat) (n : Nat) : Option (Nat × Nat) :=
  ((List.range n).find? (fun i => f i != 0)).map (fun i => (i, f i))

/-! Running an operation. -/

/-- The LBAs of ranges that lie on an extent. -/
def Ns.lbasOn (n : Ns) (rs : List (Nat × Nat)) (j : Nat) : List Nat :=
  (rs.flatMap (fun r => (List.range r.2).map (fun k => r.1 + k))).filter (fun l => (n.spot l).1 == j)

/-- The extents that a range needs. -/
def Ns.extsOf (n : Ns) (rs : List (Nat × Nat)) : List Nat :=
  (List.range (if n.backing = 1 then n.exts.length else 1)).filter (fun j => !(n.lbasOn rs j).isEmpty)

/-- How the data of a backing command of a kind goes (R381): to a remote target, up to 8 KiB of a write in the capsule, more of it
and every read through an SGL Keyed descriptor. -/
def Ns.carry (n : Ns) (k : StoKind) (bytes : Nat) : Carry :=
  if n.backing ≠ 2 then .drive
  else
    match k with
    | .write => if bytes ≤ 8192 then .capsule else .keyed
    | .dealloc => .capsule
    | .zero => .capsule
    | _ => .keyed

/-- The backing commands for ranges of a namespace. Writes carry Force Unit Access (R378). -/
def Ns.backings (n : Ns) (k : StoKind) (rs : List (Nat × Nat)) (id time : Nat) : List Backing :=
  (n.extsOf rs).mapIdx (fun i j =>
    let ls := n.lbasOn rs j
    { id := id + i, ext := j, path := n.pathOf j, first := (n.spot (ls.getD 0 0)).2, lbas := ls, payload := [], info := []
      sent := decide (k ≠ .write), fua := decide (k = .write ∨ k = .zero), carry := n.carry k (ls.length * n.lbaBytes)
      time := time })

/-- The queue pair of a remote namespace with its Fabrics Connect command sent (R381). -/
def State.connect (s : State) (n : Ns) : State :=
  if n.backing = 2 ∧ !s.sto.connected.contains n.qp then
    { s with sto := { s.sto with connected := n.qp :: s.sto.connected } }
  else s

/-- The ranges that a read asks of backing: whole cache units where it may fill the cache (R385). -/
def State.readRanges (s : State) (n : Ns) (lo cnt : Nat) (bypass : Bool) : List (Nat × Nat) :=
  if n.cache ∧ s.cacheOn ∧ !bypass then
    let a := lo / n.unitLbas * n.unitLbas
    let b := min n.size (alignUp (lo + cnt) n.unitLbas)
    [(a, b - a)]
  else [(lo, cnt)]

/-- The bytes of an LBA in what the parts of an operation hold. -/
def RangeLock.lbaData (l : RangeLock) (k : Nat) (f : Backing → List Byte) (lba : Nat) : List Byte :=
  match l.parts.find? (fun p => p.lbas.contains lba) with
  | some p => slice (f p) (p.lbas.idxOf lba * k) k
  | none => []

/-- BYPASS of a FEED. -/
def Slot.bypass (x : Slot) : Bool := bit (wordAt x.words 1) 32

/-- Data and metadata delivered to a FEED's destination (R404, R405). -/
def State.deliverFeed (s : State) (env : Env) (slot : Nat) (x : Slot) (i : Nat) (n : Ns)
    (lbas : List (Nat × List Byte)) (mdata : List (List Byte)) : State :=
  let w := fun k => wordAt x.words k
  let dest := field (w 4) 47 0
  let stage := field (w 5) 47 0
  let piDest := field (w 6) 47 0
  let len := lbas.length * n.lbaBytes
  match s.cryptLbas n false lbas with
  | (s1, .error st) => s1.slotDone slot st 0
  | (s1, .ok pt) =>
    let q : PiAsk := ⟨false, true, false, false, 0, 0, 0⟩
    match if bit (w 1) 33 then
        firstBad (fun k => n.piCheck (nsType3 i) q k (pt.getD k []) (mdata.getD k [])) pt.length else none with
    | some (k, _) => (s1.spoil dest len).slotDone slot St.FEED_READ_ERROR (BitVec.ofNat 64 (feedError 2 k))
    | none =>
      let bytes := pt.flatten
      let s2 := s1.snoop 28 i bytes
      let r := if stage = 0 then (s2, Res.ok ()) else s2.writeChecked env x.fn stage bytes
      match r with
      | (s3, .ok _) =>
        match s3.writeChecked env x.fn dest bytes with
        | (s4, .ok _) =>
          match if piDest = 0 then (s4, Res.ok ()) else s4.writeChecked env x.fn piDest mdata.flatten with
          | (s5, .ok _) => s5.slotDone slot St.SUCCESS (BitVec.ofNat 64 len)
          | (s5, .fail st) => s5.slotDone slot st 0
          | (s5, .wait) => s5
        | (s4, .fail st) => s4.slotDone slot st 0
        | (s4, .wait) => s4
      | (s3, .fail st) => s3.slotDone slot st 0
      | (s3, .wait) => s3

/-- Data and metadata delivered to a Read's host buffers. -/
def State.deliverRead (s : State) (env : Env) (slot : Nat) (x : Slot) (i : Nat) (n : Ns)
    (lbas : List (Nat × List Byte)) (mdata : List (List Byte)) : State :=
  let q := x.piAsk
  match s.cryptLbas n false lbas with
  | (s1, .error _) => s1.slotDone slot Nv.ACCESS_DENIED 0
  | (s1, .ok pt) =>
    match if n.pi = 0 then none else
        firstBad (fun k => n.piCheck (nsType3 i) q k (pt.getD k []) (mdata.getD k [])) pt.length with
    | some (_, st) => s1.slotDone slot st 0
    | none =>
      match s1.bufRanges env x (pt.length * n.lbaBytes) with
      | .error st => s1.slotDone slot st 0
      | .ok rs =>
        let s2 := (s1.snoop 28 i pt.flatten).bufWrite x.fn rs pt.flatten
        let s3 := if n.pi = 0 ∨ q.act then s2
          else s2.bufWrite x.fn [(wordAt x.words 2, pt.length * n.piBytes)] mdata.flatten
        s3.slotDone slot Nv.OK 0

/-- A read's data and metadata by LBA delivered to its command. -/
def State.deliver (s : State) (env : Env) (slot : Nat) (l : RangeLock) (n : Ns) (data mdata : Nat → List Byte) : State :=
  match s.slot? slot with
  | none => s
  | some x =>
    let ls := (List.range l.n).map (fun k => l.lo + k)
    let d := ls.map (fun a => (a, data a))
    let m := ls.map mdata
    if l.kind = .feed then s.deliverFeed env slot x l.ns n d m else s.deliverRead env slot x l.ns n d m

/-- The data of a Write fetched, protected, encrypted and sent to the backing, with Force Unit Access (R378, R395). -/
def State.sendWrite (s : State) (env : Env) (slot : Nat) (x : Slot) (l : RangeLock) (n : Ns) : State :=
  let q := x.piAsk
  let len := l.n * n.lbaBytes
  match s.bufRanges env x len with
  | .error st => (s.setLock { l with parts := [] }).slotDone slot st 0
  | .ok rs =>
    match s.bufRead env x.fn rs with
    | (s1, .error st) => (s1.setLock { l with parts := [] }).slotDone slot st 0
    | (s1, .ok bytes) =>
      let ds := chunks n.lbaBytes l.n bytes
      let mr := if n.pi = 0 ∨ q.act then (s1, Except.ok []) else
        s1.bufRead env x.fn [(wordAt x.words 2, l.n * n.piBytes)]
      match mr with
      | (s2, .error st) => (s2.setLock { l with parts := [] }).slotDone slot st 0
      | (s2, .ok mb) =>
        let ms : List (List Byte) :=
          if n.pi = 0 then []
          else if q.act then ds.mapIdx (fun k d => n.pi8 d q.appTag (q.refTag + if nsType3 l.ns then 0 else k))
          else chunks n.piBytes l.n mb
        match if n.pi = 0 ∨ q.act then none else
            firstBad (fun k => n.piCheck (nsType3 l.ns) q k (ds.getD k []) (ms.getD k [])) l.n with
        | some (_, st) => (s2.setLock { l with parts := [] }).slotDone slot st 0
        | none =>
          match (s2.snoop 29 l.ns bytes).cryptLbas n true (ds.mapIdx (fun k d => (l.lo + k, d))) with
          | (s3, .error _) => (s3.setLock { l with parts := [] }).slotDone slot Nv.ACCESS_DENIED 0
          | (s3, .ok ct) =>
            let fill := fun (p : Backing) =>
              { p with
                sent := true
                payload := p.lbas.flatMap (fun a => ct.getD (a - l.lo) [])
                info := p.lbas.flatMap (fun a => ms.getD (a - l.lo) []) }
            let l1 := { l with parts := l.parts.map fill }
            l1.parts.foldl (fun t p => match p.path with
              | .drive port => t.snoop (4 + port) l.ns p.payload
              | .remote _ => t) ((s3.snoop 28 l.ns ct.flatten).setLock l1)

/-- An operation whose lock is granted runs (R384, R385, R396 to R399, R405). -/
def State.runOp (s : State) (env : Env) (slot : Nat) (x : Slot) (l : RangeLock) : State :=
  let feed := decide (l.kind = .feed)
  let rd := decide (l.kind = .read ∨ l.kind = .feed)
  match s.ns? l.ns with
  | none => s.opEnd slot l.kind Nv.INVALID_NAMESPACE St.BAD_CLAUSE 0
  | some n =>
    let bypass := feed && x.bypass
    let needsPi := n.pi != 0 && (!feed || bit (wordAt x.words 1) 33 || field (wordAt x.words 6) 47 0 != 0)
    if l.excl ∧ n.readOnly then s.opEnd slot l.kind Nv.WRITE_PROTECTED 0 0
    else if rd ∧ s.irtHit l.ns l.lo l.n then
      s.opEnd slot l.kind Nv.RANGE_INDETERMINATE St.FEED_RANGE_INDETERMINATE 0
    else if needsPi ∧ !s.stoCrc then s.opEnd slot l.kind Nv.INTERNAL_ERROR St.FEED_READ_ERROR (feedError 4 0)
    else
      let s0 := if l.excl then s.cacheInvalidate l.ns n l.ranges else s
      let units := n.unitsOf l.lo l.n
      let hit := rd && !bypass && n.cache && s.cacheOn && units.all (fun u =>
        match s.cached? l.ns u with | some c => s.cacheUsable c | none => false)
      if hit then
        let at' := fun (lba : Nat) => (s.cached? l.ns (lba / n.unitLbas)).getD ⟨0, 0, 0, []⟩
        (units.foldl (fun t u => t.cacheTouch l.ns u) s0).deliver env slot l n
          (fun a => s.devRead (s.cacheAddr (at' a).place + a % n.unitLbas * n.lbaBytes) n.lbaBytes)
          (fun a => slice (at' a).mdata (a % n.unitLbas * n.piBytes) n.piBytes)
      else
        let rs := if rd then s.readRanges n l.lo l.n bypass else l.ranges
        if !(n.extsOf rs).all (s.pathUp n) then s0.opEnd slot l.kind Nv.PATH_LOST St.FEED_PATH_LOST 0
        else if !s.nsKeyOk n ∧ l.kind ≠ .zero ∧ l.kind ≠ .dealloc then
          s0.opEnd slot l.kind Nv.ACCESS_DENIED St.KEY_SLOT_EMPTY 0
        else
          let ps := n.backings l.kind rs s.sto.nextId s.tb.time
          let s1 : State := { s0.connect n with sto := { (s0.connect n).sto with nextId := s0.sto.nextId + ps.length } }
          let l1 := { l with parts := ps }
          let s2 := s1.setLock l1
          if l.kind = .write ∧ env.pause.isNone then s2.sendWrite env slot x l1 n else s2

/-- Every unit that a read has fetched whole is filled (R385). -/
def State.fillFrom (s : State) (l : RangeLock) (n : Ns) : State :=
  if n.cache ∧ s.cacheOn then
    (n.unitsOf l.lo l.n).foldl (fun t u =>
      let ls := ((List.range n.unitLbas).map (fun k => u * n.unitLbas + k)).filter (fun a => decide (a < n.size))
      if ls.all (fun a => l.parts.any (fun p => p.lbas.contains a)) then
        t.cacheFillUnit l.ns u (ls.flatMap (l.lbaData n.lbaBytes (fun p => p.data)))
          (ls.flatMap (l.lbaData n.piBytes (fun p => p.mdata)))
      else t) s
  else s

/-- The worst end of the parts of an operation. -/
def RangeLock.worst (l : RangeLock) : BackEnd :=
  let es := l.parts.filterMap (fun p => p.ended)
  if es.contains .unknown then .unknown
  else if es.contains .pathLost then .pathLost
  else if es.contains .timedOut then .timedOut
  else (es.find? (fun e => decide (e ≠ .ok))).getD .ok

/-- An operation whose backing commands have all ended completes; an abandoned one gives up its lock (R402). -/
def State.opFinish (s : State) (env : Env) (l : RangeLock) : State :=
  if !l.parts.all (fun p => p.ended.isSome) then s
  else
    match l.slot, s.ns? l.ns with
    | none, _ => s.dropLock l.id
    | some slot, none => s.opEnd slot l.kind Nv.INVALID_NAMESPACE St.BAD_CLAUSE 0
    | some slot, some n =>
      let spoilt : State := match s.slot? slot with
        | some x => if l.kind = StoKind.feed then s.spoil (field (wordAt x.words 4) 47 0) (l.n * n.lbaBytes) else s
        | none => s
      match l.worst with
      | .unknown => s.opEnd slot l.kind Nv.OUTCOME_UNKNOWN 0 0
      | .pathLost => s.opEnd slot l.kind Nv.PATH_LOST St.FEED_PATH_LOST 0
      | .timedOut => spoilt.opEnd slot l.kind Nv.DATA_TRANSFER_ERROR St.FEED_READ_ERROR (feedError 3 0)
      | .error st a =>
        spoilt.opEnd slot l.kind st St.FEED_READ_ERROR
          (if l.kind = .feed then feedError (if st / 256 = 2 then 1 else 4) (a - l.lo) else 0)
      | .ok =>
        if l.excl then (s.irtCovered l.ns l.ranges).opEnd slot l.kind Nv.OK 0 0
        else
          let bypass : Bool := match s.slot? slot with | some x => decide (l.kind = .feed) && x.bypass | none => false
          (if bypass then s else s.fillFrom l n).deliver env slot l n
            (l.lbaData n.lbaBytes (fun p => p.data)) (l.lbaData n.piBytes (fun p => p.mdata))

/-- A part of an operation changed. -/
def RangeLock.setPart (l : RangeLock) (id : Nat) (f : Backing → Backing) : RangeLock :=
  { l with parts := l.parts.map (fun p => if p.id = id then f p else p) }

/-- The operation and the backing command of an identifier that has not ended. -/
def State.backing? (s : State) (id : Nat) : Option (RangeLock × Backing) :=
  s.sto.locks.findSome? (fun l =>
    (l.parts.find? (fun p => decide (p.id = id) && p.ended.isNone)).map (fun p => (l, p)))

/-- How a part ends when its path is lost (R396): a write whose data had been sent has an unknown outcome. -/
def RangeLock.lostEnd (l : RangeLock) (p : Backing) : BackEnd := if l.excl ∧ p.sent then .unknown else .pathLost

/-- Every outstanding backing command that satisfies `q` ends: by the loss of its path, or by a time-out. Unknown outcomes
are recorded with a cause (R394, R396, R401). -/
def State.loseParts (s : State) (q : Backing → Bool) (timeout : Bool) (cause port : Nat) : State :=
  s.sto.locks.foldl (fun t l =>
    if l.parts.any (fun p => p.ended.isNone && q p) then
      let fin := fun (p : Backing) =>
        if p.ended.isNone && q p then
          { p with ended := some (if timeout ∧ l.lostEnd p = .pathLost then .timedOut else l.lostEnd p) }
        else p
      let l1 := { l with parts := l.parts.map fin }
      let t1 := t.setLock { l1 with recorded := l.recorded }
      let t2 := if l1.worst = .unknown then t1.irtRecord l1 cause port else t1
      t2.opFinish {} l1
    else t) s

/-- The drive port of an operation's first backing command. -/
def RangeLock.port (l : RangeLock) : Nat :=
  match l.parts.head? with
  | some p => match p.path with | .drive d => d | .remote _ => 0
  | none => 0

/-- The operation of a slot abandoned by a cut (R402): an outstanding write whose data had been sent is recorded, and the
lock stays until its backing commands end. -/
def State.abandonOp (s : State) (slot : Nat) : State :=
  match s.lockOf slot with
  | none => s
  | some l =>
    if l.parts.any (fun p => p.ended.isNone) then
      let t := if l.excl ∧ l.parts.any (fun p => p.ended.isNone && p.sent) then
        s.irtRecord l 4 l.port
        else s
      { t with sto := { t.sto with locks := t.sto.locks.map (fun m => if m.id = l.id then { m with slot := none } else m) } }
    else s

/-! The commands. -/

/-- Whether the delivery of a feed is held: a unit of its destinations retrains (R322). -/
def State.feedHeld (s : State) (slot : Option Nat) : Bool :=
  match slot with
  | some n => match s.slot? n with
    | some x => x.ranges.any (fun r => s.rangeHeld r.1 r.2)
    | none => false
  | none => false

/-- RANGE_LOCK_GRANT (R387): no earlier entry conflicts any more; the command goes on. -/
def execRangeLockGrant (entry : Nat) (env : Env) (s : State) : Out :=
  .next (
    match s.lock? entry with
    | none => s
    | some l =>
      match l.slot with
      | none => s
      | some slot =>
        match s.slot? slot with
        | some x =>
          if !l.granted ∧ s.grantable l ∧ x.phase = .dispatched ∧ !s.feedHeld (some slot) then
            let g := { l with granted := true }
            (s.setLock g).runOp env slot x g
          else s
        | none => s)

/-- Whether a port forwards the completions of its drive (R373), or the path is a queue pair. -/
def State.forwards (s : State) (p : StoPath) : Bool :=
  match p with
  | .drive d => s.flag F.HEP_DP_STAT_UP d
  | .remote _ => true

/-- BACKING_COMPLETION (R373, R378, R394): a backing command ends with the status `st` of the backing, 0 for success; `failAt` is the
first LBA of the namespace that failed. -/
def execBackingCompletion (id st failAt : Nat) (data mdata : List Byte) (env : Env) (s : State) : Out :=
  .next (
    match s.backing? id with
    | none => s
    | some (l, p) =>
      let wr := l.excl
      let fin : BackEnd :=
        if st = 0 then .ok
        else if p.aborted.isSome then (if wr then .unknown else .timedOut)
        else .error st failAt
      match s.ns? l.ns with
      | none => s
      | some n =>
        if (!p.sent && wr) ∨ !s.forwards p.path ∨ s.feedHeld l.slot ∨
            (st = 0 ∧ !wr ∧ (data.length ≠ p.lbas.length * n.lbaBytes ∨ mdata.length ≠ p.lbas.length * n.piBytes)) then s
        else
          let l1 := l.setPart id (fun p => { p with ended := some fin, data := data, mdata := mdata })
          let s1 := match p.path with | .drive d => s.snoop d l.ns data | .remote _ => s
          let s2 := (if wr then s1 else s1.snoop 29 l.ns data).setLock l1
          let s3 := if fin = .unknown then
            s2.irtRecord l1 3 (match p.path with | .drive d => d | .remote _ => 0) else s2
          s3.opFinish env l1)

/-- BACKING_TIMEOUT (R394): BACKING_MS has passed since the command was sent; an NVMe Abort is sent for it. -/
def execBackingTimeout (id : Nat) (s : State) : Out :=
  .next (
    match s.backing? id with
    | none => s
    | some (l, p) =>
      if p.aborted.isNone ∧ p.time + s.fld F.STO_DEV_CTL_BACKING_MS 0 * 1000000 ≤ s.tb.time then
        s.setLock (l.setPart id (fun p => { p with aborted := some s.tb.time }))
      else s)

/-- Whether a backing command uses a path. -/
def Backing.on (q : StoPath) (p : Backing) : Bool := decide (p.path = q)

/-- BACKING_ABORT_TIMEOUT (R394): 1 s after the Abort the drive's controller is reset, which ends every command outstanding
at it, or the remote queue pair is disconnected. -/
def execBackingAbortTimeout (id : Nat) (s : State) : Out :=
  .next (
    match s.backing? id with
    | none => s
    | some (_, p) =>
      match p.aborted with
      | none => s
      | some t =>
        if t + 1000000000 ≤ s.tb.time then
          match p.path with
          | .drive d => s.loseParts (Backing.on p.path) true 3 d
          | .remote q =>
            -- R396 puts the queue pair into ERROR; no cause of R469 is named for it
            let s1 := s.qpError q ((Config.freeWord 0x394).toNat % 256) none 0
            s1.loseParts (fun y => y.id == id) true 3 0
        else s)

/-- DRIVE_REMOVED (R373, R396): the link of a drive has gone down. -/
def execDriveRemoved (port : Nat) (s : State) : Out :=
  when (port < 4 ∧ (s.drive port).up = true) (
    let s1 : State := { s with sto := { s.sto with
      drives := Tbl.put {} port { s.drive port with up := false } s.sto.drives } }
    ((s1.dpDown port).loseParts (Backing.on (.drive port)) false 1 port).postEvent {} 0 0x6001 (BitVec.ofNat 64 port) 0) s

/-- REMOTE_PATH_LOST (R396): a queue pair of the storage engine is in its error state. -/
def execRemotePathLost (qp : Nat) (s : State) : Out :=
  when ((s.sto.namespaces.any (fun n => decide (n.2.backing = 2 ∧ n.2.qp = qp))) = true ∧
      ((Tbl.find? qp s.rdm.qps).map (fun q => q.state) ≠ some 3)) (
    let s1 : State := { s with sto := { s.sto with connected := s.sto.connected.filter (· != qp) } }
    (s1.loseParts (Backing.on (.remote qp)) false 2 0).postEvent {} 0 0x6004 (BitVec.ofNat 64 qp) 0) s

/-- DRIVE_READY (R373, R397): the drive of a powered port has trained its link and answers with a serial number. -/
def execDriveReady (port serial lbas rate width : Nat) (s : State) : Out :=
  when (port < 4 ∧ s.flag F.HEP_DP_STAT_PRESENT port = true ∧ s.flag F.HEP_DP_CTL_PWR port = true ∧
      s.flag F.HEP_DP_CTL_EN port = true ∧ (s.drive port).up = false ∧ 1 ≤ rate ∧
      rate ≤ s.fld F.HEP_DP_CTL_MAX_RATE port ∧ [1, 2, 4].contains width = true) (
    let s1 : State := { s with sto := { s.sto with
      drives := Tbl.put {} port { up := true, serial := serial, lbas := lbas } s.sto.drives } }
    let s2 := (((s1.setFlag F.HEP_DP_STAT_UP port true).setFld F.HEP_DP_STAT_WIDTH port width).setFld
      F.HEP_DP_STAT_RATE port rate).setFlag F.HEP_DP_STAT_CHANGE port true
    if Tbl.has s.sto.drives port ∧ (s.drive port).serial = serial then
      s2.postEvent {} 0 0x6002 (BitVec.ofNat 64 port) 0
    else s2) s

/-! Direct feed. -/

/-- The checks 1 of R405. -/
def feedBad (s : State) (x : Slot) (ns : Option (Nat × Ns)) : Bool :=
  let w := fun k => wordAt x.words k
  let dest := w 4
  let stage := w 5
  let piDest := w 6
  match ns with
  | none => true
  | some (_, n) =>
    let cnt := w 3
    let len := cnt * n.lbaBytes
    decide (hostBase ≤ dest ∨ hostBase ≤ stage ∨ hostBase ≤ piDest) ||
    (stage != 0 && !decide (capBase ≤ stage ∧ stage + len ≤ s.capEnd)) ||
    decide (n.size < w 2 + cnt) ||
    (n.pi == 0 && (bit (w 1) 33 || piDest != 0))

/-- The checks 2 of R405, range by range. -/
def State.feedRanges (s : State) (fn : Nat) : List (Bool × Nat × Nat) → Res Unit
  | [] => .ok ()
  | (wr, a, n) :: t => match s.checkClause fn wr a n with | .ok _ => s.feedRanges fn t | r => r

/-- FEED (R403 to R405). -/
def execFeed (slot : Nat) (env : Env) (s : State) : Out :=
  .next (
    match s.clauseAt slot 5 0 with
    | none => s
    | some x =>
      let w := fun k => wordAt x.words k
      if (s.lockOf slot).isSome then s
      else if field (w 1) 63 34 ≠ 0 ∨ field (w 3) 63 32 ≠ 0 ∨ w 3 = 0 ∨ 2 ^ 48 ≤ w 4 ∨ 2 ^ 48 ≤ w 5 ∨ 2 ^ 48 ≤ w 6 ∨
          !zeroFrom x.words 7 then s.slotDone slot St.BAD_CLAUSE 0
      else s.withDomain slot 22 (
        let ns := s.nsFor x (field (w 1) 31 0)
        if feedBad s x ns then s.slotDone slot St.BAD_CLAUSE 0
        else
          match ns with
          | none => s
          | some (i, n) =>
            let len := w 3 * n.lbaBytes
            let stage := if w 5 = 0 then [] else [(true, w 5, len), (false, w 5, len)]
            let pid := if w 6 = 0 then [] else [(true, w 6, w 3 * n.piBytes)]
            match s.feedRanges x.fn ([(true, w 4, len)] ++ stage ++ pid) with
            | .fail st => (s.refuse x.fn st).slotDone slot st 0
            | .wait => s
            | .ok _ =>
              let s1 := s.openRanges slot x (([(true, w 4, len)] ++ stage ++ pid).map (fun r => r.2))
              match s1.takeLock slot .feed i (w 2) (w 3) [(w 2, w 3)] with
              | (s2, none) => s2
              | (s2, some l) => s2.runOp env slot x l))

end Sys2Proof.Machine
end

