-- ==== Sys2Proof/Machine/Nvme.lean ====
section
/-! DEFINITION. NVMe controllers (R376 to R380, R389 to R393), their admin and I/O commands, the namespace commands (R382, R383)
and the cache register (R386). -/

namespace Sys2Proof.Machine

/-! Controllers. -/

/-- Whether a ring is an NVMe submission queue of a function. -/
def State.isNvmeSq (s : State) (fn key : Nat) : Bool := decide ((s.ring key).typ = .nvmeSq ∧ (s.ring key).fn = fn ∧ key < 16384)

/-- The slots of a controller's commands. -/
def State.ctrlSlots (s : State) (fn : Nat) : List (Nat × Slot) :=
  s.rng.slots.filter (fun x => s.isNvmeSq fn x.2.ring)

/-- An identifier freed; it keeps its generation (R98). -/
def State.freeQueue (s : State) (key : Nat) : State := s.setRing key { gen := (s.ring key).gen }

/-- The shallowest power state of all enabled controllers, applied to drives and downstream links (R390). -/
def State.settlePs (s : State) : State :=
  let l := (s.sto.ctrls.filter (fun c => c.2.en)).map (fun c => s.fld F.STO_FN_STAT_PS c.1)
  { s with sto := { s.sto with drivePs := match l with | [] => 0 | a :: t => t.foldl Nat.min a } }

/-- A controller whose reset ends once none of its commands remains: its queues are deleted (R380). -/
def State.ctrlSettle (s : State) (fn : Nat) : State :=
  if (s.ctrl fn).disabledAt.isSome ∧ (s.ctrlSlots fn).isEmpty then
    let qs := (s.rng.rings.filter (fun r => decide (r.2.fn = fn ∧ (r.2.typ = .nvmeSq ∨ r.2.typ = .nvmeCq)))).map (fun r => r.1)
    (((qs.foldl (fun t k => t.freeQueue k) s).setCtrl fn {}).setFld F.STO_FN_STAT_PS fn 0).settlePs
  else s

/-- The queue sizes of AQA that R377 allows. -/
def aqaOk (n : Nat) : Bool := [64, 128, 256, 512, 1024, 2048, 4096].contains (n + 1)

/-- An NVMe queue made in the shared pool at the lowest free identifier, within the function's quota (R67, R377); none
where no identifier is left. -/
def State.newQueue (s : State) (fn : Nat) (q : Ring) (cq : Bool) : Option (State × Nat) :=
  let max := if cq then s.fld F.RNG_FN_QUOTA_CQ_MAX fn else s.fld F.RNG_FN_QUOTA_SQ_MAX fn
  if max ≤ s.ringCount fn cq then none
  else
    match s.freeRing cq with
    | none => none
    | some key => some (s.setRing key { q with gen := genNext (s.ring key).gen, st := .active, fn := fn
                                               prio := s.fld F.RNG_FN_QUOTA_PRIO_MIN fn }, key)

/-- CC_EN_SET (R343, R377): CC.EN written 1 with the values of CC, AQA, ASQ and ACQ. -/
def execCcEnSet (fn cc aqa asq acq : Nat) (s : State) : Out :=
  let s := s.tlp
  let c := s.ctrl fn
  when (fn < 256 ∧ s.flag F.HEP_FN_CTL_STORAGE fn = true ∧ c.en = false ∧ c.disabledAt = none ∧ s.domain 22 = .ready) (
    let c1 := { c with en := true, cc := cc, aqa := aqa, asq := asq, acq := acq }
    let fatal := s.setCtrl fn { c1 with cfs := true }
    if !aqaOk (field aqa 11 0) ∨ !aqaOk (field aqa 27 16) then fatal
    else
      match s.newQueue fn { typ := .nvmeCq, base := acq / 4096 * 4096, size := field aqa 27 16 + 1, irqEn := true } true with
      | none => fatal
      | some (s1, k) =>
        match s1.newQueue fn { typ := .nvmeSq, base := asq / 4096 * 4096, size := field aqa 11 0 + 1, cq := k - 16384 }
            false with
        | none => fatal
        | some (s2, _) => (s2.setCtrl fn { c1 with ready := true, lastBusy := s.tb.time }).settlePs) s

/-- The completions of a controller that wait for a full completion queue are discarded (R380). -/
def State.dropHeldCpl (s : State) (fn : Nat) : State :=
  { s with rng := { s.rng with
      rings := s.rng.rings.map (fun r =>
        if r.2.fn = fn ∧ r.2.typ = .nvmeCq then (r.1, { r.2 with waiting := [] }) else r) } }

/-- The slots of a controller whose completions wait for a full queue. -/
def State.heldCpls (s : State) (fn : Nat) : List Nat :=
  ((s.ctrlSlots fn).filter (fun x => decide (x.2.phase = .held))).map (fun x => x.1)

/-- A controller reset begins (R380): no more fetching; requests that only wait for events are dropped, completions that wait for
room are discarded. -/
def State.ctrlDisable (s : State) (fn : Nat) : State :=
  let c := s.ctrl fn
  let s0 := (s.heldCpls fn).foldl (fun t n => t.freeSlot n) (s.dropHeldCpl fn)
  let s1 := c.aers.foldl (fun t n => t.freeSlot n) s0
  (s1.setCtrl fn { c with en := false, disabledAt := some s.tb.time, aers := [], events := [] }).ctrlSettle fn

/-- CC_EN_CLEAR (R380). -/
def execCcEnClear (fn : Nat) (s : State) : Out := when ((s.ctrl fn).en = true) (s.tlp.ctrlDisable fn) s

/-- Every command of a controller cut, under the abandonment rule (R402). -/
def State.ctrlCut (s : State) (fn : Nat) : State :=
  (s.ctrlSlots fn).foldl (fun t x => (t.abandonOp x.1).dropSlot x.1) s

/-- CONTROLLER_RESET_CUT (R357, R380): 90 ms after CC.EN was cleared; recorded as the cut of a function reset is. -/
def execControllerResetCut (fn : Nat) (s : State) : Out :=
  .next (
    match (s.ctrl fn).disabledAt with
    | some t => if t + 90000000 ≤ s.tb.time then (sinterEvent 0x142 fn (s.ctrlCut fn)).ctrlSettle fn else s
    | none => s)

/-- An NVMe doorbell with an invalid value (R379). -/
def State.badDoorbell (s : State) (fn : Nat) : State :=
  if (s.ctrl fn).aers.isEmpty then s else s.nvmeEvent fn 0x010100

/-- NVME_DOORBELL (R87, R99, R356, R379): the doorbells of an NVMe controller start at offset 0x1000 of BAR4, tail and head of
queue y at 8y and 8y + 4. One on a DRAINING queue is dropped and counted. -/
def execNvmeDoorbell (fn off : Nat) (v : Nat) (s : State) : Out :=
  .next (
    let s := s.tlp
    let y := (off - 0x1000) / 8
    if off < 0x1000 ∨ off % 4 ≠ 0 then s
    else
      match s.nvmeQueue fn y (if off % 8 = 0 then .nvmeSq else .nvmeCq) with
      | none => s
      | some key =>
        let r := s.ring key
        if r.st = .draining then s.inc F.RNG_FN_STAT_STALE_DB fn
        else if (s.ctrl fn).ready = false then s
        else if r.size ≤ v then s.badDoorbell fn
        else s.ringDoorbell key (nvmeIndex (if off % 8 = 0 then r.hw else r.sw) v r.size))

/-! Registers of a controller in BAR4 (R376, R377, R380): CAP, VS, CC, CSTS, AQA, ASQ, ACQ at the offsets of NVM Express
(PRESUMED, log 156). -/

/-- CAP: MQES 0xFFFF, CQR 1, AMS 0, TO 0x01, CSS bit 0; memory pages from 4 KiB up. -/
def nvmeCap : Nat := 0xFFFF + 2 ^ 16 + 1 * 2 ^ 24 + 2 ^ 37

/-- 32 bits of the controller registers of a function at offset `off` of BAR4. -/
def State.nvmeRead32 (s : State) (fn off : Nat) : Nat :=
  let c := s.ctrl fn
  if s.flag F.HEP_FN_CTL_STORAGE fn = false then 0
  else
    match off with
    | 0x00 => nvmeCap % 2 ^ 32
    | 0x04 => nvmeCap / 2 ^ 32
    | 0x08 => 0x00020000
    | 0x14 => c.cc / 2 * 2 % 2 ^ 32 + ofBit c.en
    | 0x1C => ofBit c.ready + 2 * ofBit c.cfs
    | 0x24 => c.aqa % 2 ^ 32
    | 0x28 => c.asq % 2 ^ 32
    | 0x2C => c.asq / 2 ^ 32 % 2 ^ 32
    | 0x30 => c.acq % 2 ^ 32
    | 0x34 => c.acq / 2 ^ 32 % 2 ^ 32
    | _ => 0

/-- A read of 4 or 8 bytes of BAR4. -/
def State.nvmeRegRead (s : State) (fn off bytes : Nat) : Nat :=
  if bytes = 8 then s.nvmeRead32 fn off + s.nvmeRead32 fn (off + 4) * 2 ^ 32 else s.nvmeRead32 fn off

/-- The dispatched command of a slot with an opcode, on the admin queue or on an I/O queue. -/
def State.nvmeCmd (s : State) (slot : Nat) (admin : Bool) (op : Nat) : Option Slot :=
  match s.slot? slot with
  | some x =>
    let r := s.ring x.ring
    if x.phase = .dispatched ∧ r.typ = .nvmeSq ∧ (r.qid == 0) = admin ∧ field (x.dw 0) 7 0 = op then some x else none
  | none => none

/-- A command completes. -/
def State.nvmeDone (s : State) (slot st dw0 : Nat) : State := s.slotDone slot st (BitVec.ofNat 64 (dw0 % 2 ^ 32))

/-- The status of a command that reaches a storage engine whose domain refuses work: the manual gives none. -/
def State.offStatus (s : State) : Nat := 1 + (Config.freeWord s.fresh).toNat % 0x7FF

/-- A command that the engine can take: its domain is ready, and it is not fused (R376). -/
def State.nvmeGuard (s : State) (slot : Nat) (x : Slot) (f : State) : State :=
  match s.domain 22 with
  | .waking => s
  | .off => s.tick.nvmeDone slot s.offStatus 0
  | .ready => if field (x.dw 0) 9 8 ≠ 0 then s.nvmeDone slot Nv.INVALID_FIELD 0 else f

/-! Admin commands. -/

/-- Queue sizes of R377, in entries. -/
def queueSizeOk (n : Nat) : Bool := (List.range 11).any (fun k => n == 64 * 2 ^ k)

/-- Interrupt coalescing of a completion queue by the features 0x08 and 0x09 (R376). -/
def NvmeCtrl.coalesce (c : NvmeCtrl) (r : Ring) : Ring :=
  let v := Tbl.getD c.feats 0x08 0
  let t := field v 15 8
  if r.qid = 0 ∨ t = 0 ∨ c.noCoalesce.contains r.vector then { r with modCount := 0, modTime := 0 }
  else { r with modCount := field v 7 0, modTime := t * 100 }

/-- CREATE_IO_CQ (R377). -/
def execCreateIoCq (slot : Nat) (s : State) : Out :=
  .next (
    match s.nvmeCmd slot true 0x05 with
    | none => s
    | some x => s.nvmeGuard slot x (
      let qid := field (x.dw 10) 15 0
      let size := field (x.dw 10) 31 16 + 1
      let iv := field (x.dw 11) 31 16
      if qid = 0 ∨ 1024 < qid ∨ (s.nvmeQueue x.fn qid .nvmeCq).isSome then s.nvmeDone slot Nv.QUEUE_ID 0
      else if !queueSizeOk size then s.nvmeDone slot Nv.QUEUE_SIZE 0
      else if !bit (x.dw 11) 0 ∨ field (x.dw 0) 15 14 ≠ 0 then s.nvmeDone slot Nv.INVALID_FIELD 0
      else if wordAt x.words 3 % 4096 ≠ 0 then s.nvmeDone slot Nv.PRP_OFFSET 0
      else if vecCount x.fn ≤ iv then s.nvmeDone slot Nv.INVALID_VECTOR 0
      else
        let q : Ring := { typ := .nvmeCq, base := wordAt x.words 3, size := size, irqEn := bit (x.dw 11) 1, vector := iv
                          qid := qid }
        match s.newQueue x.fn ((s.ctrl x.fn).coalesce q) true with
        | none => s.nvmeDone slot Nv.QUEUE_ID 0
        | some (s1, _) => s1.nvmeDone slot Nv.OK 0))

/-- CREATE_IO_SQ (R377). -/
def execCreateIoSq (slot : Nat) (s : State) : Out :=
  .next (
    match s.nvmeCmd slot true 0x01 with
    | none => s
    | some x => s.nvmeGuard slot x (
      let qid := field (x.dw 10) 15 0
      let size := field (x.dw 10) 31 16 + 1
      let cqid := field (x.dw 11) 31 16
      if qid = 0 ∨ 1024 < qid ∨ (s.nvmeQueue x.fn qid .nvmeSq).isSome then s.nvmeDone slot Nv.QUEUE_ID 0
      else if !queueSizeOk size then s.nvmeDone slot Nv.QUEUE_SIZE 0
      else if !bit (x.dw 11) 0 ∨ field (x.dw 0) 15 14 ≠ 0 then s.nvmeDone slot Nv.INVALID_FIELD 0
      else if wordAt x.words 3 % 4096 ≠ 0 then s.nvmeDone slot Nv.PRP_OFFSET 0
      else
        match if cqid = 0 then none else s.nvmeQueue x.fn cqid .nvmeCq with
        | none => s.nvmeDone slot Nv.CQ_INVALID 0
        | some k =>
          match s.newQueue x.fn { typ := .nvmeSq, base := wordAt x.words 3, size := size, cq := k - 16384, qid := qid }
              false with
          | none => s.nvmeDone slot Nv.QUEUE_ID 0
          | some (s1, _) => s1.nvmeDone slot Nv.OK 0))

/-- DELETE_IO_SQ (R376): the command ends once no command of the queue is in flight. -/
def execDeleteIoSq (slot : Nat) (s : State) : Out :=
  .next (
    match s.nvmeCmd slot true 0x00 with
    | none => s
    | some x => s.nvmeGuard slot x (
      let qid := field (x.dw 10) 15 0
      match if qid = 0 then none else s.nvmeQueue x.fn qid .nvmeSq with
      | none => s.nvmeDone slot Nv.QUEUE_ID 0
      | some key =>
        let s0 := s.dropUndispatched key
        let s1 := s0.setRing key { s0.ring key with st := .draining, pend := false, refetch := none }
        if s1.inflight key = 0 then (s1.freeQueue key).nvmeDone slot Nv.OK 0 else s1))

/-- DELETE_IO_CQ (R376). -/
def execDeleteIoCq (slot : Nat) (s : State) : Out :=
  .next (
    match s.nvmeCmd slot true 0x04 with
    | none => s
    | some x => s.nvmeGuard slot x (
      let qid := field (x.dw 10) 15 0
      match if qid = 0 then none else s.nvmeQueue x.fn qid .nvmeCq with
      | none => s.nvmeDone slot Nv.QUEUE_ID 0
      | some key =>
        if s.rng.rings.any (fun r => decide (r.1 < 16384 ∧ r.2.typ = .nvmeSq ∧ r.2.st ≠ .free ∧ r.2.cq = key - 16384)) then
          s.nvmeDone slot Nv.QUEUE_DELETION 0
        else (s.freeQueue key).nvmeDone slot Nv.OK 0))

/-- `n` bytes from offset `off` of data whose known fields are listed with their offsets; every other byte is free. -/
def overlay (fs : List (Nat × List Byte)) (seed off n : Nat) : List Byte :=
  (List.range n).map (fun i =>
    match fs.find? (fun f => decide (f.1 ≤ off + i ∧ off + i < f.1 + f.2.length)) with
    | some f => f.2.getD (off + i - f.1) 0
    | none => Config.freeByte seed (off + i))

/-- Whether the controller of a command sees an indeterminate-range entry (R401). -/
def State.sees (s : State) (x : Slot) (e : IrtEntry) : Bool := (s.nsFor x e.nsid).isSome

/-- The 32 bytes of an entry of log page 0xC0 (R401). -/
def irtBytes (e : IrtEntry) : List Byte :=
  toBytes 4 e.nsid ++ toBytes 4 e.n ++ toBytes 8 e.lba ++ toBytes 8 e.time ++ toBytes 8 (e.cause + e.port * 256)

/-- Log page 0xC0 (R401). -/
def State.irtLog (s : State) (x : Slot) : List Byte :=
  let vis := s.sto.irt.filter (fun e => s.sees x e.2)
  toBytes 8 (vis.length + ofBit (s.flag F.STO_IRT_STAT_FULL 0) * 65536) ++ List.replicate 56 (0 : Byte) ++
  (List.range 256).flatMap (fun i =>
    match Tbl.find? i vis with | some e => irtBytes e | none => List.replicate 32 (0 : Byte))

/-- Data of an admin command written to its buffer; then the command completes. -/
def State.adminData (s : State) (env : Env) (slot : Nat) (x : Slot) (bs : List Byte) : State :=
  if field (x.dw 0) 15 14 ≠ 0 then s.nvmeDone slot Nv.INVALID_FIELD 0
  else
    match s.bufRanges env x bs.length with
    | .error st => s.nvmeDone slot st 0
    | .ok rs => (s.bufWrite x.fn rs bs).tick.nvmeDone slot Nv.OK 0

/-- GET_LOG_PAGE (R376, R401): the contents of the standard pages are not given by the manual. -/
def execGetLogPage (slot : Nat) (env : Env) (s : State) : Out :=
  .next (
    match s.nvmeCmd slot true 0x02 with
    | none => s
    | some x => s.nvmeGuard slot x (
      let lid := field (x.dw 10) 7 0
      let len := 4 * (field (x.dw 10) 31 16 + field (x.dw 11) 15 0 * 65536 + 1)
      let off := x.dw 12 + x.dw 13 * 2 ^ 32
      if [0x01, 0x02, 0x03, 0xC0].contains lid = false then s.nvmeDone slot Nv.LOG_PAGE 0
      else if lid = 0xC0 ∧ 8256 < off then s.nvmeDone slot Nv.INVALID_FIELD 0
      else s.adminData env slot x (overlay (if lid = 0xC0 then [(0, s.irtLog x)] else []) s.fresh off len)))

/-- The known fields of the Identify Namespace data (R381, R399). -/
def identifyNs (i : Nat) (n : Ns) : List (Nat × List Byte) :=
  [(0, toBytes 8 n.size), (8, toBytes 8 n.size), (25, [0]), (26, [0]),
    (29, [(if n.pi = 0 then 0 else if nsType3 i then 3 else 1 : Byte)]), (99, [BitVec.ofNat 8 (ofBit n.readOnly)]),
    (128, toBytes 2 n.piBytes ++ [(if n.lba4k then 12 else 9 : Byte)])]

/-- Entry and exit latencies of a power state, µs (R389). -/
def psLatency (k : Nat) : Nat × Nat := match k with | 1 => (10, 50) | 2 => (2000, 10000) | _ => (0, 0)

/-- The known fields of the Identify Controller data (R376, R378, R389, R392). -/
def identifyCtrl : List (Nat × List Byte) :=
  [(77, [0]), (256, [0, 0]), (258, [3]), (263, [2]), (265, [1]), (512, [0x66, 0x44]), (516, toBytes 4 1024),
    (520, [0x0C, 0]), (522, [0, 0]), (525, [0])] ++
  (List.range 3).map (fun k =>
    (2051 + 32 * k, [(if k = 2 then 2 else 0 : Byte)] ++ toBytes 4 (psLatency k).1 ++ toBytes 4 (psLatency k).2))

/-- IDENTIFY (R376). -/
def execIdentify (slot : Nat) (env : Env) (s : State) : Out :=
  .next (
    match s.nvmeCmd slot true 0x06 with
    | none => s
    | some x => s.nvmeGuard slot x (
      let cns := field (x.dw 10) 7 0
      match cns with
      | 0 =>
        match s.nsFor x (x.dw 1) with
        | some (i, n) => s.adminData env slot x (overlay (identifyNs i n) s.fresh 0 4096)
        | none => s.nvmeDone slot Nv.INVALID_NAMESPACE 0
      | 1 => s.adminData env slot x (overlay identifyCtrl s.fresh 0 4096)
      | 2 =>
        let ids := ((List.range 1024).map (· + 1)).filter (fun k => decide (x.dw 1 < k) && (s.nsFor x k).isSome)
        s.adminData env slot x (((ids.flatMap (toBytes 4)) ++ List.replicate 4096 0).take 4096)
      | _ =>
        if [3, 5, 8].contains cns ∧ (s.nsFor x (x.dw 1)).isNone then s.nvmeDone slot Nv.INVALID_NAMESPACE 0
        else if [3, 5, 6, 7, 8, 0x1C].contains cns then s.adminData env slot x (overlay [] s.fresh 0 4096)
        else s.nvmeDone slot Nv.INVALID_FIELD 0))

/-- A command of a queue that has sent no request to backing, cache or host memory (R392). -/
def State.notStarted (s : State) (n : Nat) (x : Slot) : Bool :=
  match x.phase with
  | .fetching => true
  | .arrived => true
  | .dispatched => match s.lockOf n with | some l => l.parts.isEmpty | none => true
  | _ => false

/-- NVME_ABORT (R392, R393). -/
def execNvmeAbort (slot : Nat) (s : State) : Out :=
  .next (
    match s.nvmeCmd slot true 0x08 with
    | none => s
    | some x => s.nvmeGuard slot x (
      let qid := field (x.dw 10) 15 0
      let cid := field (x.dw 10) 31 16
      let aborts := (s.ctrlSlots x.fn).filter (fun y =>
        decide ((s.ring y.2.ring).qid = 0 ∧ field (y.2.dw 0) 7 0 = 0x08 ∧ y.2.words.length = 8))
      let missed := (s.inc F.STO_FN_STAT_ABORT_MISSED x.fn).nvmeDone slot Nv.OK 1
      if 4 < aborts.length then s.nvmeDone slot Nv.ABORT_LIMIT 0
      else
        match (s.ctrlSlots x.fn).find? (fun y =>
            decide (y.1 ≠ slot ∧ (s.ring y.2.ring).qid = qid ∧ y.2.words.length = 8 ∧ field (y.2.dw 0) 31 16 = cid)) with
        | none => missed
        | some (n, y) =>
          if s.notStarted n y ∧ y.phase = .dispatched then
            let c := s.ctrl x.fn
            let s1 := (s.setCtrl x.fn { c with aers := c.aers.filter (· != n) }).nvmeDone n Nv.ABORT_REQUESTED 0
            (s1.inc F.STO_FN_STAT_ABORT_CAUGHT x.fn).nvmeDone slot Nv.OK 0
          else missed))

/-- The queues that a controller may have, from 0 for one (R376, feature 0x07). -/
def State.queueGrant (s : State) (fn : Nat) (cq : Bool) : Nat :=
  min 1023 ((if cq then s.fld F.RNG_FN_QUOTA_CQ_MAX fn else s.fld F.RNG_FN_QUOTA_SQ_MAX fn) - 2)

/-- Dword 0 of feature 0x07. -/
def State.queueWord (s : State) (fn : Nat) : Nat := s.queueGrant fn false + s.queueGrant fn true * 65536

/-- A feature value stored, and coalescing applied. -/
def State.setFeat (s : State) (fn fid v : Nat) : State :=
  let c := s.ctrl fn
  let c1 := { c with feats := Tbl.set fid v c.feats }
  let s1 := s.setCtrl fn c1
  { s1 with rng := { s1.rng with rings := s1.rng.rings.map (fun r =>
      if r.2.typ = .nvmeCq ∧ r.2.fn = fn then (r.1, c1.coalesce r.2) else r) } }

/-- A power state of a controller (R389 to R391). -/
def State.setPs (s : State) (fn ps : Nat) : State :=
  let c := s.ctrl fn
  ((s.setCtrl fn { c with lastPs := if ps < 2 then ps else c.lastPs }).setFld F.STO_FN_STAT_PS fn ps).settlePs

/-- The feature identifiers of R376: Arbitration, Power Management, Number of Queues, Interrupt Coalescing, Interrupt Vector
Configuration, Write Atomicity Normal, Asynchronous Event Configuration, Autonomous Power State Transition. -/
def nvmeFeatures : List Nat := [0x01, 0x02, 0x07, 0x08, 0x09, 0x0A, 0x0B, 0x0C]

/-- SET_FEATURES (R376, R389). -/
def execSetFeatures (slot : Nat) (env : Env) (s : State) : Out :=
  .next (
    match s.nvmeCmd slot true 0x09 with
    | none => s
    | some x => s.nvmeGuard slot x (
      let fid := field (x.dw 10) 7 0
      let v := x.dw 11
      let fn := x.fn
      if nvmeFeatures.contains fid = false then s.nvmeDone slot Nv.INVALID_FIELD 0
      else if bit (x.dw 10) 31 then s.nvmeDone slot Nv.NOT_SAVEABLE 0
      else
        match fid with
        | 0x01 => (s.setFeat fn 0x01 v).nvmeDone slot Nv.OK 0
        | 0x02 =>
          if 2 < field v 4 0 then s.nvmeDone slot Nv.INVALID_FIELD 0
          else ((s.setFeat fn 0x02 v).setPs fn (field v 4 0)).nvmeDone slot Nv.OK 0
        | 0x07 =>
          if field v 15 0 = 0xFFFF ∨ field v 31 16 = 0xFFFF then s.nvmeDone slot Nv.INVALID_FIELD 0
          else if s.rng.rings.any (fun r => decide (r.2.fn = fn ∧ r.2.qid ≠ 0 ∧ r.2.st ≠ .free)) then
            s.nvmeDone slot Nv.COMMAND_SEQUENCE 0
          else (s.setFeat fn 0x07 v).nvmeDone slot Nv.OK
            (min (field v 15 0) (s.queueGrant fn false) + min (field v 31 16) (s.queueGrant fn true) * 65536)
        | 0x08 => (s.setFeat fn 0x08 (field v 15 0)).nvmeDone slot Nv.OK 0
        | 0x09 =>
          let iv := field v 15 0
          if vecCount fn ≤ iv then s.nvmeDone slot Nv.INVALID_FIELD 0
          else
            let c := s.ctrl fn
            let off := c.noCoalesce.filter (· != iv)
            let s1 := s.setCtrl fn { c with noCoalesce := if bit v 16 then iv :: off else off }
            (s1.setFeat fn 0x09 v).nvmeDone slot Nv.OK 0
        | 0x0A => (s.setFeat fn 0x0A v).nvmeDone slot Nv.OK 0
        | 0x0B => (s.setFeat fn 0x0B v).nvmeDone slot Nv.OK 0
        | 0x0C =>
          if field (x.dw 0) 15 14 ≠ 0 then s.nvmeDone slot Nv.INVALID_FIELD 0
          else
            match s.bufRanges env x 256 with
            | .error st => s.nvmeDone slot st 0
            | .ok rs =>
              match s.bufRead env fn rs with
              | (s1, .error st) => s1.nvmeDone slot st 0
              | (s1, .ok bs) =>
                let s2 := s1.setCtrl fn { s1.ctrl fn with apst := (wordsOf 32 bs).map BitVec.toNat }
                (s2.setFeat fn 0x0C (v % 2)).nvmeDone slot Nv.OK 0
        | _ => s.nvmeDone slot Nv.INVALID_FIELD 0))

/-- GET_FEATURES (R376): the current value, or what is supported of it. -/
def execGetFeatures (slot : Nat) (env : Env) (s : State) : Out :=
  .next (
    match s.nvmeCmd slot true 0x0A with
    | none => s
    | some x => s.nvmeGuard slot x (
      let fid := field (x.dw 10) 7 0
      let sel := field (x.dw 10) 10 8
      let fn := x.fn
      let c := s.ctrl fn
      let v := Tbl.getD c.feats fid (featDefault fid)
      if nvmeFeatures.contains fid = false then s.nvmeDone slot Nv.INVALID_FIELD 0
      else if sel = 3 then s.nvmeDone slot Nv.OK 4
      else if fid = 0x07 then s.nvmeDone slot Nv.OK (s.queueWord fn)
      else if sel ≠ 0 then s.nvmeDone slot Nv.OK (featDefault fid)
      else if fid = 0x02 then s.nvmeDone slot Nv.OK (s.fld F.STO_FN_STAT_PS fn)
      else if fid = 0x09 then
        let iv := field (x.dw 11) 15 0
        s.nvmeDone slot Nv.OK (iv + ofBit (c.noCoalesce.contains iv) * 65536)
      else if fid = 0x0C then
        match s.bufRanges env x 256 with
        | .error st => s.nvmeDone slot st 0
        | .ok rs =>
          (s.bufWrite fn rs ((List.range 32).flatMap (fun i => toBytes 8 (c.apst.getD i 0)))).nvmeDone slot Nv.OK v
      else s.nvmeDone slot Nv.OK v))

/-- The number of Asynchronous Event Requests that may be outstanding, less one: Identify's AERL, not given by the manual. -/
def aerl : Nat := (Config.freeByte 0x379 259).toNat

/-- ASYNCHRONOUS_EVENT_REQUEST (R379): completes with an event that waits, or is held for the next one. -/
def execAsynchronousEventRequest (slot : Nat) (s : State) : Out :=
  .next (
    match s.nvmeCmd slot true 0x0C with
    | none => s
    | some x =>
      let c := s.ctrl x.fn
      if c.aers.contains slot then s
      else s.nvmeGuard slot x (
        match c.events with
        | e :: rest => (s.setCtrl x.fn { c with events := rest }).nvmeDone slot Nv.OK e
        | [] =>
          if aerl < c.aers.length then s.nvmeDone slot Nv.AER_LIMIT 0
          else s.setCtrl x.fn { c with aers := c.aers ++ [slot] }))

/-- CLEAR_INDETERMINATE_RANGE (R399, R401). -/
def execClearIndeterminateRange (slot : Nat) (s : State) : Out :=
  .next (
    match s.nvmeCmd slot true 0xC4 with
    | none => s
    | some x => s.nvmeGuard slot x (
      let all := bit (x.dw 10) 31
      let i := field (x.dw 10) 7 0
      if all ∧ (s.nsFor x (x.dw 1)).isNone then s.nvmeDone slot Nv.INVALID_NAMESPACE 0
      else
      let left := s.sto.irt.filter (fun e =>
        !(s.sees x e.2 && if all then e.2.nsid == x.dw 1 else e.1 == i))
      let s1 : State := { s with sto := { s.sto with irt := left } }
      let s2 : State := if left.length < 256 then
          { s1 with sto := { s1.sto with
              namespaces := s1.sto.namespaces.map (fun n => (n.1, { n.2 with readOnly := false })) } }
        else s1
      s2.nvmeDone slot Nv.OK 0))

/-! I/O commands. -/

/-- A command's LBA range on a namespace takes its lock, and runs where it is granted (R383, R387). -/
def State.ioStart (s : State) (env : Env) (slot : Nat) (x : Slot) (k : StoKind) (lo n : Nat) : State :=
  match s.nsFor x (x.dw 1) with
  | none => s.nvmeDone slot Nv.INVALID_NAMESPACE 0
  | some (i, ns) =>
    if ns.size < lo + n then s.nvmeDone slot Nv.LBA_RANGE 0
    else
      match s.takeLock slot k i lo n [(lo, n)] with
      | (s1, none) => s1
      | (s1, some l) => s1.runOp env slot x l

/-- First LBA of a Read, a Write or a Write Zeroes, and its number of LBAs. -/
def Slot.slba (x : Slot) : Nat := wordAt x.words 5
def Slot.nlb (x : Slot) : Nat := field (x.dw 12) 15 0 + 1

/-- NVME_FLUSH (R378). -/
def execNvmeFlush (slot : Nat) (s : State) : Out :=
  .next (
    match s.nvmeCmd slot false 0x00 with
    | none => s
    | some x => s.nvmeGuard slot x (
      if x.dw 1 = 0xFFFFFFFF ∨ (s.nsFor x (x.dw 1)).isSome then s.nvmeDone slot Nv.OK 0
      else s.nvmeDone slot Nv.INVALID_NAMESPACE 0))

/-- NVME_READ (R385, R387, R398). -/
def execNvmeRead (slot : Nat) (env : Env) (s : State) : Out :=
  .next (
    match s.nvmeCmd slot false 0x02 with
    | none => s
    | some x =>
      if (s.lockOf slot).isSome then s
      else s.nvmeGuard slot x (s.ioStart env slot x .read x.slba x.nlb))

/-- NVME_WRITE (R378, R387). A command whose data has not been sent goes on with its data. -/
def execNvmeWrite (slot : Nat) (env : Env) (s : State) : Out :=
  .next (
    match s.nvmeCmd slot false 0x01 with
    | none => s
    | some x =>
      match s.lockOf slot with
      | some l =>
        match s.ns? l.ns with
        | some n =>
          if l.parts.any (fun p => p.ended.isNone && !p.sent) ∧ env.pause.isNone then s.sendWrite env slot x l n else s
        | none => s
      | none => s.nvmeGuard slot x (s.ioStart env slot x .write x.slba x.nlb))

/-- WRITE_ZEROES (R387). -/
def execWriteZeroes (slot : Nat) (env : Env) (s : State) : Out :=
  .next (
    match s.nvmeCmd slot false 0x08 with
    | none => s
    | some x =>
      if (s.lockOf slot).isSome then s
      else s.nvmeGuard slot x (s.ioStart env slot x .zero x.slba x.nlb))

/-- The ranges of a Dataset Management command: first LBA and length, empty ones left out. -/
def dsmRanges (n : Nat) (bs : List Byte) : List (Nat × Nat) :=
  ((chunks 16 n bs).map (fun r => (ofBytes (r.drop 8), ofBytes ((r.drop 4).take 4)))).filter (fun r => r.2 != 0)

/-- DATASET_MANAGEMENT (R376, R387): Deallocate; without it the command has no effect. -/
def execDatasetManagement (slot : Nat) (env : Env) (s : State) : Out :=
  .next (
    match s.nvmeCmd slot false 0x09 with
    | none => s
    | some x =>
      if (s.lockOf slot).isSome then s
      else s.nvmeGuard slot x (
        match s.nsFor x (x.dw 1) with
        | none => s.nvmeDone slot Nv.INVALID_NAMESPACE 0
        | some (i, ns) =>
          let n := field (x.dw 10) 7 0 + 1
          if !bit (x.dw 11) 2 then s.nvmeDone slot Nv.OK 0
          else
            match s.bufRanges env x (16 * n) with
            | .error st => s.nvmeDone slot st 0
            | .ok rs =>
              match s.bufRead env x.fn rs with
              | (s1, .error st) => s1.nvmeDone slot st 0
              | (s1, .ok bs) =>
                match dsmRanges n bs with
                | [] => s1.nvmeDone slot Nv.OK 0
                | r :: t =>
                  if (r :: t).any (fun q => decide (ns.size < q.1 + q.2)) then s1.nvmeDone slot Nv.LBA_RANGE 0
                  else
                    let lo := t.foldl (fun a q => Nat.min a q.1) r.1
                    let hi := t.foldl (fun a q => Nat.max a (q.1 + q.2)) (r.1 + r.2)
                    match s1.takeLock slot .dealloc i lo (hi - lo) (r :: t) with
                    | (s2, none) => s2
                    | (s2, some l) => s2.runOp env slot x l))

/-- AUTONOMOUS_POWER_STATE_TRANSITION (R56, R376, R389): the controller has had no command outstanding, Asynchronous Event Requests
apart, for the idle time of its table. `idleMs` is the idle time that has run out; the timebase must show that it has passed. -/
def execAutonomousPowerStateTransition (fn idleMs : Nat) (s : State) : Out :=
  let c := s.ctrl fn
  let e := c.apst.getD (s.fld F.STO_FN_STAT_PS fn) 0
  when (c.ready = true ∧ bit (Tbl.getD c.feats 0x0C 0) 0 = true ∧ field e 31 8 ≠ 0 ∧
      field e 31 8 ≤ idleMs ∧ c.lastBusy + idleMs * 1000000 ≤ s.tb.time ∧
      field e 7 3 = 2 ∧
      (s.ctrlSlots fn).all (fun x => c.aers.contains x.1) = true) (s.setPs fn 2) s

/-- The completion of an NVMe command (R380, R391, R400): a controller under reset discards it; a controller in a
non-operational state returns to its last operational one first. -/
def State.nvmePost (s : State) (env : Env) (n : Nat) (x : Slot) (st : Nat) (res : Word) : State :=
  let r := s.ring x.ring
  let c := s.ctrl x.fn
  if c.disabledAt.isSome then (s.freeSlot n).ctrlSettle x.fn
  else
    let s0 := s.setCtrl x.fn { c with lastBusy := s.tb.time }
    let s1 := if s.fld F.STO_FN_STAT_PS x.fn = 2 then s0.setPs x.fn c.lastPs else s0
    s1.post env (cqKey r.cq)
      { result := BitVec.ofNat 64 (field res.toNat 31 0 + (r.hw % max 1 r.size + r.qid * 65536) * 2 ^ 32)
        evt := false, sq := x.ring, fgen := x.fgen, status := st, tag := field (x.dw 0) 31 16, irq := false, fn := x.fn
        slot := some n }

/-! Namespaces. -/

/-- STO_NS_CMD waits with operation `op` (R382). -/
def State.nsReady (s : State) (op : Nat) : Bool :=
  s.flag F.STO_NS_CMD_GO 0 && !s.flag F.STO_NS_RESULT_BUSY 0 && s.fld F.STO_NS_CMD_OP 0 == op

/-- The command accepted and finished with a result (R382). -/
def State.nsResult (s : State) (r : Nat) : State :=
  (((s.setFlag F.STO_NS_CMD_GO 0 false).setFld F.STO_NS_RESULT_RESULT 0 r).setFlag F.STO_NS_RESULT_BUSY 0 false).setFlag
    F.STO_NS_RESULT_DONE 0 true

/-- A result that the manual does not give: OK or INVALID. -/
def State.nsOpen (s : State) : State := s.tick.nsResult (if s.choice 0x382 then 0 else 2)

/-- LBAs of extent `j` that a namespace of a size uses (R381). -/
def Ns.extLbas (n : Ns) (j : Nat) : Nat :=
  if n.backing = 1 then
    let z := n.stripeLbas
    let k := n.exts.length
    let full := n.size / z
    (full + k - 1 - j) / k * z + if full % k = j then n.size % z else 0
  else n.size

/-- The extents of local namespaces: drive, first LBA and number of LBAs. -/
def Ns.extents (n : Ns) : List (Nat × Nat × Nat) :=
  if n.backing = 2 then [] else n.exts.mapIdx (fun j e => (e.drive, e.start, n.extLbas j))

/-- The staged namespace (R382, R408). -/
def State.stagedNs (s : State) : Ns :=
  let b := s.fld F.STO_NS_CFG_BACKING 0
  let k := if b = 1 then s.fld F.STO_NS_CFG_EXTENTS 0 else 1
  let start := fun j => s.fld (F.STO_NS_EXT_START.at j) 0
  let drv := fun j => s.fld (F.STO_NS_EXT_DRIVE.at j) 0
  { lba4k := s.fld F.STO_NS_CFG_LBAF 0 == 1
    pi := s.fld F.STO_NS_CFG_PI 0
    enc := s.flag F.STO_NS_CFG_ENC 0
    keySlot := s.fld F.STO_NS_CFG_KEY_SLOT 0
    cache := s.flag F.STO_NS_CFG_CACHE 0
    backing := b
    stripe := s.fld F.STO_NS_CFG_STRIPE 0
    exts := if b = 2 then [] else (List.range k).map (fun j => ⟨drv j, start j, (s.drive (drv j)).serial⟩)
    qp := drv 0 * 2 ^ 18 + s.fld F.STO_NS_EXT_MID 0 * 16 + field (start 0) 47 44
    rnsid := field (start 0) 31 0
    size := s.fld F.STO_NS_SIZE_NSZE 0 }

/-- Two extents of a list lie on one drive and overlap. -/
def extentsClash : List (Nat × Nat × Nat) → Bool
  | [] => false
  | (d, a, n) :: t => t.any (fun e => e.1 == d && overlaps a n e.2.1 e.2.2) || extentsClash t

/-- A STRIPE namespace lies on 2 to 4 extents of different drives, in stripe units of at least 64 KiB (R381). -/
def stripeBad (n : Ns) : Bool :=
  n.backing == 1 && (decide (n.exts.length < 2 ∨ n.stripe = 0) || !(n.exts.map (fun e => e.drive)).Nodup)

/-- NS_CREATE (R381, R382). -/
def execNsCreate (s : State) : Out :=
  when (s.nsReady 0 = true) (
    let i := s.fld F.STO_NS_CMD_NS 0
    let n := s.stagedNs
    let others := s.sto.namespaces.flatMap (fun m => m.2.extents)
    if (s.ns? i).isSome then s.nsResult 1
    else if n.extents.any (fun e => decide (!(s.drive e.1).up ∨ (s.drive e.1).lbas < e.2.1 + e.2.2)) ∨
        extentsClash (n.extents ++ others) ∨ stripeBad n ∨
        (n.backing = 2 ∧ (Tbl.find? n.qp s.rdm.qps).map (fun q => q.fn) ≠ some 0) ∨
        s.nsKeyOk n = false ∨ (n.pi ≠ 0 ∧ s.fld F.STO_DEV_CTL_CRC_UNITS 0 = 0) then s.nsResult 2
    else (s.setNs i n).nsResult 0) s

/-- NS_DELETE (R382). -/
def execNsDelete (s : State) : Out :=
  when (s.nsReady 1 = true) (
    let i := s.fld F.STO_NS_CMD_NS 0
    match s.ns? i with
    | none => s.nsOpen
    | some n =>
      if n.watchers.isEmpty then
        ({ s with sto := { s.sto with
            namespaces := Tbl.del i s.sto.namespaces, cache := s.sto.cache.filter (fun c => c.ns != i) } }).nsResult 0
      else s.nsResult 3) s

/-- NS_ATTACH (R383). -/
def execNsAttach (s : State) : Out :=
  when (s.nsReady 2 = true) (
    let i := s.fld F.STO_NS_CMD_NS 0
    let f := s.fld F.STO_NS_CMD_FUNC 0
    match s.ns? i with
    | none => s.nsOpen
    | some n =>
      if n.attachedNow f then s.nsOpen
      else ((s.setNs i { n with attach := n.attach ++ [⟨f, s.rng.arbNo, none⟩] }).nvmeEvent f 0x040002).nsResult 0) s

/-- An attachment of a function ended. -/
def Attach.close (f now : Nat) (a : Attach) : Attach :=
  if a.fn = f ∧ a.till = none then { a with till := some now } else a

/-- NS_DETACH (R383). -/
def execNsDetach (s : State) : Out :=
  when (s.nsReady 3 = true) (
    let i := s.fld F.STO_NS_CMD_NS 0
    let f := s.fld F.STO_NS_CMD_FUNC 0
    match s.ns? i with
    | none => s.nsOpen
    | some n =>
      if n.attachedNow f then
        ((s.setNs i { n with attach := n.attach.map (Attach.close f s.rng.arbNo) }).nvmeEvent f 0x040002).nsResult 0
      else s.nsOpen) s

/-- What a write of STO_CACHE_CTL does beyond its fields (R386): a change empties the cache. -/
def State.cacheCtlChanged (old s : State) : State :=
  if s.fld F.STO_CACHE_CTL_BASE_GIB 0 ≠ old.fld F.STO_CACHE_CTL_BASE_GIB 0 ∨
     s.fld F.STO_CACHE_CTL_SIZE_GIB 0 ≠ old.fld F.STO_CACHE_CTL_SIZE_GIB 0 ∨
     s.flag F.STO_CACHE_CTL_EN 0 ≠ old.flag F.STO_CACHE_CTL_EN 0 then
    { s with sto := { s.sto with cache := [] } }
  else s

/-- CACHE_CTL_WRITE (R385, R386). In this model a cache access lies within one command, so none is in flight. -/
def execCacheCtlWrite (who : Requester) (v : Word) (s : State) : Out :=
  when (s.ddtReady = true ∧ isVf who = false) (
    let s := s.touch who
    s.cacheCtlChanged
      (s.writeWhole [F.STO_CACHE_CTL_BASE_GIB, F.STO_CACHE_CTL_SIZE_GIB, F.STO_CACHE_CTL_ON, F.STO_CACHE_CTL_EN] v.toNat)) s

end Sys2Proof.Machine
end

