-- ==== Sys2Proof/Machine/Post.lean ====
section
/-! DEFINITION. The posting of completions (R77 to R81, R88) of every ring type. -/

namespace Sys2Proof.Machine

/-- COMPLETION_POST (R77, R79, R88, R453): the entry of a completed clause or work request is posted, work requests in ring order;
a QUIET one with SUCCESS posts none. -/
def execCompletionPost (src : CplSrc) (env : Env) (s : State) : Out :=
  .next (
    match src with
    | .slot n =>
      match s.slot? n with
      | some x =>
        match x.phase with
        | .done st res =>
          let w := wordAt x.words 0
          let r := s.ring x.ring
          if r.typ = .nvmeSq then s.nvmePost env n x st res
          else if r.typ ≠ .clause ∧ (r.typ ≠ .workQueue ∨ !s.earlierDone x.ring x.idx) then s
          else if c0Quiet w ∧ st = St.SUCCESS then s.releaseSlot n
          else s.post env (cqKey r.cq) (clauseEntry x.ring r w x.fgen st res (some n))
        | _ => s
      | none => s
    | .ring k =>
      let r := s.ring k
      match r.held with
      | some h =>
        match h.done with
        | some (st, res) =>
          let w := wordAt h.words 0
          let s1 := s.setRing k { r with held := none }
          if c0Quiet w ∧ st = St.SUCCESS then s1
          else s1.post env (cqKey r.cq) (clauseEntry k r w (c0Fgen w) st res none)
        | none => s
      | none => s)

/-- HELD_COMPLETION_POST (R78): the oldest waiting entry of a completion ring with room is written. -/
def execHeldCompletionPost (cq : Nat) (env : Env) (s : State) : Out :=
  .next (
    let k := cqKey cq
    let r := s.ring k
    match r.waiting with
    | [] => s
    | e :: rest =>
      if e.fgen ≠ s.fgen e.fn ∨ s.flag F.HEP_FN_STAT_DRAINING e.fn then
        (((s.setRing k { r with waiting := rest }).inc F.RNG_FN_STAT_STALE_CPL e.fn).releaseOf e)
      else if !r.hasRoom then s
      else
        match s.writeEntry env k e with
        | (s1, .ok _) => s1.setRing k { s1.ring k with waiting := rest }
        | (s1, .fail st) => (s1.haltCq k st).postCqHalt env k st
        | (s1, .wait) => s1)

end Sys2Proof.Machine
end

