-- ==== Sys2Proof/Machine/FnReset.lean ====
section
/-! DEFINITION. Function resets (R354 to R359, R402, R471, R566, R659) and the hot reset (R660). -/

namespace Sys2Proof.Machine

/-- Entries that wait for a completion ring of a reset function are dropped and counted (R79). -/
def State.dropWaiting (s : State) (k : Nat) : State :=
  let r := s.ring k
  r.waiting.foldl (fun t e => (t.inc F.RNG_FN_STAT_STALE_CPL e.fn).releaseOf e) (s.setRing k { r with waiting := [] })

/-- The rings of a function that are not FREE. -/
def State.fnRings (s : State) (fn : Nat) : List Nat :=
  (s.rng.rings.filter (fun x => decide (x.2.fn = fn ∧ x.2.st ≠ .free))).map (fun x => x.1)

/-- Queue pairs of a function. -/
def State.fnQps (s : State) (fn : Nat) : List Nat := (s.rdm.qps.filter (fun x => x.2.fn == fn)).map (fun x => x.1)

/-- Step 2 of R356 for the rings: fetching stops, held clauses are discarded, the generations advance, all are DRAINING. -/
def State.drainAll (s : State) (fn : Nat) : State :=
  (s.fnRings fn).foldl (fun t k => (t.drainRing k true).dropWaiting k) s

/-- Step 3 of R356: every role of the function stops with ABORTED. -/
def State.abortRoles (s : State) (fn : Nat) : State :=
  s.roles.foldl (fun t x =>
    if x.2.fn = fn ∧ x.2.phase ≠ .stopping then t.raiseFault x.1 ⟨TF.ABORTED, 0, 0, 0, none⟩ else t) s

/-- Waiting interrupt requests of a function dropped (R356 step 4). -/
def State.dropIrqs (s : State) (fn : Nat) : State :=
  { s with hep := { s.hep with irq := s.hep.irq.filter (fun x => x.1 / 4096 != fn) } }

/-- Steps 1 to 3 of R356 (R354, R402, R471, R566, R659). A second reset keeps the start of the first. -/
def State.fnReset (s : State) (fn : Nat) (flr : Bool) : State :=
  let s1 := (s.setFld F.HEP_FN_STAT_FGEN fn (genNext (s.fgen fn))).setFlag F.HEP_FN_STAT_DRAINING fn true
  let s2 : State := { s1 with hep := { s1.hep with
    drainStart := Tbl.set fn (Tbl.getD s.hep.drainStart fn s.tb.time) s.hep.drainStart
    drainFlr := Tbl.put false fn (flr || Tbl.getD s.hep.drainFlr fn false) s.hep.drainFlr } }
  let s3 := ((s2.drainAll fn).abortRoles fn).dropIrqs fn
  let s4 := (s3.fnQps fn).foldl (fun t q => t.qpError q 0x0A none 0) s3
  let s5 : State := { s4 with rdm := { s4.rdm with
    regions := s4.rdm.regions.map (fun g => if g.2.fn = fn then (g.1, { g.2 with dying := true }) else g) } }
  let s6 := if fn = s.buddyFn then s5.ckReset else s5
  if (s6.ctrl fn).en then s6.ctrlDisable fn else s6

/-- Whether work of the old generation remains (R356 step 5). -/
def State.fnBusy (s : State) (fn : Nat) : Bool :=
  s.fnSlots fn != 0 || s.roles.any (fun r => r.2.fn == fn) ||
  s.rng.rings.any (fun r => decide (r.2.fn = fn) && r.2.held.isSome) ||
  s.hep.reads.any (fun r => r.2.fn == fn) || (s.ctrl fn).disabledAt.isSome

/-- Registers of the per-function pages: offsets, with the selectors that lie in them. -/
def pageRegs : List Nat :=
  (regTable.filter (fun d => match d.scope with
    | .function => true
    | .requester => d.off % 0x100000 < 0x100
    | _ => false)).map (fun d => d.off)

/-- Every field of a function's per-function pages at its Reset value, but FGEN (R358). -/
def clearPages (fn : Nat) (r : Regs) : Regs :=
  r.filter (fun e => !(e.1 % 65536 == fn && pageRegs.contains (e.1 / 65536 / 64) && e.1 != F.HEP_FN_STAT_FGEN.key fn))

/-- The event counters of a function at zero (R107, R358). -/
def State.clearCounters (s : State) (fn : Nat) : State :=
  let lo := s.fld F.RNG_FN_EVT_EVT_BASE fn
  let n := s.fld F.RNG_FN_EVT_EVT_COUNT fn
  { s with rng := { s.rng with counters := s.rng.counters.filter (fun c => !decide (lo ≤ c.1 ∧ c.1 < lo + n)) } }

/-- Step 5 of R356: the clearing of R358 and R471. -/
def State.fnClear (s : State) (fn : Nat) : State :=
  let s1 := (s.fnRings fn).foldl (fun t k => t.freeQueue k) s
  let s2 := (s1.clearCounters fn).cacheDrop fn
  let s3 := ((s2.rdm.qps.filter (fun x => x.2.fn == fn && x.2.group.isNone)).map (fun x => x.1)).foldl (fun t q => t.dropQp q) s2
  let s4 : State := { s3 with
    regs := clearPages fn s3.regs
    rdm := { s3.rdm with
      regions := s3.rdm.regions.filter (fun g => g.2.fn != fn), waits := s3.rdm.waits.filter (fun w => w.fn != fn) }
    hep := { s3.hep with
      msix := (s3.hep.msix.map (fun e => if e.1 / 4096 = fn then (e.1, { e.2 with masked := true }) else e)).filter
        (fun e => decide (e.2 ≠ {}))
      irq := s3.hep.irq.filter (fun x => x.1 / 4096 != fn)
      drainStart := Tbl.del fn s3.hep.drainStart, drainFlr := Tbl.del fn s3.hep.drainFlr } }
  if Tbl.getD s.hep.drainFlr fn false then s4.setCfg fn { classCode := (s.cfg fn).classCode } else s4

/-- VF Enable cleared: every virtual function resets (R355). -/
def State.vfDisable (s : State) : State :=
  if s.hep.vfEnable then
    (List.range 255).foldl (fun t i => t.fnReset (i + 1) false) { s with hep := { s.hep with vfEnable := false } }
  else s

/-- FUNCTION_LEVEL_RESET (R355, R356): of the physical function it also clears VF Enable. -/
def execFunctionLevelReset (fn : Nat) (s : State) : Out :=
  when (s.fnExists fn = true) (
    if fn = 0 then
      let s1 := s.vfDisable
      ({ s1 with hep := { s1.hep with numVfs := 0 } } : State).fnReset 0 true
    else s.fnReset fn true) s

/-- FN_RESET_CMD (R355, R356): HEP_FN_CTL.RESET of function `fn` is accepted. -/
def execFnResetCmd (fn : Nat) (s : State) : Out :=
  when (fn < 256 ∧ s.flag F.HEP_FN_CTL_RESET fn = true) ((s.setFlag F.HEP_FN_CTL_RESET fn false).fnReset fn false) s

/-- VF_ENABLE_CLEAR (R355, R356). -/
def execVfEnableClear (s : State) : Out := .next (s.configured 0 State.vfDisable)

/-- HOT_RESET (R355, R660): every function resets, the configuration spaces return to their reset values, the link goes down
and trains again. -/
def execHotReset (s : State) : Out :=
  .next (
    let s1 := (List.range 256).foldl (fun t f => t.fnReset f false)
      { s with hep := { s.hep with cfg := [], vfEnable := false, numVfs := 0, aspmL1 := false, aspmL11 := false, aspmL12 := false } }
    ((((s1.setFlag F.HEP_LINK_STAT_UP 0 false).setFld F.HEP_LINK_STAT_STATE 0 0).setFld F.HEP_LINK_STAT_L0P_WIDTH 0 0).setFld
      F.HEP_LINK_STAT_WIDTH 0 0).setFld F.HEP_LINK_STAT_RATE 0 0)

/-- FN_RESET_DRAIN_DONE (R356 step 5, R358): no work of the old generation remains. -/
def execFnResetDrainDone (fn : Nat) (s : State) : Out :=
  when (s.flag F.HEP_FN_STAT_DRAINING fn = true ∧ s.fnBusy fn = false) (s.fnClear fn) s

/-! The cut (R357). -/

/-- A range of a function, device or host, given unspecified contents. -/
def State.spoilRange (s : State) (fn a n : Nat) : State :=
  if n = 0 then s
  else if s.region a = .host then
    (pageCuts a n).foldl (fun t p =>
      match t.peek {} fn true p.1 with
      | some d => (t.setHost (t.mem.host.spoil d.2 (d.2 + p.2) t.fresh)).tick
      | none => t) s
  else s.spoil a n

/-- A destination that its checks would pass given unspecified contents (R357); the checks keep the cut from other functions'
tiles and memory (R359). -/
def State.spoilChecked (s : State) (fn a n : Nat) : State :=
  match s.checkClause fn true a n with
  | .fail _ => s
  | _ => s.spoilRange fn a n

/-- What the cut of a dispatched clause leaves at its destinations: a copy or fill, a Geyser operation, a feed that has been admitted
(R357). A collective's destination is unspecified from its start. -/
def State.cutEffect (s : State) (n : Nat) (x : Slot) : State :=
  let w := fun i => wordAt x.words i
  if x.phase ≠ .dispatched ∨ (s.ring x.ring).typ ≠ .clause then s
  else
    match c0Class (w 0) with
    | 2 =>
      let dst := field (w 2) 47 0
      let len := field (w 3) 39 0
      if x.progress.isSome then s.spoilRange x.fn dst len else s.spoilChecked x.fn dst len
    | 3 => if s.geyStands (.clause n) ∧ !geyReserved (c0Op (w 0)) x.words then
        s.geyCut (geyCode (c0Op (w 0))) (.clause n) (geyArgs x.words)
      else s
    | 5 =>
      match s.lockOf n with
      | some l =>
        match s.ns? l.ns with
        | some ns =>
          let len := w 3 * ns.lbaBytes
          let s1 := s.spoilRange x.fn (w 4) len
          let s2 := if w 5 = 0 then s1 else s1.spoilRange x.fn (w 5) len
          if w 6 = 0 then s2 else s2.spoilRange x.fn (w 6) (w 3 * ns.piBytes)
        | none => s
      | none => s
    | _ => s

/-- Ranges of a tile's SRAM given unspecified contents. -/
def State.spoilSram (s : State) (t : Nat) (l : List (Nat × Nat)) : State :=
  l.foldl (fun u p => if p.1 + p.2 ≤ sramSize then u.spoil (sramBase t + p.1) p.2 else u) s

/-- What the cut of a committed unit command leaves at its destinations (R357): rows of device memory or of the tile's SRAM. -/
def State.cutCmd (s : State) (fn t : Nat) (c : UnitCmd) : State :=
  if isDone c.phase ∨ c.depth ≠ 0 then s
  else if c.unit = 3 then
    let w := wordsOf 8 (s.devRead (sramBase t + geyBlock c) 64)
    match s.geyRunOf (.unit t c.tag) with
    | some r => s.geyCut (geyCode c.op) (.unit t c.tag) r.args
    | none => if geyReserved c.op w then s else s.geyCut (geyCode c.op) (.unit t c.tag) (geyArgs w)
  else if c.unit = 1 ∨ (c.unit = 2 ∧ (c.op = 0 ∨ c.op = 1 ∨ c.op = 4)) then
    match s.descOf t c (field (c.c 1) 3 0) false with
    | .error _ => s
    | .ok (d, f) =>
      if c.unit = 2 ∧ c.op = 1 then
        let base := (s.tile t).daAt (field (c.c 1) 7 4)
        let rows := (List.range d.rows).map (fun r => (base + r * c.c 2 * 64, rowBytes d.cols f.width))
        match s.checkRanges fn true rows with
        | .ok _ => (rows.flatMap (fun r => (windowPieces r.1 r.2).map (fun p => (p.1, p.2.2)))).foldl
            (fun u p => if u.rolePasses t p.1 then u.spoilRange fn p.1 p.2 else u) s
        | _ => s
      else s.spoilSram t (rowRanges d f.width ++ if f.block ∧ c.unit = 1 then [(d.scale, planeBytes d false)] else [])
  else s

/-- What the cut of an outstanding window store of a tile's sequencer leaves (R204, R357). -/
def State.cutAccess (s : State) (fn t : Nat) (x : WinAccess) : State :=
  match x.kind, x.space with
  | .store, .device => if s.rolePasses t x.addr then s.spoilRange fn x.addr 2 else s
  | .store, .ownSram => s.spoilSram t [(x.addr, 2)]
  | _, _ => s

/-- The work of a role's tiles cut (R357). -/
def State.cutTiles (s : State) (r : Role) : State :=
  r.tiles.foldl (fun t n =>
    (t.tile n).core.accesses.foldl (fun u x => u.cutAccess r.fn n x)
      ((t.tile n).cmds.foldl (fun u c => u.cutCmd r.fn n c) t)) s

/-- The remaining work of a function cut: upstream reads, roles, clauses, commands of its controller (R357, R402). -/
def State.fnCut (s : State) (fn : Nat) : State :=
  let s1 := (s.hep.reads.filter (fun r => r.2.fn == fn)).foldl (fun t r => t.giveUpRead r.1 r.2) s
  let s2 := s1.ctrlCut fn
  let mine := s2.rng.slots.filter (fun x => decide (x.2.fn = fn))
  let s3 := mine.foldl (fun t x => (t.cutEffect x.1 x.2).abandonOp x.1) s2
  let s4 : State := { s3 with
    gey := { s3.gey with ops := s3.gey.ops.filter (fun o => !mine.any (fun x => decide (o.src = .clause x.1))) }
    sec := { s3.sec with revs := s3.sec.revs.filter (fun r => !mine.any (fun x => x.1 == r.clause)) } }
  let s5 := mine.foldl (fun t x => t.dropSlot x.1) s4
  let s6 := s5.roles.foldl (fun t r => if r.2.fn = fn then (t.cutTiles r.2).releaseTiles r.1 r.2 else t) s5
  let s7 := (s6.fnRings fn).foldl (fun t k => t.setRing k { t.ring k with held := none }) s6
  s7.ctrlSettle fn

/-- FN_RESET_CUT (R357): 90 ms after the start of the earliest reset that has not completed. -/
def execFnResetCut (fn : Nat) (s : State) : Out :=
  .next (
    match Tbl.find? fn s.hep.drainStart with
    | some t =>
      if s.flag F.HEP_FN_STAT_DRAINING fn ∧ t + 90000000 ≤ s.tb.time ∧ s.fnBusy fn then
        (sinterEvent 0x142 fn (s.fnCut fn)).fnClear fn
      else s
    | none => s)

end Sys2Proof.Machine
end

