-- ==== Sys2Proof/Machine/Fuse.lean ====
section
/-! DEFINITION. Fuses (R577 to R583), management interrupt lines (R586), and the FUSE_READ activity. -/

namespace Sys2Proof.Machine

/-- The defined bits of a fuse word (R577). -/
def fuseMask (w : Nat) : Nat :=
  if w = 17 then 2 ^ 48 - 1
  else if w = 18 then 2 ^ 42 - 1
  else if w = 20 then 3
  else if 21 ≤ w ∧ w ≤ 28 then 2 ^ 48 - 1
  else if 61 ≤ w then 0
  else 2 ^ 64 - 1

/-- Security words: a hold of one locks the key store (R577, R532). -/
def fuseSecurity (w : Nat) : Bool := decide (w ≤ 15 ∨ w = 19 ∨ w = 20)

/-- Words that read as zero from every path (R583). -/
def fuseSecret (w : Nat) : Bool := decide (w ≤ 5 ∨ (12 ≤ w ∧ w ≤ 15))

/-- What a fuse word held when it left Rafold: ROLLBACK, LIFECYCLE and the owner words are not programmed (R577). -/
def fuseMade (w : Nat) : Nat :=
  if w = 19 ∨ w = 20 ∨ (29 ≤ w ∧ w ≤ 60) then 0 else Config.fuseWord w % 2 ^ 64

/-- What copy A (0) or copy B (1) of a word holds. -/
def State.fuseStored (s : State) (copy w : Nat) : Nat :=
  fuseMade w ||| Tbl.getD (if copy = 0 then s.fum.fuses.a else s.fum.fuses.b) w 0

/-- One sensing of a copy: as the environment gives it, else what is stored. -/
def State.senseOf (s : State) (noise : List FuseSense) (copy w : Nat) : FuseSense :=
  (noise.find? (fun x => decide (x.word = w ∧ x.copy = copy))).getD
    ⟨w, copy, s.fuseStored copy w, s.fuseStored copy w, s.fuseStored copy w⟩

/-- A copy whose three reads differ in a defined field is doubtful (R578). -/
def fuseDoubtful (x : FuseSense) : Bool :=
  let m := fuseMask x.word
  decide (x.normal &&& m ≠ x.low &&& m ∨ x.normal &&& m ≠ x.high &&& m)

/-- How a word resolves (R578, R579): the value used, none under a fuse-doubt hold, and the states to record. -/
structure FuseResult where
  value : Option Nat
  aDoubt : Bool := false
  bDoubt : Bool := false
  usedB : Bool := false
  mismatch : Bool := false
  rsvd : Bool := false
  flagged : Bool := false
deriving DecidableEq, Repr

/-- The table of R578. -/
def fuseResolve (a b : FuseSense) : FuseResult :=
  let m := fuseMask a.word
  let va := a.normal &&& m
  let vb := b.normal &&& m
  match fuseDoubtful a, fuseDoubtful b with
  | false, bd =>
    { value := some va, bDoubt := bd, mismatch := bd || decide (va ≠ vb)
      rsvd := !bd && decide (va = vb ∧ a.normal % 2 ^ 64 ≠ b.normal % 2 ^ 64) }
  | true, false => { value := some vb, aDoubt := true, usedB := true }
  | true, true =>
    if va = vb then { value := some va, aDoubt := true, bDoubt := true, flagged := true }
    else { value := none, aDoubt := true, bDoubt := true }

/-- The registers that show a word's resolution (R580, R583, R598). A hold is kept until a power-on boot. -/
def State.showFuse (s : State) (w : Nat) (r : FuseResult) (held cross : Bool) (tj last : Nat) : State :=
  let s1 := s.setFld F.FUM_FUSE_DATA_VALUE w (if held ∨ fuseSecret w then 0 else r.value.getD 0)
  let s2 := (((s1.setFlag F.FUM_FUSE_STAT_A_DOUBT w r.aDoubt).setFlag F.FUM_FUSE_STAT_B_DOUBT w r.bDoubt).setFlag
    F.FUM_FUSE_STAT_USED_B w r.usedB).setFlag F.FUM_FUSE_STAT_COPY_MISMATCH w r.mismatch
  let s3 := (((s2.setFlag F.FUM_FUSE_STAT_RSVD_MISMATCH w r.rsvd).setFlag F.FUM_FUSE_STAT_FLAGGED w r.flagged).setFlag
    F.FUM_FUSE_STAT_HELD w held).setFlag F.FUM_FUSE_STAT_CROSS_BOOT w cross
  let s4 := (s3.setFld F.FUM_FUSE_STAT_TJ_NOW_C w tj).setFld F.FUM_FUSE_STAT_TJ_LAST_C w last
  s4.setFld F.FUM_FUSE_HELD_HELD 0 (setField (s4.fld F.FUM_FUSE_HELD_HELD 0) w w (ofBit held))

/-- Whether a word is under a fuse-doubt hold. -/
def State.fuseHeld (s : State) (w : Nat) : Bool := bit (s.fld F.FUM_FUSE_HELD_HELD 0) w

/-- One word sensed and resolved at junction temperature `tj` (R578 to R581). -/
def State.senseWord (noise : List FuseSense) (tj : Nat) (s : State) (w : Nat) : State :=
  let a := s.senseOf noise 0 w
  let b := s.senseOf noise 1 w
  let r := fuseResolve a b
  let held := r.value.isNone || s.fuseHeld w
  let rec_ := Tbl.find? w s.fum.records.fuses
  let cross := match r.value, rec_ with
    | some v, some x => decide (v ≠ x.1)
    | _, _ => false
  let last := match rec_ with
    | some x => x.2
    | none => tj
  let f := s.fum.fuses
  let rd := s.fum.records
  let s1 : State := { s with fum := { s.fum with
    fuses := { f with
      value := if held then Tbl.del w f.value else Tbl.set w (r.value.getD 0) f.value
      lastA := if fuseDoubtful a then Tbl.del w f.lastA else Tbl.set w (a.normal &&& fuseMask w) f.lastA
      lastB := if fuseDoubtful b then Tbl.del w f.lastB else Tbl.set w (b.normal &&& fuseMask w) f.lastB }
    records := { rd with
      fuses := match r.value with
        | some v => Tbl.set w (v, tj) rd.fuses
        | none => rd.fuses } } }
  let s2 := s1.showFuse w r held cross tj last
  let s3 := if r.aDoubt ∨ r.bDoubt ∨ r.mismatch then sinterEvent 0x302 w s2 else s2
  let s4 := if r.rsvd then sinterEvent 0x303 w s3 else s3
  if cross then sinterEvent 0x304 ((tj : Int) - last).natAbs s4 else s4

/-- Words 0 to 63. -/
def fuseWords : List Nat := List.range 64

/-- A resolved word, secrets included; 0 where held. -/
def State.fuseValue (s : State) (w : Nat) : Nat := Tbl.getD s.fum.fuses.value w 0

/-- The anti-rollback counter: the programmed bits of ROLLBACK, treated as 64 where the word is held (R576, R577). -/
def State.rollback (s : State) : Nat :=
  if s.fuseHeld 19 then 64 else sumOf ((List.range 64).map (fun i => ofBit (bit (s.fuseValue 19) i)))

/-- OWNED and DEBUG_DISABLE (R577). -/
def State.owned (s : State) : Bool := bit (s.fuseValue 20) 0
def State.debugDisabled (s : State) : Bool := bit (s.fuseValue 20) 1

/-- The serial number: 0 where its word is held (R577). -/
def State.serialNo (s : State) : Nat := s.fuseValue 16

/-- A security word is held. -/
def State.securityHold (s : State) : Bool := fuseWords.any (fun w => fuseSecurity w && s.fuseHeld w)

/-- What follows from the resolved words (R532, R577, R587): registers, the key store, the domains of tile groups whose
repair word is held. -/
def State.applyFuses (s : State) : State :=
  let s1 := (s.setFld F.FUM_BOOT_STAT_ROLLBACK 0 s.rollback).setFlag F.SEC_STAT_OWNED 0 s.owned
  let s2 := s1.setFlag F.SEC_STAT_FUSE_HOLD 0 s.securityHold
  let s3 := if s.securityHold ∧ !s.flag F.SEC_STAT_FUSE_HOLD 0 then s2.lockKeys 2 else s2
  (List.range 8).foldl (fun t g =>
    if t.fuseHeld (21 + g) then
      let t1 : State := { t with fum := { t.fum with waking := Tbl.del g t.fum.waking } }
      if bit (t.fld F.FUM_PD_STAT_ON 0) g then
        t1.setFld F.FUM_PD_STAT_PENDING_OFF 0 (setField (t.fld F.FUM_PD_STAT_PENDING_OFF 0) g g 1)
      else t1
    else t) s3

/-- Every word sensed (R578). -/
def State.senseFuses (s : State) (tj : Nat) (noise : List FuseSense) : State :=
  (fuseWords.foldl (State.senseWord noise tj) s).applyFuses

/-- FUSE_READ (R335, R578 to R581): the running FUSE_READ activity senses and resolves every word, ends, and pulses
line 5 (R586). -/
def execFuseRead (tj : Nat) (noise : List FuseSense) (s : State) : Out :=
  when (s.maintRuns .fuseRead 0 = true) (((s.senseFuses tj noise).maintFinish .fuseRead 0).pulseLine 5) s

end Sys2Proof.Machine
end

