-- ==== Sys2Proof/Machine/Spdm.lean ====
section
/-! DEFINITION. Attestation: the measurement blocks and the SPDM responder (R537 to R539, R541). -/

namespace Sys2Proof.Machine

/-- The device secret as a number (R577). -/
def State.deviceSecret (s : State) : Nat := sumOf ((List.range 6).map (fun w => s.fuseValue w <<< (64 * w)))

/-- A word of DEVICE_SECRET is held: no DeviceID, alias or key-agreement key (R577). -/
def State.secretHeld (s : State) : Bool := (List.range 6).any s.fuseHeld

/-- A fuse word with some non-zero state of R578 and R579. -/
def State.fuseOdd (s : State) (w : Nat) : Bool :=
  s.flag F.FUM_FUSE_STAT_A_DOUBT w || s.flag F.FUM_FUSE_STAT_B_DOUBT w || s.flag F.FUM_FUSE_STAT_USED_B w ||
  s.flag F.FUM_FUSE_STAT_COPY_MISMATCH w || s.flag F.FUM_FUSE_STAT_RSVD_MISMATCH w || s.flag F.FUM_FUSE_STAT_FLAGGED w

/-- The measurement blocks (R539). -/
def State.measurements (s : State) : Measurements :=
  { rom := Config.bootRomDigest
    firmware := s.fum.image
    version := s.fld F.FUM_BOOT_STAT_FW_VERSION 0
    slot := s.fld F.FUM_BOOT_STAT_RUNNING 0
    rollback := s.rollback
    owned := s.owned
    doubtful := fuseWords.filter s.fuseOdd
    held := fuseWords.filter s.fuseHeld
    debug := s.flag F.VNT_STAT_UNLOCKED 0
    unlocks := s.fld F.VNT_STAT_UNLOCK_CNT 0
    epoch := s.fum.records.epoch
    tenant := s.fum.records.tenant
    sets := (List.range 4).map (fun i =>
      let d := s.devSet i
      (d.id, d.state, d.members.length, (d.members.filter (fun m => m.proven)).length))
    log := s.sec.log.map (fun e => (e.kind, e.setId, e.digest))
    overflow := s.sec.logOver
    run := s.sec.run
    locked := s.keyLocked
    reason := if s.securityHold then 2 else if s.keyLocked then 1 else 0 }

/-- An SPDM ERROR response with an error code (PRESUMED: DMTF DSP0274). -/
def spdmError (code : Nat) : List Byte := [0x13, 0x7F, BitVec.ofNat 8 code, 0]

/-- Request codes that the K7 supports (R537; the numbers are PRESUMED from DMTF DSP0274): GET_DIGESTS, GET_CERTIFICATE,
CHALLENGE, GET_VERSION, CHUNK_GET, GET_MEASUREMENTS, GET_CAPABILITIES, NEGOTIATE_ALGORITHMS. -/
def spdmSupported (code : Nat) : Bool := [0x81, 0x82, 0x83, 0x84, 0x86, 0xE0, 0xE1, 0xE3].contains code

/-- Whether a request asks for a signed response: CHALLENGE, and GET_MEASUREMENTS with its signature bit. -/
def spdmSigned (req : List Byte) : Bool :=
  leAt req 1 1 == 0x83 || (leAt req 1 1 == 0xE0 && bit (leAt req 2 1) 0)

/-- The response to a request (R537, R541, R577): ERROR with Busy (0x03) during a tenancy switch; ERROR for a request that
is not supported (0x07), and for a signed response without the device secret, with a code that the manual leaves open. -/
def State.spdmResponse (s : State) (req : List Byte) : List Byte :=
  if s.sec.tenancy then spdmError 0x03
  else if !spdmSupported (leAt req 1 1) then spdmError 0x07
  else if spdmSigned req ∧ s.secretHeld then spdmError ((Config.freeWord 0x537).toNat % 256)
  else Config.spdmAnswer s.fresh s.deviceSecret s.measurements req

/-- A request answered on its transport. -/
def State.spdmReply (s : State) (side : Bool) (req : List Byte) : State :=
  let r := s.spdmResponse req
  let t := s.tick
  if side then { t with sec := { t.sec with sideOut := .spdm r :: t.sec.sideOut } }
  else { t with sec := { t.sec with spdmOut := r :: t.sec.spdmOut } }

/-- The requests that waited for domain 26 answered in order (R589). -/
def State.spdmDrain (s : State) : State :=
  s.sec.spdmWait.foldl (fun t q => t.spdmReply q.1 q.2) { s with sec := { s.sec with spdmWait := [] } }

end Sys2Proof.Machine
end

