-- ==== Sys2Proof/Machine/Power.lean ====
section
/-! DEFINITION. The switched power domains (R587 to R589, R661, R662). -/

namespace Sys2Proof.Machine

/-- The domains that a domain needs (R587). -/
def domNeeds (d : Nat) : List Nat :=
  match d with
  | 8 => [10, 11, 12]
  | 9 => [13, 14, 15]
  | 20 => [21, 25, 26]
  | 22 => [25]
  | 27 => [20, 28]
  | _ => []

/-- A domain with every domain that it needs, and that need in turn (R588). -/
def domClosure (d : Nat) : List Nat := d :: (domNeeds d).flatMap (fun e => e :: domNeeds e)

/-- The wake time of a domain, µs (R587). -/
def domWakeUs (d : Nat) : Nat :=
  if d < 8 then 25
  else if d < 10 then 15
  else if d < 16 then 300
  else if d < 18 then 500
  else if d < 20 then 200
  else
    match d with
    | 20 => 40 | 21 => 20 | 22 => 50 | 23 => 100 | 24 => 100 | 25 => 30 | 26 => 60 | 27 => 20 | 28 => 10 | _ => 30

/-- PENDING_OFF of a domain set or cleared. -/
def State.setPendingOff (s : State) (d : Nat) (b : Bool) : State :=
  s.setFld F.FUM_PD_STAT_PENDING_OFF 0 (setField (s.fld F.FUM_PD_STAT_PENDING_OFF 0) d d (ofBit b))

/-- A domain requested on: it stops waiting to switch off, or starts to wake. A tile group whose repair word is held
stays off (R577, R588). -/
def State.wakeOne (s : State) (d : Nat) : State :=
  if d < 8 ∧ s.fuseHeld (21 + d) then s
  else if bit (s.fld F.FUM_PD_STAT_ON 0) d then s.setPendingOff d false
  else if Tbl.has s.fum.waking d then s
  else { s with fum := { s.fum with waking := Tbl.set d s.tb.time s.fum.waking } }

/-- A domain with all that it needs switched on by the K7 itself (R589) or by a request. -/
def State.wake (s : State) (d : Nat) : State := (domClosure d).foldl State.wakeOne s

/-- A domain requested off: it refuses new work from now (R588). -/
def State.sleepOne (s : State) (d : Nat) : State :=
  if bit (s.fld F.FUM_PD_STAT_ON 0) d then s.setPendingOff d true
  else { s with fum := { s.fum with waking := Tbl.del d s.fum.waking } }

/-- The domains that FUM_PD_REQ asks for, with those that they need. -/
def State.wanted (s : State) : List Nat :=
  ((List.range 29).filter (fun d => bit (s.fld F.FUM_PD_REQ_ON 0) d)).flatMap domClosure

/-- What a write to FUM_PD_REQ does (R588). -/
def State.domainReq (s : State) : State :=
  (List.range 29).foldl (fun t d => if s.wanted.contains d then t.wakeOne d else t.sleepOne d) s

/-- DOMAIN_REQUEST (R588): a write to FUM_PD_REQ. -/
def execDomainRequest (who : Requester) (v : Word) (s : State) : Out :=
  when (isVf who = false) ((s.touch who).writeWhole [F.FUM_PD_REQ_ON] v.toNat).domainReq s

/-! Readiness. -/

/-- Device memory [a, a + n) zero with fresh ECC: no poison mark of the unit remains (R662, R540). -/
def State.zeroDev (s : State) (a n : Nat) : State := s.devPut a n (s.mem.dev.erase a (a + n))

/-- The poison marks of the units that satisfy `p` cleared. -/
def State.clearPoison (s : State) (p : Nat → Bool) : State :=
  { s with mem := { s.mem with poison := s.mem.poison.filter (fun k => !p (k.1 / 2 ^ 44)) } }

/-- A tile with its memories zero and its tables at their reset contents (R192, R662). -/
def State.zeroTile (s : State) (n : Nat) : State :=
  ((s.setTile n { everHeld := (s.tile n).everHeld }).zeroDev (sramBase n) 0x200000).clearPoison (fun u => u == 0x100 + n)

/-- Every shaper at its burst (R587). -/
def State.fullShapers (s : State) : State :=
  let kib (n : Nat) : Int := ((n * 1024 * 8000 : Nat) : Int)
  { s with sch := { s.sch with
      subTok := (List.range 4096).foldl (fun t u => Tbl.put fullTokens u (kib (s.fld F.SCH_SUB_CFG_BURST_KIB u)) t) []
      cirTok := (List.range 64).foldl (fun t k => Tbl.put fullTokens k (kib (s.fld F.SCH_SVC_BURST_CBS_KIB k)) t) []
      pirTok := (List.range 64).foldl (fun t k => Tbl.put fullTokens k (kib (s.fld F.SCH_SVC_BURST_PBS_KIB k)) t) [] } }

/-- What a domain's readiness brings: tiles with their reset contents (R662), full shapers (R587), answers to SPDM
requests that waited (R589), RDIMMs at the doubled rate where no sensor can be read (R596). A memory unit's patrol scrub goes on where it stopped (R661). -/
def State.domainUp (s : State) (d : Nat) : State :=
  if d < 8 then (List.range 16).foldl (fun t i => t.zeroTile (16 * d + i)) s
  else if d = 16 ∨ d = 17 then s.dimmsHot
  else if d = 21 then s.fullShapers
  else if d = 26 then s.spdmDrain
  else s

/-- DOMAIN_READY (R588): the wake time has passed and every domain that it needs is ready. -/
def execDomainReady (d : Nat) (s : State) : Out :=
  .next (
    match Tbl.find? d s.fum.waking with
    | none => s
    | some t =>
      if t + domWakeUs d * 1000 ≤ s.tb.time ∧ (domNeeds d).all (fun n => decide (s.domain n = .ready)) then
        (({ s with fum := { s.fum with waking := Tbl.del d s.fum.waking } } : State).setDomain d true).domainUp d
      else s)

/-! Switching off. -/

/-- The field that a key of the register file belongs to. -/
def fieldAtKey (key : Nat) : Option Fld :=
  match regAt (key / 65536 / 64) with
  | some (d, _) => d.fields.find? (fun f => f.lo == key / 65536 % 64)
  | none => none

/-- The registers at BAR0 offsets [lo, hi) but their settings returned to Reset. -/
def keepSettings (lo hi : Nat) (r : Regs) : Regs :=
  r.filter (fun e =>
    let off := e.1 / 65536 / 64
    !decide (lo ≤ off ∧ off < hi) ||
      (match fieldAtKey e.1 with | some f => decide (f.kind = .ctl) | none => false))

/-- The registers at BAR0 offsets [lo, hi) returned to Reset. -/
def dropRegs (lo hi : Nat) (r : Regs) : Regs :=
  r.filter (fun e => !decide (lo ≤ e.1 / 65536 / 64 ∧ e.1 / 65536 / 64 < hi))

def State.keepSettings (s : State) (lo hi : Nat) : State := { s with regs := Sys2Proof.Machine.keepSettings lo hi s.regs }
def State.dropRegs (s : State) (lo hi : Nat) : State := { s with regs := Sys2Proof.Machine.dropRegs lo hi s.regs }

/-- A namespace with an extent on drive `p`. -/
def State.driveUsed (s : State) (p : Nat) : Bool :=
  s.sto.namespaces.any (fun n => n.2.backing != 2 && n.2.exts.any (fun e => e.drive == p))

/-- A unit's maintenance that runs (R661). -/
def State.unitMaint (s : State) (u : Nat) : Bool :=
  s.mem.maint.any (fun m => m.running && !isDeviceAct m.act && m.unit == u)

/-- The "Off when" column of R587. -/
def State.offWhen (s : State) (d : Nat) : Bool :=
  if d < 8 then (List.range 16).all (fun i => (s.tile (16 * d + i)).role.isNone)
  else if d < 10 then s.gey.ops.isEmpty
  else if d < 16 then
    !s.inFlightIn d && !s.unitMaint (2 * (d - 10)) && !s.unitMaint (2 * (d - 10) + 1)
  else if d < 18 then
    !s.inFlightIn d && (List.range 4).all (fun i => !s.unitMaint (12 + 4 * (d - 16) + i))
  else if d < 20 then true
  else
    match d with
    | 20 => s.rdm.qps.isEmpty && s.rdm.peers.isEmpty && s.rdm.groups.isEmpty
    | 21 => s.sch.frames.isEmpty && s.sch.control.isEmpty
    | 22 => s.sto.ctrls.all (fun c => !c.2.en) &&
      !(s.sto.locks ++ s.sto.lockWait).any (fun l => decide (l.kind = .feed))
    | 23 => !s.driveUsed 0 && !s.driveUsed 1
    | 24 => !s.driveUsed 2 && !s.driveUsed 3
    | 25 => s.rng.rings.all (fun r => decide (r.2.st = .free))
    | 26 => s.sec.slots.isEmpty && s.sec.sets.all (fun x => x.2.state == 0)
    | 27 => s.ckp.idle && s.ckp.waits.isEmpty && s.fld F.CKP_STAT_STATE 0 == 0
    | 28 => (List.range 16).all (fun u => !s.flag F.SNT_CRC_CFG_EN u) && s.fld F.STO_DEV_CTL_CRC_UNITS 0 == 0 &&
      (List.range 4).all (fun k => s.fld (F.SNT_TRACE_EN_EN.at k) 0 == 0)
    | _ => false

/-- Some domain that needs `d` is on or wakes. -/
def State.neededOn (s : State) (d : Nat) : Bool :=
  (List.range 29).any (fun e => (domNeeds e).contains d &&
    (bit (s.fld F.FUM_PD_STAT_ON 0) e || Tbl.has s.fum.waking e))

/-- A port of a quad that loses its power: the link is down, what it has buffered is lost. -/
def State.portOff (s : State) (p : Nat) : State :=
  let s1 := (s.setLink p false).flushBuffer p false
  { s1 with net := { s1.net with reorder := Tbl.del p s1.net.reorder } }

/-- A downstream port whose slot power goes off. -/
def State.slotOff (s : State) (p : Nat) : State :=
  let s2 := ((s.dpDown p).setFld F.HEP_DP_STAT_ERR_CNT p 0).setFld F.HEP_DP_STAT_SURPRISE_CNT p 0
  { s2 with sto := { s2.sto with drives := Tbl.modify p (fun x => { x with up := false }) s2.sto.drives } }

/-- What a domain loses when it switches off: all but the "Kept while off" column of R587. -/
def State.domainDown (s : State) (d : Nat) : State :=
  if d < 8 then
    (List.range 16).foldl (fun t i =>
      let n := 16 * d + i
      ((((t.zeroTile n).setFld F.CAL_TILE_FAULT_CODE n 0).setFld F.CAL_TILE_FAULT_PC n 0).setFld
        F.CAL_TILE_FAULT_UNIT n 0).setFld F.CAL_TILE_FAULT_TAG n 0) s
  else if d < 10 then
    (List.range 6).foldl (fun t i =>
      let n := 6 * (d - 8) + i
      (t.setFld F.GEY_SLICE_STAT_ELEM_CNT n 0).setFld F.GEY_SLICE_STAT_LOCKWAIT_CNT n 0) s
  else if d < 18 then s
  else if d < 20 then (List.range 4).foldl (fun t i => t.portOff (4 * (d - 18) + i)) s
  else
    match d with
    | 20 => ({ s with rdm := {} } : State).keepSettings 0x800000 0x900000
    | 21 => ({ s with sch := {} } : State).keepSettings 0x900000 0xA00000
    | 22 => ({ s with sto := { namespaces := s.sto.namespaces, irt := s.sto.irt, drives := s.sto.drives } } : State).keepSettings
        0x600000 0x600210
    | 23 => (s.slotOff 0).slotOff 1
    | 24 => (s.slotOff 2).slotOff 3
    | 25 => ({ s with rng := { counters := s.rng.counters } } : State).dropRegs 0x100000 0x100100
    | 26 =>
      let s1 : State := { s with sec := { s.sec with
        revs := [], sets := [], log := [], logOver := false, run := 0, spi := [] } }
      ((s1.keepSettings 0xA00000 0xA00100).keepSettings 0xA00148 0xA00150).keepSettings 0xA00200 0xA00300
    | 27 => ({ s with ckp := {} } : State).keepSettings 0xB00000 0xC00000
    | 28 => (s.dropRegs 0xD00200 0xD00238).dropRegs 0xD00320 0xD00340
    | _ => s

/-- DOMAIN_SWITCH_OFF (R587, R588): a domain that waits to switch off does so once its "Off when" condition holds and no
domain that needs it is on. -/
def execDomainSwitchOff (d : Nat) (s : State) : Out :=
  when (d < 29 ∧ bit (s.fld F.FUM_PD_STAT_PENDING_OFF 0) d = true ∧ s.offWhen d = true ∧ s.neededOn d = false) (
    ((s.domainDown d).setPendingOff d false).setDomain d false) s

end Sys2Proof.Machine
end

