-- ==== Sys2Proof/Machine/Crit.lean ====
section
/-! DEFINITION. Critical commands: the queue, the checks, the envelope (R525 to R530), and the flash image checks (R572 to
R575). -/

namespace Sys2Proof.Machine

/-! Messages (R526). -/

def mOp (b : List Byte) : Nat := leAt b 0 2
def mLen (b : List Byte) : Nat := leAt b 4 4
def mCounter (b : List Byte) : Nat := leAt b 8 8
def mSerial (b : List Byte) : Nat := leAt b 16 8
def mTag (b : List Byte) : List Byte := slice b 32 16
def mPay (b : List Byte) : List Byte := slice b 64 (mLen b)

/-- Firmware runs and takes commands: stages FW_START, TRAINING and READY (R574, R584, R591). -/
def State.fwUp (s : State) : Bool :=
  let g := s.fld F.FUM_BOOT_STAT_STAGE 0
  decide (3 ≤ g ∧ g ≤ 5)

/-- The bytes of the host mailbox buffer (R544). -/
def State.mbxBytes (s : State) : List Byte := (List.range 4096).map (fun i => Tbl.getD s.sec.mbxBuf i 0)

/-- Bytes written into the host mailbox buffer from offset `a`. -/
def State.mbxWrite (s : State) (a : Nat) (bs : List Byte) : State :=
  { s with sec := { s.sec with
      mbxBuf := (bs.mapIdx (fun i b => (a + i, b))).foldl (fun t e => Tbl.put 0 e.1 e.2 t) s.sec.mbxBuf } }

/-- The command at the front of the queue changed. -/
def State.setFront (s : State) (m : MbxMsg) : State := { s with sec := { s.sec with mbx := m :: s.sec.mbx.drop 1 } }

/-- The front command leaves with a result and a response (R527, R528, R544): counted, recorded in Sinter under its opcode's
code, answered in its mailbox. -/
def State.critPop (s : State) (r : Nat) (resp : List Byte) : State :=
  match s.sec.mbx with
  | [] => s
  | m :: rest =>
    let op := mOp m.bytes
    let s1 := if 1 ≤ op ∧ op ≤ 8 then sinterEvent (0x30F + op) r s else s
    let s2 := if m.accepted then s1 else s1.inc F.FUM_MBX_CNT_REJECT_CNT 0
    let s3 : State := { s2 with sec := { s2.sec with mbx := rest } }
    if m.sideband then
      { s3 with sec := { s3.sec with sideResp := resp, sideOut := .mailbox op r resp :: s3.sec.sideOut } }
    else
      let s4 := ((s3.setFld F.FUM_MBX_STAT_OPCODE 0 op).setFld F.FUM_MBX_STAT_RESP_LEN 0 resp.length).setFld
        F.FUM_MBX_STAT_RESULT 0 r
      ((s4.setFlag F.FUM_MBX_STAT_BUSY 0 (rest.any (fun x => !x.sideband))).setFlag F.FUM_MBX_STAT_DONE 0 true).mbxWrite
        64 resp

/-- Commands of undefined OPCODE at the front end BAD_OPCODE (R527 step 1); at most `n` of them. -/
def State.critSkip : Nat → State → State
  | 0, s => s
  | n + 1, s =>
    match s.sec.mbx with
    | m :: _ => if 1 ≤ mOp m.bytes ∧ mOp m.bytes ≤ 8 then s else State.critSkip n (s.critPop 1 [])
    | [] => s

/-- The front command ends; the next ones of undefined OPCODE end too. -/
def State.critEnd (s : State) (r : Nat) (resp : List Byte) : State :=
  let t := s.critPop r resp
  State.critSkip t.sec.mbx.length t

/-- A message put at the end of the queue (R525). -/
def State.critPush (s : State) (b : List Byte) (side : Bool) : State :=
  let t : State := { s with sec := { s.sec with mbx := s.sec.mbx ++ [{ bytes := b, sideband := side }] } }
  (State.critSkip t.sec.mbx.length t).wake 26

/-- What FUM_MBX_STAT.STATE shows (R544): of the host mailbox's oldest command. -/
def State.mbxState (s : State) : Nat :=
  match s.sec.mbx.find? (fun m => !m.sideband) with
  | none => 0
  | some m =>
    if !m.accepted then 1
    else
      match mOp m.bytes with
      | 2 => s.maintState .fwUpdate 0 + 1
      | 3 => s.maintState .keyRotation 0 + 1
      | 7 => s.maintState .tenancy 0 + 1
      | _ => 3

/-! The checks (R527, R529). -/

/-- Step 4 of R527: no command key, or one of the holds of R577. Before the first claim only SET_CMD_KEY passes. -/
def State.noCmdKey (s : State) (op : Nat) : Bool :=
  s.secretHeld || s.fuseHeld 20 || (s.fum.records.cmdKey.isNone && (s.owned || op != 1))

/-- Step 5 of R527: TAG matches; zero on the first claim (R529). -/
def State.tagOk (s : State) (b : List Byte) : Bool :=
  match s.fum.records.cmdKey with
  | some k => decide (mTag b = (toBytes 48 (Config.hmac384 k (b.take 32 ++ mPay b)).toNat).take 16)
  | none => (mTag b).all (fun x => x == 0)

/-- The checks of R527 in order; 0 where the command is accepted. -/
def State.critCheck (s : State) (b : List Byte) (lenOk payloadOk flashOk : Bool) : Nat :=
  let op := mOp b
  if !lenOk then 0x02
  else if s.fuseHeld 16 ∨ mSerial b ≠ s.serialNo then 0x03
  else if s.noCmdKey op then 0x04
  else if !s.tagOk b then 0x05
  else if mCounter b ≤ s.fum.records.counter then 0x06
  else if (op = 3 ∨ op = 6) ∧ s.keyLocked then 0x08
  else if !payloadOk then 0x07
  else if !flashOk then 0x09
  else 0x00

/-- The front command accepted: COUNTER is the last accepted value (R527 step 9). -/
def State.critAccept (s : State) (m : MbxMsg) : State :=
  let c := mCounter m.bytes
  let s1 : State := { s with fum := { s.fum with records := { s.fum.records with counter := c } } }
  ((s1.setFld F.FUM_MBX_CTR_LAST 0 c).inc F.FUM_MBX_CNT_ACCEPT_CNT 0).setFront { m with accepted := true, step := 1 }

/-- The front command, where it is of opcode `op` and its payload satisfies `sel`; the security complex must be ready and
firmware must run. -/
def State.critFront (s : State) (op : Nat) (sel : List Byte → Bool) : Option MbxMsg :=
  if s.fwUp ∧ s.domain 26 = .ready then
    match s.sec.mbx with
    | m :: _ => if mOp m.bytes = op ∧ sel (mPay m.bytes) then some m else none
    | [] => none
  else none

/-- The check of the front command, and `act` where it is accepted. -/
def State.critStart (s : State) (m : MbxMsg) (lenOk payloadOk flashOk : Bool) (act : State → State) : State :=
  match s.critCheck m.bytes lenOk payloadOk flashOk with
  | 0 => act (s.critAccept m)
  | r => s.critEnd r []

/-- A wrapped envelope opened (R530): HKDF-SHA-384 over the ECDH value, then AES-256-GCM. `e` holds the envelope, `n` bytes
of it ciphertext. -/
def State.openEnvelope (s : State) (b e : List Byte) (n : Nat) : Option (List Byte) :=
  let prk := toBytes 48 (Config.hmac384 (slice b 16 8) (Config.ecdhX s.deviceSecret (e.take 96))).toNat
  let info : List Byte := [0x41, 0x4B, 0x37, 0x2D, 0x57, 0x52, 0x41, 0x50] ++ b.take 16
  let key := (toBytes 48 (Config.hmac384 prk (info ++ [0x01])).toNat).take 32
  gcmOpen key (slice e 96 12) (b.take 32) (slice e 112 n) (slice e (112 + n) 16)

/-! The flash images (R571 to R575). -/

/-- The first flash address of an image slot, and its size (R571). -/
def slotBase (k : Nat) : Nat := 0x10000 + k * 0xC00000
def slotBytes : Nat := 0xC00000

/-- What the boot ROM finds in an accepted image. -/
structure FwInfo where
  version : Nat
  svn : Nat
  digest : Nat
deriving DecidableEq, Repr

/-- The checks of R574 on an image slot: R522 steps 1 to 3 and 7, the signer against ROT_HASH, the anti-rollback counter. -/
def State.fwCheck (s : State) (k : Nat) : Option FwInfo :=
  let h := s.fum.flash.readList (slotBase k) 512
  let n := pkgLen h
  let rot := sumOf ((List.range 6).map (fun i => s.fuseValue (6 + i) <<< (64 * i)))
  let key := (List.range 4).flatMap (fun i => toBytes 8 (s.fuseValue (12 + i)))
  if (List.range 10).any (fun i => s.fuseHeld (6 + i)) then none
  else if pkgBad h ∨ leAt h 6 2 ≠ 4 ∨ leAt h 0x10 8 ≠ 0 ∨ slotBytes < n + 528 then none
  else if (Config.sha384 (slice h 0x60 96)).toNat ≠ rot ∨ !pkgSigned h then none
  else
    match pkgOpen key h (s.fum.flash.readList (slotBase k + 512) n) (s.fum.flash.readList (slotBase k + 512 + n) 16) with
    | .error _ => none
    | .ok pt => if leAt pt 4 2 < s.rollback then none else some ⟨leAt pt 0 4, leAt pt 4 2, leAt h 0x30 48⟩

/-- FUM_BOOT_STAT shows the BOOT record and SAME (R573, R598). -/
def State.showBoot (s : State) : State :=
  let r := s.fum.records
  let d (k : Nat) : BitVec 384 := Config.sha384 (s.fum.flash.readList (slotBase k) slotBytes)
  (((s.setFld F.FUM_BOOT_STAT_PREFERRED 0 r.preferred).setFlag F.FUM_BOOT_STAT_TRIAL 0 r.trial).setFlag
    F.FUM_BOOT_STAT_TRIED 0 r.tried).setFlag F.FUM_BOOT_STAT_SAME 0 (decide (d 0 = d 1))

/-- The BOOT record written. -/
def State.setBootRecord (s : State) (preferred : Nat) (trial tried : Bool) : State :=
  ({ s with fum := { s.fum with
      records := { s.fum.records with preferred := preferred, trial := trial, tried := tried } } } : State).showBoot

/-- A package written into an image slot; what follows it in the slot is unspecified. -/
def State.writeSlot (s : State) (k : Nat) (bs : List Byte) : State :=
  ({ s with fum := { s.fum with
      flash := (s.fum.flash.spoil (slotBase k) (slotBase k + slotBytes) s.fresh).writeList (slotBase k) bs } } : State).tick

/-! Fuses programmed (R582). -/

/-- Bits programmed in both copies of a word. -/
def State.programFuse (s : State) (w bits : Nat) : State :=
  let f := s.fum.fuses
  { s with fum := { s.fum with
      fuses := { f with a := Tbl.set w (Tbl.getD f.a w 0 ||| bits) f.a, b := Tbl.set w (Tbl.getD f.b w 0 ||| bits) f.b } } }

/-- OWNED programmed on the first claim (R529). -/
def State.claim (s : State) : State :=
  if s.owned then s
  else
    let s1 := s.programFuse 20 1
    let v := s.fuseValue 20 ||| 1
    let s2 : State := { s1 with fum := { s1.fum with fuses := { s1.fum.fuses with value := Tbl.set 20 v s1.fum.fuses.value } } }
    (s2.setFld F.FUM_FUSE_DATA_VALUE 20 v).setFlag F.SEC_STAT_OWNED 0 true

/-! The mailboxes and the sideband. -/

/-- MAILBOX_GO (R525, R586): GO is accepted, the message is copied into the queue, line 0 pulses. -/
def execMailboxGo (s : State) : Out :=
  when (s.flag F.FUM_MBX_CTL_GO 0 = true) (
    (((s.setFlag F.FUM_MBX_CTL_GO 0 false).setFlag F.FUM_MBX_STAT_BUSY 0 true).pulseLine 0).critPush s.mbxBytes false) s

/-- The status response (R594). -/
def State.statusAnswer (s : State) : SideAnswer :=
  .status (s.fld F.FUM_BOOT_STAT_STAGE 0) s.fum.perst (s.flag F.FUM_RST_STAT_PERST_HELD 0) (s.fld F.FUM_PWR_STAT_POWER_W 0)
    (s.fld F.FUM_PWR_STAT_TJ_C 0) (s.fld F.FUM_FUSE_HELD_HELD 0)

def State.sideSay (s : State) (a : SideAnswer) : State :=
  { s with sec := { s.sec with sideOut := a :: s.sec.sideOut } }

/-- An SPDM request answered, or held until domain 26 is ready (R537, R541, R589). -/
def State.spdmTake (s : State) (side : Bool) (req : List Byte) : State :=
  if s.domain 26 = .ready ∨ s.sec.tenancy then s.spdmReply side req
  else ({ s with sec := { s.sec with spdmWait := s.sec.spdmWait ++ [(side, req)] } } : State).wake 26

/-- SCL and SDA of the sideband are seen high: nothing is held low (R595). -/
def State.busMoved (s : State) : State := { s with fum := { s.fum with smbLow := none } }

/-- SIDEBAND_MCTP (R525, R537, R586, R594): in BOOT_HELD and FW_HALTED only control messages and the status response are
answered; before firmware starts nothing is. -/
def execSidebandMctp (m : SideMsg) (s : State) : Out :=
  .next (
    let s1 := s.busMoved.pulseLine 1
    if s.fld F.FUM_BOOT_STAT_STAGE 0 < 3 then s1
    else
      match m with
      | .control bs => s1.sideSay (.control bs)
      | .status => s1.sideSay s.statusAnswer
      | .spdm req => if s.fwUp then s1.spdmTake true req else s1
      | .mailbox bs => if s.fwUp then s1.critPush ((bs ++ List.replicate (4096 - bs.length) 0).take 4096) true else s1)

/-- SPDM_REQUEST (R537, R541, R586, R589): a request through Data Object Exchange pulses line 2 and is answered. -/
def execSpdmRequest (request : List Byte) (s : State) : Out :=
  when (s.fwUp = true) ((s.pulseLine 2).spdmTake false request) s

end Sys2Proof.Machine
end

