-- ==== Sys2Proof/Machine/CritCmds.lean ====
section
/-! DEFINITION. The critical commands (R529 to R534, R540, R541, R575, R576, R582, R611, R620). -/

namespace Sys2Proof.Machine

/-- Any payload. -/
def anyPay (_ : List Byte) : Bool := true

/-- SET_CMD_KEY (R529, R531): the envelope's 48 bytes become the command key; the first claim programs OWNED. `flashOk`: the
counter record is written; `actionOk`: the wrapped key is written. -/
def execSetCmdKey (flashOk actionOk : Bool) (s : State) : Out :=
  .next (
    match s.critFront 1 anyPay with
    | none => s
    | some m =>
      let k := s.openEnvelope m.bytes (mPay m.bytes) 48
      s.critStart m (mLen m.bytes == 176) k.isSome flashOk (fun t0 =>
        let t := t0.claim
        if actionOk then
          ({ t with fum := { t.fum with records := { t.fum.records with cmdKey := k } } } : State).critEnd 0 []
        else t.critEnd 0x0A []))

/-- The action of FW_UPDATE (R575). -/
def State.fwUpdate (s : State) (env : Env) (p : List Byte) (actionOk : Bool) : State :=
  let a := leAt p 0 6
  let n := leAt p 8 4
  let k := leAt p 12 1
  let finish := fun (t : State) (r : Nat) => (t.maintFinish .fwUpdate 0).critEnd r []
  if s.region a ≠ .host then finish s 0x0A
  else
    match s.readFor env 0 a n with
    | (s1, .ok bs) =>
      let s2 := (s1.writeSlot k bs).showBoot
      if actionOk ∧ (s2.fwCheck k).isSome then finish (s2.setBootRecord k true false) 0
      else finish s2 0x0A
    | (s1, .fail _) => finish s1 0x0A
    | (_, .wait) => s

/-- FW_UPDATE (R531, R575): accepted, it requests FW_UPDATE; while that runs it writes and verifies the image. `actionOk`:
the flash takes the data. -/
def execFwUpdate (env : Env) (flashOk actionOk : Bool) (s : State) : Out :=
  .next (
    match s.critFront 2 anyPay with
    | none => s
    | some m =>
      let p := mPay m.bytes
      if m.accepted then
        if s.maintRuns .fwUpdate 0 then s.fwUpdate env p actionOk else s
      else
        let ok := decide (leAt p 12 1 < 2 ∧ leAt p 12 1 ≠ s.fld F.FUM_BOOT_STAT_RUNNING 0 ∧ leAt p 8 4 ≤ slotBytes)
        s.critStart m (mLen m.bytes == 16) ok flashOk (fun t => t.maintRequest .fwUpdate 0))

/-- MODE of a KEY_PROVISION payload (R531). -/
def provMode (p : List Byte) : Nat := leAt p 2 1

/-- The slot record that a KEY_PROVISION envelope gives (R512, R531). -/
def State.provKey (s : State) (b : List Byte) : Option KeySlot :=
  match s.openEnvelope b (slice (mPay b) 4 240) 112 with
  | some m => if blobBad (m.take 48) then none else some (blobSlot (m.take 48) (m.drop 48))
  | none => none

/-- KEY_PROVISION (R531, R532): LOAD, or REPLACE under the KEY_ROTATION activity. -/
def execKeyProvision (flashOk : Bool) (s : State) : Out :=
  .next (
    match s.critFront 3 (fun p => provMode p != 2) with
    | none => s
    | some m =>
      let p := mPay m.bytes
      let k := leAt p 0 2
      let x := s.provKey m.bytes
      if m.accepted then
        if s.maintRuns .keyRotation 0 then
          let s1 := if s.keyLocked then s else (s.revokeKey k).setKeySlot k (x.getD {})
          (s1.maintFinish .keyRotation 0).critEnd (if s.keyLocked then 0x0A else 0) []
        else s
      else
        let ok := decide (k < 1024 ∧ provMode p < 2 ∧ (provMode p = 0 → (s.keySlot k).loaded = false)) && x.isSome
        s.critStart m (mLen m.bytes == 244) ok flashOk (fun t =>
          if provMode p = 0 then (t.setKeySlot k (x.getD {})).critEnd 0 [] else t.maintRequest .keyRotation 0))

/-- KEY_PROVISION_SIGNER (R531): MODE 0x2 writes or clears an entry of the package-signer list. -/
def execKeyProvisionSigner (flashOk : Bool) (s : State) : Out :=
  .next (
    match s.critFront 3 (fun p => provMode p == 2) with
    | none => s
    | some m =>
      let p := mPay m.bytes
      let i := leAt p 0 1
      let valid := bit (leAt p 1 1) 0
      s.critStart m (mLen m.bytes == 52) (decide (i < 8)) flashOk (fun t =>
        let t1 : State := { t with sec := { t.sec with
          signers := if valid then Tbl.set i (BitVec.ofNat 384 (leAt p 4 48)) t.sec.signers else Tbl.del i t.sec.signers } }
        (t1.setFld F.SEC_STAT_SIGNERS 0 (setField (t1.fld F.SEC_STAT_SIGNERS 0) i i (ofBit valid))).critEnd 0 []))

/-! FUSE_PROGRAM. -/

/-- The programmed bits of a word as last sensed clean in both copies include `bits` (R582). -/
def State.readsClean (s : State) (w bits : Nat) : Bool :=
  match Tbl.find? w s.fum.fuses.lastA, Tbl.find? w s.fum.fuses.lastB with
  | some a, some b => decide (a &&& bits = bits ∧ b &&& bits = bits)
  | _, _ => false

/-- A FUSE_PROGRAM of word `w` (R582): accepted, it programs `bits` and requests FUSE_READ; once that has ended it ends OK
only if every programmed bit reads clean in both copies. -/
def State.fuseProgram (s : State) (m : MbxMsg) (w bits : Nat) (ok flashOk : Bool) : State :=
  if m.accepted then
    if s.maintState .fuseRead 0 = 0 then s.critEnd (if s.readsClean w bits then 0 else 0x0A) [] else s
  else
    s.critStart m (mLen m.bytes == 16) ok flashOk (fun t => (t.programFuse w bits).maintRequest .fuseRead 0)

/-- OP of a FUSE_PROGRAM payload. -/
def fuseOp (p : List Byte) : Nat := leAt p 0 1

/-- FUSE_PROGRAM_ROLLBACK (R576, R582): OP 0x01; an OP that is not defined ends INVALID here. -/
def execFuseProgramRollback (flashOk : Bool) (s : State) : Out :=
  .next (
    match s.critFront 4 (fun p => fuseOp p != 2 && fuseOp p != 3) with
    | none => s
    | some m =>
      let p := mPay m.bytes
      let target := leAt p 8 2
      let ok := decide (fuseOp p = 1 ∧ s.fuseHeld 19 = false ∧ s.rollback < target ∧
        target ≤ s.fld F.FUM_BOOT_STAT_SVN 0)
      s.fuseProgram m 19 (2 ^ min target 64 - 1) ok flashOk)

/-- FUSE_PROGRAM_OWNER (R582): OP 0x02 programs VALUE into owner word WORD; a bit of the word cannot return to 0. -/
def execFuseProgramOwner (flashOk : Bool) (s : State) : Out :=
  .next (
    match s.critFront 4 (fun p => fuseOp p == 2) with
    | none => s
    | some m =>
      let p := mPay m.bytes
      let w := leAt p 1 1
      let v := leAt p 8 8
      let now := s.fuseStored 0 w ||| s.fuseStored 1 w
      s.fuseProgram m w v (decide (29 ≤ w ∧ w ≤ 60 ∧ now &&& v = now)) flashOk)

/-- FUSE_PROGRAM_DEBUG_DISABLE (R582): OP 0x03. -/
def execFuseProgramDebugDisable (flashOk : Bool) (s : State) : Out :=
  .next (
    match s.critFront 4 (fun p => fuseOp p == 3) with
    | none => s
    | some m => s.fuseProgram m 20 2 true flashOk)

/-! DEBUG_CTL. -/

/-- Step 2 of R620, once every revocation is complete. -/
def State.debugOpen (s : State) : State :=
  if s.sec.revs.isEmpty then
    (sinterEvent 0x308 0 (((s.setFlag F.SEC_STAT_DEBUG 0 true).setFlag F.VNT_STAT_UNLOCKED 0 true).inc
      F.VNT_STAT_UNLOCK_CNT 0)).critEnd 0 []
  else s

/-- DEBUG_UNLOCK (R531, R532, R620): the key store locks first. -/
def execDebugUnlock (flashOk : Bool) (s : State) : Out :=
  .next (
    match s.critFront 5 (fun p => leAt p 0 1 == 1) with
    | none => s
    | some m =>
      if m.accepted then s.debugOpen
      else
        s.critStart m (mLen m.bytes == 8) (!s.debugDisabled) flashOk (fun t =>
          (({ t with sec := { t.sec with locked := true } } : State).lockKeys 1).debugOpen))

/-- DEBUG_LOCK (R531, R619, R620): the pins and the strobe are driven low, the vent registers return to their reset values;
the key store stays locked (R532). A DEBUG_CTL byte that is neither 0x00 nor 0x01 ends INVALID here. -/
def execDebugLock (flashOk : Bool) (s : State) : Out :=
  .next (
    match s.critFront 5 (fun p => leAt p 0 1 != 1) with
    | none => s
    | some m =>
      s.critStart m (mLen m.bytes == 8) (leAt (mPay m.bytes) 0 1 == 0) flashOk (fun t =>
        let t1 := ((t.setFlag F.SEC_STAT_DEBUG 0 false).setFlag F.VNT_STAT_UNLOCKED 0 false).dropRegs 0xE00008 0xE00018
        ({ t1 with vnt := {} } : State).critEnd 0 []))

/-! SET_MEMBERSHIP. -/

/-- Record `i` of a SET_MEMBERSHIP payload (R531): serial and DeviceID key hash. -/
def memberAt (p : List Byte) (own i : Nat) : SetMember :=
  { serial := leAt p (16 + 56 * i) 8, hash := BitVec.ofNat 384 (leAt p (24 + 56 * i) 48), proven := decide (i = own) }

/-- SET_MEMBERSHIP (R531, R534). -/
def execSetMembership (flashOk : Bool) (s : State) : Out :=
  .next (
    match s.critFront 6 anyPay with
    | none => s
    | some m =>
      let p := mPay m.bytes
      let i := leAt p 0 1
      let n := leAt p 1 1
      let own := leAt p 2 1
      let lenOk := if n = 0 then mLen m.bytes == 16 else mLen m.bytes == 176 + 56 * n
      let key := s.openEnvelope m.bytes (slice p (16 + 56 * n) 160) 32
      let me := memberAt p own own
      let ok := decide (i < 4) && (n == 0 || (decide (2 ≤ n ∧ n ≤ 64 ∧ own < n ∧ me.serial = s.serialNo ∧
        me.hash = Config.deviceKeyHash s.deviceSecret) && key.isSome))
      s.critStart m lenOk ok flashOk (fun t =>
        let d : DevSet := if n = 0 then {}
          else { state := 1, id := leAt p 8 8, rank := own, members := (List.range n).map (memberAt p own)
                 key := key.getD [], nonce := none }
        (t.setDevSet i d).critEnd 0 []))

/-! TENANCY_SWITCH. -/

/-- Steps 1 and 2 of R540. -/
def State.tenancyBegin (s : State) : State :=
  let s1 := (List.range 256).foldl (fun t f => t.fnReset f false) s.sendLeaves
  { s1 with sec := { s1.sec with tenancy := true } }

/-- Step 3 of R540: keys, signers, protected peers and SPIs, the measurement log and RUN. -/
def State.tenancyKeys (s : State) : State :=
  let s1 := ((s.revokeAll.setFld F.SEC_STAT_SIGNERS 0 0).dropRegs 0xA00130 0xA00138).dropRegs 0xA00140 0xA00148
  { s1 with sec := { s1.sec with signers := [], spi := [], log := [], logOver := false, run := 0 } }

/-- Steps 4 and 5 of R540: every memory of the device is zero with fresh ECC. -/
def State.zeroAll (s : State) : State :=
  let s1 := (List.range 128).foldl State.zeroTile s
  ((((s1.zeroDev 0 nearEnd).zeroDev capBase (s1.capEnd - capBase)).zeroDev sharedBase (sharedEnd - sharedBase)).clearPoison
    (fun _ => true))

/-- Step 6 of R540: the indeterminate-range table, the storage cache, the flow table and the fragment follow table. -/
def State.tenancyTables (s : State) : State :=
  let s1 : State := { s with
    sto := { s.sto with irt := [], cache := [] }, net := { s.net with flows := [], frags := [] } }
  (s1.setFld F.NET_FLOW_STAT_CHIP_USED 0 0).setFld F.NET_FRAG_STAT_USED 0 0

/-- Steps 3 to 8 of R540. -/
def State.tenancyEnd (s : State) (tenant : Nat) : State :=
  let s1 := s.tenancyKeys.zeroAll.tenancyTables
  let e := (s1.fum.records.epoch + 1) % 2 ^ 32
  let s2 : State := { s1 with
    fum := { s1.fum with records := { s1.fum.records with epoch := e, tenant := tenant } }
    sec := { s1.sec with tenancy := false } }
  let s3 := s2.setFld F.SEC_STAT_EPOCH 0 e
  let s4 : State := if !s3.flag F.SEC_STAT_DEBUG 0 ∧ !s3.securityHold then
      ({ s3 with sec := { s3.sec with locked := false } } : State).setFlag F.SEC_STAT_LOCKED 0 false
    else s3
  ((s4.postEvent {} 0 0xA004 (BitVec.ofNat 64 e) 0).maintFinish .tenancy 0).critEnd 0 []

/-- TENANCY_SWITCH (R531, R540, R541): accepted, it requests TENANCY; running, it resets every function, and once the last
reset has completed it erases the device and hands it to the new tenant. -/
def execTenancySwitch (flashOk : Bool) (s : State) : Out :=
  .next (
    match s.critFront 7 anyPay with
    | none => s
    | some m =>
      if !m.accepted then
        s.critStart m (mLen m.bytes == 8) true flashOk (fun t => t.maintRequest .tenancy 0)
      else if !s.maintRuns .tenancy 0 then s
      else if m.step = 1 then s.tenancyBegin.setFront { m with step := 2 }
      else if (List.range 256).any (fun f => s.flag F.HEP_FN_STAT_DRAINING f) then s
      else s.tenancyEnd (leAt (mPay m.bytes) 0 8))

/-! SINTER_EXPORT_SIGN. -/

/-- The sixteen words of a live record or of its copy (R601). -/
def recordWords (r : SinterRec) : List Nat :=
  [r.seq, r.count, r.max * 2 ^ 32 + r.min, r.last, r.boot] ++
  (List.range 8).map (fun i => Tbl.getD r.bins (2 * i) 0 + Tbl.getD r.bins (2 * i + 1) 0 * 2 ^ 32) ++ [0, 0, r.seq]

/-- The export unit of a record set: 64 header bytes and 1,024 records (R610). -/
def State.exportUnit (s : State) (r : RecordSet) : List Byte :=
  let h := [r.index % 2 ^ 32 + ofBit r.perm * 2 ^ 32 + causeRank r.cause * 2 ^ 33 +
      (if r.cause = .fault then r.code else 0) * 2 ^ 48,
    r.time, r.boot % 2 ^ 32 + r.epoch * 2 ^ 32, s.serialNo, 0, 0, 0, 0]
  (h ++ (List.range 1024).flatMap (fun c => recordWords (Tbl.getD r.recs c {}))).flatMap (toBytes 8)

/-- The export digest (R611). -/
def State.exportDigest (s : State) : List Byte :=
  toBytes 48 (Config.sha384 (s.snt.stored.flatMap s.exportUnit)).toNat

/-- SINTER_EXPORT_SIGN (R531, R611): the digest, and a DeviceID signature over digest ‖ nonce. -/
def execSinterExportSign (flashOk : Bool) (s : State) : Out :=
  .next (
    match s.critFront 8 anyPay with
    | none => s
    | some m =>
      s.critStart m (mLen m.bytes == 32) true flashOk (fun t =>
        let d := t.exportDigest
        t.critEnd 0 (d ++ Config.ecdsaSign 0 t.deviceSecret (Config.sha384 (d ++ (mPay m.bytes).take 32)))))

end Sys2Proof.Machine
end

