-- ==== Sys2Proof/Machine/Boot.lean ====
section
/-! DEFINITION. Boot and reset kinds (R584, R585, R590 to R593, R636, R662, R663), the Device Description Table (R350 to
R353), the watchdog (R591), the sideband and sensor buses (R595, R596), the voltage-control bus (R633, R637, R638). -/

namespace Sys2Proof.Machine

/-! The boot ROM. -/

/-- A management core started on an image (R214, R236, R572). The manual gives no start address; the model takes 0. -/
def startCore (k digest : Nat) : Core := { run := .running, words := 65536, img := some digest, num := k }

/-- The four management cores loaded and started. -/
def State.startCores (s : State) (digest : Nat) : State :=
  (List.range 4).foldl (fun t k => t.setMcore k (startCore k digest)) s

/-- The four management cores stopped. -/
def State.stopCores (s : State) : State := { s with mcores := [] }

def State.setStage (s : State) (g : Nat) : State := s.setFld F.FUM_BOOT_STAT_STAGE 0 g

/-- An accepted image of slot `k` started: FW_START (R574, R584 steps 3 and 4). -/
def State.startImage (s : State) (k : Nat) (i : FwInfo) : State :=
  let s1 := ((s.setFld F.FUM_BOOT_STAT_RUNNING 0 k).setFld F.FUM_BOOT_STAT_FW_VERSION 0 i.version).setFld
    F.FUM_BOOT_STAT_SVN 0 i.svn
  ((({ s1 with fum := { s1.fum with image := i.digest, lastKick := s1.tb.time } } : State).startCores i.digest).setStage 3)

/-- The choice of R574. -/
def State.bootImage (s : State) : State :=
  let r := s.fum.records
  let s1 := if r.trial ∧ r.tried then s.setBootRecord (1 - r.preferred) false false else s.showBoot
  let p := s1.fum.records.preferred
  match s1.fwCheck p with
  | some i =>
    (if s1.fum.records.trial then s1.setBootRecord p true true else s1).startImage p i
  | none =>
    let s2 := sinterEvent 0x301 p s1
    match s2.fwCheck (1 - p) with
    | some i => s2.startImage (1 - p) i
    | none => (sinterEvent 0x301 (1 - p) s2).setStage 6

/-- What outlasts the always-on rail: the flash with its records, the fuse copies, what Sinter has stored, and host
memory. Record sets whose end marker does not stand in flash are lost; the first of them, if the flash was writing it, is found
torn at power-on, and its index is given again. The live records go back to the last stored record set (R606, R607). -/
def State.powerLost (s : State) : State :=
  let kept := s.snt.stored.filter (fun r => decide (r.doneAt ≤ s.tb.time))
  let cut := s.snt.stored.find? (fun r => decide (s.tb.time < r.doneAt))
  let next := match cut, kept.getLast? with
    | some r, _ => r.index
    | none, some r => r.index + 1
    | none, none => 0
  { pending := s.pending
    fresh := s.fresh
    mem := { host := s.mem.host }
    snt := { recs := match kept.getLast? with
               | some r => r.recs
               | none => []
             stored := kept.map (fun r => { r with doneAt := 0 })
             next := next
             boots := s.snt.boots
             blocks := s.snt.blocks.map (fun b => { b with sets := b.sets.filter (fun i => decide (i < next)) })
             used := s.snt.used, erased := s.snt.erased, spares := s.snt.spares, erases := s.snt.erases
             retired := s.snt.retired, circCap := s.snt.circCap, permClosed := s.snt.permClosed
             degraded := s.snt.degraded, ops := s.snt.ops
             torn := match cut with
               | some r => some r.index
               | none => s.snt.torn }
    fum := { flash := s.fum.flash, records := s.fum.records
             fuses := { a := s.fum.fuses.a, b := s.fum.fuses.b } } }

/-- POWER_LOSS (R590, R606): the always-on rail falls. -/
def execPowerLoss (s : State) : Out := .next s.powerLost

/-- POWER_ON (R47, R571, R574, R578, R584, R590, R626, R630): the always-on rail rises with PERST# asserted. The PLL locks and
the timebase starts at 0, the strapped sideband address is sampled, the fuses are sensed, an image is chosen and its firmware
starts, or BOOT_HELD. The package power cap resets to the fused maximum (R65). -/
def execPowerOn (tj : Nat) (noise : List FuseSense) (smbStraps : Nat) (s : State) : Out :=
  .next (
    let s0 := s.powerLost
    let s1 : State := { s0 with
      snt := { s0.snt with boots := s0.snt.boots + 1, torn := none }
      tb := { s0.tb with running := true, paceStart := (List.range 11).map (fun m => (m, 0)) }
      fum := { s0.fum with powered := true, perst := true, perstPin := true } }
    let s2 := ((s1.setFlag F.GLB_TB_STAT_LOCKED 0 true).setFld F.FUM_SMB_STAT_TARGET_ADDR 0 (0x60 + smbStraps % 8)).setFld
      F.FUM_MBX_CTR_LAST 0 s1.fum.records.counter
    let s2 := match s0.snt.torn with
      | some i => sinterEvent 0x326 (i % 2 ^ 32) s2
      | none => s2
    let s3 := ((s2.setFld F.SEC_STAT_EPOCH 0 s2.fum.records.epoch).setFld F.FUM_PWR_STAT_TJ_C 0 tj).senseFuses tj noise
    ((s3.setFld F.FUM_PWR_CAP_CAP_W 0 s3.fusedMaxW).setFld F.FUM_PWR_CAP_CAP_APPLIED_W 0 s3.fusedMaxW).bootImage)

/-! Blocks outside the island. -/

/-- Registers of the always-on island, by BAR0 offset: the timebase and time of day, Fumarole, the recorder, the debug state
(R590, R619). -/
def islandReg (off : Nat) : Bool :=
  decide ((0x200 ≤ off ∧ off < 0x300) ∨ (0xC00000 ≤ off ∧ off < 0xD00000) ∨ (0xD00100 ≤ off ∧ off < 0xD00140) ∨
    (0xE00000 ≤ off ∧ off < 0xE00100))

/-- The register file after a reset of the blocks outside the island: SEC_STAT keeps what fuses, flash and the debug state
decide. -/
def outsideRegs (r : Regs) : Regs :=
  r.filter (fun e => islandReg (e.1 / 65536 / 64) ||
    [F.SEC_STAT_EPOCH.key 0, F.SEC_STAT_OWNED.key 0, F.SEC_STAT_FUSE_HOLD.key 0, F.SEC_STAT_DEBUG.key 0,
      F.SEC_STAT_LOCKED.key 0].contains e.1)

/-- Maintenance of the island: it goes on while the other blocks are held in reset. -/
def islandAct (m : MaintReq) : Bool :=
  match m.act with
  | .fwUpdate | .keyRotation | .tenancy | .fuseRead => true
  | _ => false

/-- Every block outside the always-on island at its initial state; memory contents are lost (R590). -/
def State.outsideReset (s : State) : State :=
  ({ s with
    regs := outsideRegs s.regs
    rng := {}, hep := { lastRead := s.hep.lastRead }, tiles := [], roles := [], gey := {}
    mem := { host := s.mem.host, dev := { junk := [⟨0, hostBase, s.fresh⟩] }, maint := s.mem.maint.filter islandAct }
    sec := { s.sec with slots := [], revs := [], sets := [], signers := [], log := [], logOver := false, run := 0, spi := [] }
    sto := {}, sch := {}, net := {}, rdm := {}, ckp := {} } : State).tick

/-- PERST#, or what counts as it, asserted (R590, R593, R636). -/
def State.perstOn (s : State) : State :=
  if s.fum.perst then s
  else
    let s1 := ((s.outsideReset.inc F.FUM_RST_STAT_PERST_CNT 0).setFld F.FUM_RST_STAT_LAST 0 1).pulseLine 4
    let s2 : State := { s1 with fum := { s1.fum with perst := true, perstSince := s1.tb.time } }
    if s2.fwUp then s2.setStage 3 else s2

/-- PERST_ASSERT (R586, R590, R593). -/
def execPerstAssert (s : State) : Out :=
  when (s.fum.powered = true)
    (({ s with fum := { s.fum with perstPin := true } } : State).perstOn) s

/-- Step 5 of R584 begins: with CORE_PG high and no reset held, firmware switches on every domain, tile groups with a held
repair word apart, and trains. -/
def State.startTraining (s : State) : State :=
  if s.fld F.FUM_BOOT_STAT_STAGE 0 = 3 ∧ s.fum.corePg ∧ !s.fum.perst then
    ((s.setFld F.FUM_PD_REQ_ON 0
      (sumOf ((List.range 29).map (fun d => if d < 8 ∧ s.fuseHeld (21 + d) then 0 else 2 ^ d)))).domainReq).setStage 4
  else s

/-- The reset of the outside blocks ends where neither cause holds any more: shared SRAM is zero as its logic leaves reset
(R662), and so is tile SRAM, whose domains may have stayed on; boundary scan ends (R597), firmware repeats steps 5 and 6 (R663). -/
def State.perstOff (s : State) : State :=
  if s.fum.perst ∧ !s.fum.perstPin ∧ !s.fum.coreFell ∧ !s.tb.thermtrip then
    let s1 : State := { s with fum := { s.fum with perst := false, extest := false } }
    let s2 := ((s1.setFlag F.FUM_RST_STAT_PERST_HELD 0 false).zeroDev sharedBase (sharedEnd - sharedBase)).zeroDev
      tileBase (tileEnd - tileBase)
    (s2.pulseLine 4).startTraining
  else s

/-- PERST_DEASSERT (R586, R592, R593, R663). -/
def execPerstDeassert (s : State) : Out :=
  when (s.fum.powered = true)
    (({ s with fum := { s.fum with perstPin := false } } : State).perstOff) s

/-- PERST_HELD (R593): 1 s of continuous assertion. -/
def execPerstHeld (s : State) : Out :=
  when (s.fum.perst = true ∧ s.flag F.FUM_RST_STAT_PERST_HELD 0 = false ∧ s.fum.perstSince + 1000000000 ≤ s.tb.time)
    ((sinterEvent 0x305 0 (s.setFlag F.FUM_RST_STAT_PERST_HELD 0 true)).sideSay .perstHeld) s

/-! CORE_PG and the voltage-control bus. -/

/-- CORE_PG_RISE (R584, R633, R636): the first frames SET 0.78 V; a reset that its fall began may end. -/
def execCorePgRise (s : State) : Out :=
  when (s.fum.powered = true ∧ s.fum.corePg = false) (
    let s1 : State := { s with fum := { s.fum with corePg := true, coreFell := false } }
    let s2 := ((s1.vcbSend 0 1 780).vcbSend 1 1 780).setFld F.FUM_PWR_STAT_V_CD0_MV 0 780
    (s2.setFld F.FUM_PWR_STAT_V_CD1_MV 0 780).perstOff.startTraining) s

/-- CORE_PG_FALL (R636): a Sinter event, whose code the manual does not name, and an assertion of PERST#. -/
def execCorePgFall (s : State) : Out :=
  when (s.fum.powered = true ∧ s.fum.corePg = true) (
    let s1 := sinterEvent ((Config.freeWord 0x636).toNat % 1024) 0 s
    ({ s1 with fum := { s1.fum with corePg := false, coreFell := true } } : State).perstOn) s

/-- A regulator's answer: [31:16] current, [15:6] mV, bit 0 FAULT; none where no valid answer came. The third missing answer in a
row and a FAULT are Sinter events of codes that the manual does not name (R637, R638). -/
def State.vcbAnswer (s1 : State) (rail : Nat) (answer : Option Nat) : State :=
  match answer with
  | some w =>
    let s2 : State := { s1 with tb := { s1.tb with
      vcbMissed := Tbl.put 0 rail 0 s1.tb.vcbMissed
      telemetry := ⟨s1.tb.time, rail, field w 31 16, field w 15 6⟩ ::
        s1.tb.telemetry.filter (fun x => decide (s1.tb.time < x.time + 100000)) } }
    if bit w 0 then
      sinterEvent ((Config.freeWord 0x638).toNat % 1024) 0
        { s2 with tb := { s2.tb with railAlert := Tbl.put false rail true s2.tb.railAlert } }
    else s2
  | none =>
    let n := Tbl.getD s1.tb.vcbMissed rail 0 + 1
    let s2 : State := { s1 with tb := { s1.tb with vcbMissed := Tbl.put 0 rail n s1.tb.vcbMissed } }
    if n = 3 then sinterEvent ((Config.freeWord 0x637).toNat % 1024) 0 s2 else s2

/-- One compute-die rail's frame and its answer. -/
def State.vcbRail (s : State) (rail : Nat) (answer : Option Nat) : State :=
  (if s.tb.emergency then s.vcbSend rail 3 600 else s.vcbSend rail 1 (s.fld (vField rail) 0)).vcbAnswer rail answer

/-- A READ of a rail on TLM, by rail address, and its answer. -/
def State.tlmRail (s : State) (x : Option Nat × Nat) : State := (s.vcbSend 2 2 x.2).vcbAnswer (2 + x.2) x.1

/-- VCB_FRAME (R637, R638): every 10 µs one frame for each rail: the compute-die rails on their buses, the others on TLM. -/
def execVcbFrame (cd : Option Nat × Option Nat) (tlm : List (Option Nat)) (s : State) : Out :=
  when (s.fum.corePg = true ∧ s.tb.lastVcb + 10000 ≤ s.tb.time)
    (tlm.zipIdx.foldl State.tlmRail
      ((({ s with tb := { s.tb with lastVcb := s.tb.time } } : State).vcbRail 0 cd.1).vcbRail 1 cd.2)) s

/-- VCB_ALERT (R638): the alert pin of a rail is asserted, or released. -/
def execVcbAlert (rail : Nat) (asserted : Bool) (s : State) : Out :=
  when (rail < 2) (
    let s1 : State := { s with tb := { s.tb with railAlert := Tbl.put false rail asserted s.tb.railAlert } }
    if asserted then sinterEvent ((Config.freeWord 0x638).toNat % 1024) 0 s1 else s1) s

/-! The Device Description Table (R351 to R353). -/

/-- A record of 64 bytes. -/
def ddtRecord (typ inst : Nat) (ws : List Nat) : List Byte :=
  (([typ + inst * 65536] ++ ws ++ List.replicate (7 - ws.length) 0).flatMap (toBytes 8))

/-- A table: the header with its CRC-32, then the records. -/
def ddtTable (recs : List (List Byte)) : List Byte :=
  let n := recs.length
  let w0 := n * 2 ^ 48 + 2 ^ 32 + 0x44374B41
  let len := 64 * (n + 1)
  let head (crc : Nat) : List Byte := toBytes 8 w0 ++ toBytes 8 (crc * 2 ^ 32 + len) ++ List.replicate 48 0
  let body := recs.flatten
  head (crcOf ⟨32, 0x04C11DB7, 0xFFFFFFFF, 0xFFFFFFFF, true, true⟩ (head 0 ++ body)) ++ body

/-- IDENTITY (R345, R352, R577). A held PART word gives the AKS-K7-S values. -/
def State.ddtIdentity (s : State) : List Byte :=
  let p := s.fuseValue 17
  let held := s.fuseHeld 17
  let part := if held then 2 else field p 7 0
  let w3 := if held then 1200 + 0x5AA0 * 65536 else field p 31 16 + field p 47 32 * 65536
  ddtRecord 1 0 [s.serialNo,
    part + field p 15 8 * 256 + 0x1ED7 * 65536 + 0x4B07 * 2 ^ 32, w3]

/-- VERSIONS. -/
def State.ddtVersions (s : State) : List Byte :=
  let v := s.versions
  ddtRecord 2 0 [(Config.freeWord 0x354).toNat, s.fld F.FUM_BOOT_STAT_FW_VERSION 0 + s.fld F.FUM_BOOT_STAT_RUNNING 0 * 2 ^ 32,
    v.1 + v.2 * 65536, s.rollback]

/-- BLOCK of block `b`: its page in a virtual function's window, 0xFFFF where it has none. -/
def ddtBlock (b : Nat) : List Byte :=
  ddtRecord 3 b [b * 0x100000 + (if b < 11 then b * 0x1000 else 0xFFFF) * 2 ^ 32, 1]

/-- COUNTS. -/
def ddtCounts : List Byte :=
  let four (a b c d : Nat) : Nat := a + b * 2 ^ 16 + c * 2 ^ 32 + d * 2 ^ 48
  ddtRecord 4 0 [four 16384 16384 4096 8192, four 256 256 4096 128, 1048576 + 16384 * 2 ^ 32 + 8192 * 2 ^ 48,
    four 1024 256 1024 16]

/-- MEMORY. -/
def State.ddtMemory (s : State) : List Byte :=
  ddtRecord 5 0 [768 + s.fld F.MEM_CAP_STAT_INSTALLED_GIB 0 * 2 ^ 16 + s.fld F.MEM_CAP_STAT_POPULATED 0 * 2 ^ 32 +
    s.fld F.MEM_CAP_STAT_PER_CH_GIB 0 * 2 ^ 40, 64 + 2048 * 2 ^ 16]

/-- LINKS. -/
def ddtLinks : List Byte :=
  ddtRecord 6 0 [64 + 16 * 2 ^ 8 + 4 * 2 ^ 16 + 32 * 2 ^ 24 + 4 * 2 ^ 32, 1036 + 12 * 2 ^ 16]

/-- NETWORK; the MAC addresses are not in the manual. -/
def ddtNetwork : List Byte :=
  ddtRecord 7 0 [8 + 25 * 2 ^ 8, (Config.freeWord 0x355).toNat % 2 ^ 48, (Config.freeWord 0x356).toNat % 256]

/-- The table of the physical function. -/
def State.ddtFull (s : State) : List Byte :=
  ddtTable ([s.ddtIdentity, s.ddtVersions] ++ (List.range 15).map ddtBlock ++
    [ddtCounts, s.ddtMemory, ddtLinks, ddtNetwork])

/-- The function description of a virtual function (R353): the IDENTITY, VERSIONS, COUNTS and LINKS records of the table as
firmware wrote it. -/
def State.ddtVf (s : State) : List Byte := ddtTable ([64, 128, 1152, 1280].map (fun x => slice s.hep.ddt x 64))

/-- MEMORY_INIT_DONE (R312, R574, R584 steps 5 and 6, R662, R663): every unit whose domain is not off has woken, trained, and holds zero with fresh ECC; the
channels in `populated` hold RDIMMs of which the smallest has `perChGib` GiB. Firmware publishes the table and confirms its
image. -/
def execMemoryInitDone (populated perChGib : Nat) (s : State) : Out :=
  when (s.fld F.FUM_BOOT_STAT_STAGE 0 = 4 ∧ s.fum.perst = false ∧ populated < 256 ∧ 16 ≤ perChGib ∧ perChGib ≤ 128 ∧
      (List.range 8).all (fun i => !Tbl.has s.fum.waking (10 + i)) = true) (
    let n := sumOf ((List.range 8).map (fun c => ofBit (bit populated c)))
    let s1 := ((s.setFld F.MEM_CAP_STAT_POPULATED 0 populated).setFld F.MEM_CAP_STAT_PER_CH_GIB 0
      (if n = 0 then 0 else perChGib)).setFld F.MEM_CAP_STAT_INSTALLED_GIB 0 (n * perChGib)
    let s2 := ((s1.zeroDev 0 nearEnd).zeroDev capBase (s1.capEnd - capBase)).clearPoison (fun u => decide (u < 20))
    let s3 := (List.range 20).foldl (fun t u =>
      t.setUnit u { t.unit u with lastTrain := t.tb.time, trainTemp := (t.unit u).temp }) s2
    let s4 : State := { s3 with hep := { s3.hep with ddt := s3.ddtFull } }
    (((s4.setFlag F.HEP_DEV_STAT_DDT_READY 0 true).setStage 5).setBootRecord s4.fum.records.preferred false false).dimmsHot) s

/-! Thermal trip, power failure. -/

/-- The events RECORDER_DEGRADED that retirements have left due, posted to the physical function (R612). -/
def State.postNotices (s : State) : State :=
  s.snt.notices.foldl (fun t c => t.postEvent {} 0 0xC001 (BitVec.ofNat 64 c) 0)
    { s with snt := { s.snt with notices := [] } }

/-- THERMTRIP (R62, R592, R604): at 120 °C the pin is asserted, the record set is taken and flushed, every block outside the
island is held in reset. -/
def execThermtrip (tj : Nat) (s : State) : Out :=
  when (120 ≤ tj ∧ s.tb.thermtrip = false ∧ s.fum.powered = true) (
    let s1 := (sinterFlush (sinterTake .thermtrip 0 s.setBytes (sinterRecord 0x307 tj s))).postNotices
    let s2 : State := { s1 with tb := { s1.tb with thermtrip := true } }
    let s3 := s2.outsideReset
    let s4 : State := { s3 with fum := { s3.fum with
      perst := true, perstSince := if s3.fum.perst then s3.fum.perstSince else s3.tb.time } }
    if s4.fwUp then s4.setStage 3 else s4) s

/-- PWRFAIL (R586, R604, R606, R607, R635): an assertion of PWRFAIL# has lasted 1 µs of timebase; a shorter one is no command. -/
def execPwrfail (s : State) : Out :=
  when (s.fum.powered = true) ((sinterFlush (sinterTake .pwrfail 0 s.setBytes s)).postNotices.pulseLine 9) s

/-! The watchdog. -/

/-- A critical command that was RUNNING ends FAILED (R591). -/
def State.failRunning (s : State) : State :=
  match s.sec.mbx with
  | m :: _ =>
    let runs (a : MaintAct) : Bool := s.maintRuns a 0
    if !m.accepted then s
    else
      match mOp m.bytes with
      | 2 => if runs .fwUpdate then (s.maintFinish .fwUpdate 0).critEnd 0x0A [] else s
      | 3 => if runs .keyRotation then (s.maintFinish .keyRotation 0).critEnd 0x0A [] else s
      | 7 =>
        if runs .tenancy then
          (({ s with sec := { s.sec with tenancy := false } } : State).maintFinish .tenancy 0).critEnd 0x0A []
        else s
      | _ => s.critEnd 0x0A []
  | [] => s

/-- WATCHDOG (R35, R240, R590, R591): no KICK for TIMEOUT_MS, or a management core that a double fault stopped. -/
def execWatchdog (s : State) : Out :=
  when (s.fwUp = true ∧ (s.fum.lastKick + s.fld F.FUM_WDT_CTL_TIMEOUT_MS 0 * 1000000 ≤ s.tb.time ∨
      (List.range 4).any (fun k => decide ((s.mcore k).run = .stopped)) = true)) (
    let s1 := (sinterEvent 0x300 0 s).inc F.FUM_RST_STAT_WDT_CNT 0
    let times := s.tb.time :: s.fum.restarts
    let s2 := ({ s1 with fum := { s1.fum with restarts := times, lastKick := s.tb.time } } : State).failRunning
    let recent := times.filter (fun t => decide (s.tb.time < t + 600000000000))
    if 8 ≤ recent.length then s2.stopCores.setStage 7
    else if (s2.fwCheck (s2.fld F.FUM_BOOT_STAT_RUNNING 0)).isNone then s2.stopCores.setStage 6
    else s2.startCores s2.fum.image) s

/-- KICK (R591). -/
def execKick (s : State) : Out :=
  when (s.flag F.FUM_WDT_CTL_KICK 0 = true)
    ({ s.setFlag F.FUM_WDT_CTL_KICK 0 false with
      fum := { (s.setFlag F.FUM_WDT_CTL_KICK 0 false).fum with lastKick := s.tb.time } }) s

/-! Stuck lines. -/

/-- SMBUS_TARGET_TIMEOUT (R56, R595): SCL or SDA is found low. Found low 35 ms of timebase after it was first found so, with no
packet in between, the bus is released; a packet reaches the sideband only whole, so the transaction that is discarded left nothing
behind. -/
def execSmbusTargetTimeout (s : State) : Out :=
  when (s.fum.powered = true) (
    match s.fum.smbLow with
    | none => { s with fum := { s.fum with smbLow := some s.tb.time } }
    | some t => if t + 35000000 ≤ s.tb.time then s.busMoved.inc F.FUM_SMB_STAT_TARGET_TO_CNT 0 else s) s

/-- SENSOR_BUS_STUCK (R586, R596): SDA is found low and nine pulses are sent; `high` says how the line then stands. A line
still low 250 ms after it was first found low fails the bus. -/
def execSensorBusStuck (high : Bool) (s : State) : Out :=
  when (s.flag F.FUM_SMB_STAT_SENSOR_FAILED 0 = false) (
    match s.fum.sdaLow with
    | none =>
      let s1 := s.inc F.FUM_SMB_STAT_RECOVER_CNT 0
      if high then s1 else { s1 with fum := { s1.fum with sdaLow := some s.tb.time } }
    | some t =>
      if high then { s with fum := { s.fum with sdaLow := none } }
      else if t + 250000000 ≤ s.tb.time then
        let s1 := (s.setFlag F.FUM_SMB_STAT_SENSOR_FAILED 0 true).inc F.FUM_SMB_STAT_FAIL_CNT 0
        ((sinterEvent 0x306 0 { s1 with fum := { s1.fum with lastRetry := s.tb.time } }).pulseLine 8).dimmsHot
      else s) s

/-- SENSOR_BUS_RETRY (R586, R596): every 10 s recovery is tried again; SENSOR_FAILED clears once the line is high. -/
def execSensorBusRetry (high : Bool) (s : State) : Out :=
  when (s.flag F.FUM_SMB_STAT_SENSOR_FAILED 0 = true ∧ s.fum.lastRetry + 10000000000 ≤ s.tb.time) (
    let s1 : State := ({ s with fum := { s.fum with lastRetry := s.tb.time } } : State).inc F.FUM_SMB_STAT_RECOVER_CNT 0
    if high then
      ({ s1 with fum := { s1.fum with sdaLow := none } } : State).setFlag F.FUM_SMB_STAT_SENSOR_FAILED 0 false |>.pulseLine 8
    else s1) s

end Sys2Proof.Machine
end

