-- ==== Sys2Proof/Machine/Observe.lean ====
section
/-! DEFINITION. Sinter's periodic record sets and export (R604, R606, R610), the firmware log ring (R617, R618), the vent pins
(R621), JTAG instructions (R597, R622), the SPI table (R520). -/

namespace Sys2Proof.Machine

/-- The last record set stored was taken at this instant (R604). -/
def State.setTaken (s : State) : Bool :=
  s.snt.stored.getLast?.any (fun r => r.time == s.tb.time && r.boot == s.snt.boots)

/-- PERIODIC_SNAPSHOT (R604, R606, R608, R609, R612): a multiple of 600 s since power-on has passed; the record set takes `bytes`
of flash form. A record set of this same instant, of a cause that comes before, is the one that both give. -/
def execPeriodicSnapshot (bytes : Nat) (s : State) : Out :=
  when (bytes ≤ 65536 ∧ s.fum.powered = true ∧ (s.snt.periods + 1) * 600000000000 ≤ s.tb.time) (
    let s1 := if s.setTaken then s else sinterTake .periodic 0 bytes s
    let s2 : State := { s1 with snt := { s1.snt with periods := s1.snt.periods + 1 } }
    (if 8192 ≤ s2.snt.bufBytes then sinterFlush s2 else s2).postNotices) s

/-! Export (R610). -/

/-- The units of the record sets `l` written one after another from address `a`; `n` are written already. The count, and whether
a write failed. -/
def exportUnits (env : Env) (a n : Nat) : List RecordSet → State → Res (State × Nat × Bool)
  | [], s => .ok (s, n, false)
  | r :: t, s =>
    match s.writeFor env 0 a (s.exportUnit r) with
    | (s1, .ok _) => exportUnits env (a + 131136) (n + 1) t s1
    | (s1, .fail _) => .ok (s1, n, true)
    | (_, .wait) => .wait

/-- An export ended (R610). -/
def State.exportEnd (s : State) (written result : Nat) : State :=
  (((s.setFld F.SNT_EXP_RESULT_WRITTEN 0 written).setFld F.SNT_EXP_RESULT_RESULT 0 result).setFlag
    F.SNT_EXP_RESULT_BUSY 0 false).setFlag F.SNT_EXP_RESULT_DONE 0 true

/-- SINTER_EXPORT (R610, R626): GO is accepted and firmware writes the held record sets. -/
def execSinterExport (env : Env) (s : State) : Out :=
  when (s.flag F.SNT_EXP_CMD_GO 0 = true ∧ s.fwUp = true) (
    let a := s.fld F.SNT_EXP_ADDR_ADDR 0 * 4096
    let first := s.fld F.SNT_EXP_CMD_FIRST 0
    let count := s.fld F.SNT_EXP_CMD_COUNT 0
    let s1 := s.setFlag F.SNT_EXP_CMD_GO 0 false
    if s.region a ≠ .host ∨ count = 0 then s1.exportEnd 0 1
    else
      match exportUnits env a 0 (s.snt.stored.filter (fun r => decide (first ≤ r.index ∧ r.index < first + count))) s1 with
      | .ok (s2, n, bad) => s2.exportEnd n (if bad then 2 else 0)
      | .fail _ => s1
      | .wait => s) s

/-! The log ring (R617). -/

/-- Entries of the log ring. -/
def State.logEntries (s : State) : Nat := 256 * 2 ^ s.snt.logSize

/-- An entry dropped. -/
def State.logDrop (s : State) : State := sinterEvent 0x325 0 (s.inc F.SNT_LOG_STAT_DROP_CNT 0)

/-- Bytes of an entry. -/
def State.logBytes (s : State) (sev core : Nat) (trace : Bool) (id : Nat) (arg0 arg1 : Word) : List Byte :=
  [s.tb.time % 2 ^ 64,
    (s.snt.logSeq % 2 ^ 32) * 2 ^ 32 + (sev % 4) * 2 ^ 20 + (core % 4) * 2 ^ 16 + ofBit trace * 2 ^ 15 +
      (if trace then id % 256 else id % 2 ^ 15),
    arg0.toNat, arg1.toNat].flatMap (toBytes 8)

/-- LOG_ENTRY_WRITE (R617, R618): firmware passes an enabled trace point or has a message. -/
def execLogEntryWrite (sev core : Nat) (trace : Bool) (id : Nat) (arg0 arg1 : Word) (env : Env) (s : State) : Out :=
  when (s.flag F.SNT_LOG_CFG_EN 0 = true ∧ s.fwUp = true ∧ sev < 4 ∧ core < 4 ∧
      (trace = true → id < 256 ∧ bit (s.fld (F.SNT_TRACE_EN_EN.at (id / 64)) 0) (id % 64) = true)) (
    let hw := s.fld F.SNT_LOG_IDX_HW_IDX 0
    let next (t : State) : State := { t with snt := { t.snt with logSeq := t.snt.logSeq + 1 } }
    if (hw + 2 ^ 32 - s.fld F.SNT_LOG_IDX_SW_IDX 0) % 2 ^ 32 = s.logEntries ∨ s.region s.snt.logBase ≠ .host then
      next s.logDrop
    else
      match s.writeFor env 0 (s.snt.logBase + 32 * (hw % s.logEntries)) (s.logBytes sev core trace id arg0 arg1) with
      | (s1, .ok _) => next (s1.setFld F.SNT_LOG_IDX_HW_IDX 0 (hw + 1))
      | (s1, .fail _) => next s1.logDrop
      | (_, .wait) => s) s

/-- What EN changing from 0 to 1 does (R617). -/
def State.logChanged (old s : State) : State :=
  if !old.flag F.SNT_LOG_CFG_EN 0 && s.flag F.SNT_LOG_CFG_EN 0 then
    let s1 := (s.setFld F.SNT_LOG_IDX_HW_IDX 0 0).setFld F.SNT_LOG_IDX_SW_IDX 0 0
    { s1 with snt := { s1.snt with
        logBase := s.fld F.SNT_LOG_BASE_BASE 0 * 4096, logSize := s.fld F.SNT_LOG_CFG_SIZE 0, logSeq := 0 } }
  else s

/-- LOG_RING_ENABLE (R617): a write of SNT_LOG_CFG. -/
def execLogRingEnable (who : Requester) (v : Word) (s : State) : Out :=
  when (s.ddtReady = true ∧ isVf who = false) (let s := s.touch who; State.logChanged s (s.writeWhole [F.SNT_LOG_CFG_SIZE, F.SNT_LOG_CFG_EN] v.toNat)) s

/-! The vent pins (R621). -/

/-- VENT_SAMPLE (R619, R621): a sample period has passed; `sample` is the selected group. The strobe is its level after the
sample; in mode 0 its rising edge marks each sample. -/
def execVentSample (sample : Nat) (s : State) : Out :=
  when (s.flag F.VNT_STAT_UNLOCKED 0 = true ∧ s.flag F.VNT_CTL_EN 0 = true ∧
      s.vnt.lastSample + 4 * 2 ^ s.fld F.VNT_CTL_DIV 0 ≤ s.tb.time) (
    let p := sample % 65536
    let m := s.fld F.VNT_MATCH_MASK 0
    { s with vnt := {
        pins := p
        strobe := match s.fld F.VNT_CTL_STROBE 0 with
          | 0 => true
          | 1 => p &&& m == s.fld F.VNT_MATCH_VALUE 0 &&& m
          | _ => false
        lastSample := s.tb.time } }) s

/-! JTAG. -/

/-- A JTAG instruction shifts out its data register. -/
def State.jtagOut (s : State) (o : JtagOut) : State := { s with fum := { s.fum with jtag := o :: s.fum.jtag } }

/-- VSTATUS (R594, R622). -/
def execVstatus (s : State) : Out := when (s.fum.powered = true) (s.jtagOut (.status s.statusAnswer)) s

/-- VSINTER (R601, R622). -/
def execVsinter (code : Nat) (s : State) : Out :=
  when (s.fum.powered = true) (s.jtagOut (.record (recordWords (Tbl.getD s.snt.recs (code % 1024) {})))) s

/-- VGROUP (R622). -/
def execVgroup (g : Nat) (s : State) : Out :=
  when (s.fum.powered = true)
    (if s.flag F.VNT_STAT_UNLOCKED 0 then s.setFld F.VNT_CTL_GROUP 0 g else s.jtagOut .bypass) s

/-- EXTEST (R597). -/
def execExtest (s : State) : Out :=
  when (s.fum.powered = true)
    (if s.fum.perst then { s with fum := { s.fum with extest := true } } else s.jtagOut .bypass) s

/-! The SPI table. -/

/-- A value written to SPI entry `i` that R520 refuses: valid with SPI 0 or with the SPI of another valid entry. -/
def State.spiReserved (s : State) (i v : Nat) : Bool :=
  bit v 63 && (field v 31 0 == 0 || (List.range 4096).any (fun j =>
    j != i && s.flag F.SEC_SPI_RX_EN_OR_VALID j && s.fld F.SEC_SPI_RX_SPI j == field v 31 0))

/-- Entry `i` of the SPI table written with `v`, which resets its window (R520); a reserved encoding changes nothing (R652). -/
def State.spiWrite (s : State) (i v : Nat) : State :=
  if s.spiReserved i v then s
  else
    let s1 := ((s.setFld F.SEC_SPI_RX_EN_OR_VALID i (v / 2 ^ 63)).setFld F.SEC_SPI_RX_SLOT i (field v 57 48)).setFld
      F.SEC_SPI_RX_SPI i (field v 31 0)
    { s1 with sec := { s1.sec with spi := Tbl.del i s1.sec.spi } }

/-- SPI_RX_WRITE (R520): the entry is the one that the requester's selector names. -/
def execSpiRxWrite (who : Requester) (v : Word) (s : State) : Out :=
  when (s.ddtReady = true ∧ isVf who = false) (let s := s.touch who; s.spiWrite (s.fld F.SEC_SPI_SEL_INDEX (reqCode who)) v.toNat) s

end Sys2Proof.Machine
end

