-- ==== Sys2Proof/Machine/RegView.lean ====
section
/-! DEFINITION. What a read of a set-up register returns (R113, R162, R347 to R349, R585, R623, R649, R650): the stored fields, and
the fields that show other state of the K7. -/

namespace Sys2Proof.Machine

/-! Which copy of a register an access reaches. -/

/-- The value of selector bits [lo+w-1:lo] of a requester (R650). -/
def State.selector (s : State) (who : Requester) (sel lo w : Nat) : Nat :=
  match regAt sel with
  | some (d, k) => field (regWord s.regs d k (reqCode who)) (lo + w - 1) lo
  | none => 0

/-- The copy that an access of a requester reaches (R649, R650). -/
def State.instOf (s : State) (who : Requester) : Scope → Nat
  | .device => 0
  | .function => reqFn who
  | .requester => reqCode who
  | .selected sel lo w => s.selector who sel lo w

/-- The BAR0 offset behind offset `off` of a virtual function's set-up window (R348, R649): per-function pages, and
GLB_TIMEBASE. Page 0xF, page 0xE and the per-user page are no registers. -/
def vfOffset (off : Nat) : Option Nat :=
  let k := off / 0x1000
  let x := off % 0x1000
  if k = 0 then (if x / 8 * 8 = 0x200 then some x else none)
  else if k < 11 ∧ x < 0x100 then some (k * 0x100000 + x)
  else none

/-! Fields that show other state. -/

/-- RNG_RING_STATE (R113). -/
def ringView (s : State) (who : Requester) (f : Fld) : Nat :=
  let key := s.selRing who
  let r := s.ring key
  if r.st = .free then (if f = F.RNG_RING_STATE_GEN then r.gen else 0)
  else if r.fn ≠ reqFn who then (if f = F.RNG_RING_STATE_STATE then 4 else 0)
  else if f = F.RNG_RING_STATE_GEN then r.gen
  else if f = F.RNG_RING_STATE_HALT_STATUS then r.haltStatus
  else if f = F.RNG_RING_STATE_PRIO then r.prio
  else if f = F.RNG_RING_STATE_INFLIGHT then s.inflight key
  else if f = F.RNG_RING_STATE_STATE then
    (if s.flag F.HEP_FN_STAT_DRAINING r.fn then 3
     else match r.st with
       | .free => 0
       | .active => 1
       | .halted => 2
       | .draining => 3)
  else 0

/-- RNG_RING_INDEX (R113). -/
def ringIndexView (s : State) (who : Requester) (f : Fld) : Nat :=
  let r := s.ring (s.selRing who)
  if r.st = .free ∨ r.fn ≠ reqFn who then 0
  else if f = F.RNG_RING_INDEX_HW_IDX then r.hw
  else r.sw

/-- STATE of a tile (R162). A domain that waits to switch off is on (R588); one that wakes shows OFF: the manual gives no encoding
for it (DESIGN CHOICE, log 146). -/
def State.tileState (s : State) (t : Nat) : Nat :=
  if !s.domOn (t / 16) then 5
  else
    match (s.tile t).role with
    | none => 0
    | some lead =>
      match Tbl.find? lead s.roles with
      | some r =>
        match r.phase with
        | .loading => 1
        | .stopping => 4
        | .running => if (s.tile t).core.run = .ended then 3 else 2
      | none => 2

/-- A tile whose current or last role another function launched (R162). A tile that no role has held is shown to all. -/
def State.tileHidden (s : State) (who : Requester) (t : Nat) : Bool :=
  (s.tile t).everHeld && s.fld F.CAL_TILE_STAT_FUNC t != reqFn who

/-- The CAL registers. -/
def calView (s : State) (who : Requester) (f : Fld) (inst : Nat) : Nat :=
  if 0x200008 ≤ f.off ∧ f.off < 0x200020 ∧ s.tileHidden who inst then (if f = F.CAL_TILE_STAT_STATE then 6 else 0)
  else if f = F.CAL_TILE_STAT_STATE then s.tileState inst
  else if f = F.CAL_GLB_STAT_HELD then
    sumOf ((List.range 8).map (fun g => ofBit ((List.range 16).any (fun i => (s.tile (16 * g + i)).role.isSome)) * 2 ^ g))
  else if f = F.CAL_GLB_STAT_ON then sumOf ((List.range 8).map (fun g => ofBit (s.domOn g) * 2 ^ g))
  else getF s.regs f inst

/-- The GEY registers. -/
def geyView (s : State) (f : Fld) (inst : Nat) : Nat :=
  if f = F.GEY_FN_STAT_OPS then (s.geyLive.filter (fun o => o.fn == inst)).length
  else if f = F.GEY_GLB_STAT_OPS then s.geyLive.length
  else if f = F.GEY_GLB_STAT_ON then
    ofBit (s.domOn 8) + 2 * ofBit (s.domOn 9)
  else if f = F.GEY_SLICE_STAT_INFLIGHT then s.flyingAt inst
  else getF s.regs f inst

/-- The MEM registers. MEM_MAINT_UNIT reads zero while unit 20 is selected (R657). -/
def memView (s : State) (f : Fld) (inst : Nat) : Nat :=
  if f.off = F.MEM_MAINT_UNIT_SCRUB.off ∧ inst = 20 then 0
  else if f = F.MEM_FN_FENCE_PENDING ∨ f = F.MEM_SEL_FENCE_PENDING then ofBit (s.fencePending inst)
  else if f = F.MEM_SEL_FENCE_EPOCH then s.fld F.MEM_FN_FENCE_EPOCH inst
  else if f = F.MEM_ECC_STAT_POISONED then
    min (s.mem.poison.filter (fun e => e.2 && e.1 / 2 ^ 44 == inst)).length 0xFFFF
  else if f = F.MEM_MAINT_UNIT_REFRESH then s.maintState .refresh inst
  else if f = F.MEM_MAINT_UNIT_RETRAIN then s.maintState .retrain inst
  else if f = F.MEM_MAINT_UNIT_SCRUB then s.maintState .scrub inst
  else if f = F.MEM_MAINT_DEV_FUSE_READ then s.maintState .fuseRead 0
  else if f = F.MEM_MAINT_DEV_TENANCY then s.maintState .tenancy 0
  else if f = F.MEM_MAINT_DEV_KEY_ROTATION then s.maintState .keyRotation 0
  else if f = F.MEM_MAINT_DEV_CHECKPOINT then s.maintState .checkpoint 0
  else if f = F.MEM_MAINT_DEV_FW_UPDATE then s.maintState .fwUpdate 0
  else getF s.regs f inst

/-- The owner that SNT_CRC_CFG shows (R616, R626). -/
def State.crcOwner (s : State) (u : Nat) : Nat := if s.crcCkp u then 2 else if s.crcSto u then 1 else 0

/-- Record sets that the permanent and the circular area hold (R608). -/
def State.setsHeld (s : State) (perm : Bool) : Nat :=
  (s.snt.stored.filter (fun r => r.perm == perm)).length

/-- The SNT registers (R626). -/
def sntView (s : State) (f : Fld) (inst : Nat) : Nat :=
  if f = F.SNT_STAT_SPARES then s.snt.spares
  else if f = F.SNT_STAT_CIRC_CAP then s.snt.circCap
  else if f = F.SNT_STAT_PERM_CLOSED then ofBit s.snt.permClosed
  else if f = F.SNT_STAT_DEGRADED then ofBit s.snt.degraded
  else if f = F.SNT_FLASH_STAT_MAX_ERASE then s.snt.erases.foldl (fun m e => max m e.2) 0
  else if f = F.SNT_FLASH_STAT_RETIRED then s.snt.retired % 65536
  else if f = F.SNT_STAT_CIRC_HELD then s.setsHeld false
  else if f = F.SNT_STAT_PERM_HELD then s.setsHeld true
  else if f = F.SNT_INDEX_BOOTS then s.snt.boots % 2 ^ 32
  else if f = F.SNT_INDEX_NEXT then s.snt.next % 2 ^ 32
  else if f = F.SNT_CODE_DESC_VALID then ofBit (sinterIsValid inst)
  else if f = F.SNT_CODE_DESC_TRIG then ofBit (sinterTrig inst)
  else if f = F.SNT_CODE_DESC_MODE then ofBit (Config.sinterLog2 inst)
  else if f = F.SNT_CODE_DESC_SHIFT then sinterShift inst
  else if f = F.SNT_CODE_DESC_LIMIT_S then sinterLimit inst
  else if f = F.SNT_CODE_DESC_UNIT then sinterUnit inst
  else if f = F.SNT_CRC_CFG_OWNER then s.crcOwner inst
  else if f = F.SNT_CRC_FINAL_FINAL then crcFinal (s.crcModel inst) (s.fld F.SNT_CRC_VALUE_VALUE inst)
  else getF s.regs f inst

/-- The STO, SEC, CKP, FUM and VNT fields that show other state. STO_NS_EXT0 has two layouts, and reads by the one that the loaded
BACKING names (R408, DESIGN CHOICE, log 145). -/
def otherView (s : State) (f : Fld) (k inst : Nat) : Nat :=
  if f = F.STO_LOCK_STAT_USED then s.sto.locks.length
  else if f = F.STO_IRT_STAT_USED then s.sto.irt.length
  else if f = F.STO_CACHE_CTL_ON then ofBit s.cacheOn
  else if f = F.STO_NS_EXT_MID then (if s.fld F.STO_NS_CFG_BACKING 0 = 2 then getF s.regs f inst else 0)
  else if f = F.STO_NS_EXT_START ∧ s.fld F.STO_NS_CFG_BACKING 0 = 2 then setField (getF s.regs f inst) 43 32 0
  else if f = F.SEC_FN_STAT_LOCKED then ofBit s.keyLocked
  else if 0xB00138 ≤ f.off ∧ f.off < 0xB00148 then
    (if f.lo = F.CKP_SLOT_STATE.lo then s.ckSlotState k
     else if f.lo = F.CKP_SLOT_WRITE_NO.lo then s.ckWriteNo k % 2 ^ 24
     else if s.ckSlotState k = 0 then 0 else leAt (s.devRead (s.ckSlotBase k) 64) 0x10 8 % 2 ^ 32)
  else if f = F.FUM_MBX_STAT_STATE then s.mbxState
  else getF s.regs f inst

/-- The value of copy `k` of a field as a read shows it. -/
def State.fieldView (s : State) (who : Requester) (f : Fld) (k inst : Nat) : Nat :=
  if f.off < 0x100000 then getF s.regs f inst
  else if f.off < 0x200000 then
    (if f.off = 0x100038 then ringView s who f
     else if f.off = 0x100040 then ringIndexView s who f
     else if f = F.RNG_FN_STAT_SLOTS then s.fnSlots inst
     else if f = F.RNG_GLB_STAT_PENDING then (s.rng.rings.filter (fun r => r.2.pend)).length
     else if f = F.RNG_GLB_STAT_SLOTS then s.rng.slots.length
     else getF s.regs f inst)
  else if f.off < 0x300000 then calView s who f inst
  else if f.off < 0x400000 then geyView s f inst
  else if f.off < 0x500000 then memView s f inst
  else if 0xD00000 ≤ f.off ∧ f.off < 0xE00000 then sntView s f inst
  else otherView s f k inst

/-- The blocks that answer before DDT_READY (R585): GLB, HEP and FUM. -/
def earlyBlock (off : Nat) : Bool :=
  decide (off < 0x100000 ∨ (0x500000 ≤ off ∧ off < 0x600000) ∨ (0xC00000 ≤ off ∧ off < 0xD00000))

/-- The 64 bits that a read of BAR0 offset `off`, a multiple of 8, returns (R8, R347, R585). -/
def State.regRead (s : State) (who : Requester) (off : Nat) : Nat :=
  match regAt off with
  | none => 0
  | some (d, k) =>
    if s.ddtReady ∨ earlyBlock off then
      let inst := s.instOf who d.scope
      sumOf (d.fields.map (fun f => s.fieldView who (f.at k) k inst <<< f.lo))
    else regWord [] d k (s.instOf who d.scope)

/-- The page table entry of per-user page `p` at byte offset `x` of the page (R511, R543). -/
def State.pageRead (s : State) (p x : Nat) : Nat :=
  let k := (x - 0x100) / 32
  if x < 0x100 ∨ s.fld F.SEC_PAGE_MAP_SLOT_COUNT p ≤ k ∨ !s.flag F.SEC_PAGE_MAP_VALID p then 0
  else
    let n := s.fld F.SEC_PAGE_MAP_SLOT_BASE p + k
    let y := Tbl.getD s.sec.slots n {}
    match x % 32 / 8 with
    | 0 => ofBit y.loaded * 2 ^ 63 + ofBit y.warn * 2 ^ 62 + y.use % 32 * 2 ^ 56 + y.alg % 256 * 2 ^ 48 + n % 1024
    | 1 => y.used % 2 ^ 48
    | 2 => y.limit % 2 ^ 48
    | _ => 0

/-- 64 bits of a function's MSI-X table at byte offset `x` of the table, and of its PBA (R365). -/
def State.msixRead (s : State) (fn x : Nat) : Nat :=
  let y := s.msixEntry fn (x / 16)
  if x % 16 = 0 then y.addr else y.data + ofBit y.masked * 2 ^ 32
def State.pbaRead (s : State) (fn x : Nat) : Nat :=
  sumOf ((List.range 64).map (fun i => ofBit (Tbl.getD s.hep.irq (vecKey fn (x * 8 + i)) {}).pba * 2 ^ i))

/-- The page that a requester sees of an area that holds no registers, as a 64-bit word (R511, R544, R601, R651): mailbox buffer,
live records, per-user pages, MSI-X table and PBA. -/
def State.areaRead (s : State) (who : Requester) (off : Nat) : Nat :=
  if 0xC03000 ≤ off ∧ off < 0xC04000 then
    sumOf ((List.range 8).map (fun i => (Tbl.getD s.sec.mbxBuf (off - 0xC03000 + i) 0).toNat * 2 ^ (8 * i)))
  else if 0xD10000 ≤ off ∧ off < 0xD30000 then
    (recordWords (Tbl.getD s.snt.recs ((off - 0xD10000) / 128) {})).getD ((off - 0xD10000) % 128 / 8) 0
  else if 0xF00000 ≤ off ∧ off < 0x1000000 then s.pageRead ((off - 0xF00000) / 4096) (off % 4096)
  else if 0x580000 ≤ off ∧ off < 0x580000 + 1036 * 16 then s.msixRead (reqFn who) (off - 0x580000)
  else if 0x5C0000 ≤ off ∧ off < 0x5C0000 + 136 then s.pbaRead (reqFn who) (off - 0x5C0000)
  else s.regRead who off

/-! Reads of the windows (R346 to R349, R353). -/

/-- A read of `bytes` bytes at byte offset `off` of a window whose aligned 64-bit units `unit` gives (R347): aligned reads of 64
or 32 bits, and whole aligned units in sequence; every other read returns zero. `high` is what a 32-bit read of the upper half of
GLB_TIMEBASE answers (R51). -/
def windowRead (unit : Nat → Nat) (high off bytes : Nat) : Nat :=
  if bytes = 4 ∧ off % 4 = 0 then
    (if off = 0x204 then high else field (unit (off / 8 * 8)) (8 * (off % 8) + 31) (8 * (off % 8)))
  else if bytes % 8 = 0 ∧ off % 8 = 0 then sumOf ((List.range (bytes / 8)).map (fun i => unit (off + 8 * i) * 2 ^ (64 * i)))
  else 0

/-- A read of BAR0 by the physical function, or of a register by a management core. -/
def State.barRead (s : State) (who : Requester) (off bytes : Nat) : Nat :=
  windowRead (s.areaRead who) (s.timebaseHigh who) off bytes

/-- A byte range of the Device Description Table as the ROM window and page 0xF show it: zero until DDT_READY (R350). -/
def State.ddtBytes (s : State) (l : List Byte) (x n : Nat) : List Byte :=
  (List.range n).map (fun i => if s.ddtReady then l.getD (x + i) 0 else 0)

/-- 64 bits of the set-up window of virtual function `f` at offset `off` (R348, R353, R365, R511). -/
def State.vfUnit (s : State) (f off : Nat) : Nat :=
  if 0xE000 ≤ off ∧ off < 0xE000 + 12 * 16 then s.msixRead f (off - 0xE000)
  else if 0xE800 ≤ off ∧ off < 0xE808 then s.pbaRead f (off - 0xE800)
  else if 0xF000 ≤ off then ofBytes (s.ddtBytes s.ddtVf (off - 0xF000) 8)
  else if 0xA100 ≤ off ∧ off < 0xB000 then
    match (List.range 256).find? (fun p => s.flag F.SEC_PAGE_MAP_VALID p && s.fld F.SEC_PAGE_MAP_FUNC p == f) with
    | some p => s.pageRead p (off - 0xA000)
    | none => 0
  else
    match vfOffset off with
    | some o => s.areaRead (.vf f) o
    | none => 0

/-- A read of the set-up window of virtual function `f`. -/
def State.vfRead (s : State) (f off bytes : Nat) : Nat := windowRead (s.vfUnit f) (s.timebaseHigh (.vf f)) off bytes

/-- Every read of a doorbell window returns zero (R347). -/
def doorbellRead (_off _bytes : Nat) : Nat := 0

/-- A read of the expansion ROM window, of any length and alignment, while Expansion ROM Enable is 1 (R349): option code, then the
Device Description Table. -/
def State.romRead (s : State) (x n : Nat) : Option (List Byte) :=
  if (s.cfg 0).romEnable then
    some ((List.range n).map (fun i =>
      if x + i < 0x80000 then Config.optionRom (x + i)
      else if s.ddtReady then s.hep.ddt.getD (x + i - 0x80000) 0 else 0))
  else none

/-- A write of the expansion ROM window: an Unsupported Request (R349, R360). -/
def State.romWrite (s : State) : State := aerReport 0 4 s

end Sys2Proof.Machine
end

