-- ==== Sys2Proof/Machine/RegAccess.lean ====
section
/-! DEFINITION. Writes to set-up space (R9, R12 to R14, R347 to R349, R585, R616, R619, R625, R649 to R652): the stored fields, the
groups of R652, the areas that hold no registers, and what a write does beyond its fields. -/

namespace Sys2Proof.Machine

/-! Groups of fields that hold a reserved encoding together (R652). -/

/-- RNG_EVT_CQ: EN with CQ_ID naming no ACTIVE completion ring of the function (R113). -/
def evtCqBad (s : State) (fn : Nat) : Bool :=
  let r := s.ring (cqKey (s.fld F.RNG_EVT_CQ_CQ_ID fn))
  s.flag F.RNG_EVT_CQ_EN fn && !(decide (r.st = .active ∧ r.fn = fn ∧ r.typ = .completion))

/-- SEC_PAGE_MAP: a valid page that overlaps another valid page, or names its function (R509). -/
def pageMapBad (s : State) (p : Nat) : Bool :=
  s.flag F.SEC_PAGE_MAP_VALID p && (List.range 256).any (fun q =>
    q != p && s.flag F.SEC_PAGE_MAP_VALID q &&
    (s.fld F.SEC_PAGE_MAP_FUNC q == s.fld F.SEC_PAGE_MAP_FUNC p ||
     overlaps (s.fld F.SEC_PAGE_MAP_SLOT_BASE p) (s.fld F.SEC_PAGE_MAP_SLOT_COUNT p)
       (s.fld F.SEC_PAGE_MAP_SLOT_BASE q) (s.fld F.SEC_PAGE_MAP_SLOT_COUNT q)))

/-- The fields of a register whose validity hangs together, or on other state (R652). -/
def groupAt (off : Nat) : List Fld :=
  if off = 0x100050 then [F.RNG_EVT_CQ_EN, F.RNG_EVT_CQ_CQ_ID]
  else if off = 0x500008 then [F.HEP_CPL_TO_EXACT, F.HEP_CPL_TO_VALUE_US]
  else if off = 0x100110 then [F.RNG_FN_EVT_EVT_BASE, F.RNG_FN_EVT_EVT_COUNT]
  else if off = 0x800100 then [F.RDM_MEM_BASE]
  else if off = 0x900108 then [F.SCH_FN_MAP_SUB_BASE, F.SCH_FN_MAP_SUB_LOG2]
  else if off = 0xA00108 then [F.SEC_LANE_PKG_MIN, F.SEC_LANE_STO_MIN, F.SEC_LANE_TX_MIN, F.SEC_LANE_RX_MIN]
  else if off = 0xA00120 then
    [F.SEC_PAGE_MAP_VALID, F.SEC_PAGE_MAP_FUNC, F.SEC_PAGE_MAP_SLOT_BASE, F.SEC_PAGE_MAP_SLOT_COUNT]
  else if off = 0xB00108 then [F.CKP_CRC_TX_UNIT, F.CKP_CRC_RX_UNIT]
  else if off = 0xD00210 then [F.SNT_CRC_POLY_POLY]
  else if off = 0xD00218 then [F.SNT_CRC_INIT_INIT]
  else if off = 0xD00220 then [F.SNT_CRC_XOR_XOR]
  else []

/-- Whether the fields of a group hold a reserved encoding together. -/
def State.groupBad (s : State) (off inst : Nat) : Bool :=
  if off = 0x100050 then evtCqBad s inst
  else if off = 0x500008 then
    s.flag F.HEP_CPL_TO_EXACT inst && !decide (50 ≤ s.fld F.HEP_CPL_TO_VALUE_US inst ∧ s.fld F.HEP_CPL_TO_VALUE_US inst ≤ 4000000)
  else if off = 0x100110 then decide (8192 < s.fld F.RNG_FN_EVT_EVT_BASE inst + s.fld F.RNG_FN_EVT_EVT_COUNT inst)
  else if off = 0x800100 then
    decide (s.region (s.fld F.RDM_MEM_BASE 0 * 2 ^ 30) ≠ .near ∧ s.region (s.fld F.RDM_MEM_BASE 0 * 2 ^ 30) ≠ .cap)
  else if off = 0x900108 then decide (4096 < s.fld F.SCH_FN_MAP_SUB_BASE inst + 2 ^ s.fld F.SCH_FN_MAP_SUB_LOG2 inst)
  else if off = 0xA00108 then
    decide (192 < s.fld F.SEC_LANE_PKG_MIN 0 + s.fld F.SEC_LANE_STO_MIN 0 + s.fld F.SEC_LANE_TX_MIN 0 + s.fld F.SEC_LANE_RX_MIN 0)
  else if off = 0xA00120 then pageMapBad s inst
  else if off = 0xB00108 then decide (s.fld F.CKP_CRC_TX_UNIT 0 = s.fld F.CKP_CRC_RX_UNIT 0)
  else if off = 0xD00210 then decide (2 ^ s.fld F.SNT_CRC_CFG_WIDTH inst ≤ s.fld F.SNT_CRC_POLY_POLY inst)
  else if off = 0xD00218 then decide (2 ^ s.fld F.SNT_CRC_CFG_WIDTH inst ≤ s.fld F.SNT_CRC_INIT_INIT inst)
  else if off = 0xD00220 then decide (2 ^ s.fld F.SNT_CRC_CFG_WIDTH inst ≤ s.fld F.SNT_CRC_XOR_XOR inst)
  else false

/-- Whether a write of bits [lo+n-1:lo] of `v` offers a field a value that its own range does not hold (R9). -/
def State.offersBad (s : State) (inst lo n v : Nat) (f : Fld) : Bool :=
  decide (f.lo < lo + n ∧ lo < f.lo + f.width) &&
  !f.valid (setField (s.fld f inst) (min (lo + n) (f.lo + f.width) - 1 - f.lo) (max lo f.lo - f.lo)
    (field v (min (lo + n) (f.lo + f.width) - 1) (max lo f.lo)))

/-- The fields that a write leaves at their previous values because their group would hold a reserved encoding (R652): by the new
values together, in `t`, or by a value that a field of the group never takes. -/
def State.badGroup (s t : State) (off inst lo n v : Nat) : List Fld :=
  let g := groupAt off
  if t.groupBad off inst || g.any (s.offersBad inst lo n v) then g else []

/-- Fields back at their values in `old`. -/
def State.keepOld (old s : State) (fs : List Fld) (inst : Nat) : State :=
  fs.foldl (fun t f => t.setFld f inst (old.fld f inst)) s

/-! Writes that the K7 ignores. -/

/-- The controller of a CRC unit that an engine owns, the vent registers while debug is locked, RDM_MEM in use, the counters of a
tile that the requester does not see, everything outside the island while it is held in reset, and before DDT_READY every block
but GLB, HEP and FUM (R162, R486, R585, R590, R616, R619). -/
def State.writeIgnored (s : State) (who : Requester) (off inst : Nat) : Bool :=
  (!s.ddtReady && !earlyBlock off) ||
  (s.fum.perst && !islandReg off) ||
  (decide (0xD00208 ≤ off ∧ off < 0xD00228) && !s.crcHost inst) ||
  ((off == 0xE00008 || off == 0xE00010) && !s.flag F.VNT_STAT_UNLOCKED 0) ||
  (off == 0x800100 && !(s.rdm.qps.isEmpty && s.rdm.regions.isEmpty && s.rdm.peers.isEmpty && s.rdm.groups.isEmpty)) ||
  (off == 0x200018 && s.tileHidden who inst)

/-! What a write does beyond its fields. -/

/-- The registers whose write has an effect of its own, after the fields are stored; `old` is the state before. -/
def State.afterWrite (old s : State) (off inst : Nat) : State :=
  if off = 0x100 then State.paceCtlChanged old s
  else if off = 0x400600 then State.bandModeWritten old s 0
  else if off = 0x400608 then State.bandModeWritten old s 1
  else if off = 0x500108 then
    (if old.flag F.HEP_FN_CTL_STORAGE inst ∧ !s.flag F.HEP_FN_CTL_STORAGE inst ∧ (s.ctrl inst).en then s.ctrlDisable inst else s)
  else if off = 0x500308 then s.dpCtlChanged inst
  else if 0x500400 ≤ off ∧ off < 0x500488 then State.intxCleared old s
  else if off = 0x600200 then State.cacheCtlChanged old s
  else if off = 0x700100 then State.portModeChanged old s
  else if off = 0x700300 then s.flowMemChanged
  else if off = 0x800108 then State.discChanged old s
  else if off = 0xC00200 then s.domainReq
  else if off = 0xD00308 then State.logChanged old s
  else s

/-- Bits [lo+n-1:lo] of the register at BAR0 offset `off`, a multiple of 8, written with those bits of `v`. -/
def State.regPut (s : State) (who : Requester) (off lo n v : Nat) : State :=
  match regAt off with
  | none => s
  | some (d, k) =>
    let inst := s.instOf who d.scope
    if s.writeIgnored who off inst then s
    else if (0x400200 ≤ off ∧ off < 0x400300) ∨ (0x400400 ≤ off ∧ off < 0x400600) then s.windowWrite who off lo n v
    else if off = 0x400108 then s.xltBase who lo n v
    else if off = 0x100040 then
      (if lo < 32 then
        s.indexWrite who (setField (s.ring (s.selRing who)).sw (Nat.min (lo + n) 32 - 1) lo (field v (Nat.min (lo + n) 32 - 1) lo))
       else s.indexMiss who)
    else if off = 0xD00310 then
      (if lo < 32 then
        s.setFld F.SNT_LOG_IDX_SW_IDX 0 (setField (s.fld F.SNT_LOG_IDX_SW_IDX 0) (Nat.min (lo + n) 32 - 1) lo
          (field v (Nat.min (lo + n) 32 - 1) lo))
       else s)
    else if off = 0xA00140 then
      s.spiWrite inst (setField (regWord s.regs d k inst) (lo + n - 1) lo (field v (lo + n - 1) lo))
    else
      let t : State := { s with regs := writeFields d.fields k inst lo n v s.regs }
      State.afterWrite s (State.keepOld s t (s.badGroup t off inst lo n v) inst) off inst

/-! Areas that hold no registers (R651). -/

/-- An MSI-X table entry of function `fn` written: bits [lo+n-1:lo] of its 128 (R365, R367, R368). -/
def State.msixWrite (s : State) (fn vec lo n v : Nat) : State :=
  if vec < vecCount fn then
    let e := s.msixEntry fn vec
    let w := setField (e.addr + e.data * 2 ^ 64 + ofBit e.masked * 2 ^ 96) (lo + n - 1) lo (v % 2 ^ n)
    let e1 : MsixEntry := ⟨field w 63 0, field w 95 64, bit w 96⟩
    ({ s with hep := { s.hep with msix := Tbl.put {} (vecKey fn vec) e1 s.hep.msix } } : State).flushIrq fn
  else s

/-- A write of ones to the WARN bit of slot record `k` of page `p` (R511, R543). -/
def State.warnClear (s : State) (p k : Nat) : State :=
  if s.flag F.SEC_PAGE_MAP_VALID p ∧ k < s.fld F.SEC_PAGE_MAP_SLOT_COUNT p then
    let n := s.fld F.SEC_PAGE_MAP_SLOT_BASE p + k
    { s with sec := { s.sec with slots := Tbl.modify n (fun y => { y with warn := false }) s.sec.slots } }
  else s

/-- A write to byte offset `x` of per-user page `p`: `n` bits of `v`. -/
def State.pageWrite (s : State) (p x n v : Nat) : State :=
  let sh := 8 * (x % 8)
  if 0x100 ≤ x ∧ x % 32 < 8 ∧ bit ((v % 2 ^ n) <<< sh) 62 then s.warnClear p ((x - 0x100) / 32) else s

/-- A write of `bytes` bytes of `v` at BAR0 offset `off` by the physical function or a management core. -/
def State.barWrite (s : State) (who : Requester) (off bytes v : Nat) : State :=
  let ready := s.ddtReady
  if 0xC03000 ≤ off ∧ off < 0xC04000 then s.mbxWrite (off - 0xC03000) (toBytes bytes v)
  else if 0xF00000 ≤ off ∧ off < 0x1000000 then
    (if ready then s.pageWrite ((off - 0xF00000) / 4096) (off % 4096) (8 * bytes) v else s)
  else if 0x580000 ≤ off ∧ off < 0x580000 + 1036 * 16 then
    (if s.fum.perst then s
     else s.msixWrite (reqFn who) ((off - 0x580000) / 16) (8 * (off % 16)) (8 * bytes) v)
  else s.regPut who (off / 8 * 8) (8 * (off % 8)) (8 * bytes) ((v % 2 ^ (8 * bytes)) <<< (8 * (off % 8)))

/-- Reservations of management cores on a set-up register end when another requester writes it (R231, R586: registers stand in
management space from 0x10_0000_0000). -/
def State.regWritten (s : State) (off bytes : Nat) : State := s.endRsv 2 (0x1000000000 + off) (0x1000000000 + off + bytes)

/-- A write at offset `off` of the set-up window of virtual function `f`. -/
def State.vfWrite (s : State) (f off bytes v : Nat) : State :=
  if 0xE000 ≤ off ∧ off < 0xE000 + 12 * 16 then s.msixWrite f ((off - 0xE000) / 16) (8 * (off % 16)) (8 * bytes) v
  else if 0xA100 ≤ off ∧ off < 0xB000 then
    match (List.range 256).find? (fun p => s.flag F.SEC_PAGE_MAP_VALID p && s.fld F.SEC_PAGE_MAP_FUNC p == f) with
    | some p =>
      if s.ddtReady then (s.pageWrite p (off - 0xA000) (8 * bytes) v).regWritten (0xF00000 + 4096 * p + (off - 0xA000)) bytes
      else s
    | none => s
  else
    match vfOffset off with
    | some o =>
      (s.regPut (.vf f) (o / 8 * 8) (8 * (o % 8)) (8 * bytes) ((v % 2 ^ (8 * bytes)) <<< (8 * (o % 8)))).regWritten o bytes
    | none => s

/-- Whether R347 gives an access of `bytes` bytes an effect: aligned accesses of 8 or 4 bytes; a window access of a management
core moves one 16-bit word (R199, R586). -/
def accessOk (who : Requester) (off bytes : Nat) : Bool :=
  (bytes == 8 || bytes == 4 || (match who with | .core _ => bytes == 2 | _ => false)) && off % bytes == 0

/-- Whether a write lies outside BAR0 of its function, or the function is not enabled: an Unsupported Request (R346, R360). -/
def State.outsideBar (s : State) (who : Requester) (off bytes : Nat) : Bool :=
  match who with
  | .core _ => false
  | w => !s.fnExists (reqFn w) || decide ((barSizes (reqFn w)).1 < off + bytes)

/-- REGISTER_WRITE (R9, R12 to R14, R347, R348, R360, R585, R625, R649, R650, R652): a write to BAR0, or to a virtual function's
set-up window, of `bytes` bytes at offset `off`. -/
def execRegisterWrite (who : Requester) (off bytes : Nat) (v : Word) (s : State) : Out :=
  .next (
    let s := s.touch who
    if s.fum.powered = false then s
    else if s.outsideBar who off bytes then aerReport (reqFn who % 256) 4 s
    else if accessOk who off bytes = false then s
    else
      match who with
      | .vf f => if 1 ≤ f then s.vfWrite f off bytes v.toNat else s
      | _ => (s.barWrite who off bytes v.toNat).regWritten off bytes)

end Sys2Proof.Machine
end

