-- ==== Sys2Proof/Machine/TaskoCore.lean ====
section
/-! DEFINITION. Tasko instruction words (R241, R242, R264), the operand stack (R206 to R208), windows (R199 to R203, R586), exceptions
(R233, R239, R240), awaited values and branches (R212, R218 to R221). -/

namespace Sys2Proof.Machine

/-! Instruction words. -/

/-- The Tasko operations (R264). TAS, LDR and STC have a data-space form and a window form. -/
inductive TOp where
  | endTile | fault | sync | ret | jmps | calls | nop | ei | di | reti | waiti | issue | issuex | pushi | pushi2 | jmpl | calll
  | movw | fillw | cmpw | scanw | packw | dup | drop | swap | copyOver | rot | nip | pick
  | add | sub | addc | subb | mul | mulh | and | or | xor | not | neg | shl | shr | sar
  | ceq | cne | cltu | cleu | clts | cles | cz | pushg | popg | incg | decg | bzl | bnzl | bz | bnz | jmp | call | pushs
  | ld | st | tas | ldr | stc | ldx | stx | setw | mfs | mts | waitu
deriving DecidableEq, Repr

/-- The fields of an instruction word: general register, window, special register or tag number, window form, sign-extended
displacement or immediate, number of extension words. -/
structure TWord where
  op : TOp
  g : Nat := 0
  w : Nat := 0
  win : Bool := false
  imm : Half := 0
  ext : Nat := 0
deriving DecidableEq, Repr

/-- The no-operand group: bits [11:0], operation, extension words. -/
def group0 : List (Nat × TOp × Nat) := [
  (0x001, .endTile, 0), (0x002, .fault, 0), (0x003, .sync, 0), (0x004, .ret, 0), (0x005, .jmps, 0), (0x006, .calls, 0),
  (0x007, .nop, 0), (0x008, .ei, 0), (0x009, .di, 0), (0x00A, .reti, 0), (0x00B, .waiti, 0), (0x010, .issue, 0),
  (0x011, .issuex, 2), (0x012, .pushi, 1), (0x013, .pushi2, 2), (0x014, .jmpl, 1), (0x015, .calll, 1),
  (0x020, .movw, 0), (0x021, .fillw, 0), (0x022, .cmpw, 0), (0x023, .scanw, 0), (0x024, .packw, 0),
  (0x040, .dup, 0), (0x041, .drop, 0), (0x042, .swap, 0), (0x043, .copyOver, 0), (0x044, .rot, 0), (0x045, .nip, 0),
  (0x046, .pick, 0), (0x060, .add, 0), (0x061, .sub, 0), (0x062, .addc, 0), (0x063, .subb, 0), (0x064, .mul, 0),
  (0x065, .mulh, 0), (0x066, .and, 0), (0x067, .or, 0), (0x068, .xor, 0), (0x069, .not, 0), (0x06A, .neg, 0),
  (0x06B, .shl, 0), (0x06C, .shr, 0), (0x06D, .sar, 0)]

/-- The register group: bits [11:4], operation, extension words. -/
def group1 : List (Nat × TOp × Nat) := [
  (0x00, .ceq, 0), (0x01, .cne, 0), (0x02, .cltu, 0), (0x03, .cleu, 0), (0x04, .clts, 0), (0x05, .cles, 0), (0x06, .cz, 0),
  (0x10, .pushg, 0), (0x11, .popg, 0), (0x12, .incg, 0), (0x13, .decg, 0), (0x20, .bzl, 1), (0x21, .bnzl, 1)]

/-- The memory group: bits [11:8], operation, whether the g field and the w field are used, window form. -/
def group7 : List (Nat × TOp × Bool × Bool × Bool) := [
  (0x0, .ld, false, false, false), (0x1, .st, false, false, false), (0x2, .tas, true, false, false),
  (0x3, .ldr, false, false, false), (0x4, .stc, true, false, false), (0x8, .ldx, false, true, true),
  (0x9, .stx, false, true, true), (0xA, .tas, true, true, true), (0xB, .ldr, false, true, true),
  (0xC, .stc, true, true, true), (0xD, .setw, false, true, true)]

/-- A number of `w` bits sign-extended to 16. -/
def sext (w n : Nat) : Half := BitVec.ofInt 16 (signed w n)

/-- An instruction word decoded (R241, R264); none where it is undefined. -/
def tdecode (x : Nat) : Option TWord :=
  let g := field x 11 8
  match x / 4096 with
  | 0x0 => (group0.find? (fun e => e.1 == field x 11 0)).map (fun e => { op := e.2.1, ext := e.2.2 })
  | 0x1 => (group1.find? (fun e => e.1 == field x 11 4)).map (fun e => { op := e.2.1, ext := e.2.2, g := field x 3 0 })
  | 0x2 => some { op := .bz, g := g, imm := sext 8 (field x 7 0) }
  | 0x3 => some { op := .bnz, g := g, imm := sext 8 (field x 7 0) }
  | 0x4 => some { op := .jmp, imm := sext 12 (field x 11 0) }
  | 0x5 => some { op := .call, imm := sext 12 (field x 11 0) }
  | 0x6 => some { op := .pushs, imm := sext 12 (field x 11 0) }
  | 0x7 =>
    match group7.find? (fun e => e.1 == g) with
    | some (_, op, ug, uw, win) =>
      if (!ug && field x 7 4 != 0) || (!uw && field x 3 0 != 0) then none
      else some { op := op, g := field x 7 4, w := field x 3 0, win := win }
    | none => none
  | 0x8 =>
    if field x 10 7 ≠ 0 then none else some { op := if bit x 11 then .mts else .mfs, w := field x 6 0 }
  | 0xA => if field x 5 4 ≠ 0 then none else some { op := .waitu, w := field x 11 6, g := field x 3 0 }
  | _ => none

/-- Extension words that follow an operation's word (R241, R264). -/
def TOp.exts : TOp → Nat
  | .pushi | .jmpl | .calll | .bzl | .bnzl => 1
  | .pushi2 | .issuex => 2
  | _ => 0

/-- Operations whose word names a general register (R241, R264). -/
def TOp.usesG : TOp → Bool
  | .ceq | .cne | .cltu | .cleu | .clts | .cles | .cz | .pushg | .popg | .incg | .decg | .bzl | .bnzl
  | .bz | .bnz | .tas | .stc | .waitu => true
  | _ => false

/-- Greatest number in the window, special register or tag field of an operation's form (R241, R264). -/
def TOp.maxW (win : Bool) : TOp → Nat
  | .mfs | .mts => 127
  | .waitu => 63
  | _ => if win then 15 else 0

/-- Whether an operation has the form: a window form, or another (R255, R264). -/
def TOp.hasForm (win : Bool) : TOp → Bool
  | .tas | .ldr | .stc => true
  | .ldx | .stx | .setw => win
  | _ => !win

/-- Bits of the signed displacement or immediate in an operation's word (R241, R264). -/
def TOp.immBits : TOp → Nat
  | .bz | .bnz => 8
  | .jmp | .call | .pushs => 12
  | _ => 0

/-- A well-formed instruction: every field that its operation uses within its range, every other zero. -/
def TWord.wf (i : TWord) : Bool :=
  decide (i.ext = i.op.exts ∧ i.g ≤ (if i.op.usesG then 15 else 0) ∧ i.w ≤ i.op.maxW i.win) && i.op.hasForm i.win &&
  (if i.op.immBits = 0 then i.imm == 0
   else decide (-(2 ^ (i.op.immBits - 1) : Int) ≤ i.imm.toInt ∧ i.imm.toInt < 2 ^ (i.op.immBits - 1)))

/-- The word of an instruction (R241, R264). -/
def tencode (i : TWord) : Nat :=
  match i.op with
  | .bz => 0x2000 + 256 * i.g + i.imm.toNat % 256
  | .bnz => 0x3000 + 256 * i.g + i.imm.toNat % 256
  | .jmp => 0x4000 + i.imm.toNat % 4096
  | .call => 0x5000 + i.imm.toNat % 4096
  | .pushs => 0x6000 + i.imm.toNat % 4096
  | .mfs => 0x8000 + i.w
  | .mts => 0x8800 + i.w
  | .waitu => 0xA000 + 64 * i.w + i.g
  | op =>
    match group0.find? (fun e => e.2.1 == op), group1.find? (fun e => e.2.1 == op),
      group7.find? (fun e => e.2.1 == op && e.2.2.2.2 == i.win) with
    | some e, _, _ => e.1
    | none, some e, _ => 0x1000 + 16 * e.1 + i.g
    | none, none, some e => 0x7000 + 256 * e.1 + 16 * i.g + i.w
    | none, none, none => 0

/-- An instruction at its address: the word, its extension words, its own address and the next instruction's, the core. -/
structure TDec where
  i : TWord
  e1 : Half
  e2 : Half
  pc : Half
  next : Half
  /-- 0 to 127: the sequencer of a tile; 128 to 131: a management core -/
  core : Nat
deriving DecidableEq, Repr

/-- Whether the core is a management core. -/
def TDec.mg (d : TDec) : Bool := decide (128 ≤ d.core)

/-- How an instruction goes: its effect, an exception with its fault code, or a wait. -/
inductive TR (α : Type) where
  | ok (a : α)
  | exc (code : Nat)
  | wait
deriving DecidableEq, Repr

def TR.bind {α β : Type} (x : TR α) (f : α → TR β) : TR β :=
  match x with
  | .ok a => f a
  | .exc c => .exc c
  | .wait => .wait

/-! Data space and stack. -/

/-- A word of program space (R241, R572). -/
def Core.progAt (c : Core) (a : Half) : Half :=
  match Tbl.find? a.toNat c.prog, c.img with
  | some v, _ => v
  | none, some i => Config.imageHalf i c.num 0 a.toNat
  | none, none => 0

/-- A word of data space. -/
def Core.dataAt (c : Core) (a : Half) : Half :=
  match Tbl.find? a.toNat c.data, c.img with
  | some v, _ => v
  | none, some i => Config.imageHalf i c.num 1 a.toNat
  | none, none => 0

/-- The number of a data-space block, as reservations name it: memory 1 (R229). -/
def dataBlock (a : Half) : Nat := a.toNat / 32

/-- Whether the core is on a speculative path (R219). -/
def Core.spec (c : Core) : Bool := !c.specs.isEmpty

/-- A word written into data space; a reservation of its block ends (R229, R231), for a held store once it is no longer
speculative (R219). -/
def Core.putData (c : Core) (a v : Half) : Core :=
  { c with
    data := if c.img.isSome then Tbl.set a.toNat v c.data else Tbl.put 0 a.toNat v c.data
    rsv := if c.rsv = some (1, dataBlock a) ∧ c.spec = false then none else c.rsv }

/-- A general register, and one written. -/
def Core.greg (c : Core) (g : Nat) : TVal := Tbl.getD c.gregs g (.known 0)
def Core.setG (c : Core) (g : Nat) (v : TVal) : Core := { c with gregs := Tbl.put (.known 0) g v c.gregs }

/-- Entries of the stack, hardware and spilled (R208). -/
def Core.depth (c : Core) : Nat := c.stack.length + (c.sb - c.sp).toNat

/-- The values of entries that are all known. -/
def knownAll : List TVal → Option (List Half)
  | [] => some []
  | .known v :: t => (knownAll t).map (fun l => v :: l)
  | .await _ :: _ => none

/-- Entries popped, awaited ones among them (R208). -/
def Core.take (c : Core) (n : Nat) {α : Type} (k : List TVal → Core → TR α) : TR α :=
  if c.depth < n then .exc TF.STACK_LIMIT else k (c.stack.take n) { c with stack := c.stack.drop n }

/-- Entries popped whose values are read: the first value is s0's (R208, R212). -/
def Core.pop (c : Core) (n : Nat) {α : Type} (k : List Half → Core → TR α) : TR α :=
  c.take n (fun l c1 =>
    match knownAll l with
    | some vs => k vs c1
    | none => .wait)

/-- An entry pushed, with the spill that it needs (R206); speculative pushes wait for a spill (R219). -/
def Core.push (c : Core) (v : TVal) : TR Core :=
  if c.stack.length < 16 then .ok { c with stack := v :: c.stack }
  else if c.spec then .wait
  else if c.sp.toNat ≤ c.sl.toNat then .exc TF.STACK_LIMIT
  else
    match c.stack.getLast? with
    | some (.known b) =>
      let c1 := c.putData (c.sp - 1) b
      .ok { c1 with sp := c.sp - 1, stack := v :: c.stack.dropLast }
    | _ => .wait

/-- Entries pushed, the first of the list first. -/
def Core.pushAll (c : Core) : List TVal → TR Core
  | [] => .ok c
  | v :: t => (c.push v).bind (fun c1 => c1.pushAll t)

/-- The refill of R207, up to `n` entries. -/
def Core.refill : Nat → Core → Core
  | 0, c => c
  | n + 1, c =>
    if c.stack.length < 16 ∧ c.sp ≠ c.sb then
      Core.refill n { c with stack := c.stack ++ [.known (c.dataAt c.sp)], sp := c.sp + 1 }
    else c

/-- An instruction ends: the stack is refilled and the core goes on at `pc` (R207); speculative instructions wait for a
refill (R219). -/
def Core.finish (c : Core) (pc : Half) : TR Core :=
  if c.stack.length < 16 ∧ c.sp ≠ c.sb then (if c.spec then .wait else .ok { Core.refill 16 c with pc := pc })
  else .ok { c with pc := pc }

/-- An instruction that never executes speculatively (R219). -/
def Core.nonSpec (c : Core) {α : Type} (x : TR α) : TR α := if c.spec then .wait else x

/-! Cores of the state. -/

def State.tcore (s : State) (n : Nat) : Core := if n < 128 then (s.tile n).core else s.mcore (n - 128)
def State.setTcore (s : State) (n : Nat) (c : Core) : State :=
  if n < 128 then s.setTile n { s.tile n with core := c } else s.setMcore (n - 128) c

/-- Lines of a core that are pending and enabled (R238). -/
def Core.lines (c : Core) : Nat := c.ipend &&& c.ien

/-- A management core takes an interrupt at this boundary before anything else (R238, R250); a window access that waits for memory
is in progress and completes first. -/
def State.intDue (s : State) (n : Nat) : Bool :=
  decide (128 ≤ n) && (s.tcore n).gie && (s.tcore n).lines != 0 && !(s.tcore n).loading

/-- Whether an instruction may execute while a WAITU waits (R212, R216): a conditional branch on the register that WAITU writes,
and every instruction after it, which is speculative (R219). -/
def Core.passesWaitu (c : Core) (i : TWord) : Bool :=
  match c.waitu with
  | none => true
  | some (_, id) =>
    c.spec || ((i.op == .bz || i.op == .bnz || i.op == .bzl || i.op == .bnzl) && decide (c.greg i.g = .await id))

/-- The instruction that a core executes next; none where it executes none, `some none` where it fetches an undefined word
(R198, R241, R242). -/
def State.tfetch (s : State) (n : Nat) : Option (Option TDec) :=
  let c := s.tcore n
  if 132 ≤ n ∨ c.run ≠ .running ∨ c.heldExc.isSome ∨ s.intDue n then none
  else
    let beyond (a : Half) : Bool := decide (n < 128 ∧ c.words ≤ a.toNat)
    let undefined : Option (Option TDec) := if c.waitu.isSome && !c.spec then none else some none
    if beyond c.pc then undefined
    else
      match tdecode (c.progAt c.pc).toNat with
      | none => undefined
      | some i =>
        if !c.passesWaitu i then none
        else if (1 ≤ i.ext ∧ beyond (c.pc + 1)) ∨ (2 ≤ i.ext ∧ beyond (c.pc + 2)) then undefined
        else some (some ⟨i, c.progAt (c.pc + 1), c.progAt (c.pc + 2), c.pc, c.pc + 1 + BitVec.ofNat 16 i.ext, n⟩)

/-! Exceptions. -/

/-- Entry into a handler of a management core (R239): `ret` is the return address, `v` the vector and cause. -/
def Core.enter (c : Core) (ret : Half) (v : Nat) : Core :=
  { c with
    epc := ret, ecause := BitVec.ofNat 16 v, pgie := c.gie, gie := false, rsv := none, waiting := false, loading := false
    pc := c.ivb + BitVec.ofNat 16 (8 * v) }

/-- An exception of a core (R219, R233, R234, R239, R240). -/
def State.texc (s : State) (n code : Nat) (pc next : Half) : State :=
  let c := s.tcore n
  if n < 128 then
    (if c.spec then s.setTcore n { c with heldExc := some (code, pc) } else s.raiseFault n ⟨code, pc, 0, 0, some s.fresh⟩)
  else if c.gie then s.setTcore n (c.enter (if code = TF.PROGRAM_FAULT then next else pc) code)
  else s.setTcore n { c with run := .stopped }

/-- An effect on the state: the next state, an exception over a state, or a wait. -/
inductive TX (α : Type) where
  | ok (t : State) (a : α)
  | exc (t : State) (code : Nat)
  | wait
deriving DecidableEq, Repr

/-- An instruction of operation `op` and form `win` at a core; at any other the command has no effect. -/
def State.taskoX (s : State) (n : Nat) (op : TOp) (f : TDec → Core → TX Unit) : Out :=
  .next (
    match s.tfetch n with
    | some (some d) =>
      if d.i.op = op then
        match f d (s.tcore n) with
        | .ok t _ => t
        | .exc t code => t.texc n code d.pc d.next
        | .wait => s
      else s
    | _ => s)

/-- An effect on the core alone as an effect on the state. -/
def TR.on (s : State) (n : Nat) (r : TR Core) : TX Unit :=
  match r with
  | .ok c => .ok (s.setTcore n c) ()
  | .exc code => .exc s code
  | .wait => .wait

/-- An instruction that acts on its core alone. -/
def State.tasko (s : State) (n : Nat) (op : TOp) (f : TDec → Core → TR Core) : Out :=
  s.taskoX n op (fun d c => TR.on s n (f d c))

/-! Awaited values. -/

/-- An awaited value replaced. -/
def TVal.fill (id : Nat) (v : Half) (t : TVal) : TVal := if t = .await id then .known v else t

/-- An awaited value replaced wherever a core holds it, also in the states that a squash restores. -/
def Core.fillIn (id : Nat) (v : Half) (c : Core) : Core :=
  let st (l : List TVal) : List TVal := l.map (TVal.fill id v)
  let gr (t : Tbl TVal) : Tbl TVal :=
    (t.map (fun (e : Nat × TVal) => (e.1, TVal.fill id v e.2))).filter (fun (e : Nat × TVal) => !decide (e.2 = .known 0))
  { c with
    stack := st c.stack
    gregs := gr c.gregs
    cmps := c.cmps.map (fun m => { m with left := TVal.fill id v m.left, right := TVal.fill id v m.right })
    specs := c.specs.map (fun p => { p with stack := st p.stack, gregs := gr p.gregs }) }

/-- The comparisons of R254: b against a. -/
def CmpOp.holds : CmpOp → Half → Half → Bool
  | .eq, b, a => b == a
  | .ne, b, a => b != a
  | .ltu, b, a => decide (b.toNat < a.toNat)
  | .leu, b, a => decide (b.toNat ≤ a.toNat)
  | .lts, b, a => decide (b.toInt < a.toInt)
  | .les, b, a => decide (b.toInt ≤ a.toInt)
  | .isZero, _, a => a == 0

/-- What a comparison writes. -/
def CmpOp.result (o : CmpOp) (b a : Half) : Half := if o.holds b a then 1 else 0

/-- The result of a comparison with both operands known. -/
def CmpRec.value (m : CmpRec) : Option Half :=
  match m.left, m.right with
  | .known b, .known a => some (m.op.result b a)
  | _, _ => none

/-- Unresolved branch `i` resolved as predicted (R220): commands issued after it come nearer to their commit token; its
held stores join those of the branch before, and where there is none they are made: a reservation of a block that they write
ends (R231). -/
def Tile.confirm (i : Nat) (x : Tile) : Tile :=
  let held := ((x.core.specs[i]?).map (fun p => p.stores)).getD []
  let before := (x.core.specs.take i).mapIdx (fun j p => if j + 1 = i then { p with stores := p.stores ++ held } else p)
  { x with
    core := { x.core with
      specs := before ++ x.core.specs.drop (i + 1)
      rsv := if i = 0 ∧ held.any (fun b => decide (x.core.rsv = some (1, b))) then none else x.core.rsv }
    cmds := x.cmds.map (fun c => if i < c.depth then { c with depth := c.depth - 1 } else c) }

/-- Unresolved branch `i` resolved against its prediction (R221): stack, general registers and data space as at the branch, its
other path, the cancelled commands; with the number of cancels. What earlier instructions did meanwhile, a reservation among it,
stands. -/
def Tile.squash (i : Nat) (p : Checkpoint) (x : Tile) : Tile × Nat :=
  ({ x with
      core := { x.core with
        pc := p.otherPc, stack := p.stack, gregs := p.gregs, data := p.data, sp := p.sp
        specs := x.core.specs.take i, heldExc := none }
      cmds := x.cmds.filter (fun c => decide (c.depth ≤ i)) },
    (x.cmds.filter (fun c => decide (i < c.depth))).length)

/-- The branches that test a value that is now known, oldest first; the number counts cancels. -/
def branchesOn (id : Nat) (v : Half) : Nat → Tile × Nat → Tile × Nat
  | 0, x => x
  | n + 1, x =>
    match x.1.core.specs.findIdx? (fun p => p.cond == id) with
    | none => x
    | some i =>
      match x.1.core.specs[i]? with
      | none => x
      | some p =>
        if ((v == 0) == p.ifZero) = p.predTaken then branchesOn id v n (x.1.confirm i, x.2)
        else
          let y := x.1.squash i p
          branchesOn id v n (y.1, x.2 + y.2)

/-- An awaited value becomes known, and with it comparisons and branches in turn. -/
def resolveValue : Nat → Nat → Half → Tile × Nat → Tile × Nat
  | 0, _, _, x => x
  | n + 1, id, v, x =>
    let y := branchesOn id v 3 ({ x.1 with core := x.1.core.fillIn id v }, x.2)
    match y.1.core.cmps.find? (fun m => m.value.isSome) with
    | none => y
    | some m =>
      let z : Tile := { y.1 with core := { y.1.core with cmps := y.1.core.cmps.filter (fun o => o.id != m.id) } }
      resolveValue n m.id (m.value.getD 0) (z, y.2)

/-- A value delivered to a tile's sequencer; an exception held by an instruction that is no longer speculative is raised
(R219 to R221). -/
def State.settle (s : State) (n id : Nat) (v : Half) : State :=
  let x := s.tile n
  let y := resolveValue (x.core.cmps.length + 1) id v (x, 0)
  let s1 := (s.setTile n y.1).bump F.CAL_TILE_CNT_CANCELLED n y.2
  match y.1.core.heldExc with
  | some (code, pc) =>
    if y.1.core.spec then s1
    else (s1.setTile n { y.1 with core := { y.1.core with heldExc := none } }).raiseFault n
        ⟨code, pc, 0, 0, some s.fresh⟩
  | none => s1

/-! Management space (R586). -/

/-- Regions of management space. -/
inductive MgRegion where
  | shared | fuses | sinter | keyBus | flash | regs
deriving DecidableEq, Repr

/-- The region of an address, and the offset in it. -/
def mgRegion (a : Nat) : Option (MgRegion × Nat) :=
  if a < 0x100000 then some (.shared, a)
  else if 0x100000000 ≤ a ∧ a < 0x100000200 then some (.fuses, a - 0x100000000)
  else if 0x200000000 ≤ a ∧ a < 0x200200000 then some (.sinter, a - 0x200000000)
  else if 0x300000000 ≤ a ∧ a < 0x300010000 then some (.keyBus, a - 0x300000000)
  else if 0x400000000 ≤ a ∧ a < 0x404000000 then some (.flash, a - 0x400000000)
  else if 0x1000000000 ≤ a ∧ a < 0x1001000000 then some (.regs, a - 0x1000000000)
  else none

/-- Regions that management cores may not write. -/
def MgRegion.readOnly : MgRegion → Bool
  | .fuses | .flash => true
  | _ => false

/-- A 16-bit word of a byte memory. -/
def Memory.half (m : Memory) (a : Nat) : Half := BitVec.ofNat 16 (ofBytes (m.readList a 2))
def Memory.setHalf (m : Memory) (a : Nat) (v : Half) : Memory := m.writeList a (toBytes 2 v.toNat)

/-- 16-bit lane of a 64-bit word at byte offset `o`. -/
def laneOf (w o : Nat) : Half := BitVec.ofNat 16 (field w (8 * (o % 8) + 15) (8 * (o % 8)))

/-- A word of management space read by core `k`. -/
def State.mgRead (s : State) (k a : Nat) : Half :=
  match mgRegion a with
  | some (.shared, o) => s.fum.shared.half o
  | some (.fuses, o) => laneOf (s.fld F.FUM_FUSE_DATA_VALUE (o / 8)) o
  | some (.sinter, o) => s.fum.sinterBuf.half o
  | some (.keyBus, o) => s.fum.keyBus.half o
  | some (.flash, o) => s.fum.flash.half o
  | some (.regs, o) => laneOf (s.areaRead (.core k) (o / 8 * 8)) o
  | none => 0

/-- A word of management space written by core `k`. -/
def State.mgWrite (s : State) (k a : Nat) (v : Half) : State :=
  (match mgRegion a with
   | some (.shared, o) => { s with fum := { s.fum with shared := s.fum.shared.setHalf o v } }
   | some (.sinter, o) => { s with fum := { s.fum with sinterBuf := s.fum.sinterBuf.setHalf o v } }
   | some (.keyBus, o) => { s with fum := { s.fum with keyBus := s.fum.keyBus.setHalf o v } }
   | some (.regs, o) => s.barWrite (.core k) o 2 v.toNat
   | _ => s).endRsv 2 a (a + 2)

/-! Windows. -/

/-- Fields of a window register (R199). -/
def winSpace (w : Nat) : Nat := field w 63 62
def winBase (w : Nat) : Nat := field w 47 6 * 64

/-- A window register without its reserved bits (R8, R257). -/
def winClean (w : Nat) : Nat := field w 63 60 * 2 ^ 60 + field w 47 6 * 64

/-- Whether SPACE is defined for the kind of core (R199). -/
def winSpaceOk (mg : Bool) (w : Nat) : Bool := winSpace w == 0 || winSpace w == (if mg then 2 else 1)

/-- Windows of a core (R199). -/
def winCount (mg : Bool) : Nat := if mg then 16 else 4

/-- Whether an access kind reads, and whether it writes, memory. -/
def WKind.reads : WKind → Bool
  | .load | .tas | .loadReserved => true
  | _ => false
def WKind.writes : WKind → Bool
  | .store | .tas | .storeConditional => true
  | _ => false
def WKind.atomic : WKind → Bool
  | .tas | .loadReserved | .storeConditional => true
  | _ => false

/-- The checks of R323 on a tile's window access, in the order of R658; both kinds where it reads and writes. -/
def State.winRange (s : State) (fn : Nat) (k : WKind) (a : Nat) : Res Unit :=
  checksAll ((if k.reads then [s.checkRange fn false false a 2] else []) ++
    (if k.writes then [s.checkRange fn true false a 2] else []))

/-- The checks of a window access when it executes (R202, R203, R586): the space and the address in it. -/
def State.winCheck (s : State) (n : Nat) (k : WKind) (w : Nat) (o : Half) : TX (WSpace × Nat) :=
  let a := winBase w + 2 * o.toNat
  let mg := decide (128 ≤ n)
  if !bit w 60 || (k != .load && !bit w 61) then .exc s TF.WINDOW_FAULT
  else
    match winSpace w with
    | 1 => if 0x200000 ≤ a + 1 then .exc s TF.WINDOW_FAULT else .ok s (.ownSram, a)
    | 2 =>
      match mgRegion a with
      | none => .exc s TF.WINDOW_FAULT
      | some r => if r.1.readOnly && k.writes then .exc s TF.WINDOW_FAULT else .ok s (.management, a)
    | _ =>
      if (k.atomic && decide (s.region a = .host)) || (mg && decide (s.region a ≠ .host)) then .exc s TF.WINDOW_FAULT
      else if mg then .ok s (.device, a)
      else
        match s.winRange (s.tileFn n) k a with
        | .ok _ => if s.rolePasses n a then .ok s (.device, a) else .exc (s.stale n a) TF.WINDOW_FAULT
        | .fail st => .exc (s.refuse (s.tileFn n) st) (faultOf st)
        | .wait => .wait

/-- The memory number and block of an address of a window's space (R229). -/
def rsvBlock (n : Nat) : WSpace → Nat → Nat × Nat
  | .device, a => (0, a / 64)
  | .ownSram, a => (0, (sramBase n + a) / 64)
  | .management, a => (2, a / 64)

/-- The function that a core's window accesses belong to (R203, R236). -/
def State.winFn (s : State) (n : Nat) : Nat := if n < 128 then s.tileFn n else 0

/-- A word read behind a window. -/
def State.winRead (s : State) (env : Env) (n : Nat) (sp : WSpace) (a : Nat) : TX Half :=
  match sp with
  | .device =>
    match s.readChecked env (s.winFn n) a 2 with
    | (t, .ok bs) => .ok t (BitVec.ofNat 16 (ofBytes bs))
    | (t, .fail st) => .exc t (poisonFault n a st)
    | (_, .wait) => .wait
  | .ownSram =>
    match s.sramRead env n a 2 with
    | (t, some bs) => .ok t (BitVec.ofNat 16 (ofBytes bs))
    | (t, none) => .exc t TF.SRAM_UNCORRECTABLE
  | .management => .ok s (s.mgRead (n - 128) a)

/-- A word written behind a window. -/
def State.winWrite (s : State) (env : Env) (n : Nat) (sp : WSpace) (a : Nat) (v : Half) : TX Unit :=
  match sp with
  | .device =>
    match s.writeChecked env (s.winFn n) a (toBytes 2 v.toNat) with
    | (t, .ok _) => .ok t ()
    | (t, .fail st) => .exc t (poisonFault n a st)
    | (_, .wait) => .wait
  | .ownSram =>
    match s.sramWrite n a (toBytes 2 v.toNat) with
    | some t => .ok t ()
    | none => .exc s TF.SRAM_UNCORRECTABLE
  | .management => .ok (s.mgWrite (n - 128) a v) ()

/-- A core's reservation replaced. -/
def State.setRsv (s : State) (n : Nat) (r : Option (Nat × Nat)) : State := s.setTcore n { s.tcore n with rsv := r }

/-- A window access performed (R228 to R231): the value that its instruction receives. -/
def State.winPerform (s : State) (env : Env) (n : Nat) (k : WKind) (sp : WSpace) (a : Nat) (v : Half) : TX Half :=
  let blk := rsvBlock n sp a
  match k with
  | .load => s.winRead env n sp a
  | .loadReserved =>
    match s.winRead env n sp a with
    | .ok t x => .ok (t.setRsv n (some blk)) x
    | r => r
  | .store =>
    match s.winWrite env n sp a v with
    | .ok t _ => .ok t 0
    | .exc t c => .exc t c
    | .wait => .wait
  | .tas =>
    match s.winRead env n sp a with
    | .ok t x =>
      match t.winWrite env n sp a 1 with
      | .ok u _ => .ok u x
      | .exc u c => .exc u c
      | .wait => .wait
    | r => r
  | .storeConditional =>
    if (s.tcore n).rsv = some blk then
      match s.winWrite env n sp a v with
      | .ok t _ => .ok (t.setRsv n none) 1
      | .exc t c => .exc t c
      | .wait => .wait
    else .ok (s.setRsv n none) 0

/-- An outstanding access of the core to the block of an address (R204). -/
def State.sameBlock (s : State) (n : Nat) (sp : WSpace) (a : Nat) : Bool :=
  (s.tcore n).accesses.any (fun x => rsvBlock n x.space x.addr == rsvBlock n sp a)

/-- An outstanding LDR or STC of the core. -/
def Core.rsvPending (c : Core) : Bool :=
  c.accesses.any (fun x => decide (x.kind = .loadReserved ∨ x.kind = .storeConditional))

/-! Arbiters (R118, R204, R232). An outstanding access stands at the arbiter of the memory that holds its block from the moment it
executes (log entry 148), but for one that follows an access of its core to the same block. -/

/-- The outstanding accesses of core `n` that no earlier access of the core to the same block holds back (R204). -/
def Core.standing (n : Nat) (c : Core) : List WinAccess :=
  (c.accesses.mapIdx (fun i x =>
    if (c.accesses.take i).any (fun y => rsvBlock n y.space y.addr == rsvBlock n x.space x.addr) then none else some x)).filterMap id

/-- Whether a write of another core to a block waits at its arbiter (R232). -/
def State.writeWaits (s : State) (n : Nat) (blk : Nat × Nat) : Bool :=
  let has := fun (k : Nat) (c : Core) =>
    k != n && (c.standing k).any (fun y => decide (y.kind = .store ∨ y.kind = .tas) && rsvBlock k y.space y.addr == blk)
  s.tiles.any (fun t => has t.1 t.2.core) || s.mcores.any (fun c => has (128 + c.1) c.2)

/-- The outstanding accesses of a core that wait to be granted; an STC gives way to a write of another core (R232). -/
def State.atArbiter (s : State) (n : Nat) : List WinAccess :=
  ((s.tcore n).standing n).filter (fun x =>
    !(decide (x.kind = .storeConditional) && s.writeWaits n (rsvBlock n x.space x.addr)))

/-- The requests that wait at bank `b` of tile `t` (R118). -/
def State.bankWaits (s : State) (t b : Nat) : List BankWait :=
  s.tiles.flatMap (fun n => (s.atArbiter n.1).filterMap (fun x =>
    match x.sram n.1 with
    | some (u, o, w) => if u = t ∧ bankOf o = b then some w else none
    | none => none))

/-- Whether an access that waits may be granted now: by the arbiter of its bank where it waits for tile SRAM. -/
def State.mayGrant (s : State) (n : Nat) (x : WinAccess) : Bool :=
  (s.atArbiter n).contains x &&
  (match x.sram n with
   | some (t, o, w) => bankGrants (s.bankWaits t (bankOf o)) w
   | none => true)

/-- A window access that executes: the core goes on while it waits (R204, R212). -/
def State.postAccess (s : State) (n : Nat) (k : WKind) (sp : WSpace) (a : Nat) (v : Half) (c : Core) (pc : Half) : State :=
  let old := s.tcore n
  s.tick.setTcore n { c with accesses := c.accesses ++
    [⟨s.fresh, k, sp, a, v, pc, s.fld F.MEM_FN_FENCE_EPOCH (s.winFn n), s.tb.time, old.data⟩] }

/-- A load or an atomic of a management core, performed within its instruction: it waits for the core's earlier accesses to the
block, and an STC for writes of other cores (R204, R232, R238). -/
def State.mgPerform (s : State) (env : Env) (n : Nat) (k : WKind) (sp : WSpace) (a : Nat) (v : Half) : TX Half :=
  if s.sameBlock n sp a || (k == .storeConditional && s.writeWaits n (rsvBlock n sp a)) then .wait
  else s.winPerform env n k sp a v

/-- A window access of `x` fails after its core has moved on (R234, R235, R256): the exception is raised at its instruction. On a
tile every later instruction is squashed: data space is as the instruction found it, unless a fault that comes before it in
program order stands already. -/
def State.lateFault (s : State) (n : Nat) (x : WinAccess) (code : Nat) : State :=
  if n < 128 then
    let c := s.tcore n
    let sooner := match (s.tile n).fault.bind (fun f => f.order) with
      | some o => decide (o < x.id)
      | none => false
    (if sooner then s
     else s.setTcore n { c with data := x.data, specs := [], heldExc := none, waitu := none }).raiseFault n
      ⟨code, x.pc, 0, 0, some x.id⟩
  else if (s.tcore n).run = .running then s.texc n code x.pc x.pc
  else s

/-- A management core's window access waits for memory (R238). -/
def State.setLoading (s : State) (n : Nat) (b : Bool) : State := s.setTcore n { s.tcore n with loading := b }

end Sys2Proof.Machine
end

