-- ==== Sys2Proof/Machine/Tasko.lean ====
section
/-! DEFINITION. The Tasko instructions that act on their core alone: control (R247 to R250), immediates and stack (R251, R252),
arithmetic (R253), comparison and registers (R254). -/

namespace Sys2Proof.Machine

/-! Control. -/

/-- An instruction of tile sequencers only, and one of management cores only (R217, R233). -/
def TDec.tileOnly (d : TDec) {α : Type} (x : TR α) : TR α := if d.mg then .exc TF.ILLEGAL_INSTRUCTION else x
def TDec.mgOnly (d : TDec) {α : Type} (x : TR α) : TR α := if d.mg then x else .exc TF.ILLEGAL_INSTRUCTION

/-- END (R153, R249): once no tag is outstanding. -/
def execEndTile (core : Nat) (s : State) : Out :=
  s.tasko core .endTile (fun d c => d.tileOnly (c.nonSpec (
    if (s.tile core).cmds.isEmpty then .ok { c with run := .ended, pc := d.next } else .wait)))

/-- FAULT (R249). -/
def execFaultInstr (core : Nat) (s : State) : Out :=
  s.tasko core .fault (fun _ c => c.nonSpec (.exc TF.PROGRAM_FAULT))

/-- SYNC (R205). -/
def execSync (core : Nat) (s : State) : Out :=
  s.tasko core .sync (fun d c => c.nonSpec (
    if c.accesses.any (fun x => x.kind.writes || x.kind.atomic) then .wait else .ok { c with pc := d.next }))

/-- A jump to the popped target. -/
def Core.popJump (c : Core) : TR Core := c.pop 1 (fun v c1 => c1.finish (v.getD 0 0))

/-- RET (R248, R249). -/
def execRet (core : Nat) (s : State) : Out := s.tasko core .ret (fun _ c => c.popJump)

/-- JMPS (R248, R249). -/
def execJmps (core : Nat) (s : State) : Out := s.tasko core .jmps (fun _ c => c.popJump)

/-- A call: the return address pushed, the core goes on at `target` (R248). -/
def Core.callTo (c : Core) (d : TDec) (target : Half) : TR Core :=
  (c.push (.known d.next)).bind (fun c1 => c1.finish target)

/-- CALLS (R248). -/
def execCalls (core : Nat) (s : State) : Out :=
  s.tasko core .calls (fun d c => c.pop 1 (fun v c1 => c1.callTo d (v.getD 0 0)))

/-- NOP (R249). -/
def execNop (core : Nat) (s : State) : Out := s.tasko core .nop (fun d c => .ok { c with pc := d.next })

/-- EI (R250). -/
def execEi (core : Nat) (s : State) : Out :=
  s.tasko core .ei (fun d c => d.mgOnly (.ok { c with gie := true, pc := d.next }))

/-- DI (R250). -/
def execDi (core : Nat) (s : State) : Out :=
  s.tasko core .di (fun d c => d.mgOnly (.ok { c with gie := false, pc := d.next }))

/-- RETI (R231, R239). -/
def execReti (core : Nat) (s : State) : Out :=
  s.tasko core .reti (fun d c => d.mgOnly (.ok { c with pc := c.epc, gie := c.pgie, rsv := none }))

/-- WAITI (R238): it completes once some line is pending and enabled; until then it is in progress. -/
def execWaiti (core : Nat) (s : State) : Out :=
  s.tasko core .waiti (fun d c => d.mgOnly (
    if c.lines ≠ 0 then .ok { c with waiting := false, pc := d.next } else .ok { c with waiting := true }))

/-- JMPL (R247, R249). -/
def execJmpl (core : Nat) (s : State) : Out := s.tasko core .jmpl (fun d c => .ok { c with pc := d.e1 })

/-- CALLL (R248, R249). -/
def execCalll (core : Nat) (s : State) : Out := s.tasko core .calll (fun d c => c.callTo d d.e1)

/-- A conditional branch (R211, R218): on an awaited register a tile sequencer predicts, with at most two branches
unresolved. -/
def Core.branch (c : Core) (d : TDec) (ifZero : Bool) (target : Half) : TR Core :=
  match c.greg d.i.g with
  | .known v => .ok { c with pc := if (v == 0) = ifZero then target else d.next }
  | .await id =>
    if d.mg ∨ 2 ≤ c.specs.length then .wait
    else
      let taken := decide (target.toNat ≤ d.pc.toNat)
      .ok { c with
        pc := if taken then target else d.next
        specs := c.specs ++ [{
          cond := id, ifZero := ifZero, predTaken := taken, otherPc := if taken then d.next else target
          stack := c.stack, gregs := c.gregs, data := c.data, sp := c.sp, stores := [] }] }

/-- BZL (R218, R249). -/
def execBzl (core : Nat) (s : State) : Out := s.tasko core .bzl (fun d c => c.branch d true d.e1)

/-- BNZL (R218, R249). -/
def execBnzl (core : Nat) (s : State) : Out := s.tasko core .bnzl (fun d c => c.branch d false d.e1)

/-- BZ (R218, R247). -/
def execBz (core : Nat) (s : State) : Out := s.tasko core .bz (fun d c => c.branch d true (d.next + d.i.imm))

/-- BNZ (R218, R247). -/
def execBnz (core : Nat) (s : State) : Out := s.tasko core .bnz (fun d c => c.branch d false (d.next + d.i.imm))

/-- JMP (R247). -/
def execJmp (core : Nat) (s : State) : Out := s.tasko core .jmp (fun d c => .ok { c with pc := d.next + d.i.imm })

/-- CALL (R247, R248). -/
def execCall (core : Nat) (s : State) : Out := s.tasko core .call (fun d c => c.callTo d (d.next + d.i.imm))

/-! Immediates and stack. -/

/-- Values pushed, the first of the list first, and the instruction ends. -/
def Core.give (c : Core) (d : TDec) (l : List Half) : TR Core :=
  (c.pushAll (l.map TVal.known)).bind (fun c1 => c1.finish d.next)

/-- PUSHI (R251). -/
def execPushi (core : Nat) (s : State) : Out := s.tasko core .pushi (fun d c => c.give d [d.e1])

/-- PUSHI2 (R251): the second extension word first. -/
def execPushi2 (core : Nat) (s : State) : Out := s.tasko core .pushi2 (fun d c => c.give d [d.e2, d.e1])

/-- PUSHS (R251). -/
def execPushs (core : Nat) (s : State) : Out := s.tasko core .pushs (fun d c => c.give d [d.i.imm])

/-- An instruction that replaces `n` entries, s0 first in the argument, by the answer, pushed in order. -/
def Core.stackOp (c : Core) (d : TDec) (n : Nat) (f : List Half → List Half) : TR Core :=
  c.pop n (fun v c1 => c1.give d (f v))

/-- DUP (R251). -/
def execDup (core : Nat) (s : State) : Out :=
  s.tasko core .dup (fun d c => c.stackOp d 1 (fun v => [v.getD 0 0, v.getD 0 0]))

/-- DROP (R251): the discarded entry is not read. -/
def execDrop (core : Nat) (s : State) : Out :=
  s.tasko core .drop (fun d c => c.take 1 (fun _ c1 => c1.finish d.next))

/-- SWAP (R251). -/
def execSwap (core : Nat) (s : State) : Out :=
  s.tasko core .swap (fun d c => c.stackOp d 2 (fun v => [v.getD 0 0, v.getD 1 0]))

/-- OVER (R251). -/
def execOver (core : Nat) (s : State) : Out :=
  s.tasko core .copyOver (fun d c => c.stackOp d 2 (fun v => [v.getD 1 0, v.getD 0 0, v.getD 1 0]))

/-- ROT (R251): s2 to the top. -/
def execRot (core : Nat) (s : State) : Out :=
  s.tasko core .rot (fun d c => c.stackOp d 3 (fun v => [v.getD 1 0, v.getD 0 0, v.getD 2 0]))

/-- NIP (R251): the discarded entry is not read. -/
def execNip (core : Nat) (s : State) : Out :=
  s.tasko core .nip (fun d c => c.take 2 (fun l c1 =>
    match l with
    | .known a :: _ => c1.give d [a]
    | _ => .wait))

/-- PICK (R252): the entry `k` places below the new top, read from data space where it is spilled. -/
def execPick (core : Nat) (s : State) : Out :=
  s.tasko core .pick (fun d c => c.pop 1 (fun v c1 =>
    let k := (v.getD 0 0).toNat
    if c1.depth < k + 1 then .exc TF.STACK_LIMIT
    else if k < c1.stack.length then
      match c1.stack.getD k (.known 0) with
      | .known x => c1.give d [x]
      | .await _ => .wait
    else c1.give d [c1.dataAt (c1.sp + BitVec.ofNat 16 (k - c1.stack.length))]))

/-! Arithmetic: b is s1, a is s0 (R210, R253). -/

/-- An operation on b and a. -/
def Core.arith (c : Core) (d : TDec) (f : Half → Half → List Half) : TR Core :=
  c.stackOp d 2 (fun v => f (v.getD 1 0) (v.getD 0 0))

/-- A bit as a word. -/
def halfBit (b : Bool) : Half := if b then 1 else 0

def execAdd (core : Nat) (s : State) : Out := s.tasko core .add (fun d c => c.arith d (fun b a => [b + a]))
def execSub (core : Nat) (s : State) : Out := s.tasko core .sub (fun d c => c.arith d (fun b a => [b - a]))
def execAddc (core : Nat) (s : State) : Out :=
  s.tasko core .addc (fun d c => c.arith d (fun b a => [b + a, halfBit (decide (0xFFFF < b.toNat + a.toNat))]))
def execSubb (core : Nat) (s : State) : Out :=
  s.tasko core .subb (fun d c => c.arith d (fun b a => [b - a, halfBit (decide (b.toNat < a.toNat))]))
def execMul (core : Nat) (s : State) : Out := s.tasko core .mul (fun d c => c.arith d (fun b a => [b * a]))
def execMulh (core : Nat) (s : State) : Out :=
  s.tasko core .mulh (fun d c => c.arith d (fun b a => [BitVec.ofNat 16 (b.toNat * a.toNat / 65536)]))
def execAnd (core : Nat) (s : State) : Out := s.tasko core .and (fun d c => c.arith d (fun b a => [b &&& a]))
def execOr (core : Nat) (s : State) : Out := s.tasko core .or (fun d c => c.arith d (fun b a => [b ||| a]))
def execXor (core : Nat) (s : State) : Out := s.tasko core .xor (fun d c => c.arith d (fun b a => [b ^^^ a]))
def execNot (core : Nat) (s : State) : Out := s.tasko core .not (fun d c => c.stackOp d 1 (fun v => [~~~ v.getD 0 0]))
def execNeg (core : Nat) (s : State) : Out := s.tasko core .neg (fun d c => c.stackOp d 1 (fun v => [0 - v.getD 0 0]))
def execShl (core : Nat) (s : State) : Out :=
  s.tasko core .shl (fun d c => c.arith d (fun b a => [b <<< (a.toNat % 16)]))
def execShr (core : Nat) (s : State) : Out :=
  s.tasko core .shr (fun d c => c.arith d (fun b a => [b >>> (a.toNat % 16)]))
def execSar (core : Nat) (s : State) : Out :=
  s.tasko core .sar (fun d c => c.arith d (fun b a => [b.sshiftRight (a.toNat % 16)]))

/-! Comparison and registers (R211, R212, R254). -/

/-- A comparison of `n` operands: an awaited operand gives an awaited result. -/
def State.compare (s : State) (core : Nat) (t : TOp) (o : CmpOp) (n : Nat) : Out :=
  s.taskoX core t (fun d c =>
    match c.take n (fun l c1 => (c1.finish d.next).bind (fun c2 => TR.ok (l, c2))) with
    | .exc code => .exc s code
    | .wait => .wait
    | .ok (l, c2) =>
      let a := l.getD 0 (.known 0)
      let b := if n = 2 then l.getD 1 (.known 0) else .known 0
      match a, b with
      | .known x, .known y => .ok (s.setTcore core (c2.setG d.i.g (.known (o.result y x)))) ()
      | _, _ =>
        let c3 := c2.setG d.i.g (.await s.fresh)
        .ok (s.tick.setTcore core { c3 with cmps := c3.cmps ++ [⟨s.fresh, o, b, a⟩] }) ())

def execCeq (core : Nat) (s : State) : Out := s.compare core .ceq .eq 2
def execCne (core : Nat) (s : State) : Out := s.compare core .cne .ne 2
def execCltu (core : Nat) (s : State) : Out := s.compare core .cltu .ltu 2
def execCleu (core : Nat) (s : State) : Out := s.compare core .cleu .leu 2
def execClts (core : Nat) (s : State) : Out := s.compare core .clts .lts 2
def execCles (core : Nat) (s : State) : Out := s.compare core .cles .les 2
def execCz (core : Nat) (s : State) : Out := s.compare core .cz .isZero 1

/-- An instruction that reads general register g; it waits for an awaited value (R212). -/
def Core.withG (c : Core) (d : TDec) (f : Half → TR Core) : TR Core :=
  match c.greg d.i.g with
  | .known v => f v
  | .await _ => .wait

def execPushg (core : Nat) (s : State) : Out := s.tasko core .pushg (fun d c => c.withG d (fun v => c.give d [v]))
def execPopg (core : Nat) (s : State) : Out :=
  s.tasko core .popg (fun d c => c.pop 1 (fun v c1 => (c1.setG d.i.g (.known (v.getD 0 0))).finish d.next))
def execIncg (core : Nat) (s : State) : Out :=
  s.tasko core .incg (fun d c => c.withG d (fun v => .ok { c.setG d.i.g (.known (v + 1)) with pc := d.next }))
def execDecg (core : Nat) (s : State) : Out :=
  s.tasko core .decg (fun d c => c.withG d (fun v => .ok { c.setG d.i.g (.known (v - 1)) with pc := d.next }))

end Sys2Proof.Machine
end

