-- ==== Sys2Proof/Machine/TaskoMem.lean ====
section
/-! DEFINITION. The Tasko instructions that reach beyond their core: memory (R199 to R204, R228 to R232, R255 to R257), special
registers (R213, R237, R258, R259), unit commands (R121, R122, R215, R216, R260, R261), block-repeat (R224 to R227, R262, R263);
interrupts (R237 to R240) and undefined words (R241). -/

namespace Sys2Proof.Machine

/-! Memory. -/

/-- LD (R255). -/
def execLd (core : Nat) (s : State) : Out :=
  s.tasko core .ld (fun d c => c.pop 1 (fun v c1 => c1.give d [c1.dataAt (v.getD 0 0)]))

/-- A speculative store to data word `a` held at the newest unresolved branch (R219). -/
def Core.holdStore (a : Half) (c : Core) : Core :=
  let n := c.specs.length
  { c with specs := c.specs.mapIdx (fun i p => if i + 1 = n then { p with stores := p.stores ++ [dataBlock a] } else p) }

/-- ST (R219, R255): at most 8 speculative stores are held. -/
def execSt (core : Nat) (s : State) : Out :=
  s.tasko core .st (fun d c =>
    if 8 ≤ sumOf (c.specs.map (fun p => p.stores.length)) then .wait
    else c.pop 2 (fun v c1 => ((c1.putData (v.getD 0 0) (v.getD 1 0)).holdStore (v.getD 0 0)).finish d.next))

/-- A window instruction that pops the offset and, with `pops` 2, a value below it: checked when it executes (R256). A store is
posted, and a tile sequencer goes on before any window access is performed (R204, R212, R236); a management core's load or atomic is
performed within the instruction (R238, log entry 152). `eff` is what the instruction does with the value that the access gives. -/
def State.winOp (s : State) (env : Env) (d : TDec) (c : Core) (k : WKind) (pops : Nat) (v0 : Half)
    (eff : TVal → Core → TR Core) : TX Unit :=
  let n := d.core
  if winCount d.mg ≤ d.i.w then .exc s TF.ILLEGAL_INSTRUCTION
  else
    match c.nonSpec (c.pop pops (fun v _ => TR.ok v)) with
    | .exc code => .exc s code
    | .wait => .wait
    | .ok v =>
      let x := if pops = 2 then v.getD 1 0 else v0
      match s.winCheck n k (Tbl.getD c.wins d.i.w 0).toNat (v.getD 0 0) with
      | .exc t code => .exc t code
      | .wait => .wait
      | .ok _ (sp, a) =>
        if d.mg && k != .store then
          match s.mgPerform env n k sp a x with
          | .ok t y =>
            TR.on t n ((t.tcore n).take pops (fun _ c1 => eff (.known y) { c1 with loading := false }))
          | .exc t code => .exc t code
          | .wait => .ok (s.setLoading n true) ()
        else if (k == .loadReserved || k == .storeConditional) && c.rsvPending then .wait
        else
          match c.take pops (fun _ c1 => eff (.await s.fresh) c1) with
          | .exc code => .exc s code
          | .wait => .wait
          | .ok c2 => .ok (s.postAccess n k sp a x c2 d.pc) ()

/-- What LDX and LDR do with the word: they push it. -/
def pushEff (d : TDec) (y : TVal) (c : Core) : TR Core := (c.push y).bind (fun c1 => c1.finish d.next)

/-- What TAS and STC do with the value: they write register g. -/
def regEff (d : TDec) (y : TVal) (c : Core) : TR Core := (c.setG d.i.g y).finish d.next

/-- LDX (R255, R256). -/
def execLdx (core : Nat) (env : Env) (s : State) : Out :=
  s.taskoX core .ldx (fun d c => s.winOp env d c .load 1 0 (pushEff d))

/-- STX (R204, R255, R256). -/
def execStx (core : Nat) (env : Env) (s : State) : Out :=
  s.taskoX core .stx (fun d c => s.winOp env d c .store 2 0 (fun _ c1 => c1.finish d.next))

/-- TAS (R228, R255). -/
def execTas (core : Nat) (env : Env) (s : State) : Out :=
  s.taskoX core .tas (fun d c =>
    if d.i.win then s.winOp env d c .tas 1 1 (regEff d)
    else TR.on s core (c.nonSpec (c.pop 1 (fun v c1 =>
      let a := v.getD 0 0
      regEff d (.known (c1.dataAt a)) (c1.putData a 1)))))

/-- LDR (R229, R255). -/
def execLdr (core : Nat) (env : Env) (s : State) : Out :=
  s.taskoX core .ldr (fun d c =>
    if d.i.win then s.winOp env d c .loadReserved 1 0 (pushEff d)
    else TR.on s core (c.nonSpec (if c.rsvPending then .wait else c.pop 1 (fun v c1 =>
      let a := v.getD 0 0
      (c1.give d [c1.dataAt a]).bind (fun c2 => TR.ok { c2 with rsv := some (1, a.toNat / 32) })))))

/-- STC (R230, R255). -/
def execStc (core : Nat) (env : Env) (s : State) : Out :=
  s.taskoX core .stc (fun d c =>
    if d.i.win then s.winOp env d c .storeConditional 2 0 (regEff d)
    else TR.on s core (c.nonSpec (if c.rsvPending then .wait else c.pop 2 (fun v c1 =>
      let a := v.getD 0 0
      let held := decide (c1.rsv = some (1, a.toNat / 32))
      let c2 := if held then c1.putData a (v.getD 1 0) else c1
      regEff d (.known (halfBit held)) { c2 with rsv := none }))))

/-- WINDOW_ACCESS_RETURN (R118, R204, R205, R212, R221, R232, R235, R256): outstanding access number `idx` of a core is granted
and performed. Its value is delivered, or a late failure raises the exception at the instruction's address. -/
def execWindowAccessReturn (core idx : Nat) (env : Env) (s : State) : Out :=
  .next (
    match (s.tcore core).accesses[idx]? with
    | none => s
    | some x =>
      if !s.mayGrant core x then s
      else
        let drop (t : State) : State :=
          let c := t.tcore core
          t.setTcore core { c with accesses := c.accesses.filter (fun y => y.id != x.id) }
        match s.winPerform env core x.kind x.space x.addr x.value with
        | .ok t v => if core < 128 then (drop t).settle core x.id v else drop t
        | .exc t code => (drop t).lateFault core x code
        | .wait => s)

/-- SETW (R199 to R201, R257). -/
def execSetw (core : Nat) (s : State) : Out :=
  s.tasko core .setw (fun d c =>
    if winCount d.mg ≤ d.i.w then .exc TF.ILLEGAL_INSTRUCTION
    else c.nonSpec (c.pop 4 (fun v c1 =>
      let x := sumOf ((List.range 4).map (fun i => (v.getD i 0).toNat * 2 ^ (16 * i)))
      if winSpaceOk d.mg x then
        { c1 with wins := Tbl.put 0 d.i.w (BitVec.ofNat 64 (winClean x)) c1.wins }.finish d.next
      else .exc TF.ILLEGAL_INSTRUCTION)))

/-! Special registers. -/

/-- Special register `n` of a core; none where the kind of core has none of that number (R213, R237). -/
def State.special (s : State) (d : TDec) (c : Core) (n : Nat) : Option Nat :=
  if n = 0x00 then some c.sp.toNat
  else if n = 0x01 then some c.sb.toNat
  else if n = 0x02 then some c.sl.toNat
  else if n = 0x03 then some c.stack.length
  else if n = 0x04 then some (ofBit c.rsv.isSome)
  else if 0x08 ≤ n ∧ n < 0x0C ∧ !d.mg then
    some (sumOf ((List.range 16).map (fun i => ofBit ((s.tile d.core).cmd? (16 * (n - 8) + i)).isSome * 2 ^ i)))
  else if 0x10 ≤ n ∧ n < 0x10 + 4 * winCount d.mg then
    let k := (n - 0x10) % 4
    some (field (Tbl.getD c.wins ((n - 0x10) / 4) 0).toNat (16 * k + 15) (16 * k))
  else if !d.mg then none
  else if n = 0x50 then some c.ivb.toNat
  else if n = 0x51 then some (ofBit c.gie + 2 * ofBit c.pgie)
  else if n = 0x52 then some c.ecause.toNat
  else if n = 0x53 then some c.epc.toNat
  else if n = 0x54 then some (field c.ien 15 0)
  else if n = 0x55 then some (field c.ien 31 16)
  else if n = 0x56 then some (field c.ipend 15 0)
  else if n = 0x57 then some (field c.ipend 31 16)
  else if n = 0x58 then some c.num
  else none

/-- MFS (R258, R259); RSV and TAGPEND are not read speculatively (R219). -/
def execMfs (core : Nat) (s : State) : Out :=
  s.tasko core .mfs (fun d c =>
    let n := d.i.w
    let x : TR Core :=
      match s.special d c n with
      | none => .exc TF.ILLEGAL_INSTRUCTION
      | some v => if n = 4 ∧ c.rsvPending then .wait else c.give d [BitVec.ofNat 16 v]
    if n = 4 ∨ (8 ≤ n ∧ n < 12) then c.nonSpec x else x)

/-- A special register written after the operand's pop, by its field kind (R209, R213, R237, R257, R259). -/
def Core.setSpecial (c : Core) (mg : Bool) (n : Nat) (v : Half) : TR Core :=
  if n = 0x01 then (if c.sp ≠ c.sb then .exc TF.STACK_LIMIT else .ok { c with sb := v, sp := v })
  else if n = 0x02 then (if c.sp.toNat < v.toNat then .exc TF.STACK_LIMIT else .ok { c with sl := v })
  else if 0x10 ≤ n ∧ n < 0x10 + 4 * winCount mg then
    let w := (n - 0x10) / 4
    let k := (n - 0x10) % 4
    let x := setField (Tbl.getD c.wins w 0).toNat (16 * k + 15) (16 * k) v.toNat
    if winSpaceOk mg x then .ok { c with wins := Tbl.put 0 w (BitVec.ofNat 64 (winClean x)) c.wins }
    else .exc TF.ILLEGAL_INSTRUCTION
  else if n = 0x50 then .ok { c with ivb := BitVec.ofNat 16 (v.toNat / 8 * 8) }
  else if n = 0x54 then .ok { c with ien := setField c.ien 15 0 v.toNat }
  else if n = 0x55 then .ok { c with ien := setField c.ien 31 16 v.toNat }
  else if n = 0x56 then .ok { c with ipend := c.ipend - (c.ipend &&& v.toNat) }
  else if n = 0x57 then .ok { c with ipend := c.ipend - (c.ipend &&& v.toNat * 65536) }
  else .ok c

/-- MTS (R258, R259). -/
def execMts (core : Nat) (s : State) : Out :=
  s.tasko core .mts (fun d c =>
    if (s.special d c d.i.w).isNone then .exc TF.ILLEGAL_INSTRUCTION
    else c.nonSpec (c.pop 1 (fun v c1 => (c1.setSpecial d.mg d.i.w (v.getD 0 0)).bind (fun c2 => c2.finish d.next))))

/-! Unit commands. -/

/-- The sixteen tensor descriptors (R128). -/
def Core.descs (c : Core) : List (Nat × Nat) :=
  (List.range 16).map (fun n =>
    (n, sumOf ((List.range 8).map (fun k => (c.dataAt (BitVec.ofNat 16 (0xFF80 + 8 * n + k))).toNat * 2 ^ (16 * k)))))

/-- Geyser commands that a tile keeps in flight at once (R305), and those that it has. -/
def geyserInFlight : Nat := 8
def Tile.geyserCmds (x : Tile) : Nat := (x.cmds.filter (fun c => c.unit == 3 && !isDone c.phase)).length

/-- A unit command sent (R121, R122, R220): with its commit token where no branch is unresolved. `c` is the core after the pops. -/
def State.sendCmd (s : State) (d : TDec) (c : Core) (c0 c1 c2 c3 : Half) : TX Unit :=
  let x := s.tile d.core
  let tag := field c0.toNat 5 0
  if (x.cmd? tag).isSome ∨ (field c0.toNat 15 14 = 3 ∧ geyserInFlight ≤ x.geyserCmds) then .wait
  else
    match c.finish d.next with
    | .exc code => .exc s code
    | .wait => .wait
    | .ok y =>
      let v := c0.toNat + c1.toNat * 2 ^ 16 + c2.toNat * 2 ^ 32 + c3.toNat * 2 ^ 48
      let cmd : UnitCmd := ⟨BitVec.ofNat 64 v, tag, c.descs, d.pc, c.specs.length, .queued, s.fresh⟩
      .ok (s.tick.setTile d.core { x with core := y, cmds := x.cmds ++ [cmd] }) ()

/-- A unit command of `n` popped words. -/
def State.issueOf (s : State) (d : TDec) (c : Core) (n : Nat) (f : List Half → Core → TX Unit) : TX Unit :=
  match d.tileOnly (c.pop n (fun v c1 => TR.ok (v, c1))) with
  | .exc code => .exc s code
  | .wait => .wait
  | .ok (v, c1) => f v c1

/-- ISSUE (R121, R122, R260). -/
def execIssue (core : Nat) (s : State) : Out :=
  s.taskoX core .issue (fun d c => s.issueOf d c 4 (fun v c1 =>
    s.sendCmd d c1 (v.getD 0 0) (v.getD 1 0) (v.getD 2 0) (v.getD 3 0)))

/-- ISSUEX (R260, R261). -/
def execIssuex (core : Nat) (s : State) : Out :=
  s.taskoX core .issuex (fun d c => s.issueOf d c 2 (fun v c1 => s.sendCmd d c1 d.e1 d.e2 (v.getD 0 0) (v.getD 1 0)))

/-- WAITU (R212, R215, R216, R260): while the tag is outstanding the register holds an awaited value and the instruction waits;
only a conditional branch on that register goes past it, speculatively (log entry 153). -/
def execWaitu (core : Nat) (s : State) : Out :=
  s.taskoX core .waitu (fun d c =>
    match d.tileOnly (c.nonSpec (.ok ())) with
    | .exc code => .exc s code
    | .wait => .wait
    | .ok _ =>
      if ((s.tile core).cmd? d.i.w).isSome then
        .ok (s.tick.setTcore core { c.setG d.i.g (.await s.fresh) with pc := d.next, waitu := some (d.i.w, s.fresh) }) ()
      else
        .ok (s.setTcore core { c.setG d.i.g (.known (Tbl.getD c.tagStore d.i.w 0)) with pc := d.next }) ())

/-- UNIT_COMPLETION (R122, R123, R125, R215, R216): a completion word is posted and the tag stops being outstanding; a WAITU that
waits for it receives the word. The matrix unit and the vector unit post in issue order. A command that names an undefined OP faults
its tile (R124). -/
def execUnitCompletion (tile tag : Nat) (s : State) : Out :=
  .next (
    let x := s.tile tile
    match x.cmd? tag with
    | none => s
    | some c =>
      match c.phase with
      | .done w =>
        if c.unit < 2 ∧ (x.before tag).any (fun d => d.unit == c.unit) then s
        else
          let y := x.dropCmd tag
          let s1 := s.setTile tile { y with core := { y.core with tagStore := Tbl.set tag w y.core.tagStore } }
          match y.core.waitu with
          | some (k, id) =>
            if k = tag then (s1.setTcore tile { s1.tcore tile with waitu := none }).settle tile id w else s1
          | none => s1
      | _ =>
        if !c.opDefined ∧ c.unit < 3 ∧ (x.ready tag c.unit (fun _ => true)).isSome then
          s.cmdFault tile c TF.UNIT_CMD_INVALID
        else s)

/-! Block-repeat instructions. -/

/-- A value of g12 to g15 as a number (awaited values have been excluded). -/
def Core.gval (c : Core) (g : Nat) : Half :=
  match c.greg g with
  | .known v => v
  | .await _ => 0

/-- Fields of g15 (R224). -/
def sspace (c : Core) : Nat := field (c.gval 15).toNat 4 0
def dspace (c : Core) : Nat := field (c.gval 15).toNat 9 5
def brDec (c : Core) : Bool := bit (c.gval 15).toNat 10
def brUnpk (c : Core) : Bool := bit (c.gval 15).toNat 11

/-- Whether a space field names data space or a window of the core. -/
def spaceOk (mg : Bool) (x : Nat) : Bool := x == 0 || decide (16 ≤ x ∧ x - 16 < winCount mg)

/-- Whether g15 is a defined encoding for an instruction that uses SRC, DST and UNPK as given (R224, R263). -/
def brOk (mg : Bool) (c : Core) (useS useD unpk : Bool) : Bool :=
  field (c.gval 15).toNat 15 12 == 0 && (unpk || !brUnpk c) &&
  (if useS then spaceOk mg (sspace c) else sspace c == 0) && (if useD then spaceOk mg (dspace c) else dspace c == 0)

/-- An address moved by `k` steps in the direction of DEC (R225). -/
def brMove (c : Core) (a : Half) (k : Nat) : Half := if brDec c then a - BitVec.ofNat 16 k else a + BitVec.ofNat 16 k

/-- SRC, DST and COUNT after a step. -/
def Core.advance (c : Core) (src dst n : Nat) : Core :=
  ((c.setG 12 (.known (brMove c (c.gval 12) src))).setG 13 (.known (brMove c (c.gval 13) dst))).setG 14
    (.known (c.gval 14 - BitVec.ofNat 16 n))

/-- The check of a window word of a step (R263). -/
def State.brCheck (s : State) (n : Nat) (k : WKind) (x : Nat) (o : Half) : TX (WSpace × Nat) :=
  s.winCheck n k (Tbl.getD (s.tcore n).wins (x - 16) 0).toNat o

/-- A word of a step read from the space `x`: through a window, once no earlier access to its block is outstanding (R204). -/
def State.brRead (s : State) (env : Env) (n x : Nat) (a : Half) : TX Half :=
  if x = 0 then .ok s ((s.tcore n).dataAt a)
  else
    match s.brCheck n .load x a with
    | .exc t code => .exc t code
    | .wait => .wait
    | .ok _ (sp, b) => s.mgPerform env n .load sp b 0

/-- A word of a step written into the space `x`: through a window, a posted store (R204). -/
def State.brWrite (s : State) (n x : Nat) (a v : Half) : TX Unit :=
  if x = 0 then .ok (s.setTcore n ((s.tcore n).putData a v)) ()
  else
    match s.brCheck n .store x a with
    | .exc t code => .exc t code
    | .wait => .wait
    | .ok _ (sp, b) => .ok (s.postAccess n .store sp b v (s.tcore n) (s.tcore n).pc) ()

/-- The check alone of a word that a step will write into the space `x`. -/
def State.brMayWrite (s : State) (n x : Nat) (a : Half) : TX Unit :=
  if x = 0 then .ok s ()
  else
    match s.brCheck n .store x a with
    | .exc t code => .exc t code
    | .wait => .wait
    | .ok _ _ => .ok s ()

/-- One effect after another. -/
def TX.bind {α β : Type} (x : TX α) (f : State → α → TX β) : TX β :=
  match x with
  | .ok t a => f t a
  | .exc t c => .exc t c
  | .wait => .wait

/-- SRC, DST and COUNT advanced in the state; the block-repeat goes on. -/
def State.brNext (s : State) (n src dst k : Nat) : TX Bool :=
  .ok (s.setTcore n { (s.tcore n).advance src dst k with loading := false }) false

/-- At most `k` steps: true once COUNT is zero or a stop condition holds. A step that waits for memory is in progress on a
management core (R238). -/
def brLoop (n : Nat) (step : State → TX Bool) : Nat → State → TX Bool
  | 0, s => .ok s (decide ((s.tcore n).gval 14 = 0))
  | k + 1, s =>
    if (s.tcore n).gval 14 = 0 then .ok s true
    else
      match step s with
      | .ok t true => .ok t true
      | .ok t false => brLoop n step k t
      | .exc t c => .exc t c
      | .wait => .ok (if 128 ≤ n then s.setLoading n true else s) false

/-- A block-repeat instruction of `pops` stack operands (R225, R226, R263); `steps` bounds the steps that it performs before
the next boundary. -/
def State.blockRepeat (s : State) (op : TOp) (core steps pops : Nat) (useS useD unpk : Bool)
    (step : List Half → State → TX Bool) : Out :=
  s.taskoX core op (fun d c =>
    match knownAll [c.greg 12, c.greg 13, c.greg 14, c.greg 15] with
    | none => .wait
    | some _ =>
      if c.spec then .wait
      else if !brOk d.mg c useS useD unpk then .exc s TF.ILLEGAL_INSTRUCTION
      else
        match c.pop pops (fun v _ => TR.ok v) with
        | .exc code => .exc s code
        | .wait => .wait
        | .ok v =>
          (brLoop core (step v) steps s).bind (fun t fin =>
            if fin then TR.on t core ((t.tcore core).take pops (fun _ c1 => { c1 with loading := false }.finish d.next))
            else .ok t ()))

/-- MOVW (R225). -/
def execMovw (core steps : Nat) (env : Env) (s : State) : Out :=
  s.blockRepeat .movw core steps 0 true true false (fun _ t =>
    let c := t.tcore core
    (t.brRead env core (sspace c) (c.gval 12)).bind (fun u x =>
      (u.brWrite core (dspace c) (c.gval 13) x).bind (fun w _ => w.brNext core 1 1 1)))

/-- FILLW (R225). -/
def execFillw (core steps : Nat) (_env : Env) (s : State) : Out :=
  s.blockRepeat .fillw core steps 1 false true false (fun v t =>
    let c := t.tcore core
    (t.brWrite core (dspace c) (c.gval 13) (v.getD 0 0)).bind (fun w _ => w.brNext core 0 1 1))

/-- CMPW (R225). -/
def execCmpw (core steps : Nat) (env : Env) (s : State) : Out :=
  s.blockRepeat .cmpw core steps 0 true true false (fun _ t =>
    let c := t.tcore core
    (t.brRead env core (sspace c) (c.gval 12)).bind (fun u x =>
      (u.brRead env core (dspace c) (c.gval 13)).bind (fun w y =>
        if x = y then w.brNext core 1 1 1 else .ok w true)))

/-- SCANW (R225): s0 is the key, s1 the mask. -/
def execScanw (core steps : Nat) (env : Env) (s : State) : Out :=
  s.blockRepeat .scanw core steps 2 true false false (fun v t =>
    let c := t.tcore core
    let m := v.getD 1 0
    (t.brRead env core (sspace c) (c.gval 12)).bind (fun u x =>
      if x &&& m = v.getD 0 0 &&& m then .ok u true else u.brNext core 1 0 1))

/-- A PACKW step with UNPK = 0. -/
def State.packStep (t : State) (env : Env) (core : Nat) : TX Bool :=
  let c := t.tcore core
  (t.brRead env core (sspace c) (c.gval 12)).bind (fun u x =>
    if c.gval 14 = 1 then
      (u.brWrite core (dspace c) (c.gval 13) (x &&& 0xFF)).bind (fun w _ => w.brNext core 2 1 1)
    else
      (u.brRead env core (sspace c) (brMove c (c.gval 12) 1)).bind (fun u2 y =>
        (u2.brWrite core (dspace c) (c.gval 13) ((x &&& 0xFF) + (y &&& 0xFF) <<< 8)).bind (fun w _ => w.brNext core 2 1 2)))

/-- A PACKW step with UNPK = 1: both halves are checked before either is written, so that a step that faults or waits writes
nothing (R226). -/
def State.unpackStep (t : State) (env : Env) (core : Nat) : TX Bool :=
  let c := t.tcore core
  let second := brMove c (c.gval 13) 1
  (t.brRead env core (sspace c) (c.gval 12)).bind (fun u x =>
    if c.gval 14 = 1 then
      (u.brWrite core (dspace c) (c.gval 13) (x &&& 0xFF)).bind (fun w _ => w.brNext core 1 2 1)
    else
      (u.brMayWrite core (dspace c) (c.gval 13)).bind (fun u1 _ =>
        (u1.brMayWrite core (dspace c) second).bind (fun u2 _ =>
          (u2.brWrite core (dspace c) (c.gval 13) (x &&& 0xFF)).bind (fun u3 _ =>
            (u3.brWrite core (dspace c) second (x >>> 8)).bind (fun w _ => w.brNext core 1 2 2)))))

/-- PACKW (R225). -/
def execPackw (core steps : Nat) (env : Env) (s : State) : Out :=
  s.blockRepeat .packw core steps 0 true true true (fun _ t =>
    if brUnpk (t.tcore core) then t.unpackStep env core else t.packStep env core)

/-! Interrupts and undefined words. -/

/-- INTERRUPT_LINE_PULSE (R237, R586): lines 14 to 31 never pulse. -/
def execInterruptLinePulse (core line : Nat) (s : State) : Out :=
  when (128 ≤ core ∧ core < 132 ∧ line < 14) (
    let c := s.tcore core
    s.setTcore core { c with ipend := setField c.ipend line line 1 }) s

/-- INTERRUPT_ENTRY (R238 to R240, R250): the lowest pending and enabled line. A WAITI in progress completes first. -/
def execInterruptEntry (core : Nat) (s : State) : Out :=
  when (core < 132 ∧ s.intDue core = true ∧ (s.tcore core).run = .running) (
    let c := s.tcore core
    match firstBelow 32 (fun i => bit c.lines i) with
    | some i => s.setTcore core (c.enter (if c.waiting then c.pc + 1 else c.pc) (0x20 + i))
    | none => s) s

/-- UNDEFINED_INSTRUCTION (R198, R233, R241, R242): an undefined word, or a word at or beyond WORDS, raises
ILLEGAL_INSTRUCTION. -/
def execUndefinedInstruction (core : Nat) (s : State) : Out :=
  .next (
    match s.tfetch core with
    | some none => s.texc core TF.ILLEGAL_INSTRUCTION (s.tcore core).pc (s.tcore core).pc
    | _ => s)

end Sys2Proof.Machine
end

