-- ==== Sys2Proof/Machine/Dispatch.lean ====
section
/-! DEFINITION. One arm per command: the one meaning it calls. -/

namespace Sys2Proof.Machine

def exec (i : Instr) (s : State) : Host.Outcome State Fault Refusal :=
  match i with
  | .registerWrite who off bytes v => Sys2Proof.Machine.execRegisterWrite who off bytes v s
  | .paceSample mon chains => Sys2Proof.Machine.execPaceSample mon chains s
  | .paceCtlWrite who v => Sys2Proof.Machine.execPaceCtlWrite who v s
  | .clrExt => Sys2Proof.Machine.execClrExt s
  | .pllUnlock => Sys2Proof.Machine.execPllUnlock s
  | .pllRelock => Sys2Proof.Machine.execPllRelock s
  | .timebaseLowRead who => Sys2Proof.Machine.execTimebaseLowRead who s
  | .applyStep => Sys2Proof.Machine.execApplyStep s
  | .todSlewTick ns => Sys2Proof.Machine.execTodSlewTick ns s
  | .powerDecision compute io => Sys2Proof.Machine.execPowerDecision compute io s
  | .fumPwrCapWrite who v => Sys2Proof.Machine.execFumPwrCapWrite who v s
  | .thermEmerg tj => Sys2Proof.Machine.execThermEmerg tj s
  | .thermtrip tj => Sys2Proof.Machine.execThermtrip tj s
  | .vcbFrame cd tlm => Sys2Proof.Machine.execVcbFrame cd tlm s
  | .vcbAlert rail asserted => Sys2Proof.Machine.execVcbAlert rail asserted s
  | .doorbellWrite fn off bytes v => Sys2Proof.Machine.execDoorbellWrite fn off bytes v s
  | .ringIndexWrite who v => Sys2Proof.Machine.execRingIndexWrite who v s
  | .nvmeDoorbell fn off v => Sys2Proof.Machine.execNvmeDoorbell fn off v s
  | .ringArbitration env => Sys2Proof.Machine.execRingArbitration env s
  | .clauseArrival slot => Sys2Proof.Machine.execClauseArrival slot s
  | .heldClauseDispatch ring => Sys2Proof.Machine.execHeldClauseDispatch ring s
  | .completionPost src env => Sys2Proof.Machine.execCompletionPost src env s
  | .heldCompletionPost cq env => Sys2Proof.Machine.execHeldCompletionPost cq env s
  | .nopClause ring => Sys2Proof.Machine.execNopClause ring s
  | .copy slot env => Sys2Proof.Machine.execCopy slot env s
  | .fill slot env => Sys2Proof.Machine.execFill slot env s
  | .fence ring => Sys2Proof.Machine.execFence ring s
  | .fenceFn ring => Sys2Proof.Machine.execFenceFn ring s
  | .barrier ring => Sys2Proof.Machine.execBarrier ring s
  | .wait ring => Sys2Proof.Machine.execWait ring s
  | .signal ring => Sys2Proof.Machine.execSignal ring s
  | .set ring => Sys2Proof.Machine.execSet ring s
  | .waitTimeout ring => Sys2Proof.Machine.execWaitTimeout ring s
  | .moderationTimer cq => Sys2Proof.Machine.execModerationTimer cq s
  | .ringCreate fn => Sys2Proof.Machine.execRingCreate fn s
  | .ringDestroy fn => Sys2Proof.Machine.execRingDestroy fn s
  | .ringReset fn => Sys2Proof.Machine.execRingReset fn s
  | .ringDrainDone pool ring => Sys2Proof.Machine.execRingDrainDone pool ring s
  | .resume fn => Sys2Proof.Machine.execResume fn s
  | .setPrio fn => Sys2Proof.Machine.execSetPrio fn s
  | .setMod fn => Sys2Proof.Machine.execSetMod fn s
  | .launch slot => Sys2Proof.Machine.execLaunch slot s
  | .launchLoadDone slot env => Sys2Proof.Machine.execLaunchLoadDone slot env s
  | .tileSendClause slot => Sys2Proof.Machine.execTileSendClause slot s
  | .abort slot => Sys2Proof.Machine.execAbort slot s
  | .launchTimeout lead => Sys2Proof.Machine.execLaunchTimeout lead s
  | .tileFault tile => Sys2Proof.Machine.execTileFault tile s
  | .roleRelease lead => Sys2Proof.Machine.execRoleRelease lead s
  | .unitCompletion tile tag => Sys2Proof.Machine.execUnitCompletion tile tag s
  | .ldw tile tag env => Sys2Proof.Machine.execLdw tile tag env s
  | .mma tile tag env => Sys2Proof.Machine.execMma tile tag env s
  | .ew tile tag env => Sys2Proof.Machine.execEw tile tag env s
  | .scalar tile tag env => Sys2Proof.Machine.execScalar tile tag env s
  | .curve tile tag env => Sys2Proof.Machine.execCurve tile tag env s
  | .accrd tile tag env => Sys2Proof.Machine.execAccrd tile tag env s
  | .reduce tile tag env => Sys2Proof.Machine.execReduce tile tag env s
  | .cvt tile tag env => Sys2Proof.Machine.execCvt tile tag env s
  | .get tile tag env => Sys2Proof.Machine.execGet tile tag env s
  | .put tile tag env => Sys2Proof.Machine.execPut tile tag env s
  | .evadd tile tag => Sys2Proof.Machine.execEvadd tile tag s
  | .send tile tag env => Sys2Proof.Machine.execSend tile tag env s
  | .messageDeliver tile tag => Sys2Proof.Machine.execMessageDeliver tile tag s
  | .msgrd tile tag => Sys2Proof.Machine.execMsgrd tile tag s
  | .seta tile tag => Sys2Proof.Machine.execSeta tile tag s
  | .lddec tile tag env => Sys2Proof.Machine.execLddec tile tag env s
  | .ldenc tile tag env => Sys2Proof.Machine.execLdenc tile tag env s
  | .ldctl tile tag env => Sys2Proof.Machine.execLdctl tile tag env s
  | .ldcrv tile tag env => Sys2Proof.Machine.execLdcrv tile tag env s
  | .endTile core => Sys2Proof.Machine.execEndTile core s
  | .faultInstr core => Sys2Proof.Machine.execFaultInstr core s
  | .sync core => Sys2Proof.Machine.execSync core s
  | .ret core => Sys2Proof.Machine.execRet core s
  | .jmps core => Sys2Proof.Machine.execJmps core s
  | .calls core => Sys2Proof.Machine.execCalls core s
  | .nop core => Sys2Proof.Machine.execNop core s
  | .ei core => Sys2Proof.Machine.execEi core s
  | .di core => Sys2Proof.Machine.execDi core s
  | .reti core => Sys2Proof.Machine.execReti core s
  | .waiti core => Sys2Proof.Machine.execWaiti core s
  | .jmpl core => Sys2Proof.Machine.execJmpl core s
  | .calll core => Sys2Proof.Machine.execCalll core s
  | .bzl core => Sys2Proof.Machine.execBzl core s
  | .bnzl core => Sys2Proof.Machine.execBnzl core s
  | .bz core => Sys2Proof.Machine.execBz core s
  | .bnz core => Sys2Proof.Machine.execBnz core s
  | .jmp core => Sys2Proof.Machine.execJmp core s
  | .call core => Sys2Proof.Machine.execCall core s
  | .pushi core => Sys2Proof.Machine.execPushi core s
  | .pushi2 core => Sys2Proof.Machine.execPushi2 core s
  | .pushs core => Sys2Proof.Machine.execPushs core s
  | .dup core => Sys2Proof.Machine.execDup core s
  | .drop core => Sys2Proof.Machine.execDrop core s
  | .swap core => Sys2Proof.Machine.execSwap core s
  | .over core => Sys2Proof.Machine.execOver core s
  | .rot core => Sys2Proof.Machine.execRot core s
  | .nip core => Sys2Proof.Machine.execNip core s
  | .pick core => Sys2Proof.Machine.execPick core s
  | .add core => Sys2Proof.Machine.execAdd core s
  | .sub core => Sys2Proof.Machine.execSub core s
  | .addc core => Sys2Proof.Machine.execAddc core s
  | .subb core => Sys2Proof.Machine.execSubb core s
  | .mul core => Sys2Proof.Machine.execMul core s
  | .mulh core => Sys2Proof.Machine.execMulh core s
  | .and core => Sys2Proof.Machine.execAnd core s
  | .or core => Sys2Proof.Machine.execOr core s
  | .xor core => Sys2Proof.Machine.execXor core s
  | .not core => Sys2Proof.Machine.execNot core s
  | .neg core => Sys2Proof.Machine.execNeg core s
  | .shl core => Sys2Proof.Machine.execShl core s
  | .shr core => Sys2Proof.Machine.execShr core s
  | .sar core => Sys2Proof.Machine.execSar core s
  | .ceq core => Sys2Proof.Machine.execCeq core s
  | .cne core => Sys2Proof.Machine.execCne core s
  | .cltu core => Sys2Proof.Machine.execCltu core s
  | .cleu core => Sys2Proof.Machine.execCleu core s
  | .clts core => Sys2Proof.Machine.execClts core s
  | .cles core => Sys2Proof.Machine.execCles core s
  | .cz core => Sys2Proof.Machine.execCz core s
  | .pushg core => Sys2Proof.Machine.execPushg core s
  | .popg core => Sys2Proof.Machine.execPopg core s
  | .incg core => Sys2Proof.Machine.execIncg core s
  | .decg core => Sys2Proof.Machine.execDecg core s
  | .ld core => Sys2Proof.Machine.execLd core s
  | .st core => Sys2Proof.Machine.execSt core s
  | .tas core env => Sys2Proof.Machine.execTas core env s
  | .ldr core env => Sys2Proof.Machine.execLdr core env s
  | .stc core env => Sys2Proof.Machine.execStc core env s
  | .ldx core env => Sys2Proof.Machine.execLdx core env s
  | .stx core env => Sys2Proof.Machine.execStx core env s
  | .windowAccessReturn core idx env => Sys2Proof.Machine.execWindowAccessReturn core idx env s
  | .setw core => Sys2Proof.Machine.execSetw core s
  | .mfs core => Sys2Proof.Machine.execMfs core s
  | .mts core => Sys2Proof.Machine.execMts core s
  | .issue core => Sys2Proof.Machine.execIssue core s
  | .issuex core => Sys2Proof.Machine.execIssuex core s
  | .waitu core => Sys2Proof.Machine.execWaitu core s
  | .movw core steps env => Sys2Proof.Machine.execMovw core steps env s
  | .fillw core steps env => Sys2Proof.Machine.execFillw core steps env s
  | .cmpw core steps env => Sys2Proof.Machine.execCmpw core steps env s
  | .scanw core steps env => Sys2Proof.Machine.execScanw core steps env s
  | .packw core steps env => Sys2Proof.Machine.execPackw core steps env s
  | .interruptLinePulse core line => Sys2Proof.Machine.execInterruptLinePulse core line s
  | .interruptEntry core => Sys2Proof.Machine.execInterruptEntry core s
  | .gather src work => Sys2Proof.Machine.execGather src work s
  | .scatter src work => Sys2Proof.Machine.execScatter src work s
  | .hins src work => Sys2Proof.Machine.execHins src work s
  | .hprobe src work => Sys2Proof.Machine.execHprobe src work s
  | .hdel src work => Sys2Proof.Machine.execHdel src work s
  | .sort src work => Sys2Proof.Machine.execSort src work s
  | .merge src work => Sys2Proof.Machine.execMerge src work s
  | .segred src work => Sys2Proof.Machine.execSegred src work s
  | .segscan src work => Sys2Proof.Machine.execSegscan src work s
  | .setop src work => Sys2Proof.Machine.execSetop src work s
  | .hsetop src work => Sys2Proof.Machine.execHsetop src work s
  | .frontier src picks env => Sys2Proof.Machine.execFrontier src picks env s
  | .geyserOpAdmit src => Sys2Proof.Machine.execGeyserOpAdmit src s
  | .geyserOpComplete src => Sys2Proof.Machine.execGeyserOpComplete src s
  | .bandModeWrite who k v => Sys2Proof.Machine.execBandModeWrite who k v s
  | .bandModeApply band => Sys2Proof.Machine.execBandModeApply band s
  | .refreshIssue unit => Sys2Proof.Machine.execRefreshIssue unit s
  | .refreshRateChange unit temp => Sys2Proof.Machine.execRefreshRateChange unit temp s
  | .scrubBurst unit ecc => Sys2Proof.Machine.execScrubBurst unit ecc s
  | .retrainTrigger unit temp linkErrs => Sys2Proof.Machine.execRetrainTrigger unit temp linkErrs s
  | .retrainDone unit us => Sys2Proof.Machine.execRetrainDone unit us s
  | .windowRuleChange who off v => Sys2Proof.Machine.execWindowRuleChange who off v s
  | .xltBaseWrite who v => Sys2Proof.Machine.execXltBaseWrite who v s
  | .xltInvalidate fn => Sys2Proof.Machine.execXltInvalidate fn s
  | .buddyApply => Sys2Proof.Machine.execBuddyApply s
  | .maintRequest act unit => Sys2Proof.Machine.execMaintRequest act unit s
  | .maintEnd act unit => Sys2Proof.Machine.execMaintEnd act unit s
  | .functionLevelReset fn => Sys2Proof.Machine.execFunctionLevelReset fn s
  | .fnResetCmd fn => Sys2Proof.Machine.execFnResetCmd fn s
  | .vfEnableClear => Sys2Proof.Machine.execVfEnableClear s
  | .vfEnableSet on => Sys2Proof.Machine.execVfEnableSet on s
  | .hotReset => Sys2Proof.Machine.execHotReset s
  | .fnResetDrainDone fn => Sys2Proof.Machine.execFnResetDrainDone fn s
  | .fnResetCut fn => Sys2Proof.Machine.execFnResetCut fn s
  | .hostCompletionArrive tag status data => Sys2Proof.Machine.execHostCompletionArrive tag status data s
  | .completionTimeout tag => Sys2Proof.Machine.execCompletionTimeout tag s
  | .unexpectedCompletion fn tag => Sys2Proof.Machine.execUnexpectedCompletion fn tag s
  | .msixUnmask fn what => Sys2Proof.Machine.execMsixUnmask fn what s
  | .intxCauseClear k v => Sys2Proof.Machine.execIntxCauseClear k v s
  | .powerStateChange fn d3hot => Sys2Proof.Machine.execPowerStateChange fn d3hot s
  | .l1Entry aspm => Sys2Proof.Machine.execL1Entry aspm s
  | .l1Exit => Sys2Proof.Machine.execL1Exit s
  | .l0pWindow util seen => Sys2Proof.Machine.execL0pWindow util seen s
  | .dpPresenceChange port present => Sys2Proof.Machine.execDpPresenceChange port present s
  | .dpError port => Sys2Proof.Machine.execDpError port s
  | .ccEnSet fn cc aqa asq acq => Sys2Proof.Machine.execCcEnSet fn cc aqa asq acq s
  | .ccEnClear fn => Sys2Proof.Machine.execCcEnClear fn s
  | .controllerResetCut fn => Sys2Proof.Machine.execControllerResetCut fn s
  | .createIoSq slot => Sys2Proof.Machine.execCreateIoSq slot s
  | .deleteIoSq slot => Sys2Proof.Machine.execDeleteIoSq slot s
  | .createIoCq slot => Sys2Proof.Machine.execCreateIoCq slot s
  | .deleteIoCq slot => Sys2Proof.Machine.execDeleteIoCq slot s
  | .getLogPage slot env => Sys2Proof.Machine.execGetLogPage slot env s
  | .identify slot env => Sys2Proof.Machine.execIdentify slot env s
  | .nvmeAbort slot => Sys2Proof.Machine.execNvmeAbort slot s
  | .setFeatures slot env => Sys2Proof.Machine.execSetFeatures slot env s
  | .getFeatures slot env => Sys2Proof.Machine.execGetFeatures slot env s
  | .asynchronousEventRequest slot => Sys2Proof.Machine.execAsynchronousEventRequest slot s
  | .clearIndeterminateRange slot => Sys2Proof.Machine.execClearIndeterminateRange slot s
  | .nvmeFlush slot => Sys2Proof.Machine.execNvmeFlush slot s
  | .nvmeWrite slot env => Sys2Proof.Machine.execNvmeWrite slot env s
  | .nvmeRead slot env => Sys2Proof.Machine.execNvmeRead slot env s
  | .writeZeroes slot env => Sys2Proof.Machine.execWriteZeroes slot env s
  | .datasetManagement slot env => Sys2Proof.Machine.execDatasetManagement slot env s
  | .rangeLockGrant entry env => Sys2Proof.Machine.execRangeLockGrant entry env s
  | .backingCompletion id st failAt data mdata env => Sys2Proof.Machine.execBackingCompletion id st failAt data mdata env s
  | .backingTimeout id => Sys2Proof.Machine.execBackingTimeout id s
  | .backingAbortTimeout id => Sys2Proof.Machine.execBackingAbortTimeout id s
  | .driveRemoved port => Sys2Proof.Machine.execDriveRemoved port s
  | .remotePathLost qp => Sys2Proof.Machine.execRemotePathLost qp s
  | .driveReady port serial lbas rate width => Sys2Proof.Machine.execDriveReady port serial lbas rate width s
  | .nsCreate => Sys2Proof.Machine.execNsCreate s
  | .nsDelete => Sys2Proof.Machine.execNsDelete s
  | .nsAttach => Sys2Proof.Machine.execNsAttach s
  | .nsDetach => Sys2Proof.Machine.execNsDetach s
  | .cacheCtlWrite who v => Sys2Proof.Machine.execCacheCtlWrite who v s
  | .feed slot env => Sys2Proof.Machine.execFeed slot env s
  | .frameReceive port bytes how => Sys2Proof.Machine.execFrameReceive port bytes how s
  | .pfcFrameReceive port prio quanta => Sys2Proof.Machine.execPfcFrameReceive port prio quanta s
  | .reorderDeliver port env => Sys2Proof.Machine.execReorderDeliver port env s
  | .quadModeChange who v => Sys2Proof.Machine.execQuadModeChange who v s
  | .linkChange port up => Sys2Proof.Machine.execLinkChange port up s
  | .fragmentHoldExpiry => Sys2Proof.Machine.execFragmentHoldExpiry s
  | .fragmentEntryExpiry => Sys2Proof.Machine.execFragmentEntryExpiry s
  | .tableLoad env => Sys2Proof.Machine.execTableLoad env s
  | .tableSwap => Sys2Proof.Machine.execTableSwap s
  | .tableSwapDone => Sys2Proof.Machine.execTableSwapDone s
  | .flowInsert env => Sys2Proof.Machine.execFlowInsert env s
  | .flowDelete env => Sys2Proof.Machine.execFlowDelete env s
  | .flowQuery env => Sys2Proof.Machine.execFlowQuery env s
  | .flowAgeSweep => Sys2Proof.Machine.execFlowAgeSweep s
  | .flowMemWrite who v => Sys2Proof.Machine.execFlowMemWrite who v s
  | .qpCreate fn env => Sys2Proof.Machine.execQpCreate fn env s
  | .qpModify fn env => Sys2Proof.Machine.execQpModify fn env s
  | .qpDestroy fn => Sys2Proof.Machine.execQpDestroy fn s
  | .qpQuery fn env => Sys2Proof.Machine.execQpQuery fn env s
  | .regionCreate fn env => Sys2Proof.Machine.execRegionCreate fn env s
  | .regionDestroy fn => Sys2Proof.Machine.execRegionDestroy fn s
  | .regionQuery fn env => Sys2Proof.Machine.execRegionQuery fn env s
  | .peerCreate fn env => Sys2Proof.Machine.execPeerCreate fn env s
  | .peerDestroy fn => Sys2Proof.Machine.execPeerDestroy fn s
  | .peerQuery fn env => Sys2Proof.Machine.execPeerQuery fn env s
  | .groupCreate fn env => Sys2Proof.Machine.execGroupCreate fn env s
  | .groupDestroy fn => Sys2Proof.Machine.execGroupDestroy fn s
  | .groupQuery fn env => Sys2Proof.Machine.execGroupQuery fn env s
  | .rdmaSend slot env => Sys2Proof.Machine.execRdmaSend slot env s
  | .sendImm slot env => Sys2Proof.Machine.execSendImm slot env s
  | .rdmaWrite slot env => Sys2Proof.Machine.execRdmaWrite slot env s
  | .writeImm slot env => Sys2Proof.Machine.execWriteImm slot env s
  | .rdmaRead slot env => Sys2Proof.Machine.execRdmaRead slot env s
  | .tsend slot env => Sys2Proof.Machine.execTsend slot env s
  | .frame slot env => Sys2Proof.Machine.execFrame slot env s
  | .recv slot => Sys2Proof.Machine.execRecv slot s
  | .trecv slot => Sys2Proof.Machine.execTrecv slot s
  | .rcPacketReceive env => Sys2Proof.Machine.execRcPacketReceive env s
  | .ackReceive env => Sys2Proof.Machine.execAckReceive env s
  | .ackDelayExpiry qp => Sys2Proof.Machine.execAckDelayExpiry qp s
  | .retransmitTimeout qp env => Sys2Proof.Machine.execRetransmitTimeout qp env s
  | .rnrWaitExpiry qp env => Sys2Proof.Machine.execRnrWaitExpiry qp env s
  | .cnpReceive => Sys2Proof.Machine.execCnpReceive s
  | .alphaTimer qp => Sys2Proof.Machine.execAlphaTimer qp s
  | .rateIncrease qp => Sys2Proof.Machine.execRateIncrease qp s
  | .creditRequestReceive => Sys2Proof.Machine.execCreditRequestReceive s
  | .creditGrant port tc => Sys2Proof.Machine.execCreditGrant port tc s
  | .creditGrantReceive env => Sys2Proof.Machine.execCreditGrantReceive env s
  | .creditExpiry qp env => Sys2Proof.Machine.execCreditExpiry qp env s
  | .creditReturn => Sys2Proof.Machine.execCreditReturn s
  | .helloSend => Sys2Proof.Machine.execHelloSend s
  | .helloReceive => Sys2Proof.Machine.execHelloReceive s
  | .peerDeadTimeout peer => Sys2Proof.Machine.execPeerDeadTimeout peer s
  | .reduceScatter slot env => Sys2Proof.Machine.execReduceScatter slot env s
  | .allGather slot env => Sys2Proof.Machine.execAllGather slot env s
  | .allReduce slot env => Sys2Proof.Machine.execAllReduce slot env s
  | .broadcast slot env => Sys2Proof.Machine.execBroadcast slot env s
  | .allToAll slot env => Sys2Proof.Machine.execAllToAll slot env s
  | .collectiveTimeout group => Sys2Proof.Machine.execCollectiveTimeout group s
  | .abortNoticeReceive => Sys2Proof.Machine.execAbortNoticeReceive s
  | .shaperRefill => Sys2Proof.Machine.execShaperRefill s
  | .portTransmitStart port env => Sys2Proof.Machine.execPortTransmitStart port env s
  | .rawFrameTimeout => Sys2Proof.Machine.execRawFrameTimeout s
  | .gateApply port => Sys2Proof.Machine.execGateApply port s
  | .gateListSwitch port => Sys2Proof.Machine.execGateListSwitch port s
  | .pauseExpiry port prio => Sys2Proof.Machine.execPauseExpiry port prio s
  | .kload slot env => Sys2Proof.Machine.execKload slot env s
  | .krevoke slot => Sys2Proof.Machine.execKrevoke slot s
  | .revocationComplete keySlot => Sys2Proof.Machine.execRevocationComplete keySlot s
  | .kquery slot => Sys2Proof.Machine.execKquery slot s
  | .pkgLoad slot env => Sys2Proof.Machine.execPkgLoad slot env s
  | .proveNonce slot env => Sys2Proof.Machine.execProveNonce slot env s
  | .prove slot env => Sys2Proof.Machine.execProve slot env s
  | .spiRxWrite who v => Sys2Proof.Machine.execSpiRxWrite who v s
  | .mailboxGo => Sys2Proof.Machine.execMailboxGo s
  | .sidebandMctp m => Sys2Proof.Machine.execSidebandMctp m s
  | .spdmRequest request => Sys2Proof.Machine.execSpdmRequest request s
  | .setCmdKey flashOk actionOk => Sys2Proof.Machine.execSetCmdKey flashOk actionOk s
  | .fwUpdate env flashOk actionOk => Sys2Proof.Machine.execFwUpdate env flashOk actionOk s
  | .keyProvision flashOk => Sys2Proof.Machine.execKeyProvision flashOk s
  | .keyProvisionSigner flashOk => Sys2Proof.Machine.execKeyProvisionSigner flashOk s
  | .fuseProgramRollback flashOk => Sys2Proof.Machine.execFuseProgramRollback flashOk s
  | .fuseProgramOwner flashOk => Sys2Proof.Machine.execFuseProgramOwner flashOk s
  | .fuseProgramDebugDisable flashOk => Sys2Proof.Machine.execFuseProgramDebugDisable flashOk s
  | .debugUnlock flashOk => Sys2Proof.Machine.execDebugUnlock flashOk s
  | .debugLock flashOk => Sys2Proof.Machine.execDebugLock flashOk s
  | .setMembership flashOk => Sys2Proof.Machine.execSetMembership flashOk s
  | .tenancySwitch flashOk => Sys2Proof.Machine.execTenancySwitch flashOk s
  | .sinterExportSign flashOk => Sys2Proof.Machine.execSinterExportSign flashOk s
  | .arm slot env => Sys2Proof.Machine.execArm slot env s
  | .restore slot => Sys2Proof.Machine.execRestore slot s
  | .exportClause slot env => Sys2Proof.Machine.execExportClause slot env s
  | .triggerSample env => Sys2Proof.Machine.execTriggerSample env s
  | .openMsg => Sys2Proof.Machine.execOpenMsg s
  | .accept => Sys2Proof.Machine.execAccept s
  | .refuse => Sys2Proof.Machine.execRefuse s
  | .dataMsg => Sys2Proof.Machine.execDataMsg s
  | .sealMsg env => Sys2Proof.Machine.execSealMsg env s
  | .sealed env => Sys2Proof.Machine.execSealed env s
  | .fetch env => Sys2Proof.Machine.execFetch env s
  | .doneMsg env => Sys2Proof.Machine.execDoneMsg env s
  | .openTimeout => Sys2Proof.Machine.execOpenTimeout s
  | .powerOn tj noise smbStraps => Sys2Proof.Machine.execPowerOn tj noise smbStraps s
  | .fuseRead tj noise => Sys2Proof.Machine.execFuseRead tj noise s
  | .memoryInitDone populated perChGib => Sys2Proof.Machine.execMemoryInitDone populated perChGib s
  | .perstAssert => Sys2Proof.Machine.execPerstAssert s
  | .perstDeassert => Sys2Proof.Machine.execPerstDeassert s
  | .perstHeld => Sys2Proof.Machine.execPerstHeld s
  | .watchdog => Sys2Proof.Machine.execWatchdog s
  | .kick => Sys2Proof.Machine.execKick s
  | .domainRequest who v => Sys2Proof.Machine.execDomainRequest who v s
  | .domainReady d => Sys2Proof.Machine.execDomainReady d s
  | .domainSwitchOff d => Sys2Proof.Machine.execDomainSwitchOff d s
  | .pwrfail => Sys2Proof.Machine.execPwrfail s
  | .corePgRise => Sys2Proof.Machine.execCorePgRise s
  | .corePgFall => Sys2Proof.Machine.execCorePgFall s
  | .smbusTargetTimeout => Sys2Proof.Machine.execSmbusTargetTimeout s
  | .sensorBusStuck high => Sys2Proof.Machine.execSensorBusStuck high s
  | .sensorBusRetry high => Sys2Proof.Machine.execSensorBusRetry high s
  | .vstatus => Sys2Proof.Machine.execVstatus s
  | .vsinter code => Sys2Proof.Machine.execVsinter code s
  | .vgroup g => Sys2Proof.Machine.execVgroup g s
  | .periodicSnapshot bytes => Sys2Proof.Machine.execPeriodicSnapshot bytes s
  | .sinterExport env => Sys2Proof.Machine.execSinterExport env s
  | .crcLoad unit => Sys2Proof.Machine.execCrcLoad unit s
  | .logEntryWrite sev core trace id arg0 arg1 env => Sys2Proof.Machine.execLogEntryWrite sev core trace id arg0 arg1 env s
  | .ventSample sample => Sys2Proof.Machine.execVentSample sample s
  | .powerLoss => Sys2Proof.Machine.execPowerLoss s
  | .upstreamLinkTrained link cfg => Sys2Proof.Machine.execUpstreamLinkTrained link cfg s
  | .interruptDisableClear => Sys2Proof.Machine.execInterruptDisableClear s
  | .discoveryDisable who v => Sys2Proof.Machine.execDiscoveryDisable who v s
  | .logRingEnable who v => Sys2Proof.Machine.execLogRingEnable who v s
  | .gateEntryAdvance port => Sys2Proof.Machine.execGateEntryAdvance port s
  | .autonomousPowerStateTransition fn idleMs => Sys2Proof.Machine.execAutonomousPowerStateTransition fn idleMs s
  | .extest => Sys2Proof.Machine.execExtest s
  | .driveMemoryRequest port addr => Sys2Proof.Machine.execDriveMemoryRequest port addr s
  | .undefinedInstruction core => Sys2Proof.Machine.execUndefinedInstruction core s

end Sys2Proof.Machine
end

