-- ==== Sys2Proof/Machine/Step.lean ====
section
/-! DEFINITION. One step of the K7: the command at the front of the queue. -/

namespace Sys2Proof.Machine

/-- One step: the command that waits longest has its effect. With no command waiting the K7 idles. -/
def step (s : State) : Host.Outcome State Fault Refusal :=
  match s.pending with
  | [] => .next s
  | c :: rest => exec c { s with pending := rest }

/-- `s` with the command that a word spells put at the front of its queue; `s` itself where it spells none. -/
def State.withFetchWord (s : State) (nbits w : Nat) : State :=
  match decodeTableWord nbits w with
  | some c => { s with pending := c :: s.pending }
  | none => s

end Sys2Proof.Machine
end

