-- ==== Sys2Proof/Safety.lean ====
section
/-! DEFINITION. What a safe step is, and the predicates that claims about every state use. -/

namespace Sys2Proof.Machine

/-- The outcome is a next state. -/
def Answers (o : Host.Outcome State Fault Refusal) : Prop := ∃ t, o = .next t

/-- The machine can step: it neither faults nor refuses. -/
def State.Safe (s : State) : Prop := Answers (step s)

/-- Command `c` at `s` answers a next state that satisfies `P`. -/
def Leads (c : Instr) (s : State) (P : State → Prop) : Prop := ∃ t, exec c s = .next t ∧ P t

/-- Every register field but those whose keys are listed reads at `t` as at `s`. -/
def FieldsKept (s t : State) (keys : List Nat) : Prop := ∀ g j, Fld.key g j ∉ keys → t.fld g j = s.fld g j

/-- Core `n` runs, and the instruction at its pc decodes as `d`, of operation `op`. -/
def State.executes (s : State) (n : Nat) (op : TOp) (d : TDec) : Prop := s.tfetch n = some (some d) ∧ d.i.op = op

/-- A refill of the stack at the end of an instruction waits for no branch (R207, R219). -/
def Core.settled (c : Core) : Prop := c.specs = [] ∨ c.sp = c.sb

/-- The core with other entries in its hardware stack. -/
def Core.withStack (c : Core) (l : List TVal) : Core := { c with stack := l }

/-- The core at the end of an instruction: its stack refilled (R207), going on at `pc`. -/
def Core.endsAt (c : Core) (pc : Half) : Core := { Core.refill 16 c with pc := pc }

/-- The instructions of operation `op` push `f`, the value of s0 first, and change nothing else. -/
def Pushes (mk : Nat → Instr) (op : TOp) (f : TDec → Core → List Half) : Prop :=
  ∀ s n d, s.executes n op d → (s.tcore n).settled →
    (s.tcore n).stack.length + (f d (s.tcore n)).length ≤ 16 →
    exec (mk n) s = .next (s.setTcore n
      (((s.tcore n).withStack ((f d (s.tcore n)).map .known ++ (s.tcore n).stack)).endsAt d.next))

/-- The instructions of operation `op` replace the entry a at s0 by `f a`, the value of s0 first, and change nothing else. -/
def Replaces1 (mk : Nat → Instr) (op : TOp) (f : Core → Half → List Half) : Prop :=
  ∀ s n d a rest, s.executes n op d → (s.tcore n).stack = .known a :: rest → (s.tcore n).settled →
    rest.length + (f (s.tcore n) a).length ≤ 16 →
    exec (mk n) s = .next (s.setTcore n
      (((s.tcore n).withStack ((f (s.tcore n) a).map .known ++ rest)).endsAt d.next))

/-- The instructions of operation `op` replace the entries b and a, a at s0, by `f b a`, the value of s0 first, and change
nothing else. -/
def Replaces2 (mk : Nat → Instr) (op : TOp) (f : Half → Half → List Half) : Prop :=
  ∀ s n d b a rest, s.executes n op d → (s.tcore n).stack = .known a :: .known b :: rest → (s.tcore n).settled →
    rest.length + (f b a).length ≤ 16 →
    exec (mk n) s = .next (s.setTcore n (((s.tcore n).withStack ((f b a).map .known ++ rest)).endsAt d.next))

/-- The instructions of operation `op` end with the core changed by `f` where `P` holds: no entry is popped or pushed, so
nothing is refilled. -/
def CoreBecomes (mk : Nat → Instr) (op : TOp) (P : State → TDec → Core → Prop) (f : TDec → Core → Core) : Prop :=
  ∀ s n d, s.executes n op d → P s d (s.tcore n) → exec (mk n) s = .next (s.setTcore n (f d (s.tcore n)))

/-- The comparisons of operation `op`: with both operands known, the named register receives 1 where `p b a` holds and 0
otherwise, and the operands are popped. -/
def Compares (mk : Nat → Instr) (op : TOp) (p : Half → Half → Prop) : Prop :=
  ∀ s n d b a rest, s.executes n op d → (s.tcore n).stack = .known a :: .known b :: rest → (s.tcore n).settled →
    ∃ r : Half, (p b a → r = 1) ∧ (¬ p b a → r = 0) ∧
      exec (mk n) s = .next (s.setTcore n ((((s.tcore n).withStack rest).endsAt d.next).setG d.i.g (.known r)))

/-- The conditional branches of operation `op`: on a known register the core goes on at `target` where `p` holds of its value,
and at the next instruction otherwise; nothing else changes. -/
def BranchesOn (mk : Nat → Instr) (op : TOp) (p : Half → Prop) (target : TDec → Half) : Prop :=
  ∀ s n d v, s.executes n op d → (s.tcore n).greg d.i.g = .known v →
    (p v → exec (mk n) s = .next (s.setTcore n { s.tcore n with pc := target d })) ∧
    (¬ p v → exec (mk n) s = .next (s.setTcore n { s.tcore n with pc := d.next }))

/-- `t` differs from `s` in core `n` alone, which is `c` in `t`. -/
def OnlyCore (s t : State) (n : Nat) (c : Core) : Prop :=
  t.tcore n = c ∧ (∀ m, m ≠ n → t.tcore m = s.tcore m) ∧
  (∀ m, { t.tile m with core := (s.tile m).core } = s.tile m) ∧ t = { s with tiles := t.tiles, mcores := t.mcores }

/-- Registers g12 to g15 of a core hold SRC, DST, COUNT and, with both spaces in data space, `flags` (R224). -/
def Core.repeats (c : Core) (src dst count flags : Half) : Prop :=
  c.greg 12 = .known src ∧ c.greg 13 = .known dst ∧ c.greg 14 = .known count ∧ c.greg 15 = .known flags

/-- The core with other values in g12, g13 and g14. -/
def Core.withRepeat (c : Core) (src dst count : Half) : Core :=
  ((c.setG 12 (.known src)).setG 13 (.known dst)).setG 14 (.known count)

/-- Slot `n` holds the dispatched NVMe command `x` of an opcode, on the admin queue or on an I/O queue, not fused, and the
storage engine's domain is ready (R376). -/
def State.nvmeRuns (s : State) (n : Nat) (admin : Bool) (op : Nat) (x : Slot) : Prop :=
  s.nvmeCmd n admin op = some x ∧ s.domain 22 = .ready ∧ field (x.dw 0) 9 8 = 0

/-- The state with another list of packets in the RDMA engine's inbox; a command that waited for a packet to leave has ended
(R444). -/
def State.withInbox (s : State) (l : List InPkt) : State :=
  ({ s with rdm := { s.rdm with inbox := l } } : State).settleWaits

/-- The oldest packet of the RDMA engine's inbox is `i`, followed by `rest`, and it is for queue pair `x`, which receives
(R442). -/
def State.arrives (s : State) (i : InPkt) (rest : List InPkt) (x : Qp) : Prop :=
  s.rdm.inbox = i :: rest ∧ i.pkt.qpn < 2 ^ 20 ∧ (s.withInbox rest).qp? i.pkt.qpn = some x ∧ x.fn = i.fn ∧ x.raw = false ∧
  (x.state = 2 ∨ x.state = 3)

/-- The oldest message of the checkpoint engine's inbox is `m`, which came on queue pair `q`, followed by `rest`; the engine's
domain is on, and for an OPEN or a FETCH, which begin new work, takes it (R588). -/
def State.ckGets (s : State) (q : Nat) (m : CkMsg) (rest : List (Nat × CkMsg)) : Prop :=
  s.ckp.inbox = (q, m) :: rest ∧ if ckOpens m then s.domain 27 = .ready else s.domOn 27 = true

/-- The state with another list of messages in the checkpoint engine's inbox. -/
def State.withCkInbox (s : State) (l : List (Nat × CkMsg)) : State := { s with ckp := { s.ckp with inbox := l } }

/-- The state with other work in the checkpoint engine. -/
def State.withCkp (s : State) (c : Ckpt) : State := { s with ckp := c }

/-- Firmware runs, the security complex is ready, and the front of the queue of critical commands is `m`, of opcode `op`
(R525, R527). -/
def State.critIs (s : State) (op : Nat) (m : MbxMsg) : Prop :=
  s.fwUp = true ∧ s.domain 26 = .ready ∧ s.sec.mbx.head? = some m ∧ mOp m.bytes = op

/-- A critical command at the front of its queue is checked: it is turned away with the result of the first failed check, or it
is accepted and acts (R527). -/
def State.critRuns (s : State) (c : Instr) (m : MbxMsg) (lenOk payloadOk flashOk : Bool) (act : State → State) : Prop :=
  let r := s.critCheck m.bytes lenOk payloadOk flashOk
  (r ≠ 0 → exec c s = .next (s.critEnd r [])) ∧ (r = 0 → exec c s = .next (act (s.critAccept m)))

/-- Line `l` of a core is pending and enabled (R238). -/
def Core.lineDue (c : Core) (l : Nat) : Bool := bit c.ipend l && bit c.ien l

end Sys2Proof.Machine
end

