-- ==== Sys2Proof/Certificates/Slice0/Obligations.lean ====
section
/-! DEFINITION. The statements about the K7 for the provers. -/

open Sys2Proof Sys2Proof.Machine

/-- A step runs the command at the front of the queue, with the queue's rest; an empty queue idles (log entry 2). -/
def Obligations.StepRunsTheFrontCommand : Prop :=
  (∀ (c : Instr) (s : State) rest, step { s with pending := c :: rest } = exec c { s with pending := rest }) ∧
  (∀ (s : State), s.pending = [] → step s = .next s) ∧
  (∀ (s : State) nbits w, s.withFetchWord nbits w = s)

/-- Every command ends in a next state, in every state. -/
def Obligations.EveryCommandAnswers : Prop :=
  (∀ (c : Instr) (s : State), Answers (exec c s)) ∧ (∀ (s : State), s.Safe)

/-- R10, R47, R49, R590, R601: what reset leaves (register values that the model chose: log entry 1). -/
def Obligations.ResetState : Prop :=
  State.reset.pending = [] ∧ (∀ f j, State.reset.fld f j = f.resetAt j) ∧ State.reset.tb.time = 0 ∧
  State.reset.tb.running = false ∧ State.reset.fum.powered = false ∧ State.reset.rng.slots = [] ∧ State.reset.rng.rings = [] ∧
  (∀ n, State.reset.tile n = {}) ∧ (∀ c, Tbl.getD State.reset.snt.recs c {} = {}) ∧
  (∀ d, State.reset.domain d = if bit (F.FUM_PD_STAT_ON.resetAt 0) d then .ready else .off)

/-- R264, R241, R241: every well-formed instruction decodes from its word, in every operand at every value. A word that decodes
is the word of exactly the instruction it decodes to, and that instruction is well formed. -/
def Obligations.TaskoDecodeAgreesWithEncode : Prop :=
  (∀ i : TWord, i.wf = true → tdecode (tencode i) = some i) ∧
  (∀ x i, x < 65536 → tdecode x = some i → i.wf = true ∧ tencode i = x)

/-- R253, R210, R251, R252, R206, R208: the fourteen arithmetic instructions. The immediate and stack instructions, PICK in the
hardware stack and in the spilled entries. PUSHI with a full hardware stack spills its bottom entry to data word SP - 1, or
raises STACK_LIMIT where that word is below SL; ADD with fewer than two entries, and PICK beyond the entries, raise STACK_LIMIT.
Rests on the model's own choices and readings in log entry 37. -/
def Obligations.TaskoArithmeticAndStack : Prop :=
  (Replaces2 .add .add (fun b a => [BitVec.ofNat 16 (b.toNat + a.toNat)]) ∧
  Replaces2 .sub .sub (fun b a => [BitVec.ofInt 16 ((b.toNat : Int) - a.toNat)]) ∧
  Replaces2 .addc .addc (fun b a => [if 0xFFFF < b.toNat + a.toNat then 1 else 0, BitVec.ofNat 16 (b.toNat + a.toNat)]) ∧
  Replaces2 .subb .subb (fun b a => [if b.toNat < a.toNat then 1 else 0, BitVec.ofInt 16 ((b.toNat : Int) - a.toNat)]) ∧
  Replaces2 .mul .mul (fun b a => [BitVec.ofNat 16 (b.toNat * a.toNat)]) ∧
  Replaces2 .mulh .mulh (fun b a => [BitVec.ofNat 16 (b.toNat * a.toNat / 2 ^ 16)]) ∧
  Replaces2 .and .and (fun b a => [b &&& a]) ∧
  Replaces2 .or .or (fun b a => [b ||| a]) ∧
  Replaces2 .xor .xor (fun b a => [b ^^^ a]) ∧
  Replaces1 .not .not (fun _ a => [BitVec.ofNat 16 (0xFFFF - a.toNat)]) ∧
  Replaces1 .neg .neg (fun _ a => [BitVec.ofInt 16 (-(a.toNat : Int))]) ∧
  Replaces2 .shl .shl (fun b a => [BitVec.ofNat 16 (b.toNat * 2 ^ (a.toNat % 16))]) ∧
  Replaces2 .shr .shr (fun b a => [BitVec.ofNat 16 (b.toNat / 2 ^ (a.toNat % 16))]) ∧
  Replaces2 .sar .sar (fun b a => [BitVec.ofInt 16 (b.toInt / 2 ^ (a.toNat % 16))])) ∧
  (Pushes .pushi .pushi (fun d _ => [d.e1]) ∧
  Pushes .pushi2 .pushi2 (fun d _ => [d.e1, d.e2]) ∧
  Pushes .pushs .pushs (fun d _ => [d.i.imm]) ∧
  Replaces1 .dup .dup (fun _ a => [a, a]) ∧
  Replaces2 .swap .swap (fun b a => [b, a]) ∧
  Replaces2 .over .copyOver (fun b a => [b, a, b]) ∧
  (∀ (s : State) n d x rest, s.executes n .drop d → (s.tcore n).stack = x :: rest → (s.tcore n).settled →
    exec (.drop n) s = .next (s.setTcore n (((s.tcore n).withStack rest).endsAt d.next))) ∧
  (∀ (s : State) n d a x rest, s.executes n .nip d → (s.tcore n).stack = .known a :: x :: rest → (s.tcore n).settled →
    rest.length < 16 →
    exec (.nip n) s = .next (s.setTcore n (((s.tcore n).withStack (.known a :: rest)).endsAt d.next))) ∧
  (∀ (s : State) n d a b c rest, s.executes n .rot d →
    (s.tcore n).stack = .known a :: .known b :: .known c :: rest → (s.tcore n).settled → rest.length ≤ 13 →
    exec (.rot n) s = .next (s.setTcore n
      (((s.tcore n).withStack (.known c :: .known a :: .known b :: rest)).endsAt d.next))) ∧
  (∀ (s : State) n d (k : Half) x rest, s.executes n .pick d → (s.tcore n).stack = .known k :: rest → (s.tcore n).settled →
    rest.length < 16 → rest[k.toNat]? = some (.known x) →
    exec (.pick n) s = .next (s.setTcore n (((s.tcore n).withStack (.known x :: rest)).endsAt d.next))) ∧
  (∀ (s : State) n d (k : Half) rest, s.executes n .pick d → (s.tcore n).stack = .known k :: rest → (s.tcore n).specs = [] →
    rest.length < 16 → rest.length ≤ k.toNat →
    k.toNat < rest.length + ((s.tcore n).sb - (s.tcore n).sp).toNat →
    exec (.pick n) s = .next (s.setTcore n (((s.tcore n).withStack
      (.known ((s.tcore n).dataAt ((s.tcore n).sp + BitVec.ofNat 16 (k.toNat - rest.length))) :: rest)).endsAt d.next)))) ∧
  ((∀ (s : State) n d l b, s.executes n .pushi d → (s.tcore n).stack = l ++ [.known b] → l.length = 15 → (s.tcore n).specs = [] →
    ((s.tcore n).sl.toNat < (s.tcore n).sp.toNat →
      exec (.pushi n) s = .next (s.setTcore n { (s.tcore n).putData ((s.tcore n).sp - 1) b with
        sp := (s.tcore n).sp - 1, stack := .known d.e1 :: l, pc := d.next })) ∧
    ((s.tcore n).sp.toNat ≤ (s.tcore n).sl.toNat →
      exec (.pushi n) s = .next (s.texc n TF.STACK_LIMIT d.pc d.next))) ∧
  (∀ (s : State) n d, s.executes n .add d → (s.tcore n).depth < 2 →
    exec (.add n) s = .next (s.texc n TF.STACK_LIMIT d.pc d.next)) ∧
  (∀ (s : State) n d (k : Half) rest, s.executes n .pick d → (s.tcore n).stack = .known k :: rest →
    rest.length + ((s.tcore n).sb - (s.tcore n).sp).toNat ≤ k.toNat →
    exec (.pick n) s = .next (s.texc n TF.STACK_LIMIT d.pc d.next)))

/-- R211: the comparisons write 1 or 0 into their register and push nothing; BZ, BZL branch on zero, BNZ, BNZL on a value that
is not zero, and no branch changes the register. -/
def Obligations.TaskoComparisonsAndBranches : Prop :=
  Compares .ceq .ceq (fun b a => b = a) ∧
  Compares .cne .cne (fun b a => b ≠ a) ∧
  Compares .cltu .cltu (fun b a => b.toNat < a.toNat) ∧
  Compares .cleu .cleu (fun b a => b.toNat ≤ a.toNat) ∧
  Compares .clts .clts (fun b a => b.toInt < a.toInt) ∧
  Compares .cles .cles (fun b a => b.toInt ≤ a.toInt) ∧
  (∀ (s : State) n d a rest, s.executes n .cz d → (s.tcore n).stack = .known a :: rest → (s.tcore n).settled →
    exec (.cz n) s = .next (s.setTcore n
      ((((s.tcore n).withStack rest).endsAt d.next).setG d.i.g (.known (if a = 0 then 1 else 0))))) ∧
  BranchesOn .bz .bz (fun v => v = 0) (fun d => d.next + d.i.imm) ∧
  BranchesOn .bzl .bzl (fun v => v = 0) (fun d => d.e1) ∧
  BranchesOn .bnz .bnz (fun v => v ≠ 0) (fun d => d.next + d.i.imm) ∧
  BranchesOn .bnzl .bnzl (fun v => v ≠ 0) (fun d => d.e1)

/-- R254, R199, R257: PUSHG, POPG, INCG and DECG. SETW writes the four words into its window without the reserved bits. MFS
pushes the special register. -/
def Obligations.TaskoRegisterMoves : Prop :=
  ((∀ (s : State) n d v, s.executes n .pushg d → (s.tcore n).greg d.i.g = .known v → (s.tcore n).settled →
    (s.tcore n).stack.length < 16 →
    exec (.pushg n) s = .next (s.setTcore n (((s.tcore n).withStack (.known v :: (s.tcore n).stack)).endsAt d.next))) ∧
  (∀ (s : State) n d v rest, s.executes n .popg d → (s.tcore n).stack = .known v :: rest → (s.tcore n).settled →
    exec (.popg n) s = .next (s.setTcore n ((((s.tcore n).withStack rest).setG d.i.g (.known v)).endsAt d.next))) ∧
  CoreBecomes .incg .incg (fun _ d c => ∃ v, c.greg d.i.g = .known v)
    (fun d c => { c.setG d.i.g (.known (match c.greg d.i.g with | .known v => v + 1 | .await _ => 0)) with pc := d.next }) ∧
  CoreBecomes .decg .decg (fun _ d c => ∃ v, c.greg d.i.g = .known v)
    (fun d c => { c.setG d.i.g (.known (match c.greg d.i.g with | .known v => v - 1 | .await _ => 0)) with pc := d.next })) ∧
  ((∀ (s : State) n d a b c' e rest, s.executes n .setw d → d.i.w < winCount d.mg → (s.tcore n).specs = [] →
    (s.tcore n).stack = .known a :: .known b :: .known c' :: .known e :: rest →
    let x := a.toNat + b.toNat * 2 ^ 16 + c'.toNat * 2 ^ 32 + e.toNat * 2 ^ 48
    (winSpaceOk d.mg x = true → exec (.setw n) s = .next (s.setTcore n ({ (s.tcore n).withStack rest with
      wins := Tbl.put 0 d.i.w (BitVec.ofNat 64 (winClean x)) (s.tcore n).wins }.endsAt d.next))) ∧
    (winSpaceOk d.mg x = false → exec (.setw n) s = .next (s.texc n TF.ILLEGAL_INSTRUCTION d.pc d.next))) ∧
  (∀ (s : State) n d v, s.executes n .mfs d → s.special d (s.tcore n) d.i.w = some v →
    (s.tcore n).specs = [] → (d.i.w = 4 → (s.tcore n).rsvPending = false) → (s.tcore n).stack.length < 16 →
    exec (.mfs n) s = .next (s.setTcore n
      (((s.tcore n).withStack (.known (BitVec.ofNat 16 v) :: (s.tcore n).stack)).endsAt d.next))) ∧
  (∀ (s : State) n d, s.executes n .mfs d → s.special d (s.tcore n) d.i.w = none → (s.tcore n).specs = [] →
    exec (.mfs n) s = .next (s.texc n TF.ILLEGAL_INSTRUCTION d.pc d.next)))

/-- R247, R248, R249, R218: jumps, calls and returns. A branch on an awaited register is predicted taken exactly where its
target is not above its own address, a third one waits, and on a management core every one waits (R236). -/
def Obligations.TaskoJumpsAndPrediction : Prop :=
  (CoreBecomes .nop .nop (fun _ _ _ => True) (fun d c => { c with pc := d.next }) ∧
  CoreBecomes .jmp .jmp (fun _ _ _ => True) (fun d c => { c with pc := d.next + d.i.imm }) ∧
  CoreBecomes .jmpl .jmpl (fun _ _ _ => True) (fun d c => { c with pc := d.e1 }) ∧
  (∀ (s : State) n d a rest, (s.tcore n).stack = .known a :: rest → (s.tcore n).settled →
    (s.executes n .jmps d → exec (.jmps n) s = .next (s.setTcore n (((s.tcore n).withStack rest).endsAt a))) ∧
    (s.executes n .ret d → exec (.ret n) s = .next (s.setTcore n (((s.tcore n).withStack rest).endsAt a))) ∧
    (s.executes n .calls d → rest.length < 16 →
      exec (.calls n) s = .next (s.setTcore n (((s.tcore n).withStack (.known d.next :: rest)).endsAt a)))) ∧
  (∀ (s : State) n d, (s.tcore n).stack.length < 16 → (s.tcore n).settled →
    (s.executes n .call d → exec (.call n) s = .next (s.setTcore n
      (((s.tcore n).withStack (.known d.next :: (s.tcore n).stack)).endsAt (d.next + d.i.imm)))) ∧
    (s.executes n .calll d → exec (.calll n) s = .next (s.setTcore n
      (((s.tcore n).withStack (.known d.next :: (s.tcore n).stack)).endsAt d.e1))))) ∧
  (∀ (s : State) n d id,
    let c := s.tcore n
    let go (target : Half) (z : Bool) : Core :=
      let taken := decide (target.toNat ≤ d.pc.toNat)
      { c with
        pc := if taken then target else d.next
        specs := c.specs ++ [{
          cond := id, ifZero := z, predTaken := taken, otherPc := if taken then d.next else target
          stack := c.stack, gregs := c.gregs, data := c.data, sp := c.sp, stores := [] }] }
    let rule (i : Instr) (op : TOp) (target : Half) (z : Bool) : Prop :=
      s.executes n op d → c.greg d.i.g = .await id →
        ((n < 128 ∧ c.specs.length < 2) → exec i s = .next (s.setTcore n (go target z))) ∧
        ((128 ≤ n ∨ 2 ≤ c.specs.length) → exec i s = .next s)
    rule (.bz n) .bz (d.next + d.i.imm) true ∧ rule (.bnz n) .bnz (d.next + d.i.imm) false ∧
    rule (.bzl n) .bzl d.e1 true ∧ rule (.bnzl n) .bnzl d.e1 false)

/-- R118, R202, R204, R212, R228 to R230, R232, R234, R255, R256: LD, ST, TAS, LDR and STC on data space; a store changes the one
data word it names, and a ninth speculative ST waits. A window access of a tile sequencer pops its operands and goes on; its
access is outstanding, and what it loads is awaited; a store is posted on either kind of core. Through a window onto the
tile's own SRAM the check needs VALID, WR for a store, and an address below 2 MiB. An outstanding window access that its
arbiter may grant is performed, and its value is delivered; a late failure faults the tile at the address of its instruction,
with the data space that the instruction found. An access behind another to its block waits, so does one behind a request that
has waited longer at its bank (R118), and so does an STC beside a write of another core to its block (R232). Through a window
onto management space a management core reads its word within the instruction, once none of its posted stores to the block is
outstanding. Rests on the model's own choices and readings in log entries 33, 36, 42, 43, 148 and 152. -/
def Obligations.TaskoLoadsAndStores : Prop :=
  (Replaces1 .ld .ld (fun c a => [c.dataAt a]) ∧
  (∀ (s : State) n d a x rest, s.executes n .st d → (s.tcore n).stack = .known a :: .known x :: rest → (s.tcore n).specs = [] →
    exec (.st n) s = .next (s.setTcore n ((((s.tcore n).withStack rest).putData a x).endsAt d.next))) ∧
  (∀ (s : State) n d, s.executes n .st d → 8 ≤ sumOf ((s.tcore n).specs.map (fun p => p.stores.length)) → exec (.st n) s = .next s) ∧
  (∀ (c : Core) (a x b : Half), (c.putData a x).dataAt b = if b = a then x else c.dataAt b) ∧
  (∀ (s : State) n d env a rest, s.executes n .tas d → d.i.win = false → (s.tcore n).stack = .known a :: rest →
    (s.tcore n).specs = [] →
    exec (.tas n env) s = .next (s.setTcore n (((((s.tcore n).withStack rest).putData a 1).setG d.i.g
      (.known ((s.tcore n).dataAt a))).endsAt d.next))) ∧
  (∀ (s : State) n d env a rest, s.executes n .ldr d → d.i.win = false → (s.tcore n).stack = .known a :: rest →
    (s.tcore n).specs = [] → (s.tcore n).rsvPending = false → rest.length < 16 →
    exec (.ldr n env) s = .next (s.setTcore n { (((s.tcore n).withStack
      (.known ((s.tcore n).dataAt a) :: rest)).endsAt d.next) with rsv := some (1, a.toNat / 32) })) ∧
  (∀ (s : State) n d env a x rest, s.executes n .stc d → d.i.win = false →
    (s.tcore n).stack = .known a :: .known x :: rest → (s.tcore n).specs = [] → (s.tcore n).rsvPending = false →
    ((s.tcore n).rsv = some (1, a.toNat / 32) → exec (.stc n env) s = .next (s.setTcore n
      (({ ((s.tcore n).withStack rest).putData a x with rsv := none }.setG d.i.g (.known 1)).endsAt d.next))) ∧
    ((s.tcore n).rsv ≠ some (1, a.toNat / 32) → exec (.stc n env) s = .next (s.setTcore n
      (({ (s.tcore n).withStack rest with rsv := none }.setG d.i.g (.known 0)).endsAt d.next))))) ∧
  ((∀ (s : State) n (k : WKind) w (o : Half), winSpace w = 1 →
    ((bit w 60 = true ∧ (k = .load ∨ bit w 61 = true) ∧ winBase w + 2 * o.toNat + 1 < 0x200000) →
      s.winCheck n k w o = .ok s (.ownSram, winBase w + 2 * o.toNat)) ∧
    ((bit w 60 = false ∨ (k ≠ .load ∧ bit w 61 = false) ∨ 0x200000 ≤ winBase w + 2 * o.toNat + 1) →
      s.winCheck n k w o = .exc s TF.WINDOW_FAULT)) ∧
  (∀ (s : State) n d env (o : Half) rest t sp a, n < 128 → d.i.w < 4 → (s.tcore n).specs = [] → (s.tcore n).rsvPending = false →
    let c := s.tcore n
    let word := (Tbl.getD c.wins d.i.w 0).toNat
    let acc (k : WKind) (v : Half) : WinAccess :=
      ⟨s.fresh, k, sp, a, v, d.pc, s.fld F.MEM_FN_FENCE_EPOCH (s.winFn n), s.tb.time, c.data⟩
    let gone (c1 : Core) (k : WKind) (v : Half) : State :=
      s.tick.setTcore n { c1 with accesses := c1.accesses ++ [acc k v] }
    (s.executes n .ldx d → c.stack = .known o :: rest → rest.length < 16 → s.winCheck n .load word o = .ok t (sp, a) →
      exec (.ldx n env) s = .next (gone ((c.withStack (.await s.fresh :: rest)).endsAt d.next) .load 0)) ∧
    (s.executes n .ldr d → d.i.win = true → c.stack = .known o :: rest → rest.length < 16 →
      s.winCheck n .loadReserved word o = .ok t (sp, a) →
      exec (.ldr n env) s = .next (gone ((c.withStack (.await s.fresh :: rest)).endsAt d.next) .loadReserved 0)) ∧
    (s.executes n .tas d → d.i.win = true → c.stack = .known o :: rest → s.winCheck n .tas word o = .ok t (sp, a) →
      exec (.tas n env) s = .next (gone (((c.withStack rest).setG d.i.g (.await s.fresh)).endsAt d.next) .tas 1)) ∧
    (∀ x, s.executes n .stx d → c.stack = .known o :: .known x :: rest → s.winCheck n .store word o = .ok t (sp, a) →
      exec (.stx n env) s = .next (gone ((c.withStack rest).endsAt d.next) .store x)) ∧
    (∀ x, s.executes n .stc d → d.i.win = true → c.stack = .known o :: .known x :: rest →
      s.winCheck n .storeConditional word o = .ok t (sp, a) →
      exec (.stc n env) s = .next
        (gone (((c.withStack rest).setG d.i.g (.await s.fresh)).endsAt d.next) .storeConditional x))) ∧
  (∀ (s : State) n d env (o : Half) t code, d.i.w < winCount d.mg → (s.tcore n).specs = [] → s.executes n .ldx d →
    (∃ rest, (s.tcore n).stack = .known o :: rest) →
    s.winCheck n .load (Tbl.getD (s.tcore n).wins d.i.w 0).toNat o = .exc t code →
    exec (.ldx n env) s = .next (t.texc n code d.pc d.next))) ∧
  (∀ (s : State) n d env (o x : Half) rest t sp a, 128 ≤ n → d.i.w < 16 → s.executes n .stx d → (s.tcore n).specs = [] →
    (s.tcore n).stack = .known o :: .known x :: rest →
    s.winCheck n .store (Tbl.getD (s.tcore n).wins d.i.w 0).toNat o = .ok t (sp, a) →
    exec (.stx n env) s = .next
      (s.postAccess n .store sp a x (((s.tcore n).withStack rest).endsAt d.next) d.pc)) ∧
  ((∀ (s : State) n idx env x, (s.tcore n).accesses[idx]? = some x →
    let gone (t : State) : State :=
      t.setTcore n { t.tcore n with accesses := (t.tcore n).accesses.filter (fun y => y.id != x.id) }
    (s.mayGrant n x = true →
      (∀ t v, s.winPerform env n x.kind x.space x.addr x.value = .ok t v →
        (n < 128 → exec (.windowAccessReturn n idx env) s = .next ((gone t).settle n x.id v)) ∧
        (128 ≤ n → exec (.windowAccessReturn n idx env) s = .next (gone t))) ∧
      (∀ t code, s.winPerform env n x.kind x.space x.addr x.value = .exc t code →
        (n < 128 → ((gone t).tile n).fault = none → exec (.windowAccessReturn n idx env) s =
          .next (((gone t).setTcore n { (gone t).tcore n with
            data := x.data, specs := [], heldExc := none, waitu := none }).raiseFault n ⟨code, x.pc, 0, 0, some x.id⟩)) ∧
        (128 ≤ n → ((gone t).tcore n).run = .running →
          exec (.windowAccessReturn n idx env) s = .next ((gone t).texc n code x.pc x.pc)))) ∧
    (s.mayGrant n x = false → exec (.windowAccessReturn n idx env) s = .next s) ∧
    ((s.tcore n).accesses.Nodup →
      (∃ y ∈ (s.tcore n).accesses.take idx, rsvBlock n y.space y.addr = rsvBlock n x.space x.addr) →
      s.mayGrant n x = false) ∧
    (x.kind = .storeConditional → s.writeWaits n (rsvBlock n x.space x.addr) = true → s.mayGrant n x = false) ∧
    (∀ u b w y, x.sram n = some (u, b, w) → y ∈ s.bankWaits u (bankOf b) →
      (y.since < w.since ∨ (y.since = w.since ∧ y.req.rank < w.req.rank)) → s.mayGrant n x = false)) ∧
  (∀ (s : State) n env sp a v, (s.tcore n).rsv ≠ some (rsvBlock n sp a) →
    s.winPerform env n .storeConditional sp a v = .ok (s.setRsv n none) 0) ∧
  (∀ (s : State) n d env (o : Half) rest t a, 128 ≤ n → d.i.w < 16 → s.executes n .ldx d → (s.tcore n).specs = [] →
    (s.tcore n).stack = .known o :: rest → rest.length < 16 →
    s.winCheck n .load (Tbl.getD (s.tcore n).wins d.i.w 0).toNat o = .ok t (.management, a) →
    (s.sameBlock n .management a = false → exec (.ldx n env) s = .next (s.setTcore n
      (({ (s.tcore n).withStack (.known (s.mgRead (n - 128) a) :: rest) with loading := false }).endsAt d.next))) ∧
    (s.sameBlock n .management a = true →
      exec (.ldx n env) s = .next (s.setTcore n { s.tcore n with loading := true }))))

/-- R259, R206, R209: MFS of SP or HWD returns the value before its push and before its spill; MTS pops first, then checks, then
writes; a field of kind STA keeps its value; IPEND bits written as 1 clear. Rests on the model's own choices and readings in log
entry 42. -/
def Obligations.TaskoSpecialRegisters : Prop :=
  (∀ (s : State) n d, s.executes n .mfs d → (s.tcore n).specs = [] → (s.tcore n).stack.length < 16 →
    (d.i.w = 0 → exec (.mfs n) s = .next (s.setTcore n
      (((s.tcore n).withStack (.known (s.tcore n).sp :: (s.tcore n).stack)).endsAt d.next))) ∧
    (d.i.w = 3 → exec (.mfs n) s = .next (s.setTcore n (((s.tcore n).withStack
      (.known (BitVec.ofNat 16 (s.tcore n).stack.length) :: (s.tcore n).stack)).endsAt d.next)))) ∧
  (∀ (s : State) n d l b, s.executes n .mfs d → (s.tcore n).specs = [] → (s.tcore n).stack = l ++ [.known b] → l.length = 15 →
    (s.tcore n).sl.toNat < (s.tcore n).sp.toNat →
    let after (v : Half) : Core := { (s.tcore n).putData ((s.tcore n).sp - 1) b with
      sp := (s.tcore n).sp - 1, stack := .known v :: l, pc := d.next }
    (d.i.w = 0 → exec (.mfs n) s = .next (s.setTcore n (after (s.tcore n).sp))) ∧
    (d.i.w = 3 → exec (.mfs n) s = .next (s.setTcore n (after 16)))) ∧
  (∀ (s : State) n d v rest, s.executes n .mts d → (s.tcore n).specs = [] → (s.tcore n).stack = .known v :: rest →
    let c := (s.tcore n).withStack rest
    let go (c1 : Core) : Prop := exec (.mts n) s = .next (s.setTcore n (c1.endsAt d.next))
    let limit : Prop := exec (.mts n) s = .next (s.texc n TF.STACK_LIMIT d.pc d.next)
    (d.i.w = 1 → (c.sp = c.sb → go { c with sb := v, sp := v }) ∧ (c.sp ≠ c.sb → limit)) ∧
    (d.i.w = 2 → (v.toNat ≤ c.sp.toNat → go { c with sl := v }) ∧ (c.sp.toNat < v.toNat → limit)) ∧
    (d.i.w ∈ [0, 3, 4] → go c) ∧
    (128 ≤ n → d.i.w ∈ [0x51, 0x52, 0x53, 0x58] → go c) ∧
    (128 ≤ n → d.i.w = 0x50 → go { c with ivb := BitVec.ofNat 16 (v.toNat / 8 * 8) }) ∧
    (128 ≤ n → d.i.w = 0x54 → go { c with ien := setField c.ien 15 0 v.toNat }) ∧
    (128 ≤ n → d.i.w = 0x55 → go { c with ien := setField c.ien 31 16 v.toNat }) ∧
    (128 ≤ n → d.i.w = 0x56 → go { c with ipend := c.ipend - (c.ipend &&& v.toNat) }) ∧
    (128 ≤ n → d.i.w = 0x57 → go { c with ipend := c.ipend - (c.ipend &&& v.toNat * 2 ^ 16) }))

/-- R121, R128, R153, R205, R212, R215, R216, R260, R305: ISSUE and ISSUEX send their command with the descriptors as they stand,
and stall on an outstanding tag or at a ninth Geyser command in flight; WAITU
writes the stored completion word of a tag that is not outstanding. While its tag is outstanding its register is awaited, and only a
conditional branch on that register goes past it. END and SYNC complete where nothing they wait for is outstanding, and wait
otherwise. Rests on the model's own choices and readings in log entries 29 and 153. -/
def Obligations.TaskoUnits : Prop :=
  (∀ (s : State) n d c0 c1 c2 c3 rest, n < 128 → s.executes n .issue d → (s.tcore n).settled →
    (s.tcore n).stack = .known c0 :: .known c1 :: .known c2 :: .known c3 :: rest →
    let tag := c0.toNat % 64
    let v := c0.toNat + c1.toNat * 2 ^ 16 + c2.toNat * 2 ^ 32 + c3.toNat * 2 ^ 48
    let full := c0.toNat / 16384 = 3 ∧ 8 ≤ ((s.tile n).cmds.filter (fun c => c.unit == 3 && !isDone c.phase)).length
    ((s.tile n).cmd? tag = none → ¬ full → exec (.issue n) s = .next (s.tick.setTile n { s.tile n with
      core := ((s.tcore n).withStack rest).endsAt d.next
      cmds := (s.tile n).cmds ++
        [⟨BitVec.ofNat 64 v, tag, (s.tcore n).descs, d.pc, (s.tcore n).specs.length, .queued, s.fresh⟩] })) ∧
    ((s.tile n).cmd? tag ≠ none ∨ full → exec (.issue n) s = .next s)) ∧
  (∀ (s : State) n d c2 c3 rest, n < 128 → s.executes n .issuex d → (s.tcore n).settled →
    (s.tcore n).stack = .known c2 :: .known c3 :: rest → (s.tile n).cmd? (d.e1.toNat % 64) = none →
    (d.e1.toNat / 16384 = 3 → ((s.tile n).cmds.filter (fun c => c.unit == 3 && !isDone c.phase)).length < 8) →
    exec (.issuex n) s = .next (s.tick.setTile n { s.tile n with
      core := ((s.tcore n).withStack rest).endsAt d.next
      cmds := (s.tile n).cmds ++
        [⟨BitVec.ofNat 64 (d.e1.toNat + d.e2.toNat * 2 ^ 16 + c2.toNat * 2 ^ 32 + c3.toNat * 2 ^ 48), d.e1.toNat % 64,
          (s.tcore n).descs, d.pc, (s.tcore n).specs.length, .queued, s.fresh⟩] })) ∧
  CoreBecomes .waitu .waitu (fun s d c => d.core < 128 ∧ c.specs = [] ∧ (s.tile d.core).cmd? d.i.w = none)
    (fun d c => { c.setG d.i.g (.known (Tbl.getD c.tagStore d.i.w 0)) with pc := d.next }) ∧
  (∀ (s : State) n d, n < 128 → s.executes n .waitu d → (s.tile n).cmd? d.i.w ≠ none →
    ((s.tcore n).specs = [] → exec (.waitu n) s = .next (s.tick.setTcore n
      { (s.tcore n).setG d.i.g (.await s.fresh) with pc := d.next, waitu := some (d.i.w, s.fresh) })) ∧
    ((s.tcore n).specs ≠ [] → exec (.waitu n) s = .next s)) ∧
  (∀ (s : State) n k id d, (s.tcore n).waitu = some (k, id) → (s.tcore n).specs = [] → s.tfetch n = some d →
    ∃ e, d = some e ∧ e.i.op ∈ [TOp.bz, TOp.bnz, TOp.bzl, TOp.bnzl] ∧ (s.tcore n).greg e.i.g = .await id) ∧
  CoreBecomes .endTile .endTile (fun s d c => d.core < 128 ∧ c.specs = [] ∧ (s.tile d.core).cmds = [])
    (fun d c => { c with run := .ended, pc := d.next }) ∧
  (∀ (s : State) n d, n < 128 → s.executes n .endTile d → (s.tile n).cmds ≠ [] → exec (.endTile n) s = .next s) ∧
  CoreBecomes .sync .sync (fun _ _ c => c.specs = [] ∧ ∀ x ∈ c.accesses, x.kind = .load)
    (fun d c => { c with pc := d.next }) ∧
  (∀ (s : State) n d, s.executes n .sync d → (∃ x ∈ (s.tcore n).accesses, x.kind ≠ .load) → exec (.sync n) s = .next s)

/-- R217: ISSUE and WAITU on a management core raise ILLEGAL_INSTRUCTION. -/
def Obligations.TaskoManagementCoreHasNoUnits : Prop :=
  ∀ (s : State) n d, 128 ≤ n →
    (s.executes n .issue d → exec (.issue n) s = .next (s.texc n TF.ILLEGAL_INSTRUCTION d.pc d.next)) ∧
    (s.executes n .issuex d → exec (.issuex n) s = .next (s.texc n TF.ILLEGAL_INSTRUCTION d.pc d.next)) ∧
    (s.executes n .waitu d → exec (.waitu n) s = .next (s.texc n TF.ILLEGAL_INSTRUCTION d.pc d.next))

/-- R233 to R235, R237 to R240, R250: EI, DI, RETI and WAITI on a management core, and ILLEGAL_INSTRUCTION on a tile. A line
pulse sets its IPEND bit; on an interrupt the core saves its address, records the line, copies and clears GIE, ends the
reservation and goes on at its vector; the lowest line that is pending and enabled wins. FAULT and an undefined word. A
management core with GIE set enters its handler, one with GIE clear stops; a tile stops with the fault at the instruction's
address, and of two faults that stand together the first in program order is kept (R235). Rests on the model's own choices and
readings in log entries 34, 35, 41 and 147. -/
def Obligations.TaskoInterruptsAndExceptions : Prop :=
  (CoreBecomes .ei .ei (fun _ d _ => 128 ≤ d.core) (fun d c => { c with gie := true, pc := d.next }) ∧
  CoreBecomes .di .di (fun _ d _ => 128 ≤ d.core) (fun d c => { c with gie := false, pc := d.next }) ∧
  CoreBecomes .reti .reti (fun _ d _ => 128 ≤ d.core) (fun _ c => { c with pc := c.epc, gie := c.pgie, rsv := none }) ∧
  CoreBecomes .waiti .waiti (fun _ d c => 128 ≤ d.core ∧ ∃ l, l < 32 ∧ c.lineDue l = true)
    (fun d c => { c with waiting := false, pc := d.next }) ∧
  CoreBecomes .waiti .waiti (fun _ d c => 128 ≤ d.core ∧ c.lines = 0) (fun _ c => { c with waiting := true }) ∧
  (∀ (s : State) n d, n < 128 → (s.tcore n).specs = [] →
    let illegal (i : Instr) : Prop := exec i s = .next (s.raiseFault n ⟨TF.ILLEGAL_INSTRUCTION, d.pc, 0, 0, some s.fresh⟩)
    (s.executes n .ei d → illegal (.ei n)) ∧ (s.executes n .di d → illegal (.di n)) ∧
    (s.executes n .reti d → illegal (.reti n)) ∧ (s.executes n .waiti d → illegal (.waiti n)))) ∧
  ((∀ (s : State) n l, 128 ≤ n → n < 132 → l < 14 →
    exec (.interruptLinePulse n l) s =
      .next (s.setTcore n { s.tcore n with ipend := setField (s.tcore n).ipend l l 1 })) ∧
  (∀ (s : State) n l, 128 ≤ n → n < 132 → (s.tcore n).run = .running → (s.tcore n).gie = true → (s.tcore n).loading = false →
    l < 32 → (s.tcore n).lineDue l = true → (∀ m < l, (s.tcore n).lineDue m = false) →
    exec (.interruptEntry n) s = .next (s.setTcore n { s.tcore n with
      epc := if (s.tcore n).waiting then (s.tcore n).pc + 1 else (s.tcore n).pc
      ecause := BitVec.ofNat 16 (0x20 + l), pgie := true, gie := false, rsv := none, waiting := false, loading := false
      pc := (s.tcore n).ivb + BitVec.ofNat 16 (8 * (0x20 + l)) })) ∧
  (∀ (s : State) n, n < 132 → ((s.tcore n).gie = false ∨ (s.tcore n).loading = true ∨ ∀ l, (s.tcore n).lineDue l = false) →
    exec (.interruptEntry n) s = .next s)) ∧
  ((∀ (s : State) n d, 128 ≤ n → s.executes n .fault d → (s.tcore n).specs = [] →
    ((s.tcore n).gie = true → exec (.faultInstr n) s = .next (s.setTcore n { s.tcore n with
      epc := d.next, ecause := 4, pgie := true, gie := false, rsv := none, waiting := false, loading := false
      pc := (s.tcore n).ivb + 32 })) ∧
    ((s.tcore n).gie = false → exec (.faultInstr n) s = .next (s.setTcore n { s.tcore n with run := .stopped }))) ∧
  (∀ (s : State) n d, n < 128 → s.executes n .fault d → (s.tcore n).specs = [] →
    exec (.faultInstr n) s = .next (s.raiseFault n ⟨TF.PROGRAM_FAULT, d.pc, 0, 0, some s.fresh⟩)) ∧
  (∀ (s : State) n, s.tfetch n = some none →
    (128 ≤ n → (s.tcore n).gie = true → exec (.undefinedInstruction n) s = .next (s.setTcore n { s.tcore n with
      epc := (s.tcore n).pc, ecause := 1, pgie := true, gie := false, rsv := none, waiting := false, loading := false
      pc := (s.tcore n).ivb + 8 })) ∧
    (128 ≤ n → (s.tcore n).gie = false →
      exec (.undefinedInstruction n) s = .next (s.setTcore n { s.tcore n with run := .stopped })) ∧
    (n < 128 → (s.tcore n).specs = [] → exec (.undefinedInstruction n) s =
      .next (s.raiseFault n ⟨TF.ILLEGAL_INSTRUCTION, (s.tcore n).pc, 0, 0, some s.fresh⟩))) ∧
  (∀ (s : State) n f, (s.tile n).fault = none →
    s.raiseFault n f = s.setTile n { s.tile n with fault := some f, core := { (s.tile n).core with run := .stopped } }) ∧
  (∀ (s : State) n f g i j, (s.tile n).fault = some g → g.order = some i → f.order = some j →
    s.raiseFault n f = s.setTile n { s.tile n with
      fault := some (if j < i then f else g), core := { (s.tile n).core with run := .stopped } }))

/-- R225, R226, R263: one step of each block-repeat instruction in data space with more to do leaves the pc and the stack, and
moves SRC, DST and COUNT; an instruction whose COUNT is zero, or whose stop condition holds, finishes and pops its operands.
Rests on the model's own choices and readings in log entries 38 and 40. -/
def Obligations.TaskoBlockRepeat : Prop :=
  ∀ (s : State) n d env (src dst k : Half), (s.tcore n).specs = [] →
    let c := s.tcore n
    let one (i : Instr) (c1 : Core) : Prop := Leads i s (fun t => OnlyCore s t n { c1 with loading := false })
    -- steps with DEC = 0, and MOVW also with DEC = 1
    (2 ≤ k.toNat → c.repeats src dst k 0 →
      (s.executes n .movw d →
        one (.movw n 1 env) ((c.putData dst (c.dataAt src)).withRepeat (src + 1) (dst + 1) (k - 1))) ∧
      (∀ p rest, s.executes n .fillw d → c.stack = .known p :: rest →
        one (.fillw n 1 env) ((c.putData dst p).withRepeat src (dst + 1) (k - 1))) ∧
      (s.executes n .cmpw d → c.dataAt src = c.dataAt dst →
        one (.cmpw n 1 env) (c.withRepeat (src + 1) (dst + 1) (k - 1))) ∧
      (∀ key m rest, s.executes n .scanw d → c.stack = .known key :: .known m :: rest → c.dataAt src &&& m ≠ key &&& m →
        one (.scanw n 1 env) (c.withRepeat (src + 1) dst (k - 1)))) ∧
    (2 ≤ k.toNat → c.repeats src dst k 0x400 → s.executes n .movw d →
      one (.movw n 1 env) ((c.putData dst (c.dataAt src)).withRepeat (src - 1) (dst - 1) (k - 1))) ∧
    (3 ≤ k.toNat → c.repeats src dst k 0 → s.executes n .packw d →
      one (.packw n 1 env) ((c.putData dst ((c.dataAt src &&& 0xFF) + (c.dataAt (src + 1) &&& 0xFF) <<< 8)).withRepeat
        (src + 2) (dst + 1) (k - 2))) ∧
    (3 ≤ k.toNat → c.repeats src dst k 0x800 → s.executes n .packw d →
      one (.packw n 1 env) (((c.putData dst (c.dataAt src &&& 0xFF)).putData (dst + 1) (c.dataAt src >>> 8)).withRepeat
        (src + 1) (dst + 2) (k - 2))) ∧
    -- the ends
    (c.repeats src dst 0 0 →
      (s.executes n .movw d → one (.movw n 1 env) (c.endsAt d.next)) ∧
      (s.executes n .cmpw d → one (.cmpw n 1 env) (c.endsAt d.next)) ∧
      (s.executes n .packw d → one (.packw n 1 env) (c.endsAt d.next)) ∧
      (∀ p rest, s.executes n .fillw d → c.stack = .known p :: rest →
        one (.fillw n 1 env) ((c.withStack rest).endsAt d.next)) ∧
      (∀ key m rest, s.executes n .scanw d → c.stack = .known key :: .known m :: rest →
        one (.scanw n 1 env) ((c.withStack rest).endsAt d.next))) ∧
    (1 ≤ k.toNat → c.repeats src dst k 0 →
      (s.executes n .cmpw d → c.dataAt src ≠ c.dataAt dst → one (.cmpw n 1 env) (c.endsAt d.next)) ∧
      (∀ key m rest, s.executes n .scanw d → c.stack = .known key :: .known m :: rest → c.dataAt src &&& m = key &&& m →
        one (.scanw n 1 env) ((c.withStack rest).endsAt d.next)))

/-- R131, R170, R172, R173: LDW loads the bank it names, element by element, and leaves the other; MMA writes the named
accumulator rows lane by lane and no other entry. Each then waits for its completion word. Rests on the model's own choices and
readings in log entries 26 and 27. -/
def Obligations.MatrixUnit : Prop :=
  (∀ (s : State) n tag env c d f s1 codes, (s.tile n).ready tag 0 (· == 0) = some c →
    field (c.c 0) 7 6 = 0 → c.rnd = false → c.c 1 < 32 → c.c 2 = 0 → c.c 3 = 0 →
    s.descOf n c (c.c 1 % 16) true = .ok (d, f) → d.rows = f.cls.k → d.cols = 64 →
    s.readOperand env n d f true = (s1, some codes) →
    Leads (.ldw n tag env) s (fun t => ∃ b,
      (if bit (c.c 1) 4 then (t.tile n).bank1 else (t.tile n).bank0) = b ∧
      (if bit (c.c 1) 4 then (t.tile n).bank0 = (s1.tile n).bank0 else (t.tile n).bank1 = (s1.tile n).bank1) ∧
      b.cls = f.cls ∧
      (∀ r row k e, codes[r]? = some row → row[k]? = some e →
        Tbl.getD b.elems (r * 64 + k) (FVal.fin false 0 0, some 0) =
          (decodeElem (s.tile n).tables f e.1, scaleOf e.2)) ∧
      (t.tile n).acc = (s1.tile n).acc ∧
      (t.tile n).cmds = ((s1.tile n).setPhase tag (.done 0)).cmds ∧
      t = { s1 with tiles := t.tiles } ∧ ∀ m, m ≠ n → t.tile m = s1.tile m)) ∧
  (∀ (s : State) n tag env c d f b s1 codes, (s.tile n).ready tag 0 (· == 1) = some c →
    field (c.c 0) 7 6 = 0 → c.rnd = false → c.c 1 < 64 → c.c 2 < 512 → c.c 3 = 0 →
    s.descOf n c (c.c 1 % 16) false = .ok (d, f) →
    (if bit (c.c 1) 4 then (s.tile n).bank1 else (s.tile n).bank0) = b →
    f.cls = b.cls → d.cols = b.cls.k → c.c 2 + d.rows ≤ 512 →
    s.readOperand env n d f false = (s1, some codes) →
    let zero := bit (c.c 1) 5
    let s2 := if zero then s1 else s1.accEcc env n (c.c 2) d.rows
    (zero = true ∨ (s2.tile n).accBad (c.c 2) d.rows = false) →
    Leads (.mma n tag env) s (fun t =>
      (∀ r row l, codes[r]? = some row → l < 64 →
        (t.tile n).accAt (c.c 2 + r) l = mmaLane b
          (row.map (fun e => (decodeElem (s2.tile n).tables f e.1, scaleOf e.2))) l
          (if zero then 0 else (s2.tile n).accAt (c.c 2 + r) l)) ∧
      (∀ r l, l < 64 → (r < c.c 2 ∨ c.c 2 + codes.length ≤ r) → (t.tile n).accAt r l = (s2.tile n).accAt r l) ∧
      (t.tile n).bank0 = (s2.tile n).bank0 ∧ (t.tile n).bank1 = (s2.tile n).bank1 ∧
      (t.tile n).cmds = ((s2.tile n).setPhase tag (.done 0)).cmds ∧
      t = { s2 with tiles := t.tiles } ∧ ∀ m, m ≠ n → t.tile m = s2.tile m))

/-- R135, R136, R174 to R180, R194: the values that each operation of the vector unit stores into D. Rests on the model's own
choices and readings in log entry 28. -/
def Obligations.VectorUnit : Prop :=
  let stores (i : Instr) (s : State) (s1 : State) (n : Nat) (c : UnitCmd) (d : TensorDesc) (f : Format)
      (rows : List (List Quad)) : Prop :=
    ∀ t, s1.storeResult n d f c.rnd rows = some t → exec i s = .next (t.cmdDone n c.tag 0 0)
  ∀ (s : State) n tag env c d f,
    let tb := (s.tile n).tables
    let x := field (c.c 1) 7 4
    s.descOf n c (field (c.c 1) 3 0) false = .ok (d, f) →
    (∀ a fa b fb s1 ma s2 mb, (s.tile n).ready tag 1 (· == 0) = some c → vecFields c true true 3 0 = true →
      s.vecOperand n c x d true = .ok (a, fa) → s.vecOperand n c (field (c.c 1) 11 8) d true = .ok (b, fb) →
      s.readOperand env n a fa false = (s1, some ma) → s1.readOperand env n b fb false = (s2, some mb) →
      (c.c 2 ≤ 4 → stores (.ew n tag env) s s2 n c d f
        (List.zipWith (List.zipWith (vecOp (c.c 2))) (decodeCodes tb fa ma) (decodeCodes tb fb mb))) ∧
      (∀ s3 md, c.c 2 = 5 → s2.readOperand env n d f false = (s3, some md) → stores (.ew n tag env) s s3 n c d f
        (List.zipWith (fun r (p : List Quad × List Quad) => List.zipWith (fun z (q : Quad × Quad) => ffma q.1 q.2 z) r
          (p.1.zip p.2)) (decodeCodes tb f md) ((decodeCodes tb fa ma).zip (decodeCodes tb fb mb))))) ∧
    (∀ a fa s1 m, s.vecOperand n c x d true = .ok (a, fa) → s.readOperand env n a fa false = (s1, some m) →
      ((s.tile n).ready tag 1 (· == 1) = some c → vecFields c true false 3 16 = true → c.c 2 ≤ 4 →
        stores (.scalar n tag env) s s1 n c d f ((decodeCodes tb fa m).map (fun r =>
          r.map (fun v => vecOp (c.c 2) v (BitVec.ofNat 32 (c.c 3 * 2 ^ 16)))))) ∧
      ((s.tile n).ready tag 1 (· == 2) = some c → vecFields c true false 0 0 = true →
        stores (.curve n tag env) s s1 n c d f ((decodeCodes tb fa m).map (fun r => r.map (curveAt tb)))) ∧
      ((s.tile n).ready tag 1 (· == 5) = some c → vecFields c true false 0 0 = true →
        stores (.cvt n tag env) s s1 n c d f (decodeCodes tb fa m))) ∧
    (∀ a fa s1 m, s.vecOperand n c x d false = .ok (a, fa) → s.readOperand env n a fa false = (s1, some m) →
      (s.tile n).ready tag 1 (· == 4) = some c → vecFields c true false 1 0 = true → d.cols = 1 →
      stores (.reduce n tag env) s s1 n c d f
        ((decodeCodes tb fa m).map (fun r => [reduceRow (if c.c 2 = 0 then fadd else fmax) r]))) ∧
    (let acc := c.c 2
     let s1 := s.accEcc env n acc d.rows
     (s.tile n).ready tag 1 (· == 3) = some c → vecFields c false false 9 16 = true → d.cols = 64 → acc + d.rows ≤ 512 →
      (s1.tile n).accBad acc d.rows = false →
      stores (.accrd n tag env) s s1 n c d f ((List.range d.rows).map (fun r => (List.range 64).map (fun l =>
        fmul ((s1.tile n).accAt (acc + r) l) (BitVec.ofNat 32 (c.c 3 * 2 ^ 16))))))

/-- R137 to R141, R144, R145, R188, R189, R123 to R125, R215: GET and PUT, SETA, EVADD, SEND with the delivery of its message,
MSGRD; a refused role check counts at both ends and ends the message with outcome 1. A table load reads its whole source and
writes its table; a source with a reserved encoding faults. A completion word is posted into its tag's store and the tag stops
being outstanding, in issue order on the matrix and vector units; a command with an undefined OP faults its tile at the
address of its ISSUE. Rests on the model's own choices and readings in log entries 29, 54 and 151. -/
def Obligations.TileDataCommands : Prop :=
  ((∀ (s : State) n tag env c d f s1 stale, field (c.c 0) 8 6 = 0 → field (c.c 1) 15 8 = 0 → c.c 3 = 0 →
    s.descOf n c (field (c.c 1) 3 0) false = .ok (d, f) →
    let bytes := rowBytes d.cols f.width
    let at' (r : Nat) := (s.tile n).daAt (field (c.c 1) 7 4) + r * c.c 2 * 64
    let rows := (List.range d.rows).flatMap (fun r =>
      (windowPieces (at' r) bytes).map (fun p => (p.1, d.base + r * d.stride + p.2.1, p.2.2)))
    let all (put : Bool) := s.checkRanges (s.tileFn n) put ((List.range d.rows).map (fun r => (at' r, bytes)))
    ((s.tile n).ready tag 2 (· == 0) = some c → all false = .ok () →
      s.dmaRows env n (s.tileFn n) false false rows = (s1, .ok stale) →
      exec (.get n tag env) s = .next (s1.cmdDone n c.tag (if stale then 1 else 0) 0)) ∧
    ((s.tile n).ready tag 2 (· == 1) = some c → all true = .ok () →
      s.dmaRows env n (s.tileFn n) true false rows = (s1, .ok stale) →
      exec (.put n tag env) s = .next (s1.cmdDone n c.tag (if stale then 1 else 0) 0))) ∧
  (∀ (s : State) n tag c, (s.tile n).ready tag 2 (fun op => decide (16 ≤ op)) = some c → field (c.c 0) 8 6 = 0 →
    exec (.seta n tag) s = .next ((s.setTile n { s.tile n with
      da := Tbl.put 0 (c.op - 16) (c.c 1 + c.c 2 * 2 ^ 16 + c.c 3 * 2 ^ 32) (s.tile n).da }).cmdDone n tag 0 0)) ∧
  (∀ (s : State) n tag c e, (s.tile n).ready tag 2 (· == 2) = some c → field (c.c 0) 8 6 = 0 → c.c 1 < 2 ^ 13 →
    (s.evtNumber (s.tileFn n) (c.c 1) = some e →
      exec (.evadd n tag) s =
        .next ((s.addCounter e (BitVec.ofNat 64 (c.c 2 + c.c 3 * 2 ^ 16))).cmdDone n tag 0 0)) ∧
    (s.evtNumber (s.tileFn n) (c.c 1) = none → exec (.evadd n tag) s = .next (s.cmdFault n c TF.EVENT_RANGE))) ∧
  (∀ (s : State) n tag env c d f s1 bs, (s.tile n).ready tag 2 (· == 3) = some c → field (c.c 0) 8 6 = 0 → c.c 1 < 2 ^ 12 →
    bit (c.c 1) 7 = false → c.c 2 = 0 → c.c 3 = 0 → s.descOf n c (field (c.c 1) 11 8) false = .ok (d, f) →
    d.base + 8 ≤ 0x200000 → s.sramRead env n d.base 8 = (s1, some bs) →
    exec (.send n tag env) s =
      .next (s1.setTile n ((s1.tile n).setPhase tag (.sent (BitVec.ofNat 64 (ofBytes bs)))))) ∧
  (∀ (s : State) n tag c m, (s.tile n).cmd? tag = some c → c.phase = .sent m → c.unit = 2 →
    (∀ d ∈ (s.tile n).before tag, d.unit = 2 → d.op = 3 → isDone d.phase = true) →
    let target := c.c 1 % 128
    (s.rolePasses n (sramBase target) = false →
      exec (.messageDeliver n tag) s = .next ((s.stale n (sramBase target)).cmdDone n tag 1 0)) ∧
    (s.rolePasses n (sramBase target) = true → 16 ≤ (s.tile target).msgs.length →
      exec (.messageDeliver n tag) s = .next s) ∧
    (s.rolePasses n (sramBase target) = true → (s.tile target).msgs.length < 16 →
      exec (.messageDeliver n tag) s = .next ((s.setTile target { s.tile target with
        msgs := (s.tile target).msgs ++ [m] }).cmdDone n tag 0 0))) ∧
  (∀ (s : State) n tag c d f s1, (s.tile n).ready tag 2 (· == 4) = some c → field (c.c 0) 8 6 = 0 → c.c 1 < 16 → c.c 2 = 0 →
    c.c 3 = 0 → s.descOf n c (c.c 1) false = .ok (d, f) →
    let k := min (min 16 (d.rows * d.stride / 8)) (s.tile n).msgs.length
    d.base + 8 * k ≤ 0x200000 → s.sramWrite n d.base (bytesOfWords ((s.tile n).msgs.take k)) = some s1 →
    exec (.msgrd n tag) s = .next ((s1.setTile n { s1.tile n with
      msgs := (s.tile n).msgs.drop k }).cmdDone n tag 0 k))) ∧
  (∀ (s : State) n tag env c s1 bs,
    let a := (s.tile n).daAt (field (c.c 1) 7 4)
    let fn := s.tileFn n
    field (c.c 0) 8 6 = 0 → field (c.c 1) 3 0 = 0 → field (c.c 1) 15 8 = 0 → a % 64 = 0 →
    let reads (k : Nat) : Prop :=
      s.refused n a k = [] ∧ s.checkRange fn false false a k = .ok () ∧ s.readChecked env fn a k = (s1, .ok bs)
    let loaded (i : Instr) (tb : TileTables) : Prop :=
      exec i s = .next ((s1.setTile n { s1.tile n with tables := tb }).cmdDone n c.tag 0 0)
    let faults (i : Instr) : Prop := exec i s = .next (s1.cmdFault n c TF.UNIT_CMD_INVALID)
    let tb := (s1.tile n).tables
    ((s.tile n).ready tag 2 (· == 8) = some c → countFields c = true → reads (c.c 3 * 2) →
      loaded (.lddec n tag env) { tb with dec := fillHalf (c.c 2) (groupsOf 2 (c.c 3) bs) tb.dec }) ∧
    ((s.tile n).ready tag 2 (· == 9) = some c → countFields c = true → reads (c.c 3 * 4) →
      ((∀ k e, (groupsOf 4 (c.c 3) bs)[k]? = some e → encReserved tb (c.c 2 + k) e = false) →
        loaded (.ldenc n tag env) { tb with enc := fillQuad (c.c 2) (groupsOf 4 (c.c 3) bs) tb.enc }) ∧
      ((∃ k e, (groupsOf 4 (c.c 3) bs)[k]? = some e ∧ encReserved tb (c.c 2 + k) e = true) → faults (.ldenc n tag env))) ∧
    ((s.tile n).ready tag 2 (· == 10) = some c → c.c 2 = 0 → c.c 3 = 0 → reads 128 →
      (controlReserved (wordsOf 16 bs) = false → loaded (.ldctl n tag env) (loadControl tb (wordsOf 16 bs))) ∧
      (controlReserved (wordsOf 16 bs) = true → faults (.ldctl n tag env))) ∧
    ((s.tile n).ready tag 2 (· == 11) = some c → c.c 2 = 0 → c.c 3 = 0 → reads 1088 →
      (curveReserved (wordsOf 136 bs) = false →
        loaded (.ldcrv n tag env) { tb with curve := fillWord 0 (wordsOf 136 bs) [] }) ∧
      (curveReserved (wordsOf 136 bs) = true → faults (.ldcrv n tag env)))) ∧
  ((∀ (s : State) n tag c w, (s.tile n).cmd? tag = some c → c.phase = .done w →
    ((2 ≤ c.unit ∨ ∀ d ∈ (s.tile n).before tag, d.unit ≠ c.unit) →
      let posted (u : Option (Nat × Nat)) : State := s.setTile n { s.tile n with
        cmds := (s.tile n).cmds.filter (fun d => d.tag != tag)
        core := { (s.tile n).core with tagStore := Tbl.set tag w (s.tile n).core.tagStore, waitu := u } }
      ((∀ id, (s.tile n).core.waitu ≠ some (tag, id)) →
        exec (.unitCompletion n tag) s = .next (posted (s.tile n).core.waitu)) ∧
      (∀ id, n < 128 → (s.tile n).core.waitu = some (tag, id) →
        exec (.unitCompletion n tag) s = .next ((posted none).settle n id w))) ∧
    ((c.unit < 2 ∧ ∃ d ∈ (s.tile n).before tag, d.unit = c.unit) →
      exec (.unitCompletion n tag) s = .next s)) ∧
  (∀ (s : State) n tag c, (s.tile n).ready tag c.unit (fun _ => true) = some c → c.opDefined = false → c.unit < 3 →
    exec (.unitCompletion n tag) s =
      .next ((s.setTile n ((s.tile n).dropCmd c.tag)).raiseFault n
        ⟨TF.UNIT_CMD_INVALID, c.pc, c.unit, c.tag, some c.order⟩)))

/-- R142, R149 to R153, R191, R141, R144, R154, R143, R153, R155, R156, R158 to R161: LAUNCH takes its tiles under the next
generation of the lead, refuses a busy or forbidden tile with ROLE_CONFLICT and an ill-formed clause with BAD_CLAUSE; when the
program is loaded every tile starts at ENTRY; a read that fails releases the tiles and completes with its status. SEND of the
tile launch class delivers its word to a target that holds the role it names, waits while the target's queue is full, and is
counted and refused with STALE_ROLE otherwise. ABORT and a launch timeout raise their fault at the lead tile; a fault stops the
role with its report; a quiet role is released, with SUCCESS and the four result words where it ended, and with TILE_FAULT and
the report where it was stopped; a fault that waits for the arbiter holds both the start and the release back. Rests on the model's
own choices and readings in log entries 29, 30, 149 and 150. -/
def Obligations.RolesAndLaunches : Prop :=
  ((∀ (s : State) slot x, s.clauseAt slot 1 0 = some x → x.progress = none →
    let ts := launchTiles (wordAt x.words 1)
    let die := field (wordAt x.words 1) 2 0
    (launchBad x.words = true → exec (.launch slot) s = .next (s.slotDone slot St.BAD_CLAUSE 0)) ∧
    (launchBad x.words = false → s.domain die = .off → exec (.launch slot) s = .next (s.slotDone slot St.DOMAIN_OFF 0)) ∧
    (launchBad x.words = false → s.domain die = .ready →
      ((∃ t ∈ ts, (s.tile t).role ≠ none ∨ s.tileAllowed x.fn t = false) →
        exec (.launch slot) s = .next (s.slotDone slot St.ROLE_CONFLICT 0)) ∧
      ((∀ t ∈ ts, (s.tile t).role = none ∧ s.tileAllowed x.fn t = true) → s.accessInFlight ts = false →
        Leads (.launch slot) s (fun t =>
          (∀ n ∈ ts, (t.tile n).role = some (ts.headD 0) ∧ (t.tile n).fault = none) ∧
          (∀ n, n ∉ ts → t.tile n = s.tile n) ∧
          (∃ r, Tbl.find? (ts.headD 0) t.roles = some r ∧ r.tiles = ts ∧ r.fn = x.fn ∧ r.slot = slot ∧
            r.phase = .loading ∧ r.gen = s.fld F.CAL_TILE_STAT_NEXT_GEN (ts.headD 0)) ∧
          t = { s with rng := t.rng, regs := t.regs, tiles := t.tiles, roles := t.roles })))) ∧
  (∀ (s : State) slot env x lead r, s.clauseAt slot 1 0 = some x → s.roleOfSlot slot = some (lead, r) → r.phase = .loading →
    ((∃ t ∈ r.tiles, (s.tile t).fault ≠ none) → exec (.launchLoadDone slot env) s = .next s) ∧
    ((∀ t ∈ r.tiles, (s.tile t).fault = none) →
    (∀ s1 st, s.readFor env r.fn (wordAt x.words 2) (2 * r.words) = (s1, .fail st) →
      exec (.launchLoadDone slot env) s = .next ((s1.releaseTiles lead r).slotDone slot st 0)) ∧
    (∀ s1 prog, s.readFor env r.fn (wordAt x.words 2) (2 * r.words) = (s1, .ok prog) → wordAt x.words 6 = 0 →
      r.tiles.Nodup →
      Leads (.launchLoadDone slot env) s (fun t =>
        (∀ n ∈ r.tiles, (t.tile n).core.run = .running ∧ (t.tile n).core.pc = r.entry ∧
          (t.tile n).core.words = r.words ∧ (t.tile n).core.stack = [] ∧ (t.tile n).core.wins = [] ∧
          (t.tile n).core.gregs = [] ∧ (t.tile n).tables = (s1.tile n).tables) ∧
        (∀ n, n ∉ r.tiles → t.tile n = s1.tile n) ∧
        Tbl.find? lead t.roles = some { r with phase := .running, started := s.tb.time } ∧
        t = { s1 with tiles := t.tiles, roles := t.roles }))))) ∧
  (∀ (s : State) slot x, s.clauseAt slot 1 1 = some x →
    let w := wordAt x.words 1
    let target := field w 22 16
    let bad := bit w 7 = true ∨ field w 63 23 ≠ 0 ∨ zeroFrom x.words 3 = false
    (bad → exec (.tileSendClause slot) s = .next (s.slotDone slot St.BAD_CLAUSE 0)) ∧
    (¬ bad → s.holdsRole target (field w 6 0) (field w 15 8) = false →
      exec (.tileSendClause slot) s = .next ((s.inc F.CAL_TILE_CNT_STALE_IN target).slotDone slot St.STALE_ROLE 0)) ∧
    (¬ bad → s.holdsRole target (field w 6 0) (field w 15 8) = true →
      ((s.tile target).msgs.length < 16 → exec (.tileSendClause slot) s = .next
        ((s.setTile target { s.tile target with msgs := (s.tile target).msgs ++ [x.words.getD 2 0] }).slotDone
          slot St.SUCCESS 0)) ∧
      (16 ≤ (s.tile target).msgs.length → exec (.tileSendClause slot) s = .next s))) ∧
  ((∀ (s : State) slot x lead r, s.clauseAt slot 1 2 = some x → wordAt x.words 1 < 2 ^ 16 → bit (wordAt x.words 1) 7 = false →
    zeroFrom x.words 2 = true → x.progress = none → lead = wordAt x.words 1 % 128 →
    Tbl.find? lead s.roles = some r →
    (r.gen = field (wordAt x.words 1) 15 8 → (∃ t ∈ r.tiles, (s.tile t).core.run ≠ .ended) →
      exec (.abort slot) s =
        .next ((s.setSlot slot { x with progress := some r.slot }).raiseFault lead ⟨TF.ABORTED, 0, 0, 0, none⟩)) ∧
    (r.gen ≠ field (wordAt x.words 1) 15 8 → exec (.abort slot) s = .next (s.slotDone slot St.STALE_ROLE 0))) ∧
  (∀ (s : State) lead r, Tbl.find? lead s.roles = some r → r.phase = .running → r.timeoutUs ≠ 0 →
    (∃ t ∈ r.tiles, (s.tile t).core.run ≠ .ended) →
    (r.started + r.timeoutUs * 1000 ≤ s.tb.time →
      exec (.launchTimeout lead) s = .next (s.raiseFault lead ⟨TF.LAUNCH_TIMEOUT, 0, 0, 0, none⟩)) ∧
    (s.tb.time < r.started + r.timeoutUs * 1000 → exec (.launchTimeout lead) s = .next s)) ∧
  (∀ (s : State) n lead r f t g, s.roleOf n = some r → (s.tile n).role = some lead → (s.tile n).fault = some f →
    (r.phase = .stopping → exec (.tileFault n) s =
      .next ((s.recordFault n f).setTile n { s.tile n with fault := none })) ∧
    (r.phase ≠ .stopping → r.tiles.find? (fun m => (s.tile m).fault.isSome) = some t → (s.tile t).fault = some g →
      Leads (.tileFault n) s (fun u =>
        Tbl.find? lead u.roles = some { r with phase := .stopping, report := some (faultReport g t r.gen lead) } ∧
        (∀ m ∈ r.tiles, (u.tile m).core.run ≠ .running) ∧
        (∀ m, m ∉ r.tiles → u.tile m = s.tile m) ∧
        u = { s with regs := u.regs, tiles := u.tiles, roles := u.roles }))) ∧
  (∀ (s : State) lead r, Tbl.find? lead s.roles = some r →
    ((∃ t ∈ r.tiles, (s.tile t).fault ≠ none) → exec (.roleRelease lead) s = .next s) ∧
    ((∀ t ∈ r.tiles, (s.tile t).cmds = [] ∧ (s.tile t).core.accesses = [] ∧ (s.tile t).fault = none) →
    (r.phase = .stopping → exec (.roleRelease lead) s =
      .next ((s.releaseTiles lead r).slotDone r.slot St.TILE_FAULT (r.report.getD 0))) ∧
    (r.phase = .running → (∀ t ∈ r.tiles, (s.tile t).core.run = .ended) →
      let w (i : Nat) := (Tbl.getD (s.tile lead).core.data (0x0C + i) 0).toNat
      exec (.roleRelease lead) s = .next ((s.releaseTiles lead r).slotDone r.slot St.SUCCESS
        (BitVec.ofNat 64 (w 0 + w 1 * 2 ^ 16 + w 2 * 2 ^ 32 + w 3 * 2 ^ 48)))) ∧
    (r.phase = .loading → exec (.roleRelease lead) s = .next s))))

/-- R305, R307, R271, R273 to R276, R73, R267 to R281, R293, R303, R304: an operation takes one of 256 table entries at its
requester's turn, or waits and is counted once; a finished one leaves the table with its completion, a unit command's RESULT first
written into its operand block. Each operation, admitted, is refused for a reserved encoding, ends with the failure of its checks, or
begins its element work; one with elements goes on with them; with none left it ends with an access failure, an invalid input, a role
conflict or its counts, in that order, its outputs unspecified after a failure. A key operation waits while its home bucket is locked.
Rests on the model's own choices and readings in log entries 45, 46, 54 and 155. -/
def Obligations.GeyserOperationsAndTable : Prop :=
  ((∀ (s : State) src, s.geyStands src = true → (∀ o ∈ s.geyLive, o.src ≠ src) → s.geyTurn = some (geyRequester src) →
    (s.geyLive.length < 256 → exec (.geyserOpAdmit src) s = .next { s with gey :=
      { ops := s.geyLive ++ [⟨src, s.geyFn src, none, none⟩], waited := s.gey.waited.filter (fun x => decide (x ≠ src))
        last := geyRequester src } }) ∧
    (256 ≤ s.geyLive.length → src ∈ s.gey.waited → exec (.geyserOpAdmit src) s = .next s) ∧
    (256 ≤ s.geyLive.length → src ∉ s.gey.waited → Leads (.geyserOpAdmit src) s (fun t =>
      t.fld F.GEY_GLB_STAT_OPWAIT_CNT 0 =
        (s.fld F.GEY_GLB_STAT_OPWAIT_CNT 0 + 1) % 2 ^ F.GEY_GLB_STAT_OPWAIT_CNT.width ∧
      FieldsKept s t [F.GEY_GLB_STAT_OPWAIT_CNT.key 0] ∧ t.gey.ops = s.gey.ops ∧ t.gey.waited = s.gey.waited ++ [src] ∧
      t = { s with regs := t.regs, gey := t.gey }))) ∧
  (∀ (s : State) n o e, s.geyLive.find? (fun o => decide (o.src = .clause n)) = some o → o.ended = some e →
    exec (.geyserOpComplete (.clause n)) s = .next (({ s with gey := { s.gey with
      ops := s.geyLive.filter (fun p => decide (p.src ≠ .clause n)) } } : State).slotDone n e.status e.result)) ∧
  (∀ (s : State) n tag o e c t, s.geyLive.find? (fun o => decide (o.src = .unit n tag)) = some o → o.ended = some e →
    (s.tile n).cmd? tag = some c →
    ({ s with gey := { s.gey with ops := s.geyLive.filter (fun p => decide (p.src ≠ .unit n tag)) } } : State).sramWrite n
      (field (c.c 1) 14 0 * 64) (toBytes 8 e.result.toNat) = some t →
    exec (.geyserOpComplete (.unit n tag)) s = .next (t.cmdDone n tag e.outcome e.value))) ∧
  (let runs (i : GeySrc → GeyWork → Instr) (op : Nat) (k : GeyCode) : Prop :=
    let begins (c : Instr) (s s0 : State) (src : GeySrc) (g : GCtx) (x : GArgs) (picks : List Nat) : Prop :=
      (∀ s1 r, s0.geyStart k op g x = (s1, .ok r) →
        exec c s = .next (((s1.setRun src r).geyDrive k g src picks).geySettle k op g src)) ∧
      (∀ s1 e, s0.geyStart k op g x = (s1, .error (e, false)) → e ≠ .wait →
        exec c s = .next (s1.geyClose src (geyFailed op x e))) ∧
      (∀ s1 e, s0.geyStart k op g x = (s1, .error (e, true)) → e ≠ .wait → e ≠ .stale →
        exec c s = .next ((s1.gSpoilAll g (k.plan x).outs).geyClose src (geyFailed op x e)))
    (∀ (s : State) n picks env o x, s.geyEntry (.clause n) = some o → o.run = none → s.clauseAt n 3 op = some x →
      (geyReserved op x.words = true →
        exec (i (.clause n) ⟨picks, env⟩) s = .next (s.geyEnd (.clause n) ⟨St.BAD_CLAUSE, 0, 0, 0⟩)) ∧
      (geyReserved op x.words = false →
        begins (i (.clause n) ⟨picks, env⟩) s s (.clause n) { fn := x.fn, tile := none, env := env } (geyArgs x.words) picks)) ∧
    (∀ (s : State) n tag picks env o c s1 bs, s.geyEntry (.unit n tag) = some o → o.run = none →
      (s.tile n).cmd? tag = some c → c.unit = 3 → c.op = op → c.phase = .queued → c.depth = 0 →
      field (c.c 0) 8 6 = 0 → c.c 1 < 2 ^ 15 → c.c 2 = 0 → c.c 3 = 0 →
      s.sramRead env n (c.c 1 * 64) 64 = (s1, some bs) →
      (geyReserved op (wordsOf 8 bs) = true →
        exec (i (.unit n tag) ⟨picks, env⟩) s = .next (s1.cmdFault n c TF.GEYSER_FAULT)) ∧
      (geyReserved op (wordsOf 8 bs) = false →
        begins (i (.unit n tag) ⟨picks, env⟩) s s1 (.unit n tag) (s1.geyCtx (.unit n tag) env) (geyArgs (wordsOf 8 bs)) picks)) ∧
    (∀ (s : State) src picks env o r, s.geyEntry src = some o → o.run = some r → s.geyIs src op = true →
      exec (i src ⟨picks, env⟩) s =
        .next ((s.geyDrive k (s.geyCtx src env) src picks).geySettle k op (s.geyCtx src env) src))
  runs .gather 0 codeGather ∧ runs .scatter 1 codeScatter ∧ runs .hins 2 codeHins ∧ runs .hprobe 3 codeHprobe ∧
  runs .hdel 4 codeHdel ∧ runs .sort 5 codeSort ∧ runs .merge 6 codeMerge ∧ runs .segred 7 codeSegred ∧
  runs .segscan 8 codeSegscan ∧ runs .setop 9 codeSetop ∧ runs .hsetop 10 codeHsetop ∧
  runs (fun src w => .frontier src w.picks w.env) 11 codeFrontier) ∧
  (∀ (s : State) k op g src r, s.geyRunOf src = some r → r.todo = [] → r.flight = [] →
    let finish (t : State) (e : GeyEnd) : Prop := s.geySettle k op g src = t.geyClose src e
    let spoilt := s.gSpoilAll g (k.plan r.args).outs
    (∀ f, r.fail = some f → finish spoilt ⟨f.2, 0, 0, 0⟩) ∧
    (∀ b, r.fail = none → r.bad = some b →
      finish spoilt ⟨St.GEYSER_INPUT_INVALID, 3, b.1, BitVec.ofNat 64 (b.1 * 2 ^ 56 + b.2 % 2 ^ 40)⟩) ∧
    (r.fail = none → r.bad = none → r.conflict = true → finish spoilt ⟨St.ROLE_CONFLICT, 0, 0, 0⟩) ∧
    (r.fail = none → r.bad = none → r.conflict = false → finish s (geyDone op r.args r.acc))) ∧
  (∀ (s : State) g src r i l, (∀ h, (r.items.getD i {}).err ≠ some h) →
    (∀ j, j < i → j ∈ r.todo ++ r.flight.map (fun f => f.k) → (r.items.getD j {}).num ≠ (r.items.getD i {}).num) →
    reservedKey (r.items.getD i {}).num = false → l = (r.args.b, homeBucket r.dims.1 (r.items.getD i {}).num) →
    (∃ a, (l, a) ∈ s.locksHeld) → s.geyDispatch codeHins g src r i = s)

/-- R283, R297, R298: the order of SORT and MERGE is ascending, stable and loses no record; two's complement keys order as
numbers; the union of two strictly ascending sets is strictly ascending and holds exactly their keys. Rests on the model's own
choices and readings in log entries 44 and 46. -/
def Obligations.GeyserOrders : Prop :=
  (∀ l : List (Nat × List Byte), (sortRecs l).Perm l ∧ (sortRecs l).Pairwise (fun a b => a.1 ≤ b.1) ∧
    ∀ k, (sortRecs l).filter (fun r => r.1 == k) = l.filter (fun r => r.1 == k)) ∧
  (∀ x a b, field x.mode 2 1 = 1 → a < 2 ^ (8 * keyBytes x) → b < 2 ^ (8 * keyBytes x) →
    (keyRank x a < keyRank x b ↔ signed (8 * keyBytes x) a < signed (8 * keyBytes x) b)) ∧
  (∀ a b : List Nat, a.Pairwise (· < ·) → b.Pairwise (· < ·) →
    (unionKeys a b).Pairwise (· < ·) ∧ ∀ k, k ∈ unionKeys a b ↔ k ∈ a ∨ k ∈ b)

/-- R7, R279, R311, R323, R325, R658: A byte written reads back, every other byte reads as before; a spoiled range reads as free
bytes, an erased range as zero, and every byte outside them as before. What a checked range needs, and the order in which a
check fails. Rests on the model's own choices and readings in log entries 17 and 49. -/
def Obligations.MemoryReadsAndAccessChecks : Prop :=
  ((∀ (m : Memory) a b x, (m.write a b).read x = if x = a then b else m.read x) ∧
  (∀ (m : Memory) a bs x, (m.writeList a bs).read x =
    if a ≤ x ∧ x < a + bs.length then bs.getD (x - a) 0 else m.read x) ∧
  (∀ (m : Memory) lo hi seed x, (m.spoil lo hi seed).read x =
    if lo ≤ x ∧ x < hi then Config.freeByte seed x else m.read x) ∧
  (∀ (m : Memory) lo hi x, (m.erase lo hi).read x = if lo ≤ x ∧ x < hi then 0 else m.read x)) ∧
  (∀ (s : State) fn wr a n,
    let ps := pagesOf a n
    let hole := ∃ p ∈ ps, s.region p = .hole
    let refused := ∃ p ∈ ps, s.region p ≠ .host ∧ (s.inBuddy p = true ∨ s.windowAllows fn wr p = false)
    let off := ∃ p ∈ ps, s.region p ≠ .host ∧ s.domainAt p = .off
    let waits := ∃ p ∈ ps, s.region p ≠ .host ∧ s.pageWaits p = true
    (hole → s.checkRange fn wr false a n = .fail St.ADDRESS_UNMAPPED) ∧
    (¬ hole → refused → s.checkRange fn wr false a n = .fail St.WINDOW_VIOLATION) ∧
    (¬ hole → ¬ refused → off → s.checkRange fn wr false a n = .fail St.DOMAIN_OFF) ∧
    (¬ hole → ¬ refused → ¬ off → waits → s.checkRange fn wr false a n = .wait) ∧
    (¬ hole → ¬ refused → ¬ off → ¬ waits → s.checkRange fn wr false a n = .ok ()))

/-- R310, R309, R311: the byte at offset o of band b lies at the stack and the stack-local address that the table of R310 gives
for the band's mode. In each interleave mode the 12 GiB of a band lie on the twelve stacks, one gibibyte on each, no two bytes
at one place. A write of a band mode register makes every band whose mode it changes wait; the new mode applies once the band's
accesses have completed, with every byte of the band unspecified and every other byte unchanged. -/
def Obligations.BandPlacementAndModes : Prop :=
  ((∀ (s : State) b o, b < 64 → o < 12 * 2 ^ 30 →
    let u := o / 4096
    let u' := (o - 6 * 2 ^ 30) / 4096
    let placed (stack loc : Nat) : Prop := s.place (b * (12 * 2 ^ 30) + o) = some (stack, b * 2 ^ 30 + loc)
    (s.modeOf b = 0 → placed (u % 12) (u / 12 * 4096 + o % 4096)) ∧
    (s.modeOf b = 1 → o < 6 * 2 ^ 30 → placed (u % 6) (u / 6 * 4096 + o % 4096)) ∧
    (s.modeOf b = 1 → 6 * 2 ^ 30 ≤ o → placed (6 + u' % 6) (u' / 6 * 4096 + o % 4096)) ∧
    (s.modeOf b = 2 → placed (o / 2 ^ 30) (o % 2 ^ 30))) ∧
  (∀ mode, mode < 3 →
    (∀ o, o < 12 * 2 ^ 30 → (bandPlace mode o).1 < 12 ∧ (bandPlace mode o).2 < 2 ^ 30) ∧
    (∀ o p, o < 12 * 2 ^ 30 → p < 12 * 2 ^ 30 → bandPlace mode o = bandPlace mode p → o = p) ∧
    (∀ u q, u < 12 → q < 2 ^ 30 → ∃ o, o < 12 * 2 ^ 30 ∧ bandPlace mode o = (u, q)))) ∧
  ((∀ (s0 : State) who k v, s0.ddtReady = true → isVf who = false → k < 2 → let s := s0.touch who
    Leads (.bandModeWrite who k v) s0 (fun t =>
      t.regs = writeFields bandFields k 0 0 64 v.toNat s.regs ∧
      (∀ j, j < 32 →
        (t.fld ((bandMode j).at k) 0 ≠ s.fld ((bandMode j).at k) 0 →
          Tbl.find? (32 * k + j) t.mem.bandWait = some (t.fld ((bandMode j).at k) 0)) ∧
        (t.fld ((bandMode j).at k) 0 = s.fld ((bandMode j).at k) 0 →
          Tbl.find? (32 * k + j) t.mem.bandWait = Tbl.find? (32 * k + j) s.mem.bandWait)) ∧
      t = { s with regs := t.regs, mem := { s.mem with bandWait := t.mem.bandWait } })) ∧
  (∀ (s : State) b m, Tbl.find? b s.mem.bandWait = some m →
    (s.inFlightTo (b * bandBytes) ((b + 1) * bandBytes) = true → exec (.bandModeApply b) s = .next s) ∧
    (s.inFlightTo (b * bandBytes) ((b + 1) * bandBytes) = false → m ≠ s.modeOf b →
      Leads (.bandModeApply b) s (fun t => t.modeOf b = m ∧ Tbl.find? b t.mem.bandWait = none ∧
        (∀ a, t.mem.dev.read a =
          if b * bandBytes ≤ a ∧ a < (b + 1) * bandBytes then Config.freeByte s.fresh a else s.mem.dev.read a) ∧
        t.mem.host = s.mem.host ∧ t.mem.poison = s.mem.poison ∧
        t = { s with mem := t.mem, tiles := t.tiles, mcores := t.mcores, fresh := s.fresh + 1 }))))

/-- R335 to R338: a request starts where nothing in the list conflicts with it, waits and is counted where something does, and
merges with its like that waits; an activity that ends leaves the list, and those that waited for it start in their order. Rests
on the model's own choices and readings in log entry 2. -/
def Obligations.MaintenanceArbiter : Prop :=
  (∀ (s : State) act unit,
    (isDeviceAct act = true ∨ (unit < 20 ∧ s.populated unit = true ∧ s.unitReady unit = true ∧ (act = .scrub →
      s.flag F.MEM_SCRUB_CTL_EN 0 = true ∧ (s.unit unit).lastScrub + s.scrubGap unit ≤ s.tb.time))) →
    let m : MaintReq := ⟨act, if isDeviceAct act then 0 else unit, false⟩
    (m ∈ s.mem.maint → exec (.maintRequest act unit) s = .next s) ∧
    (m ∉ s.mem.maint → (∀ x ∈ s.mem.maint, x.conflicts m = false) →
      Leads (.maintRequest act unit) s (fun t => t.mem = { s.mem with maint := s.mem.maint ++ [{ m with running := true }] } ∧
        t = { s with mem := t.mem, mcores := t.mcores })) ∧
    (m ∉ s.mem.maint → (∃ x ∈ s.mem.maint, x.conflicts m = true) →
      Leads (.maintRequest act unit) s (fun t => t.mem = { s.mem with maint := s.mem.maint ++ [m] } ∧
        t.fld F.MEM_MAINT_CNT_PENDING_CNT 0 =
          (s.fld F.MEM_MAINT_CNT_PENDING_CNT 0 + 1) % 2 ^ F.MEM_MAINT_CNT_PENDING_CNT.width ∧
        FieldsKept s t [F.MEM_MAINT_CNT_PENDING_CNT.key 0] ∧ t = { s with mem := t.mem, regs := t.regs }))) ∧
  (∀ (s : State) act unit, let u := if isDeviceAct act then 0 else unit
    s.maintRuns act u = true → s.mayEnd act = true →
    Leads (.maintEnd act unit) s (fun t =>
      t.mem = { s.mem with maint := startReady [] (dropRunning act u s.mem.maint) } ∧
      (act ≠ .refresh → t.regs = s.regs) ∧
      (act = .refresh → t.fld F.MEM_MAINT_UNIT_HOT u = ofBit (s.unit u).wantHot ∧
        FieldsKept s t [F.MEM_MAINT_UNIT_HOT.key u]) ∧
      t = { s with mem := t.mem, regs := t.regs, mcores := t.mcores })) ∧
  (∀ a b, clash a b = clash b a)

/-- R319 to R322: refresh and its rate, with its interval; a scrub burst without errors, the conditions and the end of
retraining. Rests on the model's own choices and readings in log entries 2, 176 and 191. -/
def Obligations.MemoryUnits : Prop :=
  (∀ (s : State) u, u < 20 → s.populated u = true →
    s.refreshGap u = Config.refreshNs (decide (u < 12)) / (if s.flag F.MEM_MAINT_UNIT_HOT u = true then 2 else 1) ∧
    ((s.unit u).lastRefresh + s.refreshGap u ≤ s.tb.time →
      exec (.refreshIssue u) s = .next (s.setUnit u { s.unit u with lastRefresh := s.tb.time })) ∧
    (s.tb.time < (s.unit u).lastRefresh + s.refreshGap u → exec (.refreshIssue u) s = .next s)) ∧
  (∀ (s : State) u temp, u < 20 → s.populated u = true → s.unitReady u = true →
    (85 < temp → (s.unit u).wantHot = false → exec (.refreshRateChange u temp) s =
      .next ((s.setUnit u { s.unit u with temp := temp, wantHot := true }).maintRequest .refresh u)) ∧
    (temp < 80 → (s.unit u).wantHot = true → (u < 12 ∨ s.flag F.FUM_SMB_STAT_SENSOR_FAILED 0 = false) →
      exec (.refreshRateChange u temp) s =
        .next ((s.setUnit u { s.unit u with temp := temp, wantHot := false }).maintRequest .refresh u)) ∧
    (12 ≤ u → s.flag F.FUM_SMB_STAT_SENSOR_FAILED 0 = true → (s.unit u).wantHot = false →
      exec (.refreshRateChange u temp) s =
        .next ((s.setUnit u { s.unit u with temp := temp, wantHot := true }).maintRequest .refresh u)) ∧
    (80 ≤ temp → temp ≤ 85 → (u < 12 ∨ s.flag F.FUM_SMB_STAT_SENSOR_FAILED 0 = false ∨ (s.unit u).wantHot = true) →
      exec (.refreshRateChange u temp) s = .next (s.setUnit u { s.unit u with temp := temp }))) ∧
  (∀ (s : State) u, s.maintRuns .scrub u = true →
    Leads (.scrubBurst u []) s (fun t =>
      t.unit u = { s.unit u with
        scrubPos := ((s.unit u).scrubPos + 65536) % max 65536 (s.unitBytes u), lastScrub := s.tb.time } ∧
      (∀ v, v ≠ u → t.unit v = s.unit v) ∧ t.mem.maint = startReady [] (dropRunning .scrub u s.mem.maint) ∧
      t.mem.dev = s.mem.dev ∧ t.mem.host = s.mem.host ∧ t = { s with mem := t.mem, mcores := t.mcores })) ∧
  (∀ (s : State) u temp, u < 20 → s.populated u = true → s.unitReady u = true →
    let h := s.fld F.MEM_TRAIN_CTL_INTERVAL_H 0
    let d := s.fld F.MEM_TRAIN_CTL_DRIFT_C 0
    let due := (h ≠ 0 ∧ (s.unit u).lastTrain + h * 3600000000000 ≤ s.tb.time) ∨
      (d ≠ 0 ∧ ((s.unit u).trainTemp + d < temp ∨ temp + d < (s.unit u).trainTemp))
    let s1 := s.setUnit u { s.unit u with temp := temp, linkErrs := 0, errSince := s.tb.time }
    (due → exec (.retrainTrigger u temp 0) s = .next ((s1.pulseLine 7).maintRequest .retrain u)) ∧
    (¬ due → exec (.retrainTrigger u temp 0) s = .next s1)) ∧
  (∀ (s : State) u us, s.maintRuns .retrain u = true → us ≤ (if u < 12 then 20 else 50) →
    Leads (.retrainDone u us) s (fun t =>
      t.unit u = { s.unit u with lastTrain := s.tb.time, trainTemp := (s.unit u).temp, linkErrs := 0 } ∧
      t.fld F.MEM_MAINT_UNIT_TRAIN_CNT u =
        (s.fld F.MEM_MAINT_UNIT_TRAIN_CNT u + 1) % 2 ^ F.MEM_MAINT_UNIT_TRAIN_CNT.width ∧
      FieldsKept s t [F.MEM_MAINT_UNIT_TRAIN_CNT.key u] ∧
      t.mem.maint = startReady [] (dropRunning .retrain u s.mem.maint) ∧ t.mem.dev = s.mem.dev ∧ t.mem.host = s.mem.host ∧
      t = { s with mem := t.mem, regs := t.regs, snt := t.snt, mcores := t.mcores }))

/-- R330, R331: a change of a window, of the device regions or of the translation base advances EPOCH of the functions it
concerns; a new base and an invalidation discard the function's cached entries that they name, and no other. Rests on the
model's own choices and readings in log entry 47. -/
def Obligations.RuleChanges : Prop :=
  (∀ (s0 : State) who off v d k, s0.ddtReady = true → isVf who = false → regAt off = some (d, k) → let s := s0.touch who
    (0x400200 ≤ off → off < 0x400300 → let f := s.memSel who
      exec (.windowRuleChange who off v) s0 =
        .next (({ s with regs := writeFields d.fields k f 0 64 v.toNat s.regs } : State).inc F.MEM_FN_FENCE_EPOCH f)) ∧
    (0x400400 ≤ off → off < 0x400600 → Leads (.windowRuleChange who off v) s0 (fun t =>
      let r := writeFields d.fields k 0 0 64 v.toNat s.regs
      (∀ f, f < 256 → t.fld F.MEM_FN_FENCE_EPOCH f =
        (getF r F.MEM_FN_FENCE_EPOCH f + 1) % 2 ^ F.MEM_FN_FENCE_EPOCH.width) ∧
      t = { s with regs := t.regs }))) ∧
  (∀ (s0 : State) who v, s0.ddtReady = true → isVf who = false → let s := s0.touch who
    Leads (.xltBaseWrite who v) s0 (fun t => let f := s.memSel who
      t.mem = { s.mem with cache := s.mem.cache.filter (fun c => c.fn != f) } ∧
      t.regs = incF F.MEM_FN_FENCE_EPOCH f
        (writeFields [F.MEM_XLT_BASE_L1, F.MEM_XLT_BASE_EN] 0 f 0 64 v.toNat s.regs) ∧
      t = { s with mem := t.mem, regs := t.regs })) ∧
  (∀ (s : State) fn, s.flag F.MEM_XLT_INV_GO fn = true →
    Leads (.xltInvalidate fn) s (fun t =>
      (∀ c, c ∈ t.mem.cache ↔ c ∈ s.mem.cache ∧
        ¬ (c.fn = fn ∧ c.named (s.fld F.MEM_XLT_INV_ADDR_PAGE fn) (s.fld F.MEM_XLT_INV_PAGES fn) = true)) ∧
      t.flag F.MEM_XLT_INV_GO fn = false ∧
      t.fld F.MEM_FN_FENCE_EPOCH fn = (s.fld F.MEM_FN_FENCE_EPOCH fn + 1) % 2 ^ F.MEM_FN_FENCE_EPOCH.width ∧
      FieldsKept s t [F.MEM_XLT_INV_GO.key fn, F.MEM_FN_FENCE_EPOCH.key fn] ∧
      t = { s with regs := t.regs, mem := { s.mem with cache := t.mem.cache } }))

/-- R360 to R364, R371: a completion in time gives its data to the entry or the clause that waits for it; a failed or late one
ends the read as R362 and R364 say, and the tag of a late one stays out of use for 8 s; an unexpected one is counted. Rests on
the model's own choices and readings in log entries 54, 57, 167 and 170. -/
def Obligations.UpstreamReads : Prop :=
  (∀ (s : State) tag data r, Tbl.find? tag s.hep.reads = some r →
    (∀ n x, data.length = r.len → r.purpose = .ringFetch n → s.slot? n = some x →
      exec (.hostCompletionArrive tag .success data) s = .next
        ((((s.dropRead tag).tlp.hostWrite r.addr data).setSlot n { x with words := wordsOf 8 data }).snoop 24 r.fn data)) ∧
    ((∀ n, r.purpose ≠ .ringFetch n) → data.length = r.len →
      exec (.hostCompletionArrive tag .success data) s = .next ((s.dropRead tag).tlp.hostWrite r.addr data)) ∧
    exec (.hostCompletionArrive tag .errorStatus data) s = .next ((s.dropRead tag).tlp.readFailed r .errorStatus) ∧
    exec (.hostCompletionArrive tag .poisoned data) s = .next ((s.dropRead tag).tlp.readFailed r .poisoned) ∧
    (r.sent + r.timeout ≤ s.tb.time →
      exec (.completionTimeout tag) s = .next ((s.giveUpRead tag r).readFailed r .timeout)) ∧
    (s.tb.time < r.sent + r.timeout → exec (.completionTimeout tag) s = .next s) ∧
    Tbl.find? tag (s.dropRead tag).hep.reads = none ∧ Tbl.find? tag (s.giveUpRead tag r).hep.reads = none ∧
    Tbl.getD (s.giveUpRead tag r).hep.tagHold tag 0 = r.sent + 8000000000) ∧
  (∀ (s : State) fn tag, Tbl.find? tag s.hep.reads = none →
    let f := if fn < 256 then fn else 0
    Leads (.unexpectedCompletion fn tag) s (fun t =>
      t.fld F.HEP_FN_STAT_UNEXP_CPL f = (s.fld F.HEP_FN_STAT_UNEXP_CPL f + 1) % 2 ^ F.HEP_FN_STAT_UNEXP_CPL.width ∧
      FieldsKept s.tlp t [F.HEP_FN_STAT_UNEXP_CPL.key f] ∧
      t.hep = { s.hep with
        lastTlp := s.tb.time, aer := if s.choice 0x360 = true then (f, 1) :: (f, 3) :: s.hep.aer else (f, 3) :: s.hep.aer } ∧
      t = { s with regs := t.regs, hep := t.hep, snt := t.snt, fresh := s.fresh + 1 }))

/-- R111, R356, R360, R367, R369, R370: what an unmasked vector, the clearing of cause bits and of Interrupt Disable, and a change
of the power state do, for a function that exists and does not reset: a configuration request to another function is answered
with Unsupported Request or has no effect. Each crosses the upstream link. Rests on the model's own choices and readings in log
entries 9, 54 and 58. -/
def Obligations.InterruptRequests : Prop :=
  let causes := (List.range 17).map (fun k => (F.HEP_INTX_CAUSE_VEC.at k).key 0)
  (∀ (s : State) fn what, fn < 256 → s.fnExists fn = true →
    (s.flag F.HEP_FN_STAT_DRAINING fn = false ∨ ∃ v, what = .entry v) → Leads (.msixUnmask fn what) s (fun t =>
      (∀ v, what = .entry v → t.hep.cfg = s.hep.cfg ∧ (v < vecCount fn → t.msixEntry fn v = { s.msixEntry fn v with masked := false }) ∧
        (∀ k, k ≠ vecKey fn v → Tbl.find? k t.hep.msix = Tbl.find? k s.hep.msix)) ∧
      (what = .function → t.cfg fn = { s.cfg fn with msixMask := false } ∧ t.hep.msix = s.hep.msix) ∧
      (what = .enable → t.cfg fn = { s.cfg fn with msixEnable := true } ∧ t.hep.msix = s.hep.msix) ∧
      (∀ f, f ≠ fn → t.cfg f = s.cfg f) ∧
      (∀ v, v < 4096 → t.mayInterrupt fn v = true → (t.irqVec fn v).count = 0) ∧
      (∀ v, v < 4096 → t.mayInterrupt fn v = false → t.irqVec fn v = s.irqVec fn v) ∧
      (∀ k, k / 4096 ≠ fn → Tbl.find? k t.hep.irq = Tbl.find? k s.hep.irq) ∧
      t = { s.tlp with hep := { s.tlp.hep with
        irq := t.hep.irq, msgs := t.hep.msgs, msix := t.hep.msix, cfg := t.hep.cfg } })) ∧
  (∀ (s : State) fn, fn < 256 → s.fnExists fn = true → s.flag F.HEP_FN_STAT_DRAINING fn = false →
    exec (.powerStateChange fn true) s = .next (s.tlp.setFld F.HEP_FN_STAT_DSTATE fn 3) ∧
    Leads (.powerStateChange fn false) s (fun t => t.fld F.HEP_FN_STAT_DSTATE fn = 0 ∧
      FieldsKept s.tlp t (F.HEP_FN_STAT_DSTATE.key fn :: if fn = 0 then causes else []) ∧
      (∀ v, v < 4096 → t.mayInterrupt fn v = true → (t.irqVec fn v).count = 0) ∧
      (fn = 0 → (s.cfg 0).msixEnable = false → (s.cfg 0).intDisable = false →
        ∀ v, v < 1036 → (s.irqVec 0 v).count ≠ 0 →
          bit (t.fld (F.HEP_INTX_CAUSE_VEC.at (v / 64)) 0) (v % 64) = true ∧ (t.irqVec 0 v).count = 0) ∧
      (∀ k, k / 4096 ≠ fn → Tbl.find? k t.hep.irq = Tbl.find? k s.hep.irq) ∧
      t = { s.tlp with regs := t.regs, hep := { s.tlp.hep with
        irq := t.hep.irq, msgs := t.hep.msgs, intxAsserted := t.hep.intxAsserted, intxMsgs := t.hep.intxMsgs } })) ∧
  (∀ (s : State) fn what b, s.fnExists fn = false →
    exec (.msixUnmask fn what) s = .next (aerReport (fn % 256) 4 s.tlp) ∧
    exec (.powerStateChange fn b) s = .next (aerReport (fn % 256) 4 s.tlp)) ∧
  (∀ (s : State) fn b, fn < 256 → s.fnExists fn = true → s.flag F.HEP_FN_STAT_DRAINING fn = true →
    exec (.msixUnmask fn .function) s = .next s.tlp ∧ exec (.msixUnmask fn .enable) s = .next s.tlp ∧
    exec (.powerStateChange fn b) s = .next s.tlp ∧ (fn = 0 → exec .interruptDisableClear s = .next s.tlp)) ∧
  (∀ (s : State) k v, k < 17 → Leads (.intxCauseClear k v) s (fun t =>
    let f := F.HEP_INTX_CAUSE_VEC.at k
    (∀ i, i < 64 → bit (t.fld f 0) i = (bit (s.fld f 0 % 2 ^ f.width) i && !bit v.toNat i)) ∧
    FieldsKept s.tlp t [f.key 0] ∧
    ((t.intxClear = true ∧ s.intxClear = false) →
      t.hep = { s.tlp.hep with intxAsserted := false, intxMsgs := 2 :: s.hep.intxMsgs }) ∧
    ((t.intxClear = false ∨ s.intxClear = true) → t.hep = s.tlp.hep) ∧ t = { s with regs := t.regs, hep := t.hep })) ∧
  (∀ (s : State), s.flag F.HEP_FN_STAT_DRAINING 0 = false → Leads .interruptDisableClear s (fun t =>
    (t.cfg 0) = { s.cfg 0 with intDisable := false } ∧
    ((s.cfg 0).msixEnable = false → s.fld F.HEP_FN_STAT_DSTATE 0 ≠ 3 → ∀ v, v < 1036 → (s.irqVec 0 v).count ≠ 0 →
      bit (t.fld (F.HEP_INTX_CAUSE_VEC.at (v / 64)) 0) (v % 64) = true ∧ (t.irqVec 0 v).count = 0) ∧
    ((s.cfg 0).msixEnable = true ∨ s.fld F.HEP_FN_STAT_DSTATE 0 = 3 →
      t = s.tlp.setCfg 0 { s.cfg 0 with intDisable := false }) ∧
    FieldsKept s.tlp t causes ∧
    t = { s.tlp with regs := t.regs, hep := { s.tlp.hep with
      cfg := t.hep.cfg, irq := t.hep.irq, intxAsserted := t.hep.intxAsserted, intxMsgs := t.hep.intxMsgs } }))

/-- R340, R342, R345, R346, R356, R360, R371 to R375: the upstream link trains, sleeps, wakes, changes its width and counts what it
reports; configuration requests; the downstream ports' presence and errors, a drive's refused request, and VF Enable set.
Rests on the model's own choices and readings in log entries 9, 54, 165, 166, 167, 168 and 169. -/
def Obligations.UpstreamLinkAndPorts : Prop :=
  ((∀ (s : State) rate w cfg, 1 ≤ rate → rate ≤ 6 → w ∈ [1, 2, 4, 8, 16] → s.fum.perst = false →
      3 ≤ s.fld F.FUM_BOOT_STAT_STAGE 0 → s.fld F.FUM_BOOT_STAT_STAGE 0 ≠ 6 →
    let t := s.linkUp rate w
    exec (.upstreamLinkTrained ⟨rate, w⟩ cfg) s = .next (t.enumerate cfg) ∧
      t.fld F.HEP_LINK_STAT_RATE 0 = rate ∧ t.fld F.HEP_LINK_STAT_WIDTH 0 = w ∧ t.fld F.HEP_LINK_STAT_STATE 0 = 1 ∧
      t.fld F.HEP_LINK_STAT_L0P_WIDTH 0 = 0 ∧ t.flag F.HEP_LINK_STAT_UP 0 = true ∧
      t.fld F.HEP_LINK_CNT_RECOVERY_CNT 0 =
        (if s.flag F.HEP_LINK_STAT_UP 0 = true ∧ s.fld F.HEP_LINK_STAT_STATE 0 ≠ 6 then
          (s.fld F.HEP_LINK_CNT_RECOVERY_CNT 0 + 1) % 2 ^ F.HEP_LINK_CNT_RECOVERY_CNT.width
        else s.fld F.HEP_LINK_CNT_RECOVERY_CNT 0) ∧
      FieldsKept s t ([F.HEP_LINK_STAT_RATE.key 0, F.HEP_LINK_STAT_WIDTH.key 0, F.HEP_LINK_STAT_STATE.key 0,
        F.HEP_LINK_STAT_L0P_WIDTH.key 0, F.HEP_LINK_STAT_UP.key 0, F.HEP_LINK_CNT_RECOVERY_CNT.key 0] ++
        if s.fld F.HEP_LINK_STAT_STATE 0 ∈ [3, 4, 5] then [F.FUM_PD_STAT_ON.key 0] else []) ∧ t = { s with regs := t.regs }) ∧
  (∀ (s : State) fn x rest, s.enumerate [] = s ∧
    (s.fnExists fn = true → fn < 256 → s.flag F.HEP_FN_STAT_DRAINING fn = false →
      s.enumerate ((fn, x) :: rest) = (s.tlp.setCfg fn (CfgField.put fn (s.cfg fn) x)).enumerate rest) ∧
    (s.fnExists fn = true → fn < 256 → s.flag F.HEP_FN_STAT_DRAINING fn = true →
      s.enumerate ((fn, x) :: rest) = s.tlp.enumerate rest) ∧
    (s.fnExists fn = false → s.enumerate ((fn, x) :: rest) = (aerReport (fn % 256) 4 s.tlp).enumerate rest)) ∧
  (∀ fn (c : FnConfig) a, let z := barSizes fn
    (CfgField.put fn c (.bar0 a)).bar0 = a - a % z.1 ∧ (CfgField.put fn c (.bar2 a)).bar2 = a - a % z.2.1 ∧
    (CfgField.put fn c (.bar4 a)).bar4 = a - a % z.2.2) ∧
  (∀ (s : State) l1 l11 l12, let s1 : State := { s with hep := { s.hep with aspmL1 := l1, aspmL11 := l11, aspmL12 := l12 } }
    let lim := s.fld F.HEP_LPM_CTL_L1_IDLE_US 0
    let may : Prop := lim ≠ 0 ∧ s.hep.lastTlp + lim * 1000 ≤ s.tb.time ∧ s.hep.reads = [] ∧
      (s.fld F.HEP_LINK_STAT_STATE 0 = 1 ∨ s.fld F.HEP_LINK_STAT_STATE 0 = 2) ∧ l1 = true
    (may → l12 = false → exec (.l1Entry ⟨l1, l11, l12⟩) s =
      .next (s1.setFld F.HEP_LINK_STAT_STATE 0 (if l11 = true then 4 else 3))) ∧
    (may → l12 = true → exec (.l1Entry ⟨l1, l11, l12⟩) s = .next ((s1.setFld F.HEP_LINK_STAT_STATE 0 5).setFld F.FUM_PD_STAT_ON 0
      (setField (s.fld F.FUM_PD_STAT_ON 0) 29 29 0))) ∧
    (¬ may → exec (.l1Entry ⟨l1, l11, l12⟩) s = .next s1)) ∧
  (∀ (s : State), exec .l1Exit s = .next s.leaveL1 ∧
    s.tlp = { s.leaveL1 with hep := { s.hep with lastTlp := s.tb.time } } ∧
    (s.fld F.HEP_LINK_STAT_STATE 0 ∉ [3, 4, 5] → s.leaveL1 = s) ∧
    (s.fld F.HEP_LINK_STAT_STATE 0 ∈ [3, 4, 5] → let t := s.leaveL1
      t.fld F.HEP_LINK_STAT_STATE 0 = (if s.fld F.HEP_LINK_STAT_L0P_WIDTH 0 = 0 then 1 else 2) ∧
      t.fld F.FUM_PD_STAT_ON 0 =
        setField (s.fld F.FUM_PD_STAT_ON 0) 29 29 1 % 2 ^ F.FUM_PD_STAT_ON.width ∧
      FieldsKept s t [F.HEP_LINK_STAT_STATE.key 0, F.FUM_PD_STAT_ON.key 0] ∧ t = { s with regs := t.regs })) ∧
  (∀ (s : State) util, s.flag F.HEP_LPM_CTL_L0P_EN 0 = true →
    s.fld F.HEP_LPM_CTL_L0P_DOWN_PCT 0 < s.fld F.HEP_LPM_CTL_L0P_UP_PCT 0 →
    (s.fld F.HEP_LINK_STAT_STATE 0 = 1 ∨ s.fld F.HEP_LINK_STAT_STATE 0 = 2) →
    let full := s.fld F.HEP_LINK_STAT_WIDTH 0
    let cur := if s.fld F.HEP_LINK_STAT_L0P_WIDTH 0 = 0 then full else s.fld F.HEP_LINK_STAT_L0P_WIDTH 0
    let goes (waited : Bool) (s1 : State) (w : Nat) : Prop := exec (.l0pWindow util ⟨waited, []⟩) s = .next (
      (s1.setFld F.HEP_LINK_STAT_L0P_WIDTH 0 (if w = full then 0 else w)).setFld
        F.HEP_LINK_STAT_STATE 0 (if w = full then 1 else 2))
    let s1 : State := { s with hep := { s.hep with l0pWindowStart := s.tb.time } }
    (s.hep.l0pWindowStart + 100000 ≤ s.tb.time →
      (s.fld F.HEP_LPM_CTL_L0P_UP_PCT 0 < util → goes false s1 (min full (2 * cur))) ∧
      (util < s.fld F.HEP_LPM_CTL_L0P_DOWN_PCT 0 → 2 < cur → goes false s1 (cur / 2)) ∧
      (s.fld F.HEP_LPM_CTL_L0P_DOWN_PCT 0 ≤ util → util ≤ s.fld F.HEP_LPM_CTL_L0P_UP_PCT 0 → goes false s1 cur)) ∧
    (s.tb.time < s.hep.l0pWindowStart + 100000 → goes true s (min full (2 * cur)) ∧
      exec (.l0pWindow util ⟨false, []⟩) s = .next s)) ∧
  (∀ (s : State) util waited errs,
    exec (.l0pWindow util ⟨waited, errs⟩) s = exec (.l0pWindow util ⟨waited, []⟩) (errs.foldl State.linkErr s)) ∧
  (∀ (s : State),
    (∀ e ∈ [(LinkErr.receiver, 7), (.badTlp, 8), (.badDllp, 9), (.replayTimeout, 10), (.replayRollover, 11)],
      (s.linkErr e.1).fld F.HEP_LINK_CNT_CORR_CNT 0 =
        (s.fld F.HEP_LINK_CNT_CORR_CNT 0 + 1) % 2 ^ F.HEP_LINK_CNT_CORR_CNT.width ∧
      (s.linkErr e.1).hep.aer = (0, e.2) :: s.hep.aer) ∧
    (∀ e ∈ [(LinkErr.dlProtocol, 12), (.flowControl, 13), (.malformed, 14), (.overflow, 15)],
      (s.linkErr e.1).fld F.HEP_LINK_CNT_UNCORR_CNT 0 =
        (s.fld F.HEP_LINK_CNT_UNCORR_CNT 0 + 1) % 2 ^ F.HEP_LINK_CNT_UNCORR_CNT.width ∧
      (s.linkErr e.1).hep.aer = (0, e.2) :: s.hep.aer) ∧
    (∀ e ∈ [LinkErr.nak, .replayTimeout], (s.linkErr e).fld F.HEP_LINK_CNT_REPLAY_CNT 0 =
      (s.fld F.HEP_LINK_CNT_REPLAY_CNT 0 + 1) % 2 ^ F.HEP_LINK_CNT_REPLAY_CNT.width) ∧
    (s.flag F.HEP_LINK_STAT_UP 0 = true → (s.linkErr .recovery).fld F.HEP_LINK_STAT_STATE 0 = 6 ∧
      (s.linkErr .recovery).fld F.HEP_LINK_CNT_RECOVERY_CNT 0 =
        (s.fld F.HEP_LINK_CNT_RECOVERY_CNT 0 + 1) % 2 ^ F.HEP_LINK_CNT_RECOVERY_CNT.width))) ∧
  ((∀ (s : State) p b, p < 4 → s.flag F.HEP_DP_STAT_PRESENT p ≠ b →
    Leads (.dpPresenceChange p b) s (fun t => t.flag F.HEP_DP_STAT_PRESENT p = b ∧ t.flag F.HEP_DP_STAT_CHANGE p = true ∧
      (b = false → t.flag F.HEP_DP_STAT_UP p = false) ∧
      (b = false → s.flag F.HEP_DP_STAT_UP p = true → s.flag F.HEP_DP_CTL_PWR p = true →
        t.fld F.HEP_DP_STAT_SURPRISE_CNT p =
          (s.fld F.HEP_DP_STAT_SURPRISE_CNT p + 1) % 2 ^ F.HEP_DP_STAT_SURPRISE_CNT.width) ∧
      (b = true ∨ s.flag F.HEP_DP_STAT_UP p = false ∨ s.flag F.HEP_DP_CTL_PWR p = false →
        t.fld F.HEP_DP_STAT_SURPRISE_CNT p = s.fld F.HEP_DP_STAT_SURPRISE_CNT p) ∧
      FieldsKept s t [F.HEP_DP_STAT_PRESENT.key p, F.HEP_DP_STAT_CHANGE.key p, F.HEP_DP_STAT_UP.key p,
        F.HEP_DP_STAT_WIDTH.key p, F.HEP_DP_STAT_RATE.key p, F.HEP_DP_STAT_SURPRISE_CNT.key p] ∧
      t = { s with regs := t.regs })) ∧
  (∀ (s : State) p, p < 4 → Leads (.dpError p) s (fun t =>
    t.fld F.HEP_DP_STAT_ERR_CNT p = (s.fld F.HEP_DP_STAT_ERR_CNT p + 1) % 2 ^ F.HEP_DP_STAT_ERR_CNT.width ∧
    FieldsKept s t [F.HEP_DP_STAT_ERR_CNT.key p] ∧ Tbl.getD t.sto.portErrs p 0 = Tbl.getD s.sto.portErrs p 0 + 1 ∧
    t = { s with regs := t.regs, snt := t.snt, sto := { s.sto with portErrs := t.sto.portErrs } })) ∧
  (∀ (s : State) p a, p < 4 →
    (s.driveBuffer p a = false → Leads (.driveMemoryRequest p a) s (fun t =>
      Tbl.getD t.hep.drvRefused p 0 = Tbl.getD s.hep.drvRefused p 0 + 1 ∧
      t = { s with hep := { s.hep with drvRefused := t.hep.drvRefused } })) ∧
    (s.driveBuffer p a = true → exec (.driveMemoryRequest p a) s = .next s)) ∧
  (∀ (s : State) n cfg,
    (s.flag F.HEP_FN_STAT_DRAINING 0 = false → exec (.vfEnableSet ⟨n, cfg⟩) s = .next ((s.tlp.vfOn n).enumerate cfg)) ∧
    (s.flag F.HEP_FN_STAT_DRAINING 0 = true → exec (.vfEnableSet ⟨n, cfg⟩) s = .next (s.tlp.enumerate cfg)) ∧
    (s.hep.vfEnable = true ∨ 255 < n → s.vfOn n = s) ∧
    (s.hep.vfEnable = false → n ≤ 255 → let t := s.vfOn n
      t.hep.vfEnable = true ∧ t.hep.numVfs = n ∧
      (∀ f, 1 ≤ f → f ≤ 255 → t.cfg f = { s.cfg f with classCode := s.vfClass f }) ∧
      (∀ f, f = 0 ∨ 255 < f → t.cfg f = s.cfg f) ∧
      t = { s with hep := { s.hep with vfEnable := true, numVfs := n, cfg := t.hep.cfg } })))

/-- R354 to R358, R471: a reset advances the function's generation and drains it; a function without work drains at once; when
nothing of the old generation remains its per-function registers return to their Reset values, all but the generation. Rests on
the model's own choices and readings in log entries 22, 55 and 56. -/
def Obligations.FunctionResets : Prop :=
  (∀ (s : State) fn flr, s.fnRings fn = [] → (∀ r ∈ s.roles, r.2.fn ≠ fn) → s.fnQps fn = [] → fn ≠ s.buddyFn →
    (s.ctrl fn).en = false →
    s.fnReset fn flr = { s with
      regs := setF F.HEP_FN_STAT_DRAINING fn 1 (setF F.HEP_FN_STAT_FGEN fn (genNext (s.fgen fn)) s.regs)
      hep := { s.hep with
        drainStart := Tbl.set fn (Tbl.getD s.hep.drainStart fn s.tb.time) s.hep.drainStart
        drainFlr := Tbl.put false fn (flr || Tbl.getD s.hep.drainFlr fn false) s.hep.drainFlr
        irq := s.hep.irq.filter (fun x => x.1 / 4096 != fn) }
      rdm := { s.rdm with
        regions := s.rdm.regions.map (fun g => if g.2.fn = fn then (g.1, { g.2 with dying := true }) else g) } }) ∧
  (∀ (s : State) fn, fn ≠ 0 → s.fnExists fn = true → exec (.functionLevelReset fn) s = .next (s.fnReset fn true)) ∧
  (∀ (s : State), s.hep.vfEnable = false → exec (.functionLevelReset 0) s =
    .next (({ s with hep := { s.hep with numVfs := 0 } } : State).fnReset 0 true)) ∧
  (∀ (s : State) fn, fn < 256 → s.flag F.HEP_FN_CTL_RESET fn = true →
    exec (.fnResetCmd fn) s = .next ((s.setFlag F.HEP_FN_CTL_RESET fn false).fnReset fn false)) ∧
  (∀ (s : State), s.flag F.HEP_FN_STAT_DRAINING 0 = false → s.hep.vfEnable = true →
    exec .vfEnableClear s = .next ((List.range 255).foldl (fun t i => t.fnReset (i + 1) false)
      { s.tlp with hep := { s.tlp.hep with vfEnable := false } })) ∧
  (∀ (s : State), (s.flag F.HEP_FN_STAT_DRAINING 0 = true ∨ s.hep.vfEnable = false) → exec .vfEnableClear s = .next s.tlp) ∧
  (∀ (s : State), Leads .hotReset s (fun t => t.flag F.HEP_LINK_STAT_UP 0 = false ∧ t.fld F.HEP_LINK_STAT_STATE 0 = 0 ∧
    t.fld F.HEP_LINK_STAT_WIDTH 0 = 0 ∧ t.fld F.HEP_LINK_STAT_RATE 0 = 0 ∧ t.fld F.HEP_LINK_STAT_L0P_WIDTH 0 = 0)) ∧
  (∀ (s : State) fn, s.flag F.HEP_FN_STAT_DRAINING fn = true → s.fnBusy fn = false →
    Leads (.fnResetDrainDone fn) s (fun t =>
      (∀ g : Fld, g.lo < 64 → fn < 65536 → g.off ∈ pageRegs → g.key fn ≠ F.HEP_FN_STAT_FGEN.key fn →
        t.fld g fn = g.resetAt fn) ∧
      (∀ x ∈ t.rdm.regions, x.2.fn ≠ fn) ∧ (∀ k, k / 4096 = fn → Tbl.find? k t.hep.irq = none) ∧
      Tbl.find? fn t.hep.drainStart = none)) ∧
  (∀ (s : State) fn t0, Tbl.find? fn s.hep.drainStart = some t0 → s.flag F.HEP_FN_STAT_DRAINING fn = true → s.fnBusy fn = true →
    (t0 + 90000000 ≤ s.tb.time → exec (.fnResetCut fn) s = .next ((sinterEvent 0x142 fn (s.fnCut fn)).fnClear fn)) ∧
    (s.tb.time < t0 + 90000000 → exec (.fnResetCut fn) s = .next s))

/-- R82 to R87, R93, R113, R356: a doorbell of a bound ring with the ring's generation moves its index and, on a submission ring
with entries to fetch, sets its pending bit with its age; a stale one and a bad one are counted; an index too far ahead halts the
ring; a write outside the doorbell window is an Unsupported Request. Rests on the model's own choices and readings in log entry
2. -/
def Obligations.Doorbells : Prop :=
  let moved (s : State) (key i : Nat) : State :=
    let r := s.ring key
    let s1 := s.setRing key { r with
      sw := i, pend := decide (r.hw ≠ i), age := if r.pend = true ∨ r.hw = i then r.age else s.rng.arbNo }
    { s1 with rng := { s1.rng with arbNo := s.rng.arbNo + 1 } }
  (∀ (s0 : State) fn off bytes v, let s := s0.tlp
    ((s.fnExists fn = false ∨ (barSizes fn).2.1 ≤ off) →
      exec (.doorbellWrite fn off bytes v) s0 = .next (aerReport (fn % 256) 4 s)) ∧
    (s.fnExists fn = true → off < (barSizes fn).2.1 →
      (bytes ≠ 8 ∨ off % 8 ≠ 0 ∨ s.visiblePage fn (off / 4096) = none) →
      exec (.doorbellWrite fn off bytes v) s0 = .next (s.inc F.RNG_FN_STAT_BAD_DB fn))) ∧
  (∀ (s0 : State) fn off v p, let s := s0.tlp
    s.fnExists fn = true → off < (barSizes fn).2.1 → off % 8 = 0 → s.visiblePage fn (off / 4096) = some p →
    (s.boundRing p (off % 4096 / 8) = none →
      exec (.doorbellWrite fn off 8 v) s0 = .next (s.inc F.RNG_FN_STAT_BAD_DB fn)) ∧
    (∀ key, s.boundRing p (off % 4096 / 8) = some key →
      let r := s.ring key
      let i := field v.toNat 31 0
      (r.fn ≠ fn → exec (.doorbellWrite fn off 8 v) s0 = .next (s.inc F.RNG_FN_STAT_BAD_DB fn)) ∧
      (r.fn = fn → (r.st = .draining ∨ field v.toNat 47 32 ≠ r.gen) →
        exec (.doorbellWrite fn off 8 v) s0 = .next (s.inc F.RNG_FN_STAT_STALE_DB fn)) ∧
      (r.fn = fn → r.st ≠ .draining → field v.toNat 47 32 = r.gen →
        (key < 16384 → idxSub i r.hw ≤ r.size → exec (.doorbellWrite fn off 8 v) s0 = .next (moved s key i)) ∧
        (key < 16384 → r.size < idxSub i r.hw →
          exec (.doorbellWrite fn off 8 v) s0 = .next (s.haltWithEvent {} key St.DOORBELL_INVALID)) ∧
        (16384 ≤ key → idxSub r.hw i ≤ r.size →
          exec (.doorbellWrite fn off 8 v) s0 = .next (s.setRing key { r with sw := i })) ∧
        (16384 ≤ key → r.size < idxSub r.hw i → r.st = .active → exec (.doorbellWrite fn off 8 v) s0 =
          .next ((s.haltCq key St.DOORBELL_INVALID).postCqHalt {} key St.DOORBELL_INVALID))))) ∧
  (∀ (s0 : State) who v, s0.ddtReady = true → let s := s0.touch who
    let key := s.selRing who
    let r := s.ring key
    let i := field v.toNat 31 0
    ((r.st = .free ∨ r.fn ≠ reqFn who) →
      exec (.ringIndexWrite who v) s0 = .next (s.inc F.RNG_FN_STAT_BAD_DB (reqFn who))) ∧
    (r.fn = reqFn who → (r.st = .active ∨ r.st = .halted) → key < 16384 → idxSub i r.hw ≤ r.size →
      exec (.ringIndexWrite who v) s0 = .next (moved s key i))) ∧
  (∀ (s0 : State) fn qid v key, let s := s0.tlp
    s.nvmeQueue fn qid .nvmeSq = some key → key < 16384 →
    let r := s.ring key
    (r.st = .draining → exec (.nvmeDoorbell fn (0x1000 + 8 * qid) v) s0 = .next (s.inc F.RNG_FN_STAT_STALE_DB fn)) ∧
    ((s.ctrl fn).ready = true → (r.st = .active ∨ r.st = .halted) → v < r.size → r.size ≤ 2 ^ 16 → r.hw < 2 ^ 32 →
      (nvmeIndex r.hw v r.size) % 2 ^ 32 = nvmeIndex r.hw v r.size ∧
      exec (.nvmeDoorbell fn (0x1000 + 8 * qid) v) s0 = .next (moved s key (nvmeIndex r.hw v r.size))))

/-- R72, R88 to R90, R94: the arbiter grants, among the eligible rings, one of the lowest priority number and of these the one
that waits longest; an entry fetched from device memory takes a slot; the word-0 checks in their order decide what becomes of
it. Rests on the model's own choices and readings in log entries 6, 55 and 162. -/
def Obligations.ArbitrationAndArrival : Prop :=
  (∀ (s : State) p k, s.grant p = some k → s.eligible k = true ∧ p k = true ∧
    ∀ x ∈ s.rng.rings, s.eligible x.1 = true → p x.1 = true →
      (s.ring k).prio < (s.ring x.1).prio ∨ ((s.ring k).prio = (s.ring x.1).prio ∧ (s.ring k).age ≤ (s.ring x.1).age)) ∧
  (∀ (s : State) env k n, s.grant (fun _ => true) = some k → s.grant (fun j => decide (0 < s.slotsFor (s.ring j).fn)) = some k →
    let r := s.ring k
    let a := r.base + r.hw % r.size * 64
    r.burst = 0 → r.refetch = none → r.hw ≠ r.sw → (r.typ = .clause ∨ r.typ = .workQueue) →
    Tbl.firstFree s.rng.slots 4096 0 = some n → s.checkRange r.fn false false a 64 = .ok () → s.region a ≠ .host →
    env.ecc = [] → s.poisonIn a 64 = [] →
    Leads (.ringArbitration env) s (fun t =>
      t.ring k = { r with age := s.rng.arbNo, hw := idxNext r.hw, pend := decide (idxNext r.hw ≠ r.sw) } ∧
      (∀ j, j ≠ k → t.ring j = s.ring j) ∧
      t.slot? n = some { ring := k, idx := r.hw, fn := r.fn, words := wordsOf 8 (s.devRead a 64), since := s.tb.time
                         born := s.rng.arbNo + 1 } ∧
      (∀ m, m ≠ n → t.slot? m = s.slot? m) ∧
      t = { s with rng := { s.rng with rings := t.rng.rings, slots := t.rng.slots, arbNo := s.rng.arbNo + 1 } })) ∧
  (∀ (s : State) env, s.grant (fun _ => true) = none → s.grant (fun j => decide (0 < s.slotsFor (s.ring j).fn)) = none →
    exec (.ringArbitration env) s = .next s) ∧
  (∀ (s : State) key w, let r := s.ring key
    (c0Rgen w ≠ r.gen → s.checkWord0 key w = 0x11) ∧
    (c0Rgen w = r.gen → c0Fgen w ≠ s.fgen r.fn → s.checkWord0 key w = 0x12) ∧
    (c0Rgen w = r.gen → c0Fgen w = s.fgen r.fn → (opDefined (c0Class w) (c0Op w) = false ∨ bit w 13 = true) →
      s.checkWord0 key w = 0x10) ∧
    (c0Rgen w = r.gen → c0Fgen w = s.fgen r.fn → opDefined (c0Class w) (c0Op w) = true → bit w 13 = false →
      (s.classEnabled r.fn (c0Class w) = false → s.checkWord0 key w = 0x13) ∧
      (s.classEnabled r.fn (c0Class w) = true → s.checkWord0 key w = 0))) ∧
  (∀ (s : State) n x, s.slot? n = some x → x.phase = .fetching → x.words.length = 8 → s.isNext x = true →
    (s.ring x.ring).held = none → (s.ring x.ring).typ = .clause →
    let r := s.ring x.ring
    let w := wordAt x.words 0
    let x1 : Slot := { x with fgen := c0Fgen w }
    let h : HeldClause := ⟨x.idx, x.words, s.tb.time, s.rng.dispNo, none, false⟩
    (∀ st, s.checkWord0 x.ring w = st → st ≠ 0 → exec (.clauseArrival n) s =
      .next (((s.setSlot n { x with fgen := if st = 0x12 then s.fgen x.fn else c0Fgen w }).setRing x.ring { r with
        disp := if x.retry then r.disp else idxNext x.idx }).slotDone n st 0)) ∧
    (s.checkWord0 x.ring w = 0 → slotless (c0Class w) = true → Leads (.clauseArrival n) s (fun t =>
      t.slot? n = none ∧ (∀ m, m ≠ n → t.slot? m = s.slot? m) ∧
      t.ring x.ring = { r with held := some { h with
        mis := c0Class w == 7 && c0Op w == 2 && !barrierBad h && s.barrierMis r.fn h } } ∧
      (∀ k, k ≠ x.ring → t.ring k = s.ring k) ∧ t.rng.dispNo = s.rng.dispNo + 1)) ∧
    (s.checkWord0 x.ring w = 0 → slotless (c0Class w) = false →
      ((c0Fence w = false ∨ s.earlierDone x.ring x.idx = true) →
        exec (.clauseArrival n) s = .next (s.dispatch n x1)) ∧
      (c0Fence w = true → s.earlierDone x.ring x.idx = false →
        exec (.clauseArrival n) s = .next (s.setSlot n { x1 with phase := .arrived })))) ∧
  (∀ (s : State) ring n x, (s.ringSlots ring).find? (fun x => decide (x.2.phase = .arrived)) = some (n, x) →
    (s.earlierDone ring x.idx = true → exec (.heldClauseDispatch ring) s = .next (s.dispatch n x)) ∧
    (s.earlierDone ring x.idx = false → exec (.heldClauseDispatch ring) s = .next s))

/-- R74, R77 to R79, R88, R109, R110: the fields of an entry; a completed clause posts its entry into the next place of its
completion ring, frees its slot and moves the moderation on; a QUIET success posts none; an entry that waited is posted in its
turn. Rests on the model's own choices and readings in log entries 6, 22 and 173. -/
def Obligations.CompletionPosting : Prop :=
  (∀ (r : Ring) (e : CplEntry), r.typ ≠ .nvmeCq → ∃ w : Word, entryWords r e = [e.result, w] ∧
    field w.toNat 63 63 = (if r.hw / r.size % 2 = 0 then 1 else 0) ∧ field w.toNat 62 62 = ofBit e.evt ∧
    field w.toNat 61 48 = e.sq % 2 ^ 14 ∧ field w.toNat 47 32 = e.fgen % 2 ^ 16 ∧
    field w.toNat 31 16 = e.status % 2 ^ 16 ∧ field w.toNat 15 0 = e.tag % 2 ^ 16) ∧
  (∀ (s : State) env n x st res, s.slot? n = some x → x.phase = .done st res → (s.ring x.ring).typ = .clause →
    let w := wordAt x.words 0
    let r := s.ring x.ring
    let k := 16384 + r.cq
    let c := s.ring k
    let e : CplEntry := ⟨res, false, x.ring, x.fgen, st, c0Tag w, c0Irq w, r.fn, some n⟩
    let a := c.base + c.hw % c.size * 16
    s.releaseSlot n = (s.setRing x.ring { r with lastDone := s.tb.time }).freeSlot n ∧
    (c0Quiet w = true → st = 0 → exec (.completionPost (.slot n) env) s = .next (s.releaseSlot n)) ∧
    ((c0Quiet w = false ∨ st ≠ 0) →
      ((x.fgen ≠ s.fgen r.fn ∨ s.flag F.HEP_FN_STAT_DRAINING r.fn = true) →
        exec (.completionPost (.slot n) env) s = .next ((s.inc F.RNG_FN_STAT_STALE_CPL r.fn).releaseSlot n)) ∧
      (x.fgen = s.fgen r.fn → s.flag F.HEP_FN_STAT_DRAINING r.fn = false →
        ((c.waiting ≠ [] ∨ c.hasRoom = false) → Leads (.completionPost (.slot n) env) s (fun t =>
          t.slot? n = some { x with phase := .held } ∧ (t.ring k).waiting = c.waiting ++ [e] ∧ t.mem = s.mem)) ∧
        (c.waiting = [] → c.hasRoom = true → c.typ = .completion → s.checkClause c.fn true a 16 = .ok () →
          s.region a ≠ .host → s.partialPoison a 16 = false →
          let s1 := s.devWrite a (bytesOfWords (entryWords c e))
          exec (.completionPost (.slot n) env) s =
            .next (((s1.setRing k { c with hw := idxNext c.hw }).releaseSlot n).moderate k (c0Irq w)))))) ∧
  (∀ (s : State) env k h st res, (s.ring k).held = some h → h.done = some (st, res) →
    let w := wordAt h.words 0
    let s1 := s.setRing k { s.ring k with held := none }
    (c0Quiet w = true → st = 0 → exec (.completionPost (.ring k) env) s = .next s1) ∧
    ((c0Quiet w = false ∨ st ≠ 0) → exec (.completionPost (.ring k) env) s = .next (s1.post env (16384 + (s.ring k).cq)
      ⟨res, false, k, c0Fgen w, st, c0Tag w, c0Irq w, (s.ring k).fn, none⟩))) ∧
  (∀ (s : State) cq env e rest, let k := 16384 + cq
    let c := s.ring k
    c.waiting = e :: rest →
    ((e.fgen ≠ s.fgen e.fn ∨ s.flag F.HEP_FN_STAT_DRAINING e.fn = true) → exec (.heldCompletionPost cq env) s =
      .next (((s.setRing k { c with waiting := rest }).inc F.RNG_FN_STAT_STALE_CPL e.fn).releaseOf e)) ∧
    (e.fgen = s.fgen e.fn → s.flag F.HEP_FN_STAT_DRAINING e.fn = false → c.hasRoom = true →
      ∀ s1, s.writeEntry env k e = (s1, .ok ()) →
        exec (.heldCompletionPost cq env) s = .next (s1.setRing k { s1.ring k with waiting := rest }))) ∧
  (∀ (s : State) k irq, let r := s.ring k
    (r.irqEn = false → s.moderate k irq = s) ∧
    (r.irqEn = true → (irq = true ∨ r.modCount ≤ r.modPosted) → s.moderate k irq =
      (s.setRing k { r with modPosted := 0, modDue := none }).irqRequest r.fn r.vector) ∧
    (r.irqEn = true → irq = false → r.modPosted < r.modCount → s.moderate k irq =
      s.setRing k { r with modPosted := r.modPosted + 1, modDue := r.dueAfter s.tb.time }) ∧
    (r.modTime = 0 → r.dueAfter s.tb.time = r.modDue) ∧
    (r.modTime ≠ 0 → r.modDue = none → r.dueAfter s.tb.time = some (s.tb.time + r.modTime * 1000)) ∧
    (∀ t, r.modTime ≠ 0 → r.modDue = some t → r.dueAfter s.tb.time = some (min (s.tb.time + r.modTime * 1000) t))) ∧
  (∀ (s : State) cq t, let k := 16384 + cq
    let r := s.ring k
    r.modDue = some t → r.irqEn = true →
    (t ≤ s.tb.time → exec (.moderationTimer cq) s =
      .next ((s.setRing k { r with modPosted := 0, modDue := none }).irqRequest r.fn r.vector)) ∧
    (s.tb.time < t → exec (.moderationTimer cq) s = .next s))

/-- R103 to R108: the clauses that the ring engine executes itself, each with its status and RESULT. Rests on the model's own
choices and readings in log entries 6, 23, 24, 25, 162, 163 and 164. -/
def Obligations.RingClauses : Prop :=
  (∀ (s : State) r h res, (s.ring r).held = some h → s.heldDone r 0 res = s.setRing r { s.ring r with
    held := some { h with done := some (0, res) }
    disp := if h.idx = (s.ring r).disp then idxNext h.idx else (s.ring r).disp }) ∧
  (∀ (s : State) ring h, s.heldAt ring 0 0 = some h → zeroFrom h.words 1 = true →
    exec (.nopClause ring) s = .next (s.heldDone ring 0 s.now)) ∧
  (∀ (s : State) ring h, s.heldAt ring 7 0 = some h → zeroFrom h.words 1 = true →
    (s.earlierDone ring h.idx = true → exec (.fence ring) s = .next (s.heldDone ring 0 s.now)) ∧
    (s.earlierDone ring h.idx = false → exec (.fence ring) s = .next s)) ∧
  (∀ (s : State) ring h, s.heldAt ring 7 1 = some h → zeroFrom h.words 1 = true →
    (s.fnDone (s.ring ring).fn h.seq = true → exec (.fenceFn ring) s = .next (s.heldDone ring 0 s.now)) ∧
    (s.fnDone (s.ring ring).fn h.seq = false → exec (.fenceFn ring) s = .next s)) ∧
  (∀ (s : State) ring h, s.ckHolds ring = false → s.heldAt ring 7 2 = some h → barrierBad h = false →
    let fn := (s.ring ring).fn
    let of (r : Nat) := s.barrierOf fn (barrierId h) r
    let rs := s.barrierReady fn (barrierId h)
    let first := rs.take (barrierN h)
    (h.mis = true → exec (.barrier ring) s = .next (s.heldDone ring 0x16 0)) ∧
    (∀ r, r ∈ rs ↔ r ∈ s.rng.rings.map (fun x => x.1) ∧ ∃ o, of r = some o ∧ s.earlierDone r o.idx = true) ∧
    rs.Pairwise (fun p q => s.barrierSeq p ≤ s.barrierSeq q) ∧
    (h.mis = false → barrierN h ≤ rs.length → s.cutsHere fn first = false → Leads (.barrier ring) s (fun t =>
      (∀ r ∈ first, ∀ o, of r = some o → (t.ring r).held = some { o with done := some (0, o.words.getD 2 0) }) ∧
      (∀ r, r ∉ first → t.ring r = s.ring r) ∧ t = { s with rng := { s.rng with rings := t.rng.rings } })) ∧
    (h.mis = false → rs.length < barrierN h → exec (.barrier ring) s = .next s)) ∧
  (∀ (s : State) ring h n, s.heldAt ring 8 0 = some h → evtOperand h = true → field (wordAt h.words 3) 63 32 = 0 →
    zeroFrom h.words 4 = true → s.evtNumber (s.ring ring).fn (field (wordAt h.words 1) 12 0) = some n →
    (c0Fence (wordAt h.words 0) = false → s.heldFrom ring h = h.since) ∧
    (c0Fence (wordAt h.words 0) = true → s.heldFrom ring h = max h.since (s.ring ring).lastDone) ∧
    (wordAt h.words 2 ≤ (s.counter n).toNat →
      exec (.wait ring) s = .next (s.heldDone ring 0 (s.counter n)) ∧
      (field (wordAt h.words 3) 31 0 ≠ 0 → s.heldFrom ring h + field (wordAt h.words 3) 31 0 * 1000 ≤ s.tb.time →
        exec (.waitTimeout ring) s = .next (s.heldDone ring 0 (s.counter n)))) ∧
    ((s.counter n).toNat < wordAt h.words 2 →
      exec (.wait ring) s = .next s ∧
      (field (wordAt h.words 3) 31 0 ≠ 0 → s.heldFrom ring h + field (wordAt h.words 3) 31 0 * 1000 ≤ s.tb.time →
        exec (.waitTimeout ring) s = .next (s.heldDone ring 0x15 (s.counter n))))) ∧
  (∀ (s : State) ring h n, s.heldAt ring 8 1 = some h → evtOperand h = true → zeroFrom h.words 3 = true →
    s.evtNumber (s.ring ring).fn (field (wordAt h.words 1) 12 0) = some n → s.earlierDone ring h.idx = true →
    Leads (.signal ring) s (fun t =>
      t.counter n = s.counter n + h.words.getD 2 0 ∧ (∀ m, m ≠ n → t.counter m = s.counter m) ∧
      (t.ring ring).held = some { h with done := some (0, s.counter n + h.words.getD 2 0) } ∧
      (∀ r, r ≠ ring → s.waitSatisfied r n (s.counter n + h.words.getD 2 0) = false → t.ring r = s.ring r) ∧
      (∀ r g, s.waitSatisfied r n (s.counter n + h.words.getD 2 0) = true → (s.ring r).held = some g →
        (t.ring r).held = some { g with done := some (0, s.counter n + h.words.getD 2 0) }) ∧
      t = { s with rng := { s.rng with rings := t.rng.rings, counters := t.rng.counters } })) ∧
  (∀ (s : State) ring h n, s.heldAt ring 8 2 = some h → evtOperand h = true → zeroFrom h.words 3 = true →
    s.evtNumber (s.ring ring).fn (field (wordAt h.words 1) 12 0) = some n → s.earlierDone ring h.idx = true →
    Leads (.set ring) s (fun t =>
      t.counter n = h.words.getD 2 0 ∧ (∀ m, m ≠ n → t.counter m = s.counter m) ∧
      (t.ring ring).held = some { h with done := some (0, s.counter n) } ∧
      (∀ r, r ≠ ring → s.waitSatisfied r n (h.words.getD 2 0) = false → t.ring r = s.ring r) ∧
      (∀ r g, s.waitSatisfied r n (h.words.getD 2 0) = true → (s.ring r).held = some g →
        (t.ring r).held = some { g with done := some (0, h.words.getD 2 0) }) ∧
      t = { s with rng := { s.rng with rings := t.rng.rings, counters := t.rng.counters } })) ∧
  (∀ (s : State) ring h, s.heldAt ring 0 0 = some h → zeroFrom h.words 1 = false →
    exec (.nopClause ring) s = .next (s.heldDone ring 0x10 0))

/-- R103, R318: FILL stores its pattern and COPY the source's bytes at exactly the LEN bytes of the destination, and complete
with SUCCESS and LEN; a clause with overlapping ranges completes BAD_CLAUSE and moves nothing. A clause waits while all 16
copy movers are busy. Rests on the model's own choices and readings in log entries 24, 25 and 54. -/
def Obligations.CopyAndFill : Prop :=
  (∀ (s : State) n env x, s.clauseAt n 2 1 = some x →
    let dst := field (wordAt x.words 2) 47 0
    let len := field (wordAt x.words 3) 39 0
    field (wordAt x.words 2) 63 48 = 0 → field (wordAt x.words 3) 63 40 = 0 → zeroFrom x.words 4 = true →
    x.progress = none → env.pause = none → s.moversBusy < 16 → 0 < len → s.checkClause x.fn true dst len = .ok () →
    s.region dst ≠ .host → s.region (dst + len - 1) ≠ .host → s.partialPoison dst len = false →
    Leads (.fill n env) s (fun t =>
      (∀ a, t.mem.dev.read a = if dst ≤ a ∧ a < dst + len then
        BitVec.ofNat 8 (wordAt x.words 1 >>> (8 * ((a - dst) % 8))) else s.mem.dev.read a) ∧
      t.mem.host = s.mem.host ∧ t.slot? n = some { x with
        phase := .done 0 (BitVec.ofNat 64 len), progress := none, ranges := [] } ∧
      (∀ b ∈ blocksOf (s.blockAt dst) dst len, dst ≤ b → b + s.blockAt dst ≤ dst + len → t.poisoned b = false))) ∧
  (∀ (s : State) n env x, s.clauseAt n 2 0 = some x → s.awaitsRead n = false →
    let src := field (wordAt x.words 1) 47 0
    let dst := field (wordAt x.words 2) 47 0
    let len := field (wordAt x.words 3) 39 0
    field (wordAt x.words 1) 63 48 = 0 → field (wordAt x.words 2) 63 48 = 0 → field (wordAt x.words 3) 63 40 = 0 →
    zeroFrom x.words 4 = true →
    (overlaps src len dst len = true → exec (.copy n env) s = .next (s.slotDone n 0x10 0)) ∧
    (overlaps src len dst len = false → x.progress = none → env.pause = none → s.moversBusy < 16 → 0 < len →
      s.checkClause x.fn false src len = .ok () → s.checkClause x.fn true dst len = .ok () →
      s.region src ≠ .host → s.region dst ≠ .host → s.region (dst + len - 1) ≠ .host → s.poisonIn src len = [] → s.partialPoison dst len = false →
      env.ecc = [] → Leads (.copy n env) s (fun t =>
        (∀ a, t.mem.dev.read a = if dst ≤ a ∧ a < dst + len then s.mem.dev.read (src + (a - dst))
          else s.mem.dev.read a) ∧
        t.mem.host = s.mem.host ∧ t.slot? n = some { x with
          phase := .done 0 (BitVec.ofNat 64 len), progress := none, ranges := [] }) ∧
    (overlaps src len dst len = false → x.progress = none → 0 < len → 16 ≤ s.moversBusy → exec (.copy n env) s = .next s)))

/-- R97 to R101, R110: the ring commands; a drained ring is free or empty again; RESUME, SET_PRIO and SET_MOD of an own ring.
Rests on the model's own choices and readings in log entries 4, 6, 116, 140 and 141. -/
def Obligations.RingLifeCycle : Prop :=
  (∀ (s : State) fn, s.cmdReady fn 0 = true → s.domain 25 = .ready → s.sec.tenancy = false →
    let cq := decide (s.fld F.RNG_RING_CFG_TYPE fn = 1)
    let side := if cq then 16384 else 0
    let max := if cq then s.fld F.RNG_FN_QUOTA_CQ_MAX fn else s.fld F.RNG_FN_QUOTA_SQ_MAX fn
    let s1 := s.setFlag F.RNG_RING_CMD_GO fn false
    (s.createInvalid fn = true → exec (.ringCreate fn) s =
      .next ((s1.cmdResult fn 0x19 side).setFld F.RNG_RING_RESULT_GEN fn 0)) ∧
    (s.createInvalid fn = false → (s.freeRing cq = none ∨ max ≤ s.ringCount fn cq) → exec (.ringCreate fn) s =
      .next ((s1.cmdResult fn 0x18 side).setFld F.RNG_RING_RESULT_GEN fn 0)) ∧
    (∀ key, s.createInvalid fn = false → s.freeRing cq = some key → s.ringCount fn cq < max →
      (s.ring key).st = .free ∧
      exec (.ringCreate fn) s = .next ((s1.setRing key (s.newRing fn key)).cmdResult fn 0 key))) ∧
  (∀ (s : State) fn key, (s.newRing fn key).st = .active ∧ (s.newRing fn key).hw = 0 ∧ (s.newRing fn key).sw = 0 ∧
    (s.newRing fn key).gen = (if (s.ring key).gen = 0xFFFF then 1 else (s.ring key).gen + 1) ∧
    (s.newRing fn key).size = 64 * 2 ^ s.fld F.RNG_RING_CFG_SIZE fn ∧
    s.fld F.RNG_FN_QUOTA_PRIO_MIN fn ≤ (s.newRing fn key).prio) ∧
  (∀ (s : State) fn st key, fn < 256 → key < 32768 → st < 2 ^ 16 → (s.ring key).gen < 2 ^ 16 →
    let t := s.cmdResult fn st key
    t.fld F.RNG_RING_RESULT_STATUS fn = st ∧ t.fld F.RNG_RING_RESULT_RING_ID fn = key % 16384 ∧
    t.flag F.RNG_RING_RESULT_POOL fn = decide (16384 ≤ key) ∧ t.fld F.RNG_RING_RESULT_GEN fn = (s.ring key).gen ∧
    t.flag F.RNG_RING_RESULT_BUSY fn = false ∧ t.flag F.RNG_RING_RESULT_DONE fn = true ∧ t = { s with regs := t.regs }) ∧
  (∀ (s : State) fn op (mk : Nat → Instr), (op = 1 ∧ mk = .ringDestroy) ∨ (op = 2 ∧ mk = .ringReset) ∨ (op = 3 ∧ mk = .resume) ∨
      (op = 4 ∧ mk = .setPrio) ∨ (op = 5 ∧ mk = .setMod) →
    s.cmdReady fn op = true → (s.sec.tenancy = true ∨ s.ownRing fn (s.cmdRing fn) = false ∨
      (op ≤ 2 ∧ (s.ring (s.cmdRing fn)).st = .draining)) →
    exec (mk fn) s = .next ((s.setFlag F.RNG_RING_CMD_GO fn false).cmdResult fn 0x1A (s.cmdRing fn))) ∧
  (∀ (s : State) fn op d (mk : Nat → Instr), (op = 1 ∧ mk = .ringDestroy ∧ d = true ∧ s.cqNamed fn (s.cmdRing fn) = false) ∨
      (op = 2 ∧ mk = .ringReset ∧ d = false) →
    s.cmdReady fn op = true → s.sec.tenancy = false → s.ownRing fn (s.cmdRing fn) = true →
    (s.ring (s.cmdRing fn)).st ≠ .draining →
    Leads (mk fn) s (fun t => let key := s.cmdRing fn
      (t.ring key).st = .draining ∧ (t.ring key).gen = genNext (s.ring key).gen ∧ (t.ring key).destroying = d ∧
      (t.ring key).byCmd = true ∧ t.flag F.RNG_RING_RESULT_BUSY fn = true ∧ t.flag F.RNG_RING_CMD_GO fn = false ∧
      (∀ n x, s.slot? n = some x → x.ring = key → (x.phase = .fetching ∨ x.phase = .arrived) → t.slot? n = none) ∧
      (∀ j, j ≠ key → t.ring j = s.ring j))) ∧
  (∀ (s : State) pool ring, let key := ring + if pool then 16384 else 0
    let r := s.ring key
    r.st = .draining → s.inflight key = 0 → r.held = none → s.flag F.HEP_FN_STAT_DRAINING r.fn = false →
    let s1 := s.setRing key (if r.destroying then { gen := r.gen } else { r with
      st := .active, hw := 0, sw := 0, disp := 0, held := none, haltStatus := 0, haltIdx := none, pend := false
      byCmd := false, modPosted := 0, modDue := none })
    (r.byCmd = true → exec (.ringDrainDone pool ring) s = .next (s1.cmdResult r.fn 0 key)) ∧
    (r.byCmd = false → exec (.ringDrainDone pool ring) s = .next s1)) ∧
  (∀ (s : State) fn, s.sec.tenancy = false → s.ownRing fn (s.cmdRing fn) = true →
    let key := s.cmdRing fn
    let r := s.ring key
    let s1 := s.setFlag F.RNG_RING_CMD_GO fn false
    (s.cmdReady fn 3 = true → r.st = .halted → exec (.resume fn) s = .next ((s1.setRing key { r with
      st := .active, haltIdx := none
      refetch := if key < 16384 ∧ s.flag F.RNG_RING_CMD_RETRY fn = true then r.haltIdx else none }).cmdResult fn 0 key)) ∧
    (s.cmdReady fn 3 = true → r.st ≠ .halted → exec (.resume fn) s = .next (s1.cmdResult fn 0x1A key)) ∧
    (s.cmdReady fn 4 = true → exec (.setPrio fn) s = .next ((s1.setRing key { r with
      prio := max (s.fld F.RNG_RING_CFG_PRIO fn) (s.fld F.RNG_FN_QUOTA_PRIO_MIN fn) }).cmdResult fn 0 key)) ∧
    (s.cmdReady fn 5 = true → exec (.setMod fn) s = .next ((s1.setRing key { r with
      modCount := s.fld F.RNG_RING_CFG_MOD_COUNT fn
      modTime := s.fld F.RNG_RING_CFG_MOD_TIME fn }).cmdResult fn 0 key)))

/-- R43 to R45, R47, R49, R51, R53, R654: A sample takes the lowest pace of its replica chains and goes into PACE, MIN, MAX
and SEQ of its monitor; what a write of the control register and CLR_EXT do. The timebase counts by the nanoseconds that pass
and by nothing else; a 32-bit read latches the upper half for its function; OFFSET steps and slews with its fraction carried;
losing and regaining the lock. Rests on the model's own choices and readings in log entries 7 and 133. -/
def Obligations.PaceMonitorsAndTimebase : Prop :=
  ((∀ p ps, lowestPace (p :: ps) ∈ p :: ps ∧ ∀ q ∈ p :: ps, lowestPace (p :: ps) ≤ q) ∧
  (∀ (s : State) mon chains, mon < 11 → chains ≠ [] → s.fum.perst = false → s.flag F.GLB_PACE_CTL_EN 0 = true →
    Tbl.getD s.tb.paceStart mon 0 + s.paceWindow ≤ s.tb.time → bit (s.fld F.FUM_FUSE_HELD_HELD 0) 18 = false →
    let v := lowestPace chains % 2 ^ 16
    let P := F.GLB_PACE_MON_PACE.at mon
    let S := F.GLB_PACE_MON_SEQ.at mon
    let L := F.GLB_PACE_MON_MIN.at mon
    let H := F.GLB_PACE_MON_MAX.at mon
    let tb1 := { s.tb with paceStart := Tbl.set mon s.tb.time s.tb.paceStart }
    (((8 ≤ mon ∧ s.fum.corePg = true) ∨ (mon < 8 ∧ s.domOn mon = true)) → Leads (.paceSample mon chains) s (fun t =>
      t.fld P 0 = v ∧ t.fld L 0 = min (s.fld L 0) v ∧ t.fld H 0 = max (s.fld H 0) v ∧
      t.fld S 0 = (s.fld S 0 + 1) % 2 ^ 16 ∧ FieldsKept s t [P.key 0, L.key 0, H.key 0, S.key 0] ∧
      t = { s with regs := t.regs, tb := tb1 })) ∧
    (mon < 8 → s.domOn mon = false → Leads (.paceSample mon chains) s (fun t =>
      t.fld P 0 = 0 ∧ FieldsKept s t [P.key 0] ∧ t = { s with regs := t.regs, tb := tb1 })) ∧
    (8 ≤ mon → s.fum.corePg = false → exec (.paceSample mon chains) s = .next { s with tb := tb1 })) ∧
  (∀ (s : State) d, d < 8 → (s.setDomain d false).fld (F.GLB_PACE_MON_PACE.at d) 0 = 0) ∧
  (∀ (s : State) mon chains, (11 ≤ mon ∨ s.flag F.GLB_PACE_CTL_EN 0 = false ∨
      s.tb.time < Tbl.getD s.tb.paceStart mon 0 + s.paceWindow) → exec (.paceSample mon chains) s = .next s) ∧
  (∀ (s0 : State) who v, s0.fum.perst = false → isVf who = false → let s := s0.touch who
    Leads (.paceCtlWrite who v) s0 (fun t =>
    t.regs = writeFields [F.GLB_PACE_CTL_WINDOW, F.GLB_PACE_CTL_CLR_EXT, F.GLB_PACE_CTL_EN] 0 0 0 64 v.toNat s.regs ∧
    ((t.fld F.GLB_PACE_CTL_WINDOW 0 ≠ s.fld F.GLB_PACE_CTL_WINDOW 0 ∨
        (s.flag F.GLB_PACE_CTL_EN 0 = false ∧ t.flag F.GLB_PACE_CTL_EN 0 = true)) →
      ∀ m, m < 11 → Tbl.getD t.tb.paceStart m 0 = s.tb.time) ∧
    (t.fld F.GLB_PACE_CTL_WINDOW 0 = s.fld F.GLB_PACE_CTL_WINDOW 0 →
      (s.flag F.GLB_PACE_CTL_EN 0 = true ∨ t.flag F.GLB_PACE_CTL_EN 0 = false) → t.tb = s.tb) ∧
    t = { s with regs := t.regs, tb := { s.tb with paceStart := t.tb.paceStart } })) ∧
  (∀ (s : State), s.flag F.GLB_PACE_CTL_CLR_EXT 0 = true → Leads .clrExt s (fun t =>
    t.flag F.GLB_PACE_CTL_CLR_EXT 0 = false ∧
    (∀ m, m < 11 → t.fld (F.GLB_PACE_MON_MIN.at m) 0 = 0xFFFF ∧ t.fld (F.GLB_PACE_MON_MAX.at m) 0 = 0) ∧
    FieldsKept s t (F.GLB_PACE_CTL_CLR_EXT.key 0 :: (List.range 11).flatMap (fun m =>
      [(F.GLB_PACE_MON_MIN.at m).key 0, (F.GLB_PACE_MON_MAX.at m).key 0])) ∧ t = { s with regs := t.regs }))) ∧
  ((∀ (s : State) ns, s.tb.running = true → Leads (.todSlewTick ns) s (fun t => ∃ d : Int,
    t.tb.time = s.tb.time + ns ∧ 0 ≤ t.tb.slewFrac ∧ t.tb.slewFrac < 1000000000 ∧
    t.tb.slewFrac + 1000000000 * d = s.tb.slewFrac + (ns : Int) * signed 32 (s.fld F.GLB_TOD_CTL_SLEW_PPB 0) ∧
    t.fld F.GLB_TIMEBASE_TIME 0 = t.tb.time % 2 ^ 64 ∧
    (t.fld F.GLB_TOD_OFFSET_OFFSET 0 : Int) = ((s.fld F.GLB_TOD_OFFSET_OFFSET 0 : Int) + d) % 2 ^ 64 ∧
    FieldsKept s t [F.GLB_TIMEBASE_TIME.key 0, F.GLB_TOD_OFFSET_OFFSET.key 0] ∧
    t = { s with regs := t.regs, tb := { s.tb with time := t.tb.time, slewFrac := t.tb.slewFrac } })) ∧
  (∀ (s : State) ns, s.tb.running = false → exec (.todSlewTick ns) s = .next s) ∧
  (∀ (s0 : State) who, let s := s0.touch who
    Leads (.timebaseLowRead who) s0 (fun t =>
    t.hep.lastRead = BitVec.ofNat 64 (s.tb.time % 2 ^ 32) ∧ t.timebaseHigh who = s.tb.time / 2 ^ 32 % 2 ^ 32 ∧
    Tbl.find? (reqFn who) t.tb.latch = some (s.tb.time / 2 ^ 32 % 2 ^ 32) ∧
    (∀ f, f ≠ reqFn who → Tbl.find? f t.tb.latch = Tbl.find? f s.tb.latch) ∧
    t = { s with tb := { s.tb with latch := t.tb.latch }, hep := { s.hep with lastRead := t.hep.lastRead } })) ∧
  (∀ (s : State), s.flag F.GLB_TOD_CTL_APPLY_STEP 0 = true → Leads .applyStep s (fun t =>
    t.fld F.GLB_TOD_OFFSET_OFFSET 0 =
      (s.fld F.GLB_TOD_OFFSET_OFFSET 0 + s.fld F.GLB_TOD_STEP_STEP 0) % 2 ^ 64 ∧
    t.flag F.GLB_TOD_CTL_APPLY_STEP 0 = false ∧
    FieldsKept s t [F.GLB_TOD_OFFSET_OFFSET.key 0, F.GLB_TOD_CTL_APPLY_STEP.key 0] ∧ t = { s with regs := t.regs })) ∧
  (∀ (s : State), s.flag F.GLB_TB_STAT_LOCKED 0 = true → Leads .pllUnlock s (fun t =>
    t.flag F.GLB_TB_STAT_LOCKED 0 = false ∧ t.flag F.GLB_TB_STAT_UNLOCK 0 = true ∧
    t.fld F.GLB_TB_STAT_UNLOCK_CNT 0 = (s.fld F.GLB_TB_STAT_UNLOCK_CNT 0 + 1) % 2 ^ 32 ∧ t.tb = s.tb ∧
    FieldsKept s t [F.GLB_TB_STAT_LOCKED.key 0, F.GLB_TB_STAT_UNLOCK.key 0, F.GLB_TB_STAT_UNLOCK_CNT.key 0] ∧
    (Tbl.getD t.snt.recs 1 {}).seq = ((Tbl.getD s.snt.recs 1 {}).seq + 1) % 2 ^ 64 ∧
    t = { s with regs := t.regs, snt := t.snt })) ∧
  (∀ (s : State), Leads .pllRelock s (fun t => t.flag F.GLB_TB_STAT_LOCKED 0 = true ∧
    FieldsKept s t [F.GLB_TB_STAT_LOCKED.key 0] ∧ t = { s with regs := t.regs })))

/-- R59 to R63, R655: the order of the targets; a rail moves by at most 5 mV and stays within 600 to 900 mV; a decision, from
the highest sensor and the mean power, while the core rails are up; a cap request and the emergency. Rests on the model's own
choices and readings in log entries 133, 143, 144 and 178. -/
def Obligations.PowerController : Prop :=
  (∀ tj limit p cap v vEff floor pace eff,
    let x := decide60 tj limit p cap v vEff floor pace eff
    let raiseOk := 100 * p ≤ 98 * cap ∧ tj + 2 ≤ limit
    (limit ≤ tj → x.move = .lower ∧ x.limiter = 4 ∧ x.thermHit = true) ∧
    (tj < limit → cap < p → x.move = .lower ∧ x.limiter = 3 ∧ x.capHit = true) ∧
    (tj < limit → p ≤ cap → floor ≠ 0 → pace < floor →
      (900 ≤ v → x.move = .hold ∧ x.limiter = 0 ∧ x.floorUnmet = true ∧ x.vmaxHit = true) ∧
      (v < 900 → ¬ raiseOk → x.move = .hold ∧ x.floorUnmet = true) ∧
      (v < 900 → raiseOk → x.move = .raise ∧ x.limiter = 2)) ∧
    (tj < limit → p ≤ cap → (floor = 0 ∨ floor ≤ pace) →
      (x.floorUnmet = false ∧ x.vmaxHit = false) ∧
      (eff = true → vEff < v → (floor = 0 ∨ floor + 256 ≤ pace) → x.move = .lower ∧ x.limiter = 1) ∧
      (eff = true → vEff < v → floor ≠ 0 → pace < floor + 256 → x.move = .hold ∧ x.limiter = 2) ∧
      (eff = true → v ≤ vEff → x.move = .hold ∧ x.limiter = 1) ∧
      (eff = false → v < 900 → raiseOk → x.move = .raise ∧ x.limiter = 0) ∧
      (eff = false → (900 ≤ v ∨ ¬ raiseOk) → x.move = .hold)) ∧
    (limit ≤ tj ∨ p ≤ cap → x.capHit = false) ∧ (tj < limit → x.thermHit = false)) ∧
  (∀ v m, 600 ≤ v → v ≤ 900 → 600 ≤ railAfter v m ∧ railAfter v m ≤ 900 ∧ v ≤ railAfter v m + 5 ∧ railAfter v m ≤ v + 5) ∧
  (∀ v m, m ≠ .hold → 600 ≤ railAfter v m ∧ (v ≤ 905 → railAfter v m ≤ 900)) ∧
  (∀ (s : State) cd io, s.fum.corePg = true → s.tb.lastDecision + 10000 ≤ s.tb.time →
    let tj := (cd ++ io).foldl Nat.max 0
    let p := s.packagePower
    let s1 := ((({ s with tb := { s.tb with lastDecision := s.tb.time } } : State).setFld F.FUM_PWR_CAP_CAP_APPLIED_W 0
      (min (s.fld F.FUM_PWR_CAP_CAP_W 0) s.fusedMaxW)).setFld F.FUM_PWR_STAT_TJ_C 0 tj).setFld F.FUM_PWR_STAT_POWER_W 0 (p / 10000)
    ((s.tb.emergency = false ∨ tj < s.fld F.FUM_PWR_TGT_LIMIT_C 0) → exec (.powerDecision cd io) s =
      .next (((({ s1 with tb := { s1.tb with emergency := false } } : State).decideRail tj p 0)).decideRail tj p 1)) ∧
    (s.tb.emergency = true → s.fld F.FUM_PWR_TGT_LIMIT_C 0 ≤ tj → Leads (.powerDecision cd io) s (fun t =>
      t.fld F.FUM_PWR_STAT_V_CD0_MV 0 = 600 ∧ t.fld F.FUM_PWR_STAT_V_CD1_MV 0 = 600 ∧
      t.fld F.FUM_PWR_STAT_LIMITER_CD0 0 = 5 ∧ t.fld F.FUM_PWR_STAT_LIMITER_CD1 0 = 5 ∧ t.tb.emergency = true ∧
      FieldsKept s1 t [F.FUM_PWR_STAT_V_CD0_MV.key 0, F.FUM_PWR_STAT_V_CD1_MV.key 0, F.FUM_PWR_STAT_LIMITER_CD0.key 0,
        F.FUM_PWR_STAT_LIMITER_CD1.key 0] ∧ t = { s1 with regs := t.regs }))) ∧
  (∀ (s : State) cd io, (s.fum.corePg = false ∨ s.tb.time < s.tb.lastDecision + 10000) →
    exec (.powerDecision cd io) s = .next s) ∧
  (∀ (s : State) d, (3 ≤ Tbl.getD s.tb.vcbMissed d 0 → s.powerUnknown d = true)) ∧
  (∀ (s : State) tj p d, d < 2 → s.powerUnknown d = false → Tbl.getD s.tb.railAlert d false = false →
    bit (s.fld F.FUM_FUSE_HELD_HELD 0) 18 = false → ∀ pace, s.diePace d = some pace →
    let x := decide60 tj (s.fld F.FUM_PWR_TGT_LIMIT_C 0) p (s.fld F.FUM_PWR_CAP_CAP_APPLIED_W 0 * 10000) (s.fld (vField d) 0)
      s.vEff (s.fld F.FUM_PWR_TGT_FLOOR 0) pace (s.flag F.FUM_PWR_TGT_EFF_EN 0)
    let t := s.decideRail tj p d
    t.fld (vField d) 0 = railAfter (s.fld (vField d) 0) x.move % 2 ^ 10 ∧ t.fld (limField d) 0 = x.limiter ∧
    (x.thermHit = true → t.flag F.FUM_PWR_EVT_THERM_HIT 0 = true) ∧
    (x.capHit = true → t.flag F.FUM_PWR_EVT_CAP_HIT 0 = true) ∧
    (x.floorUnmet = true → t.flag F.FUM_PWR_EVT_FLOOR_UNMET 0 = true) ∧
    (x.vmaxHit = true → t.flag F.FUM_PWR_EVT_VMAX_HIT 0 = true)) ∧
  (∀ (s0 : State) who v, isVf who = false → let s := s0.touch who
    exec (.fumPwrCapWrite who v) s0 = .next { s with
      regs := writeFields [F.FUM_PWR_CAP_CAP_APPLIED_W, F.FUM_PWR_CAP_CAP_W] 0 0 0 64 v.toNat s.regs }) ∧
  (∀ (s : State) tj, 110 ≤ tj → s.tb.emergency = false → Leads (.thermEmerg tj) s (fun t =>
    t.tb.emergency = true ∧ (s.fum.corePg = true → t.tb.vcbSent = (1, 3, 600) :: (0, 3, 600) :: s.tb.vcbSent) ∧
    t.fld F.FUM_PWR_STAT_V_CD0_MV 0 = 600 ∧ t.fld F.FUM_PWR_STAT_V_CD1_MV 0 = 600 ∧
    t.fld F.FUM_PWR_STAT_LIMITER_CD0 0 = 5 ∧ t.fld F.FUM_PWR_STAT_LIMITER_CD1 0 = 5 ∧
    t.flag F.FUM_PWR_EVT_THERM_EMERG 0 = true ∧ t.fld F.FUM_PWR_STAT_TJ_C 0 = tj % 256 ∧
    FieldsKept s t [F.FUM_PWR_STAT_V_CD0_MV.key 0, F.FUM_PWR_STAT_V_CD1_MV.key 0, F.FUM_PWR_STAT_LIMITER_CD0.key 0,
      F.FUM_PWR_STAT_LIMITER_CD1.key 0, F.FUM_PWR_EVT_THERM_EMERG.key 0, F.FUM_PWR_STAT_TJ_C.key 0])) ∧
  (∀ (s : State) tj, tj < 110 → exec (.thermEmerg tj) s = .next s)

/-- R87, R376 to R380, R389 to R393, R399, R401: controllers are enabled, reset and cut; the admin commands; the autonomous
change of the power state. Rests on the model's own choices and readings in log entries 60, 61, 62, 63, 72, 73, 156, 157 and
196. -/
def Obligations.NvmeControllersAndAdmin : Prop :=
  (∀ (s : State) fn q cq t key, s.newQueue fn q cq = some (t, key) →
    (s.ring key).st = .free ∧ (16384 ≤ key ↔ cq = true) ∧
    t = s.setRing key { q with gen := genNext (s.ring key).gen, st := .active, fn := fn
                               prio := s.fld F.RNG_FN_QUOTA_PRIO_MIN fn }) ∧
  (∀ (s0 : State) fn cc aqa asq acq, let s := s0.tlp
    fn < 256 → s.flag F.HEP_FN_CTL_STORAGE fn = true → (s.ctrl fn).en = false →
    (s.ctrl fn).disabledAt = none → s.domain 22 = .ready →
    let c := { s.ctrl fn with en := true, cc := cc, aqa := aqa, asq := asq, acq := acq }
    ((aqaOk (field aqa 11 0) = false ∨ aqaOk (field aqa 27 16) = false) →
      exec (.ccEnSet fn cc aqa asq acq) s0 = .next (s.setCtrl fn { c with cfs := true })) ∧
    (aqaOk (field aqa 11 0) = true → aqaOk (field aqa 27 16) = true → ∀ s1 k s2 j,
      s.newQueue fn { typ := .nvmeCq, base := acq / 4096 * 4096, size := field aqa 27 16 + 1, irqEn := true } true =
        some (s1, k) →
      s1.newQueue fn { typ := .nvmeSq, base := asq / 4096 * 4096, size := field aqa 11 0 + 1, cq := k - 16384 } false =
        some (s2, j) →
      exec (.ccEnSet fn cc aqa asq acq) s0 =
        .next (s2.setCtrl fn { c with ready := true, lastBusy := s.tb.time }).settlePs)) ∧
  (∀ (s : State) fn, (s.ctrl fn).en = true → Leads (.ccEnClear fn) s (fun t =>
    (∀ k, (t.ring k).fn = fn → (t.ring k).typ = .nvmeCq → (t.ring k).waiting = []) ∧
    ((∃ x ∈ s.ctrlSlots fn, x.1 ∉ (s.ctrl fn).aers ∧ x.1 ∉ s.heldCpls fn) →
      t.ctrl fn = { s.ctrl fn with en := false, disabledAt := some s.tb.time, aers := [], events := [] }) ∧
    ((∀ x ∈ s.ctrlSlots fn, x.1 ∈ (s.ctrl fn).aers ∨ x.1 ∈ s.heldCpls fn) → t.ctrl fn = {} ∧ t.fld F.STO_FN_STAT_PS fn = 0 ∧
      ∀ k, (t.ring k).fn = fn → (t.ring k).typ ≠ .nvmeSq ∧ (t.ring k).typ ≠ .nvmeCq))) ∧
  (∀ (s : State) fn t0, (s.ctrl fn).disabledAt = some t0 →
    (t0 + 90000000 ≤ s.tb.time → exec (.controllerResetCut fn) s =
      .next ((sinterEvent 0x142 fn (s.ctrlCut fn)).ctrlSettle fn)) ∧
    (s.tb.time < t0 + 90000000 → exec (.controllerResetCut fn) s = .next s)) ∧
  (∀ (s : State) n x, let qid := field (x.dw 10) 15 0
    let size := field (x.dw 10) 31 16 + 1
    let ok (t : RingType) : Prop := 1 ≤ qid ∧ qid ≤ 1024 ∧ s.nvmeQueue x.fn qid t = none ∧ bit (x.dw 11) 0 = true ∧
      field (x.dw 0) 15 14 = 0 ∧ wordAt x.words 3 % 4096 = 0
    let cap : Prop := ∃ k, k ≤ 10 ∧ size = 64 * 2 ^ k
    (s.nvmeRuns n true 0x05 x → ok .nvmeCq →
      (¬ cap → exec (.createIoCq n) s = .next (s.nvmeDone n 0x102 0)) ∧
      (cap → field (x.dw 11) 31 16 < vecCount x.fn → ∀ t k, s.newQueue x.fn ((s.ctrl x.fn).coalesce
          { typ := .nvmeCq, base := wordAt x.words 3, size := size, irqEn := bit (x.dw 11) 1, vector := field (x.dw 11) 31 16
            qid := qid }) true = some (t, k) → exec (.createIoCq n) s = .next (t.nvmeDone n 0 0))) ∧
    (s.nvmeRuns n true 0x01 x → ok .nvmeSq →
      (¬ cap → exec (.createIoSq n) s = .next (s.nvmeDone n 0x102 0)) ∧
      (cap → ∀ c t k, field (x.dw 11) 31 16 ≠ 0 → s.nvmeQueue x.fn (field (x.dw 11) 31 16) .nvmeCq = some c →
        s.newQueue x.fn { typ := .nvmeSq, base := wordAt x.words 3, size := size, cq := c - 16384, qid := qid } false =
          some (t, k) → exec (.createIoSq n) s = .next (t.nvmeDone n 0 0)))) ∧
  (∀ (s : State) n x key, let qid := field (x.dw 10) 15 0
    qid ≠ 0 →
    (s.nvmeRuns n true 0x00 x → s.nvmeQueue x.fn qid .nvmeSq = some key → s.ringSlots key = [] →
      exec (.deleteIoSq n) s = .next ((s.setRing key { gen := (s.ring key).gen }).nvmeDone n 0 0)) ∧
    (s.nvmeRuns n true 0x04 x → s.nvmeQueue x.fn qid .nvmeCq = some key →
      ((∃ r ∈ s.rng.rings, r.1 < 16384 ∧ r.2.typ = .nvmeSq ∧ r.2.st ≠ .free ∧ r.2.cq = key - 16384) →
        exec (.deleteIoCq n) s = .next (s.nvmeDone n 0x10C 0)) ∧
      ((∀ r ∈ s.rng.rings, ¬ (r.1 < 16384 ∧ r.2.typ = .nvmeSq ∧ r.2.st ≠ .free ∧ r.2.cq = key - 16384)) →
        exec (.deleteIoCq n) s = .next ((s.freeQueue key).nvmeDone n 0 0)))) ∧
  (∀ (s : State) n env x rs, field (x.dw 0) 15 14 = 0 →
    (s.nvmeRuns n true 0x02 x → field (x.dw 10) 7 0 = 0xC0 → (s.irtLog x).length = 8256 ∧
      ∀ len, len = 4 * (field (x.dw 10) 31 16 + field (x.dw 11) 15 0 * 65536 + 1) → x.dw 12 + x.dw 13 * 2 ^ 32 = 0 →
        s.bufRanges env x len = .ok rs → len ≤ 8256 →
        exec (.getLogPage n env) s = .next ((s.bufWrite x.fn rs ((s.irtLog x).take len)).tick.nvmeDone n 0 0)) ∧
    (s.nvmeRuns n true 0x06 x → s.bufRanges env x 4096 = .ok rs →
      (field (x.dw 10) 7 0 = 1 → exec (.identify n env) s =
        .next ((s.bufWrite x.fn rs (overlay identifyCtrl s.fresh 0 4096)).tick.nvmeDone n 0 0)) ∧
      (field (x.dw 10) 7 0 = 0 → (∀ i ns, s.nsFor x (x.dw 1) = some (i, ns) → exec (.identify n env) s =
          .next ((s.bufWrite x.fn rs (overlay (identifyNs i ns) s.fresh 0 4096)).tick.nvmeDone n 0 0)) ∧
        (s.nsFor x (x.dw 1) = none → exec (.identify n env) s = .next (s.nvmeDone n 0x00B 0))))) ∧
  (∀ (s : State) n x, s.nvmeRuns n true 0x08 x → let cid := field (x.dw 10) 31 16
    let qid := field (x.dw 10) 15 0
    let names (y : Nat × Slot) : Prop := y.1 ≠ n ∧ (s.ring y.2.ring).qid = qid ∧ y.2.words.length = 8 ∧
      field (y.2.dw 0) 31 16 = cid
    ((s.ctrlSlots x.fn).filter (fun y => decide ((s.ring y.2.ring).qid = 0 ∧ field (y.2.dw 0) 7 0 = 0x08 ∧
      y.2.words.length = 8))).length ≤ 4 →
    ((∀ y ∈ s.ctrlSlots x.fn, ¬ names y) →
      exec (.nvmeAbort n) s = .next ((s.inc F.STO_FN_STAT_ABORT_MISSED x.fn).nvmeDone n 0 1)) ∧
    (∀ m y, (s.ctrlSlots x.fn).find? (fun y => decide (y.1 ≠ n ∧ (s.ring y.2.ring).qid = qid ∧ y.2.words.length = 8 ∧
        field (y.2.dw 0) 31 16 = cid)) = some (m, y) →
      (y.phase = .dispatched → s.notStarted m y = true → exec (.nvmeAbort n) s =
        .next ((((s.setCtrl x.fn { s.ctrl x.fn with aers := (s.ctrl x.fn).aers.filter (· != m) }).nvmeDone m 0x007 0).inc
          F.STO_FN_STAT_ABORT_CAUGHT x.fn).nvmeDone n 0 0)) ∧
      (s.notStarted m y = false → exec (.nvmeAbort n) s =
        .next ((s.inc F.STO_FN_STAT_ABORT_MISSED x.fn).nvmeDone n 0 1)))) ∧
  (∀ (s : State) n env x, s.nvmeRuns n true 0x09 x → let fid := field (x.dw 10) 7 0
    let v := x.dw 11
    (fid ∉ [0x01, 0x02, 0x07, 0x08, 0x09, 0x0A, 0x0B, 0x0C] →
      exec (.setFeatures n env) s = .next (s.nvmeDone n 0x002 0)) ∧
    (fid ∈ [0x01, 0x02, 0x07, 0x08, 0x09, 0x0A, 0x0B, 0x0C] → bit (x.dw 10) 31 = true →
      exec (.setFeatures n env) s = .next (s.nvmeDone n 0x10D 0)) ∧
    (bit (x.dw 10) 31 = false →
      (fid ∈ [0x01, 0x0A, 0x0B] → exec (.setFeatures n env) s = .next ((s.setFeat x.fn fid v).nvmeDone n 0 0)) ∧
      (fid = 0x02 → field v 4 0 ≤ 2 →
        exec (.setFeatures n env) s = .next (((s.setFeat x.fn 2 v).setPs x.fn (field v 4 0)).nvmeDone n 0 0)))) ∧
  (∀ (s : State) n env x, s.nvmeRuns n true 0x0A x → let fid := field (x.dw 10) 7 0
    (fid ∈ [0x01, 0x08, 0x0A, 0x0B] → field (x.dw 10) 10 8 = 0 → exec (.getFeatures n env) s =
      .next (s.nvmeDone n 0 (Tbl.getD (s.ctrl x.fn).feats fid (featDefault fid)))) ∧
    (fid = 0x02 → field (x.dw 10) 10 8 = 0 →
      exec (.getFeatures n env) s = .next (s.nvmeDone n 0 (s.fld F.STO_FN_STAT_PS x.fn)))) ∧
  (∀ (s : State) n x, s.nvmeRuns n true 0x0C x → n ∉ (s.ctrl x.fn).aers →
    (∀ e rest, (s.ctrl x.fn).events = e :: rest → exec (.asynchronousEventRequest n) s =
      .next ((s.setCtrl x.fn { s.ctrl x.fn with events := rest }).nvmeDone n 0 e)) ∧
    ((s.ctrl x.fn).events = [] → (s.ctrl x.fn).aers.length ≤ aerl → exec (.asynchronousEventRequest n) s =
      .next (s.setCtrl x.fn { s.ctrl x.fn with aers := (s.ctrl x.fn).aers ++ [n] }))) ∧
  (∀ (s : State) n x, s.nvmeRuns n true 0xC4 x → (s.slot? n = some x) →
    (bit (x.dw 10) 31 = true → s.nsFor x (x.dw 1) = none →
      exec (.clearIndeterminateRange n) s = .next (s.nvmeDone n 0x00B 0)) ∧
    ((bit (x.dw 10) 31 = false ∨ (s.nsFor x (x.dw 1)).isSome = true) → Leads (.clearIndeterminateRange n) s (fun t =>
      (∀ e, e ∈ t.sto.irt ↔ e ∈ s.sto.irt ∧ ¬ (s.sees x e.2 = true ∧
        (if bit (x.dw 10) 31 then e.2.nsid = x.dw 1 else e.1 = field (x.dw 10) 7 0))) ∧
      (t.sto.irt.length < 256 → ∀ m ∈ t.sto.namespaces, m.2.readOnly = false) ∧
      t.slot? n = some { x with phase := .done 0 0, progress := none, ranges := [] } ∧ t.regs = s.regs ∧ t.mem = s.mem))) ∧
  (∀ (s : State) fn, let c := s.ctrl fn
    let e := c.apst.getD (s.fld F.STO_FN_STAT_PS fn) 0
    c.ready = true → bit (Tbl.getD c.feats 0x0C 0) 0 = true → field e 31 8 ≠ 0 →
    ∀ idle, field e 31 8 ≤ idle → c.lastBusy + idle * 1000000 ≤ s.tb.time → field e 7 3 = 2 →
    (∀ x ∈ s.ctrlSlots fn, x.1 ∈ c.aers) → Leads (.autonomousPowerStateTransition fn idle) s (fun t =>
      t.fld F.STO_FN_STAT_PS fn = 2 ∧ FieldsKept s t [F.STO_FN_STAT_PS.key fn] ∧ t.ctrl fn = s.ctrl fn ∧
      t = { s with regs := t.regs, sto := { s.sto with ctrls := t.sto.ctrls, drivePs := t.sto.drivePs } }))

/-- R378, R381, R384, R387, R388, R394 to R399, R402 to R405: a command takes its range lock, waits where one conflicts, and
runs; what can end it at once; a local read ends with its data in the host's buffers; time-outs of backing commands; what a
backing command carries; FEED. Rests on the model's own choices and readings in log entries 60, 61, 63, 65, 66, 70, 71, 77,
158 and 160. -/
def Obligations.NvmeIoAndFeed : Prop :=
  let lock (s : State) (n i lo cnt : Nat) (k : StoKind) : RangeLock :=
    { id := s.sto.nextId, slot := some n, kind := k, ns := i, lo := lo, n := cnt, ranges := [(lo, cnt)] }
  let starts (s0 s : State) (c : Instr) (n : Nat) (env : Env) (x : Slot) (l : RangeLock) : Prop :=
    (s.sto.locks.length < 1024 → (∀ m ∈ s.sto.locks, m.clashes l = false) → exec c s0 = .next (({ s with sto := { s.sto with
      nextId := s.sto.nextId + 1, locks := s.sto.locks ++ [{ l with granted := true }] } } : State).runOp env n x
        { l with granted := true })) ∧
    (s.sto.locks.length < 1024 → (∃ m ∈ s.sto.locks, m.clashes l = true) → exec c s0 = .next { s with sto := { s.sto with
      nextId := s.sto.nextId + 1, locks := s.sto.locks ++ [l] } }) ∧
    (1024 ≤ s.sto.locks.length → exec c s0 = .next (({ s with sto := { s.sto with
      nextId := s.sto.nextId + 1, lockWait := s.sto.lockWait ++ [l] } } : State).inc F.STO_LOCK_STAT_WAIT_CNT 0))
  (∀ (s : State) n x, s.nvmeRuns n false 0x00 x → (s.nsFor x (x.dw 1)).isSome = true →
    exec (.nvmeFlush n) s = .next (s.nvmeDone n 0 0)) ∧
  (∀ (s : State) n env x i ns k op (mk : Nat → Env → Instr), s.lockOf n = none → s.nsFor x (x.dw 1) = some (i, ns) →
    (k = .write ∧ op = 1 ∧ mk = .nvmeWrite) ∨ (k = .read ∧ op = 2 ∧ mk = .nvmeRead) ∨
      (k = .zero ∧ op = 8 ∧ mk = .writeZeroes) → s.nvmeRuns n false op x →
    (ns.size < x.slba + x.nlb → exec (mk n env) s = .next (s.nvmeDone n 0x080 0)) ∧
    (x.slba + x.nlb ≤ ns.size → starts s s (mk n env) n env x (lock s n i x.slba x.nlb k))) ∧
  (∀ (s : State) n env x i ns, s.lockOf n = none → s.nsFor x (x.dw 1) = some (i, ns) → s.nvmeRuns n false 9 x →
    (bit (x.dw 11) 2 = false → exec (.datasetManagement n env) s = .next (s.nvmeDone n 0 0)) ∧
    (∀ rs s1 bs lo cnt, bit (x.dw 11) 2 = true → s.bufRanges env x (16 * (field (x.dw 10) 7 0 + 1)) = .ok rs →
      s.bufRead env x.fn rs = (s1, .ok bs) → dsmRanges (field (x.dw 10) 7 0 + 1) bs = [(lo, cnt)] → lo + cnt ≤ ns.size →
      starts s s1 (.datasetManagement n env) n env x (lock s1 n i lo cnt .dealloc))) ∧
  (∀ (s : State) id env n x l, s.lock? id = some l → l.slot = some n → s.slot? n = some x → x.phase = .dispatched →
    l.granted = false →
    (s.grantable l = true → s.feedHeld (some n) = false → exec (.rangeLockGrant id env) s =
      .next ((s.setLock { l with granted := true }).runOp env n x { l with granted := true })) ∧
    ((s.grantable l = false ∨ s.feedHeld (some n) = true) → exec (.rangeLockGrant id env) s = .next s)) ∧
  (∀ (s : State) env n x l ns, s.ns? l.ns = some ns → let rd : Prop := l.kind = .read ∨ l.kind = .feed
    (¬ rd → ns.readOnly = true → s.runOp env n x l = s.opEnd n l.kind 0x020 0 0) ∧
    (rd → s.irtHit l.ns l.lo l.n = true → s.runOp env n x l = s.opEnd n l.kind 0x782 0x502 0) ∧
    (l.kind = .read → s.irtHit l.ns l.lo l.n = false → ns.pi = 0 → ns.cache = false →
      ((ns.extsOf [(l.lo, l.n)]).all (s.pathUp ns) = false → s.runOp env n x l = s.opEnd n .read 0x781 0x501 0) ∧
      ((ns.extsOf [(l.lo, l.n)]).all (s.pathUp ns) = true →
        (s.nsKeyOk ns = false → s.runOp env n x l = s.opEnd n .read 0x286 0x700 0) ∧
        (s.nsKeyOk ns = true →
          let ps := ns.backings .read [(l.lo, l.n)] s.sto.nextId s.tb.time
          s.runOp env n x l = ({ s.connect ns with sto := { (s.connect ns).sto with
            nextId := s.sto.nextId + ps.length } } : State).setLock { l with parts := ps })))) ∧
  (∀ (s : State) (ns : Ns) k rs id time, (ns.backing = 2 → ns.qp ∈ (s.connect ns).sto.connected) ∧
    (ns.backing ≠ 2 → s.connect ns = s) ∧ (∀ b ∈ ns.backings k rs id time, b.time = time ∧
      (k = .write ∨ k = .zero → b.fua = true) ∧ (b.sent = true ↔ k ≠ .write) ∧
      (ns.backing = 2 → k = .write → b.carry = if b.lbas.length * ns.lbaBytes ≤ 8192 then .capsule else .keyed))) ∧
  (∀ (s : State) env n x l p ns data rs, s.backing? p.id = some (l, p) → s.ns? l.ns = some ns → l.parts = [p] →
    l.kind = .read → l.slot = some n → s.slot? n = some x → p.aborted = none →
    ns.pi = 0 → ns.enc = false → ns.cache = false →
    p.lbas = (List.range l.n).map (fun k => l.lo + k) → data.length = l.n * ns.lbaBytes →
    s.bufRanges env x data.length = .ok rs → s.forwards p.path = true → s.feedHeld l.slot = false →
    Leads (.backingCompletion p.id 0 0 data [] env) s (fun t =>
      t.mem.host = (s.bufWrite x.fn rs data).mem.host ∧
      t.slot? n = some { x with phase := .done 0 0, progress := none, ranges := [] })) ∧
  (∀ (s : State) env l p st a data, s.backing? p.id = some (l, p) → s.forwards p.path = false →
    exec (.backingCompletion p.id st a data [] env) s = .next s) ∧
  (∀ (s : State) env n x l p ns st a, s.backing? p.id = some (l, p) → s.ns? l.ns = some ns → l.parts = [p] →
    l.kind = .read → l.slot = some n → s.slot? n = some x → (s.ring x.ring).typ = .nvmeSq → p.aborted = none → st ≠ 0 →
    st ≠ 0x780 → st ≠ 0x781 → s.forwards p.path = true → s.feedHeld l.slot = false →
    Leads (.backingCompletion p.id st a [] [] env) s (fun t =>
      t.slot? n = some { x with phase := .done st 0, progress := none, ranges := [] })) ∧
  (∀ (s : State) id l p, s.backing? id = some (l, p) →
    let due := p.time + s.fld F.STO_DEV_CTL_BACKING_MS 0 * 1000000 ≤ s.tb.time
    (p.aborted = none → due → exec (.backingTimeout id) s =
      .next (s.setLock (l.setPart id (fun q => { q with aborted := some s.tb.time })))) ∧
    ((p.aborted ≠ none ∨ ¬ due) → exec (.backingTimeout id) s = .next s) ∧
    (∀ t, p.aborted = some t →
      (s.tb.time < t + 1000000000 → exec (.backingAbortTimeout id) s = .next s) ∧
      (∀ d, t + 1000000000 ≤ s.tb.time → p.path = .drive d → exec (.backingAbortTimeout id) s =
        .next (s.loseParts (Backing.on p.path) true 3 d)))) ∧
  (∀ (s : State) n env x i ns, let w (k : Nat) := wordAt x.words k
    s.clauseAt n 5 0 = some x → s.lockOf n = none → field (w 1) 63 34 = 0 → 0 < w 3 → w 3 < 2 ^ 32 → w 4 < 2 ^ 48 →
    w 5 = 0 → w 6 = 0 → zeroFrom x.words 7 = true → s.domain 22 = .ready → s.nsFor x (field (w 1) 31 0) = some (i, ns) →
    (feedBad s x (some (i, ns)) = true → exec (.feed n env) s = .next (s.slotDone n 0x10 0)) ∧
    (∀ st, feedBad s x (some (i, ns)) = false → s.checkClause x.fn true (w 4) (w 3 * ns.lbaBytes) = .fail st →
      exec (.feed n env) s = .next ((s.refuse x.fn st).slotDone n st 0)) ∧
    (feedBad s x (some (i, ns)) = false → s.checkClause x.fn true (w 4) (w 3 * ns.lbaBytes) = .ok () →
      s.sto.locks.length < 1024 →
      let l := { lock s n i (w 2) (w 3) .feed with granted := true }
      (∀ m ∈ s.sto.locks, m.clashes l = false) → exec (.feed n env) s =
        .next ((let s1 := s.openRanges n x [(w 4, w 3 * ns.lbaBytes)]
          ({ s1 with sto := { s.sto with nextId := s.sto.nextId + 1, locks := s.sto.locks ++ [l] } } : State)).runOp env n x l)))

/-- R373, R382, R383, R386, R396, R397, R407, R408: namespaces are created, deleted, attached and detached; drives and remote
paths come and go; a change of the cache region empties the cache. Rests on the model's own choices and readings in log
entries 67, 68, 159 and 169. -/
def Obligations.NamespacesAndDrives : Prop :=
  (∀ (s : State) r, r < 4 → let t := s.nsResult r
    t.flag F.STO_NS_CMD_GO 0 = false ∧ t.fld F.STO_NS_RESULT_RESULT 0 = r ∧ t.flag F.STO_NS_RESULT_BUSY 0 = false ∧
    t.flag F.STO_NS_RESULT_DONE 0 = true ∧ t = { s with regs := t.regs }) ∧
  (∀ (s : State), s.nsReady 0 = true → let i := s.fld F.STO_NS_CMD_NS 0
    let n := s.stagedNs
    let others := s.sto.namespaces.flatMap (fun m => m.2.extents)
    ((s.ns? i).isSome = true → exec .nsCreate s = .next (s.nsResult 1)) ∧
    ((s.ns? i) = none →
      ((∃ e ∈ n.extents, (s.drive e.1).up = false ∨ (s.drive e.1).lbas < e.2.1 + e.2.2) ∨
        extentsClash (n.extents ++ others) = true ∨ stripeBad n = true ∨ s.nsKeyOk n = false →
          exec .nsCreate s = .next (s.nsResult 2)) ∧
      ((∀ e ∈ n.extents, (s.drive e.1).up = true ∧ e.2.1 + e.2.2 ≤ (s.drive e.1).lbas) →
        extentsClash (n.extents ++ others) = false → stripeBad n = false → n.backing ≠ 2 → s.nsKeyOk n = true →
        (n.pi = 0 ∨ s.fld F.STO_DEV_CTL_CRC_UNITS 0 ≠ 0) → exec .nsCreate s = .next ((s.setNs i n).nsResult 0)))) ∧
  (∀ (s : State) n, s.nsReady 1 = true → let i := s.fld F.STO_NS_CMD_NS 0
    s.ns? i = some n →
    (n.watchers ≠ [] → exec .nsDelete s = .next (s.nsResult 3)) ∧
    (n.watchers = [] → Leads .nsDelete s (fun t => t.ns? i = none ∧ (∀ j, j ≠ i → t.ns? j = s.ns? j) ∧
      (∀ c ∈ t.sto.cache, c.ns ≠ i) ∧ t.fld F.STO_NS_RESULT_RESULT 0 = 0 ∧ t.flag F.STO_NS_RESULT_DONE 0 = true))) ∧
  (∀ (s : State) n f, s.nsReady 2 = true → let i := s.fld F.STO_NS_CMD_NS 0
    s.fld F.STO_NS_CMD_FUNC 0 = f → s.ns? i = some n → n.attachedNow f = false → exec .nsAttach s =
      .next (((s.setNs i { n with attach := n.attach ++ [⟨f, s.rng.arbNo, none⟩] }).nvmeEvent f 0x040002).nsResult 0)) ∧
  (∀ (s : State) n f, s.nsReady 3 = true → let i := s.fld F.STO_NS_CMD_NS 0
    s.fld F.STO_NS_CMD_FUNC 0 = f → s.ns? i = some n → n.attachedNow f = true → ∃ m : Ns, m.attachedNow f = false ∧
      (∀ g, g ≠ f → m.attachedNow g = n.attachedNow g) ∧
      exec .nsDetach s = .next (((s.setNs i m).nvmeEvent f 0x040002).nsResult 0)) ∧
  (∀ (n : Ns) f born since, n.attachedNow f = false → (∀ a ∈ n.attach, a.fn ≠ f) →
    ({ n with attach := n.attach ++ [⟨f, since, none⟩] } : Ns).attachedTo f born = decide (since < born)) ∧
  (∀ (s : State) p serial lbas rate width, p < 4 → s.flag F.HEP_DP_STAT_PRESENT p = true → s.flag F.HEP_DP_CTL_PWR p = true →
    s.flag F.HEP_DP_CTL_EN p = true → (s.drive p).up = false → 1 ≤ rate → rate ≤ s.fld F.HEP_DP_CTL_MAX_RATE p →
    width ∈ [1, 2, 4] →
    let s1 : State := { s with sto := { s.sto with drives := Tbl.set p ⟨true, serial, lbas⟩ s.sto.drives } }
    let s2 := (((s1.setFlag F.HEP_DP_STAT_UP p true).setFld F.HEP_DP_STAT_WIDTH p width).setFld
      F.HEP_DP_STAT_RATE p rate).setFlag F.HEP_DP_STAT_CHANGE p true
    ((Tbl.has s.sto.drives p = true ∧ (s.drive p).serial = serial) → exec (.driveReady p serial lbas rate width) s =
      .next (s2.postEvent {} 0 0x6002 (BitVec.ofNat 64 p) 0)) ∧
    ((Tbl.has s.sto.drives p = false ∨ (s.drive p).serial ≠ serial) →
      exec (.driveReady p serial lbas rate width) s = .next s2)) ∧
  (∀ (s : State) p, p < 4 → (s.drive p).up = true →
    exec (.driveRemoved p) s = .next (((({ s with sto := { s.sto with
      drives := Tbl.put {} p { s.drive p with up := false } s.sto.drives } } : State).dpDown p).loseParts (Backing.on (.drive p))
        false 1 p).postEvent {} 0 0x6001 (BitVec.ofNat 64 p) 0)) ∧
  (∀ (s : State) p, let t := s.dpDown p
    (s.flag F.HEP_DP_STAT_UP p = false → t = s) ∧ t.flag F.HEP_DP_STAT_UP p = false ∧
    (s.flag F.HEP_DP_STAT_UP p = true → t.flag F.HEP_DP_STAT_CHANGE p = true ∧ t.fld F.HEP_DP_STAT_WIDTH p = 0 ∧
      t.fld F.HEP_DP_STAT_RATE p = 0)) ∧
  (∀ (s : State) qp, (∃ n ∈ s.sto.namespaces, n.2.backing = 2 ∧ n.2.qp = qp) →
    (∀ q, Tbl.find? qp s.rdm.qps = some q → q.state ≠ 3) → exec (.remotePathLost qp) s =
      .next ((({ s with sto := { s.sto with connected := s.sto.connected.filter (· != qp) } } : State).loseParts (Backing.on (.remote qp)) false 2 0).postEvent {} 0 0x6004 (BitVec.ofNat 64 qp) 0)) ∧
  (∀ (l : RangeLock) p, (l.kind = .read ∨ l.kind = .feed → l.lostEnd p = .pathLost) ∧
    (l.kind = .write → l.lostEnd p = if p.sent then .unknown else .pathLost)) ∧
  (∀ (s0 : State) who v, s0.ddtReady = true → isVf who = false → let s := s0.touch who
    Leads (.cacheCtlWrite who v) s0 (fun t =>
    t.regs = writeFields [F.STO_CACHE_CTL_BASE_GIB, F.STO_CACHE_CTL_SIZE_GIB, F.STO_CACHE_CTL_ON, F.STO_CACHE_CTL_EN] 0 0 0 64
      v.toNat s.regs ∧
    ((∀ f ∈ [F.STO_CACHE_CTL_BASE_GIB, F.STO_CACHE_CTL_SIZE_GIB], t.fld f 0 = s.fld f 0) →
      t.flag F.STO_CACHE_CTL_EN 0 = s.flag F.STO_CACHE_CTL_EN 0 → t.sto = s.sto) ∧
    ((∃ f ∈ [F.STO_CACHE_CTL_BASE_GIB, F.STO_CACHE_CTL_SIZE_GIB], t.fld f 0 ≠ s.fld f 0) ∨
      t.flag F.STO_CACHE_CTL_EN 0 ≠ s.flag F.STO_CACHE_CTL_EN 0 → t.sto.cache = []) ∧
    t = { s with regs := t.regs, sto := { s.sto with cache := t.sto.cache } }))

/-- R505 to R507, R509, R510, R513, R514, R521 to R524, R532, R535, R536: a use of a key slot counts and ends at its limit;
the six key clauses with their statuses. Rests on the model's own choices and readings in log entries 19 and 188. -/
def Obligations.KeyClauses : Prop :=
  (∀ (s : State) k u, let x := s.keySlot k
    (s.keyServes k u = false → s.useKey k u = (s, .error 0x700)) ∧
    (s.keyServes k u = true → x.limit ≤ x.used →
      s.useKey k u = (s.inc F.SEC_FN_STAT_EXHAUST_CNT (s.keyOwner k), .error 0x701)) ∧
    (s.keyServes k u = true → x.used < x.limit → ∃ t, s.useKey k u = (t, .ok x) ∧
      t.keySlot k = { x with used := x.used + 1, warn := x.warn || x.used + 1 == max 1 (x.limit * 7 / 8) } ∧
      (∀ j, j ≠ k → t.keySlot j = s.keySlot j)) ∧
    (s.keyLocked = true → s.keyServes k u = false)) ∧
  (∀ (s : State) n env x, let w (i : Nat) := wordAt x.words i
    let k := field (w 1) 9 0
    let kek := field (w 1) 25 16
    s.clauseAt n 9 0 = some x → field (w 1) 15 10 = 0 → field (w 1) 63 26 = 0 → w 2 < 2 ^ 48 → w 2 % 64 = 0 →
    zeroFrom x.words 3 = true → s.domain 26 = .ready →
    (s.keyLocked = true → exec (.kload n env) s = .next (s.slotDone n 0x702 0)) ∧
    (∀ s1 b s2 kk, s.keyLocked = false → s.readFor env x.fn (w 2) 128 = (s1, .ok b) → s1.keyOwner k = x.fn →
      s1.keyOwner kek = x.fn → s1.useKey kek .wrap = (s2, .ok kk) →
      let opened := gcmOpen kk.key (slice b 0x20 12) (b.take 0x30) (slice b 0x30 64) (slice b 0x70 16)
      (blobBad b = true → exec (.kload n env) s = .next (s2.authFailed n x.fn 1)) ∧
      (blobBad b = false → opened = none → exec (.kload n env) s = .next (s2.authFailed n x.fn 6)) ∧
      (∀ m, blobBad b = false → opened = some m → exec (.kload n env) s =
        .next (((s2.revokeKey k).setKeySlot k (blobSlot b m)).slotDone n 0 0)))) ∧
  (∀ (s : State) n x, let k := wordAt x.words 1
    s.clauseAt n 9 1 = some x → k < 1024 → zeroFrom x.words 2 = true → s.domain 26 = .ready →
    (∀ r ∈ s.sec.revs, r.clause ≠ n) →
    ((s.keyOwner k ≠ x.fn ∨ (s.keySlot k).loaded = false) → exec (.krevoke n) s = .next (s.slotDone n 0x700 0)) ∧
    (s.keyOwner k = x.fn → (s.keySlot k).loaded = true → Leads (.krevoke n) s (fun t => t.keySlot k = {} ∧
      (∀ j, j ≠ k → t.keySlot j = s.keySlot j) ∧ t.sec.revs = s.sec.revs ++ [⟨n, k, (s.keySlot k).used⟩] ∧
      t = { s with sec := { s.sec with slots := t.sec.slots, revs := t.sec.revs } }))) ∧
  (∀ (s : State) k r, s.sec.revs.find? (fun r => r.keySlot == k) = some r → exec (.revocationComplete k) s =
    .next (({ s with sec := { s.sec with revs := s.sec.revs.filter (fun q => decide (q ≠ r)) } } : State).slotDone r.clause 0
      (BitVec.ofNat 64 r.used))) ∧
  (∀ (s : State) n x, let k := wordAt x.words 1
    s.clauseAt n 9 2 = some x → k < 1024 → zeroFrom x.words 2 = true → s.domain 26 = .ready →
    (s.keyOwner k = x.fn → exec (.kquery n) s = .next (s.slotDone n 0 (BitVec.ofNat 64 (keyWord (s.keySlot k))))) ∧
    (s.keyOwner k ≠ x.fn → exec (.kquery n) s = .next (s.slotDone n 0 0))) ∧
  (∀ (s : State) n env x, let w (i : Nat) := wordAt x.words i
    s.clauseAt n 9 3 = some x → w 1 < 2 ^ 48 → w 2 < 2 ^ 48 → w 3 < 2 ^ 48 → w 4 < 1024 → zeroFrom x.words 5 = true →
    s.domain 26 = .ready → s.keyLocked = false → s.checkClause x.fn true (w 2) (w 3) = .ok () →
    ∀ s1 h, s.readFor env x.fn (w 1) 512 = (s1, .ok h) →
    let known := ∃ e ∈ s1.sec.signers, e.2 = Config.sha384 (slice h 0x60 96)
    ((pkgBad h = true ∨ leAt h 6 2 = 4) → exec (.pkgLoad n env) s = .next (s1.authFailed n x.fn 1)) ∧
    (pkgBad h = false → leAt h 6 2 ≠ 4 →
      (¬ known → exec (.pkgLoad n env) s = .next (s1.authFailed n x.fn 2)) ∧
      (known → pkgSigned h = false → exec (.pkgLoad n env) s = .next (s1.authFailed n x.fn 3)) ∧
      (∀ s2 key, known → pkgSigned h = true → s1.pkgKey x.fn (leAt h 0x10 8) (w 4) = (s2, .ok key) →
        (w 3 < pkgLen h → exec (.pkgLoad n env) s = .next (s2.authFailed n x.fn 7)) ∧
        (∀ s3 b, pkgLen h ≤ w 3 → s2.readFor env x.fn (w 1 + 512) (pkgLen h + 16) = (s3, .ok b) →
          (∀ r, pkgOpen key h (b.take (pkgLen h)) (b.drop (pkgLen h)) = .error r → exec (.pkgLoad n env) s =
            .next ((s3.zeroRange env x.fn (w 2) (pkgLen h)).authFailed n x.fn r)) ∧
          (∀ pt s4, pkgOpen key h (b.take (pkgLen h)) (b.drop (pkgLen h)) = .ok pt →
            s3.writeChecked env x.fn (w 2) pt = (s4, .ok ()) → exec (.pkgLoad n env) s =
              .next ((s4.measure h).slotDone n 0 (BitVec.ofNat 64 (pkgLen h)))))))) ∧
  (∀ (s : State) n env x s1, let i := wordAt x.words 1
    s.clauseAt n 9 4 = some x → x.fn = 0 → i < 4 → wordAt x.words 2 < 2 ^ 48 → zeroFrom x.words 3 = true →
    s.domain 26 = .ready → s.keyLocked = false → s.checkClause 0 true (wordAt x.words 2) 32 = .ok () →
    ((s.devSet i).state = 0 → exec (.proveNonce n env) s = .next (s.slotDone n 0x704 0)) ∧
    ((s.devSet i).state ≠ 0 → s.tick.writeChecked env 0 (wordAt x.words 2) (randomBytes s.fresh) = (s1, .ok ()) →
      exec (.proveNonce n env) s =
        .next ((s1.setDevSet i { s1.devSet i with nonce := some (randomBytes s.fresh) }).slotDone n 0 0))) ∧
  (∀ (s : State) n env x s1 bs mb e, let w (i : Nat) := wordAt x.words i
    let i := field (w 1) 1 0
    let m := field (w 1) 23 16
    s.clauseAt n 9 5 = some x → x.fn = 0 → field (w 1) 15 2 = 0 → field (w 1) 63 24 = 0 → w 2 < 2 ^ 48 → w 3 < 2 ^ 16 →
    zeroFrom x.words 4 = true → s.domain 26 = .ready → s.keyLocked = false →
    s.readFor env 0 (w 2) (w 3) = (s1, .ok bs) → (s1.devSet i).state ≠ 0 → (s1.devSet i).members[m]? = some mb →
    Config.evidence bs = some e →
    let d := s1.devSet i
    let spent := s1.setDevSet i { d with nonce := none }
    let d1 := ({ d with nonce := none } : DevSet).prove m
    let cnt := (d1.members.filter (fun q => q.proven)).length
    (evidencePasses d mb e = false → exec (.prove n env) s = .next (spent.authFailed n 0 8)) ∧
    (evidencePasses d mb e = true → cnt < d1.members.length → exec (.prove n env) s =
      .next ((spent.setDevSet i d1).slotDone n 0 (BitVec.ofNat 64 cnt))) ∧
    (evidencePasses d mb e = true → cnt = d1.members.length → d.state = 1 → exec (.prove n env) s =
      .next (((spent.setDevSet i { d1 with state := 2 }).postEvent env 0 0xA005 (BitVec.ofNat 64 i) 0).slotDone n 0
        (BitVec.ofNat 64 cnt))))

/-- R411, R413, R487 to R501: refills of the shapers, the choice of the port service, the start of a frame, gates and pauses.
Rests on the model's own choices and readings in log entries 79, 80, 81 and 185. -/
def Obligations.TrafficScheduler : Prop :=
  (∀ (s : State), s.sch.lastRefill + s.fld F.SCH_CTL_REFILL_NS 0 ≤ s.tb.time → s.domOn 21 = true →
    Leads .shaperRefill s (fun t => let ns := s.fld F.SCH_CTL_REFILL_NS 0
      let filled (old : Int) (rate kib : Nat) : Int := min (old + ((rate * ns : Nat) : Int)) ((kib * 1024 * 8000 : Nat) : Int)
      (∀ u, u < 4096 → tokensOf t.sch.subTok u =
        filled (tokensOf s.sch.subTok u) (s.fld F.SCH_SUB_CFG_PIR_MBPS u) (s.fld F.SCH_SUB_CFG_BURST_KIB u)) ∧
      (∀ k, k < 64 → tokensOf t.sch.cirTok k =
        filled (tokensOf s.sch.cirTok k) (s.fld F.SCH_SVC_CFG_CIR_MBPS k) (s.fld F.SCH_SVC_BURST_CBS_KIB k)) ∧
      (∀ k, k < 64 → tokensOf t.sch.pirTok k =
        filled (tokensOf s.sch.pirTok k) (s.fld F.SCH_SVC_CFG_PIR_MBPS k) (s.fld F.SCH_SVC_BURST_PBS_KIB k)) ∧
      t.sch.lastRefill = s.sch.lastRefill + ns ∧ t.sch.frames = s.sch.frames ∧ t = { s with sch := t.sch })) ∧
  (∀ (s : State) p v, s.chooseSvc p = some v → v < 8 ∧ s.servable p v = true ∧
    ∀ w, w < 8 → s.servable p w = true → s.svcBefore p w v = false) ∧
  (∀ (s : State) f, 1 ≤ s.accounted f) ∧
  (∀ (s : State) p env, s.canSend p = true → Tbl.getD s.sch.busyUntil p 0 ≤ s.tb.time → s.domain 21 ≠ .waking →
    (∀ s1, (s.pumpAll env).nextFrame p = (s1, none) → exec (.portTransmitStart p env) s = .next s1.settleWaits) ∧
    (∀ s1 f, (s.pumpAll env).nextFrame p = (s1, some f) → f.slot = none → exec (.portTransmitStart p env) s =
      .next ((s1.accountFrame f).emitFrame f).settleWaits) ∧
    (∀ s1 f n, (s.pumpAll env).nextFrame p = (s1, some f) → f.slot = some n → exec (.portTransmitStart p env) s =
      .next ((((s1.accountFrame f).emitFrame f).slotDone n 0 (BitVec.ofNat 64 (f.len - 4))).settleWaits))) ∧
  (∀ (s : State) f, s.encrypts f = false →
    (s.emitFrame f).sch = { s.sch with sent := ⟨f, s.adjusted, none⟩ :: s.sch.sent }) ∧
  (∀ (s : State) q f, s.sch.frames.find? (fun f => match f.headSince with
      | some t => decide (t + 100000000 ≤ s.tb.time) | none => false) = some f → f.src = .qp q →
    exec .rawFrameTimeout s = .next (s.qpError q 6 f.slot 0x402)) ∧
  (∀ (s : State) p, p < 8 → s.flag F.SCH_GATE_CTL_APPLY p = true → Leads (.gateApply p) s (fun t =>
    t.flag F.SCH_GATE_CTL_APPLY p = false ∧
    (s.flag F.SCH_GATE_CTL_EN p = false → t.gateList p = s.shadowList p ∧ t.flag F.SCH_GATE_STAT_PENDING p = false) ∧
    (s.flag F.SCH_GATE_CTL_EN p = true → t.gateList p = s.gateList p ∧ t.flag F.SCH_GATE_STAT_PENDING p = true ∧
      Tbl.find? p t.sch.gateWait = some s.adjusted) ∧
    FieldsKept s t [F.SCH_GATE_CTL_APPLY.key p, F.SCH_GATE_STAT_PENDING.key p] ∧
    t = { s with regs := t.regs, sch := { s.sch with gates := t.sch.gates, gateWait := t.sch.gateWait } })) ∧
  (∀ (s : State) p a, Tbl.find? p s.sch.gateWait = some a →
    (s.flag F.SCH_GATE_CTL_EN p = false ∨ (s.gateList p).cycleStart a ≤ s.adjusted →
      Leads (.gateListSwitch p) s (fun t => t.gateList p = s.shadowList p ∧ t.flag F.SCH_GATE_STAT_PENDING p = false ∧
        Tbl.find? p t.sch.gateWait = none ∧ FieldsKept s t [F.SCH_GATE_STAT_PENDING.key p] ∧
        t = { s with regs := t.regs, sch := { s.sch with gates := t.sch.gates, gateWait := t.sch.gateWait } })) ∧
    (s.flag F.SCH_GATE_CTL_EN p = true → s.adjusted < (s.gateList p).cycleStart a →
      exec (.gateListSwitch p) s = .next s)) ∧
  (∀ (s : State) p, p < 8 → Leads (.gateEntryAdvance p) s (fun t =>
    (∀ v, v < 8 → bit (t.fld F.SCH_GATE_STAT_OPEN p) v = (s.gateAt p v s.adjusted).isSome) ∧
    t.fld F.SCH_GATE_STAT_ENTRY p = (s.gateList p).entryAt s.adjusted % 2 ^ F.SCH_GATE_STAT_ENTRY.width ∧
    FieldsKept s t [F.SCH_GATE_STAT_OPEN.key p, F.SCH_GATE_STAT_ENTRY.key p] ∧ t = { s with regs := t.regs })) ∧
  (∀ (s : State) p prio q, prio < 8 → s.canSend p = true → bit (s.fld F.NET_PORT_CTL_PFC_EN p) prio = true →
    Leads (.pfcFrameReceive p prio q) s (fun t =>
      bit (t.fld F.SCH_GATE_STAT_PAUSED p) prio = decide (q ≠ 0) ∧
      Tbl.find? (p * 8 + prio) t.sch.pause = (if q = 0 then none else
        some (s.tb.time + ceilDiv (q * 512) (s.portRate p))) ∧
      FieldsKept s t [F.SCH_GATE_STAT_PAUSED.key p] ∧ t = { s with regs := t.regs, sch := { s.sch with pause := t.sch.pause } })) ∧
  (∀ (s : State) p prio a, prio < 8 → Tbl.find? (p * 8 + prio) s.sch.pause = some a →
    (a ≤ s.tb.time → Leads (.pauseExpiry p prio) s (fun t => bit (t.fld F.SCH_GATE_STAT_PAUSED p) prio = false ∧
      Tbl.find? (p * 8 + prio) t.sch.pause = none ∧ FieldsKept s t [F.SCH_GATE_STAT_PAUSED.key p] ∧
      t = { s with regs := t.regs, sch := { s.sch with pause := t.sch.pause } })) ∧
    (s.tb.time < a → exec (.pauseExpiry p prio) s = .next s))

/-- R58, R409 to R414, R421 to R438, R440: tables and flows, fragments, the reception and classification of a frame, its
delivery, and links that go up and down. Rests on the model's own choices and readings in log entries 82, 84, 89 and 180. -/
def Obligations.NetworkReceive : Prop :=
  (∀ (s : State) env, s.flag F.NET_TBL_CMD_GO 0 = true → s.fld F.NET_TBL_CMD_OP 0 = 0 → s.net.swapping = false →
    let kind := s.fld F.NET_TBL_CMD_KIND 0
    let n := s.fld F.NET_TBL_CMD_COUNT 0
    let first := s.fld F.NET_TBL_CMD_FIRST 0
    let s0 := s.setFlag F.NET_TBL_CMD_GO 0 false
    (tblSize kind < first + n → exec (.tableLoad env) s = .next (s0.tblDone 1)) ∧
    (∀ s1 bs, first + n ≤ tblSize kind →
      s0.readFor env 0 (s.fld F.NET_TBL_ADDR_ADDR 0 * 64) (n * tblEntry kind) = (s1, .ok bs) →
      let e (i : Nat) := slice bs (i * tblEntry kind) (tblEntry kind)
      ((∃ i, i < n ∧ entryBad kind (e i) = true) → exec (.tableLoad env) s = .next (s1.tblDone 1)) ∧
      ((∀ i, i < n → entryBad kind (e i) = false) → Leads (.tableLoad env) s (fun t =>
        t.fld F.NET_TBL_RESULT_RESULT 0 = 0 ∧ t.flag F.NET_TBL_RESULT_DONE 0 = true ∧
        t.bank s.activeBank = s1.bank s.activeBank ∧
        (kind = 3 → ∀ i, i < n → Tbl.find? (first + i) (t.bank (!s.activeBank)).patterns = some (e i)) ∧
        t = { s1 with regs := t.regs, net := { s1.net with bank0 := t.net.bank0, bank1 := t.net.bank1 } })))) ∧
  (∀ (s : State), s.flag F.NET_TBL_CMD_GO 0 = true → s.fld F.NET_TBL_CMD_OP 0 = 1 → s.net.swapping = false →
    Leads .tableSwap s (fun t => t.activeBank = !s.activeBank ∧ t.flag F.NET_TBL_RESULT_BUSY 0 = true ∧
      t.flag F.NET_TBL_CMD_GO 0 = false ∧ t.net = { s.net with swapping := true } ∧
      FieldsKept s t [F.NET_TBL_RESULT_ACTIVE.key 0, F.NET_TBL_RESULT_BUSY.key 0, F.NET_TBL_CMD_GO.key 0] ∧
      t = { s with regs := t.regs, net := t.net })) ∧
  (∀ (s : State), s.net.swapping = true →
    ((∀ q ∈ s.net.reorder, ∀ f ∈ q.2, f.bank = s.activeBank) → Leads .tableSwapDone s (fun t =>
      t.net = { s.net with swapping := false } ∧ t.fld F.NET_TBL_RESULT_RESULT 0 = 0 ∧
      t.flag F.NET_TBL_RESULT_BUSY 0 = false ∧ t.flag F.NET_TBL_RESULT_DONE 0 = true ∧ t = { s with regs := t.regs, net := t.net })) ∧
    ((∃ q ∈ s.net.reorder, ∃ f ∈ q.2, f.bank ≠ s.activeBank) → exec .tableSwapDone s = .next s)) ∧
  (∀ (s : State) env s1 b, s.flowReady 0 = true →
    (s.setFlag F.NET_FLOW_CMD_GO 0 false).readFor env 0 s.flowAt 64 = (s1, .ok b) →
    let key := b.take 40
    let act := leAt b 40 8
    let i := crcOf crc32c key % 4096
    ((bit act 63 = false ∨ actionBad act = true) → exec (.flowInsert env) s = .next (s1.flowDone 3)) ∧
    (bit act 63 = true → actionBad act = false →
      ((∃ e ∈ s1.flowSet i, e.key = key) → exec (.flowInsert env) s = .next ((s1.setFlowSet i
        ((s1.flowSet i).map (fun e => if e.key = key then { e with action := act } else e))).flowDone 0)) ∧
      ((∀ e ∈ s1.flowSet i, e.key ≠ key) → s1.findMem key = none → (s1.flowSet i).length < 16 →
        exec (.flowInsert env) s =
          .next ((s1.setFlowSet i (s1.flowSet i ++ [⟨key, act, s1.tb.time, 0⟩])).flowDone 0)))) ∧
  (∀ (s : State) env s1 b, s.flowReady 1 = true →
    (s.setFlag F.NET_FLOW_CMD_GO 0 false).readFor env 0 s.flowAt 64 = (s1, .ok b) →
    let key := b.take 40
    let i := crcOf crc32c key % 4096
    ((∃ e ∈ s1.flowSet i, e.key = key) → exec (.flowDelete env) s =
      .next ((s1.setFlowSet i ((s1.flowSet i).filter (fun e => e.key != key))).flowDone 0)) ∧
    ((∀ e ∈ s1.flowSet i, e.key ≠ key) → s1.findMem key = none → exec (.flowDelete env) s = .next (s1.flowDone 2))) ∧
  (∀ (s : State) env s1 b, s.flowReady 2 = true →
    (s.setFlag F.NET_FLOW_CMD_GO 0 false).readFor env 0 s.flowAt 64 = (s1, .ok b) →
    let l := s1.flowSet (crcOf crc32c (b.take 40) % 4096)
    (∀ e s2, l.find? (fun e => e.key == b.take 40) = some e → s1.writeFor env 0 s.flowAt e.bytes = (s2, .ok ()) →
      exec (.flowQuery env) s = .next (s2.flowDone 0)) ∧
    (l.find? (fun e => e.key == b.take 40) = none → s1.findMem (b.take 40) = none →
      exec (.flowQuery env) s = .next (s1.flowDone 2))) ∧
  (∀ (s : State) i l, let age := s.fld F.NET_FLOW_CTL_AGE_S 0 * 1000000000
    s.net.lastSweep + age ≤ s.tb.time → s.hasFlowMem = false → s.net.flows = [(i, l)] →
    Leads .flowAgeSweep s (fun t => let kept := l.filter (fun e => !(bit e.action 62 && decide (e.lastHit + age < s.tb.time)))
      t.flowSet i = kept ∧ t.fld F.NET_FLOW_STAT_CHIP_USED 0 = kept.length % 2 ^ F.NET_FLOW_STAT_CHIP_USED.width ∧
      t.fld F.NET_FLOW_STAT_AGED_CNT 0 =
        (s.fld F.NET_FLOW_STAT_AGED_CNT 0 + (l.length - kept.length)) % 2 ^ F.NET_FLOW_STAT_AGED_CNT.width ∧
      t.net = { s.net with flows := t.net.flows, lastSweep := s.tb.time } ∧ t = { s with regs := t.regs, net := t.net })) ∧
  (∀ (s0 : State) who v, s0.ddtReady = true → isVf who = false → let s := s0.touch who
    Leads (.flowMemWrite who v) s0 (fun t => t.regs = writeFields [F.NET_FLOW_MEM_LOG2, F.NET_FLOW_MEM_BASE] 0 0 0 64 v.toNat s.regs ∧
    t.net = { s.net with flowLog2 := t.fld F.NET_FLOW_MEM_LOG2 0, flowBase := t.fld F.NET_FLOW_MEM_BASE 0 * 256 } ∧
    (t.net.flowLog2 = 0 → t.mem = s.mem) ∧
    (t.net.flowLog2 ≠ 0 → ∀ a, t.mem.dev.read a =
      if t.net.flowBase ≤ a ∧ a < t.net.flowBase + 256 * 2 ^ t.net.flowLog2 then 0 else s.mem.dev.read a) ∧
    t = { s with regs := t.regs, net := t.net, mem := { s.mem with dev := t.mem.dev } })) ∧
  (∀ (s : State) f rest, s.net.hold = f :: rest →
    (f.time + 1000000 ≤ s.tb.time → exec .fragmentHoldExpiry s =
      .next (({ s with net := { s.net with hold := rest } } : State).inc F.NET_FRAG_STAT_EARLY_DROP_CNT 0)) ∧
    (s.tb.time < f.time + 1000000 → exec .fragmentHoldExpiry s = .next s)) ∧
  (∀ (s : State), Leads .fragmentEntryExpiry s (fun t =>
    (∀ e, e ∈ t.net.frags ↔ e ∈ s.net.frags ∧ s.tb.time < e.used + s.fld F.NET_FRAG_CTL_LIFE_US 0 * 1000) ∧
    t.fld F.NET_FRAG_STAT_USED 0 = t.net.frags.length % 2 ^ F.NET_FRAG_STAT_USED.width ∧
    FieldsKept s t [F.NET_FRAG_STAT_USED.key 0] ∧ t = { s with regs := t.regs, net := { s.net with frags := t.net.frags } })) ∧
  (∀ (s : State) p bytes fcs, s.canSend p = true → let n := bytes.length
    let l := Tbl.getD s.net.buffer p []
    let prio := framePrio bytes
    exec (.frameReceive p bytes ⟨fcs, true⟩) s = .next (sinterEvent 0x005 2 s) ∧
    ((n < 60 ∨ s.fld F.NET_PORT_CTL_MAX_FRAME p < n + 4) →
      exec (.frameReceive p bytes ⟨fcs, false⟩) s = .next (s.inc F.NET_PORT_CNT_SIZE_CNT p)) ∧
    (60 ≤ n → n + 4 ≤ s.fld F.NET_PORT_CTL_MAX_FRAME p →
      (fcs = false → exec (.frameReceive p bytes ⟨fcs, false⟩) s = .next (s.inc F.NET_PORT_CNT_FCS_CNT p)) ∧
      (fcs = true → 4194304 < sumOf ((List.range 8).map (s.heldBytes p)) + n →
        exec (.frameReceive p bytes ⟨fcs, false⟩) s = .next (s.inc F.NET_PORT_CNT_BUF_DROP_CNT p)) ∧
      (fcs = true → sumOf ((List.range 8).map (s.heldBytes p)) + n ≤ 4194304 → exec (.frameReceive p bytes ⟨fcs, false⟩) s =
        .next ((({ s with net := { s.net with buffer := Tbl.set p (l ++ [(bytes, s.adjusted, s.tb.time)]) s.net.buffer } } :
          State).setHeld p prio (s.heldBytes p prio + n)).drainBuffer p (l.length + 1))))) ∧
  (∀ (s : State) k p lex, let f := s.flowLookup p.key
    let roce (m : Nat × Nat) : Prop := p.udp = true ∧ p.dport = 4791 ∧ s.flag F.HEP_FN_CTL_NETWORK (actFn m.2) = true
    (∀ src a, f.2 = some (src, a) → (s.classify k p lex).2 = some ⟨src, a, 0⟩) ∧
    (∀ m, f.2 = none → macHit k p = some m → roce m → (s.classify k p lex).2 = some ⟨2, actFn m.2 * 2 ^ 40 + 1, m.1⟩) ∧
    (∀ x, f.2 = none → (∀ m, macHit k p = some m → ¬ roce m) →
      k.rules.find? (fun x => ruleHits x.2 p lex ((macHit k p).map (fun m => m.1))) = some x →
      (s.classify k p lex).2 = some ⟨3, wordAt x.2 3, x.1⟩) ∧
    (∀ m, f.2 = none → macHit k p = some m → ¬ roce m →
      k.rules.find? (fun x => ruleHits x.2 p lex ((macHit k p).map (fun m => m.1))) = none →
      (s.classify k p lex).2 = some ⟨4, m.2, m.1⟩) ∧
    (f.2 = none → macHit k p = none → k.rules.find? (fun x => ruleHits x.2 p lex none) = none →
      (s.classify k p lex).2 = none) ∧ (s.classify k p lex).1 = f.1) ∧
  (∀ (s : State) p env f rest, Tbl.getD s.net.reorder p [] = f :: rest →
    let fn := actFn f.decision.action
    let s1 : State := { s with net := { s.net with reorder := Tbl.put [] p rest s.net.reorder } }
    let goes (r : State × Res Unit) : Prop := r.2 ≠ .wait → exec (.reorderDeliver p env) s =
      .next (r.1.drainBuffer p ((Tbl.getD r.1.net.buffer p []).length + 1))
    (s.flag F.HEP_FN_CTL_NETWORK fn = false → goes (s1.inc F.NET_FN_STAT_NOQ_CNT fn, .ok ())) ∧
    (s.flag F.HEP_FN_CTL_NETWORK fn = true →
      (actKind f.decision.action = 1 → goes (s1.rdmaDeliver env fn f)) ∧
      (actKind f.decision.action = 0 → goes (s1.rawDeliver env fn (actQueue f.decision.action f.hash) f)))) ∧
  (∀ (s : State) p up, let lanes := 2 ^ s.fld (if p < 4 then F.NET_PORT_MODE_QUAD0 else F.NET_PORT_MODE_QUAD1) 0
    p < 8 → (up = false ∨ (s.portExists p = true ∧ s.domain (portDomain p) = .ready ∧
      ∀ i, i < lanes → bit (s.fld F.NET_PORT_MODE_LANE_EN 0) (p + i) = true)) →
    exec (.linkChange p up) s = .next (s.setLink p up)) ∧
  (∀ (s : State) who v, s.ddtReady = true → isVf who = false →
    let t := (s.touch who).writeWhole [F.NET_PORT_MODE_LANE_EN, F.NET_PORT_MODE_QUAD1, F.NET_PORT_MODE_QUAD0] v.toNat
    exec (.quadModeChange who v) s = .next (State.portModeChanged s t) ∧
    (t.fld F.NET_PORT_MODE_QUAD0 0 = s.fld F.NET_PORT_MODE_QUAD0 0 → t.fld F.NET_PORT_MODE_QUAD1 0 =
      s.fld F.NET_PORT_MODE_QUAD1 0 → State.portModeChanged s t = t))

/-- R444 to R449, R454, R455, R472, R476, R477: the commands of queue pairs, memory regions, peers and groups, and the
transitions of a queue pair. Rests on the model's own choices and readings in log entries 90, 91, 94, 99 and 187. -/
def Obligations.RdmaCommands : Prop :=
  (∀ (s : State) fn r i k, fn < 256 → r < 8 → let t := s.rdmDone fn r i k
    t.fld F.RDM_RESULT_RESULT fn = r % 2 ^ F.RDM_RESULT_RESULT.width ∧
    t.fld F.RDM_RESULT_INDEX fn = i % 2 ^ F.RDM_RESULT_INDEX.width ∧ t.flag F.RDM_RESULT_BUSY fn = false ∧
    t.flag F.RDM_RESULT_DONE fn = true ∧ t = { s with regs := t.regs }) ∧
  (∀ (s : State) fn env s1 bs, s.rdmReady fn 0 0 = true →
    (s.rdmAccept fn).readFor env fn (s.rdmAddr fn) 64 = (s1, .ok bs) →
    let b := wordsOf 8 bs
    let w0 := wordAt b 0
    let w1 := wordAt b 1
    let x : Qp := { fn := fn, raw := bit w0 3, pd := field w0 31 16, sq := field w1 13 0, rq := field w1 29 16, rqEn := bit w1 30 }
    (s1.qpInvalid fn x.raw x.pd x.sq x.rq x.rqEn = true →
      exec (.qpCreate fn env) s = .next (s1.rdmDone fn 2 (s.rdmIndex fn) 0)) ∧
    (∀ q, s1.qpInvalid fn x.raw x.pd x.sq x.rq x.rqEn = false → Tbl.firstFree s1.rdm.qps 0xBFFFE 2 = some q →
      2 ≤ q ∧ s1.qp? q = none ∧ exec (.qpCreate fn env) s = .next (((s1.setQp q x).touchQp q).rdmDone fn 0 q 0))) ∧
  (∀ (s : State) (x : Qp) b y, s.modifyQp x b = .ok y →
    ((x.state, y.state) = (0, 1) ∨ (x.state, y.state) = (1, 2) ∨ (x.state, y.state) = (2, 3) ∨ (x.state, y.state) = (4, 0)) ∧
    y.state = field (wordAt b 0) 2 0 ∧ y.fn = x.fn ∧ y.raw = x.raw ∧ y.pd = x.pd ∧ y.sq = x.sq ∧ y.rq = x.rq) ∧
  (∀ (s : State) fn env s1 bs x, s.fld F.RDM_CMD_KIND fn = 0 → s.rdmReady fn 0 1 = true →
    (s.rdmAccept fn).readFor env fn (s.rdmAddr fn) 64 = (s1, .ok bs) → s.qp? (s.rdmIndex fn) = some x → x.fn = fn →
    x.group = none → let b := wordsOf 8 bs
    let i := s.rdmIndex fn
    (field (wordAt b 0) 2 0 = 4 → x.state ≠ 4 →
      exec (.qpModify fn env) s = .next ((s1.qpError i 9 none 0).rdmDone fn 0 i 0)) ∧
    (field (wordAt b 0) 2 0 ≠ 4 →
      (∀ r, s1.modifyQp x b = .error r → exec (.qpModify fn env) s = .next (s1.rdmDone fn r i 0)) ∧
      (∀ y, s1.modifyQp x b = .ok y → (y.state ≠ 0 ∨ s1.qpBusy i = false) →
        exec (.qpModify fn env) s = .next (((s1.setQp i y).touchQp i).rdmDone fn 0 i 0)) ∧
      (∀ y, s1.modifyQp x b = .ok y → y.state = 0 → s1.qpBusy i = true →
        exec (.qpModify fn env) s = .next ((s1.setFlag F.RDM_RESULT_BUSY fn true).rdmWait ⟨fn, 0, i⟩)))) ∧
  (∀ (s : State) w x, s.rdm.waits = [w] → w.kind = 0 → s.qp? w.index = some x →
    (s.qpBusy w.index = true → s.settleWaits = s) ∧
    (s.qpBusy w.index = false → s.settleWaits = ((({ s with rdm := { s.rdm with waits := [] } } : State).setQp w.index
      x.toReset).touchQp w.index).rdmDone w.fn 0 w.index 0)) ∧
  (∀ (s : State) fn env x, s.qp? (s.rdmIndex fn) = some x → x.fn = fn →
    (s.rdmReady fn 0 2 = true → x.group = none → exec (.qpDestroy fn) s =
      .next (((s.rdmAccept fn).dropQp (s.rdmIndex fn)).rdmDone fn 0 (s.rdmIndex fn) 0)) ∧
    (∀ s1, s.rdmReady fn 0 3 = true → (s.rdmAccept fn).writeFor env fn (s.rdmAddr fn) (bytesOfWords x.block) = (s1, .ok ()) →
      exec (.qpQuery fn env) s = .next (s1.rdmDone fn 0 (s.rdmIndex fn) 0))) ∧
  (∀ (s : State) fn env s1 bs i, s.rdmReady fn 1 0 = true →
    (s.rdmAccept fn).readFor env fn (s.rdmAddr fn) 64 = (s1, .ok bs) →
    let b := wordsOf 8 bs
    let base := field (wordAt b 0) 47 0
    let len := field (wordAt b 1) 47 0
    let w2 := wordAt b 2
    let bad := len = 0 ∨ 2 ^ 47 < len ∨ s1.region base = .hole ∨ s1.region (base + len - 1) = .hole
    (bad → exec (.regionCreate fn env) s = .next (s1.rdmDone fn 2 (s.rdmIndex fn) 0)) ∧
    (¬ bad → Tbl.firstFree s1.rdm.regions 0x100000 0 = some i → exec (.regionCreate fn env) s =
      .next (({ s1 with rdm := { s1.rdm with regions := Tbl.set i ⟨fn, base, len, field w2 15 0,
        bit w2 16, bit w2 17, field w2 31 24, false⟩ s1.rdm.regions } } : State).rdmDone fn 0 i
          (i * 256 + field w2 31 24)))) ∧
  (∀ (s : State) fn env g, let i := s.rdmIndex fn
    Tbl.find? i s.rdm.regions = some g → g.fn = fn →
    (s.rdmReady fn 1 2 = true → exec (.regionDestroy fn) s =
      .next ((let s1 := (s.rdmAccept fn).setFlag F.RDM_RESULT_BUSY fn true
        { s1 with rdm := { s.rdm with regions := Tbl.set i { g with dying := true } s.rdm.regions
                                      waits := s.rdm.waits ++ [⟨fn, 1, i⟩] } } : State)).settleWaits) ∧
    (∀ s1, s.rdmReady fn 1 3 = true → (s.rdmAccept fn).writeFor env fn (s.rdmAddr fn) (bytesOfWords ([g.base, g.len,
        g.pd + ofBit g.rd * 2 ^ 16 + ofBit g.wr * 2 ^ 17 + g.key * 2 ^ 24, 0, 0, 0, 0, 0].map (BitVec.ofNat 64))) = (s1, .ok ()) →
      exec (.regionQuery fn env) s = .next (s1.rdmDone fn 0 i 0))) ∧
  (∀ (s : State) fn op (c : Instr), fn ≠ 0 → (∃ env, (op = 0 ∧ c = .peerCreate fn env) ∨ (op = 3 ∧ c = .peerQuery fn env)) ∨
      (op = 2 ∧ c = .peerDestroy fn) → s.rdmReady fn 2 op = true →
    exec c s = .next ((s.rdmAccept fn).rdmDone fn 3 (s.rdmIndex fn) 0)) ∧
  (∀ (s : State) fn op (c : Instr), fn ≠ 0 → (∃ env, (op = 0 ∧ c = .groupCreate fn env) ∨ (op = 3 ∧ c = .groupQuery fn env)) ∨
      (op = 2 ∧ c = .groupDestroy fn) → s.rdmReady fn 3 op = true →
    exec c s = .next ((s.rdmAccept fn).rdmDone fn 3 (s.rdmIndex fn) 0)) ∧
  (∀ (s : State) env s1 bs, let i := s.rdmIndex 0
    s.rdmReady 0 2 0 = true → (s.rdmAccept 0).readFor env 0 (s.rdmAddr 0) 64 = (s1, .ok bs) → i < 4096 → s1.peer? i = none →
    bit (wordAt (wordsOf 8 bs) 0) 0 = true → exec (.peerCreate 0 env) s = .next ((s1.setPeer i
      { state := if bit (wordAt (wordsOf 8 bs) 0) 1 then 5 else 1, words := (wordsOf 8 bs).take 6 }).rdmDone 0 0 i 0)) ∧
  (∀ (s : State) env p, let i := s.rdmIndex 0
    s.peer? i = some p →
    (s.rdmReady 0 2 2 = true → exec (.peerDestroy 0) s =
      .next ((let t := ((s.rdmAccept 0).setPeer i { p with state := 0, cur := 0, prev := 0, caps := 0 }).peerLost i 0x400
        { t with rdm := { t.rdm with peers := Tbl.del i t.rdm.peers } } : State).rdmDone 0 0 i 0)) ∧
    (∀ s1, s.rdmReady 0 2 3 = true → (s.rdmAccept 0).writeFor env 0 (s.rdmAddr 0)
        (bytesOfWords (p.words ++ [0, BitVec.ofNat 64 p.serial])) = (s1, .ok ()) →
      exec (.peerQuery 0 env) s = .next (s1.rdmDone 0 0 i 0))) ∧
  (∀ (s : State) env s1 bs s2 lb, let i := s.rdmIndex 0
    let b := wordsOf 8 bs
    let n := field (wordAt b 0) 12 0
    let rank := field (wordAt b 0) 27 16
    let l := groupsOf 2 n lb
    let g : Group := { words := b, fn := field (wordAt b 0) 39 32, issuer := 0, n := n, rank := rank
                       tc := field (wordAt b 0) 30 28, peers := l }
    s.rdmReady 0 3 0 = true → (s.rdmAccept 0).readFor env 0 (s.rdmAddr 0) 64 = (s1, .ok bs) → i < 64 →
    s1.groupInvalid b = false → s1.flag F.RDM_MEM_EN 0 = true → s1.group? i = none →
    s1.readFor env 0 (field (wordAt b 1) 47 0) (2 * n) = (s2, .ok lb) →
    (s2.membersInvalid rank l = true → exec (.groupCreate 0 env) s = .next (s2.rdmDone 0 2 i 0)) ∧
    (s2.membersInvalid rank l = false → exec (.groupCreate 0 env) s = .next (((List.range n).foldl (fun t r =>
      if r = rank then t
      else (t.setQp (internalQp i r) (freshInternal g i r (t.peerRate (l.getD r 0)) t.tb.time)).touchQp (internalQp i r))
      (s2.setGroup i g)).rdmDone 0 0 i 0))) ∧
  (∀ (s : State) env g, let i := s.rdmIndex 0
    s.group? i = some g →
    (s.rdmReady 0 3 2 = true → g.op = none → exec (.groupDestroy 0) s =
      .next ((let t := (List.range g.n).foldl (fun t r => if r = g.rank then t else t.dropQp (internalQp i r)) (s.rdmAccept 0)
        { t with rdm := { t.rdm with groups := Tbl.del i t.rdm.groups } } : State).rdmDone 0 0 i 0)) ∧
    (∀ s1, s.rdmReady 0 3 3 = true → (s.rdmAccept 0).writeFor env 0 (s.rdmAddr 0) (bytesOfWords g.words) = (s1, .ok ()) →
      exec (.groupQuery 0 env) s = .next (s1.rdmDone 0 0 i 0)))

/-- R324, R450 to R453, R456, R459: work requests are accepted in the order of their ring; a failed check ends one and its
queue pair; posted receives free their slots. Rests on the model's own choices and readings in log entries 78, 92 and 181. -/
def Obligations.WorkRequests : Prop :=
  (∀ (s : State) n env op y q x (mk : Nat → Env → Instr) (bad : List Word → Bool) (mkw : List Word → Wqe),
    (op = 0 ∧ mk = .rdmaSend ∧ bad = wqBad false 3 ∧ mkw = wqSend false) ∨
    (op = 1 ∧ mk = .sendImm ∧ bad = wqBad true 3 ∧ mkw = wqSend true) ∨
    (op = 2 ∧ mk = .rdmaWrite ∧ bad = wqBadRemote false ∧ mkw = wqRemote .write false) ∨
    (op = 3 ∧ mk = .writeImm ∧ bad = wqBadRemote true ∧ mkw = wqRemote .write true) ∨
    (op = 4 ∧ mk = .rdmaRead ∧ bad = wqBadRemote false ∧ mkw = wqRemote .read false) ∨
    (op = 5 ∧ mk = .tsend ∧ bad = (fun ws => wqBad false 6 ws || wordAt ws 3 != 0 || wordAt ws 4 != 0) ∧
      mkw = (fun ws => { wqSend false ws with tag := some (wordAt ws 5) })) →
    s.wqAt n op = some y → s.qpOfSq y.ring = some (q, x) →
    (s.wqTaken q n = true → exec (mk n env) s = .next (s.pump env q)) ∧
    (s.wqTaken q n = false → s.wqFirst q y = true →
      (x.state = 4 → exec (mk n env) s = .next (s.slotDone n 0x402 (causeWord 0x10))) ∧
      (x.state = 3 → (x.raw = true ∨ bad y.words = true) → exec (mk n env) s = .next (s.wqFail n q 8 0x10)) ∧
      (∀ p, x.state = 3 → x.raw = false → bad y.words = false → s.domain 20 = .ready → s.peer? x.peer = some p →
        (p.state = 4 → exec (mk n env) s = .next (s.wqFail n q 7 0x401)) ∧
        (p.state ≠ 4 → p.up = false → exec (mk n env) s = .next (s.wqFail n q 7 0x400)) ∧
        (p.up = true → (op = 5 → bit (s.sharedCaps p) 3 = true) → let w := mkw y.words
          let ok := s.checkClause x.fn (decide (op = 4)) w.addr w.len
          (∀ st, ok = .fail st → exec (mk n env) s = .next ((s.refuse x.fn st).wqFail n q 6 st)) ∧
          (ok = .ok () → exec (mk n env) s = .next ((((s.openRanges n y [(w.addr, w.len)]).touchQp q).pushWqe q { w with
            slot := some n, fence := c0Fence (wordAt y.words 0), n := packets w.len x.mtuBytes }).pump env q)))) ∧
      (x.state = 3 → x.raw = false → bad y.words = false → s.domain 20 = .off →
        exec (mk n env) s = .next (s.wqFail n q 6 0x101)))) ∧
  (∀ (s : State) n env y q x s1 b, let port := s.fld F.SCH_FN_MAP_RAW_PORT x.fn
    let len := field (wordAt y.words 2) 13 0
    s.wqAt n 6 = some y → s.qpOfSq y.ring = some (q, x) → s.wqTaken q n = false → s.wqFirst q y = true → x.state = 3 →
    x.raw = true → field (wordAt y.words 1) 63 48 = 0 → field (wordAt y.words 2) 63 14 = 0 → zeroFrom y.words 3 = true →
    60 ≤ len → len + 4 ≤ s.fld F.NET_PORT_CTL_MAX_FRAME port → s.domain 20 = .ready →
    s.queueRoom (s.subOf x.fn q) x.tc port = true → c0Fence (wordAt y.words 0) = false →
    s.readFor env x.fn (wordAt y.words 1) len = (s1, .ok b) → exec (.frame n env) s = .next ((s1.touchQp q).enqueue
      ⟨.qp q, s.subOf x.fn q, x.tc, port, len + 4, none, b, none, some n, none⟩)) ∧
  (∀ (s : State) n op y q x rest (mk : Nat → Instr) tag, let ws := y.words
    (op = 0x10 ∧ mk = .recv ∧ wqBad false 3 ws = false ∧ tag = none) ∨
    (op = 0x11 ∧ mk = .trecv ∧ field (wordAt ws 1) 63 48 = 0 ∧ field (wordAt ws 2) 63 31 = 0 ∧ wordAt ws 3 = 0 ∧
      wordAt ws 4 = 0 ∧ field (wordAt ws 7) 63 48 = 0 ∧ x.raw = false ∧ tag = some (wordAt ws 5, wordAt ws 6, wordAt ws 7)) →
    s.wqAt n op = some y → s.qpsOfRq y.ring = (q, x) :: rest →
    (s.ringSlots y.ring).all (fun z => !idxBefore z.2.idx y.idx || decide (z.2.phase ≠ .dispatched)) = true →
    let v : PostedRecv := ⟨y.ring, wordAt ws 0, y.fgen, wordAt ws 1, field (wordAt ws 2) 30 0, tag, false,
      s.fld F.MEM_FN_FENCE_EPOCH y.fn⟩
    (rest = [] → x.state = 4 → exec (mk n) s = .next (s.slotDone n 0x402 (causeWord 0x10))) ∧
    ((rest ≠ [] ∨ x.state ≠ 4) →
      let fails (t : State) (st : Nat) : State := s.qpsOfRq y.ring |>.foldl (fun t z => t.qpError z.1 6 none 0) (t.slotDone n st 0)
      (s.domain 20 = .off → exec (mk n) s = .next (fails s 0x101)) ∧
      (s.domain 20 = .ready → s.recvRoom x.raw y.ring = true →
        (∀ st, s.checkClauses y.fn true v.ranges = .fail st → exec (mk n) s = .next (fails (s.refuse y.fn st) st)) ∧
        (s.checkClauses y.fn true v.ranges = .ok () →
          (x.raw = true → Leads (mk n) s (fun t =>
            t.slot? n = none ∧ t.rdm = { s.rdm with rawRecvs := s.rdm.rawRecvs ++ [v] } ∧ t.regs = s.regs)) ∧
          (x.raw = false → exec (mk n) s = .next ((s.releaseSlot n).setRecvs (s.rdm.recvs ++ [v])))))))

/-- R442, R455 to R464, R466, R469: what a queue pair does with packets and acknowledgements that arrive, and with its timers.
Rests on the model's own choices and readings in log entries 78, 92, 93, 182 and 183. -/
def Obligations.RdmaPackets : Prop :=
  (∀ (s : State) c i rest, s.rdm.inbox = i :: rest → (2 ^ 20 ≤ i.pkt.qpn ∨ (s.withInbox rest).qp? i.pkt.qpn = none) →
    (∃ env, (isAck i.pkt.body = true ∧ c = .ackReceive env) ∨ (isData i.pkt.body = true ∧ c = .rcPacketReceive env) ∨
      (∃ n, i.pkt.body = .grant n) ∧ c = .creditGrantReceive env) ∨ (i.pkt.body = .cnp ∧ c = .cnpReceive) ∨
      ((∃ n, i.pkt.body = .creditReq n) ∧ c = .creditRequestReceive) →
    exec c s = .next ((s.withInbox rest).inc F.RDM_GLB_STAT_BADQP_CNT 0)) ∧
  (∀ (s : State) env i rest x, s.arrives i rest x → x.state = 3 →
    let q := i.pkt.qpn
    let s0 := s.withInbox rest
    let d := psnSub i.pkt.psn (x.base % 2 ^ 24)
    let e := x.base + d
    let who := (x.wqeAt e).bind (fun w => w.slot)
    (isAck i.pkt.body = true → x.next - x.base ≤ d → exec (.ackReceive env) s = .next s0) ∧
    (d < x.next - x.base →
      (i.pkt.body = .ack → exec (.ackReceive env) s = .next (((s0.touchQp q).advance q (x.ackLimit (e + 1))).pump env q)) ∧
      (i.pkt.body = .nakSeq →
        exec (.ackReceive env) s = .next (((s0.touchQp q).advance q (x.ackLimit e)).resend env q false)) ∧
      (i.pkt.body = .nakAccess →
        exec (.ackReceive env) s = .next (((s0.touchQp q).advance q (x.ackLimit e)).qpError q 3 who 0x402)) ∧
      (i.pkt.body = .nakOp →
        exec (.ackReceive env) s = .next (((s0.touchQp q).advance q (x.ackLimit e)).qpError q 4 who 0x402)))) ∧
  (∀ (s : State) q e x, s.qp? q = some x → x.base < e → x.group = none → s.ckp.job = none → s.ckp.serving = none →
    (∀ w ∈ x.wqes, w.slot = none ∨ e < w.psn + w.n) →
    (s.advance q e).qp? q = some { x with
      base := e, sendAt := max x.sendAt e, wqes := x.wqes.filter (fun w => decide (e < w.psn + w.n)), progress := s.tb.time
      retries := 0, expiries := 0, rnrs := 0 }) ∧
  (∀ (s : State) env q x, s.qp? q = some x → x.state = 3 → x.base < x.next → x.rnrUntil = none →
    let due := x.progress + x.rtoUs * 1000 * 2 ^ min 7 x.expiries
    (due ≤ s.tb.time → x.retryCnt ≤ x.retries → exec (.retransmitTimeout q env) s =
      .next ((s.touchQp q).qpError q 1 x.headSlot 0x402)) ∧
    (due ≤ s.tb.time → x.retries < x.retryCnt → exec (.retransmitTimeout q env) s =
      .next (((s.touchQp q).setQp q { x with sendAt := x.base, retries := x.retries + 1
                                             expiries := x.expiries + 1 }).pump env q)) ∧
    (s.tb.time < due → exec (.retransmitTimeout q env) s = .next s)) ∧
  (∀ (s : State) env q x t, s.qp? q = some x → x.rnrUntil = some t →
    (t ≤ s.tb.time → exec (.rnrWaitExpiry q env) s = .next (((s.touchQp q).setQp q { x with
      rnrUntil := none, sendAt := x.base, progress := s.tb.time }).pump env q)) ∧
    (s.tb.time < t → exec (.rnrWaitExpiry q env) s = .next s)) ∧
  (∀ (s : State) q x, s.qp? q = some x →
    (0 < x.unacked → x.unackedAt + 4000 ≤ s.tb.time → exec (.ackDelayExpiry q) s = .next ((s.touchQp q).ackNow q)) ∧
    ((x.unacked = 0 ∨ s.tb.time < x.unackedAt + 4000) → exec (.ackDelayExpiry q) s = .next s)) ∧
  (∀ (s : State) env i rest x, s.arrives i rest x → i.ecn ≠ 3 → isData i.pkt.body = true →
    let q := i.pkt.qpn
    let s1 := (s.withInbox rest).touchQp q
    let d := psnSub i.pkt.psn x.exp
    (∀ l b, i.pkt.body = .readResp l b → ∀ t, s1.readData env q x i.pkt.psn b = some t →
      exec (.rcPacketReceive env) s = .next t) ∧
    ((∀ l b, i.pkt.body ≠ .readResp l b) →
      (d = 0 → ∀ s2, 
        (∀ n, s1.takeBody env q x i.pkt.body x.exp = (s2, .ok n) →
          exec (.rcPacketReceive env) s = .next (s2.accepted q n i).settleWaits) ∧
        (s1.takeBody env q x i.pkt.body x.exp = (s2, .rnr) → exec (.rcPacketReceive env) s = .next (s2.qpCtl q x.exp .rnr)) ∧
        (s1.takeBody env q x i.pkt.body x.exp = (s2, .nakAccess) →
          exec (.rcPacketReceive env) s = .next (s2.qpCtl q x.exp .nakAccess)) ∧
        (s1.takeBody env q x i.pkt.body x.exp = (s2, .nakOp) →
          exec (.rcPacketReceive env) s = .next (s2.qpCtl q x.exp .nakOp))) ∧
      (0 < d → d < 2 ^ 23 →
        (x.nakSent = true → exec (.rcPacketReceive env) s = .next s1) ∧
        (x.nakSent = false → exec (.rcPacketReceive env) s =
          .next ((s1.setQp q { x with nakSent := true }).qpCtl q x.exp .nakSeq))) ∧
      (2 ^ 23 ≤ d → (∀ a b c, i.pkt.body ≠ .readReq a b c) → exec (.rcPacketReceive env) s = .next (s1.ackNow q)) ∧
      (2 ^ 23 ≤ d → ∀ off rkey len r a s2, i.pkt.body = .readReq off rkey len →
        s1.regionCheck env x false off rkey len = (s2, .ok (r, a)) → exec (.rcPacketReceive env) s = .next (s2.setQp q
          { x with jobs := x.jobs ++ [⟨i.pkt.psn, r, a, len, s.fld F.MEM_FN_FENCE_EPOCH x.fn⟩] }))))

/-- R465 to R468, R472 to R475: congestion control by marks and by credit; peers found, lost and left. Rests on the model's
own choices and readings in log entries 95 and 184. -/
def Obligations.CongestionAndPeers : Prop :=
  (∀ (s : State) i rest x, s.arrives i rest x → i.pkt.body = .cnp → s.ccMode x = 1 →
    let g := s.fld F.RDM_TC_CFG_G x.tc
    exec .cnpReceive s = .next (((s.withInbox rest).touchQp i.pkt.qpn).setQp i.pkt.qpn { x with
      rt := x.rc, rc := max (s.fld F.RDM_TC_RATE_RATE_MIN_MBPS x.tc * 16) (x.rc * (2 ^ 65 - x.alpha) / 2 ^ 65)
      alpha := x.alpha * (2 ^ g - 1) / 2 ^ g + 2 ^ 64 / 2 ^ g, steps := 0, alphaAt := s.tb.time, rateAt := s.tb.time
      sentBytes := 0 })) ∧
  (∀ (s : State) q x, s.qp? q = some x → x.state = 3 → s.ccMode x = 1 →
    let g := s.fld F.RDM_TC_CFG_G x.tc
    let fast := s.fld F.RDM_TC_CFG_FAST_STEPS x.tc
    (x.alphaAt + s.fld F.RDM_TC_CFG_ALPHA_US x.tc * 1000 ≤ s.tb.time → exec (.alphaTimer q) s =
      .next ((s.touchQp q).setQp q { x with alpha := x.alpha * (2 ^ g - 1) / 2 ^ g, alphaAt := s.tb.time })) ∧
    (s.tb.time < x.alphaAt + s.fld F.RDM_TC_CFG_ALPHA_US x.tc * 1000 → exec (.alphaTimer q) s = .next s) ∧
    ((x.rateAt + s.fld F.RDM_TC_RATE_INC_US x.tc * 1000 ≤ s.tb.time ∨
        s.fld F.RDM_TC_CFG_INC_KIB x.tc * 1024 ≤ x.sentBytes) → ∃ rt,
      (x.steps + 1 ≤ fast → rt = min x.rt (s.peerRate x.peer)) ∧
      (fast < x.steps + 1 → x.steps + 1 ≤ 2 * fast →
        rt = min (x.rt + s.fld F.RDM_TC_RATE_AI_MBPS x.tc * 16) (s.peerRate x.peer)) ∧
      (2 * fast < x.steps + 1 → rt = min (x.rt + s.fld F.RDM_TC_RATE_HAI_MBPS x.tc * 16) (s.peerRate x.peer)) ∧
      exec (.rateIncrease q) s = .next ((s.touchQp q).setQp q { x with
        steps := x.steps + 1, rt := rt, rc := (rt + x.rc) / 2, rateAt := s.tb.time, sentBytes := 0 }))) ∧
  (∀ (s : State) i rest x n, s.arrives i rest x → i.pkt.body = .creditReq n → let s0 := s.withInbox rest
    Leads .creditRequestReceive s (fun t => (⟨i.pkt.qpn, n⟩ ∈ t.rdm.asks) ∧ (∀ a ∈ t.rdm.asks, a.qp = i.pkt.qpn → a.bytes = n) ∧
    (∀ a, a.qp ≠ i.pkt.qpn → (a ∈ t.rdm.asks ↔ a ∈ s0.rdm.asks)) ∧
    t = { s0 with rdm := { s0.rdm with asks := t.rdm.asks } })) ∧
  (∀ (s : State) port tc a, s.rdm.asks.find? (fun a => decide (s.qpPortTc a.qp = (port, tc))) = some a →
    let used := sumOf ((s.rdm.outs.filter (fun o => decide (s.qpPortTc o.qp = (port, tc)))).map (fun o => o.left))
    let g := min (min a.bytes (s.fld F.RDM_TC_CRED_WINDOW_KIB tc * 1024 - used)) (s.fld F.RDM_TC_CRED_GRANT_KIB tc * 1024)
    (g = 0 → exec (.creditGrant port tc) s = .next s) ∧
    (0 < g → used + g ≤ s.fld F.RDM_TC_CRED_WINDOW_KIB tc * 1024 ∧ exec (.creditGrant port tc) s =
      .next (({ s with rdm := { s.rdm with
        asks := if a.bytes ≤ g then s.rdm.asks.erase a else s.rdm.asks.erase a ++ [⟨a.qp, a.bytes - g⟩]
        outs := s.rdm.outs ++ [⟨a.qp, g, s.tb.time⟩] } } : State).qpCtl a.qp 0 (.grant g)))) ∧
  (∀ (s : State) env i rest x n, s.arrives i rest x → i.pkt.body = .grant n → exec (.creditGrantReceive env) s =
    .next (((s.withInbox rest).setQp i.pkt.qpn { x with
      credit := x.credit ++ [(n, s.tb.time)], reqAt := none }).pump env i.pkt.qpn)) ∧
  (∀ (s : State) env q x, s.qp? q = some x → let life := s.fld F.RDM_TC_CRED_LIFE_US x.tc * 1000
    let kept := x.credit.filter (fun c => decide (s.tb.time < c.2 + life))
    ((x.reqAt = none ∨ ∃ t, x.reqAt = some t ∧ s.tb.time < t + life) →
      exec (.creditExpiry q env) s = .next (s.setQp q { x with credit := kept })) ∧
    (∀ t, x.reqAt = some t → t + life ≤ s.tb.time →
      exec (.creditExpiry q env) s = .next ((s.setQp q { x with credit := kept, reqAt := none }).pump env q))) ∧
  (∀ (s : State), Leads .creditReturn s (fun t => (∀ o, o ∈ t.rdm.outs ↔ o ∈ s.rdm.outs ∧
      s.tb.time < o.time + 2 * s.fld F.RDM_TC_CRED_LIFE_US (s.qpPortTc o.qp).2 * 1000) ∧
    t = { s with rdm := { s.rdm with outs := t.rdm.outs } })) ∧
  (∀ (s : State), s.flag F.RDM_DISC_CTL_EN 0 = true →
    s.rdm.lastHello + s.fld F.RDM_DISC_CTL_HELLO_MS 0 * 1000000 ≤ s.tb.time → bit (s.fld F.FUM_FUSE_HELD_HELD 0) 16 = false →
    s.domOn 20 = true → exec .helloSend s = .next (s.rdm.peers.foldl
      (fun t p => if p.2.foreign then t else t.sendHello p.1 p.2 false)
      { s with rdm := { s.rdm with lastHello := s.tb.time } })) ∧
  (∀ (s : State) i rest n p serial cur prev caps echo leave, s.rdm.inbox = i :: rest → i.pkt.qpn = 0 →
    i.pkt.body = .hello serial cur prev caps echo leave →
    s.rdm.peers.find? (fun p => !p.2.foreign && decide (p.2.ip = i.srcIp)) = some (n, p) →
    let s0 := s.withInbox rest
    let p1 : Peer := { p with serial := serial, cur := cur, prev := prev, caps := caps, lastHeard := s.tb.time }
    (leave = true → p.state = 2 → exec .helloReceive s = .next (s0.peerDown n p1)) ∧
    (leave = false → (p.state = 1 ∨ p.state = 3) → echo = s.serial →
      (withinStep s.versions (cur, prev) = true → exec .helloReceive s = .next (s.rdm.groups.foldl (fun t g => t.reviveGroup g.1)
        ((s0.setPeer n { p1 with state := 2 }).postEvent {} 0 0x8002 (BitVec.ofNat 64 n) 0))) ∧
      (withinStep s.versions (cur, prev) = false → exec .helloReceive s =
        .next (((s0.setPeer n { p1 with state := 4 }).peerLost n 0x401).postEvent {} 0 0x8004 (BitVec.ofNat 64 n) 0))) ∧
    (leave = false → (p.state = 2 ∨ echo ≠ s.serial) → exec .helloReceive s = .next (s0.setPeer n p1))) ∧
  (∀ (s : State) i rest serial cur prev caps echo leave, s.rdm.inbox = i :: rest → i.pkt.qpn = 0 →
    i.pkt.body = .hello serial cur prev caps echo leave →
    s.rdm.peers.find? (fun p => !p.2.foreign && decide (p.2.ip = i.srcIp)) = none →
    exec .helloReceive s = .next ((s.withInbox rest).inc F.RDM_GLB_STAT_UNKNOWN_CNT 0)) ∧
  (∀ (s : State) n p, s.peer? n = some p → p.state = 2 →
    (p.lastHeard + s.fld F.RDM_DISC_CTL_DEAD_MS 0 * 1000000 ≤ s.tb.time → exec (.peerDeadTimeout n) s =
      .next (((s.setPeer n { p with state := 3 }).peerLost n 0x400).postEvent {} 0 0x8003 (BitVec.ofNat 64 n) 0)) ∧
    (s.tb.time < p.lastHeard + s.fld F.RDM_DISC_CTL_DEAD_MS 0 * 1000000 → exec (.peerDeadTimeout n) s = .next s)) ∧
  (∀ (s0 : State) who v, isVf who = false → let s := s0.touch who
    let t := s.writeWhole [F.RDM_DISC_CTL_GSI_QP, F.RDM_DISC_CTL_DEAD_MS, F.RDM_DISC_CTL_HELLO_MS, F.RDM_DISC_CTL_EN] v.toNat
    (s.flag F.RDM_DISC_CTL_EN 0 = true → t.flag F.RDM_DISC_CTL_EN 0 = false →
      exec (.discoveryDisable who v) s0 = .next t.sendLeaves) ∧
    ((s.flag F.RDM_DISC_CTL_EN 0 = false ∨ t.flag F.RDM_DISC_CTL_EN 0 = true) →
      exec (.discoveryDisable who v) s0 = .next t)) ∧
  (∀ a b : Nat × Nat, withinStep a b = withinStep b a)

/-- R324, R478 to R484: a collective starts once its checks hold and its group is free, and ends with its last chunk; a failed
check, a timeout and a notice end it with their causes. Rests on the model's own choices and readings in log entries 96 and
186. -/
def Obligations.Collectives : Prop :=
  (∀ (s : State) n env op y x (mk : Nat → Env → Instr),
    (op = 0 ∧ mk = .reduceScatter) ∨ (op = 1 ∧ mk = .allGather) ∨ (op = 2 ∧ mk = .allReduce) ∨ (op = 3 ∧ mk = .broadcast) ∨
      (op = 4 ∧ mk = .allToAll) →
    s.clauseAt n 4 op = some y → let a := collArgs y.words
    (s.domain 20 = .off → y.progress = none → (s.group? a.group).all (fun x => decide (x.op.map (fun o => o.slot) ≠ some n)) = true →
      exec (mk n env) s = .next (s.slotDone n 0x101 0)) ∧
    (s.domain 20 = .ready → s.group? a.group = none → exec (mk n env) s = .next (s.slotDone n 0x10 0)) ∧
    (s.group? a.group = some x → (∀ o, x.op = some o → o.slot ≠ n) →
      (s.domain 20 = .ready → (x.fn ≠ y.fn ∨ collBad y.words x.n = true) → exec (mk n env) s = .next (s.slotDone n 0x10 0)) ∧
      (x.fn = y.fn → collBad y.words x.n = false → ∀ s1,
        ((y.progress = none ∧ s.domain 20 = .ready ∧
          ((a.ranges x).1.2 ≠ 0 → s.checkClause y.fn false (a.ranges x).1.1 (a.ranges x).1.2 = .ok ()) ∧
          s.checkClause y.fn true (a.ranges x).2.1 (a.ranges x).2.2 = .ok () ∧
          s1 = s.openRanges n y ([(a.ranges x).1, (a.ranges x).2].filter (fun p => decide (p.2 ≠ 0)))) ∨
         (y.progress ≠ none ∧ s1 = s)) →
        (∀ st, s.collPeers a x = st → st ≠ 0 → exec (mk n env) s = .next (s1.slotDone n st 0)) ∧
        (s.collPeers a x = 0 → x.op.isSome = true → exec (mk n env) s = .next s1) ∧
        (s.collPeers a x = 0 → x.op = none →
          s.rng.slots.any (fun z => decide (z.2.phase = .dispatched ∧ z.2.seq < y.seq) &&
            decide ((s.ring z.2.ring).typ = .clause) && c0Class (wordAt z.2.words 0) == 4 &&
            (collArgs z.2.words).group == a.group) = false →
          let o : CollOp := { slot := n, seq := x.seq % 65536, version := s1.collVersion x, started := y.since, phase := 0 }
          let s2 := (s1.setGroup a.group { x with op := some o, seq := x.seq + 1 }).spoil (field (wordAt x.words 2) 47 0)
            (field (wordAt x.words 3) 39 0)
          ∀ s3,
          (s2.collBegin env a.group x o a y.fn = (s3, .ok ()) → exec (mk n env) s = .next (s3.collCheck a.group)) ∧
          (∀ st, s2.collBegin env a.group x o a y.fn = (s3, .fail st) →
            exec (mk n env) s = .next (s3.collMemFail a.group x o st)))))) ∧
  (∀ (s : State) g x o y, s.group? g = some x → x.op = some o → s.slot? o.slot = some y →
    (collArgs y.words).outChunks x.n ≤ o.written → s.collSent g x o.seq = true →
    s.collCheck g = (s.setGroup g { x with op := none }).slotDone o.slot 0 (BitVec.ofNat 64 o.sent)) ∧
  (∀ (s : State) g x o cause rank, s.group? g = some x → x.op = some o →
    s.collFail g cause rank false = (s.spoilDst o x.n).collEnd g 0x403 (BitVec.ofNat 64 (cause * 2 ^ 56 + rank)) ∧
    s.collFail g cause rank true = ((s.abortNotices g x o.seq cause rank).spoilDst o x.n).collEnd g 0x403
      (BitVec.ofNat 64 (cause * 2 ^ 56 + rank))) ∧
  (∀ (s : State) g x o y, s.group? g = some x → x.op = some o → s.slot? o.slot = some y →
    let t := (collArgs y.words).timeout
    (t ≠ 0 → o.started + t * 1000 ≤ s.tb.time → exec (.collectiveTimeout g) s = .next (s.collFail g 3 x.rank true)) ∧
    ((t = 0 ∨ s.tb.time < o.started + t * 1000) → exec (.collectiveTimeout g) s = .next s)) ∧
  (∀ (s : State) i rest x g r y o seq cause rank, s.arrives i rest x → i.pkt.body = .abort seq cause rank →
    x.group = some (g, r) → (s.withInbox rest).group? g = some y → y.op = some o →
    (o.seq = seq → exec .abortNoticeReceive s = .next ((s.withInbox rest).collFail g cause rank false)) ∧
    (o.seq ≠ seq → exec .abortNoticeReceive s = .next (s.withInbox rest)))

/-- R106, R545, R554 to R557, R565: a checkpoint is armed once every check holds, in their order; a warning is sampled every
second; the first barrier with a step boundary is the cut, which sends OPEN once the activity runs; the engine that fails a
checkpoint is free again. Rests on the model's own choices and readings in log entries 101, 102 and 179. -/
def Obligations.CheckpointArming : Prop :=
  (∀ (s : State) slot env x s1, s.clauseAt slot 6 0 = some x → s.ckp.job.any (fun j => decide (j.slot = some slot)) = false →
    s.ckp.waits.find? (fun j => decide (j.slot = some slot)) = none →
    let a := wordAt x.words 1
    let c := wordAt x.words 2
    let a1 := if a = 0 then s.fld F.CKP_LIST_ADDR 0 * 64 else a
    let n := if a = 0 then s.fld F.CKP_LIST_COUNT 0 else c
    ((x.fn ≠ s.buddyFn ∨ n = 0 ∨ 96 < n) → exec (.arm slot env) s = .next (s.slotDone slot 0x10 0)) ∧
    (x.fn = s.buddyFn → a < 2 ^ 48 → a % 64 = 0 → c < 128 → zeroFrom x.words 3 = true → 0 < n → n ≤ 96 →
      (s.domain 27 = .off → exec (.arm slot env) s = .next (s.slotDone slot 0x101 0)) ∧
      (s.domain 27 = .ready →
        (∀ st, s.ckList env a1 n = (s1, .fail st) → exec (.arm slot env) s = .next (s1.slotDone slot st 0)) ∧
        (∀ rs, s.ckList env a1 n = (s1, .ok rs) →
          let j := s1.ckJob (some slot) rs
          ((s1.ckIdle = true ∨ s1.warned = true) → exec (.arm slot env) s = .next (s1.ckArm j)) ∧
          (s1.ckIdle = false → s1.warned = false → s1.ckp.waits.any (fun w => decide (w.slot = some slot)) = false →
            exec (.arm slot env) s = .next (s1.withCkp { s1.ckp with waits := s1.ckp.waits ++ [j] })))))) ∧
  (∀ (s : State) slot env x j, s.clauseAt slot 6 0 = some x → s.ckp.job.any (fun j => decide (j.slot = some slot)) = false →
    s.ckp.waits.find? (fun j => decide (j.slot = some slot)) = some j →
    ((s.ckIdle = true ∨ s.warned = true) → exec (.arm slot env) s = .next (s.ckArm j)) ∧
    (s.ckIdle = false → s.warned = false → exec (.arm slot env) s = .next s)) ∧
  (∀ (s : State) env a n s1 b, s.readFor env s.buddyFn a (n * 32) = (s1, .ok b) →
    let es := (List.range n).map (fun i => slice b (32 * i) 32)
    let rs := ckPlace 0 (es.map ckEntry)
    ((es.any (ckEntryBad s) = true ∨ ckOverlap rs = true) → s.ckList env a n = (s1, .fail 0x10)) ∧
    (es.any (ckEntryBad s) = false → ckOverlap rs = false → s1.ckAccess false rs = .ok () →
      (∀ st, s1.lanesFail = some st → s.ckList env a n = (s1, .fail st)) ∧
      (s1.lanesFail = none → s.ckList env a n = (s1, .ok rs)))) ∧
  (∀ (s : State), (s.flag (F.CKP_PAIR_EN.at 0) 0 = false ∨ (∃ q ∈ s.lanes, s.laneBad q = true)) → s.lanesFail = some 0x600) ∧
  (∀ (s : State) q x p, s.flag (F.CKP_PAIR_EN.at 0) 0 = true → (∀ k, 1 ≤ k → k < 8 → s.flag (F.CKP_PAIR_EN.at k) 0 = false) →
    q = s.fld (F.CKP_PAIR_QP.at 0) 0 → s.qp? q = some x → s.peer? x.peer = some p → x.raw = false → x.fn = s.buddyFn →
    x.state = 3 → x.mtu = 5 →
    (p.state = 2 → s.lanesFail = none) ∧ (p.state = 4 → s.lanesFail = some 0x401) ∧
    (p.state ≠ 2 → p.state ≠ 4 → p.state ≠ 5 → s.lanesFail = some 0x400)) ∧
  (∀ off r t, ckPlace off (r :: t) = { r with stored := off } :: ckPlace (alignUp (off + r.storedLen) 64) t) ∧
  (∀ (s : State) env, (s.ckp.lastSample + 1000000000 ≤ s.tb.time → s.domain 27 = .ready → exec (.triggerSample env) s =
      .next ((List.range 16).foldl (State.trigSample env) (s.withCkp { s.ckp with lastSample := s.tb.time }))) ∧
    (s.tb.time < s.ckp.lastSample + 1000000000 → exec (.triggerSample env) s = .next s)) ∧
  (∀ (s : State) env k w, s.flag F.CKP_TRIG_VALID k = true → Tbl.find? k s.ckp.trigs = some w →
    let c := s.sinterCount (s.fld F.CKP_TRIG_CODE k)
    let put (t : State) := t.withCkp { t.ckp with trigs := Tbl.set k ⟨s.tb.time, c⟩ t.ckp.trigs }
    let req (no : Nat) := s.postEvent env s.buddyFn 0xB001 (BitVec.ofNat 64 (k + s.fld F.CKP_TRIG_CODE k * 2 ^ 16 + no * 2 ^ 63)) 0
    (c < w.count + s.fld F.CKP_TRIG_THRESH k →
      (s.tb.time < w.start + s.fld F.CKP_TRIG_WINDOW_S k * 1000000000 → s.trigSample env k = s) ∧
      (w.start + s.fld F.CKP_TRIG_WINDOW_S k * 1000000000 ≤ s.tb.time → s.trigSample env k = put s)) ∧
    (w.count + s.fld F.CKP_TRIG_THRESH k ≤ c →
      (∀ j, s.ckp.job = some j → s.trigSample env k = put (s.inc F.CKP_CNT_MERGED_CNT 0)) ∧
      (s.ckp.job = none → (s.ckIdle = false ∨ s.fld F.CKP_LIST_COUNT 0 = 0 ∨ s.flag (F.CKP_PAIR_EN.at 0) 0 = false) →
        s.trigSample env k = put (req 1)))) ∧
  (∀ (s : State) ring h, s.ckHolds ring = false → s.heldAt ring 7 2 = some h → barrierBad h = false → h.mis = false →
    let rs := (s.barrierReady (s.ring ring).fn (barrierId h)).take (barrierN h)
    barrierN h ≤ (s.barrierReady (s.ring ring).fn (barrierId h)).length → s.cutsHere (s.ring ring).fn rs = true →
    exec (.barrier ring) s = .next (((s.withCkp { s.ckp with
      job := s.ckp.job.map (fun j => { j with rings := rs, step := wordAt h.words 2 }) }).setCkState 2).ckKick)) ∧
  (∀ (s : State) ring j, s.ckp.job = some j → ring ∈ j.rings → exec (.barrier ring) s = .next s.ckKick ∧
    (j.bytes = 0 → s.ckJoin.maintRuns .checkpoint 0 = true → s.ckKick = s.ckJoin.sendOpen j) ∧
    (j.bytes = 0 → s.ckJoin.maintRuns .checkpoint 0 = false → s.ckKick = s.ckJoin) ∧ (j.bytes ≠ 0 → s.ckKick = s)) ∧
  (∀ (s : State) st cause, (s.ckp.job = none → s.ckFail st cause = s) ∧ (s.ckFail st cause).ckp.job = none) ∧
  (∀ (s : State) j, s.ckp.job = some j → s.fld F.CKP_STAT_STATE 0 = 2 → j.bytes ≠ 0 →
    (s.ckFail 0x600 2).ckp.restore = none →
    (j.since + s.fld F.CKP_CTL_OPEN_MS 0 * 1000000 ≤ s.tb.time → exec .openTimeout s = .next (s.ckFail 0x600 2))) ∧
  (∀ (s : State) r, s.ckp.job = none → s.ckp.restore = some r → r.header = none → r.dead = false →
    (r.since + s.fld F.CKP_CTL_OPEN_MS 0 * 1000000 ≤ s.tb.time →
      exec .openTimeout s = .next (s.restoreEnd 0x600 (BitVec.ofNat 64 (2 * 2 ^ 56)))) ∧
    (s.tb.time < r.since + s.fld F.CKP_CTL_OPEN_MS 0 * 1000000 → exec .openTimeout s = .next s))

/-- R333, R547, R549, R550, R560 to R563, R565: the messages of a transfer, at the sender and at the holder. Rests on the
model's own choices and readings in log entries 100, 103, 107 and 142. -/
def Obligations.CheckpointTransfer : Prop :=
  (∀ (s : State) q fmt step n lanes table rest, s.ckGets q (.openReq fmt step n lanes table) rest →
    let s0 := s.withCkInbox rest
    let s1 := s.ckJoin
    ((s.buddySize = 0 ∨ ∀ k, k < 8 → s.flag (F.CKP_PARTNER_EN.at k) 0 = false) →
      exec .openMsg s = .next (s0.ckSay q (.refuse 1))) ∧
    (s.buddySize ≠ 0 → (∃ k, k < 8 ∧ s.flag (F.CKP_PARTNER_EN.at k) 0 = true) →
      (s.buddySize / 2 < 0x1000 + n → exec .openMsg s = .next (s0.ckSay q (.refuse 2))) ∧
      (0x1000 + n ≤ s.buddySize / 2 →
        (s.ckChoose = none → exec .openMsg s = .next s) ∧
        (∀ k, s.ckChoose = some k → s1.maintRuns .checkpoint 0 = false → exec .openMsg s = .next s1) ∧
        (∀ k, s.ckChoose = some k → s1.maintRuns .checkpoint 0 = true →
          (∀ st, s1.checkRange s.buddyFn true true (s.ckSlotBase k) (0x1000 + n) = .fail st →
            exec .openMsg s = .next (((s1.withCkp s0.ckp).refuse s.buddyFn st).ckSettle)) ∧
          (s1.checkRange s.buddyFn true true (s.ckSlotBase k) (0x1000 + n) = .ok () →
          let a := s.ckSlotBase k
          let h := ckNewHeader fmt (ckEntries table) (s.qpSerial q) step (max (s.ckWriteNo 0) (s.ckWriteNo 1) + 1) table
          let s2 := (((s1.withCkp s0.ckp).devWrite a h).spoil (a + 0x20) 17).spoil (a + 0x40) 64
          exec .openMsg s = .next (((s2.withCkp { s2.ckp with
            recv := some ⟨k, n, lanes, List.replicate lanes crc64.init, false, s.fld F.MEM_FN_FENCE_EPOCH s.buddyFn⟩ }).setFlag
              F.CKP_STAT_RECEIVING 0 true).ckSay q (.accept k))))))) ∧
  (∀ (s : State), s.ckReading 0 = false → s.ckReading 1 = false →
    (s.ckSlotState 0 ≠ 2 → s.ckChoose = some 0) ∧
    (s.ckSlotState 0 = 2 → s.ckSlotState 1 ≠ 2 → s.ckChoose = some 1) ∧
    (s.ckSlotState 0 = 2 → s.ckSlotState 1 = 2 → ∃ k, s.ckChoose = some k ∧ k < 2 ∧
      s.ckWriteNo k ≤ s.ckWriteNo (1 - k))) ∧
  (∀ (s : State) q k j rest, s.ckGets q (.accept k) rest → s.ckp.job = some j →
    (s.fld F.CKP_STAT_STATE 0 ≠ 2 → exec .accept s = .next (s.withCkInbox rest)) ∧
    (s.fld F.CKP_STAT_STATE 0 = 2 → j.bytes ≠ 0 → exec .accept s = .next ((s.lanes.zipIdx.foldl (fun t x =>
      let n := lanePackets x.2 j.lanes j.bytes
      if n = 0 then t
      else t.pushWqe x.1 { slot := none, kind := .ckData (some j.regions) x.2 j.lanes k j.bytes, n := n })
      (s.withCkp { s.ckp with
        inbox := rest, job := some { j with target := k, crcs := List.replicate j.lanes crc64.init } })).setCkState 3))) ∧
  (∀ (s : State) q r rest, s.ckGets q (.refuse r) rest → let s0 := s.withCkInbox rest
    (s.fld F.CKP_STAT_STATE 0 = 2 → r = 2 → exec .refuse s = .next (s0.ckFail 0x601 0)) ∧
    (s.fld F.CKP_STAT_STATE 0 = 2 → r ≠ 2 → exec .refuse s = .next (s0.ckFail 0x600 1)) ∧
    (s.fld F.CKP_STAT_STATE 0 ≠ 2 → exec .refuse s = .next s0)) ∧
  (∀ (s : State) q slot off b rest r, s.ckGets q (.data slot off b) rest → s.ckp.recv = some r → s.ckPartner q = true →
    r.slot = slot → off + b.length ≤ r.bytes →
    s.rangeHeld (s.ckSlotBase r.slot + 0x1000 + off) b.length = false →
    exec .dataMsg s = .next ((s.withCkInbox rest).ckStore r off b)) ∧
  (∀ (s : State) q slot off b rest r h, s.ckGets q (.data slot off b) rest → s.ckp.recv = none → s.ckp.restore = some r →
    r.header = some h → let n := leAt h 0x30 1
    exec .dataMsg s = .next ((s.withCkp { s.ckp with
      inbox := rest, restore := some { r with got := r.got ++ [(off, b)] } }).snoop 27
        (if n = 0 then 0 else off / 65536 % n) b)) ∧
  (∀ (s : State) q h rest r, s.ckGets q (.header h) rest → s.ckp.restore = some r → r.dead = false →
    s.ckAccess true (ckRegions h) ≠ .wait → let s0 := s.withCkInbox rest
    let fmt := leAt h 4 2
    (fmt ≠ s.versions.1 → fmt + 1 ≠ s.versions.1 → exec .dataMsg s = .next (s0.restoreDrop r 0x603)) ∧
    ((fmt = s.versions.1 ∨ fmt + 1 = s.versions.1) → s0.ckAccess true (ckRegions h) = .ok () →
      exec .dataMsg s = .next (s0.withCkp { s0.ckp with restore := some { r with
        header := some h, regions := ckRegions h, epoch := s.fld F.MEM_FN_FENCE_EPOCH s.buddyFn } })) ∧
    (∀ st, (fmt = s.versions.1 ∨ fmt + 1 = s.versions.1) → s0.ckAccess true (ckRegions h) = .fail st →
      exec .dataMsg s = .next ((s0.refuse s.buddyFn st).restoreDrop r st))) ∧
  (∀ (s : State) env q crcs rest r, s.ckGets q (.seal crcs) rest → s.ckp.recv = some r →
    let a := s.ckSlotBase r.slot
    s.rangeHeld a 128 = false → let h := s.devRead a 128
    let h1 := h.take 0x20 ++ toBytes 8 r.bytes ++ toBytes 8 s.tb.time ++ toBytes 1 r.lanes ++ slice h 0x31 15 ++
      crcs.flatMap (toBytes 8) ++ List.replicate (64 - 8 * crcs.length) 0
    let s1 := (s.withCkp { s.ckp with inbox := rest, recv := none }).setFlag F.CKP_STAT_RECEIVING 0 false
    (r.crcs.map (crcFinal crc64) = crcs → r.bad = false → exec (.sealMsg env) s = .next
      (((((s1.devWrite a h1).devWrite a (h1.take 6 ++ [(2 : Byte)] ++ slice h1 7 57)).postEvent env s.buddyFn 0xB004
        (BitVec.ofNat 64 (r.slot + leAt h 0x10 4 * 2 ^ 32)) 0).ckSay q (.sealed 0)).ckSettle)) ∧
    ((r.crcs.map (crcFinal crc64) ≠ crcs ∨ r.bad = true) → exec (.sealMsg env) s = .next (s1.ckSay q (.sealed 1)).ckSettle)) ∧
  (∀ (s : State) env q c rest j, s.ckGets q (.sealed c) rest → s.ckp.job = some j → s.fld F.CKP_STAT_STATE 0 = 4 →
    let s0 := s.withCkInbox rest
    let s1 := ((s0.inc F.CKP_CNT_SEALED_CNT 0).setFld F.CKP_STAT_STEP 0 j.step).setCkState 0
    let s2 := s1.withCkp { s1.ckp with job := none }
    (c ≠ 0 → exec (.sealed env) s = .next (s0.ckFail 0x602 0)) ∧
    (∀ n, c = 0 → j.slot = some n → exec (.sealed env) s = .next (s2.slotDone n 0 (BitVec.ofNat 64 j.step)).ckSettle) ∧
    (c = 0 → j.slot = none → exec (.sealed env) s =
      .next (s2.postEvent env s.buddyFn 0xB002 (BitVec.ofNat 64 j.step) 0).ckSettle)) ∧
  (∀ (s : State), let n := s.fld F.MEM_BUDDY_CTL_SIZE_GIB 0
    let s1 := s.setFlag F.MEM_BUDDY_CTL_APPLY 0 false
    (s.flag F.MEM_BUDDY_CTL_APPLY 0 = true → s.ckp.transfers = true → exec .buddyApply s =
      .next (({ s1 with mem := { s1.mem with buddyWait := some n } } : State).setFlag F.MEM_BUDDY_STAT_WAITING 0 true)) ∧
    (s.flag F.MEM_BUDDY_CTL_APPLY 0 = true → s.ckp.transfers = false → exec .buddyApply s = .next (s1.buddySet n)) ∧
    (s.flag F.MEM_BUDDY_CTL_APPLY 0 = false → exec .buddyApply s = .next s))

/-- R553, R561, R562, R567, R568: a RESTORE fetches, checks and writes back a copy; an EXPORT copies a slot. Rests on the
model's own choices and readings in log entries 102, 104, 106 and 108. -/
def Obligations.CheckpointRestore : Prop :=
  (∀ (s : State) slot x, s.clauseAt slot 6 1 = some x → s.ckp.restore.any (fun r => r.slot == slot && !r.dead) = false →
    let w (i : Nat) := wordAt x.words i
    ((x.fn ≠ s.buddyFn ∨ 3 ≤ w 1) → exec (.restore slot) s = .next (s.slotDone slot 0x10 0)) ∧
    (x.fn = s.buddyFn → w 1 < 3 → zeroFrom x.words 4 = true → x.progress = none → s.domain 27 = .off →
      exec (.restore slot) s = .next (s.slotDone slot 0x101 0)) ∧
    (x.fn = s.buddyFn → w 1 < 3 → zeroFrom x.words 4 = true → (x.progress ≠ none ∨ s.domain 27 = .ready) →
      (∀ st, s.lanesFail = some st → exec (.restore slot) s = .next (s.slotDone slot st 0)) ∧
      (s.lanesFail = none → (s.ckIdle = false ∨ s.ckp.restore.isSome = true) → exec (.restore slot) s =
        .next (s.openRanges slot x [])) ∧
      (s.lanesFail = none → s.ckIdle = true → s.ckp.restore = none → let t := s.ckJoin
        (t.maintRuns .checkpoint 0 = false → exec (.restore slot) s = .next t) ∧
        (t.maintRuns .checkpoint 0 = true → exec (.restore slot) s = .next
          (((t.withCkp { t.ckp with restore := some { slot := slot, since := s.tb.time } }).setCkState 5).ckSay
            (s.lanes.headD 0) (.fetch (w 1) (w 2) (w 3))))))) ∧
  (∀ (s : State) env q sel serial step rest, s.ckGets q (.fetch sel serial step) rest → s.ckp.serving = none →
    let s0 := s.withCkInbox rest
    let pick := s.ckSelect sel (if serial = 0 then s.qpSerial q else serial) step
    let s1 := s.ckJoin
    (pick = none → exec (.fetch env) s = .next (s0.ckSay q (.done 0x600))) ∧
    (∀ k, pick = some k → s1.maintRuns .checkpoint 0 = false → exec (.fetch env) s = .next s1) ∧
    (∀ k st, pick = some k → s1.maintRuns .checkpoint 0 = true →
      s.checkRange s.buddyFn false true (s.ckSlotBase k) (s.ckSlotLen k) = .fail st →
      exec (.fetch env) s = .next ((s1.withCkp s0.ckp).ckSay q (.done st)).ckSettle) ∧
    (∀ k s3 h, pick = some k → s1.maintRuns .checkpoint 0 = true →
      s.checkRange s.buddyFn false true (s.ckSlotBase k) (s.ckSlotLen k) = .ok () →
      (s1.withCkp s0.ckp).readChecked env s.buddyFn (s.ckSlotBase k) 0x1000 = (s3, .ok h) →
      (∀ i, i < 8 → s.flag (F.CKP_PARTNER_EN.at i) 0 = false) → let m := lanePackets 0 1 (leAt h 0x20 8)
      let s4 := (s3.withCkp { s3.ckp with serving := some (k, q), servingEpoch := s.fld F.MEM_FN_FENCE_EPOCH s.buddyFn }).ckSay q
        (.header h)
      exec (.fetch env) s = .next (if m = 0 then s4
        else s4.pushWqe q { slot := none, kind := .ckData none 0 1 k (leAt h 0x20 8), n := m }))) ∧
  (∀ (s : State) sel serial step k, s.ckSelect sel serial step = some k → k < 2 ∧ (sel = 0 ∨ sel = k + 1) ∧ s.ckSlotState k = 2 ∧
    leAt (s.devRead (s.ckSlotBase k) 64) 8 8 = serial ∧
    (step = 0 ∨ leAt (s.devRead (s.ckSlotBase k) 64) 0x10 8 = step) ∧
    (∀ j, sel = 0 → s.ckSelect (j + 1) serial step = some j → s.ckWriteNo j ≤ s.ckWriteNo k)) ∧
  (∀ (s : State) env q st rest r, s.ckGets q (.done st) rest → s.ckp.restore = some r → let s0 := s.withCkInbox rest
    (r.header = none → st = 0x600 →
      exec (.doneMsg env) s = .next (s0.restoreEnd 0x600 (BitVec.ofNat 64 (3 * 2 ^ 56)))) ∧
    (∀ h, r.header = some h → r.dead = false → let rs := ckRegions h
      let m := ckAssemble (leAt h 0x20 8) r.got
      (st ≠ 0 → exec (.doneMsg env) s = .next ((s0.ckSpoil rs).restoreEnd st 0)) ∧
      (st = 0 → ckCrcsOk h m = false → exec (.doneMsg env) s = .next ((s0.ckSpoil rs).restoreEnd 0x602 0)) ∧
      (∀ s1, st = 0 → ckCrcsOk h m = true → s0.ckWriteBack env m rs = (s1, .ok ()) →
        exec (.doneMsg env) s = .next (s1.restoreEnd 0 (BitVec.ofNat 64 (leAt h 0x20 8)))))) ∧
  (∀ (s : State) slot env x, s.clauseAt slot 6 2 = some x → let k := wordAt x.words 1
    let dest := wordAt x.words 2
    let cap := wordAt x.words 3
    (s.ckp.exporting = some (slot, k) → s.maintRuns .checkpoint 0 = true →
      exec (.exportClause slot env) s = .next (s.ckExport env slot k dest cap)) ∧
    (s.ckp.exporting = none → (x.fn ≠ s.buddyFn ∨ 2 ≤ k) → exec (.exportClause slot env) s = .next (s.slotDone slot 0x10 0)) ∧
    (s.ckp.exporting = none → x.fn = s.buddyFn → k < 2 → dest < 2 ^ 48 → cap < 2 ^ 48 → zeroFrom x.words 4 = true →
      (x.progress = none → s.domain 27 = .off → exec (.exportClause slot env) s = .next (s.slotDone slot 0x101 0)) ∧
      (∀ st, x.progress = none → s.domain 27 = .ready → s.ckExportCheck x.fn k dest cap = .fail st →
        exec (.exportClause slot env) s = .next ((s.refuse x.fn st).slotDone slot st 0)) ∧
      (∀ s1, ((x.progress = none ∧ s.domain 27 = .ready ∧ s.ckExportCheck x.fn k dest cap = .ok () ∧
          s1 = s.openRanges slot x [(dest, cap)]) ∨ (x.progress ≠ none ∧ s1 = s)) →
        (s.ckIdle = false → exec (.exportClause slot env) s = .next s1) ∧
        (s.ckIdle = true → let t := s1.ckJoin
          (t.maintRuns .checkpoint 0 = false → exec (.exportClause slot env) s = .next t) ∧
          (t.maintRuns .checkpoint 0 = true → exec (.exportClause slot env) s =
            .next ((t.withCkp { t.ckp with exporting := some (slot, k) }).setCkState 6)))))) ∧
  (∀ (s : State) fn k dest cap, s.checkClause fn true dest cap = .ok () → s.buddySize ≠ 0 →
    s.ckExportCheck fn k dest cap = s.checkRange fn false true (s.ckSlotBase k) (s.ckSlotLen k)) ∧
  (∀ (s : State) env slot k dest cap,
    let fin (t : State) (st res : Nat) :=
      (((t.withCkp { t.ckp with exporting := none }).setCkState 0).slotDone slot st (BitVec.ofNat 64 res)).ckSettle
    (s.ckSlotState k ≠ 2 → s.ckExport env slot k dest cap = fin s 0x600 (3 * 2 ^ 56)) ∧
    (∀ s1 h, s.ckSlotState k = 2 → s.readChecked env s.buddyFn (s.ckSlotBase k) 0x1000 = (s1, .ok h) →
      let n := leAt h 0x20 8
      (leAt h 4 2 ≠ s.versions.1 → leAt h 4 2 + 1 ≠ s.versions.1 → s.ckExport env slot k dest cap = fin s1 0x603 0) ∧
      ((leAt h 4 2 = s.versions.1 ∨ leAt h 4 2 + 1 = s.versions.1) →
        (cap < 0x1000 + n → s.ckExport env slot k dest cap = fin s1 0x601 0) ∧
        (∀ s2 b, 0x1000 + n ≤ cap → s1.readChecked env s.buddyFn (s.ckSlotBase k + 0x1000) n = (s2, .ok b) →
          (ckCrcsOk h (Memory.writeList 0 b {}) = false → s.ckExport env slot k dest cap = fin s2 0x602 0) ∧
          (∀ s3, ckCrcsOk h (Memory.writeList 0 b {}) = true → s2.writeChecked env s.buddyFn dest (h ++ b) = (s3, .ok ()) →
            s.ckExport env slot k dest cap = fin s3 0 (0x1000 + n))))))

/-- R65, R571, R574, R584, R590, R606: what a fall of the always-on rail leaves, and what its rise does; the choice of an
image. Rests on the model's own choices and readings in log entries 125, 126, 143 and 195. -/
def Obligations.PowerOnAndImages : Prop :=
  (∀ (s : State), let kept := s.snt.stored.filter (fun r => decide (r.doneAt ≤ s.tb.time))
    let cut := s.snt.stored.find? (fun r => decide (s.tb.time < r.doneAt))
    Leads .powerLoss s (fun t => t.pending = s.pending ∧ t.fum.flash = s.fum.flash ∧
    t.fum.records = s.fum.records ∧ t.fum.fuses.a = s.fum.fuses.a ∧ t.fum.fuses.b = s.fum.fuses.b ∧
    t.snt.stored = kept.map (fun r => { r with doneAt := 0 }) ∧ t.snt.boots = s.snt.boots ∧ t.snt.buffer = [] ∧
    t.snt.circCap = s.snt.circCap ∧ t.snt.erases = s.snt.erases ∧ t.snt.spares = s.snt.spares ∧
    (∀ r, kept.getLast? = some r → t.snt.recs = r.recs ∧ (cut = none → t.snt.next = r.index + 1)) ∧
    (∀ r, cut = some r → t.snt.next = r.index ∧ t.snt.torn = some r.index) ∧
    t.mem.host = s.mem.host ∧ (∀ f j, t.fld f j = f.resetAt j) ∧ t.fum.powered = false ∧ t.tb = {} ∧ t.rng = {} ∧
    t.hep = {} ∧ t.tiles = [] ∧ t.mcores = [] ∧ t.sec = {} ∧ t.sto = {} ∧ t.net = {} ∧ t.rdm = {} ∧ t.ckp = {})) ∧
  (∀ (s : State) tj noise straps, let s0 := s.powerLost
    let s1 : State := { s0 with
      snt := { s0.snt with boots := s0.snt.boots + 1, torn := none }
      tb := { s0.tb with running := true, paceStart := (List.range 11).map (fun m => (m, 0)) }
      fum := { s0.fum with powered := true, perst := true, perstPin := true } }
    let s2 := ((s1.setFlag F.GLB_TB_STAT_LOCKED 0 true).setFld F.FUM_SMB_STAT_TARGET_ADDR 0 (0x60 + straps % 8)).setFld
      F.FUM_MBX_CTR_LAST 0 s.fum.records.counter
    ∀ s2', ((s0.snt.torn = none ∧ s2' = s2) ∨ ∃ i, s0.snt.torn = some i ∧ s2' = sinterEvent 0x326 (i % 2 ^ 32) s2) →
    let s3 := ((s2'.setFld F.SEC_STAT_EPOCH 0 s.fum.records.epoch).setFld F.FUM_PWR_STAT_TJ_C 0 tj).senseFuses tj noise
    exec (.powerOn tj noise straps) s = .next
      ((s3.setFld F.FUM_PWR_CAP_CAP_W 0 s3.fusedMaxW).setFld F.FUM_PWR_CAP_CAP_APPLIED_W 0 s3.fusedMaxW).bootImage) ∧
  (∀ (s : State) i, let p := s.fum.records.preferred
    let t := s.showBoot
    (s.fum.records.trial = false → t.fwCheck p = some i → s.bootImage = t.startImage p i) ∧
    (s.fum.records.trial = true → s.fum.records.tried = false → t.fwCheck p = some i →
      s.bootImage = (t.setBootRecord p true true).startImage p i) ∧
    (s.fum.records.trial = true → s.fum.records.tried = true → let u := s.setBootRecord (1 - p) false false
      u.fwCheck (1 - p) = some i → s.bootImage = u.startImage (1 - p) i) ∧
    (s.fum.records.trial = false → t.fwCheck p = none → let u := sinterEvent 0x301 p t
      (u.fwCheck (1 - p) = some i → s.bootImage = u.startImage (1 - p) i) ∧
      (u.fwCheck (1 - p) = none → s.bootImage = (sinterEvent 0x301 (1 - p) u).setStage 6))) ∧
  (∀ (s : State) k i, (s.startImage k i).fld F.FUM_BOOT_STAT_STAGE 0 = 3 ∧
    (s.startImage k i).fld F.FUM_BOOT_STAT_SVN 0 = i.svn % 2 ^ F.FUM_BOOT_STAT_SVN.width ∧
    (s.startImage k i).fum.image = i.digest ∧ (∀ c, c < 4 → (s.startImage k i).mcore c = startCore c i.digest)) ∧
  (∀ (s : State) k i, s.fwCheck k = some i →
    (∀ w, 6 ≤ w → w < 16 → s.fuseHeld w = false) ∧ s.rollback ≤ i.svn ∧
    (Config.sha384 (slice (s.fum.flash.readList (slotBase k) 512) 0x60 96)).toNat =
      sumOf ((List.range 6).map (fun j => s.fuseValue (6 + j) <<< (64 * j))) ∧
    pkgSigned (s.fum.flash.readList (slotBase k) 512) = true)

/-- R312, R585, R590, R592, R593, R636, R662, R663: while PERST# is asserted, or CORE_PG has fallen, every block outside the
always-on island is held at its initial state; when both are over, firmware trains and publishes the description table. Rests
on the model's own choices and readings in log entries 127, 128, 129, 189 and 194. -/
def Obligations.ResetOfTheBlocks : Prop :=
  (∀ (s : State), let t := s.outsideReset
    t.rng = {} ∧ t.hep = { lastRead := s.hep.lastRead } ∧ t.tiles = [] ∧ t.roles = [] ∧ t.gey = {} ∧ t.mem.host = s.mem.host ∧
    t.sto = {} ∧ t.sch = {} ∧ t.net = {} ∧ t.rdm = {} ∧ t.ckp = {} ∧ t.sec.slots = [] ∧ t.sec.sets = [] ∧ t.sec.signers = [] ∧
    t.sec.mbx = s.sec.mbx ∧ t.tb = s.tb ∧ t.fum = s.fum ∧ t.snt = s.snt ∧ t.vnt = s.vnt ∧ t.mcores = s.mcores ∧
    (∀ f j, f.lo < 64 → j < 65536 → (islandReg f.off = true → t.fld f j = s.fld f j) ∧
      (islandReg f.off = false → f.key j ∉ [F.SEC_STAT_EPOCH.key 0, F.SEC_STAT_OWNED.key 0, F.SEC_STAT_FUSE_HOLD.key 0,
        F.SEC_STAT_DEBUG.key 0, F.SEC_STAT_LOCKED.key 0] → t.fld f j = f.resetAt j))) ∧
  (∀ (s : State), s.fum.powered = true → let s0 : State := { s with fum := { s.fum with perstPin := true } }
    (s.fum.perst = true → exec .perstAssert s = .next s0) ∧
    (s.fum.perst = false →
      let s1 := ((s0.outsideReset.inc F.FUM_RST_STAT_PERST_CNT 0).setFld F.FUM_RST_STAT_LAST 0 1).pulseLine 4
      let s2 : State := { s1 with fum := { s1.fum with perst := true, perstSince := s1.tb.time } }
      exec .perstAssert s = .next (if s2.fwUp then s2.setStage 3 else s2))) ∧
  (∀ (s : State), s.fum.powered = true → let s0 : State := { s with fum := { s.fum with perstPin := false } }
    ((s.fum.perst = false ∨ s.fum.coreFell = true ∨ s.tb.thermtrip = true) → exec .perstDeassert s = .next s0) ∧
    (s.fum.perst = true → s.fum.coreFell = false → s.tb.thermtrip = false → exec .perstDeassert s =
      .next ((((({ s0 with fum := { s0.fum with perst := false, extest := false } } : State).setFlag F.FUM_RST_STAT_PERST_HELD 0
        false).zeroDev sharedBase (sharedEnd - sharedBase)).zeroDev tileBase (tileEnd - tileBase)).pulseLine 4).startTraining)) ∧
  (∀ (s : State), s.fld F.FUM_BOOT_STAT_STAGE 0 = 3 → s.fum.corePg = true → s.fum.perst = false →
    (∀ d, d < 8 → s.fuseHeld (21 + d) = false) →
    s.startTraining = ((s.setFld F.FUM_PD_REQ_ON 0 (2 ^ 29 - 1)).domainReq).setStage 4) ∧
  (∀ (s : State), (s.fum.perst = true → s.flag F.FUM_RST_STAT_PERST_HELD 0 = false → s.fum.perstSince + 1000000000 ≤ s.tb.time →
      exec .perstHeld s = .next ((sinterEvent 0x305 0 (s.setFlag F.FUM_RST_STAT_PERST_HELD 0 true)).sideSay .perstHeld)) ∧
    (s.tb.time < s.fum.perstSince + 1000000000 → exec .perstHeld s = .next s)) ∧
  (∀ (s : State), s.fum.powered = true → s.fum.corePg = false → s.fum.perst = true → s.fum.perstPin = true →
    exec .corePgRise s = .next ((((({ s with fum := { s.fum with corePg := true, coreFell := false } } : State).vcbSend 0 1
      780).vcbSend 1 1 780).setFld F.FUM_PWR_STAT_V_CD0_MV 0 780).setFld F.FUM_PWR_STAT_V_CD1_MV 0 780)) ∧
  (∀ (s : State), s.fum.powered = true → s.fum.corePg = true → Leads .corePgFall s (fun t => t.fum.corePg = false ∧
    t.fum.coreFell = true ∧ t.fum.perst = true ∧ t.fum.perstPin = s.fum.perstPin ∧ (s.fum.perst = false → t.rng = {} ∧ t.tiles = []))) ∧
  (∀ (s : State) pop gib, s.fld F.FUM_BOOT_STAT_STAGE 0 = 4 → s.fum.perst = false → pop < 256 → 16 ≤ gib → gib ≤ 128 →
    (∀ i, i < 8 → Tbl.has s.fum.waking (10 + i) = false) →
    let n := sumOf ((List.range 8).map (fun c => ofBit (bit pop c)))
    let s1 := ((s.setFld F.MEM_CAP_STAT_POPULATED 0 pop).setFld F.MEM_CAP_STAT_PER_CH_GIB 0 (if n = 0 then 0 else gib)).setFld
      F.MEM_CAP_STAT_INSTALLED_GIB 0 (n * gib)
    let s2 := ((s1.zeroDev 0 nearEnd).zeroDev capBase (s1.capEnd - capBase)).clearPoison (fun u => decide (u < 20))
    let s3 := (List.range 20).foldl (fun t u =>
      t.setUnit u { t.unit u with lastTrain := t.tb.time, trainTemp := (t.unit u).temp }) s2
    exec (.memoryInitDone pop gib) s = .next ((((({ s3 with hep := { s3.hep with ddt := s3.ddtFull } } : State).setFlag
      F.HEP_DEV_STAT_DDT_READY 0 true).setStage 5).setBootRecord s.fum.records.preferred false false).dimmsHot)) ∧
  (∀ (s : State) tj, s.fum.powered = true → s.tb.thermtrip = false →
    (tj < 120 → exec (.thermtrip tj) s = .next s) ∧
    (120 ≤ tj → let u := sinterFlush (sinterTake .thermtrip 0 s.setBytes (sinterRecord 0x307 tj s))
      Leads (.thermtrip tj) s (fun t => t.tb.thermtrip = true ∧ t.fum.perst = true ∧ t.rng = {} ∧ t.tiles = [] ∧
        (u.snt.notices = [] → t.snt = u.snt ∧ t.mem.host = s.mem.host))))

/-- R62, R591, R595, R596, R604, R607, R635, R637, R638: power failure, the watchdog, stuck buses and the voltage-control bus.
Rests on the model's own choices and readings in log entries 131, 132, 177, 190 and 194. -/
def Obligations.ManagementEvents : Prop :=
  (∀ (s : State), s.fum.powered = true → exec .pwrfail s =
    .next ((sinterFlush (sinterTake .pwrfail 0 s.setBytes s)).postNotices.pulseLine 9)) ∧
  (∀ (s : State), (sinterFlush s).snt.buffer = [] ∧ (sinterFlush s).snt.bufBytes = 0 ∧
    sinterFlush s = { s with snt := (sinterFlush s).snt }) ∧
  (∀ (s : State), s.flag F.FUM_WDT_CTL_KICK 0 = true → Leads .kick s (fun t => t.fum.lastKick = s.tb.time ∧
    t.flag F.FUM_WDT_CTL_KICK 0 = false)) ∧
  (∀ (s : State), s.fwUp = true → s.fum.lastKick + s.fld F.FUM_WDT_CTL_TIMEOUT_MS 0 * 1000000 ≤ s.tb.time →
    let s1 := (sinterEvent 0x300 0 s).inc F.FUM_RST_STAT_WDT_CNT 0
    let times := s.tb.time :: s.fum.restarts
    let s2 := ({ s1 with fum := { s1.fum with restarts := times, lastKick := s.tb.time } } : State).failRunning
    let recent := (times.filter (fun t => decide (s.tb.time < t + 600000000000))).length
    (8 ≤ recent → exec .watchdog s = .next (s2.stopCores.setStage 7)) ∧
    (recent < 8 → s2.fwCheck (s2.fld F.FUM_BOOT_STAT_RUNNING 0) = none → exec .watchdog s = .next (s2.stopCores.setStage 6)) ∧
    (∀ i, recent < 8 → s2.fwCheck (s2.fld F.FUM_BOOT_STAT_RUNNING 0) = some i →
      exec .watchdog s = .next (s2.startCores s2.fum.image))) ∧
  (∀ (s : State), s.fwUp = true → (∀ k, k < 4 → (s.mcore k).run ≠ .stopped) →
    s.tb.time < s.fum.lastKick + s.fld F.FUM_WDT_CTL_TIMEOUT_MS 0 * 1000000 → exec .watchdog s = .next s) ∧
  (∀ (s : State), s.fum.powered = true →
    let held (x : Option Nat) : State := { s with fum := { s.fum with smbLow := x } }
    (s.fum.smbLow = none → exec .smbusTargetTimeout s = .next (held (some s.tb.time))) ∧
    (∀ since, s.fum.smbLow = some since →
      (since + 35000000 ≤ s.tb.time → exec .smbusTargetTimeout s = .next ((held none).inc F.FUM_SMB_STAT_TARGET_TO_CNT 0)) ∧
      (s.tb.time < since + 35000000 → exec .smbusTargetTimeout s = .next s))) ∧
  (∀ (s : State) high, s.flag F.FUM_SMB_STAT_SENSOR_FAILED 0 = false →
    (s.fum.sdaLow = none → high = true → exec (.sensorBusStuck high) s = .next (s.inc F.FUM_SMB_STAT_RECOVER_CNT 0)) ∧
    (s.fum.sdaLow = none → high = false → Leads (.sensorBusStuck high) s (fun t => t.fum.sdaLow = some s.tb.time ∧
      t.regs = (s.inc F.FUM_SMB_STAT_RECOVER_CNT 0).regs)) ∧
    (∀ t0, s.fum.sdaLow = some t0 → high = false → t0 + 250000000 ≤ s.tb.time →
      let s1 := (s.setFlag F.FUM_SMB_STAT_SENSOR_FAILED 0 true).inc F.FUM_SMB_STAT_FAIL_CNT 0
      exec (.sensorBusStuck high) s =
        .next ((sinterEvent 0x306 0 { s1 with fum := { s1.fum with lastRetry := s.tb.time } }).pulseLine 8).dimmsHot) ∧
    (∀ t0, s.fum.sdaLow = some t0 → high = false → s.tb.time < t0 + 250000000 → exec (.sensorBusStuck high) s = .next s)) ∧
  (∀ (s : State) high, s.flag F.FUM_SMB_STAT_SENSOR_FAILED 0 = true → s.fum.lastRetry + 10000000000 ≤ s.tb.time →
    Leads (.sensorBusRetry high) s (fun t => t.fum.lastRetry = s.tb.time ∧
      t.flag F.FUM_SMB_STAT_SENSOR_FAILED 0 = !high)) ∧
  (∀ (s : State) a0 a1 tlm, (s.fum.corePg = true → s.tb.lastVcb + 10000 ≤ s.tb.time → exec (.vcbFrame (a0, a1) tlm) s =
      .next (tlm.zipIdx.foldl State.tlmRail
        ((({ s with tb := { s.tb with lastVcb := s.tb.time } } : State).vcbRail 0 a0).vcbRail 1 a1))) ∧
    (s.tb.time < s.tb.lastVcb + 10000 → exec (.vcbFrame (a0, a1) tlm) s = .next s)) ∧
  (∀ (s : State) rail w, bit w 0 = false → (s.vcbAnswer rail (some w)).tb.telemetry =
      ⟨s.tb.time, rail, field w 31 16, field w 15 6⟩ :: s.tb.telemetry.filter (fun x => decide (s.tb.time < x.time + 100000))) ∧
  (∀ (s : State) a i, ∃ l, (s.tlmRail (a, i)).tb.vcbSent = l :: s.tb.vcbSent ∧ l = (2, 2, i)) ∧
  (∀ (s : State) rail a, ∃ l, (s.vcbRail rail a).tb.vcbSent = l :: s.tb.vcbSent ∧
    (s.tb.emergency = true → l = (rail, 3, 600)) ∧ (s.tb.emergency = false → l = (rail, 1, s.fld (vField rail) 0))) ∧
  (∀ (s : State) rail w, Tbl.getD (s.vcbRail rail (some w)).tb.vcbMissed rail 0 = 0 ∧
    Tbl.getD (s.vcbRail rail none).tb.vcbMissed rail 0 = Tbl.getD s.tb.vcbMissed rail 0 + 1 ∧
    (bit w 0 = true → Tbl.getD (s.vcbRail rail (some w)).tb.railAlert rail false = true)) ∧
  (∀ (s : State) rail b, rail < 2 → Leads (.vcbAlert rail b) s (fun t => Tbl.getD t.tb.railAlert rail false = b ∧
    (b = false → t = { s with tb := { s.tb with railAlert := t.tb.railAlert } })))

/-- R577 to R583, R613 to R616: how a fuse word resolves, what a hold means, and what a CRC unit folds. Rests on the model's own
choices and readings in log entries 76 and 110. -/
def Obligations.FusesAndCrcUnits : Prop :=
  (∀ (s : State) tj noise, (s.maintRuns .fuseRead 0 = true → exec (.fuseRead tj noise) s =
      .next (((s.senseFuses tj noise).maintFinish .fuseRead 0).pulseLine 5)) ∧
    (s.maintRuns .fuseRead 0 = false → exec (.fuseRead tj noise) s = .next s)) ∧
  (∀ (a b : FuseSense), let r := fuseResolve a b
    let va := a.normal &&& fuseMask a.word
    let vb := b.normal &&& fuseMask a.word
    r.aDoubt = fuseDoubtful a ∧ r.bDoubt = fuseDoubtful b ∧
    (fuseDoubtful a = false → r.value = some va ∧ r.usedB = false ∧ r.flagged = false ∧
      (r.mismatch = true ↔ fuseDoubtful b = true ∨ va ≠ vb)) ∧
    (fuseDoubtful a = true → fuseDoubtful b = false → r.value = some vb ∧ r.usedB = true ∧ r.mismatch = false) ∧
    (fuseDoubtful a = true → fuseDoubtful b = true → r.usedB = false ∧ (r.flagged = true ↔ va = vb) ∧
      r.value = if va = vb then some va else none)) ∧
  (∀ (s : State) noise tj v w, v < 64 → w < 64 →
    (s.fuseHeld w = true → (s.senseWord noise tj v).fuseHeld w = true) ∧
    ((fuseResolve (s.senseOf noise 0 v) (s.senseOf noise 1 v)).value = none → (s.senseWord noise tj v).fuseHeld v = true) ∧
    ((s.senseWord noise tj v).fuseHeld v = true → (s.senseWord noise tj v).fuseValue v = 0)) ∧
  (∀ (s : State) w r held cross tj last, w < 64 →
    (fuseSecret w = true → (s.showFuse w r held cross tj last).fld F.FUM_FUSE_DATA_VALUE w = 0) ∧
    (held = true → (s.showFuse w r held cross tj last).fld F.FUM_FUSE_DATA_VALUE w = 0)) ∧
  (∀ (s : State), s.rollback ≤ 64 ∧ (s.fuseHeld 19 = true → s.rollback = 64)) ∧
  (∀ (s : State) u, u < 16 →
    (s.flag F.SNT_CRC_CFG_LOAD u = true → s.crcHost u = true → exec (.crcLoad u) s = .next ((s.setFlag F.SNT_CRC_CFG_LOAD u
      false).setFld F.SNT_CRC_VALUE_VALUE u (s.fld F.SNT_CRC_INIT_INIT u))) ∧
    (s.flag F.SNT_CRC_CFG_LOAD u = true → s.crcHost u = false → exec (.crcLoad u) s =
      .next (s.setFlag F.SNT_CRC_CFG_LOAD u false)) ∧
    (s.flag F.SNT_CRC_CFG_LOAD u = false → exec (.crcLoad u) s = .next s)) ∧
  (∀ (s : State) tap tag l u, u < 16 →
    (s.crcTaps tap tag u = true → (s.snoop tap tag l).fld F.SNT_CRC_VALUE_VALUE u =
      crcFold (s.crcModel u) (s.fld F.SNT_CRC_VALUE_VALUE u) l % 2 ^ 64) ∧
    (s.crcTaps tap tag u = false → (s.snoop tap tag l).fld F.SNT_CRC_VALUE_VALUE u = s.fld F.SNT_CRC_VALUE_VALUE u) ∧
    (s.flag F.SNT_CRC_CFG_EN u = false → s.crcTaps tap tag u = false)) ∧
  (∀ (m : CrcModel) v b, 0 < m.width → m.width ≤ 64 → m.poly < 2 ^ m.width → v < 2 ^ m.width →
    crcByte m v b < 2 ^ m.width)

/-- R587 to R589, R661, R662: requests for the switched power domains, their readiness, and their switching off. Rests on the
model's own choices and readings in log entries 114, 115 and 146. -/
def Obligations.PowerDomains : Prop :=
  (∀ (s : State) who v, (isVf who = false →
      exec (.domainRequest who v) s = .next ((s.touch who).writeWhole [F.FUM_PD_REQ_ON] v.toNat).domainReq) ∧
    (isVf who = true → exec (.domainRequest who v) s = .next s)) ∧
  (∀ d, d ∈ domClosure d ∧ ∀ e ∈ domClosure d, ∀ n ∈ domNeeds e, n ∈ domClosure d) ∧
  (∀ (s : State) d, d < 29 → bit (s.fld F.FUM_PD_REQ_ON 0) d = true → ∀ e ∈ domClosure d, e ∈ s.wanted) ∧
  (∀ (s : State) d, d < 29 →
    (s.sleepOne d).domain d = .off ∧
    (d < 8 → s.fuseHeld (21 + d) = true → s.wakeOne d = s) ∧
    ((8 ≤ d ∨ s.fuseHeld (21 + d) = false) →
      (bit (s.fld F.FUM_PD_STAT_ON 0) d = true → (s.wakeOne d).domain d = .ready) ∧
      (bit (s.fld F.FUM_PD_STAT_ON 0) d = false → bit (s.fld F.FUM_PD_STAT_PENDING_OFF 0) d = false →
        (s.wakeOne d).domain d = .waking))) ∧
  (∀ (s : State) d t, Tbl.find? d s.fum.waking = some t →
    (t + domWakeUs d * 1000 ≤ s.tb.time → (∀ n ∈ domNeeds d, s.domain n = .ready) → exec (.domainReady d) s =
      .next ((({ s with fum := { s.fum with waking := Tbl.del d s.fum.waking } } : State).setDomain d true).domainUp d)) ∧
    ((s.tb.time < t + domWakeUs d * 1000 ∨ ∃ n ∈ domNeeds d, s.domain n ≠ .ready) → exec (.domainReady d) s = .next s)) ∧
  (∀ (s : State) d, d < 29 →
    (bit (s.fld F.FUM_PD_STAT_PENDING_OFF 0) d = true → s.offWhen d = true → s.neededOn d = false →
      exec (.domainSwitchOff d) s = .next (((s.domainDown d).setPendingOff d false).setDomain d false)) ∧
    ((bit (s.fld F.FUM_PD_STAT_PENDING_OFF 0) d = false ∨ s.offWhen d = false ∨ s.neededOn d = true) →
      exec (.domainSwitchOff d) s = .next s)) ∧
  (∀ (s : State) d e, e < 29 → d ∈ domNeeds e → (bit (s.fld F.FUM_PD_STAT_ON 0) e = true ∨ Tbl.has s.fum.waking e = true) →
    s.neededOn d = true) ∧
  (∀ (s : State), (s.domainDown 20).rdm = {} ∧ (s.domainDown 21).sch = {} ∧ (s.domainDown 25).rng = { counters := s.rng.counters } ∧
    (s.domainDown 22).sto.namespaces = s.sto.namespaces ∧ (s.domainDown 27).ckp = {} ∧ (s.domainDown 26).sec.slots = s.sec.slots ∧
    (s.domainDown 26).sec.log = [] ∧
    (∀ f j, f.lo < 64 → j < 65536 → (f.off < 0x800000 ∨ 0x900000 ≤ f.off) → (s.domainDown 20).fld f j = s.fld f j))

/-- R525, R527 to R529, R532, R537, R541, R544, R589, R594: the mailboxes, the order of the checks, the end of a command, and
SPDM. Rests on the model's own choices and readings in log entries 117, 123 and 190. -/
def Obligations.CriticalCommandChecks : Prop :=
  (∀ (s : State), (s.flag F.FUM_MBX_CTL_GO 0 = true → exec .mailboxGo s = .next
      ((((s.setFlag F.FUM_MBX_CTL_GO 0 false).setFlag F.FUM_MBX_STAT_BUSY 0 true).pulseLine 0).critPush s.mbxBytes false)) ∧
    (s.flag F.FUM_MBX_CTL_GO 0 = false → exec .mailboxGo s = .next s)) ∧
  (∀ (s : State) b side, s.sec.mbx = [] →
    (1 ≤ mOp b → mOp b ≤ 8 → (s.critPush b side).sec.mbx = [⟨b, side, false, 0⟩]) ∧
    ((mOp b = 0 ∨ 8 < mOp b) → (s.critPush b side).sec.mbx = [])) ∧
  (∀ (s : State) b payOk flashOk, let ok2 := s.fuseHeld 16 = false ∧ mSerial b = s.serialNo
    s.critCheck b false payOk flashOk = 0x02 ∧
    (¬ ok2 → s.critCheck b true payOk flashOk = 0x03) ∧
    (ok2 → s.noCmdKey (mOp b) = true → s.critCheck b true payOk flashOk = 0x04) ∧
    (ok2 → s.noCmdKey (mOp b) = false →
      (s.tagOk b = false → s.critCheck b true payOk flashOk = 0x05) ∧
      (s.tagOk b = true → mCounter b ≤ s.fum.records.counter → s.critCheck b true payOk flashOk = 0x06) ∧
      (s.tagOk b = true → s.fum.records.counter < mCounter b →
        ((mOp b = 3 ∨ mOp b = 6) → s.keyLocked = true → s.critCheck b true payOk flashOk = 0x08) ∧
        ((mOp b ≠ 3 ∧ mOp b ≠ 6) ∨ s.keyLocked = false → s.critCheck b true false flashOk = 0x07 ∧
          s.critCheck b true true false = 0x09 ∧ s.critCheck b true true true = 0)))) ∧
  (∀ (s : State) op, s.fum.records.cmdKey = none → (s.owned = true → s.noCmdKey op = true) ∧ (op ≠ 1 → s.noCmdKey op = true)) ∧
  (∀ (s : State) m, (s.critAccept m).fum.records.counter = mCounter m.bytes ∧
    (s.critAccept m).sec.mbx.head? = some { m with accepted := true, step := 1 }) ∧
  (∀ (s : State) m rest r resp, s.sec.mbx = m :: rest → m.sideband = false → let t := s.critPop r resp
    t.sec.mbx = rest ∧ t.fld F.FUM_MBX_STAT_RESULT 0 = r % 2 ^ F.FUM_MBX_STAT_RESULT.width ∧
    t.fld F.FUM_MBX_STAT_OPCODE 0 = mOp m.bytes % 2 ^ F.FUM_MBX_STAT_OPCODE.width ∧ t.flag F.FUM_MBX_STAT_DONE 0 = true ∧
    t.flag F.FUM_MBX_STAT_BUSY 0 = rest.any (fun x => !x.sideband) ∧
    (1 ≤ mOp m.bytes → mOp m.bytes ≤ 8 → t.snt = (sinterEvent (0x30F + mOp m.bytes) r s).snt)) ∧
  (∀ (s : State) reason, (s.lockKeys reason).sec.slots = [] ∧ (∀ i, i < 4 → (s.lockKeys reason).devSet i = {})) ∧
  (∀ (s : State) m, (s.fld F.FUM_BOOT_STAT_STAGE 0 < 3 → exec (.sidebandMctp m) s = .next (s.busMoved.pulseLine 1)) ∧
    (3 ≤ s.fld F.FUM_BOOT_STAT_STAGE 0 →
      (∀ bs, m = .control bs → exec (.sidebandMctp m) s = .next ((s.busMoved.pulseLine 1).sideSay (.control bs))) ∧
      (m = .status → exec (.sidebandMctp m) s = .next ((s.busMoved.pulseLine 1).sideSay s.statusAnswer)) ∧
      (∀ req, m = .spdm req → s.fwUp = true → exec (.sidebandMctp m) s = .next ((s.busMoved.pulseLine 1).spdmTake true req)) ∧
      (∀ bs, m = .mailbox bs → s.fwUp = true → bs.length = 4096 →
        exec (.sidebandMctp m) s = .next ((s.busMoved.pulseLine 1).critPush bs true)))) ∧
  (∀ (s : State) req, (s.fwUp = true → exec (.spdmRequest req) s = .next ((s.pulseLine 2).spdmTake false req)) ∧
    (s.fwUp = false → exec (.spdmRequest req) s = .next s)) ∧
  (∀ (s : State) side req, ((s.domain 26 = .ready ∨ s.sec.tenancy = true) → s.spdmTake side req = s.spdmReply side req) ∧
    (s.domain 26 ≠ .ready → s.sec.tenancy = false → s.spdmTake side req =
      ({ s with sec := { s.sec with spdmWait := s.sec.spdmWait ++ [(side, req)] } } : State).wake 26) ∧
    (s.spdmReply false req).sec.spdmOut = s.spdmResponse req :: s.sec.spdmOut ∧
    (s.sec.tenancy = true → s.spdmResponse req = [0x13, 0x7F, 0x03, 0]) ∧
    (s.sec.tenancy = false → spdmSupported (leAt req 1 1) = false → s.spdmResponse req = [0x13, 0x7F, 0x07, 0]))

/-- R529 to R534, R540, R575, R576, R582, R611, R619, R620: what each critical command does once it is accepted. Rests on the
model's own choices and readings in log entries 112, 113, 118, 119, 120, 121 and 124. -/
def Obligations.CriticalCommands : Prop :=
  (∀ (s : State) m flashOk actionOk, s.critIs 1 m → let k := s.openEnvelope m.bytes (mPay m.bytes) 48
    s.critRuns (.setCmdKey flashOk actionOk) m (mLen m.bytes == 176) k.isSome flashOk (fun t0 =>
      let t := t0.claim
      if actionOk then ({ t with fum := { t.fum with records := { t.fum.records with cmdKey := k } } } : State).critEnd 0 []
      else t.critEnd 0x0A [])) ∧
  (∀ (s : State) m env flashOk actionOk, s.critIs 2 m → let p := mPay m.bytes
    (m.accepted = false → s.critRuns (.fwUpdate env flashOk actionOk) m (mLen m.bytes == 16)
      (decide (leAt p 12 1 < 2 ∧ leAt p 12 1 ≠ s.fld F.FUM_BOOT_STAT_RUNNING 0 ∧ leAt p 8 4 ≤ 0xC00000)) flashOk
      (fun t => t.maintRequest .fwUpdate 0)) ∧
    (m.accepted = true → s.maintRuns .fwUpdate 0 = true → s.region (leAt p 0 6) = .host → ∀ s1 bs,
      s.readFor env 0 (leAt p 0 6) (leAt p 8 4) = (s1, .ok bs) → let s2 := (s1.writeSlot (leAt p 12 1) bs).showBoot
      (∀ i, actionOk = true → s2.fwCheck (leAt p 12 1) = some i → exec (.fwUpdate env flashOk actionOk) s =
        .next (((s2.setBootRecord (leAt p 12 1) true false).maintFinish .fwUpdate 0).critEnd 0 [])) ∧
      ((actionOk = false ∨ s2.fwCheck (leAt p 12 1) = none) → exec (.fwUpdate env flashOk actionOk) s =
        .next ((s2.maintFinish .fwUpdate 0).critEnd 0x0A [])))) ∧
  (∀ (s : State) m flashOk, s.critIs 3 m → let p := mPay m.bytes
    let k := leAt p 0 2
    let x := s.provKey m.bytes
    (leAt p 2 1 ≠ 2 → m.accepted = false → s.critRuns (.keyProvision flashOk) m (mLen m.bytes == 244)
      (decide (k < 1024 ∧ leAt p 2 1 < 2 ∧ (leAt p 2 1 = 0 → (s.keySlot k).loaded = false)) && x.isSome) flashOk (fun t =>
        if leAt p 2 1 = 0 then (t.setKeySlot k (x.getD {})).critEnd 0 [] else t.maintRequest .keyRotation 0)) ∧
    (leAt p 2 1 ≠ 2 → m.accepted = true → s.maintRuns .keyRotation 0 = true →
      (s.keyLocked = false → exec (.keyProvision flashOk) s =
        .next ((((s.revokeKey k).setKeySlot k (x.getD {})).maintFinish .keyRotation 0).critEnd 0 [])) ∧
      (s.keyLocked = true → exec (.keyProvision flashOk) s = .next ((s.maintFinish .keyRotation 0).critEnd 0x0A []))) ∧
    (leAt p 2 1 = 2 → let i := leAt p 0 1
      let v := bit (leAt p 1 1) 0
      s.critRuns (.keyProvisionSigner flashOk) m (mLen m.bytes == 52) (decide (i < 8)) flashOk (fun t =>
        let t1 : State := { t with sec := { t.sec with
          signers := if v then Tbl.set i (BitVec.ofNat 384 (leAt p 4 48)) t.sec.signers else Tbl.del i t.sec.signers } }
        (t1.setFld F.SEC_STAT_SIGNERS 0 (setField (t.fld F.SEC_STAT_SIGNERS 0) i i (ofBit v))).critEnd 0 []))) ∧
  (∀ (s : State) m flashOk, s.critIs 4 m → let p := mPay m.bytes
    let word (c : Instr) (w bits : Nat) (ok : Bool) :=
      (m.accepted = false → s.critRuns c m (mLen m.bytes == 16) ok flashOk (fun t =>
        (t.programFuse w bits).maintRequest .fuseRead 0)) ∧
      (m.accepted = true → s.maintState .fuseRead 0 = 0 →
        exec c s = .next (s.critEnd (if s.readsClean w bits then 0 else 0x0A) [])) ∧
      (m.accepted = true → s.maintState .fuseRead 0 ≠ 0 → exec c s = .next s)
    let now := s.fuseStored 0 (leAt p 1 1) ||| s.fuseStored 1 (leAt p 1 1)
    (leAt p 0 1 = 1 → word (.fuseProgramRollback flashOk) 19 (2 ^ min (leAt p 8 2) 64 - 1)
      (decide (s.fuseHeld 19 = false ∧ s.rollback < leAt p 8 2 ∧ leAt p 8 2 ≤ s.fld F.FUM_BOOT_STAT_SVN 0))) ∧
    (leAt p 0 1 = 2 → word (.fuseProgramOwner flashOk) (leAt p 1 1) (leAt p 8 8)
      (decide (29 ≤ leAt p 1 1 ∧ leAt p 1 1 ≤ 60 ∧ now &&& leAt p 8 8 = now))) ∧
    (leAt p 0 1 = 3 → word (.fuseProgramDebugDisable flashOk) 20 2 true)) ∧
  (∀ (s : State) w bits, ((s.programFuse w bits).fuseStored 0 w = s.fuseStored 0 w ||| bits) ∧
    ((s.programFuse w bits).fuseStored 1 w = s.fuseStored 1 w ||| bits)) ∧
  (∀ (s : State) m flashOk, s.critIs 5 m → let p := mPay m.bytes
    (leAt p 0 1 = 1 → m.accepted = false → s.critRuns (.debugUnlock flashOk) m (mLen m.bytes == 8) (!s.debugDisabled) flashOk
      (fun t => (({ t with sec := { t.sec with locked := true } } : State).lockKeys 1).debugOpen)) ∧
    (leAt p 0 1 = 1 → m.accepted = true → exec (.debugUnlock flashOk) s = .next s.debugOpen) ∧
    (leAt p 0 1 ≠ 1 → s.critRuns (.debugLock flashOk) m (mLen m.bytes == 8) (leAt p 0 1 == 0) flashOk (fun t =>
      let t1 := ((t.setFlag F.SEC_STAT_DEBUG 0 false).setFlag F.VNT_STAT_UNLOCKED 0 false).dropRegs 0xE00008 0xE00018
      ({ t1 with vnt := {} } : State).critEnd 0 []))) ∧
  (∀ (s : State), (s.sec.revs = [] → s.debugOpen = (sinterEvent 0x308 0 (((s.setFlag F.SEC_STAT_DEBUG 0 true).setFlag
      F.VNT_STAT_UNLOCKED 0 true).inc F.VNT_STAT_UNLOCK_CNT 0)).critEnd 0 []) ∧ (s.sec.revs ≠ [] → s.debugOpen = s)) ∧
  (∀ (s : State) m flashOk, s.critIs 6 m → let p := mPay m.bytes
    let i := leAt p 0 1
    let n := leAt p 1 1
    let own := leAt p 2 1
    let key := s.openEnvelope m.bytes (slice p (16 + 56 * n) 160) 32
    (n = 0 → s.critRuns (.setMembership flashOk) m (mLen m.bytes == 16) (decide (i < 4)) flashOk (fun t =>
      (t.setDevSet i {}).critEnd 0 [])) ∧
    (n ≠ 0 → s.critRuns (.setMembership flashOk) m (mLen m.bytes == 176 + 56 * n)
      (decide (i < 4) && (decide (2 ≤ n ∧ n ≤ 64 ∧ own < n ∧ (memberAt p own own).serial = s.serialNo ∧
        (memberAt p own own).hash = Config.deviceKeyHash s.deviceSecret) && key.isSome)) flashOk (fun t =>
      (t.setDevSet i { state := 1, id := leAt p 8 8, rank := own, members := (List.range n).map (memberAt p own)
                       key := key.getD [], nonce := none }).critEnd 0 []))) ∧
  (∀ (s : State) m flashOk, s.critIs 7 m →
    (m.accepted = false → s.critRuns (.tenancySwitch flashOk) m (mLen m.bytes == 8) true flashOk (fun t =>
      t.maintRequest .tenancy 0)) ∧
    (m.accepted = true → s.maintRuns .tenancy 0 = true →
      (m.step = 1 → exec (.tenancySwitch flashOk) s = .next (s.tenancyBegin.setFront { m with step := 2 })) ∧
      (m.step ≠ 1 → (∃ f, f < 256 ∧ s.flag F.HEP_FN_STAT_DRAINING f = true) → exec (.tenancySwitch flashOk) s = .next s) ∧
      (m.step ≠ 1 → (∀ f, f < 256 → s.flag F.HEP_FN_STAT_DRAINING f = false) →
        exec (.tenancySwitch flashOk) s = .next (s.tenancyEnd (leAt (mPay m.bytes) 0 8))))) ∧
  (∀ (s : State), let t := s.tenancyKeys
    t.sec.slots = [] ∧ (∀ i, i < 4 → t.devSet i = {}) ∧ t.sec.signers = [] ∧ t.sec.spi = [] ∧ t.sec.log = [] ∧ t.sec.run = 0 ∧
    t.fum.records.cmdKey = s.fum.records.cmdKey ∧ s.tenancyTables.sto.irt = [] ∧ s.tenancyTables.sto.cache = [] ∧
    s.tenancyTables.net.flows = [] ∧ s.tenancyTables.net.frags = []) ∧
  (∀ (s : State) m flashOk, s.critIs 8 m → s.critRuns (.sinterExportSign flashOk) m (mLen m.bytes == 32) true flashOk (fun t =>
    t.critEnd 0 (t.exportDigest ++ Config.ecdsaSign 0 t.deviceSecret
      (Config.sha384 (t.exportDigest ++ (mPay m.bytes).take 32)))))

/-- R520, R597, R604, R606, R608 to R610, R612, R617 to R619, R621, R622: Sinter's periodic sets and export, the wear of its
blocks, the firmware log ring, the vent pins, the JTAG instructions and the SPI table. Rests on the model's own choices and
readings in log entries 134, 135, 136, 137, 138, 192, 193, 194 and 195. -/
def Obligations.Observation : Prop :=
  (∀ (s : State) n, s.fum.powered = true → n ≤ 65536 → (s.snt.periods + 1) * 600000000000 ≤ s.tb.time →
    let again (x : Sinter) : State := { s with snt := { x with periods := x.periods + 1 } }
    let r : RecordSet := ⟨s.snt.next, .periodic, 0, s.tb.time, s.snt.boots, s.fum.records.epoch, s.snt.recs, n, false, 0⟩
    let taken := again { s.snt with buffer := s.snt.buffer ++ [r], bufBytes := s.snt.bufBytes + n, next := s.snt.next + 1 }
    (s.setTaken = false → (∀ x, s.snt.buffer.getLast? = some x → x.time ≠ s.tb.time ∨ x.boot ≠ s.snt.boots) →
      (s.snt.bufBytes + n < 8192 → exec (.periodicSnapshot n) s = .next taken.postNotices) ∧
      (8192 ≤ s.snt.bufBytes + n → exec (.periodicSnapshot n) s = .next (sinterFlush taken).postNotices)) ∧
    (s.setTaken = true → s.snt.bufBytes < 8192 → exec (.periodicSnapshot n) s = .next (again s.snt).postNotices)) ∧
  (∀ (s : State), s.snt.notices = [] → s.postNotices = s) ∧
  (∀ cap i l r, r ∈ heldSets cap i l ↔ r ∈ l ∧ (r.perm = true ∨ i < r.index + cap)) ∧
  (∀ (s : State) (r : RecordSet), (r.index < 4096 ∧ s.snt.permClosed = false ∧ s.snt.room true r.bytes = none ∧ s.snt.circBlocks ≤ 32 →
      (s.permGate r).snt.permClosed = true ∧
      s.permGate r = sinterRecord 0x327 r.index { s with snt := { s.snt with permClosed := true } }) ∧
    ((4096 ≤ r.index ∨ s.snt.permClosed = true ∨ s.snt.room true r.bytes ≠ none ∨ 32 < s.snt.circBlocks) → s.permGate r = s)) ∧
  (∀ (s : State) b, (s.retireNote b).snt.retired = s.snt.retired + 1 ∧
    (0 < s.snt.spares → (s.retireNote b).snt.circCap = s.snt.circCap ∧ (s.retireNote b).snt.degraded = s.snt.degraded) ∧
    (s.snt.spares = 0 → (s.retireNote b).snt.circCap = s.snt.circCap - 1 ∧ (s.retireNote b).snt.degraded = true ∧
      (s.retireNote b).snt.notices = s.snt.notices ++ [s.snt.circCap - 1])) ∧
  (∀ (s : State) b, Tbl.getD (s.eraseBlock b).snt.erases b 0 = Tbl.getD s.snt.erases b 0 + 1 ∧
    (100000 ≤ Tbl.getD s.snt.erases b 0 + 1 → (s.eraseBlock b).snt.retired = s.snt.retired + 1)) ∧
  (∀ (s : State) env, s.flag F.SNT_EXP_CMD_GO 0 = true → s.fwUp = true → let a := s.fld F.SNT_EXP_ADDR_ADDR 0 * 4096
    let first := s.fld F.SNT_EXP_CMD_FIRST 0
    let count := s.fld F.SNT_EXP_CMD_COUNT 0
    let s1 := s.setFlag F.SNT_EXP_CMD_GO 0 false
    ((s.region a ≠ .host ∨ count = 0) → exec (.sinterExport env) s = .next (s1.exportEnd 0 1)) ∧
    (∀ s2 n bad, s.region a = .host → count ≠ 0 →
      exportUnits env a 0 (s.snt.stored.filter (fun r => decide (first ≤ r.index ∧ r.index < first + count))) s1 =
        .ok (s2, n, bad) → exec (.sinterExport env) s = .next (s2.exportEnd n (if bad then 2 else 0)))) ∧
  (∀ (s : State) r, (s.exportUnit r).length = 131136) ∧
  (∀ (s : State) sev core trace id a0 a1 env, s.flag F.SNT_LOG_CFG_EN 0 = true → s.fwUp = true → sev < 4 → core < 4 →
    (trace = true → id < 256 ∧ bit (s.fld (F.SNT_TRACE_EN_EN.at (id / 64)) 0) (id % 64) = true) →
    s.region s.snt.logBase = .host → let hw := s.fld F.SNT_LOG_IDX_HW_IDX 0
    let full := (hw + 2 ^ 32 - s.fld F.SNT_LOG_IDX_SW_IDX 0) % 2 ^ 32 = s.logEntries
    let next (t : State) : State := { t with snt := { t.snt with logSeq := t.snt.logSeq + 1 } }
    (full → exec (.logEntryWrite sev core trace id a0 a1 env) s = .next (next s.logDrop)) ∧
    (∀ s1, ¬ full → s.writeFor env 0 (s.snt.logBase + 32 * (hw % s.logEntries)) (s.logBytes sev core trace id a0 a1) = (s1, .ok ()) →
      exec (.logEntryWrite sev core trace id a0 a1 env) s = .next (next (s1.setFld F.SNT_LOG_IDX_HW_IDX 0 (hw + 1))))) ∧
  (∀ (s : State) sev core id a0 a1 env, (s.flag F.SNT_LOG_CFG_EN 0 = false ∨
      bit (s.fld (F.SNT_TRACE_EN_EN.at (id / 64)) 0) (id % 64) = false) →
    exec (.logEntryWrite sev core true id a0 a1 env) s = .next s) ∧
  (∀ (s0 : State) who v, s0.ddtReady = true → isVf who = false → let s := s0.touch who
    let t := s.writeWhole [F.SNT_LOG_CFG_SIZE, F.SNT_LOG_CFG_EN] v.toNat
    (s.flag F.SNT_LOG_CFG_EN 0 = false → t.flag F.SNT_LOG_CFG_EN 0 = true → exec (.logRingEnable who v) s0 =
      .next { ((t.setFld F.SNT_LOG_IDX_HW_IDX 0 0).setFld F.SNT_LOG_IDX_SW_IDX 0 0) with
        snt := { t.snt with logBase := t.fld F.SNT_LOG_BASE_BASE 0 * 4096, logSize := t.fld F.SNT_LOG_CFG_SIZE 0, logSeq := 0 } }) ∧
    ((s.flag F.SNT_LOG_CFG_EN 0 = true ∨ t.flag F.SNT_LOG_CFG_EN 0 = false) → exec (.logRingEnable who v) s0 = .next t)) ∧
  (∀ (s : State) v, s.flag F.VNT_STAT_UNLOCKED 0 = true → s.flag F.VNT_CTL_EN 0 = true →
    s.vnt.lastSample + 4 * 2 ^ s.fld F.VNT_CTL_DIV 0 ≤ s.tb.time → Leads (.ventSample v) s (fun t =>
      t.vnt.pins = v % 65536 ∧ t.vnt.lastSample = s.tb.time ∧ (s.fld F.VNT_CTL_STROBE 0 = 0 → t.vnt.strobe = true) ∧
      (s.fld F.VNT_CTL_STROBE 0 = 1 → (t.vnt.strobe = true ↔ v % 65536 &&& s.fld F.VNT_MATCH_MASK 0 =
        s.fld F.VNT_MATCH_VALUE 0 &&& s.fld F.VNT_MATCH_MASK 0)) ∧ t = { s with vnt := t.vnt })) ∧
  (∀ (s : State) v, (s.flag F.VNT_STAT_UNLOCKED 0 = false ∨ s.flag F.VNT_CTL_EN 0 = false) → exec (.ventSample v) s = .next s) ∧
  (∀ (s : State) code g, s.fum.powered = true →
    exec .vstatus s = .next (s.jtagOut (.status s.statusAnswer)) ∧
    (code < 1024 → exec (.vsinter code) s = .next (s.jtagOut (.record (recordWords (Tbl.getD s.snt.recs code {}))))) ∧
    (s.flag F.VNT_STAT_UNLOCKED 0 = true → exec (.vgroup g) s = .next (s.setFld F.VNT_CTL_GROUP 0 g)) ∧
    (s.flag F.VNT_STAT_UNLOCKED 0 = false → exec (.vgroup g) s = .next (s.jtagOut .bypass)) ∧
    (s.fum.perst = true → exec .extest s = .next { s with fum := { s.fum with extest := true } }) ∧
    (s.fum.perst = false → exec .extest s = .next (s.jtagOut .bypass))) ∧
  (∀ (s0 : State) who v, s0.ddtReady = true → isVf who = false → let s := s0.touch who
    let i := s.fld F.SEC_SPI_SEL_INDEX (reqCode who)
    (s.spiReserved i v.toNat = true → exec (.spiRxWrite who v) s0 = .next s) ∧
    (s.spiReserved i v.toNat = false → exec (.spiRxWrite who v) s0 = .next (let s1 := ((s.setFld F.SEC_SPI_RX_EN_OR_VALID i
      (v.toNat / 2 ^ 63)).setFld F.SEC_SPI_RX_SLOT i (field v.toNat 57 48)).setFld F.SEC_SPI_RX_SPI i (field v.toNat 31 0)
      { s1 with sec := { s1.sec with spi := Tbl.del i s.sec.spi } }))) ∧
  (∀ (s : State) i v, bit v 63 = true → field v 31 0 = 0 → s.spiReserved i v = true)

/-- R9, R14, R347 to R349, R585, R619, R625, R649, R652: what a write to a register does to its fields, by their kinds, and
which writes have no effect. Rests on the model's own choices and readings in log entries 4, 11, 12, 13 and 145. -/
def Obligations.RegisterWrites : Prop :=
  (∀ (f : Fld) old v,
    (f.kind = .ctl → f.written old v = if f.valid v then v else old) ∧ (f.kind = .sta → f.written old v = old) ∧
    (f.kind = .evt → f.written old v = old - (old &&& v)) ∧ (f.kind = .cnt → f.written old v = v) ∧
    (f.kind = .ptr → f.written old v = old) ∧ (f.kind = .cmd → f.written old 0 = old)) ∧
  (∀ (s : State) who off bytes v, let s1 := s.touch who
    (s.fum.powered = false → exec (.registerWrite who off bytes v) s = .next s1) ∧
    (s.fum.powered = true → s1.outsideBar who off bytes = true →
      exec (.registerWrite who off bytes v) s = .next (aerReport (reqFn who % 256) 4 s1)) ∧
    (s.fum.powered = true → s1.outsideBar who off bytes = false → accessOk who off bytes = false →
      exec (.registerWrite who off bytes v) s = .next s1)) ∧
  (∀ who off bytes, accessOk who off bytes = true ↔
    off % bytes = 0 ∧ (bytes = 8 ∨ bytes = 4 ∨ (bytes = 2 ∧ ∃ k, who = .core k))) ∧
  (∀ (s : State) f off bytes, (s.fnExists f = false → s.outsideBar (.vf f) off bytes = true) ∧
    (s.fnExists f = true → (s.outsideBar (.vf f) off bytes = true ↔ (barSizes f).1 < off + bytes))) ∧
  (∀ (s : State) who off o bytes v d k, let s1 := s.touch who
    s.fum.powered = true → s1.outsideBar who off bytes = false → accessOk who off bytes = true →
    ((∃ f, who = .vf f ∧ 1 ≤ f ∧ vfOffset off = some o ∧ ¬ (0xA100 ≤ off ∧ off < 0xB000) ∧ ¬ (0xE000 ≤ off ∧ off < 0xE0C0)) ∨
     ((∀ f, who ≠ .vf f) ∧ o = off ∧ ¬ (0xC03000 ≤ off ∧ off < 0xC04000) ∧ ¬ (0xF00000 ≤ off ∧ off < 0x1000000) ∧
      ¬ (0x580000 ≤ off ∧ off < 0x580000 + 1036 * 16))) →
    let w := o / 8 * 8
    w ∉ [0x400108, 0x100040, 0xD00310, 0xA00140] → ¬ (0x400200 ≤ w ∧ w < 0x400300) → ¬ (0x400400 ≤ w ∧ w < 0x400600) →
    regAt w = some (d, k) → let inst := s1.instOf who d.scope
    let lo := 8 * (o % 8)
    let x := (v.toNat % 2 ^ (8 * bytes)) <<< lo
    let t : State := { s1 with regs := writeFields d.fields k inst lo (8 * bytes) x s1.regs }
    (s1.writeIgnored who w inst = true → exec (.registerWrite who off bytes v) s = .next (s1.regWritten o bytes)) ∧
    (s1.writeIgnored who w inst = false → exec (.registerWrite who off bytes v) s =
      .next ((State.afterWrite s1 (State.keepOld s1 t (s1.badGroup t w inst lo (8 * bytes) x) inst) w inst).regWritten o bytes))) ∧
  (∀ (old s : State) off inst, off ∉ [0x100, 0x400600, 0x400608, 0x500108, 0x500308, 0x600200, 0x700100, 0x700300, 0x800108,
      0xC00200, 0xD00308] → ¬ (0x500400 ≤ off ∧ off < 0x500488) → State.afterWrite old s off inst = s) ∧
  (∀ (s : State) off bytes v, let s1 := s.touch .pf
    s.fum.powered = true → s.fum.perst = false → accessOk .pf off bytes = true → 0x580000 ≤ off → off < 0x580000 + 1036 * 16 →
    exec (.registerWrite .pf off bytes v) s =
      .next ((s1.msixWrite 0 ((off - 0x580000) / 16) (8 * (off % 16)) (8 * bytes) v.toNat).regWritten off bytes)) ∧
  (∀ (s t : State) off inst lo n v, (s.badGroup t off inst lo n v = [] ∨ s.badGroup t off inst lo n v = groupAt off) ∧
    (t.groupBad off inst = true → s.badGroup t off inst lo n v = groupAt off)) ∧
  (∀ (fs : List Fld) k inst (v : Nat) (r : Regs) (g : Fld) j, (∀ f ∈ fs, (f.at k).key inst ≠ g.key j) →
    getF (writeFields fs k inst 0 64 v r) g j = getF r g j) ∧
  (∀ (f : Fld) k inst (v : Nat) (r : Regs), f.kind = .ctl → f.lo < 64 → 0 < f.width → f.lo + f.width ≤ 64 →
    (f.at k).width = f.width → getF r (f.at k) inst < 2 ^ f.width →
    getF (writeFields [f] k inst 0 64 v r) (f.at k) inst = (if f.valid (field v (f.lo + f.width - 1) f.lo) then
      field v (f.lo + f.width - 1) f.lo else getF r (f.at k) inst)) ∧
  (∀ (s : State) who off inst, s.ddtReady = false → earlyBlock off = false → s.writeIgnored who off inst = true) ∧
  (∀ (s : State) who off inst, s.fum.perst = true → islandReg off = false → s.writeIgnored who off inst = true) ∧
  (∀ (s : State) who inst, s.flag F.VNT_STAT_UNLOCKED 0 = false → s.writeIgnored who 0xE00008 inst = true) ∧
  (∀ (s : State) f off bytes v, s.fum.powered = true → (s.touch (.vf f)).outsideBar (.vf f) off bytes = false →
    vfOffset off = none → ¬ (0xA100 ≤ off ∧ off < 0xB000) → ¬ (0xE000 ≤ off ∧ off < 0xE0C0) →
    exec (.registerWrite (.vf f) off bytes v) s = .next (s.touch (.vf f))) ∧
  (∀ (s : State) off (v : Word), s.fum.powered = true → 0xC03000 ≤ off → off + 8 ≤ 0xC04000 → off % 8 = 0 →
    exec (.registerWrite .pf off 8 v) s =
      .next (((s.touch .pf).mbxWrite (off - 0xC03000) (toBytes 8 v.toNat)).regWritten off 8))
end

