-- ==== Sys2Proof/Laws/Exec.lean ====
section
/-! SUPPORT. Dispatch: each command is its own meaning, by computation. -/

namespace Sys2Proof.Machine

theorem exec_registerWrite (who : Requester) (off bytes : Nat) (v : Word) (s : State) : exec (.registerWrite who off bytes v) s = execRegisterWrite who off bytes v s := rfl
theorem exec_paceSample (mon : Nat) (chains : List Nat) (s : State) : exec (.paceSample mon chains) s = execPaceSample mon chains s := rfl
theorem exec_paceCtlWrite (who : Requester) (v : Word) (s : State) : exec (.paceCtlWrite who v) s = execPaceCtlWrite who v s := rfl
theorem exec_clrExt (s : State) : exec (.clrExt) s = execClrExt s := rfl
theorem exec_pllUnlock (s : State) : exec (.pllUnlock) s = execPllUnlock s := rfl
theorem exec_pllRelock (s : State) : exec (.pllRelock) s = execPllRelock s := rfl
theorem exec_timebaseLowRead (who : Requester) (s : State) : exec (.timebaseLowRead who) s = execTimebaseLowRead who s := rfl
theorem exec_applyStep (s : State) : exec (.applyStep) s = execApplyStep s := rfl
theorem exec_todSlewTick (ns : Nat) (s : State) : exec (.todSlewTick ns) s = execTodSlewTick ns s := rfl
theorem exec_powerDecision (compute io : List Nat) (s : State) :
    exec (.powerDecision compute io) s = execPowerDecision compute io s := rfl
theorem exec_fumPwrCapWrite (who : Requester) (v : Word) (s : State) : exec (.fumPwrCapWrite who v) s = execFumPwrCapWrite who v s := rfl
theorem exec_thermEmerg (tj : Nat) (s : State) : exec (.thermEmerg tj) s = execThermEmerg tj s := rfl
theorem exec_thermtrip (tj : Nat) (s : State) : exec (.thermtrip tj) s = execThermtrip tj s := rfl
theorem exec_vcbFrame (cd : Option Nat × Option Nat) (tlm : List (Option Nat)) (s : State) :
    exec (.vcbFrame cd tlm) s = execVcbFrame cd tlm s := rfl
theorem exec_vcbAlert (rail : Nat) (asserted : Bool) (s : State) : exec (.vcbAlert rail asserted) s = execVcbAlert rail asserted s := rfl
theorem exec_doorbellWrite (fn off bytes : Nat) (v : Word) (s : State) : exec (.doorbellWrite fn off bytes v) s = execDoorbellWrite fn off bytes v s := rfl
theorem exec_ringIndexWrite (who : Requester) (v : Word) (s : State) : exec (.ringIndexWrite who v) s = execRingIndexWrite who v s := rfl
theorem exec_nvmeDoorbell (fn off : Nat) (v : Nat) (s : State) : exec (.nvmeDoorbell fn off v) s = execNvmeDoorbell fn off v s := rfl
theorem exec_ringArbitration (env : Env) (s : State) : exec (.ringArbitration env) s = execRingArbitration env s := rfl
theorem exec_clauseArrival (slot : Nat) (s : State) : exec (.clauseArrival slot) s = execClauseArrival slot s := rfl
theorem exec_heldClauseDispatch (ring : Nat) (s : State) : exec (.heldClauseDispatch ring) s = execHeldClauseDispatch ring s := rfl
theorem exec_completionPost (src : CplSrc) (env : Env) (s : State) : exec (.completionPost src env) s = execCompletionPost src env s := rfl
theorem exec_heldCompletionPost (cq : Nat) (env : Env) (s : State) : exec (.heldCompletionPost cq env) s = execHeldCompletionPost cq env s := rfl
theorem exec_nopClause (ring : Nat) (s : State) : exec (.nopClause ring) s = execNopClause ring s := rfl
theorem exec_copy (slot : Nat) (env : Env) (s : State) : exec (.copy slot env) s = execCopy slot env s := rfl
theorem exec_fill (slot : Nat) (env : Env) (s : State) : exec (.fill slot env) s = execFill slot env s := rfl
theorem exec_fence (ring : Nat) (s : State) : exec (.fence ring) s = execFence ring s := rfl
theorem exec_fenceFn (ring : Nat) (s : State) : exec (.fenceFn ring) s = execFenceFn ring s := rfl
theorem exec_barrier (ring : Nat) (s : State) : exec (.barrier ring) s = execBarrier ring s := rfl
theorem exec_wait (ring : Nat) (s : State) : exec (.wait ring) s = execWait ring s := rfl
theorem exec_signal (ring : Nat) (s : State) : exec (.signal ring) s = execSignal ring s := rfl
theorem exec_set (ring : Nat) (s : State) : exec (.set ring) s = execSet ring s := rfl
theorem exec_waitTimeout (ring : Nat) (s : State) : exec (.waitTimeout ring) s = execWaitTimeout ring s := rfl
theorem exec_moderationTimer (cq : Nat) (s : State) : exec (.moderationTimer cq) s = execModerationTimer cq s := rfl
theorem exec_ringCreate (fn : Nat) (s : State) : exec (.ringCreate fn) s = execRingCreate fn s := rfl
theorem exec_ringDestroy (fn : Nat) (s : State) : exec (.ringDestroy fn) s = execRingDestroy fn s := rfl
theorem exec_ringReset (fn : Nat) (s : State) : exec (.ringReset fn) s = execRingReset fn s := rfl
theorem exec_ringDrainDone (pool : Bool) (ring : Nat) (s : State) : exec (.ringDrainDone pool ring) s = execRingDrainDone pool ring s := rfl
theorem exec_resume (fn : Nat) (s : State) : exec (.resume fn) s = execResume fn s := rfl
theorem exec_setPrio (fn : Nat) (s : State) : exec (.setPrio fn) s = execSetPrio fn s := rfl
theorem exec_setMod (fn : Nat) (s : State) : exec (.setMod fn) s = execSetMod fn s := rfl
theorem exec_launch (slot : Nat) (s : State) : exec (.launch slot) s = execLaunch slot s := rfl
theorem exec_launchLoadDone (slot : Nat) (env : Env) (s : State) : exec (.launchLoadDone slot env) s = execLaunchLoadDone slot env s := rfl
theorem exec_tileSendClause (slot : Nat) (s : State) : exec (.tileSendClause slot) s = execTileSendClause slot s := rfl
theorem exec_abort (slot : Nat) (s : State) : exec (.abort slot) s = execAbort slot s := rfl
theorem exec_launchTimeout (lead : Nat) (s : State) : exec (.launchTimeout lead) s = execLaunchTimeout lead s := rfl
theorem exec_tileFault (tile : Nat) (s : State) : exec (.tileFault tile) s = execTileFault tile s := rfl
theorem exec_roleRelease (lead : Nat) (s : State) : exec (.roleRelease lead) s = execRoleRelease lead s := rfl
theorem exec_unitCompletion (tile tag : Nat) (s : State) : exec (.unitCompletion tile tag) s = execUnitCompletion tile tag s := rfl
theorem exec_ldw (tile tag : Nat) (env : Env) (s : State) : exec (.ldw tile tag env) s = execLdw tile tag env s := rfl
theorem exec_mma (tile tag : Nat) (env : Env) (s : State) : exec (.mma tile tag env) s = execMma tile tag env s := rfl
theorem exec_ew (tile tag : Nat) (env : Env) (s : State) : exec (.ew tile tag env) s = execEw tile tag env s := rfl
theorem exec_scalar (tile tag : Nat) (env : Env) (s : State) : exec (.scalar tile tag env) s = execScalar tile tag env s := rfl
theorem exec_curve (tile tag : Nat) (env : Env) (s : State) : exec (.curve tile tag env) s = execCurve tile tag env s := rfl
theorem exec_accrd (tile tag : Nat) (env : Env) (s : State) : exec (.accrd tile tag env) s = execAccrd tile tag env s := rfl
theorem exec_reduce (tile tag : Nat) (env : Env) (s : State) : exec (.reduce tile tag env) s = execReduce tile tag env s := rfl
theorem exec_cvt (tile tag : Nat) (env : Env) (s : State) : exec (.cvt tile tag env) s = execCvt tile tag env s := rfl
theorem exec_get (tile tag : Nat) (env : Env) (s : State) : exec (.get tile tag env) s = execGet tile tag env s := rfl
theorem exec_put (tile tag : Nat) (env : Env) (s : State) : exec (.put tile tag env) s = execPut tile tag env s := rfl
theorem exec_evadd (tile tag : Nat) (s : State) : exec (.evadd tile tag) s = execEvadd tile tag s := rfl
theorem exec_send (tile tag : Nat) (env : Env) (s : State) : exec (.send tile tag env) s = execSend tile tag env s := rfl
theorem exec_messageDeliver (tile tag : Nat) (s : State) : exec (.messageDeliver tile tag) s = execMessageDeliver tile tag s := rfl
theorem exec_msgrd (tile tag : Nat) (s : State) : exec (.msgrd tile tag) s = execMsgrd tile tag s := rfl
theorem exec_seta (tile tag : Nat) (s : State) : exec (.seta tile tag) s = execSeta tile tag s := rfl
theorem exec_lddec (tile tag : Nat) (env : Env) (s : State) : exec (.lddec tile tag env) s = execLddec tile tag env s := rfl
theorem exec_ldenc (tile tag : Nat) (env : Env) (s : State) : exec (.ldenc tile tag env) s = execLdenc tile tag env s := rfl
theorem exec_ldctl (tile tag : Nat) (env : Env) (s : State) : exec (.ldctl tile tag env) s = execLdctl tile tag env s := rfl
theorem exec_ldcrv (tile tag : Nat) (env : Env) (s : State) : exec (.ldcrv tile tag env) s = execLdcrv tile tag env s := rfl
theorem exec_endTile (core : Nat) (s : State) : exec (.endTile core) s = execEndTile core s := rfl
theorem exec_faultInstr (core : Nat) (s : State) : exec (.faultInstr core) s = execFaultInstr core s := rfl
theorem exec_sync (core : Nat) (s : State) : exec (.sync core) s = execSync core s := rfl
theorem exec_ret (core : Nat) (s : State) : exec (.ret core) s = execRet core s := rfl
theorem exec_jmps (core : Nat) (s : State) : exec (.jmps core) s = execJmps core s := rfl
theorem exec_calls (core : Nat) (s : State) : exec (.calls core) s = execCalls core s := rfl
theorem exec_nop (core : Nat) (s : State) : exec (.nop core) s = execNop core s := rfl
theorem exec_ei (core : Nat) (s : State) : exec (.ei core) s = execEi core s := rfl
theorem exec_di (core : Nat) (s : State) : exec (.di core) s = execDi core s := rfl
theorem exec_reti (core : Nat) (s : State) : exec (.reti core) s = execReti core s := rfl
theorem exec_waiti (core : Nat) (s : State) : exec (.waiti core) s = execWaiti core s := rfl
theorem exec_jmpl (core : Nat) (s : State) : exec (.jmpl core) s = execJmpl core s := rfl
theorem exec_calll (core : Nat) (s : State) : exec (.calll core) s = execCalll core s := rfl
theorem exec_bzl (core : Nat) (s : State) : exec (.bzl core) s = execBzl core s := rfl
theorem exec_bnzl (core : Nat) (s : State) : exec (.bnzl core) s = execBnzl core s := rfl
theorem exec_bz (core : Nat) (s : State) : exec (.bz core) s = execBz core s := rfl
theorem exec_bnz (core : Nat) (s : State) : exec (.bnz core) s = execBnz core s := rfl
theorem exec_jmp (core : Nat) (s : State) : exec (.jmp core) s = execJmp core s := rfl
theorem exec_call (core : Nat) (s : State) : exec (.call core) s = execCall core s := rfl
theorem exec_pushi (core : Nat) (s : State) : exec (.pushi core) s = execPushi core s := rfl
theorem exec_pushi2 (core : Nat) (s : State) : exec (.pushi2 core) s = execPushi2 core s := rfl
theorem exec_pushs (core : Nat) (s : State) : exec (.pushs core) s = execPushs core s := rfl
theorem exec_dup (core : Nat) (s : State) : exec (.dup core) s = execDup core s := rfl
theorem exec_drop (core : Nat) (s : State) : exec (.drop core) s = execDrop core s := rfl
theorem exec_swap (core : Nat) (s : State) : exec (.swap core) s = execSwap core s := rfl
theorem exec_over (core : Nat) (s : State) : exec (.over core) s = execOver core s := rfl
theorem exec_rot (core : Nat) (s : State) : exec (.rot core) s = execRot core s := rfl
theorem exec_nip (core : Nat) (s : State) : exec (.nip core) s = execNip core s := rfl
theorem exec_pick (core : Nat) (s : State) : exec (.pick core) s = execPick core s := rfl
theorem exec_add (core : Nat) (s : State) : exec (.add core) s = execAdd core s := rfl
theorem exec_sub (core : Nat) (s : State) : exec (.sub core) s = execSub core s := rfl
theorem exec_addc (core : Nat) (s : State) : exec (.addc core) s = execAddc core s := rfl
theorem exec_subb (core : Nat) (s : State) : exec (.subb core) s = execSubb core s := rfl
theorem exec_mul (core : Nat) (s : State) : exec (.mul core) s = execMul core s := rfl
theorem exec_mulh (core : Nat) (s : State) : exec (.mulh core) s = execMulh core s := rfl
theorem exec_and (core : Nat) (s : State) : exec (.and core) s = execAnd core s := rfl
theorem exec_or (core : Nat) (s : State) : exec (.or core) s = execOr core s := rfl
theorem exec_xor (core : Nat) (s : State) : exec (.xor core) s = execXor core s := rfl
theorem exec_not (core : Nat) (s : State) : exec (.not core) s = execNot core s := rfl
theorem exec_neg (core : Nat) (s : State) : exec (.neg core) s = execNeg core s := rfl
theorem exec_shl (core : Nat) (s : State) : exec (.shl core) s = execShl core s := rfl
theorem exec_shr (core : Nat) (s : State) : exec (.shr core) s = execShr core s := rfl
theorem exec_sar (core : Nat) (s : State) : exec (.sar core) s = execSar core s := rfl
theorem exec_ceq (core : Nat) (s : State) : exec (.ceq core) s = execCeq core s := rfl
theorem exec_cne (core : Nat) (s : State) : exec (.cne core) s = execCne core s := rfl
theorem exec_cltu (core : Nat) (s : State) : exec (.cltu core) s = execCltu core s := rfl
theorem exec_cleu (core : Nat) (s : State) : exec (.cleu core) s = execCleu core s := rfl
theorem exec_clts (core : Nat) (s : State) : exec (.clts core) s = execClts core s := rfl
theorem exec_cles (core : Nat) (s : State) : exec (.cles core) s = execCles core s := rfl
theorem exec_cz (core : Nat) (s : State) : exec (.cz core) s = execCz core s := rfl
theorem exec_pushg (core : Nat) (s : State) : exec (.pushg core) s = execPushg core s := rfl
theorem exec_popg (core : Nat) (s : State) : exec (.popg core) s = execPopg core s := rfl
theorem exec_incg (core : Nat) (s : State) : exec (.incg core) s = execIncg core s := rfl
theorem exec_decg (core : Nat) (s : State) : exec (.decg core) s = execDecg core s := rfl
theorem exec_ld (core : Nat) (s : State) : exec (.ld core) s = execLd core s := rfl
theorem exec_st (core : Nat) (s : State) : exec (.st core) s = execSt core s := rfl
theorem exec_tas (core : Nat) (env : Env) (s : State) : exec (.tas core env) s = execTas core env s := rfl
theorem exec_ldr (core : Nat) (env : Env) (s : State) : exec (.ldr core env) s = execLdr core env s := rfl
theorem exec_stc (core : Nat) (env : Env) (s : State) : exec (.stc core env) s = execStc core env s := rfl
theorem exec_ldx (core : Nat) (env : Env) (s : State) : exec (.ldx core env) s = execLdx core env s := rfl
theorem exec_stx (core : Nat) (env : Env) (s : State) : exec (.stx core env) s = execStx core env s := rfl
theorem exec_windowAccessReturn (core idx : Nat) (env : Env) (s : State) : exec (.windowAccessReturn core idx env) s = execWindowAccessReturn core idx env s := rfl
theorem exec_setw (core : Nat) (s : State) : exec (.setw core) s = execSetw core s := rfl
theorem exec_mfs (core : Nat) (s : State) : exec (.mfs core) s = execMfs core s := rfl
theorem exec_mts (core : Nat) (s : State) : exec (.mts core) s = execMts core s := rfl
theorem exec_issue (core : Nat) (s : State) : exec (.issue core) s = execIssue core s := rfl
theorem exec_issuex (core : Nat) (s : State) : exec (.issuex core) s = execIssuex core s := rfl
theorem exec_waitu (core : Nat) (s : State) : exec (.waitu core) s = execWaitu core s := rfl
theorem exec_movw (core steps : Nat) (env : Env) (s : State) : exec (.movw core steps env) s = execMovw core steps env s := rfl
theorem exec_fillw (core steps : Nat) (env : Env) (s : State) : exec (.fillw core steps env) s = execFillw core steps env s := rfl
theorem exec_cmpw (core steps : Nat) (env : Env) (s : State) : exec (.cmpw core steps env) s = execCmpw core steps env s := rfl
theorem exec_scanw (core steps : Nat) (env : Env) (s : State) : exec (.scanw core steps env) s = execScanw core steps env s := rfl
theorem exec_packw (core steps : Nat) (env : Env) (s : State) : exec (.packw core steps env) s = execPackw core steps env s := rfl
theorem exec_interruptLinePulse (core line : Nat) (s : State) : exec (.interruptLinePulse core line) s = execInterruptLinePulse core line s := rfl
theorem exec_interruptEntry (core : Nat) (s : State) : exec (.interruptEntry core) s = execInterruptEntry core s := rfl
theorem exec_gather (src : GeySrc) (work : GeyWork) (s : State) : exec (.gather src work) s = execGather src work s := rfl
theorem exec_scatter (src : GeySrc) (work : GeyWork) (s : State) : exec (.scatter src work) s = execScatter src work s := rfl
theorem exec_hins (src : GeySrc) (work : GeyWork) (s : State) : exec (.hins src work) s = execHins src work s := rfl
theorem exec_hprobe (src : GeySrc) (work : GeyWork) (s : State) : exec (.hprobe src work) s = execHprobe src work s := rfl
theorem exec_hdel (src : GeySrc) (work : GeyWork) (s : State) : exec (.hdel src work) s = execHdel src work s := rfl
theorem exec_sort (src : GeySrc) (work : GeyWork) (s : State) : exec (.sort src work) s = execSort src work s := rfl
theorem exec_merge (src : GeySrc) (work : GeyWork) (s : State) : exec (.merge src work) s = execMerge src work s := rfl
theorem exec_segred (src : GeySrc) (work : GeyWork) (s : State) : exec (.segred src work) s = execSegred src work s := rfl
theorem exec_segscan (src : GeySrc) (work : GeyWork) (s : State) : exec (.segscan src work) s = execSegscan src work s := rfl
theorem exec_setop (src : GeySrc) (work : GeyWork) (s : State) : exec (.setop src work) s = execSetop src work s := rfl
theorem exec_hsetop (src : GeySrc) (work : GeyWork) (s : State) : exec (.hsetop src work) s = execHsetop src work s := rfl
theorem exec_frontier (src : GeySrc) (picks : List Nat) (env : Env) (s : State) : exec (.frontier src picks env) s = execFrontier src picks env s := rfl
theorem exec_geyserOpAdmit (src : GeySrc) (s : State) : exec (.geyserOpAdmit src) s = execGeyserOpAdmit src s := rfl
theorem exec_geyserOpComplete (src : GeySrc) (s : State) : exec (.geyserOpComplete src) s = execGeyserOpComplete src s := rfl
theorem exec_bandModeWrite (who : Requester) (k : Nat) (v : Word) (s : State) : exec (.bandModeWrite who k v) s = execBandModeWrite who k v s := rfl
theorem exec_bandModeApply (band : Nat) (s : State) : exec (.bandModeApply band) s = execBandModeApply band s := rfl
theorem exec_refreshIssue (unit : Nat) (s : State) : exec (.refreshIssue unit) s = execRefreshIssue unit s := rfl
theorem exec_refreshRateChange (unit temp : Nat) (s : State) : exec (.refreshRateChange unit temp) s = execRefreshRateChange unit temp s := rfl
theorem exec_scrubBurst (unit : Nat) (ecc : List EccEvent) (s : State) : exec (.scrubBurst unit ecc) s = execScrubBurst unit ecc s := rfl
theorem exec_retrainTrigger (unit temp linkErrs : Nat) (s : State) : exec (.retrainTrigger unit temp linkErrs) s = execRetrainTrigger unit temp linkErrs s := rfl
theorem exec_retrainDone (unit us : Nat) (s : State) : exec (.retrainDone unit us) s = execRetrainDone unit us s := rfl
theorem exec_windowRuleChange (who : Requester) (off : Nat) (v : Word) (s : State) : exec (.windowRuleChange who off v) s = execWindowRuleChange who off v s := rfl
theorem exec_xltBaseWrite (who : Requester) (v : Word) (s : State) : exec (.xltBaseWrite who v) s = execXltBaseWrite who v s := rfl
theorem exec_xltInvalidate (fn : Nat) (s : State) : exec (.xltInvalidate fn) s = execXltInvalidate fn s := rfl
theorem exec_buddyApply (s : State) : exec (.buddyApply) s = execBuddyApply s := rfl
theorem exec_maintRequest (act : MaintAct) (unit : Nat) (s : State) : exec (.maintRequest act unit) s = execMaintRequest act unit s := rfl
theorem exec_maintEnd (act : MaintAct) (unit : Nat) (s : State) : exec (.maintEnd act unit) s = execMaintEnd act unit s := rfl
theorem exec_functionLevelReset (fn : Nat) (s : State) : exec (.functionLevelReset fn) s = execFunctionLevelReset fn s := rfl
theorem exec_fnResetCmd (fn : Nat) (s : State) : exec (.fnResetCmd fn) s = execFnResetCmd fn s := rfl
theorem exec_vfEnableClear (s : State) : exec (.vfEnableClear) s = execVfEnableClear s := rfl
theorem exec_vfEnableSet (on : VfEnable) (s : State) :
    exec (.vfEnableSet on) s = execVfEnableSet on s := rfl
theorem exec_hotReset (s : State) : exec (.hotReset) s = execHotReset s := rfl
theorem exec_fnResetDrainDone (fn : Nat) (s : State) : exec (.fnResetDrainDone fn) s = execFnResetDrainDone fn s := rfl
theorem exec_fnResetCut (fn : Nat) (s : State) : exec (.fnResetCut fn) s = execFnResetCut fn s := rfl
theorem exec_hostCompletionArrive (tag : Nat) (status : HostStatus) (data : List Byte) (s : State) : exec (.hostCompletionArrive tag status data) s = execHostCompletionArrive tag status data s := rfl
theorem exec_completionTimeout (tag : Nat) (s : State) : exec (.completionTimeout tag) s = execCompletionTimeout tag s := rfl
theorem exec_unexpectedCompletion (fn tag : Nat) (s : State) : exec (.unexpectedCompletion fn tag) s = execUnexpectedCompletion fn tag s := rfl
theorem exec_msixUnmask (fn : Nat) (what : MsixUnmask) (s : State) : exec (.msixUnmask fn what) s = execMsixUnmask fn what s := rfl
theorem exec_intxCauseClear (k : Nat) (v : Word) (s : State) : exec (.intxCauseClear k v) s = execIntxCauseClear k v s := rfl
theorem exec_powerStateChange (fn : Nat) (d3hot : Bool) (s : State) : exec (.powerStateChange fn d3hot) s = execPowerStateChange fn d3hot s := rfl
theorem exec_l1Entry (aspm : Aspm) (s : State) :
    exec (.l1Entry aspm) s = execL1Entry aspm s := rfl
theorem exec_l1Exit (s : State) : exec (.l1Exit) s = execL1Exit s := rfl
theorem exec_l0pWindow (util : Nat) (seen : L0pSeen) (s : State) :
    exec (.l0pWindow util seen) s = execL0pWindow util seen s := rfl
theorem exec_dpPresenceChange (port : Nat) (present : Bool) (s : State) : exec (.dpPresenceChange port present) s = execDpPresenceChange port present s := rfl
theorem exec_dpError (port : Nat) (s : State) : exec (.dpError port) s = execDpError port s := rfl
theorem exec_ccEnSet (fn cc aqa asq acq : Nat) (s : State) : exec (.ccEnSet fn cc aqa asq acq) s = execCcEnSet fn cc aqa asq acq s := rfl
theorem exec_ccEnClear (fn : Nat) (s : State) : exec (.ccEnClear fn) s = execCcEnClear fn s := rfl
theorem exec_controllerResetCut (fn : Nat) (s : State) : exec (.controllerResetCut fn) s = execControllerResetCut fn s := rfl
theorem exec_createIoSq (slot : Nat) (s : State) : exec (.createIoSq slot) s = execCreateIoSq slot s := rfl
theorem exec_deleteIoSq (slot : Nat) (s : State) : exec (.deleteIoSq slot) s = execDeleteIoSq slot s := rfl
theorem exec_createIoCq (slot : Nat) (s : State) : exec (.createIoCq slot) s = execCreateIoCq slot s := rfl
theorem exec_deleteIoCq (slot : Nat) (s : State) : exec (.deleteIoCq slot) s = execDeleteIoCq slot s := rfl
theorem exec_getLogPage (slot : Nat) (env : Env) (s : State) : exec (.getLogPage slot env) s = execGetLogPage slot env s := rfl
theorem exec_identify (slot : Nat) (env : Env) (s : State) : exec (.identify slot env) s = execIdentify slot env s := rfl
theorem exec_nvmeAbort (slot : Nat) (s : State) : exec (.nvmeAbort slot) s = execNvmeAbort slot s := rfl
theorem exec_setFeatures (slot : Nat) (env : Env) (s : State) : exec (.setFeatures slot env) s = execSetFeatures slot env s := rfl
theorem exec_getFeatures (slot : Nat) (env : Env) (s : State) : exec (.getFeatures slot env) s = execGetFeatures slot env s := rfl
theorem exec_asynchronousEventRequest (slot : Nat) (s : State) : exec (.asynchronousEventRequest slot) s = execAsynchronousEventRequest slot s := rfl
theorem exec_clearIndeterminateRange (slot : Nat) (s : State) : exec (.clearIndeterminateRange slot) s = execClearIndeterminateRange slot s := rfl
theorem exec_nvmeFlush (slot : Nat) (s : State) : exec (.nvmeFlush slot) s = execNvmeFlush slot s := rfl
theorem exec_nvmeWrite (slot : Nat) (env : Env) (s : State) : exec (.nvmeWrite slot env) s = execNvmeWrite slot env s := rfl
theorem exec_nvmeRead (slot : Nat) (env : Env) (s : State) : exec (.nvmeRead slot env) s = execNvmeRead slot env s := rfl
theorem exec_writeZeroes (slot : Nat) (env : Env) (s : State) : exec (.writeZeroes slot env) s = execWriteZeroes slot env s := rfl
theorem exec_datasetManagement (slot : Nat) (env : Env) (s : State) : exec (.datasetManagement slot env) s = execDatasetManagement slot env s := rfl
theorem exec_rangeLockGrant (entry : Nat) (env : Env) (s : State) : exec (.rangeLockGrant entry env) s = execRangeLockGrant entry env s := rfl
theorem exec_backingCompletion (id st failAt : Nat) (data mdata : List Byte) (env : Env) (s : State) : exec (.backingCompletion id st failAt data mdata env) s = execBackingCompletion id st failAt data mdata env s := rfl
theorem exec_backingTimeout (id : Nat) (s : State) : exec (.backingTimeout id) s = execBackingTimeout id s := rfl
theorem exec_backingAbortTimeout (id : Nat) (s : State) : exec (.backingAbortTimeout id) s = execBackingAbortTimeout id s := rfl
theorem exec_driveRemoved (port : Nat) (s : State) : exec (.driveRemoved port) s = execDriveRemoved port s := rfl
theorem exec_remotePathLost (qp : Nat) (s : State) : exec (.remotePathLost qp) s = execRemotePathLost qp s := rfl
theorem exec_driveReady (port serial lbas rate width : Nat) (s : State) : exec (.driveReady port serial lbas rate width) s = execDriveReady port serial lbas rate width s := rfl
theorem exec_nsCreate (s : State) : exec (.nsCreate) s = execNsCreate s := rfl
theorem exec_nsDelete (s : State) : exec (.nsDelete) s = execNsDelete s := rfl
theorem exec_nsAttach (s : State) : exec (.nsAttach) s = execNsAttach s := rfl
theorem exec_nsDetach (s : State) : exec (.nsDetach) s = execNsDetach s := rfl
theorem exec_cacheCtlWrite (who : Requester) (v : Word) (s : State) : exec (.cacheCtlWrite who v) s = execCacheCtlWrite who v s := rfl
theorem exec_feed (slot : Nat) (env : Env) (s : State) : exec (.feed slot env) s = execFeed slot env s := rfl
theorem exec_frameReceive (port : Nat) (bytes : List Byte) (how : Arrival) (s : State) :
    exec (.frameReceive port bytes how) s = execFrameReceive port bytes how s := rfl
theorem exec_pfcFrameReceive (port prio quanta : Nat) (s : State) : exec (.pfcFrameReceive port prio quanta) s = execPfcFrameReceive port prio quanta s := rfl
theorem exec_reorderDeliver (port : Nat) (env : Env) (s : State) : exec (.reorderDeliver port env) s = execReorderDeliver port env s := rfl
theorem exec_quadModeChange (who : Requester) (v : Word) (s : State) : exec (.quadModeChange who v) s = execQuadModeChange who v s := rfl
theorem exec_linkChange (port : Nat) (up : Bool) (s : State) : exec (.linkChange port up) s = execLinkChange port up s := rfl
theorem exec_fragmentHoldExpiry (s : State) : exec (.fragmentHoldExpiry) s = execFragmentHoldExpiry s := rfl
theorem exec_fragmentEntryExpiry (s : State) : exec (.fragmentEntryExpiry) s = execFragmentEntryExpiry s := rfl
theorem exec_tableLoad (env : Env) (s : State) : exec (.tableLoad env) s = execTableLoad env s := rfl
theorem exec_tableSwap (s : State) : exec (.tableSwap) s = execTableSwap s := rfl
theorem exec_tableSwapDone (s : State) : exec (.tableSwapDone) s = execTableSwapDone s := rfl
theorem exec_flowInsert (env : Env) (s : State) : exec (.flowInsert env) s = execFlowInsert env s := rfl
theorem exec_flowDelete (env : Env) (s : State) : exec (.flowDelete env) s = execFlowDelete env s := rfl
theorem exec_flowQuery (env : Env) (s : State) : exec (.flowQuery env) s = execFlowQuery env s := rfl
theorem exec_flowAgeSweep (s : State) : exec (.flowAgeSweep) s = execFlowAgeSweep s := rfl
theorem exec_flowMemWrite (who : Requester) (v : Word) (s : State) : exec (.flowMemWrite who v) s = execFlowMemWrite who v s := rfl
theorem exec_qpCreate (fn : Nat) (env : Env) (s : State) : exec (.qpCreate fn env) s = execQpCreate fn env s := rfl
theorem exec_qpModify (fn : Nat) (env : Env) (s : State) : exec (.qpModify fn env) s = execQpModify fn env s := rfl
theorem exec_qpDestroy (fn : Nat) (s : State) : exec (.qpDestroy fn) s = execQpDestroy fn s := rfl
theorem exec_qpQuery (fn : Nat) (env : Env) (s : State) : exec (.qpQuery fn env) s = execQpQuery fn env s := rfl
theorem exec_regionCreate (fn : Nat) (env : Env) (s : State) : exec (.regionCreate fn env) s = execRegionCreate fn env s := rfl
theorem exec_regionDestroy (fn : Nat) (s : State) : exec (.regionDestroy fn) s = execRegionDestroy fn s := rfl
theorem exec_regionQuery (fn : Nat) (env : Env) (s : State) : exec (.regionQuery fn env) s = execRegionQuery fn env s := rfl
theorem exec_peerCreate (fn : Nat) (env : Env) (s : State) : exec (.peerCreate fn env) s = execPeerCreate fn env s := rfl
theorem exec_peerDestroy (fn : Nat) (s : State) : exec (.peerDestroy fn) s = execPeerDestroy fn s := rfl
theorem exec_peerQuery (fn : Nat) (env : Env) (s : State) : exec (.peerQuery fn env) s = execPeerQuery fn env s := rfl
theorem exec_groupCreate (fn : Nat) (env : Env) (s : State) : exec (.groupCreate fn env) s = execGroupCreate fn env s := rfl
theorem exec_groupDestroy (fn : Nat) (s : State) : exec (.groupDestroy fn) s = execGroupDestroy fn s := rfl
theorem exec_groupQuery (fn : Nat) (env : Env) (s : State) : exec (.groupQuery fn env) s = execGroupQuery fn env s := rfl
theorem exec_rdmaSend (slot : Nat) (env : Env) (s : State) : exec (.rdmaSend slot env) s = execRdmaSend slot env s := rfl
theorem exec_sendImm (slot : Nat) (env : Env) (s : State) : exec (.sendImm slot env) s = execSendImm slot env s := rfl
theorem exec_rdmaWrite (slot : Nat) (env : Env) (s : State) : exec (.rdmaWrite slot env) s = execRdmaWrite slot env s := rfl
theorem exec_writeImm (slot : Nat) (env : Env) (s : State) : exec (.writeImm slot env) s = execWriteImm slot env s := rfl
theorem exec_rdmaRead (slot : Nat) (env : Env) (s : State) : exec (.rdmaRead slot env) s = execRdmaRead slot env s := rfl
theorem exec_tsend (slot : Nat) (env : Env) (s : State) : exec (.tsend slot env) s = execTsend slot env s := rfl
theorem exec_frame (slot : Nat) (env : Env) (s : State) : exec (.frame slot env) s = execFrame slot env s := rfl
theorem exec_recv (slot : Nat) (s : State) : exec (.recv slot) s = execRecv slot s := rfl
theorem exec_trecv (slot : Nat) (s : State) : exec (.trecv slot) s = execTrecv slot s := rfl
theorem exec_rcPacketReceive (env : Env) (s : State) : exec (.rcPacketReceive env) s = execRcPacketReceive env s := rfl
theorem exec_ackReceive (env : Env) (s : State) : exec (.ackReceive env) s = execAckReceive env s := rfl
theorem exec_ackDelayExpiry (qp : Nat) (s : State) : exec (.ackDelayExpiry qp) s = execAckDelayExpiry qp s := rfl
theorem exec_retransmitTimeout (qp : Nat) (env : Env) (s : State) : exec (.retransmitTimeout qp env) s = execRetransmitTimeout qp env s := rfl
theorem exec_rnrWaitExpiry (qp : Nat) (env : Env) (s : State) : exec (.rnrWaitExpiry qp env) s = execRnrWaitExpiry qp env s := rfl
theorem exec_cnpReceive (s : State) : exec (.cnpReceive) s = execCnpReceive s := rfl
theorem exec_alphaTimer (qp : Nat) (s : State) : exec (.alphaTimer qp) s = execAlphaTimer qp s := rfl
theorem exec_rateIncrease (qp : Nat) (s : State) : exec (.rateIncrease qp) s = execRateIncrease qp s := rfl
theorem exec_creditRequestReceive (s : State) : exec (.creditRequestReceive) s = execCreditRequestReceive s := rfl
theorem exec_creditGrant (port tc : Nat) (s : State) : exec (.creditGrant port tc) s = execCreditGrant port tc s := rfl
theorem exec_creditGrantReceive (env : Env) (s : State) : exec (.creditGrantReceive env) s = execCreditGrantReceive env s := rfl
theorem exec_creditExpiry (qp : Nat) (env : Env) (s : State) : exec (.creditExpiry qp env) s = execCreditExpiry qp env s := rfl
theorem exec_creditReturn (s : State) : exec (.creditReturn) s = execCreditReturn s := rfl
theorem exec_helloSend (s : State) : exec (.helloSend) s = execHelloSend s := rfl
theorem exec_helloReceive (s : State) : exec (.helloReceive) s = execHelloReceive s := rfl
theorem exec_peerDeadTimeout (peer : Nat) (s : State) : exec (.peerDeadTimeout peer) s = execPeerDeadTimeout peer s := rfl
theorem exec_reduceScatter (slot : Nat) (env : Env) (s : State) : exec (.reduceScatter slot env) s = execReduceScatter slot env s := rfl
theorem exec_allGather (slot : Nat) (env : Env) (s : State) : exec (.allGather slot env) s = execAllGather slot env s := rfl
theorem exec_allReduce (slot : Nat) (env : Env) (s : State) : exec (.allReduce slot env) s = execAllReduce slot env s := rfl
theorem exec_broadcast (slot : Nat) (env : Env) (s : State) : exec (.broadcast slot env) s = execBroadcast slot env s := rfl
theorem exec_allToAll (slot : Nat) (env : Env) (s : State) : exec (.allToAll slot env) s = execAllToAll slot env s := rfl
theorem exec_collectiveTimeout (group : Nat) (s : State) : exec (.collectiveTimeout group) s = execCollectiveTimeout group s := rfl
theorem exec_abortNoticeReceive (s : State) : exec (.abortNoticeReceive) s = execAbortNoticeReceive s := rfl
theorem exec_shaperRefill (s : State) : exec (.shaperRefill) s = execShaperRefill s := rfl
theorem exec_portTransmitStart (port : Nat) (env : Env) (s : State) : exec (.portTransmitStart port env) s = execPortTransmitStart port env s := rfl
theorem exec_rawFrameTimeout (s : State) : exec (.rawFrameTimeout) s = execRawFrameTimeout s := rfl
theorem exec_gateApply (port : Nat) (s : State) : exec (.gateApply port) s = execGateApply port s := rfl
theorem exec_gateListSwitch (port : Nat) (s : State) : exec (.gateListSwitch port) s = execGateListSwitch port s := rfl
theorem exec_pauseExpiry (port prio : Nat) (s : State) : exec (.pauseExpiry port prio) s = execPauseExpiry port prio s := rfl
theorem exec_kload (slot : Nat) (env : Env) (s : State) : exec (.kload slot env) s = execKload slot env s := rfl
theorem exec_krevoke (slot : Nat) (s : State) : exec (.krevoke slot) s = execKrevoke slot s := rfl
theorem exec_revocationComplete (keySlot : Nat) (s : State) : exec (.revocationComplete keySlot) s = execRevocationComplete keySlot s := rfl
theorem exec_kquery (slot : Nat) (s : State) : exec (.kquery slot) s = execKquery slot s := rfl
theorem exec_pkgLoad (slot : Nat) (env : Env) (s : State) : exec (.pkgLoad slot env) s = execPkgLoad slot env s := rfl
theorem exec_proveNonce (slot : Nat) (env : Env) (s : State) : exec (.proveNonce slot env) s = execProveNonce slot env s := rfl
theorem exec_prove (slot : Nat) (env : Env) (s : State) : exec (.prove slot env) s = execProve slot env s := rfl
theorem exec_spiRxWrite (who : Requester) (v : Word) (s : State) : exec (.spiRxWrite who v) s = execSpiRxWrite who v s := rfl
theorem exec_mailboxGo (s : State) : exec (.mailboxGo) s = execMailboxGo s := rfl
theorem exec_sidebandMctp (m : SideMsg) (s : State) : exec (.sidebandMctp m) s = execSidebandMctp m s := rfl
theorem exec_spdmRequest (request : List Byte) (s : State) : exec (.spdmRequest request) s = execSpdmRequest request s := rfl
theorem exec_setCmdKey (flashOk actionOk : Bool) (s : State) : exec (.setCmdKey flashOk actionOk) s = execSetCmdKey flashOk actionOk s := rfl
theorem exec_fwUpdate (env : Env) (flashOk actionOk : Bool) (s : State) : exec (.fwUpdate env flashOk actionOk) s = execFwUpdate env flashOk actionOk s := rfl
theorem exec_keyProvision (flashOk : Bool) (s : State) : exec (.keyProvision flashOk) s = execKeyProvision flashOk s := rfl
theorem exec_keyProvisionSigner (flashOk : Bool) (s : State) : exec (.keyProvisionSigner flashOk) s = execKeyProvisionSigner flashOk s := rfl
theorem exec_fuseProgramRollback (flashOk : Bool) (s : State) : exec (.fuseProgramRollback flashOk) s = execFuseProgramRollback flashOk s := rfl
theorem exec_fuseProgramOwner (flashOk : Bool) (s : State) : exec (.fuseProgramOwner flashOk) s = execFuseProgramOwner flashOk s := rfl
theorem exec_fuseProgramDebugDisable (flashOk : Bool) (s : State) : exec (.fuseProgramDebugDisable flashOk) s = execFuseProgramDebugDisable flashOk s := rfl
theorem exec_debugUnlock (flashOk : Bool) (s : State) : exec (.debugUnlock flashOk) s = execDebugUnlock flashOk s := rfl
theorem exec_debugLock (flashOk : Bool) (s : State) : exec (.debugLock flashOk) s = execDebugLock flashOk s := rfl
theorem exec_setMembership (flashOk : Bool) (s : State) : exec (.setMembership flashOk) s = execSetMembership flashOk s := rfl
theorem exec_tenancySwitch (flashOk : Bool) (s : State) : exec (.tenancySwitch flashOk) s = execTenancySwitch flashOk s := rfl
theorem exec_sinterExportSign (flashOk : Bool) (s : State) : exec (.sinterExportSign flashOk) s = execSinterExportSign flashOk s := rfl
theorem exec_arm (slot : Nat) (env : Env) (s : State) : exec (.arm slot env) s = execArm slot env s := rfl
theorem exec_restore (slot : Nat) (s : State) : exec (.restore slot) s = execRestore slot s := rfl
theorem exec_exportClause (slot : Nat) (env : Env) (s : State) : exec (.exportClause slot env) s = execExportClause slot env s := rfl
theorem exec_triggerSample (env : Env) (s : State) : exec (.triggerSample env) s = execTriggerSample env s := rfl
theorem exec_openMsg (s : State) : exec (.openMsg) s = execOpenMsg s := rfl
theorem exec_accept (s : State) : exec (.accept) s = execAccept s := rfl
theorem exec_refuse (s : State) : exec (.refuse) s = execRefuse s := rfl
theorem exec_dataMsg (s : State) : exec (.dataMsg) s = execDataMsg s := rfl
theorem exec_sealMsg (env : Env) (s : State) : exec (.sealMsg env) s = execSealMsg env s := rfl
theorem exec_sealed (env : Env) (s : State) : exec (.sealed env) s = execSealed env s := rfl
theorem exec_fetch (env : Env) (s : State) : exec (.fetch env) s = execFetch env s := rfl
theorem exec_doneMsg (env : Env) (s : State) : exec (.doneMsg env) s = execDoneMsg env s := rfl
theorem exec_openTimeout (s : State) : exec (.openTimeout) s = execOpenTimeout s := rfl
theorem exec_powerOn (tj : Nat) (noise : List FuseSense) (smbStraps : Nat) (s : State) : exec (.powerOn tj noise smbStraps) s = execPowerOn tj noise smbStraps s := rfl
theorem exec_fuseRead (tj : Nat) (noise : List FuseSense) (s : State) : exec (.fuseRead tj noise) s = execFuseRead tj noise s := rfl
theorem exec_memoryInitDone (populated perChGib : Nat) (s : State) : exec (.memoryInitDone populated perChGib) s = execMemoryInitDone populated perChGib s := rfl
theorem exec_perstAssert (s : State) : exec (.perstAssert) s = execPerstAssert s := rfl
theorem exec_perstDeassert (s : State) : exec (.perstDeassert) s = execPerstDeassert s := rfl
theorem exec_perstHeld (s : State) : exec (.perstHeld) s = execPerstHeld s := rfl
theorem exec_watchdog (s : State) : exec (.watchdog) s = execWatchdog s := rfl
theorem exec_kick (s : State) : exec (.kick) s = execKick s := rfl
theorem exec_domainRequest (who : Requester) (v : Word) (s : State) : exec (.domainRequest who v) s = execDomainRequest who v s := rfl
theorem exec_domainReady (d : Nat) (s : State) : exec (.domainReady d) s = execDomainReady d s := rfl
theorem exec_domainSwitchOff (d : Nat) (s : State) : exec (.domainSwitchOff d) s = execDomainSwitchOff d s := rfl
theorem exec_pwrfail (s : State) :
    exec (.pwrfail) s = execPwrfail s := rfl
theorem exec_corePgRise (s : State) : exec (.corePgRise) s = execCorePgRise s := rfl
theorem exec_corePgFall (s : State) : exec (.corePgFall) s = execCorePgFall s := rfl
theorem exec_smbusTargetTimeout (s : State) :
    exec (.smbusTargetTimeout) s = execSmbusTargetTimeout s := rfl
theorem exec_sensorBusStuck (high : Bool) (s : State) : exec (.sensorBusStuck high) s = execSensorBusStuck high s := rfl
theorem exec_sensorBusRetry (high : Bool) (s : State) : exec (.sensorBusRetry high) s = execSensorBusRetry high s := rfl
theorem exec_vstatus (s : State) : exec (.vstatus) s = execVstatus s := rfl
theorem exec_vsinter (code : Nat) (s : State) : exec (.vsinter code) s = execVsinter code s := rfl
theorem exec_vgroup (g : Nat) (s : State) : exec (.vgroup g) s = execVgroup g s := rfl
theorem exec_periodicSnapshot (bytes : Nat) (s : State) : exec (.periodicSnapshot bytes) s = execPeriodicSnapshot bytes s := rfl
theorem exec_sinterExport (env : Env) (s : State) : exec (.sinterExport env) s = execSinterExport env s := rfl
theorem exec_crcLoad (unit : Nat) (s : State) : exec (.crcLoad unit) s = execCrcLoad unit s := rfl
theorem exec_logEntryWrite (sev core : Nat) (trace : Bool) (id : Nat) (arg0 arg1 : Word) (env : Env) (s : State) : exec (.logEntryWrite sev core trace id arg0 arg1 env) s = execLogEntryWrite sev core trace id arg0 arg1 env s := rfl
theorem exec_ventSample (sample : Nat) (s : State) : exec (.ventSample sample) s = execVentSample sample s := rfl
theorem exec_powerLoss (s : State) : exec (.powerLoss) s = execPowerLoss s := rfl
theorem exec_upstreamLinkTrained (link : LinkShape) (cfg : List (Nat × CfgField)) (s : State) :
    exec (.upstreamLinkTrained link cfg) s = execUpstreamLinkTrained link cfg s := rfl
theorem exec_interruptDisableClear (s : State) : exec (.interruptDisableClear) s = execInterruptDisableClear s := rfl
theorem exec_discoveryDisable (who : Requester) (v : Word) (s : State) : exec (.discoveryDisable who v) s = execDiscoveryDisable who v s := rfl
theorem exec_logRingEnable (who : Requester) (v : Word) (s : State) : exec (.logRingEnable who v) s = execLogRingEnable who v s := rfl
theorem exec_gateEntryAdvance (port : Nat) (s : State) : exec (.gateEntryAdvance port) s = execGateEntryAdvance port s := rfl
theorem exec_autonomousPowerStateTransition (fn idleMs : Nat) (s : State) :
    exec (.autonomousPowerStateTransition fn idleMs) s = execAutonomousPowerStateTransition fn idleMs s := rfl
theorem exec_extest (s : State) : exec (.extest) s = execExtest s := rfl
theorem exec_driveMemoryRequest (port : Nat) (addr : Nat) (s : State) : exec (.driveMemoryRequest port addr) s = execDriveMemoryRequest port addr s := rfl
theorem exec_undefinedInstruction (core : Nat) (s : State) : exec (.undefinedInstruction core) s = execUndefinedInstruction core s := rfl

end Sys2Proof.Machine
end

