-- ==== Sys2Proof/Laws/Table.lean ====
section
/-! SUPPORT. What the operations over sparse tables do: a key reads as what was last stored under it, and no operation
touches another key; each keeps the canonical form. -/

namespace Sys2Proof.Machine

theorem Tbl.find?_set_same {α : Type} (k : Nat) (v : α) (t : Tbl α) : Tbl.find? k (Tbl.set k v t) = some v := by
  induction t with
  | nil => simp [Tbl.set, Tbl.find?]
  | cons e t ih =>
    obtain ⟨j, w⟩ := e
    simp only [Tbl.set]
    split
    · simp [Tbl.find?]
    · split
      · simp [Tbl.find?]
      · have : j ≠ k := fun h => by omega
        simp [Tbl.find?, this, ih]

theorem Tbl.find?_set_ne {α : Type} {k j : Nat} (h : j ≠ k) (v : α) (t : Tbl α) :
    Tbl.find? j (Tbl.set k v t) = Tbl.find? j t := by
  induction t with
  | nil => simp [Tbl.set, Tbl.find?, h.symm]
  | cons e t ih =>
    obtain ⟨i, w⟩ := e
    simp only [Tbl.set]
    split
    · simp [Tbl.find?, h.symm]
    · split
      · next hk => subst hk; simp [Tbl.find?, h.symm]
      · simp only [Tbl.find?, ih]

theorem Tbl.find?_del_same {α : Type} (k : Nat) (t : Tbl α) : Tbl.find? k (Tbl.del k t) = none := by
  induction t with
  | nil => rfl
  | cons e t ih =>
    obtain ⟨i, w⟩ := e
    simp only [Tbl.del]
    split
    · exact ih
    · next h => simp [Tbl.find?, h, ih]

theorem Tbl.find?_del_ne {α : Type} {k j : Nat} (h : j ≠ k) (t : Tbl α) :
    Tbl.find? j (Tbl.del k t) = Tbl.find? j t := by
  induction t with
  | nil => rfl
  | cons e t ih =>
    obtain ⟨i, w⟩ := e
    simp only [Tbl.del]
    split
    · next hk => subst hk; simp [Tbl.find?, h.symm, ih]
    · simp only [Tbl.find?, ih]

@[simp] theorem Tbl.getD_set_same {α : Type} (k : Nat) (v d : α) (t : Tbl α) : Tbl.getD (Tbl.set k v t) k d = v := by
  simp [Tbl.getD, Tbl.find?_set_same]

theorem Tbl.getD_set_ne {α : Type} {k j : Nat} (h : j ≠ k) (v d : α) (t : Tbl α) :
    Tbl.getD (Tbl.set k v t) j d = Tbl.getD t j d := by
  simp [Tbl.getD, Tbl.find?_set_ne h]

@[simp] theorem Tbl.getD_put_same {α : Type} [DecidableEq α] (d : α) (k : Nat) (v : α) (t : Tbl α) :
    Tbl.getD (Tbl.put d k v t) k d = v := by
  unfold Tbl.put
  split
  · next h => simp [Tbl.getD, Tbl.find?_del_same, h]
  · simp

theorem Tbl.getD_put_ne {α : Type} [DecidableEq α] {k j : Nat} (h : j ≠ k) (d e v : α) (t : Tbl α) :
    Tbl.getD (Tbl.put d k v t) j e = Tbl.getD t j e := by
  unfold Tbl.put
  split
  · simp [Tbl.getD, Tbl.find?_del_ne h]
  · simp [Tbl.getD, Tbl.find?_set_ne h]

theorem Tbl.above_trans {α : Type} {i k : Nat} (h : i < k) {t : Tbl α} (ht : Tbl.above k t = true) :
    Tbl.above i t = true := by
  induction t with
  | nil => rfl
  | cons e t ih =>
    obtain ⟨j, w⟩ := e
    simp only [Tbl.above, Bool.and_eq_true, decide_eq_true_eq] at ht ⊢
    exact ⟨by omega, ih ht.2⟩

theorem Tbl.above_set {α : Type} {i k : Nat} (h : i < k) (v : α) {t : Tbl α} (ht : Tbl.above i t = true) :
    Tbl.above i (Tbl.set k v t) = true := by
  induction t with
  | nil => simp [Tbl.set, Tbl.above, h]
  | cons e t ih =>
    obtain ⟨j, w⟩ := e
    simp only [Tbl.above, Bool.and_eq_true, decide_eq_true_eq] at ht
    simp only [Tbl.set]
    split
    · simp [Tbl.above, h, ht]
    · split
      · simp [Tbl.above, h, ht]
      · simp [Tbl.above, ht.1, ih ht.2]

theorem Tbl.sorted_set {α : Type} (k : Nat) (v : α) {t : Tbl α} (ht : Tbl.sorted t = true) :
    Tbl.sorted (Tbl.set k v t) = true := by
  induction t with
  | nil => rfl
  | cons e t ih =>
    obtain ⟨j, w⟩ := e
    simp only [Tbl.sorted, Bool.and_eq_true] at ht
    simp only [Tbl.set]
    split
    · next h => simp [Tbl.sorted, Tbl.above, h, ht, Tbl.above_trans h ht.1]
    · split
      · next h => subst h; simp [Tbl.sorted, ht]
      · simp only [Tbl.sorted, Bool.and_eq_true]
        exact ⟨Tbl.above_set (by omega) v ht.1, ih ht.2⟩

theorem Tbl.above_del {α : Type} {i : Nat} (k : Nat) {t : Tbl α} (ht : Tbl.above i t = true) :
    Tbl.above i (Tbl.del k t) = true := by
  induction t with
  | nil => rfl
  | cons e t ih =>
    obtain ⟨j, w⟩ := e
    simp only [Tbl.above, Bool.and_eq_true] at ht
    simp only [Tbl.del]
    split
    · exact ih ht.2
    · simp [Tbl.above, ht.1, ih ht.2]

theorem Tbl.sorted_del {α : Type} (k : Nat) {t : Tbl α} (ht : Tbl.sorted t = true) :
    Tbl.sorted (Tbl.del k t) = true := by
  induction t with
  | nil => rfl
  | cons e t ih =>
    obtain ⟨j, w⟩ := e
    simp only [Tbl.sorted, Bool.and_eq_true] at ht
    simp only [Tbl.del]
    split
    · exact ih ht.2
    · simp [Tbl.sorted, Tbl.above_del k ht.1, ih ht.2]

theorem Tbl.all_set {α : Type} (p : Nat × α → Bool) (k : Nat) (v : α) (hv : p (k, v) = true) {t : Tbl α}
    (ht : t.all p = true) : (Tbl.set k v t).all p = true := by
  induction t with
  | nil => simp [Tbl.set, hv]
  | cons e t ih =>
    obtain ⟨j, w⟩ := e
    rw [List.all_cons, Bool.and_eq_true] at ht
    simp only [Tbl.set]
    split
    · rw [List.all_cons, List.all_cons, hv, ht.1, ht.2]; rfl
    · split
      · rw [List.all_cons, hv, ht.2]; rfl
      · rw [List.all_cons, ht.1, ih ht.2]; rfl

theorem Tbl.all_del {α : Type} (p : Nat × α → Bool) (k : Nat) {t : Tbl α} (ht : t.all p = true) :
    (Tbl.del k t).all p = true := by
  induction t with
  | nil => rfl
  | cons e t ih =>
    obtain ⟨j, w⟩ := e
    rw [List.all_cons, Bool.and_eq_true] at ht
    simp only [Tbl.del]
    split
    · exact ih ht.2
    · rw [List.all_cons, ht.1, ih ht.2]; rfl

/-- Storing under a key keeps the canonical form. -/
theorem Tbl.wf_put {α : Type} [DecidableEq α] (d : α) (k : Nat) (v : α) {t : Tbl α} (h : Tbl.wf d t = true) :
    Tbl.wf d (Tbl.put d k v t) = true := by
  simp only [Tbl.wf, Bool.and_eq_true] at h ⊢
  unfold Tbl.put
  split
  · exact ⟨Tbl.sorted_del k h.1, Tbl.all_del _ k h.2⟩
  · next hv => exact ⟨Tbl.sorted_set k v h.1, Tbl.all_set _ k v (by simpa using hv) h.2⟩

end Sys2Proof.Machine
end

