-- ==== Sys2Proof/Laws/Memory.lean ====
section
/-! SUPPORT. What the operations of a memory do: what reads back, what stays, and that every one keeps the canonical form. -/

namespace Sys2Proof.Machine

/-! Ranges of unspecified contents without an interval. -/

theorem mem_cut {lo hi a : Nat} {j k : Junk} (hk : k ∈ Junk.cut lo hi j) (ha : k.lo ≤ a ∧ a < k.hi) :
    (j.lo ≤ a ∧ a < j.hi) ∧ ¬ (lo ≤ a ∧ a < hi) ∧ k.seed = j.seed := by
  unfold Junk.cut at hk
  rcases List.mem_append.mp hk with h | h <;> split at h <;> simp at h <;> subst h <;> simp at ha ⊢ <;> omega

theorem cut_covers {lo hi a : Nat} {j : Junk} (ha : j.lo ≤ a ∧ a < j.hi) (hn : ¬ (lo ≤ a ∧ a < hi)) :
    ∃ k ∈ Junk.cut lo hi j, k.lo ≤ a ∧ a < k.hi := by
  unfold Junk.cut
  rcases Nat.lt_or_ge a lo with h | h
  · refine ⟨{ j with hi := min lo j.hi }, ?_, ?_⟩ <;> simp <;> omega
  · refine ⟨{ j with lo := max hi j.lo }, ?_, ?_⟩ <;> simp <;> omega

/-! Reading. -/

/-- A byte written reads back. -/
@[simp] theorem Memory.read_write_same (a : Nat) (b : Byte) (m : Memory) : (m.write a b).read a = b := by
  have hj : (m.junk.flatMap (Junk.cut a (a + 1))).find? (fun j => decide (j.lo ≤ a ∧ a < j.hi)) = none := by
    rw [List.find?_eq_none]
    intro k hk
    obtain ⟨j, _, hj⟩ := List.mem_flatMap.mp hk
    simp only [decide_eq_true_eq]
    intro ha
    have := mem_cut hj ha
    omega
  unfold Memory.read Memory.write Tbl.put
  by_cases hb : b = 0
  · rw [if_pos hb, Tbl.find?_del_same, hj, hb]
  · rw [if_neg hb, Tbl.find?_set_same]

/-! The canonical form. -/

theorem Memory.wf_empty : Memory.wf {} = true := by decide

/-- Junk is checked cell by cell. -/
theorem Memory.wf_iff (m : Memory) : m.wf = true ↔
    Tbl.wf 0 m.cells = true ∧ ∀ c ∈ m.cells, ∀ j ∈ m.junk, ¬ (j.lo ≤ c.1 ∧ c.1 < j.hi) := by
  simp only [Memory.wf, List.all_eq_true, Bool.and_eq_true, Bool.not_eq_true', decide_eq_false_iff_not]

theorem Tbl.mem_put {α : Type} [DecidableEq α] {d v : α} {k : Nat} {t : Tbl α} {e : Nat × α} (h : e ∈ Tbl.put d k v t) :
    e = (k, v) ∨ e ∈ t := by
  have hs : ∀ t : Tbl α, e ∈ Tbl.set k v t → e = (k, v) ∨ e ∈ t := by
    intro t
    induction t with
    | nil => simp [Tbl.set]
    | cons x t ih =>
      obtain ⟨j, w⟩ := x
      unfold Tbl.set
      split
      · simp
      · split
        · simp; tauto
        · simp only [List.mem_cons]
          rintro (h | h)
          · exact .inr (.inl h)
          · rcases ih h with h | h <;> tauto
  have hd : ∀ t : Tbl α, e ∈ Tbl.del k t → e ∈ t := by
    intro t
    induction t with
    | nil => simp [Tbl.del]
    | cons x t ih =>
      obtain ⟨j, w⟩ := x
      unfold Tbl.del
      split
      · intro h; exact List.mem_cons_of_mem _ (ih h)
      · simp only [List.mem_cons]
        rintro (h | h)
        · exact .inl h
        · exact .inr (ih h)
  unfold Tbl.put at h
  split at h
  · exact .inr (hd t h)
  · exact hs t h

/-- A write keeps the canonical form. -/
theorem Memory.wf_write (a : Nat) (b : Byte) {m : Memory} (h : m.wf = true) : (m.write a b).wf = true := by
  rw [Memory.wf_iff] at h ⊢
  refine ⟨Tbl.wf_put 0 a b h.1, ?_⟩
  intro c hc j hj hin
  obtain ⟨j0, hj0, hj1⟩ := List.mem_flatMap.mp hj
  have hcut := mem_cut hj1 hin
  rcases Tbl.mem_put hc with rfl | hc
  · exact hcut.2.1 ⟨Nat.le_refl _, Nat.lt_succ_self _⟩
  · exact h.2 c hc j0 hj0 hcut.1

theorem Memory.wf_writeList (a : Nat) (l : List Byte) {m : Memory} (h : m.wf = true) :
    (Memory.writeList a l m).wf = true := by
  induction l generalizing a m with
  | nil => exact h
  | cons b t ih => exact ih (a + 1) (Memory.wf_write a b h)

theorem Tbl.above_filter {α : Type} (k : Nat) (p : Nat × α → Bool) {t : Tbl α} (h : Tbl.above k t = true) :
    Tbl.above k (t.filter p) = true := by
  induction t with
  | nil => rfl
  | cons x t ih =>
    simp only [Tbl.above, Bool.and_eq_true, decide_eq_true_eq] at h
    simp only [List.filter_cons]
    split
    · simp [Tbl.above, h.1, ih h.2]
    · exact ih h.2

theorem Tbl.wf_filter {α : Type} [DecidableEq α] (d : α) (p : Nat × α → Bool) {t : Tbl α} (h : Tbl.wf d t = true) :
    Tbl.wf d (t.filter p) = true := by
  simp only [Tbl.wf, Bool.and_eq_true, List.all_eq_true] at h ⊢
  refine ⟨?_, fun x hx => h.2 x (List.mem_filter.mp hx).1⟩
  have hs := h.1
  clear h
  induction t with
  | nil => rfl
  | cons x t ih =>
    simp only [Tbl.sorted, Bool.and_eq_true] at hs
    simp only [List.filter_cons]
    split
    · simp [Tbl.sorted, Tbl.above_filter _ p hs.1, ih hs.2]
    · exact ih hs.2

/-- A spoiled range keeps the canonical form. -/
theorem Memory.wf_spoil (lo hi seed : Nat) {m : Memory} (h : m.wf = true) : (m.spoil lo hi seed).wf = true := by
  unfold Memory.spoil
  split
  · rw [Memory.wf_iff] at h ⊢
    refine ⟨Tbl.wf_filter 0 _ h.1, ?_⟩
    intro c hc j hj hin
    obtain ⟨hc0, hc1⟩ := List.mem_filter.mp hc
    rcases List.mem_cons.mp hj with rfl | hj
    · simp at hc1 hin; omega
    · obtain ⟨j0, hj0, hj1⟩ := List.mem_flatMap.mp hj
      exact h.2 c hc0 j0 hj0 (mem_cut hj1 hin).1
  · exact h

/-- An erased range keeps the canonical form. -/
theorem Memory.wf_erase (lo hi : Nat) {m : Memory} (h : m.wf = true) : (m.erase lo hi).wf = true := by
  unfold Memory.erase
  split
  · rw [Memory.wf_iff] at h ⊢
    refine ⟨Tbl.wf_filter 0 _ h.1, ?_⟩
    intro c hc j hj hin
    obtain ⟨j0, hj0, hj1⟩ := List.mem_flatMap.mp hj
    exact h.2 c (List.mem_filter.mp hc).1 j0 hj0 (mem_cut hj1 hin).1
  · exact h

/-- The memories of the state after reset are canonical. -/
theorem reset_memories_wf : State.reset.mem.dev.wf = true ∧ State.reset.mem.host.wf = true ∧ State.reset.fum.flash.wf = true ∧
    State.reset.fum.shared.wf = true ∧ State.reset.fum.sinterBuf.wf = true ∧ State.reset.fum.keyBus.wf = true := by
  decide

end Sys2Proof.Machine
end

