-- ==== Sys2Proof/Laws/Regs.lean ====
section
/-! SUPPORT. What a write of one field does to the register file: the field reads as what was written, cut to its width,
and every other field as before. -/

namespace Sys2Proof.Machine

@[simp] theorem getF_setF_same (f : Fld) (i v : Nat) (r : Regs) : getF (setF f i v r) f i = v % 2 ^ f.width := by
  simp [getF, setF]

theorem getF_setF_ne {f g : Fld} {i j : Nat} (h : g.key j ≠ f.key i) (v : Nat) (r : Regs) :
    getF (setF f i v r) g j = getF r g j := by
  simp [getF, setF, Tbl.getD_put_ne h]

@[simp] theorem fld_setFld_same (s : State) (f : Fld) (i v : Nat) : (s.setFld f i v).fld f i = v % 2 ^ f.width := by
  simp [State.fld, State.setFld]

theorem fld_setFld_ne {f g : Fld} {i j : Nat} (h : g.key j ≠ f.key i) (s : State) (v : Nat) :
    (s.setFld f i v).fld g j = s.fld g j := by
  simp [State.fld, State.setFld, getF_setF_ne h]

/-- A field that a write names reads as the value written; any other reads as before. -/
theorem fld_setFld (s : State) (f g : Fld) (i j v : Nat) (h : g.key j = f.key i → g = f ∧ j = i) :
    (s.setFld f i v).fld g j = if g.key j = f.key i then v % 2 ^ f.width else s.fld g j := by
  split
  · next e => obtain ⟨rfl, rfl⟩ := h e; simp
  · next e => exact fld_setFld_ne e s v

@[simp] theorem fld_setFlag_same (s : State) (f : Fld) (i : Nat) (b : Bool) (h : f.width = 1) :
    (s.setFlag f i b).fld f i = ofBit b := by
  cases b <;> simp [State.setFlag, h, ofBit]

theorem fld_setFlag_ne {f g : Fld} {i j : Nat} (h : g.key j ≠ f.key i) (s : State) (b : Bool) :
    (s.setFlag f i b).fld g j = s.fld g j := fld_setFld_ne h s _

theorem inc_eq (s : State) (f : Fld) (i : Nat) : s.inc f i = s.setFld f i (s.fld f i + 1) := rfl

theorem flag_eq (s : State) (f : Fld) (i : Nat) : s.flag f i = (s.fld f i != 0) := rfl

/-- A write of a field touches the register file alone. -/
theorem setFld_frame (s : State) (f : Fld) (i v : Nat) : s.setFld f i v = { s with regs := (s.setFld f i v).regs } := rfl

/-- Every register keeps its canonical form. -/
theorem setF_wf_sorted (f : Fld) (i v : Nat) {r : Regs} (h : Tbl.sorted r = true) : Tbl.sorted (setF f i v r) = true := by
  unfold setF Tbl.put
  split
  · exact Tbl.sorted_del _ h
  · exact Tbl.sorted_set _ _ h

end Sys2Proof.Machine
end

