-- ==== Sys2Proof/Laws/State.lean ====
section
/-! SUPPORT. What each update of the state leaves: one lemma per update and field, so that no proof unfolds a record update. -/

namespace Sys2Proof.Machine

variable (s : State)

/-! setFld: it changes `regs` alone. -/

@[simp] theorem State.setFld_pending (f : Fld) (i v : Nat) : (s.setFld f i v).pending = s.pending := rfl
@[simp] theorem State.setFld_fresh (f : Fld) (i v : Nat) : (s.setFld f i v).fresh = s.fresh := rfl
@[simp] theorem State.setFld_tb (f : Fld) (i v : Nat) : (s.setFld f i v).tb = s.tb := rfl
@[simp] theorem State.setFld_rng (f : Fld) (i v : Nat) : (s.setFld f i v).rng = s.rng := rfl
@[simp] theorem State.setFld_hep (f : Fld) (i v : Nat) : (s.setFld f i v).hep = s.hep := rfl
@[simp] theorem State.setFld_mem (f : Fld) (i v : Nat) : (s.setFld f i v).mem = s.mem := rfl
@[simp] theorem State.setFld_tiles (f : Fld) (i v : Nat) : (s.setFld f i v).tiles = s.tiles := rfl
@[simp] theorem State.setFld_roles (f : Fld) (i v : Nat) : (s.setFld f i v).roles = s.roles := rfl
@[simp] theorem State.setFld_gey (f : Fld) (i v : Nat) : (s.setFld f i v).gey = s.gey := rfl
@[simp] theorem State.setFld_mcores (f : Fld) (i v : Nat) : (s.setFld f i v).mcores = s.mcores := rfl
@[simp] theorem State.setFld_snt (f : Fld) (i v : Nat) : (s.setFld f i v).snt = s.snt := rfl
@[simp] theorem State.setFld_vnt (f : Fld) (i v : Nat) : (s.setFld f i v).vnt = s.vnt := rfl
@[simp] theorem State.setFld_fum (f : Fld) (i v : Nat) : (s.setFld f i v).fum = s.fum := rfl
@[simp] theorem State.setFld_sec (f : Fld) (i v : Nat) : (s.setFld f i v).sec = s.sec := rfl
@[simp] theorem State.setFld_sto (f : Fld) (i v : Nat) : (s.setFld f i v).sto = s.sto := rfl
@[simp] theorem State.setFld_sch (f : Fld) (i v : Nat) : (s.setFld f i v).sch = s.sch := rfl
@[simp] theorem State.setFld_net (f : Fld) (i v : Nat) : (s.setFld f i v).net = s.net := rfl
@[simp] theorem State.setFld_rdm (f : Fld) (i v : Nat) : (s.setFld f i v).rdm = s.rdm := rfl
@[simp] theorem State.setFld_ckp (f : Fld) (i v : Nat) : (s.setFld f i v).ckp = s.ckp := rfl

/-! setFlag: it changes `regs` alone. -/

@[simp] theorem State.setFlag_pending (f : Fld) (i : Nat) (b : Bool) : (s.setFlag f i b).pending = s.pending := rfl
@[simp] theorem State.setFlag_fresh (f : Fld) (i : Nat) (b : Bool) : (s.setFlag f i b).fresh = s.fresh := rfl
@[simp] theorem State.setFlag_tb (f : Fld) (i : Nat) (b : Bool) : (s.setFlag f i b).tb = s.tb := rfl
@[simp] theorem State.setFlag_rng (f : Fld) (i : Nat) (b : Bool) : (s.setFlag f i b).rng = s.rng := rfl
@[simp] theorem State.setFlag_hep (f : Fld) (i : Nat) (b : Bool) : (s.setFlag f i b).hep = s.hep := rfl
@[simp] theorem State.setFlag_mem (f : Fld) (i : Nat) (b : Bool) : (s.setFlag f i b).mem = s.mem := rfl
@[simp] theorem State.setFlag_tiles (f : Fld) (i : Nat) (b : Bool) : (s.setFlag f i b).tiles = s.tiles := rfl
@[simp] theorem State.setFlag_roles (f : Fld) (i : Nat) (b : Bool) : (s.setFlag f i b).roles = s.roles := rfl
@[simp] theorem State.setFlag_gey (f : Fld) (i : Nat) (b : Bool) : (s.setFlag f i b).gey = s.gey := rfl
@[simp] theorem State.setFlag_mcores (f : Fld) (i : Nat) (b : Bool) : (s.setFlag f i b).mcores = s.mcores := rfl
@[simp] theorem State.setFlag_snt (f : Fld) (i : Nat) (b : Bool) : (s.setFlag f i b).snt = s.snt := rfl
@[simp] theorem State.setFlag_vnt (f : Fld) (i : Nat) (b : Bool) : (s.setFlag f i b).vnt = s.vnt := rfl
@[simp] theorem State.setFlag_fum (f : Fld) (i : Nat) (b : Bool) : (s.setFlag f i b).fum = s.fum := rfl
@[simp] theorem State.setFlag_sec (f : Fld) (i : Nat) (b : Bool) : (s.setFlag f i b).sec = s.sec := rfl
@[simp] theorem State.setFlag_sto (f : Fld) (i : Nat) (b : Bool) : (s.setFlag f i b).sto = s.sto := rfl
@[simp] theorem State.setFlag_sch (f : Fld) (i : Nat) (b : Bool) : (s.setFlag f i b).sch = s.sch := rfl
@[simp] theorem State.setFlag_net (f : Fld) (i : Nat) (b : Bool) : (s.setFlag f i b).net = s.net := rfl
@[simp] theorem State.setFlag_rdm (f : Fld) (i : Nat) (b : Bool) : (s.setFlag f i b).rdm = s.rdm := rfl
@[simp] theorem State.setFlag_ckp (f : Fld) (i : Nat) (b : Bool) : (s.setFlag f i b).ckp = s.ckp := rfl

/-! inc: it changes `regs` alone. -/

@[simp] theorem State.inc_pending (f : Fld) (i : Nat) : (s.inc f i).pending = s.pending := rfl
@[simp] theorem State.inc_fresh (f : Fld) (i : Nat) : (s.inc f i).fresh = s.fresh := rfl
@[simp] theorem State.inc_tb (f : Fld) (i : Nat) : (s.inc f i).tb = s.tb := rfl
@[simp] theorem State.inc_rng (f : Fld) (i : Nat) : (s.inc f i).rng = s.rng := rfl
@[simp] theorem State.inc_hep (f : Fld) (i : Nat) : (s.inc f i).hep = s.hep := rfl
@[simp] theorem State.inc_mem (f : Fld) (i : Nat) : (s.inc f i).mem = s.mem := rfl
@[simp] theorem State.inc_tiles (f : Fld) (i : Nat) : (s.inc f i).tiles = s.tiles := rfl
@[simp] theorem State.inc_roles (f : Fld) (i : Nat) : (s.inc f i).roles = s.roles := rfl
@[simp] theorem State.inc_gey (f : Fld) (i : Nat) : (s.inc f i).gey = s.gey := rfl
@[simp] theorem State.inc_mcores (f : Fld) (i : Nat) : (s.inc f i).mcores = s.mcores := rfl
@[simp] theorem State.inc_snt (f : Fld) (i : Nat) : (s.inc f i).snt = s.snt := rfl
@[simp] theorem State.inc_vnt (f : Fld) (i : Nat) : (s.inc f i).vnt = s.vnt := rfl
@[simp] theorem State.inc_fum (f : Fld) (i : Nat) : (s.inc f i).fum = s.fum := rfl
@[simp] theorem State.inc_sec (f : Fld) (i : Nat) : (s.inc f i).sec = s.sec := rfl
@[simp] theorem State.inc_sto (f : Fld) (i : Nat) : (s.inc f i).sto = s.sto := rfl
@[simp] theorem State.inc_sch (f : Fld) (i : Nat) : (s.inc f i).sch = s.sch := rfl
@[simp] theorem State.inc_net (f : Fld) (i : Nat) : (s.inc f i).net = s.net := rfl
@[simp] theorem State.inc_rdm (f : Fld) (i : Nat) : (s.inc f i).rdm = s.rdm := rfl
@[simp] theorem State.inc_ckp (f : Fld) (i : Nat) : (s.inc f i).ckp = s.ckp := rfl

/-! bump: it changes `regs` alone. -/

@[simp] theorem State.bump_pending (f : Fld) (i n : Nat) : (s.bump f i n).pending = s.pending := rfl
@[simp] theorem State.bump_fresh (f : Fld) (i n : Nat) : (s.bump f i n).fresh = s.fresh := rfl
@[simp] theorem State.bump_tb (f : Fld) (i n : Nat) : (s.bump f i n).tb = s.tb := rfl
@[simp] theorem State.bump_rng (f : Fld) (i n : Nat) : (s.bump f i n).rng = s.rng := rfl
@[simp] theorem State.bump_hep (f : Fld) (i n : Nat) : (s.bump f i n).hep = s.hep := rfl
@[simp] theorem State.bump_mem (f : Fld) (i n : Nat) : (s.bump f i n).mem = s.mem := rfl
@[simp] theorem State.bump_tiles (f : Fld) (i n : Nat) : (s.bump f i n).tiles = s.tiles := rfl
@[simp] theorem State.bump_roles (f : Fld) (i n : Nat) : (s.bump f i n).roles = s.roles := rfl
@[simp] theorem State.bump_gey (f : Fld) (i n : Nat) : (s.bump f i n).gey = s.gey := rfl
@[simp] theorem State.bump_mcores (f : Fld) (i n : Nat) : (s.bump f i n).mcores = s.mcores := rfl
@[simp] theorem State.bump_snt (f : Fld) (i n : Nat) : (s.bump f i n).snt = s.snt := rfl
@[simp] theorem State.bump_vnt (f : Fld) (i n : Nat) : (s.bump f i n).vnt = s.vnt := rfl
@[simp] theorem State.bump_fum (f : Fld) (i n : Nat) : (s.bump f i n).fum = s.fum := rfl
@[simp] theorem State.bump_sec (f : Fld) (i n : Nat) : (s.bump f i n).sec = s.sec := rfl
@[simp] theorem State.bump_sto (f : Fld) (i n : Nat) : (s.bump f i n).sto = s.sto := rfl
@[simp] theorem State.bump_sch (f : Fld) (i n : Nat) : (s.bump f i n).sch = s.sch := rfl
@[simp] theorem State.bump_net (f : Fld) (i n : Nat) : (s.bump f i n).net = s.net := rfl
@[simp] theorem State.bump_rdm (f : Fld) (i n : Nat) : (s.bump f i n).rdm = s.rdm := rfl
@[simp] theorem State.bump_ckp (f : Fld) (i n : Nat) : (s.bump f i n).ckp = s.ckp := rfl

/-! setTile: it changes `tiles` alone. -/

@[simp] theorem State.setTile_pending (n : Nat) (t : Tile) : (s.setTile n t).pending = s.pending := rfl
@[simp] theorem State.setTile_fresh (n : Nat) (t : Tile) : (s.setTile n t).fresh = s.fresh := rfl
@[simp] theorem State.setTile_regs (n : Nat) (t : Tile) : (s.setTile n t).regs = s.regs := rfl
@[simp] theorem State.setTile_tb (n : Nat) (t : Tile) : (s.setTile n t).tb = s.tb := rfl
@[simp] theorem State.setTile_rng (n : Nat) (t : Tile) : (s.setTile n t).rng = s.rng := rfl
@[simp] theorem State.setTile_hep (n : Nat) (t : Tile) : (s.setTile n t).hep = s.hep := rfl
@[simp] theorem State.setTile_mem (n : Nat) (t : Tile) : (s.setTile n t).mem = s.mem := rfl
@[simp] theorem State.setTile_roles (n : Nat) (t : Tile) : (s.setTile n t).roles = s.roles := rfl
@[simp] theorem State.setTile_gey (n : Nat) (t : Tile) : (s.setTile n t).gey = s.gey := rfl
@[simp] theorem State.setTile_mcores (n : Nat) (t : Tile) : (s.setTile n t).mcores = s.mcores := rfl
@[simp] theorem State.setTile_snt (n : Nat) (t : Tile) : (s.setTile n t).snt = s.snt := rfl
@[simp] theorem State.setTile_vnt (n : Nat) (t : Tile) : (s.setTile n t).vnt = s.vnt := rfl
@[simp] theorem State.setTile_fum (n : Nat) (t : Tile) : (s.setTile n t).fum = s.fum := rfl
@[simp] theorem State.setTile_sec (n : Nat) (t : Tile) : (s.setTile n t).sec = s.sec := rfl
@[simp] theorem State.setTile_sto (n : Nat) (t : Tile) : (s.setTile n t).sto = s.sto := rfl
@[simp] theorem State.setTile_sch (n : Nat) (t : Tile) : (s.setTile n t).sch = s.sch := rfl
@[simp] theorem State.setTile_net (n : Nat) (t : Tile) : (s.setTile n t).net = s.net := rfl
@[simp] theorem State.setTile_rdm (n : Nat) (t : Tile) : (s.setTile n t).rdm = s.rdm := rfl
@[simp] theorem State.setTile_ckp (n : Nat) (t : Tile) : (s.setTile n t).ckp = s.ckp := rfl

/-! setRing: it changes `rng` alone. -/

@[simp] theorem State.setRing_pending (n : Nat) (r : Ring) : (s.setRing n r).pending = s.pending := rfl
@[simp] theorem State.setRing_fresh (n : Nat) (r : Ring) : (s.setRing n r).fresh = s.fresh := rfl
@[simp] theorem State.setRing_regs (n : Nat) (r : Ring) : (s.setRing n r).regs = s.regs := rfl
@[simp] theorem State.setRing_tb (n : Nat) (r : Ring) : (s.setRing n r).tb = s.tb := rfl
@[simp] theorem State.setRing_hep (n : Nat) (r : Ring) : (s.setRing n r).hep = s.hep := rfl
@[simp] theorem State.setRing_mem (n : Nat) (r : Ring) : (s.setRing n r).mem = s.mem := rfl
@[simp] theorem State.setRing_tiles (n : Nat) (r : Ring) : (s.setRing n r).tiles = s.tiles := rfl
@[simp] theorem State.setRing_roles (n : Nat) (r : Ring) : (s.setRing n r).roles = s.roles := rfl
@[simp] theorem State.setRing_gey (n : Nat) (r : Ring) : (s.setRing n r).gey = s.gey := rfl
@[simp] theorem State.setRing_mcores (n : Nat) (r : Ring) : (s.setRing n r).mcores = s.mcores := rfl
@[simp] theorem State.setRing_snt (n : Nat) (r : Ring) : (s.setRing n r).snt = s.snt := rfl
@[simp] theorem State.setRing_vnt (n : Nat) (r : Ring) : (s.setRing n r).vnt = s.vnt := rfl
@[simp] theorem State.setRing_fum (n : Nat) (r : Ring) : (s.setRing n r).fum = s.fum := rfl
@[simp] theorem State.setRing_sec (n : Nat) (r : Ring) : (s.setRing n r).sec = s.sec := rfl
@[simp] theorem State.setRing_sto (n : Nat) (r : Ring) : (s.setRing n r).sto = s.sto := rfl
@[simp] theorem State.setRing_sch (n : Nat) (r : Ring) : (s.setRing n r).sch = s.sch := rfl
@[simp] theorem State.setRing_net (n : Nat) (r : Ring) : (s.setRing n r).net = s.net := rfl
@[simp] theorem State.setRing_rdm (n : Nat) (r : Ring) : (s.setRing n r).rdm = s.rdm := rfl
@[simp] theorem State.setRing_ckp (n : Nat) (r : Ring) : (s.setRing n r).ckp = s.ckp := rfl

/-! setSlot: it changes `rng` alone. -/

@[simp] theorem State.setSlot_pending (n : Nat) (x : Slot) : (s.setSlot n x).pending = s.pending := rfl
@[simp] theorem State.setSlot_fresh (n : Nat) (x : Slot) : (s.setSlot n x).fresh = s.fresh := rfl
@[simp] theorem State.setSlot_regs (n : Nat) (x : Slot) : (s.setSlot n x).regs = s.regs := rfl
@[simp] theorem State.setSlot_tb (n : Nat) (x : Slot) : (s.setSlot n x).tb = s.tb := rfl
@[simp] theorem State.setSlot_hep (n : Nat) (x : Slot) : (s.setSlot n x).hep = s.hep := rfl
@[simp] theorem State.setSlot_mem (n : Nat) (x : Slot) : (s.setSlot n x).mem = s.mem := rfl
@[simp] theorem State.setSlot_tiles (n : Nat) (x : Slot) : (s.setSlot n x).tiles = s.tiles := rfl
@[simp] theorem State.setSlot_roles (n : Nat) (x : Slot) : (s.setSlot n x).roles = s.roles := rfl
@[simp] theorem State.setSlot_gey (n : Nat) (x : Slot) : (s.setSlot n x).gey = s.gey := rfl
@[simp] theorem State.setSlot_mcores (n : Nat) (x : Slot) : (s.setSlot n x).mcores = s.mcores := rfl
@[simp] theorem State.setSlot_snt (n : Nat) (x : Slot) : (s.setSlot n x).snt = s.snt := rfl
@[simp] theorem State.setSlot_vnt (n : Nat) (x : Slot) : (s.setSlot n x).vnt = s.vnt := rfl
@[simp] theorem State.setSlot_fum (n : Nat) (x : Slot) : (s.setSlot n x).fum = s.fum := rfl
@[simp] theorem State.setSlot_sec (n : Nat) (x : Slot) : (s.setSlot n x).sec = s.sec := rfl
@[simp] theorem State.setSlot_sto (n : Nat) (x : Slot) : (s.setSlot n x).sto = s.sto := rfl
@[simp] theorem State.setSlot_sch (n : Nat) (x : Slot) : (s.setSlot n x).sch = s.sch := rfl
@[simp] theorem State.setSlot_net (n : Nat) (x : Slot) : (s.setSlot n x).net = s.net := rfl
@[simp] theorem State.setSlot_rdm (n : Nat) (x : Slot) : (s.setSlot n x).rdm = s.rdm := rfl
@[simp] theorem State.setSlot_ckp (n : Nat) (x : Slot) : (s.setSlot n x).ckp = s.ckp := rfl

/-! setCounter: it changes `rng` alone. -/

@[simp] theorem State.setCounter_pending (n : Nat) (w : Word) : (s.setCounter n w).pending = s.pending := rfl
@[simp] theorem State.setCounter_fresh (n : Nat) (w : Word) : (s.setCounter n w).fresh = s.fresh := rfl
@[simp] theorem State.setCounter_regs (n : Nat) (w : Word) : (s.setCounter n w).regs = s.regs := rfl
@[simp] theorem State.setCounter_tb (n : Nat) (w : Word) : (s.setCounter n w).tb = s.tb := rfl
@[simp] theorem State.setCounter_hep (n : Nat) (w : Word) : (s.setCounter n w).hep = s.hep := rfl
@[simp] theorem State.setCounter_mem (n : Nat) (w : Word) : (s.setCounter n w).mem = s.mem := rfl
@[simp] theorem State.setCounter_tiles (n : Nat) (w : Word) : (s.setCounter n w).tiles = s.tiles := rfl
@[simp] theorem State.setCounter_roles (n : Nat) (w : Word) : (s.setCounter n w).roles = s.roles := rfl
@[simp] theorem State.setCounter_gey (n : Nat) (w : Word) : (s.setCounter n w).gey = s.gey := rfl
@[simp] theorem State.setCounter_mcores (n : Nat) (w : Word) : (s.setCounter n w).mcores = s.mcores := rfl
@[simp] theorem State.setCounter_snt (n : Nat) (w : Word) : (s.setCounter n w).snt = s.snt := rfl
@[simp] theorem State.setCounter_vnt (n : Nat) (w : Word) : (s.setCounter n w).vnt = s.vnt := rfl
@[simp] theorem State.setCounter_fum (n : Nat) (w : Word) : (s.setCounter n w).fum = s.fum := rfl
@[simp] theorem State.setCounter_sec (n : Nat) (w : Word) : (s.setCounter n w).sec = s.sec := rfl
@[simp] theorem State.setCounter_sto (n : Nat) (w : Word) : (s.setCounter n w).sto = s.sto := rfl
@[simp] theorem State.setCounter_sch (n : Nat) (w : Word) : (s.setCounter n w).sch = s.sch := rfl
@[simp] theorem State.setCounter_net (n : Nat) (w : Word) : (s.setCounter n w).net = s.net := rfl
@[simp] theorem State.setCounter_rdm (n : Nat) (w : Word) : (s.setCounter n w).rdm = s.rdm := rfl
@[simp] theorem State.setCounter_ckp (n : Nat) (w : Word) : (s.setCounter n w).ckp = s.ckp := rfl

/-! setCfg: it changes `hep` alone. -/

@[simp] theorem State.setCfg_pending (g : Nat) (c : FnConfig) : (s.setCfg g c).pending = s.pending := rfl
@[simp] theorem State.setCfg_fresh (g : Nat) (c : FnConfig) : (s.setCfg g c).fresh = s.fresh := rfl
@[simp] theorem State.setCfg_regs (g : Nat) (c : FnConfig) : (s.setCfg g c).regs = s.regs := rfl
@[simp] theorem State.setCfg_tb (g : Nat) (c : FnConfig) : (s.setCfg g c).tb = s.tb := rfl
@[simp] theorem State.setCfg_rng (g : Nat) (c : FnConfig) : (s.setCfg g c).rng = s.rng := rfl
@[simp] theorem State.setCfg_mem (g : Nat) (c : FnConfig) : (s.setCfg g c).mem = s.mem := rfl
@[simp] theorem State.setCfg_tiles (g : Nat) (c : FnConfig) : (s.setCfg g c).tiles = s.tiles := rfl
@[simp] theorem State.setCfg_roles (g : Nat) (c : FnConfig) : (s.setCfg g c).roles = s.roles := rfl
@[simp] theorem State.setCfg_gey (g : Nat) (c : FnConfig) : (s.setCfg g c).gey = s.gey := rfl
@[simp] theorem State.setCfg_mcores (g : Nat) (c : FnConfig) : (s.setCfg g c).mcores = s.mcores := rfl
@[simp] theorem State.setCfg_snt (g : Nat) (c : FnConfig) : (s.setCfg g c).snt = s.snt := rfl
@[simp] theorem State.setCfg_vnt (g : Nat) (c : FnConfig) : (s.setCfg g c).vnt = s.vnt := rfl
@[simp] theorem State.setCfg_fum (g : Nat) (c : FnConfig) : (s.setCfg g c).fum = s.fum := rfl
@[simp] theorem State.setCfg_sec (g : Nat) (c : FnConfig) : (s.setCfg g c).sec = s.sec := rfl
@[simp] theorem State.setCfg_sto (g : Nat) (c : FnConfig) : (s.setCfg g c).sto = s.sto := rfl
@[simp] theorem State.setCfg_sch (g : Nat) (c : FnConfig) : (s.setCfg g c).sch = s.sch := rfl
@[simp] theorem State.setCfg_net (g : Nat) (c : FnConfig) : (s.setCfg g c).net = s.net := rfl
@[simp] theorem State.setCfg_rdm (g : Nat) (c : FnConfig) : (s.setCfg g c).rdm = s.rdm := rfl
@[simp] theorem State.setCfg_ckp (g : Nat) (c : FnConfig) : (s.setCfg g c).ckp = s.ckp := rfl

/-! setUnit: it changes `mem` alone. -/

@[simp] theorem State.setUnit_pending (u : Nat) (x : UnitState) : (s.setUnit u x).pending = s.pending := rfl
@[simp] theorem State.setUnit_fresh (u : Nat) (x : UnitState) : (s.setUnit u x).fresh = s.fresh := rfl
@[simp] theorem State.setUnit_regs (u : Nat) (x : UnitState) : (s.setUnit u x).regs = s.regs := rfl
@[simp] theorem State.setUnit_tb (u : Nat) (x : UnitState) : (s.setUnit u x).tb = s.tb := rfl
@[simp] theorem State.setUnit_rng (u : Nat) (x : UnitState) : (s.setUnit u x).rng = s.rng := rfl
@[simp] theorem State.setUnit_hep (u : Nat) (x : UnitState) : (s.setUnit u x).hep = s.hep := rfl
@[simp] theorem State.setUnit_tiles (u : Nat) (x : UnitState) : (s.setUnit u x).tiles = s.tiles := rfl
@[simp] theorem State.setUnit_roles (u : Nat) (x : UnitState) : (s.setUnit u x).roles = s.roles := rfl
@[simp] theorem State.setUnit_gey (u : Nat) (x : UnitState) : (s.setUnit u x).gey = s.gey := rfl
@[simp] theorem State.setUnit_mcores (u : Nat) (x : UnitState) : (s.setUnit u x).mcores = s.mcores := rfl
@[simp] theorem State.setUnit_snt (u : Nat) (x : UnitState) : (s.setUnit u x).snt = s.snt := rfl
@[simp] theorem State.setUnit_vnt (u : Nat) (x : UnitState) : (s.setUnit u x).vnt = s.vnt := rfl
@[simp] theorem State.setUnit_fum (u : Nat) (x : UnitState) : (s.setUnit u x).fum = s.fum := rfl
@[simp] theorem State.setUnit_sec (u : Nat) (x : UnitState) : (s.setUnit u x).sec = s.sec := rfl
@[simp] theorem State.setUnit_sto (u : Nat) (x : UnitState) : (s.setUnit u x).sto = s.sto := rfl
@[simp] theorem State.setUnit_sch (u : Nat) (x : UnitState) : (s.setUnit u x).sch = s.sch := rfl
@[simp] theorem State.setUnit_net (u : Nat) (x : UnitState) : (s.setUnit u x).net = s.net := rfl
@[simp] theorem State.setUnit_rdm (u : Nat) (x : UnitState) : (s.setUnit u x).rdm = s.rdm := rfl
@[simp] theorem State.setUnit_ckp (u : Nat) (x : UnitState) : (s.setUnit u x).ckp = s.ckp := rfl

/-! setMcore: it changes `mcores` alone. -/

@[simp] theorem State.setMcore_pending (k : Nat) (c : Core) : (s.setMcore k c).pending = s.pending := rfl
@[simp] theorem State.setMcore_fresh (k : Nat) (c : Core) : (s.setMcore k c).fresh = s.fresh := rfl
@[simp] theorem State.setMcore_regs (k : Nat) (c : Core) : (s.setMcore k c).regs = s.regs := rfl
@[simp] theorem State.setMcore_tb (k : Nat) (c : Core) : (s.setMcore k c).tb = s.tb := rfl
@[simp] theorem State.setMcore_rng (k : Nat) (c : Core) : (s.setMcore k c).rng = s.rng := rfl
@[simp] theorem State.setMcore_hep (k : Nat) (c : Core) : (s.setMcore k c).hep = s.hep := rfl
@[simp] theorem State.setMcore_mem (k : Nat) (c : Core) : (s.setMcore k c).mem = s.mem := rfl
@[simp] theorem State.setMcore_tiles (k : Nat) (c : Core) : (s.setMcore k c).tiles = s.tiles := rfl
@[simp] theorem State.setMcore_roles (k : Nat) (c : Core) : (s.setMcore k c).roles = s.roles := rfl
@[simp] theorem State.setMcore_gey (k : Nat) (c : Core) : (s.setMcore k c).gey = s.gey := rfl
@[simp] theorem State.setMcore_snt (k : Nat) (c : Core) : (s.setMcore k c).snt = s.snt := rfl
@[simp] theorem State.setMcore_vnt (k : Nat) (c : Core) : (s.setMcore k c).vnt = s.vnt := rfl
@[simp] theorem State.setMcore_fum (k : Nat) (c : Core) : (s.setMcore k c).fum = s.fum := rfl
@[simp] theorem State.setMcore_sec (k : Nat) (c : Core) : (s.setMcore k c).sec = s.sec := rfl
@[simp] theorem State.setMcore_sto (k : Nat) (c : Core) : (s.setMcore k c).sto = s.sto := rfl
@[simp] theorem State.setMcore_sch (k : Nat) (c : Core) : (s.setMcore k c).sch = s.sch := rfl
@[simp] theorem State.setMcore_net (k : Nat) (c : Core) : (s.setMcore k c).net = s.net := rfl
@[simp] theorem State.setMcore_rdm (k : Nat) (c : Core) : (s.setMcore k c).rdm = s.rdm := rfl
@[simp] theorem State.setMcore_ckp (k : Nat) (c : Core) : (s.setMcore k c).ckp = s.ckp := rfl

/-! setDev: it changes `mem` alone. -/

@[simp] theorem State.setDev_pending (m : Memory) : (s.setDev m).pending = s.pending := rfl
@[simp] theorem State.setDev_fresh (m : Memory) : (s.setDev m).fresh = s.fresh := rfl
@[simp] theorem State.setDev_regs (m : Memory) : (s.setDev m).regs = s.regs := rfl
@[simp] theorem State.setDev_tb (m : Memory) : (s.setDev m).tb = s.tb := rfl
@[simp] theorem State.setDev_rng (m : Memory) : (s.setDev m).rng = s.rng := rfl
@[simp] theorem State.setDev_hep (m : Memory) : (s.setDev m).hep = s.hep := rfl
@[simp] theorem State.setDev_tiles (m : Memory) : (s.setDev m).tiles = s.tiles := rfl
@[simp] theorem State.setDev_roles (m : Memory) : (s.setDev m).roles = s.roles := rfl
@[simp] theorem State.setDev_gey (m : Memory) : (s.setDev m).gey = s.gey := rfl
@[simp] theorem State.setDev_mcores (m : Memory) : (s.setDev m).mcores = s.mcores := rfl
@[simp] theorem State.setDev_snt (m : Memory) : (s.setDev m).snt = s.snt := rfl
@[simp] theorem State.setDev_vnt (m : Memory) : (s.setDev m).vnt = s.vnt := rfl
@[simp] theorem State.setDev_fum (m : Memory) : (s.setDev m).fum = s.fum := rfl
@[simp] theorem State.setDev_sec (m : Memory) : (s.setDev m).sec = s.sec := rfl
@[simp] theorem State.setDev_sto (m : Memory) : (s.setDev m).sto = s.sto := rfl
@[simp] theorem State.setDev_sch (m : Memory) : (s.setDev m).sch = s.sch := rfl
@[simp] theorem State.setDev_net (m : Memory) : (s.setDev m).net = s.net := rfl
@[simp] theorem State.setDev_rdm (m : Memory) : (s.setDev m).rdm = s.rdm := rfl
@[simp] theorem State.setDev_ckp (m : Memory) : (s.setDev m).ckp = s.ckp := rfl

/-! setHost: it changes `mem` alone. -/

@[simp] theorem State.setHost_pending (m : Memory) : (s.setHost m).pending = s.pending := rfl
@[simp] theorem State.setHost_fresh (m : Memory) : (s.setHost m).fresh = s.fresh := rfl
@[simp] theorem State.setHost_regs (m : Memory) : (s.setHost m).regs = s.regs := rfl
@[simp] theorem State.setHost_tb (m : Memory) : (s.setHost m).tb = s.tb := rfl
@[simp] theorem State.setHost_rng (m : Memory) : (s.setHost m).rng = s.rng := rfl
@[simp] theorem State.setHost_hep (m : Memory) : (s.setHost m).hep = s.hep := rfl
@[simp] theorem State.setHost_tiles (m : Memory) : (s.setHost m).tiles = s.tiles := rfl
@[simp] theorem State.setHost_roles (m : Memory) : (s.setHost m).roles = s.roles := rfl
@[simp] theorem State.setHost_gey (m : Memory) : (s.setHost m).gey = s.gey := rfl
@[simp] theorem State.setHost_mcores (m : Memory) : (s.setHost m).mcores = s.mcores := rfl
@[simp] theorem State.setHost_snt (m : Memory) : (s.setHost m).snt = s.snt := rfl
@[simp] theorem State.setHost_vnt (m : Memory) : (s.setHost m).vnt = s.vnt := rfl
@[simp] theorem State.setHost_fum (m : Memory) : (s.setHost m).fum = s.fum := rfl
@[simp] theorem State.setHost_sec (m : Memory) : (s.setHost m).sec = s.sec := rfl
@[simp] theorem State.setHost_sto (m : Memory) : (s.setHost m).sto = s.sto := rfl
@[simp] theorem State.setHost_sch (m : Memory) : (s.setHost m).sch = s.sch := rfl
@[simp] theorem State.setHost_net (m : Memory) : (s.setHost m).net = s.net := rfl
@[simp] theorem State.setHost_rdm (m : Memory) : (s.setHost m).rdm = s.rdm := rfl
@[simp] theorem State.setHost_ckp (m : Memory) : (s.setHost m).ckp = s.ckp := rfl

/-! tick: it changes `fresh` alone. -/

@[simp] theorem State.tick_pending : s.tick.pending = s.pending := rfl
@[simp] theorem State.tick_regs : s.tick.regs = s.regs := rfl
@[simp] theorem State.tick_tb : s.tick.tb = s.tb := rfl
@[simp] theorem State.tick_rng : s.tick.rng = s.rng := rfl
@[simp] theorem State.tick_hep : s.tick.hep = s.hep := rfl
@[simp] theorem State.tick_mem : s.tick.mem = s.mem := rfl
@[simp] theorem State.tick_tiles : s.tick.tiles = s.tiles := rfl
@[simp] theorem State.tick_roles : s.tick.roles = s.roles := rfl
@[simp] theorem State.tick_gey : s.tick.gey = s.gey := rfl
@[simp] theorem State.tick_mcores : s.tick.mcores = s.mcores := rfl
@[simp] theorem State.tick_snt : s.tick.snt = s.snt := rfl
@[simp] theorem State.tick_vnt : s.tick.vnt = s.vnt := rfl
@[simp] theorem State.tick_fum : s.tick.fum = s.fum := rfl
@[simp] theorem State.tick_sec : s.tick.sec = s.sec := rfl
@[simp] theorem State.tick_sto : s.tick.sto = s.sto := rfl
@[simp] theorem State.tick_sch : s.tick.sch = s.sch := rfl
@[simp] theorem State.tick_net : s.tick.net = s.net := rfl
@[simp] theorem State.tick_rdm : s.tick.rdm = s.rdm := rfl
@[simp] theorem State.tick_ckp : s.tick.ckp = s.ckp := rfl

/-! setQp: it changes `rdm` alone. -/

@[simp] theorem State.setQp_pending (q : Nat) (x : Qp) : (s.setQp q x).pending = s.pending := rfl
@[simp] theorem State.setQp_fresh (q : Nat) (x : Qp) : (s.setQp q x).fresh = s.fresh := rfl
@[simp] theorem State.setQp_regs (q : Nat) (x : Qp) : (s.setQp q x).regs = s.regs := rfl
@[simp] theorem State.setQp_tb (q : Nat) (x : Qp) : (s.setQp q x).tb = s.tb := rfl
@[simp] theorem State.setQp_rng (q : Nat) (x : Qp) : (s.setQp q x).rng = s.rng := rfl
@[simp] theorem State.setQp_hep (q : Nat) (x : Qp) : (s.setQp q x).hep = s.hep := rfl
@[simp] theorem State.setQp_mem (q : Nat) (x : Qp) : (s.setQp q x).mem = s.mem := rfl
@[simp] theorem State.setQp_tiles (q : Nat) (x : Qp) : (s.setQp q x).tiles = s.tiles := rfl
@[simp] theorem State.setQp_roles (q : Nat) (x : Qp) : (s.setQp q x).roles = s.roles := rfl
@[simp] theorem State.setQp_gey (q : Nat) (x : Qp) : (s.setQp q x).gey = s.gey := rfl
@[simp] theorem State.setQp_mcores (q : Nat) (x : Qp) : (s.setQp q x).mcores = s.mcores := rfl
@[simp] theorem State.setQp_snt (q : Nat) (x : Qp) : (s.setQp q x).snt = s.snt := rfl
@[simp] theorem State.setQp_vnt (q : Nat) (x : Qp) : (s.setQp q x).vnt = s.vnt := rfl
@[simp] theorem State.setQp_fum (q : Nat) (x : Qp) : (s.setQp q x).fum = s.fum := rfl
@[simp] theorem State.setQp_sec (q : Nat) (x : Qp) : (s.setQp q x).sec = s.sec := rfl
@[simp] theorem State.setQp_sto (q : Nat) (x : Qp) : (s.setQp q x).sto = s.sto := rfl
@[simp] theorem State.setQp_sch (q : Nat) (x : Qp) : (s.setQp q x).sch = s.sch := rfl
@[simp] theorem State.setQp_net (q : Nat) (x : Qp) : (s.setQp q x).net = s.net := rfl
@[simp] theorem State.setQp_ckp (q : Nat) (x : Qp) : (s.setQp q x).ckp = s.ckp := rfl

/-! setGroup: it changes `rdm` alone. -/

@[simp] theorem State.setGroup_pending (g : Nat) (x : Group) : (s.setGroup g x).pending = s.pending := rfl
@[simp] theorem State.setGroup_fresh (g : Nat) (x : Group) : (s.setGroup g x).fresh = s.fresh := rfl
@[simp] theorem State.setGroup_regs (g : Nat) (x : Group) : (s.setGroup g x).regs = s.regs := rfl
@[simp] theorem State.setGroup_tb (g : Nat) (x : Group) : (s.setGroup g x).tb = s.tb := rfl
@[simp] theorem State.setGroup_rng (g : Nat) (x : Group) : (s.setGroup g x).rng = s.rng := rfl
@[simp] theorem State.setGroup_hep (g : Nat) (x : Group) : (s.setGroup g x).hep = s.hep := rfl
@[simp] theorem State.setGroup_mem (g : Nat) (x : Group) : (s.setGroup g x).mem = s.mem := rfl
@[simp] theorem State.setGroup_tiles (g : Nat) (x : Group) : (s.setGroup g x).tiles = s.tiles := rfl
@[simp] theorem State.setGroup_roles (g : Nat) (x : Group) : (s.setGroup g x).roles = s.roles := rfl
@[simp] theorem State.setGroup_gey (g : Nat) (x : Group) : (s.setGroup g x).gey = s.gey := rfl
@[simp] theorem State.setGroup_mcores (g : Nat) (x : Group) : (s.setGroup g x).mcores = s.mcores := rfl
@[simp] theorem State.setGroup_snt (g : Nat) (x : Group) : (s.setGroup g x).snt = s.snt := rfl
@[simp] theorem State.setGroup_vnt (g : Nat) (x : Group) : (s.setGroup g x).vnt = s.vnt := rfl
@[simp] theorem State.setGroup_fum (g : Nat) (x : Group) : (s.setGroup g x).fum = s.fum := rfl
@[simp] theorem State.setGroup_sec (g : Nat) (x : Group) : (s.setGroup g x).sec = s.sec := rfl
@[simp] theorem State.setGroup_sto (g : Nat) (x : Group) : (s.setGroup g x).sto = s.sto := rfl
@[simp] theorem State.setGroup_sch (g : Nat) (x : Group) : (s.setGroup g x).sch = s.sch := rfl
@[simp] theorem State.setGroup_net (g : Nat) (x : Group) : (s.setGroup g x).net = s.net := rfl
@[simp] theorem State.setGroup_ckp (g : Nat) (x : Group) : (s.setGroup g x).ckp = s.ckp := rfl

/-! setKeySlot: it changes `sec` alone. -/

@[simp] theorem State.setKeySlot_pending (k : Nat) (x : KeySlot) : (s.setKeySlot k x).pending = s.pending := rfl
@[simp] theorem State.setKeySlot_fresh (k : Nat) (x : KeySlot) : (s.setKeySlot k x).fresh = s.fresh := rfl
@[simp] theorem State.setKeySlot_regs (k : Nat) (x : KeySlot) : (s.setKeySlot k x).regs = s.regs := rfl
@[simp] theorem State.setKeySlot_tb (k : Nat) (x : KeySlot) : (s.setKeySlot k x).tb = s.tb := rfl
@[simp] theorem State.setKeySlot_rng (k : Nat) (x : KeySlot) : (s.setKeySlot k x).rng = s.rng := rfl
@[simp] theorem State.setKeySlot_hep (k : Nat) (x : KeySlot) : (s.setKeySlot k x).hep = s.hep := rfl
@[simp] theorem State.setKeySlot_mem (k : Nat) (x : KeySlot) : (s.setKeySlot k x).mem = s.mem := rfl
@[simp] theorem State.setKeySlot_tiles (k : Nat) (x : KeySlot) : (s.setKeySlot k x).tiles = s.tiles := rfl
@[simp] theorem State.setKeySlot_roles (k : Nat) (x : KeySlot) : (s.setKeySlot k x).roles = s.roles := rfl
@[simp] theorem State.setKeySlot_gey (k : Nat) (x : KeySlot) : (s.setKeySlot k x).gey = s.gey := rfl
@[simp] theorem State.setKeySlot_mcores (k : Nat) (x : KeySlot) : (s.setKeySlot k x).mcores = s.mcores := rfl
@[simp] theorem State.setKeySlot_snt (k : Nat) (x : KeySlot) : (s.setKeySlot k x).snt = s.snt := rfl
@[simp] theorem State.setKeySlot_vnt (k : Nat) (x : KeySlot) : (s.setKeySlot k x).vnt = s.vnt := rfl
@[simp] theorem State.setKeySlot_fum (k : Nat) (x : KeySlot) : (s.setKeySlot k x).fum = s.fum := rfl
@[simp] theorem State.setKeySlot_sto (k : Nat) (x : KeySlot) : (s.setKeySlot k x).sto = s.sto := rfl
@[simp] theorem State.setKeySlot_sch (k : Nat) (x : KeySlot) : (s.setKeySlot k x).sch = s.sch := rfl
@[simp] theorem State.setKeySlot_net (k : Nat) (x : KeySlot) : (s.setKeySlot k x).net = s.net := rfl
@[simp] theorem State.setKeySlot_rdm (k : Nat) (x : KeySlot) : (s.setKeySlot k x).rdm = s.rdm := rfl
@[simp] theorem State.setKeySlot_ckp (k : Nat) (x : KeySlot) : (s.setKeySlot k x).ckp = s.ckp := rfl

/-! unlock: it changes `sto` alone. -/

@[simp] theorem State.unlock_pending (n : Nat) : (s.unlock n).pending = s.pending := rfl
@[simp] theorem State.unlock_fresh (n : Nat) : (s.unlock n).fresh = s.fresh := rfl
@[simp] theorem State.unlock_regs (n : Nat) : (s.unlock n).regs = s.regs := rfl
@[simp] theorem State.unlock_tb (n : Nat) : (s.unlock n).tb = s.tb := rfl
@[simp] theorem State.unlock_rng (n : Nat) : (s.unlock n).rng = s.rng := rfl
@[simp] theorem State.unlock_hep (n : Nat) : (s.unlock n).hep = s.hep := rfl
@[simp] theorem State.unlock_mem (n : Nat) : (s.unlock n).mem = s.mem := rfl
@[simp] theorem State.unlock_tiles (n : Nat) : (s.unlock n).tiles = s.tiles := rfl
@[simp] theorem State.unlock_roles (n : Nat) : (s.unlock n).roles = s.roles := rfl
@[simp] theorem State.unlock_gey (n : Nat) : (s.unlock n).gey = s.gey := rfl
@[simp] theorem State.unlock_mcores (n : Nat) : (s.unlock n).mcores = s.mcores := rfl
@[simp] theorem State.unlock_snt (n : Nat) : (s.unlock n).snt = s.snt := rfl
@[simp] theorem State.unlock_vnt (n : Nat) : (s.unlock n).vnt = s.vnt := rfl
@[simp] theorem State.unlock_fum (n : Nat) : (s.unlock n).fum = s.fum := rfl
@[simp] theorem State.unlock_sec (n : Nat) : (s.unlock n).sec = s.sec := rfl
@[simp] theorem State.unlock_sch (n : Nat) : (s.unlock n).sch = s.sch := rfl
@[simp] theorem State.unlock_net (n : Nat) : (s.unlock n).net = s.net := rfl
@[simp] theorem State.unlock_rdm (n : Nat) : (s.unlock n).rdm = s.rdm := rfl
@[simp] theorem State.unlock_ckp (n : Nat) : (s.unlock n).ckp = s.ckp := rfl

/-! setDomain: it changes `regs` alone. leaveL1, tlp and touch: an access that crosses the upstream link changes the link's state, its
domain and the time of its last TLP alone. -/

@[simp] theorem State.setDomain_pending (d : Nat) (on : Bool) : (s.setDomain d on).pending = s.pending := by
  unfold State.setDomain; extract_lets; split <;> rfl
@[simp] theorem State.setDomain_fresh (d : Nat) (on : Bool) : (s.setDomain d on).fresh = s.fresh := by
  unfold State.setDomain; extract_lets; split <;> rfl
@[simp] theorem State.setDomain_tb (d : Nat) (on : Bool) : (s.setDomain d on).tb = s.tb := by
  unfold State.setDomain; extract_lets; split <;> rfl
@[simp] theorem State.setDomain_rng (d : Nat) (on : Bool) : (s.setDomain d on).rng = s.rng := by
  unfold State.setDomain; extract_lets; split <;> rfl
@[simp] theorem State.setDomain_mem (d : Nat) (on : Bool) : (s.setDomain d on).mem = s.mem := by
  unfold State.setDomain; extract_lets; split <;> rfl
@[simp] theorem State.setDomain_tiles (d : Nat) (on : Bool) : (s.setDomain d on).tiles = s.tiles := by
  unfold State.setDomain; extract_lets; split <;> rfl
@[simp] theorem State.setDomain_roles (d : Nat) (on : Bool) : (s.setDomain d on).roles = s.roles := by
  unfold State.setDomain; extract_lets; split <;> rfl
@[simp] theorem State.setDomain_gey (d : Nat) (on : Bool) : (s.setDomain d on).gey = s.gey := by
  unfold State.setDomain; extract_lets; split <;> rfl
@[simp] theorem State.setDomain_mcores (d : Nat) (on : Bool) : (s.setDomain d on).mcores = s.mcores := by
  unfold State.setDomain; extract_lets; split <;> rfl
@[simp] theorem State.setDomain_snt (d : Nat) (on : Bool) : (s.setDomain d on).snt = s.snt := by
  unfold State.setDomain; extract_lets; split <;> rfl
@[simp] theorem State.setDomain_sec (d : Nat) (on : Bool) : (s.setDomain d on).sec = s.sec := by
  unfold State.setDomain; extract_lets; split <;> rfl
@[simp] theorem State.setDomain_sto (d : Nat) (on : Bool) : (s.setDomain d on).sto = s.sto := by
  unfold State.setDomain; extract_lets; split <;> rfl
@[simp] theorem State.setDomain_sch (d : Nat) (on : Bool) : (s.setDomain d on).sch = s.sch := by
  unfold State.setDomain; extract_lets; split <;> rfl
@[simp] theorem State.setDomain_net (d : Nat) (on : Bool) : (s.setDomain d on).net = s.net := by
  unfold State.setDomain; extract_lets; split <;> rfl
@[simp] theorem State.setDomain_rdm (d : Nat) (on : Bool) : (s.setDomain d on).rdm = s.rdm := by
  unfold State.setDomain; extract_lets; split <;> rfl
@[simp] theorem State.setDomain_ckp (d : Nat) (on : Bool) : (s.setDomain d on).ckp = s.ckp := by
  unfold State.setDomain; extract_lets; split <;> rfl
@[simp] theorem State.leaveL1_pending : s.leaveL1.pending = s.pending := by
  unfold State.leaveL1; extract_lets; split <;> simp only [State.setDomain_pending, State.setFld_pending]
@[simp] theorem State.leaveL1_fresh : s.leaveL1.fresh = s.fresh := by
  unfold State.leaveL1; extract_lets; split <;> simp only [State.setDomain_fresh, State.setFld_fresh]
@[simp] theorem State.leaveL1_tb : s.leaveL1.tb = s.tb := by
  unfold State.leaveL1; extract_lets; split <;> simp only [State.setDomain_tb, State.setFld_tb]
@[simp] theorem State.leaveL1_rng : s.leaveL1.rng = s.rng := by
  unfold State.leaveL1; extract_lets; split <;> simp only [State.setDomain_rng, State.setFld_rng]
@[simp] theorem State.leaveL1_mem : s.leaveL1.mem = s.mem := by
  unfold State.leaveL1; extract_lets; split <;> simp only [State.setDomain_mem, State.setFld_mem]
@[simp] theorem State.leaveL1_tiles : s.leaveL1.tiles = s.tiles := by
  unfold State.leaveL1; extract_lets; split <;> simp only [State.setDomain_tiles, State.setFld_tiles]
@[simp] theorem State.leaveL1_roles : s.leaveL1.roles = s.roles := by
  unfold State.leaveL1; extract_lets; split <;> simp only [State.setDomain_roles, State.setFld_roles]
@[simp] theorem State.leaveL1_gey : s.leaveL1.gey = s.gey := by
  unfold State.leaveL1; extract_lets; split <;> simp only [State.setDomain_gey, State.setFld_gey]
@[simp] theorem State.leaveL1_mcores : s.leaveL1.mcores = s.mcores := by
  unfold State.leaveL1; extract_lets; split <;> simp only [State.setDomain_mcores, State.setFld_mcores]
@[simp] theorem State.leaveL1_snt : s.leaveL1.snt = s.snt := by
  unfold State.leaveL1; extract_lets; split <;> simp only [State.setDomain_snt, State.setFld_snt]
@[simp] theorem State.leaveL1_sec : s.leaveL1.sec = s.sec := by
  unfold State.leaveL1; extract_lets; split <;> simp only [State.setDomain_sec, State.setFld_sec]
@[simp] theorem State.leaveL1_sto : s.leaveL1.sto = s.sto := by
  unfold State.leaveL1; extract_lets; split <;> simp only [State.setDomain_sto, State.setFld_sto]
@[simp] theorem State.leaveL1_sch : s.leaveL1.sch = s.sch := by
  unfold State.leaveL1; extract_lets; split <;> simp only [State.setDomain_sch, State.setFld_sch]
@[simp] theorem State.leaveL1_net : s.leaveL1.net = s.net := by
  unfold State.leaveL1; extract_lets; split <;> simp only [State.setDomain_net, State.setFld_net]
@[simp] theorem State.leaveL1_rdm : s.leaveL1.rdm = s.rdm := by
  unfold State.leaveL1; extract_lets; split <;> simp only [State.setDomain_rdm, State.setFld_rdm]
@[simp] theorem State.leaveL1_ckp : s.leaveL1.ckp = s.ckp := by
  unfold State.leaveL1; extract_lets; split <;> simp only [State.setDomain_ckp, State.setFld_ckp]
@[simp] theorem State.tlp_pending : s.tlp.pending = s.pending := State.leaveL1_pending s
@[simp] theorem State.tlp_fresh : s.tlp.fresh = s.fresh := State.leaveL1_fresh s
@[simp] theorem State.tlp_tb : s.tlp.tb = s.tb := State.leaveL1_tb s
@[simp] theorem State.tlp_rng : s.tlp.rng = s.rng := State.leaveL1_rng s
@[simp] theorem State.tlp_mem : s.tlp.mem = s.mem := State.leaveL1_mem s
@[simp] theorem State.tlp_tiles : s.tlp.tiles = s.tiles := State.leaveL1_tiles s
@[simp] theorem State.tlp_roles : s.tlp.roles = s.roles := State.leaveL1_roles s
@[simp] theorem State.tlp_gey : s.tlp.gey = s.gey := State.leaveL1_gey s
@[simp] theorem State.tlp_mcores : s.tlp.mcores = s.mcores := State.leaveL1_mcores s
@[simp] theorem State.tlp_snt : s.tlp.snt = s.snt := State.leaveL1_snt s
@[simp] theorem State.tlp_sec : s.tlp.sec = s.sec := State.leaveL1_sec s
@[simp] theorem State.tlp_sto : s.tlp.sto = s.sto := State.leaveL1_sto s
@[simp] theorem State.tlp_sch : s.tlp.sch = s.sch := State.leaveL1_sch s
@[simp] theorem State.tlp_net : s.tlp.net = s.net := State.leaveL1_net s
@[simp] theorem State.tlp_rdm : s.tlp.rdm = s.rdm := State.leaveL1_rdm s
@[simp] theorem State.tlp_ckp : s.tlp.ckp = s.ckp := State.leaveL1_ckp s
@[simp] theorem State.touch_pending (w : Requester) : (s.touch w).pending = s.pending := by cases w <;> simp only [State.touch, State.tlp_pending]
@[simp] theorem State.touch_fresh (w : Requester) : (s.touch w).fresh = s.fresh := by cases w <;> simp only [State.touch, State.tlp_fresh]
@[simp] theorem State.touch_tb (w : Requester) : (s.touch w).tb = s.tb := by cases w <;> simp only [State.touch, State.tlp_tb]
@[simp] theorem State.touch_rng (w : Requester) : (s.touch w).rng = s.rng := by cases w <;> simp only [State.touch, State.tlp_rng]
@[simp] theorem State.touch_mem (w : Requester) : (s.touch w).mem = s.mem := by cases w <;> simp only [State.touch, State.tlp_mem]
@[simp] theorem State.touch_tiles (w : Requester) : (s.touch w).tiles = s.tiles := by cases w <;> simp only [State.touch, State.tlp_tiles]
@[simp] theorem State.touch_roles (w : Requester) : (s.touch w).roles = s.roles := by cases w <;> simp only [State.touch, State.tlp_roles]
@[simp] theorem State.touch_gey (w : Requester) : (s.touch w).gey = s.gey := by cases w <;> simp only [State.touch, State.tlp_gey]
@[simp] theorem State.touch_mcores (w : Requester) : (s.touch w).mcores = s.mcores := by cases w <;> simp only [State.touch, State.tlp_mcores]
@[simp] theorem State.touch_snt (w : Requester) : (s.touch w).snt = s.snt := by cases w <;> simp only [State.touch, State.tlp_snt]
@[simp] theorem State.touch_sec (w : Requester) : (s.touch w).sec = s.sec := by cases w <;> simp only [State.touch, State.tlp_sec]
@[simp] theorem State.touch_sto (w : Requester) : (s.touch w).sto = s.sto := by cases w <;> simp only [State.touch, State.tlp_sto]
@[simp] theorem State.touch_sch (w : Requester) : (s.touch w).sch = s.sch := by cases w <;> simp only [State.touch, State.tlp_sch]
@[simp] theorem State.touch_net (w : Requester) : (s.touch w).net = s.net := by cases w <;> simp only [State.touch, State.tlp_net]
@[simp] theorem State.touch_rdm (w : Requester) : (s.touch w).rdm = s.rdm := by cases w <;> simp only [State.touch, State.tlp_rdm]
@[simp] theorem State.touch_ckp (w : Requester) : (s.touch w).ckp = s.ckp := by cases w <;> simp only [State.touch, State.tlp_ckp]

/-! A field of the register file after an update of another part of the state. -/

@[simp] theorem State.setTile_fld (n : Nat) (t : Tile) (e : Fld) (j : Nat) : (s.setTile n t).fld e j = s.fld e j := rfl
@[simp] theorem State.setTile_flag (n : Nat) (t : Tile) (e : Fld) (j : Nat) : (s.setTile n t).flag e j = s.flag e j := rfl
@[simp] theorem State.setRing_fld (n : Nat) (r : Ring) (e : Fld) (j : Nat) : (s.setRing n r).fld e j = s.fld e j := rfl
@[simp] theorem State.setRing_flag (n : Nat) (r : Ring) (e : Fld) (j : Nat) : (s.setRing n r).flag e j = s.flag e j := rfl
@[simp] theorem State.setSlot_fld (n : Nat) (x : Slot) (e : Fld) (j : Nat) : (s.setSlot n x).fld e j = s.fld e j := rfl
@[simp] theorem State.setSlot_flag (n : Nat) (x : Slot) (e : Fld) (j : Nat) : (s.setSlot n x).flag e j = s.flag e j := rfl
@[simp] theorem State.setCounter_fld (n : Nat) (w : Word) (e : Fld) (j : Nat) : (s.setCounter n w).fld e j = s.fld e j := rfl
@[simp] theorem State.setCounter_flag (n : Nat) (w : Word) (e : Fld) (j : Nat) : (s.setCounter n w).flag e j = s.flag e j := rfl
@[simp] theorem State.setCfg_fld (g : Nat) (c : FnConfig) (e : Fld) (j : Nat) : (s.setCfg g c).fld e j = s.fld e j := rfl
@[simp] theorem State.setCfg_flag (g : Nat) (c : FnConfig) (e : Fld) (j : Nat) : (s.setCfg g c).flag e j = s.flag e j := rfl
@[simp] theorem State.setUnit_fld (u : Nat) (x : UnitState) (e : Fld) (j : Nat) : (s.setUnit u x).fld e j = s.fld e j := rfl
@[simp] theorem State.setUnit_flag (u : Nat) (x : UnitState) (e : Fld) (j : Nat) : (s.setUnit u x).flag e j = s.flag e j := rfl
@[simp] theorem State.setMcore_fld (k : Nat) (c : Core) (e : Fld) (j : Nat) : (s.setMcore k c).fld e j = s.fld e j := rfl
@[simp] theorem State.setMcore_flag (k : Nat) (c : Core) (e : Fld) (j : Nat) : (s.setMcore k c).flag e j = s.flag e j := rfl
@[simp] theorem State.setDev_fld (m : Memory) (e : Fld) (j : Nat) : (s.setDev m).fld e j = s.fld e j := rfl
@[simp] theorem State.setDev_flag (m : Memory) (e : Fld) (j : Nat) : (s.setDev m).flag e j = s.flag e j := rfl
@[simp] theorem State.setHost_fld (m : Memory) (e : Fld) (j : Nat) : (s.setHost m).fld e j = s.fld e j := rfl
@[simp] theorem State.setHost_flag (m : Memory) (e : Fld) (j : Nat) : (s.setHost m).flag e j = s.flag e j := rfl
@[simp] theorem State.tick_fld (e : Fld) (j : Nat) : (s.tick).fld e j = s.fld e j := rfl
@[simp] theorem State.tick_flag (e : Fld) (j : Nat) : (s.tick).flag e j = s.flag e j := rfl
@[simp] theorem State.setQp_fld (q : Nat) (x : Qp) (e : Fld) (j : Nat) : (s.setQp q x).fld e j = s.fld e j := rfl
@[simp] theorem State.setQp_flag (q : Nat) (x : Qp) (e : Fld) (j : Nat) : (s.setQp q x).flag e j = s.flag e j := rfl
@[simp] theorem State.setGroup_fld (g : Nat) (x : Group) (e : Fld) (j : Nat) : (s.setGroup g x).fld e j = s.fld e j := rfl
@[simp] theorem State.setGroup_flag (g : Nat) (x : Group) (e : Fld) (j : Nat) : (s.setGroup g x).flag e j = s.flag e j := rfl
@[simp] theorem State.setKeySlot_fld (k : Nat) (x : KeySlot) (e : Fld) (j : Nat) : (s.setKeySlot k x).fld e j = s.fld e j := rfl
@[simp] theorem State.setKeySlot_flag (k : Nat) (x : KeySlot) (e : Fld) (j : Nat) : (s.setKeySlot k x).flag e j = s.flag e j := rfl
@[simp] theorem State.unlock_fld (n : Nat) (e : Fld) (j : Nat) : (s.unlock n).fld e j = s.fld e j := rfl
@[simp] theorem State.unlock_flag (n : Nat) (e : Fld) (j : Nat) : (s.unlock n).flag e j = s.flag e j := rfl

/-! What an update writes reads back. -/

@[simp] theorem State.tile_setTile_same (n : Nat) (t : Tile) : (s.setTile n t).tile n = t := by simp [State.tile, State.setTile]
theorem State.tile_setTile_ne {n m : Nat} (h : m ≠ n) (t : Tile) : (s.setTile n t).tile m = s.tile m := by
  simp [State.tile, State.setTile, Tbl.getD_put_ne h]
@[simp] theorem State.ring_setRing_same (n : Nat) (r : Ring) : (s.setRing n r).ring n = r := by simp [State.ring, State.setRing]
theorem State.ring_setRing_ne {n m : Nat} (h : m ≠ n) (r : Ring) : (s.setRing n r).ring m = s.ring m := by
  simp [State.ring, State.setRing, Tbl.getD_put_ne h]
@[simp] theorem State.slot?_setSlot_same (n : Nat) (x : Slot) : (s.setSlot n x).slot? n = some x := by
  simp [State.slot?, State.setSlot, Tbl.find?_set_same]
theorem State.slot?_setSlot_ne {n m : Nat} (h : m ≠ n) (x : Slot) : (s.setSlot n x).slot? m = s.slot? m := by
  simp [State.slot?, State.setSlot, Tbl.find?_set_ne h]
@[simp] theorem State.slot?_freeSlot_same (n : Nat) : (s.freeSlot n).slot? n = none := by
  simp [State.slot?, State.freeSlot, Tbl.find?_del_same]
theorem State.slot?_freeSlot_ne {n m : Nat} (h : m ≠ n) : (s.freeSlot n).slot? m = s.slot? m := by
  simp [State.slot?, State.freeSlot, State.unlock, Tbl.find?_del_ne h]
@[simp] theorem State.qp?_setQp_same (q : Nat) (x : Qp) : (s.setQp q x).qp? q = some x := by
  simp [State.qp?, State.setQp, Tbl.find?_set_same]
theorem State.qp?_setQp_ne {q p : Nat} (h : p ≠ q) (x : Qp) : (s.setQp q x).qp? p = s.qp? p := by
  simp [State.qp?, State.setQp, Tbl.find?_set_ne h]
@[simp] theorem State.keySlot_setKeySlot_same (k : Nat) (x : KeySlot) : (s.setKeySlot k x).keySlot k = x := by
  simp [State.keySlot, State.setKeySlot]
@[simp] theorem State.counter_setCounter_same (n : Nat) (w : Word) : (s.setCounter n w).counter n = w := by
  simp [State.counter, State.setCounter]
@[simp] theorem State.unit_setUnit_same (u : Nat) (x : UnitState) : (s.setUnit u x).unit u = x := by
  simp [State.unit, State.setUnit]
@[simp] theorem State.mcore_setMcore_same (k : Nat) (c : Core) : (s.setMcore k c).mcore k = c := by
  simp [State.mcore, State.setMcore]

end Sys2Proof.Machine
end

