-- ==== Sys2Proof/Laws/Sinter.lean ====
section
/-! SUPPORT. Sinter's operations change Sinter alone: no event, record set or flush touches a register, a memory or another part
of the state. -/

namespace Sys2Proof.Machine

/-- `t` is `s` but for Sinter. -/
def SntOnly (s t : State) : Prop := t = { s with snt := t.snt }

theorem SntOnly.refl (s : State) : SntOnly s s := rfl

theorem SntOnly.trans {s t u : State} (h : SntOnly s t) (k : SntOnly t u) : SntOnly s u := by
  unfold SntOnly at *
  rw [k, h]

theorem onSnt_only (s : State) (f : Sinter → Sinter) : SntOnly s (s.onSnt f) := rfl

theorem SntOnly.on {s t : State} (h : SntOnly s t) (f : Sinter → Sinter) : SntOnly s (t.onSnt f) := h.trans (onSnt_only t f)

theorem sinterRecord_only (c m : Nat) (s : State) : SntOnly s (sinterRecord c m s) := by
  unfold sinterRecord
  split <;> rfl

theorem sinterTake_only (cause : SetCause) (code bytes : Nat) (s : State) : SntOnly s (sinterTake cause code bytes s) := by
  unfold sinterTake
  dsimp only
  split
  · split <;> rfl
  · rfl

theorem sinterNote_only (c m : Nat) (s : State) : SntOnly s (sinterNote c m s) := by
  have h := sinterRecord_only c m s
  unfold sinterNote
  dsimp only
  split
  · split
    · exact (h.trans (sinterTake_only ..)).trans rfl
    · exact h.trans (sinterRecord_only ..)
  · exact h

theorem takeErased_only (s : State) : SntOnly s s.takeErased.1 := by
  unfold State.takeErased
  split
  · rfl
  · split <;> rfl

theorem takeSpare_only (s : State) : SntOnly s s.takeSpare.1 := by
  unfold State.takeSpare
  split <;> rfl

theorem replacement_only (s : State) : SntOnly s s.replacement.1 := by
  have h := takeSpare_only s
  unfold State.replacement
  split
  · rename_i k
    rw [k] at h
    exact h
  · rename_i k
    rw [k] at h
    exact h.trans (takeErased_only _)

theorem retireNote_only (s : State) (b : Nat) : SntOnly s (s.retireNote b) := by
  have h := (onSnt_only s (fun x => { x with retired := x.retired + 1 })).trans (sinterNote_only 0x322 (flashBlock b) _)
  unfold State.retireNote
  dsimp only
  split
  · exact h
  · exact (h.on _).trans (sinterRecord_only ..)

theorem eraseBlock_only (s : State) (b : Nat) : SntOnly s (s.eraseBlock b) := by
  unfold State.eraseBlock
  dsimp only
  split
  · rfl
  · have h := ((onSnt_only s (fun x => { x with
      ops := x.ops + 1, erases := Tbl.set b (Tbl.getD s.snt.erases b 0 + 1) x.erases })).trans (retireNote_only _ b)).trans
      (takeSpare_only _)
    split
    · rename_i k
      rw [k] at h
      exact h.on _
    · rename_i k
      rw [k] at h
      exact h

theorem keepReserve_only (give : Bool) (n : Nat) (s : State) : SntOnly s (State.keepReserve give n s) := by
  induction n generalizing s with
  | zero => rfl
  | succ n ih =>
    unfold State.keepReserve
    split
    · rfl
    · split
      · rfl
      · exact ((onSnt_only s _).trans (eraseBlock_only _ _)).trans (ih _)

theorem openBlock_only (s : State) (perm : Bool) : SntOnly s (s.openBlock perm).1 := by
  have h := takeErased_only s
  unfold State.openBlock
  split
  · rename_i k
    rw [k] at h
    exact (h.on _).trans (keepReserve_only ..)
  · rename_i k
    rw [k] at h
    exact h

theorem foldl_only {α : Type} (f : State → α → State) (hf : ∀ s a, SntOnly s (f s a)) (l : List α) (s : State) :
    SntOnly s (l.foldl f s) := by
  induction l generalizing s with
  | nil => rfl
  | cons a t ih => exact (hf s a).trans (ih _)

theorem programPages_only (b n : Nat) (s : State) : SntOnly s (s.programPages b n).1 := by
  induction n generalizing s with
  | zero => rfl
  | succ n ih =>
    have h := ((onSnt_only s (fun x => { x with ops := x.ops + 1 })).trans
      (sinterRecord_only 0x320 (min (Config.flashTime s.snt.ops) 64) _)).trans
      (foldl_only (fun t (_ : Nat) => sinterRecord 0x321 (flashBlock b) t) (fun t _ => sinterRecord_only _ _ t)
        (List.range (Config.flashRetries s.snt.ops)) _)
    unfold State.programPages
    dsimp only
    split
    · exact h
    · exact h.trans (ih _)

theorem programIn_only (all f b n : Nat) (s : State) : SntOnly s (s.programIn all f b n).1 := by
  induction f generalizing s b n with
  | zero => rfl
  | succ f ih =>
    have h := programPages_only b n s
    unfold State.programIn
    split
    · rename_i k
      rw [k] at h
      exact h
    · rename_i k
      rw [k] at h
      have p := (h.trans (retireNote_only _ b)).trans (replacement_only _)
      split
      · rename_i k2
        rw [k2] at p
        exact p
      · rename_i k2
        rw [k2] at p
        exact ((p.on _).trans (keepReserve_only ..)).trans (ih _ _ _)

theorem permGate_only (s : State) (r : RecordSet) : SntOnly s (s.permGate r) := by
  unfold State.permGate
  split
  · exact (onSnt_only s _).trans (sinterRecord_only ..)
  · rfl

theorem roomFor_only (s : State) (perm : Bool) (n : Nat) : SntOnly s (s.roomFor perm n).1 := by
  unfold State.roomFor
  split
  · rfl
  · exact openBlock_only s perm

theorem storeSet_only (s : State) (r : RecordSet) : SntOnly s (s.storeSet r) := by
  have h := (permGate_only s r).trans (roomFor_only _ (decide (r.index < 4096) && !(s.permGate r).snt.permClosed) r.bytes)
  unfold State.storeSet
  dsimp only
  split
  · rename_i k
    rw [k] at h
    exact h
  · rename_i b k
    rw [k] at h
    have p (all f : Nat) (x : State × Nat × Option Nat) (e : State.programIn all f b (formPages r.bytes) _ = x) : SntOnly s x.1 :=
      e ▸ h.trans (programIn_only all f b (formPages r.bytes) _)
    split
    · rename_i k2
      exact p _ _ _ k2
    · rename_i k2
      exact (p _ _ _ k2).on _

theorem flushSets_only (n : Nat) (s : State) : SntOnly s (s.flushSets n) := by
  induction n generalizing s with
  | zero => rfl
  | succ n ih =>
    unfold State.flushSets
    split
    · rfl
    · exact ((onSnt_only s _).trans (storeSet_only ..)).trans (ih _)

theorem sinterFlush_only (s : State) : SntOnly s (sinterFlush s) := rfl

/-- An event of Sinter changes Sinter alone. -/
theorem sinterEvent_only (c m : Nat) (s : State) : SntOnly s (sinterEvent c m s) := by
  unfold sinterEvent
  split
  · exact (sinterNote_only c m s).trans (sinterFlush_only _)
  · exact sinterNote_only c m s

/-! So every other part of the state reads as before. -/

@[simp] theorem sinterEvent_pending (c m : Nat) (s : State) : (sinterEvent c m s).pending = s.pending := by
  rw [sinterEvent_only c m s]
@[simp] theorem sinterEvent_regs (c m : Nat) (s : State) : (sinterEvent c m s).regs = s.regs := by rw [sinterEvent_only c m s]
@[simp] theorem sinterEvent_tb (c m : Nat) (s : State) : (sinterEvent c m s).tb = s.tb := by rw [sinterEvent_only c m s]
@[simp] theorem sinterEvent_rng (c m : Nat) (s : State) : (sinterEvent c m s).rng = s.rng := by rw [sinterEvent_only c m s]
@[simp] theorem sinterEvent_mem (c m : Nat) (s : State) : (sinterEvent c m s).mem = s.mem := by rw [sinterEvent_only c m s]
@[simp] theorem sinterEvent_hep (c m : Nat) (s : State) : (sinterEvent c m s).hep = s.hep := by rw [sinterEvent_only c m s]
@[simp] theorem sinterEvent_fum (c m : Nat) (s : State) : (sinterEvent c m s).fum = s.fum := by rw [sinterEvent_only c m s]
@[simp] theorem sinterEvent_fld (c m : Nat) (s : State) (f : Fld) (i : Nat) : (sinterEvent c m s).fld f i = s.fld f i := by
  rw [sinterEvent_only c m s]; rfl

end Sys2Proof.Machine
end

