-- ==== Sys2Proof/Laws/Tasko.lean ====
section
/-! SUPPORT. What the shared operations of the Tasko instructions do: fetching and dispatch, pops, pushes and the end of an
instruction. -/

namespace Sys2Proof.Machine

/-- A command of an operation runs exactly where the core executes that operation; it then has its effect, takes its exception or
waits. -/
theorem taskoX_executes {s : State} {n : Nat} {op : TOp} {d : TDec} (h : s.executes n op d)
    (f : TDec → Core → TX Unit) :
    s.taskoX n op f = .next (match f d (s.tcore n) with
      | .ok t _ => t
      | .exc t code => t.texc n code d.pc d.next
      | .wait => s) := by
  cases hf : f d (s.tcore n) <;> simp [State.taskoX, h.1, h.2, hf]

theorem tasko_executes {s : State} {n : Nat} {op : TOp} {d : TDec} (h : s.executes n op d)
    (f : TDec → Core → TR Core) :
    s.tasko n op f = .next (match f d (s.tcore n) with
      | .ok c => s.setTcore n c
      | .exc code => s.texc n code d.pc d.next
      | .wait => s) := by
  simp only [State.tasko, taskoX_executes h]
  cases f d (s.tcore n) <;> rfl

/-- The decoded instruction carries the number of its core. -/
theorem executes_core {s : State} {n : Nat} {op : TOp} {d : TDec} (h : s.executes n op d) : d.core = n := by
  obtain ⟨h, -⟩ := h
  simp only [State.tfetch] at h
  split at h
  · cases h
  have waits (c : Bool) : (if c then none else some none) ≠ some (some d) := by cases c <;> simp
  split at h
  · exact absurd h (waits _)
  split at h
  · exact absurd h (waits _)
  split at h
  · cases h
  split at h
  · exact absurd h (waits _)
  · simp only [Option.some.injEq] at h
    rw [← h]

@[simp] theorem TR.bind_ok {α β : Type} (a : α) (f : α → TR β) : (TR.ok a).bind f = f a := rfl
@[simp] theorem TR.bind_exc {α β : Type} (c : Nat) (f : α → TR β) : (TR.exc c).bind f = .exc c := rfl
@[simp] theorem TR.bind_wait {α β : Type} (f : α → TR β) : (TR.wait).bind f = .wait := rfl

@[simp] theorem knownAll_map (l : List Half) : knownAll (l.map TVal.known) = some l := by
  induction l with
  | nil => rfl
  | cons a t ih => simp [knownAll, ih]

/-- A pop of `n` entries that the hardware stack holds. -/
theorem take_ok (c : Core) (l rest : List TVal) (h : c.stack = l ++ rest) {α : Type} (k : List TVal → Core → TR α) :
    c.take l.length k = k l (c.withStack rest) := by
  have hd : ¬ c.depth < l.length := by simp [Core.depth, h]; omega
  simp [Core.take, hd, h, Core.withStack]

theorem pop_ok (c : Core) (vs : List Half) (rest : List TVal) (h : c.stack = vs.map .known ++ rest) {α : Type}
    (k : List Half → Core → TR α) : c.pop vs.length k = k vs (c.withStack rest) := by
  have := take_ok c (vs.map .known) rest h (fun l c1 =>
    match knownAll l with
    | some vs => k vs c1
    | none => .wait)
  simp only [List.length_map, knownAll_map] at this
  exact this

theorem pop1_ok (c : Core) (a : Half) (rest : List TVal) (h : c.stack = .known a :: rest) {α : Type}
    (k : List Half → Core → TR α) : c.pop 1 k = k [a] (c.withStack rest) := pop_ok c [a] rest h k

theorem pop2_ok (c : Core) (a b : Half) (rest : List TVal) (h : c.stack = .known a :: .known b :: rest) {α : Type}
    (k : List Half → Core → TR α) : c.pop 2 k = k [a, b] (c.withStack rest) := pop_ok c [a, b] rest h k

/-- Too few entries (R208). -/
theorem take_short (c : Core) (n : Nat) (h : c.depth < n) {α : Type} (k : List TVal → Core → TR α) :
    c.take n k = .exc TF.STACK_LIMIT := by simp [Core.take, h]

theorem pop_short (c : Core) (n : Nat) (h : c.depth < n) {α : Type} (k : List Half → Core → TR α) :
    c.pop n k = .exc TF.STACK_LIMIT := take_short c n h _

/-- A push where the hardware stack has room. -/
theorem push_ok (c : Core) (v : TVal) (h : c.stack.length < 16) : c.push v = .ok (c.withStack (v :: c.stack)) := by
  simp [Core.push, h, Core.withStack]

/-- Pushes where the hardware stack has room for all. -/
theorem pushAll_ok (c : Core) (l : List TVal) (h : c.stack.length + l.length ≤ 16) :
    c.pushAll l = .ok (c.withStack (l.reverse ++ c.stack)) := by
  induction l generalizing c with
  | nil => rfl
  | cons v t ih =>
    simp only [List.length_cons] at h
    rw [Core.pushAll, push_ok c v (by omega), TR.bind_ok, ih]
    · simp [Core.withStack]
    · simp [Core.withStack]; omega

theorem refill_full (n : Nat) (c : Core) (h : ¬ (c.stack.length < 16 ∧ c.sp ≠ c.sb)) : Core.refill n c = c := by
  cases n with
  | zero => rfl
  | succ n => simp only [Core.refill, h, if_false]

/-- The end of an instruction that waits for no branch. -/
theorem finish_settled (c : Core) (pc : Half) (h : c.settled) : c.finish pc = .ok (c.endsAt pc) := by
  unfold Core.finish Core.endsAt
  split
  · next hc =>
    rcases h with h | h
    · simp [Core.spec, h]
    · exact absurd h hc.2
  · next hc => rw [refill_full 16 c hc]

@[simp] theorem settled_withStack (c : Core) (l : List TVal) : (c.withStack l).settled ↔ c.settled := Iff.rfl
@[simp] theorem withStack_stack (c : Core) (l : List TVal) : (c.withStack l).stack = l := rfl
@[simp] theorem withStack_withStack (c : Core) (l m : List TVal) : (c.withStack l).withStack m = c.withStack m := rfl

/-- Known values pushed in order, and the end of the instruction. -/
theorem give_ok (c : Core) (d : TDec) (l : List Half) (h : c.stack.length + l.length ≤ 16) (hs : c.settled) :
    c.give d l = .ok ((c.withStack ((l.map TVal.known).reverse ++ c.stack)).endsAt d.next) := by
  rw [Core.give, pushAll_ok c _ (by simpa using h), TR.bind_ok, finish_settled _ _ (by simpa using hs)]

/-- An instruction on one entry. -/
theorem stackOp1_ok (c : Core) (d : TDec) (f : List Half → List Half) (a : Half) (rest : List TVal)
    (h : c.stack = .known a :: rest) (hs : c.settled) (hl : rest.length + (f [a]).length ≤ 16) :
    c.stackOp d 1 f = .ok ((c.withStack (((f [a]).map TVal.known).reverse ++ rest)).endsAt d.next) := by
  rw [Core.stackOp, pop1_ok c a rest h, give_ok _ _ _ (by simpa using hl) (by simpa using hs)]; rfl

/-- An instruction on two entries. -/
theorem stackOp2_ok (c : Core) (d : TDec) (f : List Half → List Half) (a b : Half) (rest : List TVal)
    (h : c.stack = .known a :: .known b :: rest) (hs : c.settled) (hl : rest.length + (f [a, b]).length ≤ 16) :
    c.stackOp d 2 f = .ok ((c.withStack (((f [a, b]).map TVal.known).reverse ++ rest)).endsAt d.next) := by
  rw [Core.stackOp, pop2_ok c a b rest h, give_ok _ _ _ (by simpa using hl) (by simpa using hs)]; rfl

end Sys2Proof.Machine
end

