-- ==== Sys2Proof/Tests/Slice0.lean ====
section
/-! SUPPORT. Tests: ill-formed commands, Tasko words written out from R264, and for every statement with hypotheses a state and
operands that meet them. -/

namespace Sys2Proof.Tests

open Sys2Proof Sys2Proof.Machine

set_option Elab.async false

/-! Ill-formed commands: one for each check, at the first value beyond its range. -/

theorem test_ill_formed_agents : ∀ c ∈ [
    Instr.registerWrite (.core 4) 0 8 0, .registerWrite (.vf 0) 0 8 0, .registerWrite (.vf 256) 0 8 0,
    .registerWrite .pf 4 8 0, .registerWrite .pf 0 16 0, .registerWrite .pf 0 2 0, .paceSample 11 [0], .paceSample 0 [], .doorbellWrite 256 0 8 0,
    .vfEnableSet ⟨256, []⟩, .completionPost (.slot 4096) {}, .completionPost (.ring 16384) {}, .heldCompletionPost 16384 {},
    .clauseArrival 4096, .heldClauseDispatch 16384, .gather (.clause 4096) {}, .gather (.unit 128 0) {},
    .gather (.unit 0 64) {}], c.wf = false := by decide +kernel

theorem test_ill_formed_units : ∀ c ∈ [
    Instr.launchTimeout 128, .unitCompletion 128 0, .unitCompletion 0 64, .add 132, .bandModeWrite .pf 2 0, .bandModeApply 64,
    .refreshIssue 20, .intxCauseClear 17 0, .dpError 4, .revocationComplete 1024, .rangeLockGrant 1024 {},
    .remotePathLost (2 ^ 20), .gateApply 8, .pfcFrameReceive 8 0 0, .pfcFrameReceive 0 8 0, .creditGrant 8 0, .creditGrant 0 8,
    .peerDeadTimeout 4096, .collectiveTimeout 64, .crcLoad 16, .domainReady 29, .vcbAlert 2 true,
    .vsinter 1024, .logEntryWrite 4 0 false 0 0 0 {}, .logEntryWrite 0 4 false 0 0 0 {}], c.wf = false := by decide +kernel

theorem test_well_formed : ∀ c ∈ [
    Instr.registerWrite (.core 3) 6 2 0, .registerWrite (.vf 255) 8 8 0, .paceSample 10 [0, 1], .completionPost (.slot 4095) {},
    .gather (.unit 127 63) {}, .add 131, .domainReady 28, .pllUnlock], c.wf = true := by decide +kernel

/-! Tasko words of R264, group by group. -/

theorem test_decode_group0 : ∀ x ∈ ([
    (0x0001, some { op := .endTile }), (0x0010, some { op := .issue }), (0x0011, some { op := .issuex, ext := 2 }),
    (0x0012, some { op := .pushi, ext := 1 }), (0x0024, some { op := .packw }), (0x0046, some { op := .pick }),
    (0x006D, some { op := .sar }), (0x0000, none), (0x000C, none), (0x006E, none)] : List (Nat × Option TWord)),
    tdecode x.1 = x.2 := by decide

theorem test_decode_register : ∀ x ∈ ([
    (0x1005, some { op := .ceq, g := 5 }), (0x106F, some { op := .cz, g := 15 }), (0x111A, some { op := .popg, g := 10 }),
    (0x1213, some { op := .bnzl, g := 3, ext := 1 }), (0x1300, none)] : List (Nat × Option TWord)),
    tdecode x.1 = x.2 := by decide

theorem test_decode_branch : ∀ x ∈ ([
    (0x25FF, some { op := .bz, g := 5, imm := 0xFFFF }), (0x3F7F, some { op := .bnz, g := 15, imm := 0x7F }),
    (0x4800, some { op := .jmp, imm := 0xF800 }), (0x57FF, some { op := .call, imm := 0x7FF }),
    (0x6FFF, some { op := .pushs, imm := 0xFFFF })] : List (Nat × Option TWord)), tdecode x.1 = x.2 := by decide

theorem test_decode_memory : ∀ x ∈ ([
    (0x7000, some { op := .ld }), (0x72C0, some { op := .tas, g := 12 }), (0x7803, some { op := .ldx, w := 3, win := true }),
    (0x7CAF, some { op := .stc, g := 10, w := 15, win := true }), (0x7D02, some { op := .setw, w := 2, win := true }),
    (0x7010, none), (0x7810, none), (0x7E00, none)] : List (Nat × Option TWord)), tdecode x.1 = x.2 := by decide

theorem test_decode_special : ∀ x ∈ ([
    (0x8002, some { op := .mfs, w := 2 }), (0x8858, some { op := .mts, w := 0x58 }), (0xA041, some { op := .waitu, w := 1, g := 1 }),
    (0xAFCF, some { op := .waitu, w := 63, g := 15 }), (0x8080, none), (0x9000, none), (0xA010, none), (0xF000, none)] :
    List (Nat × Option TWord)), tdecode x.1 = x.2 := by decide

/-! Tasko cores. Tile 0 or management core 3 (core 131) runs at address 0. A witness is a Boolean check that evaluates to true;
`runs_executes` says what `runs` means. -/

/-- Core `n` executes an instruction of operation `op` next, of which and of the core `p` holds. -/
def runs (s : State) (n : Nat) (op : TOp) (p : TDec → Core → Bool) : Bool :=
  match s.tfetch n with
  | some (some d) => decide (d.i.op = op) && p d (s.tcore n)
  | _ => false

theorem runs_executes {s : State} {n : Nat} {op : TOp} {p : TDec → Core → Bool} (h : runs s n op p = true) :
    ∃ d, s.executes n op d ∧ p d (s.tcore n) = true := by
  unfold runs at h
  split at h
  · rename_i d hd
    simp only [Bool.and_eq_true, decide_eq_true_eq] at h
    exact ⟨d, ⟨hd, h.1⟩, h.2⟩
  · cases h

/-- The next state satisfies `p`. -/
def ends (o : Host.Outcome State Fault Refusal) (p : State → Bool) : Bool :=
  match o with
  | .next t => p t
  | _ => false

/-- A running core with these words from program address 0. -/
def running (ws : List Half) (c : Core) : Core :=
  { c with run := .running, words := 16, prog := ws.zipIdx.map (fun p => (p.2, p.1)) }

/-- Tile 0, or management core 3, runs this program. -/
def tileAt (ws : List Half) (c : Core) : State := State.reset.setTcore 0 (running ws c)
def coreAt (ws : List Half) (c : Core) : State := State.reset.setTcore 131 (running ws c)

def known (l : List Half) : List TVal := l.map .known

/-- Two entries; a full stack. -/
def two : Core := { stack := known [3, 5] }
def full : Core := { stack := known (List.replicate 16 7) }

/-- Nothing waits for a branch. -/
def free (c : Core) : Bool := c.specs.isEmpty

def twoOps : List (Half × TOp) := [
  (0x0060, .add), (0x0061, .sub), (0x0062, .addc), (0x0063, .subb), (0x0064, .mul), (0x0065, .mulh), (0x0066, .and),
  (0x0067, .or), (0x0068, .xor), (0x0069, .not), (0x006A, .neg), (0x006B, .shl), (0x006C, .shr), (0x006D, .sar),
  (0x0040, .dup), (0x0041, .drop), (0x0042, .swap), (0x0043, .copyOver), (0x0045, .nip)]

theorem witness_TaskoArithmeticAndStack : twoOps.all (fun x =>
    runs (tileAt [x.1] two) 0 x.2 (fun _ c => c.stack == known [3, 5] && free c) &&
    runs (coreAt [x.1] two) 131 x.2 (fun _ c => c.stack == known [3, 5] && c.sp == c.sb)) = true := by decide +kernel

/-- 14 entries, and an empty stack over a spilled word. -/
theorem witness_TaskoArithmeticAndStack_pushes :
    ([(0x0012, .pushi), (0x0013, .pushi2), (0x67FF, .pushs)] : List (Half × TOp)).all (fun x =>
      runs (tileAt [x.1, 8, 9] { stack := known (List.replicate 14 7) }) 0 x.2 (fun _ c => c.stack.length == 14 && free c) &&
      runs (tileAt [x.1, 8, 9] { sp := 0xFF7F }) 0 x.2 (fun _ c => c.stack.isEmpty && free c)) = true := by decide +kernel

/-- ROT with rest of 13 entries; PICK in the hardware stack, of the first and the last spilled entry, and one beyond; a push with
one free word below SP and with none; ADD on one entry. -/
theorem witness_TaskoArithmeticAndStack_stack :
    (runs (tileAt [0x0044] full) 0 .rot (fun _ c => c.stack == known [7, 7, 7] ++ known (List.replicate 13 7) && free c) &&
    runs (tileAt [0x0046] { stack := known [1, 5, 6] }) 0 .pick (fun _ c => c.stack == known [1, 5, 6] && free c) &&
    runs (tileAt [0x0046] { stack := known [2, 5, 6], sp := 0xFF7D }) 0 .pick (fun _ c => (c.sb - c.sp).toNat == 3 && free c) &&
    runs (tileAt [0x0046] { stack := known [4, 5, 6], sp := 0xFF7D }) 0 .pick (fun _ c => (c.sb - c.sp).toNat == 3 && free c) &&
    runs (tileAt [0x0046] { stack := known [5, 5, 6], sp := 0xFF7D }) 0 .pick (fun _ c => (c.sb - c.sp).toNat == 3) &&
    runs (tileAt [0x0012] { full with sl := 0xFF7F }) 0 .pushi (fun _ c => decide (c.sl.toNat < c.sp.toNat) && free c) &&
    runs (tileAt [0x0012] { full with sl := 0xFF80 }) 0 .pushi (fun _ c => decide (c.sp.toNat ≤ c.sl.toNat) && free c) &&
    runs (tileAt [0x0060] { stack := known [1] }) 0 .add (fun _ c => c.depth == 1)) = true := by decide +kernel

/-- The entry at s0 after an instruction on this stack. -/
def s0After (i : Instr) (w : Half) (st : List Half) : Option TVal :=
  match exec i (tileAt [w] { stack := known st }) with
  | .next t => (t.tcore 0).stack.head?
  | _ => none

/-- ADD, SUB, SUBB, SHL, SAR and MULH on values that wrap (R253); a push that spills (R206). -/
theorem test_add_wraps : s0After (.add 0) 0x0060 [4, 0xFFFE] = some (.known 2) := by decide +kernel
theorem test_sub_order : s0After (.sub 0) 0x0061 [3, 1] = some (.known 0xFFFE) := by decide +kernel
theorem test_subb_borrow : s0After (.subb 0) 0x0063 [3, 1] = some (.known 1) := by decide +kernel
theorem test_shl_amount : s0After (.shl 0) 0x006B [17, 0xC000] = some (.known 0x8000) := by decide +kernel
theorem test_sar_sign : s0After (.sar 0) 0x006D [15, 0x8000] = some (.known 0xFFFF) := by decide +kernel
theorem test_mulh_unsigned : s0After (.mulh 0) 0x0065 [0xFFFF, 0xFFFF] = some (.known 0xFFFE) := by decide +kernel

theorem test_pushi_spills : ends (exec (.pushi 0) (tileAt [0x0012, 9] full)) (fun t =>
    (t.tcore 0).dataAt 0xFF7F == 7 && (t.tcore 0).sp == 0xFF7F && (t.tcore 0).stack.head? == some (.known 9)) = true := by
  decide +kernel

theorem witness_TaskoComparisonsAndBranches :
    (([(0x1005, .ceq), (0x101F, .cne), (0x1020, .cltu), (0x1030, .cleu), (0x1040, .clts), (0x1050, .cles), (0x1060, .cz)] :
        List (Half × TOp)).all (fun x => runs (tileAt [x.1] two) 0 x.2 (fun _ c => c.stack == known [3, 5] && free c)) &&
    ([(0x2080, .bz), (0x1200, .bzl), (0x307F, .bnz), (0x1210, .bnzl)] : List (Half × TOp)).all (fun x =>
      runs (tileAt [x.1, 9] {}) 0 x.2 (fun d c => c.greg d.i.g == .known 0) &&
      runs (coreAt [x.1, 9] { gregs := [(0, .known 1)] }) 131 x.2 (fun d c => c.greg d.i.g == .known 1))) = true := by
  decide +kernel

/-- The register that a comparison of 0xFFFE (b) with 3 (a) writes. -/
def g5After (i : Instr) (w : Half) : Option TVal :=
  match exec i (tileAt [w] { stack := known [3, 0xFFFE], gregs := [(5, .known 9)] }) with
  | .next t => some ((t.tcore 0).greg 5)
  | _ => none

theorem test_cltu_unsigned : g5After (.cltu 0) 0x1025 = some (.known 0) := by decide +kernel
theorem test_clts_signed : g5After (.clts 0) 0x1045 = some (.known 1) := by decide +kernel
theorem test_bz_back : ends (exec (.bz 0) (tileAt [0x25FF] {})) (fun t => (t.tcore 0).pc == 0) = true := by decide +kernel

/-- A window register: VALID, WR, own SRAM, from 2 MiB - 64. -/
def sramWin : Word := 0x70000000001FFFC0
/-- Management space from the fuse values, read only to cores. -/
def fuseWin : Word := 0xB000000100000000

theorem witness_TaskoRegisterMoves :
    (runs (tileAt [0x110F] { stack := known (List.replicate 15 7) }) 0 .pushg (fun d c => c.greg d.i.g == .known 0 && free c) &&
    runs (coreAt [0x1110] two) 131 .popg (fun _ c => free c) &&
    runs (tileAt [0x1120] {}) 0 .incg (fun d c => c.greg d.i.g == .known 0) &&
    runs (tileAt [0x1130] {}) 0 .decg (fun d c => c.greg d.i.g == .known 0) &&
    runs (tileAt [0x7D03] { stack := known [0xFFC0, 0x1F, 0, 0x7000] }) 0 .setw (fun d c =>
      decide (d.i.w < winCount d.mg) && winSpaceOk d.mg 0x70000000001FFFC0 && free c) &&
    runs (coreAt [0x7D0F] { stack := known [0, 0, 0, 0xC000] }) 131 .setw (fun d c =>
      decide (d.i.w < winCount d.mg) && !winSpaceOk d.mg 0xC000000000000000 && free c) &&
    runs (tileAt [0x800B] {}) 0 .mfs (fun d c => (State.special State.reset d c d.i.w).isSome && !c.rsvPending) &&
    runs (coreAt [0x8058] {}) 131 .mfs (fun d c => (State.special State.reset d c d.i.w).isSome) &&
    runs (tileAt [0x8050] {}) 0 .mfs (fun d c => (State.special State.reset d c d.i.w).isNone && free c)) = true := by
  decide +kernel

/-- A branch that waits for value 5, taken before the tested one. -/
def open5 : Checkpoint := ⟨5, true, true, 0, [], [], [], 0xFF80, []⟩

theorem witness_TaskoJumpsAndPrediction :
    (([(0x0007, .nop), (0x47FF, .jmp), (0x0014, .jmpl), (0x0004, .ret), (0x0005, .jmps), (0x0006, .calls), (0x5800, .call),
        (0x0015, .calll)] : List (Half × TOp)).all (fun x =>
      runs (tileAt [x.1, 9] { stack := known (List.replicate 15 7) }) 0 x.2 (fun _ c => free c && c.stack.length == 15) &&
      runs (coreAt [x.1, 9] { stack := known [7] }) 131 x.2 (fun _ c => free c)) &&
    ([(0x2080, .bz), (0x1200, .bzl), (0x307F, .bnz), (0x1210, .bnzl)] : List (Half × TOp)).all (fun x =>
      runs (tileAt [x.1, 9] { gregs := [(0, .await 4)], specs := [open5] }) 0 x.2 (fun d c => c.greg d.i.g == .await 4 && c.specs.length == 1) &&
      runs (tileAt [x.1, 9] { gregs := [(0, .await 4)], specs := [open5, open5] }) 0 x.2 (fun d c => c.greg d.i.g == .await 4 && c.specs.length == 2) &&
      runs (coreAt [x.1, 9] { gregs := [(0, .await 4)] }) 131 x.2 (fun d c => c.greg d.i.g == .await 4))) = true := by
  decide +kernel

/-- An access to a window that is outstanding. -/
def waiting (k : WKind) (id a : Nat) : WinAccess := ⟨id, k, .ownSram, a, 1, 0, 0, id, []⟩

theorem witness_TaskoLoadsAndStores :
    (([(0x7000, .ld), (0x7100, .st), (0x7200, .tas), (0x7300, .ldr), (0x7400, .stc)] : List (Half × TOp)).all (fun x =>
      runs (tileAt [x.1] two) 0 x.2 (fun d c => free c && !d.i.win && !c.rsvPending && c.stack.length == 2)) &&
    runs (tileAt [0x7400] { two with rsv := some (1, 0) }) 0 .stc (fun d c => free c && !d.i.win && c.rsv == some (1, (3 : Half).toNat / 32)) &&
    runs (tileAt [0x7400] { two with rsv := some (1, 1) }) 0 .stc (fun d c => free c && !d.i.win && c.rsv != some (1, (3 : Half).toNat / 32)) &&
    runs (tileAt [0x7100] { two with specs := [{ open5 with stores := List.replicate 8 0 }] }) 0 .st (fun _ c =>
      sumOf (c.specs.map (fun p => p.stores.length)) == 8) &&
    ([(.ldx, .load, 0x7803), (.ldr, .loadReserved, 0x7B03), (.tas, .tas, 0x7A03), (.stx, .store, 0x7903), (.stc, .storeConditional, 0x7C03)] :
        List (TOp × WKind × Half)).all (fun x =>
      runs (tileAt [x.2.2] { stack := known [31, 5], wins := [(3, sramWin)] }) 0 x.1 (fun d c =>
        free c && !c.rsvPending && d.i.win &&
        (match (tileAt [] c).winCheck 0 x.2.1 (Tbl.getD c.wins d.i.w 0).toNat 31 with
          | .ok _ p => p == (.ownSram, 0x1FFFFE)
          | _ => false))) &&
    runs (tileAt [0x7803] { stack := known [32], wins := [(3, sramWin)] }) 0 .ldx (fun d c =>
      (match (tileAt [] c).winCheck 0 .load (Tbl.getD c.wins d.i.w 0).toNat 32 with
        | .exc _ code => code == TF.WINDOW_FAULT
        | _ => false) && free c) &&
    runs (coreAt [0x780F] { stack := known [0xFF], wins := [(15, fuseWin)] }) 131 .ldx (fun d c =>
      (match (tileAt [] c).winCheck 131 .load (Tbl.getD c.wins d.i.w 0).toNat 0xFF with
        | .ok _ p => p == (.management, 0x1000001FE)
        | _ => false) && free c && !(coreAt [] c).sameBlock 131 .management 0x1000001FE) &&
    (coreAt [] { accesses := [⟨1, .store, .management, 0x1000001C0, 0, 0, 0, 0, []⟩] }).sameBlock 131 .management 0x1000001FE &&
    runs (coreAt [0x790F] { stack := known [0, 5], wins := [(15, 0xB000000000000000)] }) 131 .stx (fun d c =>
      (match (tileAt [] c).winCheck 131 .store (Tbl.getD c.wins d.i.w 0).toNat 0 with
        | .ok _ p => p == (.management, 0)
        | _ => false) && free c)) = true := by
  decide +kernel

/-- The clauses of the window check on the tile's own SRAM: the last word, one beyond, not VALID, a store without WR. -/
theorem witness_TaskoLoadsAndStores_window :
    decide (winSpace sramWin.toNat = 1 ∧ bit sramWin.toNat 60 = true ∧ bit sramWin.toNat 61 = true ∧
      winBase sramWin.toNat + 2 * (31 : Half).toNat + 1 < 0x200000 ∧ 0x200000 ≤ winBase sramWin.toNat + 2 * (32 : Half).toNat + 1 ∧
      winSpace 0x6000000000000000 = 1 ∧ bit 0x6000000000000000 60 = false ∧
      winSpace 0x5000000000000000 = 1 ∧ bit 0x5000000000000000 60 = true ∧ bit 0x5000000000000000 61 = false) = true := by
  decide +kernel

/-- Outstanding accesses of tile 0: performed, performed with an exception, and behind another to its block. -/
theorem witness_TaskoLoadsAndStores_return :
    (let a := tileAt [] { accesses := [waiting .load 1 0, waiting .load 2 64, waiting .load 3 2, ⟨4, .load, .device, 0x900000000000, 1, 0, 0, 4, []⟩] };
    decide (rsvBlock 0 .ownSram 0 ≠ rsvBlock 0 .ownSram 64 ∧ rsvBlock 0 .ownSram 0 = rsvBlock 0 .ownSram 2) &&
    ((a.tcore 0).accesses[1]? == some (waiting .load 2 64)) && ((a.tcore 0).accesses[2]? == some (waiting .load 3 2)) &&
    (match a.winPerform {} 0 .load .ownSram 64 1 with
      | .ok _ v => v == 0
      | _ => false) &&
    (match a.winPerform {} 0 .load .device 0x900000000000 1 with
      | .exc _ _ => true
      | _ => false) &&
    ((a.tcore 0).rsv != some (rsvBlock 0 .ownSram 0)) &&
    a.mayGrant 0 (waiting .load 1 0) && !a.mayGrant 0 (waiting .load 2 64) && !a.mayGrant 0 (waiting .load 3 2) &&
    (a.tile 0).fault.isNone && decide (a.tcore 0).accesses.Nodup &&
    (a.bankWaits 0 (bankOf 64)).any (fun y => decide (y.since < 2)) &&
    (let b := coreAt [] { accesses := [⟨1, .store, .management, 0, 1, 0, 0, 0, []⟩] };
      b.mayGrant 131 ⟨1, .store, .management, 0, 1, 0, 0, 0, []⟩ && (b.tcore 131).run == .running &&
      b.writeWaits 130 (rsvBlock 130 .management 2))) = true := by
  decide +kernel

/-- A tile sequencer behind a WAITU goes on with a conditional branch on its register alone (R212). -/
theorem witness_TaskoUnits_waitu :
    (runs (tileAt [0x2480] { gregs := [(4, .await 9)], waitu := some (7, 9) }) 0 .bz (fun d c => c.greg d.i.g == .await 9) &&
    (tileAt [0x0007] { gregs := [(4, .await 9)], waitu := some (7, 9) }).tfetch 0 == none &&
    (tileAt [0x0000] { gregs := [(4, .await 9)], waitu := some (7, 9) }).tfetch 0 == none &&
    runs (tileAt [0x0007] { gregs := [(4, .await 9)], waitu := some (7, 9), specs := [open5] }) 0 .nop (fun _ _ => true)) = true := by
  decide +kernel

theorem witness_TaskoSpecialRegisters :
    ([0x8000, 0x8003].all (fun w =>
      runs (tileAt [w] { stack := known (List.replicate 15 7) }) 0 .mfs (fun _ c => free c && c.stack.length == 15) &&
      runs (coreAt [w] { full with sl := 0xFF7F }) 131 .mfs (fun _ c => free c && decide (c.sl.toNat < c.sp.toNat))) &&
    [0x8800, 0x8801, 0x8802, 0x8803, 0x8804].all (fun w => runs (tileAt [w] { stack := known [0xFF80] }) 0 .mts (fun _ c =>
      free c && c.sp == c.sb && decide ((0xFF80 : Half).toNat ≤ c.sp.toNat))) &&
    runs (tileAt [0x8801] { stack := known [0], sp := 0xFF7F }) 0 .mts (fun _ c => free c && c.sp != c.sb) &&
    runs (tileAt [0x8802] { stack := known [0xFF81] }) 0 .mts (fun _ c => free c && decide (c.sp.toNat < (0xFF81 : Half).toNat)) &&
    [0x8850, 0x8851, 0x8852, 0x8853, 0x8854, 0x8855, 0x8856, 0x8857, 0x8858].all (fun w =>
      runs (coreAt [w] two) 131 .mts (fun _ c => free c))) = true := by decide +kernel

/-- A command in the units of tile 0 under tag 7. -/
def tag7 : UnitCmd := ⟨0, 7, [], 0, 0, .queued, 0⟩
def withCmd (s : State) : State := s.setTile 0 { s.tile 0 with cmds := [tag7] }

/-- Eight Geyser commands in the units of tile 0 (R305). -/
def eightGeyser (s : State) : State :=
  s.setTile 0 { s.tile 0 with cmds := (List.range 8).map (fun i => ⟨BitVec.ofNat 64 (0xC000 + i), i, [], 0, 0, .queued, 0⟩) }

theorem witness_TaskoUnits :
    (runs (tileAt [0x0010] { stack := known [7, 1, 2, 3] }) 0 .issue (fun _ c => free c) &&
    runs (withCmd (tileAt [0x0010] { stack := known [7, 1, 2, 3] })) 0 .issue (fun _ c => free c) &&
    runs (eightGeyser (tileAt [0x0010] { stack := known [0xC008, 1, 2, 3] })) 0 .issue (fun _ c => free c) &&
    (((eightGeyser (tileAt [] {})).tile 0).cmds.filter (fun c => c.unit == 3 && !isDone c.phase)).length == 8 &&
    runs (tileAt [0x0011, 7, 9] two) 0 .issuex (fun d c => free c && d.e1 == 7) &&
    ((tileAt [] {}).tile 0).cmd? 7 == none && ((withCmd (tileAt [] {})).tile 0).cmd? 7 != none &&
    runs (tileAt [0xA1C0] {}) 0 .waitu (fun d c => free c && d.i.w == 7 && d.core == 0) &&
    runs (withCmd (tileAt [0xA1C0] {})) 0 .waitu (fun d _ => d.i.w == 7) &&
    runs (tileAt [0x0001] {}) 0 .endTile (fun d c => free c && d.core == 0) &&
    runs (withCmd (tileAt [0x0001] {})) 0 .endTile (fun _ _ => true) &&
    runs (tileAt [0x0003] { accesses := [waiting .load 1 0] }) 0 .sync (fun _ c => free c && c.accesses.all (fun x => x.kind == .load)) &&
    runs (tileAt [0x0003] { accesses := [waiting .store 1 0] }) 0 .sync (fun _ c => c.accesses.any (fun x => x.kind != .load))) = true := by
  decide +kernel

theorem witness_TaskoManagementCoreHasNoUnits :
    ([(0x0010, .issue), (0x0011, .issuex), (0xA1C0, .waitu)] : List (Half × TOp)).all (fun x =>
      runs (coreAt [x.1] {}) 131 x.2 (fun _ _ => true)) = true := by decide +kernel

/-- ISSUE puts its command in the tile's units (R121); on a management core it enters handler 1 (R217, R239). -/
theorem test_issue : ends (exec (.issue 0) (tileAt [0x0010] { stack := known [0x47, 1, 2, 3] })) (fun t =>
    (t.tile 0).cmds.map (fun c => (c.value, c.tag)) == [(0x0003000200010047, 7)]) = true := by decide +kernel
theorem test_issue_management : ends (exec (.issue 131) (coreAt [0x0010] { gie := true, ivb := 0x100 })) (fun t =>
    (t.tcore 131).pc == 0x108 && (t.tcore 131).ecause == 1) = true := by decide +kernel

/-- A management core with lines 3 and 31 pending; line 3 alone enabled. -/
def due (c : Core) : Core := { c with ipend := 0x80000008, ien := 8 }

theorem witness_TaskoInterruptsAndExceptions :
    (([(0x0008, .ei), (0x0009, .di), (0x000A, .reti), (0x000B, .waiti)] : List (Half × TOp)).all (fun x =>
      runs (coreAt [x.1] {}) 131 x.2 (fun d c => decide (128 ≤ d.core) && c.lines == 0) &&
      runs (tileAt [x.1] {}) 0 x.2 (fun _ c => free c)) &&
    runs (coreAt [0x000B] (due {})) 131 .waiti (fun _ c => c.lineDue 3) &&
    (let c := (coreAt [] (due { gie := true })).tcore 131;
      c.run == .running && c.gie && c.lineDue 3 && !c.lineDue 31 && (List.range 3).all (fun m => !c.lineDue m)) &&
    (let c := (coreAt [] { gie := true, ipend := 0xFFFFFFFF }).tcore 131; (List.range 40).all (fun l => !c.lineDue l)) &&
    runs (coreAt [0x0002] { gie := true }) 131 .fault (fun _ c => free c && c.gie) &&
    runs (coreAt [0x0002] {}) 131 .fault (fun _ c => free c && !c.gie) &&
    runs (tileAt [0x0002] {}) 0 .fault (fun _ c => free c) &&
    (coreAt [0x6E] { gie := true }).tfetch 131 == some none && (coreAt [0x6E] {}).tfetch 131 == some none &&
    (tileAt [0x6E] {}).tfetch 0 == some none && ((tileAt [] {}).tile 0).fault == none) = true := by decide +kernel

/-- The interrupt of line 3 enters vector 0x23 (R239). -/
theorem test_interrupt_entry : ends (exec (.interruptEntry 131) (coreAt [] (due { gie := true, ivb := 0x200, pc := 9 }))) (fun t =>
    (t.tcore 131).pc == 0x318 && (t.tcore 131).epc == 9 && (t.tcore 131).ecause == 0x23 && !(t.tcore 131).gie) = true := by
  decide +kernel

/-- A core whose registers g12 to g15 hold SRC, DST, COUNT and the flags of a block-repeat instruction. -/
def repeating (src dst count flags : Half) (c : Core) : Core :=
  { c with gregs := [(12, .known src), (13, .known dst), (14, .known count), (15, .known flags)] }

theorem witness_TaskoBlockRepeat :
    (([(0x0020, .movw), (0x0021, .fillw), (0x0022, .cmpw), (0x0023, .scanw), (0x0024, .packw)] : List (Half × TOp)).all (fun x =>
      -- two words left, and three; no word left; a stop condition at the last word
      runs (tileAt [x.1] (repeating 0x100 0x200 2 0 { stack := known [1, 0xFFFF] })) 0 x.2 (fun _ c => free c &&
        c.dataAt 0x100 == c.dataAt 0x200 && c.dataAt 0x100 &&& 0xFFFF != 1 &&& (0xFFFF : Half)) &&
      runs (coreAt [x.1] (repeating 0x100 0x200 3 0 { stack := known [1, 0xFFFF] })) 131 x.2 (fun _ c => free c) &&
      runs (tileAt [x.1] (repeating 0x100 0x200 0 0 { stack := known [1, 0xFFFF] })) 0 x.2 (fun _ c => free c) &&
      runs (tileAt [x.1] (repeating 0x100 0x200 1 0 { stack := known [1, 0xFFFF], data := [(0x100, 1)] })) 0 x.2 (fun _ c => free c &&
        c.dataAt 0x100 != c.dataAt 0x200 && c.dataAt 0x100 &&& 0xFFFF == 1 &&& (0xFFFF : Half))) &&
    runs (tileAt [0x0020] (repeating 0x100 0x200 2 0x400 {})) 0 .movw (fun _ c => free c && c.greg 15 == .known 0x400) &&
    runs (tileAt [0x0024] (repeating 0x100 0x200 3 0x800 {})) 0 .packw (fun _ c => free c && c.greg 15 == .known 0x800)) = true := by
  decide +kernel

/-- One step of MOVW (R226). -/
theorem test_movw_step : ends (exec (.movw 0 1 {}) (tileAt [0x0020] (repeating 0x100 0x200 2 0 { data := [(0x100, 5)] }))) (fun t =>
    (t.tcore 0).dataAt 0x200 == 5 && (t.tcore 0).greg 14 == .known 1 && (t.tcore 0).pc == 0) = true := by decide +kernel

/-! Platform states: the K7 is powered, every domain is ready, firmware runs, and the physical function may access device memory. -/

/-- Fields of registers written: field, copy, value. -/
def set (l : List (Fld × Nat × Nat)) (s : State) : State := l.foldl (fun t e => t.setFld e.1 e.2.1 e.2.2) s

def up : State :=
  set [(F.FUM_PD_STAT_ON, 0, 2 ^ 29 - 1), (F.HEP_DEV_STAT_DDT_READY, 0, 1), (F.FUM_BOOT_STAT_STAGE, 0, 5),
    (F.MEM_WIN_BASE_RD, 0, 1), (F.MEM_WIN_BASE_WR, 0, 1), (F.MEM_WIN_LIMIT_LIMIT, 0, 2 ^ 36 - 1)]
    { State.reset with
      fum := { State.reset.fum with powered := true, corePg := true }
      tb := { State.reset.tb with running := true, time := 1000000000000 } }

def okIs {α : Type} (r : Except Nat α) (p : α → Bool) : Bool :=
  match r with
  | .ok a => p a
  | .error _ => false

/-- A clause that has been dispatched from ring 0 into slot 0, by class, opcode and its words after the first. -/
def clauseSlot (cls op : Nat) (ws : List Word) : Slot :=
  { ring := 0, idx := 0, fn := 0, words := BitVec.ofNat 64 (cls * 256 + op) :: ws, phase := .dispatched }
def ring0 : Ring := { st := .active, base := 0x080000000000, size := 16, cq := 0 }
def clause (cls op : Nat) (ws : List Word) : State := (up.setRing 0 ring0).setSlot 0 (clauseSlot cls op ws)

/-- Bytes at the head of shared SRAM. -/
def shared (bs : List Byte) (s : State) : State := s.devWrite 0x080000000000 bs

/-! Caldera tiles. -/

/-- A queued unit command: unit, op and tag in the header, c1 to c3, and its tensor descriptors. -/
def cmd (unit op tag c1 c2 c3 : Nat) (descs : List (Nat × Nat)) : UnitCmd :=
  ⟨BitVec.ofNat 64 (unit * 2 ^ 14 + op * 2 ^ 9 + tag + c1 * 2 ^ 16 + c2 * 2 ^ 32 + c3 * 2 ^ 48), tag, descs, 0x40, 0, .queued, 0⟩

/-- A tensor descriptor: format, stride in 64-byte units, columns, rows, scale plane and base in 64-byte units (R129). -/
def desc (fmt stride cols rows scale base : Nat) : Nat :=
  fmt * 2 ^ 80 + stride * 2 ^ 64 + cols * 2 ^ 48 + rows * 2 ^ 32 + scale * 2 ^ 16 + base

def role0 : Role := ⟨3, 0, [0], 9, .running, 0, 16, 0, 5, none⟩

/-- Tile 0, held by its own role, with these commands in its units. -/
def unitTile (l : List UnitCmd) : State :=
  ({ up with roles := [(0, role0)] } : State).setTile 0 { role := some 0, everHeld := true, cmds := l }

/-- An FP32 weight matrix of 64 rows by 64 lanes into bank 0, and one of FP16 into bank 1; MMA of rows of 64 elements. -/
def fp32W : Nat := desc 0x01 4 64 64 0 0
def fp16W : Nat := desc 0x03 2 64 64 0 0

def ldwFits (c : UnitCmd) : Bool :=
  let s := unitTile [c]
  (s.tile 0).ready 5 0 (· == 0) == some c && field (c.c 0) 7 6 == 0 && !c.rnd && decide (c.c 1 < 32) && c.c 2 == 0 && c.c 3 == 0 &&
  okIs (s.descOf 0 c (c.c 1 % 16) true) (fun p => p.1.rows == p.2.cls.k && p.1.cols == 64 &&
    (s.readOperand {} 0 p.1 p.2 true).2.isSome)

def mmaFits (c : UnitCmd) (b : Bank) (bad : Bool) : Bool :=
  let s0 := unitTile [c]
  let s := s0.setTile 0 { s0.tile 0 with bank0 := b, bank1 := b, accPoison := if bad then [(0, true)] else [] }
  (s.tile 0).ready 5 0 (· == 1) == some c && field (c.c 0) 7 6 == 0 && !c.rnd && decide (c.c 1 < 64) && decide (c.c 2 < 512) && c.c 3 == 0 &&
  okIs (s.descOf 0 c (c.c 1 % 16) false) (fun p => p.2.cls == b.cls && p.1.cols == b.cls.k && decide (c.c 2 + p.1.rows ≤ 512) &&
    (let r := s.readOperand {} 0 p.1 p.2 false;
     r.2.isSome && (bit (c.c 1) 5 || !((r.1.accEcc {} 0 (c.c 2) p.1.rows).tile 0).accBad (c.c 2) p.1.rows)))

theorem witness_MatrixUnit :
    (ldwFits (cmd 0 0 5 0 0 0 [(0, fp32W)]) && ldwFits (cmd 0 0 5 31 0 0 [(15, fp16W)]) &&
    mmaFits (cmd 0 1 5 0 511 0 [(0, desc 0x01 4 64 1 0 0)]) ⟨.f32, []⟩ false &&
    mmaFits (cmd 0 1 5 63 508 0 [(15, desc 0x03 2 64 4 0 0)]) ⟨.w16, []⟩ true) = true := by decide +kernel

/-- Vector commands over one row of FP32: D is descriptor 1, A is 2, B is 3. -/
def vecTile (op c1 c2 c3 : Nat) (dcols : Nat) : State :=
  unitTile [cmd 1 op 5 c1 c2 c3 [(1, desc 0x01 4 dcols 1 0 64), (2, desc 0x01 1 2 1 0 0), (3, desc 0x01 1 2 1 0 32)]]

def vecFits (s : State) (op c2bits c3bits : Nat) (usesA usesB sameCols : Bool) (k : Nat) : Bool :=
  match (s.tile 0).ready 5 1 (· == op) with
  | none => false
  | some c =>
    vecFields c usesA usesB c2bits c3bits && c.c 2 == k &&
    okIs (s.descOf 0 c (field (c.c 1) 3 0) false) (fun d =>
      (!usesA || okIs (s.vecOperand 0 c (field (c.c 1) 7 4) d.1 sameCols) (fun a => (s.readOperand {} 0 a.1 a.2 false).2.isSome)) &&
      (!usesB || okIs (s.vecOperand 0 c (field (c.c 1) 11 8) d.1 true) (fun b => (s.readOperand {} 0 b.1 b.2 false).2.isSome)) &&
      (s.storeResult 0 d.1 d.2 c.rnd [List.replicate d.1.cols 0]).isSome &&
      (usesA || d.1.cols == 64 && decide (c.c 2 + d.1.rows ≤ 512) && !((s.accEcc {} 0 (c.c 2) d.1.rows).tile 0).accBad (c.c 2) d.1.rows))

theorem witness_VectorUnit :
    ((List.range 6).all (fun k => vecFits (vecTile 0 0x321 k 0 2) 0 3 0 true true true k) &&
    (List.range 5).all (fun k => vecFits (vecTile 1 0x021 k 0xFFFF 2) 1 3 16 true false true k) &&
    vecFits (vecTile 2 0x021 0 0 2) 2 0 0 true false true 0 && vecFits (vecTile 5 0x021 0 0 2) 5 0 0 true false true 0 &&
    (List.range 2).all (fun k => vecFits (vecTile 4 0x021 k 0 1) 4 1 0 true false false k) &&
    vecFits (vecTile 3 0x001 511 0x3F80 64) 3 9 16 false false true 511) = true := by decide +kernel

/-- The first lane of D after a vector command on rows of 1.5 (A) and 2.0 (B). -/
def vecLane (i : Instr) (s : State) : Nat :=
  let t := (s.devWrite (sramBase 0) [0, 0, 0xC0, 0x3F, 0, 0, 0xC0, 0x3F]).devWrite (sramBase 0 + 2048) [0, 0, 0, 0x40, 0, 0, 0, 0x40]
  match exec i t with
  | .next t => ofBytes (t.devRead (sramBase 0 + 4096) 4)
  | _ => 0

theorem test_ew_add : vecLane (.ew 0 5 {}) (vecTile 0 0x321 0 0 2) = 0x40600000 := by decide +kernel
theorem test_ew_sub : vecLane (.ew 0 5 {}) (vecTile 0 0x321 1 0 2) = 0xBF000000 := by decide +kernel
theorem test_scalar_mul : vecLane (.scalar 0 5 {}) (vecTile 1 0x021 2 0x4000 2) = 0x40400000 := by decide +kernel
theorem test_reduce_sum : vecLane (.reduce 0 5 {}) (vecTile 4 0x021 0 0 1) = 0x40400000 := by decide +kernel

/-! Data commands of a tile, launches and roles. -/

/-- Tile 0 with one command, its DA1 at shared SRAM, DA2 at the window of tile 1. -/
def dmaTile (op c1 c2 c3 : Nat) : State :=
  let s := unitTile [cmd 2 op 5 c1 c2 c3 [(2, desc 0x01 1 2 2 0 32767), (3, desc 0x01 1 2 2 0 0)]]
  s.setTile 0 { s.tile 0 with da := [(1, 0x080000000000), (2, 0x090000200000)] }

def dmaFits (put : Bool) (s : State) (stale : Bool) : Bool :=
  match (s.tile 0).ready 5 2 (· == if put then 1 else 0) with
  | none => false
  | some c =>
    field (c.c 0) 8 6 == 0 && field (c.c 1) 15 8 == 0 && c.c 3 == 0 &&
    okIs (s.descOf 0 c (field (c.c 1) 3 0) false) (fun p =>
      let bytes := rowBytes p.1.cols p.2.width
      let at' := fun r => (s.tile 0).daAt (field (c.c 1) 7 4) + r * c.c 2 * 64
      let rows := (List.range p.1.rows).flatMap (fun r =>
        (windowPieces (at' r) bytes).map (fun q => (q.1, p.1.base + r * p.1.stride + q.2.1, q.2.2)))
      s.checkRanges (s.tileFn 0) put ((List.range p.1.rows).map (fun r => (at' r, bytes))) == .ok () &&
      (match (s.dmaRows {} 0 (s.tileFn 0) put false rows).2 with
        | .ok b => b == stale
        | _ => false))

theorem witness_TileDataCommands :
    (dmaFits false (dmaTile 0 0x13 1 0) false && dmaFits true (dmaTile 1 0x13 1 0) false &&
    dmaFits false (dmaTile 0 0x23 1 0) true && dmaFits true (dmaTile 1 0x23 1 0) true &&
    ((dmaTile 31 0xFFFF 0xFFFF 0xFFFF).tile 0).ready 5 2 (fun op => decide (16 ≤ op)) != none) = true := by decide +kernel

/-- Event counter 1 belongs to the function, and 2 does not; a message with room in the target's queue, with none, and to a tile
of another role. -/
def events (s : State) : State := set [(F.RNG_FN_EVT_EVT_COUNT, 0, 2)] s
def sendTo (target : Nat) (queue : List Word) : State :=
  let s := unitTile [{ cmd 2 3 5 target 0 0 [] with phase := .sent 7 }]
  s.setTile 0 { s.tile 0 with msgs := queue }

theorem witness_RolesAndLaunches_messages :
    (((events (dmaTile 2 1 5 0)).tile 0).ready 5 2 (· == 2) != none && (events (dmaTile 2 1 5 0)).evtNumber 0 1 == some 1 &&
    ((events (dmaTile 2 2 5 0)).tile 0).ready 5 2 (· == 2) != none && (events (dmaTile 2 2 5 0)).evtNumber 0 2 == none &&
    ((dmaTile 3 0x300 0 0).tile 0).ready 5 2 (· == 3) != none && (((dmaTile 3 0x300 0 0).sramRead {} 0 0 8).2 == some (List.replicate 8 0)) &&
    (sendTo 1 []).rolePasses 0 (sramBase 1) == false &&
    (sendTo 0 (List.replicate 16 1)).rolePasses 0 (sramBase 0) && ((sendTo 0 (List.replicate 16 1)).tile 0).msgs.length == 16 &&
    ((sendTo 0 (List.replicate 15 1)).tile 0).msgs.length == 15 && ((sendTo 0 []).tile 0).before 5 == [] &&
    ((dmaTile 4 3 0 0).tile 0).ready 5 2 (· == 4) != none &&
    ((dmaTile 4 3 0 0).sramWrite 0 0 (bytesOfWords [])).isSome) = true := by decide +kernel

def loadFits (s : State) (op bytes : Nat) (p : List Byte → Bool) : Bool :=
  match (s.tile 0).ready 5 2 (· == op) with
  | none => false
  | some c =>
    let a := (s.tile 0).daAt (field (c.c 1) 7 4)
    field (c.c 0) 8 6 == 0 && field (c.c 1) 3 0 == 0 && field (c.c 1) 15 8 == 0 && a % 64 == 0 && s.refused 0 a bytes == [] &&
    (decide (10 ≤ op) || countFields c) && s.checkRange 0 false false a bytes == .ok () &&
    (match (s.readChecked {} 0 a bytes).2 with
      | .ok bs => p bs
      | _ => false)

theorem witness_TileDataCommands_tables :
    (loadFits (dmaTile 8 0x10 255 1) 8 2 (fun _ => true) && loadFits (dmaTile 8 0x10 0 256) 8 512 (fun _ => true) &&
    loadFits (dmaTile 9 0x10 255 1) 9 4 (fun bs => (groupsOf 4 1 bs).all (fun e => !encReserved {} 255 e)) &&
    loadFits (shared [0, 1] (dmaTile 9 0x10 255 1)) 9 4 (fun bs => (groupsOf 4 1 bs).any (encReserved {} 255)) &&
    loadFits (dmaTile 10 0x10 0 0) 10 128 (fun bs => !controlReserved (wordsOf 16 bs)) &&
    loadFits (shared (List.replicate 72 0 ++ [1]) (dmaTile 10 0x10 0 0)) 10 128 (fun bs => controlReserved (wordsOf 16 bs)) &&
    loadFits (dmaTile 11 0x10 0 0) 11 1088 (fun bs => !curveReserved (wordsOf 136 bs)) &&
    loadFits (shared (List.replicate 16 0 ++ [3]) (dmaTile 11 0x10 0 0)) 11 1088 (fun bs => curveReserved (wordsOf 136 bs))) = true := by
  decide +kernel

/-- A finished command behind nothing of its unit, one behind another of it, and a command with an undefined OP. -/
theorem witness_TileDataCommands_units :
    ([cmd 0 0 6 0 0 0 [], { cmd 1 0 5 0 0 0 [] with phase := .done 0 }].all (fun c => c.tag == 6 || c.unit == 1 &&
      ((unitTile [cmd 0 0 6 0 0 0 [], c]).tile 0).cmd? 5 == some c && ((unitTile [cmd 0 0 6 0 0 0 [], c]).tile 0).before 5 == [cmd 0 0 6 0 0 0 []]) &&
    ((unitTile [cmd 1 0 6 0 0 0 [], { cmd 1 0 5 0 0 0 [] with phase := .done 0 }]).tile 0).before 5 == [cmd 1 0 6 0 0 0 []] &&
    ((unitTile []).tile 0).core.waitu == none &&
    (let s := unitTile [{ cmd 1 0 5 0 0 0 [] with phase := .done 0 }];
      ((s.setTcore 0 { s.tcore 0 with waitu := some (5, 9) }).tile 0).core.waitu == some (5, 9)) &&
    [cmd 0 2 5 0 0 0 [], cmd 1 6 5 0 0 0 [], cmd 2 5 5 0 0 0 []].all (fun c => !c.opDefined && decide (c.unit < 3) &&
      ((unitTile [c]).tile 0).ready 5 c.unit (fun _ => true) == some c)) = true := by decide +kernel

/-- LAUNCH of one word on tiles 0 and 15 of die 0, ENTRY 0, program in shared SRAM, no tables; the function may use all tiles. -/
def launchWords : List Word := [0x80010000, 0x080000000000, 1, 0, 0, 0, 0]
def launchTest (ws : List Word) (fields : List (Fld × Nat × Nat)) : State :=
  set ([(F.CAL_FN_TILES_LO_TILES, 0, 2 ^ 64 - 1)] ++ fields) (clause 1 0 ws)
def loading : State :=
  { launchTest launchWords [] with roles := [(0, { role0 with tiles := [0, 15], slot := 0, words := 1, phase := .loading })] }

theorem witness_RolesAndLaunches :
    ((launchTest launchWords []).clauseAt 0 1 0 != none &&
    launchBad ((launchTest [0x80010008] []).slot? 0 |>.map (fun x => x.words) |>.getD []) &&
    launchTiles 0x80010000 == [0, 15] && !launchBad (0x100 :: launchWords) &&
    decide ((launchTest launchWords [(F.FUM_PD_STAT_ON, 0, 2 ^ 29 - 2)]).domain 0 = .off ∧ (launchTest launchWords []).domain 0 = .ready) &&
    !(launchTest launchWords [(F.CAL_FN_TILES_LO_TILES, 0, 1)]).tileAllowed 0 15 &&
    [0, 15].all (fun t => (launchTest launchWords []).tileAllowed 0 t && ((launchTest launchWords []).tile t).role == none) &&
    !(launchTest launchWords []).accessInFlight [0, 15] &&
    loading.clauseAt 0 1 0 != none && (loading.roleOfSlot 0).isSome &&
    [0, 15].all (fun t => (loading.tile t).fault.isNone) &&
    ((loading.setTile 15 { fault := some ⟨TF.ABORTED, 0, 0, 0, none⟩ }).tile 15).fault.isSome &&
    (match (loading.readFor {} 0 0x080000000000 2).2 with
      | .ok bs => bs == [0, 0]
      | _ => false) &&
    (match ((loading.devWrite 0 []).readFor {} 0 0x0FFFFFFFFFFF 2).2 with
      | .fail _ => true
      | _ => false)) = true := by decide +kernel

/-- LAUNCH takes both tiles; a tile outside CAL_FN_TILES refuses it with ROLE_CONFLICT (R142, R152). -/
theorem test_launch : ends (exec (.launch 0) (launchTest launchWords [])) (fun t =>
    (t.tile 0).role == some 0 && (t.tile 15).role == some 0 && (t.tile 1).role == none) = true := by decide +kernel

/-- Tile SEND: target 0 under role 0 with generation 3. -/
def sendTest (w : Word) (n : Nat) : State :=
  (({ clause 1 1 [w, 7] with roles := [(0, role0)] } : State).setTile 0 { role := some 0, msgs := List.replicate n 1 })

theorem witness_RolesAndLaunches_send :
    (bit 0x80 7 && (sendTest 0x80 0).clauseAt 0 1 1 != none && !(sendTest 0x400 0).holdsRole 0 0 4 &&
    (sendTest 0x300 15).holdsRole 0 0 3 && ((sendTest 0x300 15).tile 0).msgs.length == 15 &&
    ((sendTest 0x300 16).tile 0).msgs.length == 16 && zeroFrom ((sendTest 0x300 16).slot? 0 |>.map (fun x => x.words) |>.getD []) 3) = true := by
  decide +kernel

/-- A role of tiles 0 and 1: running under the launch timeout or past it, with a fault, stopping, ended, loading. -/
def roleTest (r : Role) (run : CoreRun) (f : Option FaultRec) : State :=
  let s : State := { clause 1 2 [0x300] with roles := [(0, { r with tiles := [0, 1] })] }
  (s.setTile 0 { role := some 0, core := { run := run } }).setTile 1 { role := some 0, core := { run := run }, fault := f }

theorem witness_RolesAndLaunches_end :
    ((roleTest role0 .running none).clauseAt 0 1 2 != none && Tbl.find? 0 (roleTest role0 .running none).roles != none &&
    decide (role0.gen = field 0x300 15 8 ∧ role0.gen ≠ field 0x400 15 8) &&
    ((roleTest role0 .running none).tile 1).core.run == .running &&
    decide (999999995000 + 5 * 1000 ≤ (roleTest role0 .running none).tb.time) &&
    decide ((roleTest role0 .running none).tb.time < 999999995001 + 5 * 1000) &&
    [RolePhase.stopping, .running].all (fun p =>
      let s := roleTest { role0 with phase := p } .running (some ⟨4, 0, 0, 0, some 0⟩);
      (s.roleOf 1).isSome && (s.tile 1).role == some 0 && (s.tile 1).fault.isSome &&
      ([0, 1].find? (fun m => (s.tile m).fault.isSome) == some 1)) &&
    [RolePhase.stopping, .running, .loading].all (fun p =>
      let s := roleTest { role0 with phase := p } .ended none;
      [0, 1].all (fun m => (s.tile m).cmds.isEmpty && (s.tile m).core.accesses.isEmpty && (s.tile m).fault.isNone &&
        (s.tile m).core.run == .ended))) = true := by
  decide +kernel

/-! Geyser. -/

/-- A GATHER of no entries in slot 0, admitted or finished; the same as a unit command of tile 0. -/
def geyTest (op : Nat) (ws : List Word) (ended : Option GeyEnd) : State :=
  let s := clause 3 op ws
  { s with gey := { ops := [⟨.clause 0, 0, ended, none⟩] } }
def geyUnit (op : Nat) (ended : Option GeyEnd) : State :=
  let s := unitTile [cmd 3 op 5 0 0 0 []]
  { s with gey := { ops := [⟨.unit 0 5, 0, ended, none⟩] } }

/-- A full table of 256 operations: 257 slots, one of them the operation that waits. -/
def geyFull (waited : List GeySrc) : State :=
  let slots := (List.range 257).map (fun n => (n, clauseSlot 3 0 []))
  { up with rng := { up.rng with slots := slots }
            gey := { ops := (List.range 256).map (fun n => ⟨.clause n, 0, none, none⟩), waited := waited } }

theorem witness_GeyserOperationsAndTable_table :
    ((clause 3 0 []).geyStands (.clause 0) && (clause 3 0 []).geyLive.isEmpty && (clause 3 0 []).geyTurn == some 0 &&
    (geyFull []).geyStands (.clause 256) && (geyFull []).geyLive.length == 256 && (geyFull []).geyTurn == some 0 &&
    (geyFull []).geyLive.all (fun o => decide (o.src ≠ .clause 256)) &&
    (geyTest 0 [] (some ⟨0, 0, 0, 0⟩)).geyLive.any (fun o => decide (o.src = .clause 0 ∧ o.ended = some ⟨0, 0, 0, 0⟩)) &&
    (geyUnit 0 (some ⟨0, 0, 0, 0⟩)).geyLive.any (fun o => decide (o.src = .unit 0 5 ∧ o.ended = some ⟨0, 0, 0, 0⟩)) &&
    ((geyUnit 0 none).sramWrite 0 0 (toBytes 8 0)).isSome) = true := by decide +kernel

/-- Each operation with the operands of no work, as a clause, and as a unit command; reserved words; a failed access. -/
def geyFits (k : GeyCode) (op : Nat) (ws : List Word) (p : Except (GErr × Bool) GeyRun → Bool) (s : State) : Bool :=
  match s.clauseAt 0 3 op with
  | none => ws.isEmpty
  | some x => s.geyEntry (.clause 0) == some ⟨.clause 0, 0, none, none⟩ && !geyReserved op x.words &&
    p (s.geyStart k op { fn := 0, tile := none, env := {} } (geyArgs x.words)).2

def begun (r : Except (GErr × Bool) GeyRun) : Bool :=
  match r with
  | .ok r => r.todo.isEmpty && r.flight.isEmpty
  | _ => false

def sh (mode a : Nat) : Word := BitVec.ofNat 64 (mode * 2 ^ 48 + 0x080000000000 + a)

/-- A hash table of 16 buckets with PROBE_MAX 1 at the head of shared SRAM, its first bucket EMPTY (R285, R286). -/
def hashTable (s : State) : State := s.devWrite 0x080000000000 ([4, 1] ++ List.replicate 62 0 ++ List.replicate 64 0xFF)

def geyBegins (k : GeyCode) (op : Nat) (ws : List Word) : Bool := geyFits k op ws begun (geyTest op ws none)
def geyHashes (k : GeyCode) (op : Nat) (ws : List Word) : Bool := geyFits k op ws begun (hashTable (geyTest op ws none))

theorem witness_GeyserOperationsAndTable :
    (geyBegins codeGather 0 [sh 0 0, sh 0 0, sh 0 0, 0, 4, 0, 4] && geyBegins codeScatter 1 [sh 0 0, sh 0 0, sh 0 0, 0, 4, 0, 4] &&
    geyHashes codeHins 2 [sh 0 0x1000, sh 0 0, 0, 0, 0, 0, 0] && geyHashes codeHprobe 3 [sh 0 0x1000, sh 0 0, sh 0 0x2000, 0, 0, 0, 0] &&
    geyHashes codeHdel 4 [sh 0 0x1000, sh 0 0, 0, 0, 0, 0, 0] &&
    geyBegins codeSort 5 [sh 0 0, 0, sh 0 0x1000, 0, 0, 0, 0] && geyBegins codeMerge 6 [sh 0 0, sh 0 0, sh 0 0x1000, 0, 0, 0, 0] &&
    geyBegins codeSegred 7 [sh 0 0, sh 0 0, sh 0 0x1000, 0, 0, 0, 0] &&
    geyBegins codeSegscan 8 [sh 0 0, sh 0 0, sh 0 0x1000, 0, 0, 0, 0] &&
    geyBegins codeSetop 9 [sh 0 0, sh 0 0, sh 0 0x1000, 0, 0, 0, 0] &&
    geyHashes codeHsetop 10 [sh 0 0x1000, sh 0 0, sh 0 0x2000, 0, 0, 0, 0] &&
    geyBegins codeFrontier 11 [sh 0 0, sh 0 0, sh 0 0x1000, 0, 0, 0, 0]) = true := by decide +kernel

/-- A reserved word; an access to an unmapped address; an address that is not aligned; offsets that do not end at N; the unit
form. -/
theorem witness_GeyserOperationsAndTable_failures :
    (geyReserved 0 [0x300, sh 4 0] && geyReserved 11 [0x30B, sh 0xFFFF 0] && geyReserved 0 [0x300, sh 0 0, sh 0 0, sh 0 0, 0, 2] &&
    geyFits codeGather 0 [0x0000700000000000, sh 0 0, sh 0 0, 1, 4, 0, 4] (fun r => match r with
      | .error (.access st, false) => st == St.ADDRESS_UNMAPPED
      | _ => false) (geyTest 0 [0x0000700000000000, sh 0 0, sh 0 0, 1, 4, 0, 4] none) &&
    geyFits codeGather 0 [sh 0 1, sh 0 0, sh 0 0, 1, 4, 0, 4] (fun r => match r with
      | .error (.invalid reason j, false) => reason == 2 && j == 0
      | _ => false) (geyTest 0 [sh 0 1, sh 0 0, sh 0 0, 1, 4, 0, 4] none) &&
    geyFits codeSegred 7 [sh 0 0, sh 0 0, sh 0 0x1000, 1, 0, 0, 0] (fun r => match r with
      | .error (.invalid reason j, true) => reason == 7 && j == 0
      | _ => false) (geyTest 7 [sh 0 0, sh 0 0x100, sh 0 0x1000, 1, 0, 0, 0] none) &&
    (let s := geyUnit 0 none;
      s.geyEntry (.unit 0 5) == some ⟨.unit 0 5, 0, none, none⟩ && ((s.tile 0).cmd? 5 == some (cmd 3 0 5 0 0 0 [])) &&
      (match (s.sramRead {} 0 0 64).2 with
        | some bs => begun (s.geyStart codeGather 0 { fn := 0, tile := some 0, env := {} } { geyArgs (wordsOf 8 bs) with m := 4 }).2
        | none => false))) = true := by decide +kernel

/-- HINS of one key in two commands (R293): its home bucket is locked after the first, and another operation's key waits for it. -/
def hinsRun : State :=
  match exec (.hins (.clause 0) { picks := [0] }) (hashTable (geyTest 2 [sh 0 0x1000, sh 0 0, 0, 1, 0, 0, 7] none)) with
  | .next t => t
  | _ => up

theorem witness_GeyserOperationsAndTable_elements :
    ((match hinsRun.geyRunOf (.clause 0) with
      | some r => r.todo.isEmpty && r.flight == [⟨0, 0x080000000040, 64, some (0x080000000000, 0), none, some 0x080000000040⟩] &&
        hinsRun.locksHeld == [((0x080000000000, 0), 0x080000000040)] &&
        decide (hinsRun.geyDispatch codeHins { fn := 0, tile := none, env := {} } (.clause 1)
          { r with todo := [0], flight := [] } 0 = hinsRun)
      | none => false) && hinsRun.flyingAt 12 == 1 && hinsRun.geyIs (.clause 0) 2) = true := by decide +kernel

/-- HINS puts key 0 with value S in the first slot of its home bucket 0 (R287, R288). -/
theorem test_hins : ends (exec (.hins (.clause 0) {}) (hashTable (geyTest 2 [sh 0 0x1000, sh 0 0, 0, 1, 0, 0, 7] none))) (fun t =>
    t.devRead 0x080000000040 16 == List.replicate 8 0 ++ [7, 0, 0, 0, 0, 0, 0, 0] && t.devRead 0x080000000008 1 == [1]) = true := by
  decide +kernel

theorem witness_GeyserOrders :
    (let x : GArgs := { mode := 2, a := 0, b := 0, c := 0, n := 0, m := 0, x := 0, s := 0 };
    field x.mode 2 1 == 1 && decide (0 < 2 ^ (8 * keyBytes x)) &&
    decide ([1, 3].Pairwise (· < ·) ∧ [2, 3].Pairwise (· < ·))) = true := by decide +kernel

/-! Memory. -/

/-- A range across the last page of near memory into the hole, one that no window allows, one in a domain that is off, one in a
domain that wakes, one that passes (R658). -/
theorem witness_MemoryReadsAndAccessChecks :
    (let off := set [(F.FUM_PD_STAT_ON, 0, 2 ^ 29 - 1 - 2 ^ 10)] up;
    let wakes : State := { off with fum := { off.fum with waking := [(10, 0)] } };
    (pagesOf (nearEnd - 1) 2).any (fun p => up.region p == .hole) && up.checkRange 0 false false (nearEnd - 1) 2 == .fail St.ADDRESS_UNMAPPED &&
    !up.windowAllows 1 false 0 && up.checkRange 1 false false 0 1 == .fail St.WINDOW_VIOLATION &&
    decide (off.domainAt 0 = .off) && off.checkRange 0 false false 0 1 == .fail St.DOMAIN_OFF &&
    wakes.pageWaits 0 && decide (wakes.domainAt 0 = .waking) && wakes.checkRange 0 true false 0 1 == .wait &&
    up.checkRange 0 true false 0 4096 == .ok ()) = true := by decide +kernel

/-- Placement: the first and the last byte of a band in the mode with the highest number; a stack's last byte (R310). -/
theorem witness_BandPlacementAndModes :
    decide ((bandPlace 2 0).1 < 12 ∧ (bandPlace 2 (12 * 2 ^ 30 - 1)).1 < 12 ∧ (bandPlace 2 (12 * 2 ^ 30 - 1)).2 < 2 ^ 30 ∧
      bandPlace 2 0 ≠ bandPlace 2 (12 * 2 ^ 30 - 1)) = true := by decide +kernel

/-- One band in each mode, with offsets at the ends of each clause (R310): the stacks and stack-local addresses. -/
theorem witness_BandPlacementAndModes_place :
    (let s := { up with mem := { up.mem with bandMode := [(1, 1), (63, 2)] } }
    s.modeOf 0 == 0 && s.modeOf 1 == 1 && s.modeOf 63 == 2 &&
    s.place 0xC000 == some (0, 0x1000) && s.place (0x300000000 + 0x17FFFFFFF) == some (5, 0x7FFFFFFF) &&
    s.place (0x300000000 + 0x180000000) == some (6, 0x40000000) &&
    s.place (64 * 0x300000000 - 1) == some (11, 64 * 0x40000000 - 1)) = true := by decide +kernel

/-- A band that waits for its new mode, with an access in flight to it and with none. -/
def bandTest (slots : Tbl Slot) : State :=
  { up with mem := { up.mem with bandWait := [(63, 2)] }, rng := { up.rng with slots := slots } }
/-- A FILL in slot 0 that is in flight to near memory's last 64 bytes. -/
def fillInFlight : Slot := { clauseSlot 2 1 [0, BitVec.ofNat 64 (nearEnd - 64), 64] with progress := some 0, ranges := [(nearEnd - 64, 64)] }

theorem witness_BandPlacementAndModes_modes :
    (up.ddtReady && !isVf .pf && !(bandTest []).inFlightTo (63 * bandBytes) (64 * bandBytes) &&
    (bandTest [(0, fillInFlight)]).inFlightTo (63 * bandBytes) (64 * bandBytes) && (bandTest []).modeOf 63 != 2) = true := by decide +kernel

/-- Maintenance: the patrol scrub is on and due; the list holds the same request, one that conflicts, or none. -/
def maintTest (l : List MaintReq) (fields : List (Fld × Nat × Nat)) : State :=
  set ([(F.MEM_SCRUB_CTL_EN, 0, 1), (F.MEM_SCRUB_CTL_PERIOD_H, 0, 1), (F.MEM_CAP_STAT_POPULATED, 0, 0xFF), (F.MEM_CAP_STAT_PER_CH_GIB, 0, 64)] ++ fields)
    { up with mem := { up.mem with maint := l } }

theorem witness_MaintenanceArbiter :
    (let s := maintTest [] [];
    [0, 19].all (fun u => s.populated u && s.unitReady u && decide ((s.unit u).lastScrub + s.scrubGap u ≤ s.tb.time)) &&
    isDeviceAct .checkpoint && (maintTest [⟨.scrub, 0, false⟩] []).mem.maint.contains ⟨.scrub, 0, false⟩ &&
    (⟨.retrain, 0, true⟩ : MaintReq).conflicts ⟨.scrub, 0, false⟩ && !(⟨.retrain, 1, true⟩ : MaintReq).conflicts ⟨.scrub, 0, false⟩ &&
    (maintTest [⟨.refresh, 0, true⟩] []).maintRuns .refresh 0 && (maintTest [⟨.refresh, 0, true⟩] []).mayEnd .refresh &&
    (maintTest [⟨.tenancy, 0, true⟩] []).maintRuns .tenancy 0 && (maintTest [⟨.tenancy, 0, true⟩] []).mayEnd .tenancy) = true := by
  decide +kernel

/-- A unit that runs warm or at the doubled rate, one whose scrub or retraining runs, one that is due for retraining by time, by
temperature, or not. -/
def hotUnit (hot : Bool) : State := (maintTest [] []).setUnit 11 { wantHot := hot }
theorem witness_MemoryUnits :
    ([hotUnit true, hotUnit false].all (fun s => s.populated 11 && s.unitReady 11) && ((hotUnit true).unit 11).wantHot &&
    !((hotUnit false).unit 11).wantHot && (maintTest [⟨.scrub, 19, true⟩] []).maintRuns .scrub 19 &&
    (maintTest [⟨.retrain, 19, true⟩] []).maintRuns .retrain 19 &&
    (maintTest [] [(F.MEM_TRAIN_CTL_INTERVAL_H, 0, 0), (F.MEM_TRAIN_CTL_DRIFT_C, 0, 10)]).fld F.MEM_TRAIN_CTL_DRIFT_C 0 == 10 &&
    decide ((((maintTest [] []).unit 0).trainTemp + 10 < 11) ∧ ¬ (((maintTest [] []).unit 0).trainTemp + 10 < 10))) = true := by
  decide +kernel

/-- A unit whose interval has passed, and one whose interval has not (R319); a channel while the sensor bus has failed. The interval is a
constant of Config with no body: the first state takes its time from it. -/
theorem witness_MemoryUnits_refresh : ∃ s : State, (s.unit 0).lastRefresh + s.refreshGap 0 ≤ s.tb.time := by
  refine ⟨{ State.reset with tb := { State.reset.tb with time := Config.refreshNs true } }, ?_⟩
  exact Nat.le_trans (Nat.le_of_eq (Nat.zero_add _)) (Nat.div_le_self _ _)
theorem witness_MemoryUnits_refresh_waits : ∃ s : State, s.tb.time < (s.unit 0).lastRefresh + s.refreshGap 0 :=
  ⟨State.reset.setUnit 0 { lastRefresh := 1 }, Nat.lt_of_lt_of_le Nat.zero_lt_one (Nat.le_add_right 1 _)⟩
theorem witness_MemoryUnits_sensor :
    ((maintTest [] []).populated 0 && (let s := maintTest [] [(F.FUM_SMB_STAT_SENSOR_FAILED, 0, 1)];
      s.flag F.FUM_SMB_STAT_SENSOR_FAILED 0 && s.populated 12 && s.unitReady 12 && !(s.unit 12).wantHot)) = true := by decide +kernel

/-- A window register, a device region register, a cached translation, an invalidation. -/
theorem witness_RuleChanges :
    (up.ddtReady && (regAt 0x400200).isSome && (regAt 0x400400).isSome && (regAt 0x4002F8).isSome && (regAt 0x4005F8).isSome &&
    (set [(F.MEM_XLT_INV_GO, 255, 1)] up).flag F.MEM_XLT_INV_GO 255) = true := by decide +kernel

/-- A write of a window's base advances EPOCH of the selected function and of no other (R331). -/
theorem test_window_epoch : ends (exec (.windowRuleChange .pf 0x400200 0) up) (fun t =>
    t.fld F.MEM_FN_FENCE_EPOCH 0 == 1 && t.fld F.MEM_FN_FENCE_EPOCH 1 == 0) = true := by decide +kernel

/-! The host endpoint. -/

def readTest (p : ReadPurpose) (sent : Nat) : State :=
  let s : State := { up with hep := { up.hep with reads := [(7, ⟨0, 0x1000, 64, sent, 50000000, p, 0⟩)] } }
  s.setSlot 0 { ring := 0, idx := 0, fn := 0 }

theorem witness_UpstreamReads :
    (let s := readTest (.ringFetch 0) 0;
    (Tbl.find? 7 s.hep.reads).isSome && (s.slot? 0).isSome && (List.replicate 64 (0 : Byte)).length == 64 &&
    Tbl.find? 7 (readTest .discard 0).hep.reads == some ⟨0, 0x1000, 64, 0, 50000000, .discard, 0⟩ &&
    decide (999950000000 + 50000000 ≤ s.tb.time ∧ s.tb.time < 999950000001 + 50000000) && (Tbl.find? 8 s.hep.reads).isNone) = true := by
  decide +kernel

/-- A completion for a ring fetch gives its 64 bytes to the slot (R364). -/
theorem test_completion : ends (exec (.hostCompletionArrive 7 .success (List.replicate 64 1)) (readTest (.ringFetch 0) 0)) (fun t =>
    t.hep.reads.isEmpty && (t.slot? 0).map (fun x => x.words) == some (List.replicate 8 0x0101010101010101)) = true := by decide +kernel

/-- INTx: the one cause bit set, and none; MSI-X on and off, a vector that waits. -/
def intxTest (cause : Nat) (msix : Bool) : State :=
  let s := (set [(F.HEP_INTX_CAUSE_VEC.at 16, 0, cause)] up).setIrq 0 1035 { count := 1 }
  { s with hep := { s.hep with cfg := [(0, { msixEnable := msix, intDisable := true })], intxAsserted := true } }
theorem witness_InterruptRequests :
    (let s := intxTest 1 false;
    !s.intxClear && (intxTest 0 false).intxClear && !(s.cfg 0).msixEnable && ((intxTest 0 true).cfg 0).msixEnable &&
    (s.irqVec 0 1035).count != 0 && vecCount 0 == 1036 && vecCount 255 == 12) = true := by decide +kernel

/-- Functions that exist, that drain, that do not exist; a return from D3hot. -/
theorem witness_InterruptRequests_functions :
    (up.fnExists 0 && !up.fnExists 1 && !up.fnExists 256 && !up.flag F.HEP_FN_STAT_DRAINING 0 &&
    (set [(F.HEP_FN_STAT_DRAINING, 0, 1)] up).flag F.HEP_FN_STAT_DRAINING 0 && (set [(F.HEP_FN_STAT_DSTATE, 0, 3)] up).fld F.HEP_FN_STAT_DSTATE 0 == 3 &&
    up.fld F.HEP_FN_STAT_DSTATE 0 != 3 && (set [(F.HEP_FN_STAT_DSTATE, 0, 3)] (intxTest 0 true)).mayInterrupt 0 1035 == false &&
    (let s := { intxTest 0 false with hep := { (intxTest 0 false).hep with cfg := [] } }; !(s.cfg 0).intDisable && !(s.cfg 0).msixEnable)) = true := by
  decide +kernel
/-- A configuration write to a function that drains has no effect (R356). -/
theorem test_draining_cfg : ends (exec (.powerStateChange 0 true) (set [(F.HEP_FN_STAT_DRAINING, 0, 1)] up)) (fun t => t.fld F.HEP_FN_STAT_DSTATE 0 == 0) = true := by
  decide +kernel

/-- Deassert_INTA goes out when the last cause bit clears (R369). -/
theorem test_intx_clear : ends (exec (.intxCauseClear 16 1) (intxTest 1 false)) (fun t =>
    t.hep.intxMsgs == [2] && !t.hep.intxAsserted) = true := by decide +kernel

def linkTest (state l0p : Nat) (l12 : Bool) : State :=
  let s := set [(F.HEP_LINK_STAT_STATE, 0, state), (F.HEP_LINK_STAT_WIDTH, 0, 16), (F.HEP_LINK_STAT_L0P_WIDTH, 0, l0p),
    (F.HEP_LPM_CTL_L1_IDLE_US, 0, 10), (F.HEP_LPM_CTL_L0P_EN, 0, 1), (F.HEP_LPM_CTL_L0P_DOWN_PCT, 0, 20), (F.HEP_LPM_CTL_L0P_UP_PCT, 0, 80)] up
  { s with hep := { s.hep with aspmL1 := true, aspmL12 := l12 } }
theorem witness_UpstreamLinkAndPorts :
    (!up.fum.perst && [linkTest 1 0 true, linkTest 2 2 false].all (fun s => s.fld F.HEP_LPM_CTL_L1_IDLE_US 0 == 10 && s.hep.reads.isEmpty &&
      s.hep.aspmL1 && s.flag F.HEP_LPM_CTL_L0P_EN 0 && decide (s.fld F.HEP_LPM_CTL_L0P_DOWN_PCT 0 < s.fld F.HEP_LPM_CTL_L0P_UP_PCT 0) &&
      decide (s.hep.l0pWindowStart + 100000 ≤ s.tb.time)) &&
    (linkTest 1 0 true).hep.aspmL12 && !(linkTest 2 2 false).hep.aspmL12 && (linkTest 2 2 false).fld F.HEP_LINK_STAT_L0P_WIDTH 0 == 2 &&
    (linkTest 2 4 false).fld F.HEP_LINK_STAT_L0P_WIDTH 0 == 4 && [3, 4, 5].all (fun n => (linkTest n 0 true).fld F.HEP_LINK_STAT_STATE 0 == n)) = true := by
  decide +kernel

theorem witness_UpstreamLinkAndPorts_functions :
    (let s := set [(F.HEP_DP_STAT_PRESENT, 3, 1), (F.HEP_DP_STAT_UP, 3, 1), (F.HEP_DP_CTL_PWR, 3, 1)] up;
    s.flag F.HEP_DP_STAT_PRESENT 3 && s.flag F.HEP_DP_STAT_UP 3 && s.flag F.HEP_DP_CTL_PWR 3 && !s.flag F.HEP_DP_STAT_PRESENT 0 &&
    !(set [(F.HEP_DP_CTL_PWR, 0, 0)] s).flag F.HEP_DP_CTL_PWR 0 && !s.hep.vfEnable) = true := by decide +kernel

/-- Training at a stage that allows it, of a link that was up, that was not, and that was in Recovery; the idle time over and not; errors
of the link. A drive's buffers are constants of Config with no body: the witness of a request outside them has no command open. -/
theorem witness_UpstreamLinkAndPorts_link :
    (decide (3 ≤ up.fld F.FUM_BOOT_STAT_STAGE 0) && up.fld F.FUM_BOOT_STAT_STAGE 0 != 6 && up.fnExists 0 && !up.flag F.HEP_FN_STAT_DRAINING 0 &&
    [(0, 0), (1, 1), (1, 6)].all (fun p => let s := set [(F.HEP_LINK_STAT_UP, 0, p.1), (F.HEP_LINK_STAT_STATE, 0, p.2)] up;
      s.flag F.HEP_LINK_STAT_UP 0 == (p.1 == 1) && s.fld F.HEP_LINK_STAT_STATE 0 == p.2) &&
    decide ((linkTest 1 0 true).hep.lastTlp + 10 * 1000 ≤ (linkTest 1 0 true).tb.time) && decide ((linkTest 1 0 true).tb.time < 1000000000000 + 10 * 1000) &&
    (linkTest 1 0 true).tlp.hep.lastTlp == 1000000000000 &&
    (let w : State := { linkTest 2 4 false with hep := { (linkTest 2 4 false).hep with l0pWindowStart := 999999950000 } }; decide (w.tb.time < w.hep.l0pWindowStart + 100000)) &&
    !up.driveBuffer 3 0 && !up.hep.vfEnable) = true := by decide +kernel
/-- A bad TLP is a correctable error of the link (R375); the first TLP after L1 brings the link back (R371). -/
theorem test_link_error : ends (exec (.l0pWindow 0 ⟨false, [.badTlp]⟩) up) (fun t => t.fld F.HEP_LINK_CNT_CORR_CNT 0 == 1 && t.hep.aer == [(0, 8)]) = true := by
  decide +kernel
theorem test_leaves_l1 : (linkTest 3 0 true).tlp.fld F.HEP_LINK_STAT_STATE 0 = 1 := by decide +kernel

/-- Functions 0 and 255 without work; function 1 with a clause in a slot, its reset begun 90 ms ago. -/
def resetTest (started : Nat) (slots : Tbl Slot) : State :=
  let s := set [(F.HEP_FN_STAT_DRAINING, 1, 1), (F.HEP_FN_CTL_RESET, 255, 1)] up
  { s with hep := { s.hep with drainStart := [(1, started)], vfEnable := true, numVfs := 255 }, rng := { s.rng with slots := slots } }
theorem witness_FunctionResets :
    (let s := resetTest 0 [];
    (s.fnRings 255).isEmpty && s.roles.isEmpty && (s.fnQps 255).isEmpty && s.buddyFn != 255 && !(s.ctrl 255).en &&
    s.fnExists 255 && s.flag F.HEP_FN_CTL_RESET 255 && s.hep.vfEnable && !up.hep.vfEnable &&
    s.flag F.HEP_FN_STAT_DRAINING 1 && !s.fnBusy 1 &&
    (let b := resetTest 999910000000 [(0, { ring := 0, idx := 0, fn := 1 })];
      b.fnBusy 1 && decide (999910000000 + 90000000 ≤ b.tb.time ∧ b.tb.time < 999910000001 + 90000000))) = true := by decide +kernel

theorem witness_FunctionResets_vf :
    (!(resetTest 0 []).flag F.HEP_FN_STAT_DRAINING 0 && (set [(F.HEP_FN_STAT_DRAINING, 0, 1)] (resetTest 0 [])).flag F.HEP_FN_STAT_DRAINING 0) = true := by
  decide +kernel

/-! Rings and clauses. -/

/-- Doorbell page 0 belongs to the physical function; ring 5 is bound to its slot 3, completion ring 2 to slot 4. -/
def ring5 : Ring := { ring0 with gen := 9, dbSlot := some (0, 3), cq := 2 }
def cq2 : Ring := { st := .active, typ := .completion, gen := 4, base := 0x080000010000, size := 64, dbSlot := some (0, 4) }
def ringTest (r : Ring) (c : Ring) : State :=
  set [(F.RNG_RING_SEL_RING_ID, 0, 5)] (((up.setRing 5 r).setRing 16386 c))

theorem witness_Doorbells :
    (let s := ringTest ring5 cq2;
    s.visiblePage 0 0 == some 0 && s.visiblePage 0 256 == none && s.boundRing 0 3 == some 5 && s.boundRing 0 4 == some 16386 && s.boundRing 0 511 == none &&
    (s.ring 5).fn != 1 && (ringTest { ring5 with st := .draining } cq2).boundRing 0 3 == some 5 && field 0x000900000000 47 32 == 9 &&
    decide (idxSub 16 0 ≤ (s.ring 5).size ∧ (s.ring 5).size < idxSub 17 0 ∧ idxSub 64 0 ≤ (s.ring 16386).size) &&
    s.ddtReady && s.selRing .pf == 5 && (ringTest {} cq2).ring 5 == {} &&
    (let q := (s.setRing 6 { ring0 with typ := .nvmeSq, qid := 1 }).setCtrl 0 { ready := true };
      (q.ctrl 0).ready && q.nvmeQueue 0 1 .nvmeSq == some 6 && (q.ring 6).st == .active && decide (15 < (q.ring 6).size))) = true := by
  decide +kernel

/-- Within and beyond the doorbell window; a function that does not exist; a completion doorbell too far ahead; an NVMe queue that
drains. -/
theorem witness_Doorbells_window :
    (let s := ringTest ring5 cq2;
    s.tlp.fnExists 0 && !s.tlp.fnExists 1 && decide (24 < (barSizes 0).2.1 ∧ (barSizes 0).2.1 ≤ 0x1000000) &&
    decide ((s.ring 16386).size < idxSub (s.ring 16386).hw 1) && (s.ring 16386).st == .active && s.tlp.boundRing 0 4 == some 16386 &&
    ((s.setRing 6 { ring0 with typ := .nvmeSq, qid := 1, st := .draining }).tlp.nvmeQueue 0 1 .nvmeSq == some 6)) = true := by decide +kernel

/-- A doorbell moves the index and sets the pending bit; one with an old generation is counted (R83, R84). -/
theorem test_doorbell : ends (exec (.doorbellWrite 0 24 8 0x000900000010) (ringTest ring5 cq2)) (fun t =>
    (t.ring 5).sw == 16 && (t.ring 5).pend) = true := by decide +kernel
theorem test_doorbell_stale : ends (exec (.doorbellWrite 0 24 8 0x000800000010) (ringTest ring5 cq2)) (fun t =>
    (t.ring 5).sw == 0 && t.fld F.RNG_FN_STAT_STALE_DB 0 == 1) = true := by decide +kernel

/-- Ring 5 has one entry to fetch; an entry that has come, of each kind that the word-0 checks tell apart. -/
def fetchTest : State := ringTest { ring5 with sw := 1, pend := true } cq2
/-- Word 0: generation of the ring, generation of the function, flags, class and opcode. -/
def w0 (rgen fgen flags cls op : Nat) : Word := BitVec.ofNat 64 (rgen * 2 ^ 48 + fgen * 2 ^ 32 + flags + cls * 256 + op)
def arriveTest (w : Word) : State :=
  (ringTest ring5 cq2).setSlot 0 { ring := 5, idx := 0, fn := 0, words := w :: List.replicate 7 0 }
def fg : Nat := up.fgen 0

theorem witness_ArbitrationAndArrival :
    (let s := fetchTest;
    s.grant (fun _ => true) == some 5 && s.grant (fun j => decide (0 < s.slotsFor (s.ring j).fn)) == some 5 && Tbl.firstFree s.rng.slots 4096 0 == some 0 &&
    s.checkRange 0 false false 0x080000000000 64 == .ok () && decide (s.region 0x080000000000 ≠ .host) && s.poisonIn 0x080000000000 64 == [] &&
    (ringTest ring5 cq2).grant (fun _ => true) == none &&
    (arriveTest (w0 8 fg 0 0 0)).checkWord0 5 (w0 8 fg 0 0 0).toNat == 0x11 && (arriveTest 0).checkWord0 5 (w0 9 (fg + 1) 0 0 0).toNat == 0x12 &&
    (arriveTest 0).checkWord0 5 (w0 9 fg 0 0 1).toNat == 0x10 && (arriveTest 0).checkWord0 5 (w0 9 fg 0x2000 0 0).toNat == 0x10 &&
    (set [(F.HEP_FN_CTL_COMPUTE, 0, 0)] (arriveTest 0)).classEnabled 0 1 == false && (arriveTest 0).checkWord0 5 (w0 9 fg 0 0 0).toNat == 0 &&
    slotless 0 && !slotless 2 &&
    (let a := arriveTest (w0 9 fg 0x1000 2 1);
      (a.slot? 0).any (fun x => a.isNext x && x.words.length == 8 && x.phase == .fetching && a.earlierDone 5 x.idx) && (a.ring 5).held == none)) = true := by
  decide +kernel

/-- A clause that waits for earlier work, an earlier one still running and completed. -/
def fenceTest (p : SlotPhase) : State :=
  ((arriveTest (w0 9 fg 0x1000 2 1)).setSlot 0 { ring := 5, idx := 1, fn := 0, words := [w0 9 fg 0x1000 2 1], phase := .arrived }).setSlot 1
    { ring := 5, idx := 0, fn := 0, words := [w0 9 fg 0 2 1], phase := p }
theorem witness_ArbitrationAndArrival_held :
    (((fenceTest .dispatched).ringSlots 5).find? (fun x => decide (x.2.phase = .arrived)) != none && !(fenceTest .dispatched).earlierDone 5 1 &&
    (fenceTest .held).earlierDone 5 1) = true := by decide +kernel

/-- A fetch takes a slot; a clause with a stale ring generation completes with 0x11 (R72, R88). -/
theorem test_fetch : ends (exec (.ringArbitration {}) fetchTest) (fun t => (t.slot? 0).isSome && (t.ring 5).hw == 1) = true := by decide +kernel
theorem test_stale_ring : ends (exec (.clauseArrival 0) (arriveTest (w0 8 fg 0 0 0))) (fun t =>
    (t.slot? 0).map (fun x => x.phase) == some (.done 0x11 0)) = true := by decide +kernel

/-- A clause done in slot 0 of ring 5: QUIET or not, of an old generation, with a full completion ring, with entries waiting. -/
def doneTest (w : Word) (fgen : Nat) (c : Ring) (draining : Nat) : State :=
  set [(F.HEP_FN_STAT_DRAINING, 0, draining)]
    ((ringTest ring5 c).setSlot 0 { ring := 5, idx := 0, fn := 0, words := [w], phase := .done 0 7, fgen := fgen })
def entry0 : CplEntry := ⟨0, false, 5, fg, 0, 0, false, 0, none⟩

theorem witness_CompletionPosting :
    (let s := doneTest (w0 9 fg 0 0 0) fg cq2 0;
    (s.slot? 0).isSome && (s.ring 5).typ == .clause && !c0Quiet (w0 9 fg 0 0 0).toNat && c0Quiet (w0 9 fg 0x4000 0 0).toNat &&
    s.fgen 0 == fg && !s.flag F.HEP_FN_STAT_DRAINING 0 && (doneTest 0 fg cq2 1).flag F.HEP_FN_STAT_DRAINING 0 &&
    (s.ring 16386).hasRoom && !((doneTest 0 fg { cq2 with hw := 64 } 0).ring 16386).hasRoom &&
    s.checkClause 0 true 0x080000010000 16 == .ok () && !s.partialPoison 0x080000010000 16 &&
    (let h := ringTest { ring5 with held := some ⟨0, [0], 0, 0, some (0, 7), false⟩ } { cq2 with waiting := [entry0] };
      (h.ring 5).held.any (fun h => h.done == some (0, 7)) && (h.ring 16386).waiting == [entry0] && (h.writeEntry {} 16386 entry0).2 == .ok ()) &&
    (let m := ringTest ring5 { cq2 with irqEn := true, modCount := 3, modTime := 10, modDue := some 1000000000000 };
      (m.ring 16386).irqEn && decide ((m.ring 16386).modPosted < 3) && decide (1000000000000 ≤ m.tb.time ∧ m.tb.time < 1000000000001))) = true := by
  decide +kernel

/-- The entry of a clause in the completion ring: phase 1, ring 5, status 0 (R74). -/
theorem test_post : ends (exec (.completionPost (.slot 0) {}) (doneTest (w0 9 fg 0 0 0) fg cq2 0)) (fun t =>
    t.devRead 0x080000010000 8 == [7, 0, 0, 0, 0, 0, 0, 0] && t.devRead 0x08000001000E 2 == [5, 0x80] && (t.slot? 0).isNone) = true := by
  decide +kernel

/-- A clause held by ring 5, which may use event counters 0 and 1, beside a clause of an earlier index in slot 1. -/
def heldTest (cls op : Nat) (ws : List Word) (earlier : Bool) : State :=
  let s := set [(F.RNG_FN_EVT_EVT_COUNT, 0, 2)] (ringTest { ring5 with disp := 3, held := some ⟨3, w0 9 fg 0 cls op :: ws, 0, 5, none, false⟩ } cq2)
  if earlier then s.setSlot 1 { ring := 5, idx := 2, fn := 0, words := [w0 9 fg 0 2 1], phase := .dispatched } else s
def barrierClause (n : Nat) : Ring := { ring0 with held := some ⟨0, [w0 0 0 0 7 2, BitVec.ofNat 64 (63 + n * 256), 8], 0, 1, none, false⟩ }
def barrierTest (n : Nat) : State := (up.setRing 5 (barrierClause n)).setRing 6 (barrierClause n)

theorem witness_RingClauses :
    (let z : List Word := List.replicate 7 0;
    ((heldTest 0 0 z false).heldAt 5 0 0).any (fun h => zeroFrom h.words 1) && ((heldTest 0 0 [1] false).heldAt 5 0 0).any (fun h => !zeroFrom h.words 1) &&
    ((heldTest 7 0 z true).heldAt 5 7 0).any (fun h => !(heldTest 7 0 z true).earlierDone 5 h.idx) &&
    ((heldTest 7 0 z false).heldAt 5 7 0).any (fun h => (heldTest 7 0 z false).earlierDone 5 h.idx) &&
    ((heldTest 7 1 z true).heldAt 5 7 1).any (fun h => !(heldTest 7 1 z true).fnDone 0 h.seq) &&
    ((heldTest 7 1 z false).heldAt 5 7 1).any (fun h => (heldTest 7 1 z false).fnDone 0 h.seq) &&
    (let s := barrierTest 2;
      !s.ckHolds 5 && (s.heldAt 5 7 2).any (fun h => !barrierBad h && !h.mis && !s.cutsHere 0 (s.barrierReady 0 63) && barrierN h == 2) && s.barrierReady 0 63 == [5, 6] &&
      [5, 6].all (fun r => (s.barrierOf 0 63 r).any (fun o => barrierN o == 2 && s.earlierDone r o.idx))) &&
    (barrierTest 3).barrierReady 0 63 == [5, 6] &&
    [0, 1].all (fun threshold => let s := heldTest 8 0 [1, threshold, 1] false;
      (s.heldAt 5 8 0).any (fun h => evtOperand h && zeroFrom h.words 4 && field (wordAt h.words 3) 63 32 == 0) && s.evtNumber 0 1 == some 1 && s.counter 1 == 0) &&
    ((heldTest 8 1 [1, 5] false).heldAt 5 8 1).any (fun h => evtOperand h && zeroFrom h.words 3) &&
    ((heldTest 8 2 [1, 5] false).heldAt 5 8 2).any (fun h => evtOperand h && zeroFrom h.words 3)) = true := by decide +kernel

/-- A barrier that mismatches; a WAIT with FENCE; a ring of a checkpoint's cut. -/
theorem witness_RingClauses_more :
    (let s := up.setRing 5 { barrierClause 2 with held := (barrierClause 2).held.map (fun h => { h with mis := true }) };
    (s.heldAt 5 7 2).any (fun h => h.mis && !barrierBad h) && c0Fence (w0 9 fg 0x1000 8 0).toNat && !c0Fence (w0 9 fg 0 8 0).toNat &&
    (barrierTest 3).barrierReady 0 63 == [5, 6] && decide ((barrierTest 3).barrierSeq 5 ≤ (barrierTest 3).barrierSeq 6)) = true := by decide +kernel

theorem test_signal : ends (exec (.signal 5) (heldTest 8 1 [1, 5] false)) (fun t => t.counter 1 == 5 && t.counter 0 == 0) = true := by
  decide +kernel
theorem test_barrier_releases : ends (exec (.barrier 5) (barrierTest 2)) (fun t =>
    [5, 6].all (fun r => (t.ring r).held.any (fun h => h.done == some (0, 8)))) = true := by decide +kernel
theorem test_barrier_waits : ends (exec (.barrier 5) (barrierTest 3)) (fun t => t == barrierTest 3) = true := by decide +kernel

theorem witness_CopyAndFill :
    (let f := clause 2 1 [0x0102, 0x080000000000, 1];
    (f.clauseAt 0 2 1).any (fun x => x.progress == none && zeroFrom x.words 4) && f.checkClause 0 true 0x080000000000 1 == .ok () &&
    !f.partialPoison 0x080000000000 1 &&
    (let c := clause 2 0 [0x080000000000, 0x080000000040, 64];
      (c.clauseAt 0 2 0).isSome && !c.awaitsRead 0 && !overlaps 0x080000000000 64 0x080000000040 64 && overlaps 0x080000000000 65 0x080000000040 65 &&
      c.checkClause 0 false 0x080000000000 64 == .ok () && c.checkClause 0 true 0x080000000040 64 == .ok () && c.poisonIn 0x080000000000 64 == [])) = true := by
  decide +kernel

/-- Fifteen copy movers busy, and sixteen (R103). -/
def movers (n : Nat) : State :=
  (List.range n).foldl (fun s i => s.setSlot (i + 1) { clauseSlot 2 0 [0x080000001000, 0x080000002000, 64] with progress := some 0 })
    (clause 2 0 [0x080000000000, 0x080000000040, 64])
theorem witness_CopyAndFill_movers :
    ((movers 15).moversBusy == 15 && (movers 16).moversBusy == 16 && ((movers 16).clauseAt 0 2 0).any (fun x => x.progress == none)) = true := by decide +kernel

theorem test_fill : ends (exec (.fill 0 {}) (clause 2 1 [0x0807060504030201, 0x080000000003, 3])) (fun t =>
    t.devRead 0x080000000002 5 == [0, 1, 2, 3, 0] && (t.slot? 0).map (fun x => x.phase) == some (.done 0 3)) = true := by decide +kernel
theorem test_copy_overlap : ends (exec (.copy 0 {}) (clause 2 0 [0x080000000000, 0x080000000040, 65])) (fun t =>
    (t.slot? 0).map (fun x => x.phase) == some (.done 0x10 0)) = true := by decide +kernel

/-- Ring commands of the physical function: opcode, named ring, pool, and further fields. -/
def cmdTest (op ring : Nat) (r : Ring) (fields : List (Fld × Nat × Nat)) : State :=
  set ([(F.RNG_RING_CMD_GO, 0, 1), (F.RNG_RING_CMD_OP, 0, op), (F.RNG_RING_CMD_RING_ID, 0, ring), (F.RNG_FN_QUOTA_SQ_MAX, 0, 4), (F.RNG_FN_QUOTA_CQ_MAX, 0, 4)] ++ fields)
    (ringTest r cq2)
def createFields : List (Fld × Nat × Nat) := [(F.RNG_RING_CFG_CQ_ID, 0, 2), (F.RNG_RING_BASE_HI_BASE_47_32, 0, 0x0800), (F.RNG_RING_DB_DB_SLOT, 0, 7)]

theorem witness_RingLifeCycle :
    ((let s := cmdTest 0 0 ring5 createFields;
      s.cmdReady 0 0 && decide (s.domain 25 = .ready) && !s.sec.tenancy && !s.createInvalid 0 && s.freeRing false == some 0 && decide (s.ringCount 0 false < 4)) &&
    (cmdTest 0 0 ring5 []).createInvalid 0 &&
    decide (0 ≤ (cmdTest 0 0 ring5 (createFields ++ [(F.RNG_FN_QUOTA_SQ_MAX, 0, 1)])).ringCount 0 false ∧
      (cmdTest 0 0 ring5 (createFields ++ [(F.RNG_FN_QUOTA_SQ_MAX, 0, 1)])).ringCount 0 false = 1) &&
    [1, 2, 3, 4, 5].all (fun op => (cmdTest op 5 ring5 []).cmdReady 0 op && (cmdTest op 5 ring5 []).ownRing 0 5 && !(cmdTest op 4 ring5 []).ownRing 0 4 &&
      (cmdTest op 5 ring5 []).cmdRing 0 == 5 && !(cmdTest op 5 ring5 []).cqNamed 0 5) &&
    ((cmdTest 3 5 { ring5 with st := .halted } []).ring 5).st == .halted &&
    [true, false].all (fun d => let s := cmdTest 1 5 { ring5 with st := .draining, destroying := d } [(F.RNG_RING_RESULT_BUSY, 0, 1)];
      (s.ring 5).st == .draining && s.inflight 5 == 0 && (s.ring 5).held == none && !s.flag F.HEP_FN_STAT_DRAINING 0 && s.flag F.RNG_RING_RESULT_BUSY 0 && s.cmdRing 0 == 5)) = true := by
  decide +kernel

/-- A ring that drains by a command, and by a reset of its function; a RESET of a ring that drains already (log entry 141). -/
theorem witness_RingLifeCycle_drain :
    ([true, false].all (fun b => ((cmdTest 2 5 { ring5 with st := .draining, byCmd := b } []).ring 5).byCmd == b) &&
    (cmdTest 2 5 { ring5 with st := .draining } []).cmdReady 0 2 && ((cmdTest 2 5 { ring5 with st := .draining } []).ring 5).st == .draining) = true := by
  decide +kernel

/-- DESTROY advances the generation (R99); a command that names another's ring ends with 0x1A. -/
theorem test_destroy : ends (exec (.ringDestroy 0) (cmdTest 1 5 ring5 [])) (fun t =>
    (t.ring 5).st == .draining && (t.ring 5).gen == 10) = true := by decide +kernel
theorem test_not_own_ring : ends (exec (.ringReset 0) (cmdTest 2 4 ring5 [])) (fun t =>
    t.fld F.RNG_RING_RESULT_STATUS 0 == 0x1A && t.flag F.RNG_RING_RESULT_DONE 0) = true := by decide +kernel

/-! Pace, timebase and power. -/

def paceTest (_ : Nat) (fields : List (Fld × Nat × Nat)) : State := set ([(F.GLB_PACE_CTL_EN, 0, 1)] ++ fields) up
theorem witness_PaceMonitorsAndTimebase :
    ([7, 8, 10].all (fun mon => (paceTest mon []).flag F.GLB_PACE_CTL_EN 0 && decide (Tbl.getD (paceTest mon []).tb.paceStart mon 0 + (paceTest mon []).paceWindow ≤ (paceTest mon []).tb.time)) &&
    !bit (up.fld F.FUM_FUSE_HELD_HELD 0) 18 && decide (up.domain 7 = .ready) &&
    decide ((paceTest 7 [(F.FUM_PD_STAT_ON, 0, 2 ^ 29 - 1 - 2 ^ 7)]).domain 7 ≠ .ready) && !(paceTest 0 [(F.GLB_PACE_CTL_EN, 0, 0)]).flag F.GLB_PACE_CTL_EN 0 &&
    !up.fum.perst && (set [(F.GLB_PACE_CTL_CLR_EXT, 0, 1)] up).flag F.GLB_PACE_CTL_CLR_EXT 0) = true := by decide +kernel

/-- A group that is on, one that is off, a die monitor without the core rail, monitors held in reset (R44, R654). -/
theorem witness_PaceMonitorsAndTimebase_domains :
    (up.domOn 7 && !(paceTest 7 [(F.FUM_PD_STAT_ON, 0, 2 ^ 29 - 1 - 2 ^ 7)]).domOn 7 && up.fum.corePg && !State.reset.fum.corePg && !up.fum.perst &&
    (paceTest 7 [(F.FUM_PD_STAT_PENDING_OFF, 0, 2 ^ 7)]).domOn 7) = true := by decide +kernel
/-- The lowest pace among the replica chains is published (R654). -/
theorem test_pace : ends (exec (.paceSample 8 [9, 4, 6]) (paceTest 8 [])) (fun t => t.fld (F.GLB_PACE_MON_PACE.at 8) 0 == 4) = true := by decide +kernel

theorem witness_PaceMonitorsAndTimebase_time :
    (up.tb.running && !State.reset.tb.running && (set [(F.GLB_TOD_CTL_APPLY_STEP, 0, 1)] up).flag F.GLB_TOD_CTL_APPLY_STEP 0 &&
    (set [(F.GLB_TB_STAT_LOCKED, 0, 1)] up).flag F.GLB_TB_STAT_LOCKED 0) = true := by decide +kernel

/-- A slew of -1 ppb over 1.5 s: OFFSET falls by 1 and 0.5 ns is carried (R53). -/
theorem test_slew : ends (exec (.todSlewTick 1500000000) (set [(F.GLB_TOD_CTL_SLEW_PPB, 0, 0xFFFFFFFF)] up)) (fun t =>
    t.fld F.GLB_TOD_OFFSET_OFFSET 0 == 2 ^ 64 - 2 && t.tb.slewFrac == 500000000 && t.tb.time == 1001500000000) = true := by decide +kernel

/-- Decisions: each branch of R60 at its boundary. -/
theorem witness_PowerController :
    ((decide60 95 95 100 200 700 650 0 0 false).limiter == 4 && (decide60 94 95 201 200 700 650 0 0 false).limiter == 3 &&
    (decide60 93 95 196 200 899 650 256 255 false).limiter == 2 && (decide60 93 95 197 200 899 650 256 255 false).move == .hold &&
    (decide60 93 95 100 200 900 650 256 255 false).vmaxHit && (decide60 94 95 100 200 700 699 256 512 true).move == .lower &&
    (decide60 94 95 100 200 700 699 256 511 true).limiter == 2 && (decide60 94 95 100 200 650 650 0 0 true).limiter == 1 &&
    (decide60 93 95 100 200 899 650 0 0 false).move == .raise && (decide60 94 95 100 200 899 650 0 0 false).move == .hold &&
    decide (up.tb.lastDecision + 10000 ≤ up.tb.time) && !up.tb.emergency && (up.diePace 1).isSome &&
    decide (Tbl.getD up.tb.vcbMissed 1 0 < 3) && !Tbl.getD up.tb.railAlert 1 false && decide (up.fld F.FUM_PWR_TGT_LIMIT_C 0 ≤ 110)) = true := by
  decide +kernel

/-- A rail whose answers come, and one that has missed three; before the core rail (R59, R655). -/
theorem witness_PowerController_answers :
    (up.fum.corePg && !State.reset.fum.corePg && !up.powerUnknown 1 && ({ up with tb := { up.tb with vcbMissed := [(1, 3)] } } : State).powerUnknown 1 &&
    railAfter 0 .raise == 600) = true := by decide +kernel

/-! Storage. -/

/-- An NVMe submission queue entry from its Dwords. -/
def sqe (l : List (Nat × Nat)) : List Word :=
  (List.range 8).map (fun i => BitVec.ofNat 64 (Tbl.getD l (2 * i) 0 + Tbl.getD l (2 * i + 1) 0 * 2 ^ 32))

/-- A local namespace 3 of 64 LBAs on drive 0, attached to the physical function. -/
def ns3 : Ns := { lba4k := false, pi := 0, enc := false, keySlot := 0, cache := false, backing := 0, stripe := 0, exts := [⟨0, 0, 77⟩],
                  qp := 0, rnsid := 0, size := 64, attach := [⟨0, 0, none⟩] }

/-- A command of the physical function's controller in slot 0, from its admin queue (6) or I/O queue 1 (7, with completion queue 17). -/
def nvme (admin : Bool) (l : List (Nat × Nat)) : State :=
  let s := ((up.setRing 6 { st := .active, typ := .nvmeSq, size := 64, cq := 16 }).setRing 7 { st := .active, typ := .nvmeSq, size := 64, qid := 1, cq := 17 }).setRing
    16400 { st := .active, typ := .nvmeCq, size := 64 }
  let s1 := (s.setRing 16401 { st := .active, typ := .nvmeCq, size := 64, qid := 1 }).setCtrl 0 { en := true, ready := true }
  let s2 := s1.setSlot 0 { ring := if admin then 6 else 7, idx := 0, fn := 0, words := sqe l, phase := .dispatched, born := 1 }
  let s3 := set [(F.HEP_FN_CTL_STORAGE, 0, 1), (F.RNG_FN_QUOTA_SQ_MAX, 0, 8), (F.RNG_FN_QUOTA_CQ_MAX, 0, 8)] s2
  { s3 with sto := { s3.sto with namespaces := [(3, ns3)], drives := [(0, ⟨true, 77, 1000⟩)] } }

/-- The command of slot 0 runs, and it satisfies `p`. -/
def nvmeFits (s : State) (admin : Bool) (op : Nat) (p : Slot → Bool) : Bool :=
  match s.nvmeCmd 0 admin op with
  | some x => decide (s.domain 22 = .ready ∧ field (x.dw 0) 9 8 = 0) && p x
  | none => false

theorem witness_NvmeControllersAndAdmin_controllers :
    (let off := (nvme true []).setCtrl 0 {};
    !(off.ctrl 0).en && (off.ctrl 0).disabledAt == none && off.flag F.HEP_FN_CTL_STORAGE 0 && aqaOk 63 && aqaOk 4095 && !aqaOk 64 &&
    (match off.newQueue 0 { typ := .nvmeCq, size := 64 } true with
      | some (t, k) => k == 16384 && (t.newQueue 0 { typ := .nvmeSq, size := 64, cq := 0 } false).isSome
      | none => false) &&
    ((nvme true []).ctrl 0).en && !((nvme true []).ctrlSlots 0).isEmpty &&
    (let d := (nvme true []).setCtrl 0 { disabledAt := some 999910000000 };
      decide (999910000000 + 90000000 ≤ d.tb.time ∧ d.tb.time < 999910000001 + 90000000))) = true := by decide +kernel

theorem witness_NvmeControllersAndAdmin_queues :
    ([(0x05, .nvmeCq), (0x01, .nvmeSq)].all (fun (p : Nat × RingType) =>
      [0x003F0400, 0x00400400].all (fun d10 => let s := nvme true [(0, p.1), (10, d10), (11, 0x00010001)];
        nvmeFits s true p.1 (fun x => field (x.dw 10) 15 0 == 1024 && s.nvmeQueue 0 1024 p.2 == none && bit (x.dw 11) 0 && wordAt x.words 3 % 4096 == 0 &&
          field (x.dw 0) 15 14 == 0 && decide (field (x.dw 11) 31 16 < vecCount 0)))) &&
    (nvme true []).nvmeQueue 0 1 .nvmeCq == some 16401 && ((nvme true []).newQueue 0 { typ := .nvmeSq, qid := 1024 } false).isSome &&
    nvmeFits (nvme true [(0, 0x00), (10, 1)]) true 0 (fun _ => (nvme true []).nvmeQueue 0 1 .nvmeSq == some 7 && (nvme true []).ringSlots 7 == []) &&
    nvmeFits (nvme true [(0, 0x04), (10, 1)]) true 4 (fun _ => (nvme true []).rng.rings.any (fun r => r.1 == 7 && r.2.cq == 17)) &&
    ((nvme true []).setRing 7 {}).rng.rings.all (fun r => r.2.typ != .nvmeSq || r.2.cq != 17)) = true := by decide +kernel

theorem witness_NvmeControllersAndAdmin :
    (nvmeFits (nvme true [(0, 0x02), (10, 0x000F00C0), (7, 0x8000)]) true 2 (fun x => field (x.dw 10) 7 0 == 0xC0 &&
      okIs ((nvme true []).bufRanges {} x 64) (fun _ => x.dw 12 == 0 && x.dw 13 == 0)) &&
    [0, 1].all (fun cns => nvmeFits (nvme true [(0, 0x06), (1, 4), (10, cns), (7, 0x8000)]) true 6 (fun x => okIs ((nvme true []).bufRanges {} x 4096) (fun _ =>
      ((nvme true []).nsFor x (x.dw 1)).isSome))) &&
    nvmeFits (nvme true [(0, 0x06), (1, 3), (10, 0)]) true 6 (fun x => ((nvme true []).nsFor x (x.dw 1)).isNone) &&
    (let s := (nvme true [(0, 0x08), (10, 0x00050001)]).setSlot 1 { ring := 7, idx := 0, fn := 0, words := sqe [(0, 0x00050002)], phase := .dispatched };
      nvmeFits s true 8 (fun x => ((s.ctrlSlots 0).find? (fun y => decide (y.1 ≠ 0 ∧ (s.ring y.2.ring).qid = field (x.dw 10) 15 0 ∧ y.2.words.length = 8 ∧
        field (y.2.dw 0) 31 16 = field (x.dw 10) 31 16))).any (fun y => y.1 == 1 && s.notStarted 1 y.2)) && !s.notStarted 1 { ring := 7, idx := 0, fn := 0, phase := .held }) &&
    nvmeFits (nvme true [(0, 0x09), (10, 0x80000001)]) true 9 (fun x => bit (x.dw 10) 31) &&
    [0x01, 0x02, 0x03, 0x0A, 0x0B].all (fun fid => nvmeFits (nvme true [(0, 0x09), (10, fid), (11, 2)]) true 9 (fun x => !bit (x.dw 10) 31 && field (x.dw 11) 4 0 == 2)) &&
    [0x01, 0x02, 0x08].all (fun fid => nvmeFits (nvme true [(0, 0x0A), (10, fid)]) true 10 (fun x => field (x.dw 10) 10 8 == 0)) &&
    nvmeFits (nvme true [(0, 0x0C)]) true 12 (fun _ => ((nvme true []).ctrl 0).aers.isEmpty && ((nvme true []).ctrl 0).events.isEmpty) &&
    nvmeFits (nvme true [(0, 0xC4)]) true 0xC4 (fun _ => true) &&
    (let a := ((nvme true []).setCtrl 0 { ready := true, feats := [(0x0C, 1)], apst := [0x00000A10], aers := [0] });
      bit (Tbl.getD (a.ctrl 0).feats 0x0C 0) 0 && field ((a.ctrl 0).apst.getD 0 0) 31 8 == 10 && field ((a.ctrl 0).apst.getD 0 0) 7 3 == 2 && (a.ctrlSlots 0).all (fun x => x.1 == 0))) = true := by
  decide +kernel

/-- A command that the disabled controller still works on, and one held for a full completion queue; a feature that is not listed; an
NSID that is not attached; the idle time over. -/
theorem witness_NvmeControllersAndAdmin_more :
    ((nvme true []).ctrlSlots 0 != [] && (nvme true []).heldCpls 0 == [] &&
    nvmeFits (nvme true [(0, 0x09), (10, 0x80000003)]) true 9 (fun x => decide (field (x.dw 10) 7 0 ∉ [0x01, 0x02, 0x07, 0x08, 0x09, 0x0A, 0x0B, 0x0C])) &&
    nvmeFits (nvme true [(0, 0xC4), (1, 3), (10, 0x80000000)]) true 0xC4 (fun x => bit (x.dw 10) 31 && ((nvme true []).nsFor x (x.dw 1)).isNone) &&
    nvmeFits (nvme true [(0, 0xC4), (1, 4), (10, 0x80000000)]) true 0xC4 (fun x => bit (x.dw 10) 31 && ((nvme true []).nsFor x (x.dw 1)).isSome) &&
    (let a := (nvme true []).setCtrl 0 { ready := true, lastBusy := 999990000000 }; decide ((a.ctrl 0).lastBusy + 10 * 1000000 ≤ a.tb.time))) = true := by
  decide +kernel

/-- READ of two LBAs of namespace 3 (NSID 4): up to its end, and one beyond. -/
def readCmd (slba : Nat) (op : Nat) : State := nvme false [(0, op), (1, 4), (10, slba), (12, 1), (7, 0x8000)]
def lock0 (k : StoKind) (granted : Bool) (parts : List Backing) : RangeLock :=
  { id := 9, slot := some 0, kind := k, ns := 3, lo := 62, n := 2, ranges := [(62, 2)], granted := granted, parts := parts }
def backing0 (aborted : Option Nat) : Backing :=
  { id := 5, ext := 0, path := .drive 0, first := 62, lbas := [62, 63], payload := [], info := [], sent := true, time := 0, aborted := aborted }
def withLocks (s : State) (l : List RangeLock) : State := { s with sto := { s.sto with locks := l } }

theorem witness_NvmeIoAndFeed :
    (nvmeFits (nvme false [(0, 0), (1, 4)]) false 0 (fun x => ((nvme false []).nsFor x 4).isSome) &&
    [1, 2, 8].all (fun op => [62, 63].all (fun slba => let s := readCmd slba op;
      nvmeFits s false op (fun x => (s.nsFor x (x.dw 1)).any (fun p => p.1 == 3 && (decide (x.slba + x.nlb ≤ p.2.size) == (slba == 62))) && s.lockOf 0 == none && s.sto.locks.isEmpty))) &&
    (lock0 .read true []).clashes { lock0 .write false [] with slot := some 2 } && !(lock0 .read true []).clashes { lock0 .read false [] with slot := some 2 } &&
    nvmeFits (nvme false [(0, 9), (1, 4), (11, 4), (7, 0x8000)]) false 9 (fun x => bit (x.dw 11) 2 && okIs ((nvme false []).bufRanges {} x 16) (fun _ => true)) &&
    dsmRanges 1 (toBytes 4 0 ++ toBytes 4 2 ++ toBytes 8 62) == [(62, 2)] &&
    (let s := withLocks (readCmd 62 2) [{ lock0 .write true [] with id := 8, slot := some 2 }, lock0 .read false []];
      s.lock? 9 == some (lock0 .read false []) && !s.grantable (lock0 .read false []) && (withLocks s [lock0 .read false []]).grantable (lock0 .read false [])) &&
    (readCmd 62 2).nsKeyOk ns3 && (ns3.extsOf [(62, 2)]).all ((readCmd 62 2).pathUp ns3) && !(ns3.extsOf [(62, 2)]).all ((readCmd 62 2).pathUp { ns3 with exts := [⟨1, 0, 77⟩] }) &&
    !(readCmd 62 2).irtHit 3 62 2 && !(readCmd 62 2).nsKeyOk { ns3 with enc := true }) = true := by decide +kernel

theorem witness_NvmeIoAndFeed_backing :
    (let s := withLocks (readCmd 62 2) [lock0 .read true [backing0 none]];
    s.backing? 5 == some (lock0 .read true [backing0 none], backing0 none) && s.ns? 3 == some ns3 && (s.slot? 0).isSome && (s.ring 7).typ == .nvmeSq &&
    (backing0 none).lbas == (List.range 2).map (fun k => 62 + k) && okIs (s.bufRanges {} ((s.slot? 0).getD { ring := 0, idx := 0, fn := 0 }) 1024) (fun r => r == [(0x800000000000, 1024)]) &&
    decide ((backing0 none).time + s.fld F.STO_DEV_CTL_BACKING_MS 0 * 1000000 ≤ s.tb.time) &&
    (let a := withLocks s [lock0 .read true [backing0 (some 999000000000)]];
      (a.backing? 5).isSome && decide (999000000000 + 1000000000 ≤ a.tb.time ∧ a.tb.time < 999000000001 + 1000000000)) &&
    (let f := (nvme false []).setSlot 0 (clauseSlot 5 0 [4, 62, 2, 0x080000000000, 0, 0, 0]);
      let g := f.setRing 0 ring0;
      (g.clauseAt 0 5 0).any (fun x => g.nsFor { x with born := 1 } 4 != none && !feedBad g x (some (3, ns3)) && g.checkClause 0 true 0x080000000000 1024 == .ok ()))) = true := by
  decide +kernel

/-- A backing whose completion the path forwards, and one whose drive is gone; a remote path; a FEED that holds nothing back. -/
theorem witness_NvmeIoAndFeed_paths :
    (let s := withLocks (readCmd 62 2) [lock0 .read true [backing0 none]];
    (set [(F.HEP_DP_STAT_UP, 0, 1)] s).forwards (.drive 0) && !s.forwards (.drive 1) && !s.feedHeld (some 0) &&
    (let r : Ns := { ns3 with backing := 2, qp := 6 };
      (s.connect r).sto.connected.contains 6 && s.connect ns3 == s &&
      (r.backings .write [(62, 2)] 0 0).all (fun b => b.fua && !b.sent && b.carry == Carry.capsule) &&
      ({ r with lba4k := true }.backings .write [(0, 3)] 0 0).any (fun b => b.carry == Carry.keyed) &&
      (r.backings .read [(62, 2)] 0 0).all (fun b => b.sent))) = true := by decide +kernel

/-- A read beyond the namespace ends with LBA Out of Range (0x080); one within sends its backing command (R378). -/
theorem test_read_range : ends (exec (.nvmeRead 0 {}) (readCmd 63 2)) (fun t => (t.slot? 0).map (fun x => x.phase) == some (.done 0x080 0)) = true := by decide +kernel
theorem test_read_backing : ends (exec (.nvmeRead 0 {}) (readCmd 62 2)) (fun t =>
    t.sto.locks.map (fun l => (l.lo, l.n, l.parts.map (fun p => (p.first, p.lbas)))) == [(62, 2, [(62, [62, 63])])]) = true := by decide +kernel

/-- Namespace commands: opcode, number and function. -/
def nsTest (op i f : Nat) (n : Ns) : State :=
  set [(F.STO_NS_CMD_GO, 0, 1), (F.STO_NS_CMD_OP, 0, op), (F.STO_NS_CMD_NS, 0, i), (F.STO_NS_CMD_FUNC, 0, f), (F.STO_NS_SIZE_NSZE, 0, 8)]
    { nvme true [] with sto := { (nvme true []).sto with namespaces := [(3, n)] } }

theorem witness_NamespacesAndDrives :
    ([0, 1, 2, 3].all (fun op => (nsTest op 3 0 ns3).nsReady op) && ((nsTest 0 3 0 ns3).ns? 3).isSome && ((nsTest 0 4 0 ns3).ns? 4).isNone &&
    extentsClash ((nsTest 0 4 0 ns3).stagedNs.extents ++ ns3.extents) && !extentsClash (nsTest 0 4 0 { ns3 with exts := [⟨1, 0, 0⟩] }).stagedNs.extents &&
    (nsTest 0 4 0 ns3).stagedNs.extents.all (fun e => ((nsTest 0 4 0 ns3).drive e.1).up && decide (e.2.1 + e.2.2 ≤ ((nsTest 0 4 0 ns3).drive e.1).lbas)) &&
    (nsTest 0 4 0 ns3).stagedNs.backing == 0 && (nsTest 0 4 0 ns3).stagedNs.pi == 0 && (nsTest 0 4 0 ns3).nsKeyOk (nsTest 0 4 0 ns3).stagedNs &&
    ns3.watchers == [0] && { ns3 with attach := [] }.watchers == [] && ns3.attachedNow 0 && !ns3.attachedNow 255 &&
    (let p := set [(F.HEP_DP_STAT_PRESENT, 3, 1), (F.HEP_DP_CTL_PWR, 3, 1), (F.HEP_DP_CTL_EN, 3, 1), (F.HEP_DP_CTL_MAX_RATE, 3, 5)] (nvme true []);
      p.flag F.HEP_DP_STAT_PRESENT 3 && p.flag F.HEP_DP_CTL_EN 3 && !(p.drive 3).up && !Tbl.has p.sto.drives 3 && Tbl.has p.sto.drives 0 && decide (5 ≤ p.fld F.HEP_DP_CTL_MAX_RATE 3)) &&
    ((nvme true []).drive 0).up && !(nvme true []).flag F.HEP_DP_STAT_UP 0 &&
    (nsTest 0 3 0 { ns3 with backing := 2, qp := 6 }).sto.namespaces.any (fun n => n.2.backing == 2 && n.2.qp == 6) && Tbl.find? 6 up.rdm.qps == none &&
    (lock0 .read true []).lostEnd (backing0 none) == .pathLost && (lock0 .write true []).lostEnd (backing0 none) == .unknown) = true := by decide +kernel

/-- A stripe over one extent, and over two of the same drive; a port that is up and one that is not. -/
theorem witness_NamespacesAndDrives_stripes :
    (stripeBad { ns3 with backing := 1, stripe := 8 } && stripeBad { ns3 with backing := 1, stripe := 8, exts := [⟨0, 0, 77⟩, ⟨0, 64, 77⟩] } && !stripeBad ns3 &&
    (let p := set [(F.HEP_DP_STAT_UP, 0, 1)] (nvme true []); p.flag F.HEP_DP_STAT_UP 0 && !(nvme true []).flag F.HEP_DP_STAT_UP 0)) = true := by decide +kernel

theorem test_ns_delete_attached : ends (exec .nsDelete (nsTest 1 3 0 ns3)) (fun t => t.fld F.STO_NS_RESULT_RESULT 0 == 3 && (t.ns? 3).isSome) = true := by
  decide +kernel

/-! Keys, the traffic scheduler, the network. -/

/-- Key slot 1023 loaded for storage, one use left or none; a KLOAD into slot 5 under the wrapping key of slot 6. -/
def keyTest (l : List (Nat × KeySlot)) (s : State) : State := { s with sec := { s.sec with slots := l } }
def key0 (alg use used : Nat) : KeySlot := { loaded := true, alg := alg, use := use, limit := 8, used := used, key := [1] }
def keyAll (u : KeyUse) (used : Nat) : KeySlot := key0 (useAlg u) (2 ^ useBit u) used
def keyClause (op : Nat) (ws : List Word) : State :=
  keyTest [(6, keyAll .wrap 0)] ((clause 9 op (ws ++ List.replicate (7 - ws.length) 0)))

/-- A key blob with valid attributes: AES-GCM-256, LIMIT 1 (R512). -/
def blob : List Byte := [1, 1] ++ List.replicate 6 0 ++ [1] ++ List.replicate 119 0

theorem witness_KeyClauses :
    (let s := keyTest [(1023, keyAll .storage 7), (5, keyAll .storage 8)] up;
    s.keyServes 1023 .storage && decide ((s.keySlot 1023).used < (s.keySlot 1023).limit ∧ (s.keySlot 5).limit ≤ (s.keySlot 5).used) && s.keyServes 5 .storage &&
    !s.keyServes 4 .storage && (set [(F.SEC_STAT_LOCKED, 0, 1)] s).keyLocked && !s.keyLocked &&
    (let k := shared blob (keyClause 0 [0x60005, 0x080000000000]);
      (k.clauseAt 0 9 0).isSome && decide (k.domain 26 = .ready) && k.keyOwner 5 == 0 && (match (k.useKey 6 .wrap).2 with
        | .ok _ => true
        | .error _ => false) &&
      (match (k.readFor {} 0 0x080000000000 128).2 with
        | .ok b => !blobBad b
        | _ => false) && blobBad (List.replicate 128 0)) &&
    (let r := keyClause 1 [6]; (r.clauseAt 0 9 1).isSome && (r.keySlot 6).loaded && !(r.keySlot 5).loaded && r.sec.revs.isEmpty) &&
    [⟨0, 6, 0⟩].any (fun (r : Revocation) => r.keySlot == 6) && ((keyClause 2 [1023]).clauseAt 0 9 2).isSome &&
    (set [(F.SEC_PAGE_MAP_VALID, 1, 1), (F.SEC_PAGE_MAP_FUNC, 1, 3), (F.SEC_PAGE_MAP_SLOT_BASE, 1, 1020), (F.SEC_PAGE_MAP_SLOT_COUNT, 1, 4)] up).keyOwner 1023 == 3) = true := by
  decide +kernel

/-- A package header with LEN 16 (R521). -/
def pkgHeader : List Byte := [0x4B, 0x45, 0x41, 0x4B, 1, 0, 1, 0, 16] ++ List.replicate 503 0
theorem witness_KeyClauses_packages :
    (let p := shared pkgHeader (keyClause 3 [0x080000000000, 0x080000010000, 16, 6]);
    (p.clauseAt 0 9 3).isSome && p.checkClause 0 true 0x080000010000 16 == .ok () && !pkgBad pkgHeader && pkgBad (List.replicate 512 0) && pkgLen pkgHeader == 16 &&
    leAt pkgHeader 6 2 == 1 && (match (p.readFor {} 0 0x080000000000 512).2 with
      | .ok b => b == pkgHeader
      | _ => false) &&
    (let n := keyClause 4 [3, 0x080000000000];
      (n.clauseAt 0 9 4).isSome && (n.devSet 3).state == 0 && n.checkClause 0 true 0x080000000000 32 == .ok () &&
      ((n.setDevSet 3 { state := 1 }).devSet 3).state == 1) &&
    (let d : DevSet := { state := 1, id := 9, nonce := some [1], members := [⟨1, 0, false⟩, ⟨2, 0, true⟩] };
      evidencePasses d ⟨1, 0, false⟩ ⟨0, true, [1], 9, 2, true, false⟩ && !evidencePasses d ⟨1, 0, false⟩ ⟨0, false, [1], 9, 2, true, false⟩ &&
      ((d.prove 0).members.filter (fun q => q.proven)).length == 2 && ((d.prove 1).members.filter (fun q => q.proven)).length == 1 &&
      (((keyClause 5 [0x10003, 0x080000000000, 1]).setDevSet 3 d).clauseAt 0 9 5).isSome)) = true := by decide +kernel

/-- A signer of the list has the digest of a header's key. -/
theorem witness_KeyClauses_signer : ∃ e ∈ ([(0, Config.sha384 (slice pkgHeader 0x60 96))] : List (Nat × BitVec 384)),
    e.2 = Config.sha384 (slice pkgHeader 0x60 96) := ⟨_, List.mem_cons_self, rfl⟩

/-- Port 0 is up at 800 Gb/s with one frame in the scheduler; gates and pauses. -/
def frame0 (slot : Option Nat) : TxFrame := ⟨.qp 3, 0, 0, 0, 64, none, List.replicate 60 0, none, slot, some 999900000000⟩
def schedTest (l : List TxFrame) (fields : List (Fld × Nat × Nat)) : State :=
  let s := set ([(F.NET_PORT_STAT_UP, 0, 1), (F.NET_PORT_STAT_RATE, 0, 100), (F.NET_PORT_CTL_PFC_EN, 0, 0x80)] ++ fields) up
  { s with sch := { s.sch with frames := l, order := [(0, [0])], gateWait := [(7, 5)], pause := [(7, 999999999999), (6, 1000000000001)] } }

theorem witness_TrafficScheduler :
    (let s := schedTest [frame0 none] [];
    decide (s.sch.lastRefill + s.fld F.SCH_CTL_REFILL_NS 0 ≤ s.tb.time ∧ s.domain 21 = .ready) && s.chooseSvc 0 == some 0 && s.canSend 0 &&
    (((s.pumpAll {}).nextFrame 0).2 == some (frame0 none)) && (((schedTest [] []).pumpAll {}).nextFrame 0).2 == none &&
    (((schedTest [frame0 (some 0)] []).pumpAll {}).nextFrame 0).2 == some (frame0 (some 0)) && !s.encrypts (frame0 none) &&
    decide (999900000000 + 100000000 ≤ s.tb.time) && (set [(F.SCH_GATE_CTL_APPLY, 7, 1)] s).flag F.SCH_GATE_CTL_APPLY 7 &&
    [0, 1].all (fun e => (set [(F.SCH_GATE_CTL_EN, 7, e)] s).fld F.SCH_GATE_CTL_EN 7 == e) && Tbl.find? 7 s.sch.gateWait == some 5 &&
    decide ((s.gateList 7).cycleStart 5 ≤ s.adjusted) && decide ((set [(F.GLB_TOD_OFFSET_OFFSET, 0, 2 ^ 64 - 1000000000000)] s).adjusted < (s.gateList 7).cycleStart 5) &&
    bit (s.fld F.NET_PORT_CTL_PFC_EN 0) 7 && Tbl.find? 7 s.sch.pause == some 999999999999 && Tbl.find? 6 s.sch.pause == some 1000000000001) = true := by
  decide +kernel

theorem witness_TrafficScheduler_domain : ((schedTest [] []).domOn 21 && !(schedTest [] []).encrypts (frame0 none)) = true := by decide +kernel
/-- What a sent frame is stamped with is adjusted time (R52, R56). -/
theorem test_stamp : ((set [(F.GLB_TOD_OFFSET_OFFSET, 0, 5)] (schedTest [] [])).emitFrame (frame0 none)).sch.sent.map (fun f => f.time) = [1000000000005] := by
  decide +kernel

/-- A PFC frame of 100 quanta at 800 Gb/s pauses for 64 ns (R501). -/
theorem test_pfc : ends (exec (.pfcFrameReceive 0 7 100) (schedTest [] [])) (fun t =>
    Tbl.find? 7 t.sch.pause == some 1000000000064 && bit (t.fld F.SCH_GATE_STAT_PAUSED 0) 7) = true := by decide +kernel

/-- A table load of one pattern, its entry good or reserved; a swap, with a frame of the old bank and with none. -/
def netTest (fields : List (Fld × Nat × Nat)) : State := set ([(F.NET_PORT_STAT_UP, 0, 1), (F.NET_TBL_CMD_GO, 0, 1), (F.NET_TBL_ADDR_ADDR, 0, 0x080000000000 / 64)] ++ fields) up
def rx (bank : Bool) (action : Nat) : RxFrame := ⟨0, 0, List.replicate 60 0, {}, 0, none, false, 0, 0, ⟨4, action, 0⟩, bank⟩
def swapTest (l : List RxFrame) : State :=
  let s := netTest []
  { s with net := { s.net with swapping := true, reorder := [(0, l)] } }

theorem witness_NetworkReceive_tables :
    ([1023, 1024].all (fun first => let s := netTest [(F.NET_TBL_CMD_KIND, 0, 3), (F.NET_TBL_CMD_COUNT, 0, 1), (F.NET_TBL_CMD_FIRST, 0, first)];
      s.fld F.NET_TBL_CMD_FIRST 0 == first && s.flag F.NET_TBL_CMD_GO 0 && s.fld F.NET_TBL_CMD_OP 0 == 0 && !s.net.swapping &&
      (match ((s.setFlag F.NET_TBL_CMD_GO 0 false).readFor {} 0 0x080000000000 64).2 with
        | .ok b => !entryBad 3 b
        | _ => false)) &&
    decide (tblSize 3 < 1024 + 1 ∧ 1023 + 1 ≤ tblSize 3) && entryBad 3 (List.replicate 48 0 ++ toBytes 8 (2 ^ 63)) &&
    (netTest [(F.NET_TBL_CMD_OP, 0, 1)]).fld F.NET_TBL_CMD_OP 0 == 1 &&
    (swapTest [rx (swapTest []).activeBank 0]).net.reorder.all (fun q => q.2.all (fun f => f.bank == (swapTest []).activeBank)) &&
    (swapTest [rx (!(swapTest []).activeBank) 0]).net.reorder.any (fun q => q.2.any (fun f => f.bank != (swapTest []).activeBank))) = true := by decide +kernel

/-- A flow command whose entry stands at the head of shared SRAM, with the on-chip set holding the key or not. -/
def flowKey : List Byte := List.replicate 40 0
def flowTest (op : Nat) (action : Nat) (l : List FlowEntry) : State :=
  let s := shared (flowKey ++ toBytes 8 action) (set [(F.NET_FLOW_CMD_GO, 0, 1), (F.NET_FLOW_CMD_OP, 0, op), (F.NET_FLOW_CMD_ADDR, 0, 0x080000000000 / 64)] up)
  { s with net := { s.net with flows := [(crcOf crc32c flowKey % 4096, l)] } }
def flow0 : FlowEntry := ⟨flowKey, 2 ^ 63 + 2 ^ 62, 0, 0⟩

theorem witness_NetworkReceive_flows :
    ([0, 1, 2].all (fun op => let s := flowTest op (2 ^ 63) [flow0];
      s.flowReady op && (match ((s.setFlag F.NET_FLOW_CMD_GO 0 false).readFor {} 0 s.flowAt 64).2 with
        | .ok b => b.take 40 == flowKey && leAt b 40 8 == 2 ^ 63
        | _ => false) && (s.flowSet (crcOf crc32c flowKey % 4096)).any (fun e => e.key == flowKey)) &&
    !actionBad (2 ^ 63) && actionBad (2 ^ 63 + 3) && (flowTest 0 0 []).findMem flowKey == none && !(flowTest 0 0 []).hasFlowMem &&
    decide ((flowTest 0 0 []).net.lastSweep + (flowTest 0 0 []).fld F.NET_FLOW_CTL_AGE_S 0 * 1000000000 ≤ (flowTest 0 0 []).tb.time)) = true := by decide +kernel

theorem test_flow_insert : ends (exec (.flowInsert {}) (flowTest 0 (2 ^ 63) [])) (fun t =>
    (t.flowSet (crcOf crc32c flowKey % 4096)).map (fun e => e.key) == [flowKey] && t.fld F.NET_FLOW_STAT_CHIP_USED 0 == 1) = true := by decide +kernel

/-- Frames at the limits of the size check and with a bad FCS; classification's branches; fragments that expire. -/
def parse0 : Parse := { dmac := 7 }
def mac7 : NetBank := { macs := [(5, [BitVec.ofNat 64 (2 ^ 63 + 2 ^ 62 + 7), 0])] }
theorem witness_NetworkReceive :
    (let s := netTest [];
    s.canSend 0 && decide (60 + 4 ≤ s.fld F.NET_PORT_CTL_MAX_FRAME 0) && decide (sumOf ((List.range 8).map (s.heldBytes 0)) + 60 ≤ 4194304) &&
    ({ s with net := { s.net with held := [(0, 4194245)] } } : State).heldBytes 0 0 + 60 == 4194305 &&
    (s.flowLookup parse0.key).2 == none && macHit {} parse0 == none && (macHit mac7 parse0).isSome && s.ddtReady &&
    ((swapTest [rx true 0]).net.reorder.any (fun q => q.1 == 0 && !q.2.isEmpty)) && s.flag F.HEP_FN_CTL_NETWORK (actFn 0) &&
    !(set [(F.HEP_FN_CTL_NETWORK, 0, 0)] s).flag F.HEP_FN_CTL_NETWORK 0 && actKind (2 ^ 40) == 0 && actKind 1 == 1 && s.portExists 0 && decide (s.domain (portDomain 0) = .ready) &&
    bit (s.fld F.NET_PORT_MODE_LANE_EN 0) 0) = true := by decide +kernel

theorem test_short_frame : ends (exec (.frameReceive 0 (List.replicate 59 0) ⟨true, false⟩) (netTest [])) (fun t =>
    t.fld F.NET_PORT_CNT_SIZE_CNT 0 == 1 && t.fld F.NET_PORT_CNT_FCS_CNT 0 == 0) = true := by decide +kernel

/-! RDMA. -/

/-- RDM_CMD of function 0 with GO, and its block at the head of shared SRAM; ring 7 is a work queue. -/
def wq7 : Ring := { ring0 with typ := .workQueue, gen := 9 }
def rdmTest (kind op idx : Nat) (block : List Word) (r : Rdma) : State :=
  let s := shared (bytesOfWords block) (set [(F.RDM_CMD_GO, 0, 1), (F.RDM_CMD_KIND, 0, kind), (F.RDM_CMD_OP, 0, op), (F.RDM_CMD_INDEX, 0, idx),
    (F.RDM_CMD_ADDR_ADDR, 0, 0x080000000000 / 64), (F.RDM_MEM_EN, 0, 1)] (up.setRing 7 wq7))
  { s with rdm := r }
/-- A queue pair of ring 7, in a state; with peer 1. -/
def qp0 (st : Nat) : Qp := { fn := 0, state := st, sq := 7, rq := 9, rqEn := true, mtu := 3, peer := 1, rtoUs := 10, rdOut := 4, retryCnt := 3, rnrRetry := 7 }
def peer0 (st : Nat) : Peer := { state := st, words := List.replicate 6 0, caps := 0xFF }
def withQp (x : Qp) (p : Nat) : Rdma := { qps := [(5, x)], peers := [(1, peer0 p)] }
def readOk (s : State) (bs : List Byte) : Bool :=
  match ((s.rdmAccept 0).readFor {} 0 (s.rdmAddr 0) 64).2 with
  | .ok b => b == bs
  | _ => false
def zeros : List Word := List.replicate 8 0

theorem witness_RdmaCommands :
    (let c := rdmTest 0 0 0 [0, 7 * 1, 0, 0, 0, 0, 0, 0] {};
    c.rdmReady 0 0 0 && readOk c (bytesOfWords [0, 7, 0, 0, 0, 0, 0, 0]) && !c.qpInvalid 0 false 0 7 0 false && c.qpInvalid 0 false 0 8 0 false &&
    Tbl.firstFree c.rdm.qps 0xBFFFE 2 == some 2 &&
    (let m := fun st b => rdmTest 0 1 5 (b :: zeros.drop 1) (withQp (qp0 st) 2);
      (m 0 1).rdmReady 0 0 1 && readOk (m 0 1) (bytesOfWords (1 :: zeros.drop 1)) && (m 0 1).qp? 5 == some (qp0 0) && !(m 0 1).qpBusy 5 &&
      okIs ((m 0 1).modifyQp (qp0 0) (1 :: zeros.drop 1)) (fun y => y.state == 1) && okIs ((m 4 0).modifyQp (qp0 4) zeros) (fun y => y.state == 0) &&
      okIs ((m 1 0).modifyQp (qp0 1) [0x302, 0, 0, BitVec.ofNat 64 (2 ^ 32)]) (fun y => y.state == 2 && y.mtu == 3 && y.peer == 1) &&
      okIs ((m 2 0).modifyQp (qp0 2) [3, 0, 0, 0, BitVec.ofNat 64 (2 ^ 40 + 1)]) (fun y => y.state == 3) &&
      (match (m 1 1).modifyQp (qp0 1) (1 :: zeros.drop 1) with
        | .error r => r == 4
        | .ok _ => false) && readOk (m 0 4) (bytesOfWords (4 :: zeros.drop 1)) && field (wordAt (wordsOf 8 (bytesOfWords (4 :: zeros.drop 1))) 0) 2 0 == 4) &&
    (rdmTest 0 2 5 zeros (withQp (qp0 0) 2)).rdmReady 0 0 2 && (rdmTest 0 3 5 zeros (withQp (qp0 0) 2)).rdmReady 0 0 3 &&
    (match (((rdmTest 0 3 5 zeros (withQp (qp0 0) 2)).rdmAccept 0).writeFor {} 0 0x080000000000 (bytesOfWords (qp0 0).block)).2 with
      | .ok _ => true
      | _ => false) &&
    (let r := rdmTest 1 0 0 [0x080000000000, 64, 0, 0, 0, 0, 0, 0] {};
      r.rdmReady 0 1 0 && decide (r.region 0x080000000000 ≠ .hole ∧ r.region (0x080000000000 + 63) ≠ .hole) &&
      r.region 0x040000000000 == .hole && Tbl.firstFree r.rdm.regions 0x100000 0 == some 0) &&
    [2, 3].all (fun op => let r := rdmTest 1 op 4 zeros { regions := [(4, ⟨0, 0x080000000000, 64, 0, true, true, 7, false⟩)] };
      r.rdmReady 0 1 op && (Tbl.find? 4 r.rdm.regions).isSome) &&
    [2, 3].all (fun k => [0, 2, 3].all (fun op =>
      (set [(F.RDM_CMD_GO, 3, 1), (F.RDM_CMD_KIND, 3, k), (F.RDM_CMD_OP, 3, op)] up).rdmReady 3 k op)) &&
    (let p := rdmTest 2 0 4095 (3 :: zeros.drop 1) {}; p.rdmReady 0 2 0 && p.rdmIndex 0 == 4095 && p.peer? 4095 == none && bit (wordAt [3] 0) 0) &&
    [2, 3].all (fun op => let p := rdmTest 2 op 1 zeros (withQp (qp0 0) 2); p.rdmReady 0 2 op && p.peer? 1 == some (peer0 2)) &&
    (let b : List Word := [2, 0x080000000040, 0, 8388608, 1, 0, 0, 0];
      let g := shared (toBytes 2 0xFFFF ++ toBytes 2 1) (rdmTest 3 0 63 b (withQp (qp0 0) 2));
      g.rdmReady 0 3 0 && !g.groupInvalid b && g.flag F.RDM_MEM_EN 0 && g.group? 63 == none && !g.membersInvalid 0 [0xFFFF, 1] && g.membersInvalid 0 [0xFFFF, 2]) &&
    [2, 3].all (fun op => let g := rdmTest 3 op 4 zeros { groups := [(4, ⟨zeros, 0, 0, 2, 0, 0, [0xFFFF, 1], 0, none⟩)] };
      g.rdmReady 0 3 op && (g.group? 4).any (fun x => x.op == none))) = true := by decide +kernel

/-- A MODIFY to RESET of a queue pair with packets on the wire waits, and one without ends (R454). -/
theorem witness_RdmaCommands_reset :
    (let m := rdmTest 0 1 5 zeros { withQp (qp0 4) 2 with inbox := [⟨0, ⟨5, 0, false, .ack⟩, 0, 0, [], 60⟩] };
    let w := fun (s : State) => ({ s with rdm := { s.rdm with waits := [⟨0, 0, 5⟩] } } : State);
    m.rdmReady 0 0 1 && okIs ((m.rdmAccept 0).modifyQp (qp0 4) zeros) (fun y => y.state == 0) && (m.rdmAccept 0).qpBusy 5 &&
    !((rdmTest 0 1 5 zeros (withQp (qp0 4) 2)).rdmAccept 0).qpBusy 5 && (w m).qpBusy 5 && !(w (rdmTest 0 1 5 zeros (withQp (qp0 4) 2))).qpBusy 5 &&
    (w m).rdm.waits == [⟨0, 0, 5⟩] && (w m).qp? 5 == some (qp0 4)) = true := by decide +kernel

/-- Creating a queue pair answers its number 2; creating one on a ring that is no work queue answers INVALID (R447). -/
theorem test_qp_create : ends (exec (.qpCreate 0 {}) (rdmTest 0 0 0 [0, 7, 0, 0, 0, 0, 0, 0] {})) (fun t =>
    t.fld F.RDM_RESULT_INDEX 0 == 2 && t.fld F.RDM_RESULT_RESULT 0 == 0 && t.flag F.RDM_RESULT_DONE 0 && (t.qp? 2).any (fun x => x.sq == 7 && x.state == 0)) = true := by
  decide +kernel
theorem test_qp_create_invalid : ends (exec (.qpCreate 0 {}) (rdmTest 0 0 0 [0, 8, 0, 0, 0, 0, 0, 0] {})) (fun t =>
    t.fld F.RDM_RESULT_RESULT 0 == 2 && t.rdm.qps.isEmpty) = true := by decide +kernel

/-- A work request dispatched on ring 7 in slot 0, for the queue pair of `x`; peer 1 in state `p`. -/
def wqTest (x : Qp) (p op : Nat) (ws : List Word) : State :=
  let s := (up.setRing 7 wq7).setSlot 0 { ring := 7, idx := 0, fn := 0, words := (BitVec.ofNat 64 op :: ws) ++ List.replicate (7 - ws.length) 0, phase := .dispatched }
  { s with rdm := withQp x p }
def raw0 (st : Nat) : Qp := { qp0 st with raw := true }
theorem witness_WorkRequests :
    ([0, 1, 2, 3, 4, 5].all (fun op => [(3, 2), (3, 4), (3, 3), (4, 2)].all (fun z =>
      let s := wqTest (qp0 z.1) z.2 op [0x080000000000, 64];
      (s.wqAt 0 op).any (fun y => (s.qpOfSq y.ring).any (fun q => q.1 == 5) && !s.wqTaken 5 0 && s.wqFirst 5 y &&
        !wqBad true 3 y.words && !wqBad false 6 y.words && !wqBadRemote false y.words && !wqBadRemote true y.words) &&
      decide (s.domain 20 ≠ .off) && (s.peer? 1).any (fun p => p.state == z.2 && (p.up == (z.2 == 2)) && bit (s.sharedCaps p) 3))) &&
    wqBad false 3 [0, 2 ^ 48] && wqBadRemote false [0, 2 ^ 48] && wqBad true 3 [0, 2 ^ 48] &&
    (let t := wqTest { qp0 3 with wqes := [{ slot := some 0, kind := .send }] } 2 0 []; (t.wqAt 0 0).any (fun y => (t.qpOfSq y.ring).isSome) && t.wqTaken 5 0) &&
    [60, 61].all (fun len => let f := shared (List.replicate 61 0) (wqTest (raw0 3) 2 6 [0x080000000000, BitVec.ofNat 64 len]);
      (f.wqAt 0 6).any (fun y => (f.qpOfSq y.ring).any (fun q => q.2.raw && q.2.state == 3) && f.wqFirst 5 y && zeroFrom y.words 3) && !f.wqTaken 5 0 &&
      decide (len + 4 ≤ f.fld F.NET_PORT_CTL_MAX_FRAME (f.fld F.SCH_FN_MAP_RAW_PORT 0)) && f.queueRoom (f.subOf 0 5) 0 (f.fld F.SCH_FN_MAP_RAW_PORT 0) &&
      (match (f.readFor {} 0 0x080000000000 len).2 with
        | .ok b => b.length == len
        | _ => false)) &&
    [(0x10, 3), (0x11, 3), (0x10, 4)].all (fun z => let r := wqTest { qp0 z.2 with rq := 7, sq := 8 } 2 z.1 [0x080000000000, 64];
      (r.wqAt 0 z.1).any (fun y => !wqBad false 3 y.words && (r.ringSlots y.ring).all (fun w => !idxBefore w.2.idx y.idx)) &&
      (r.qpsOfRq 7).any (fun q => q.1 == 5) && decide (r.rdm.recvs.length < 524288)) &&
    ((wqTest { raw0 3 with rq := 7, sq := 8 } 2 0x10 []).qpsOfRq 7).length == 1) = true := by decide +kernel

/-- Local ranges that pass and that do not; the RDMA domain on and off; room for a receive. -/
theorem witness_WorkRequests_checks :
    ((wqTest (qp0 3) 2 0 [0x080000000000, 64]).domain 20 == .ready &&
    (set [(F.FUM_PD_STAT_ON, 0, 2 ^ 29 - 1 - 2 ^ 20)] up).domain 20 == .off &&
    up.checkClause 0 false 0x080000000000 64 == .ok () && up.checkClause 0 false 0x040000000000 64 == .fail St.ADDRESS_UNMAPPED &&
    (let v := fun a => (⟨7, 0, 0, a, 64, none, false, 0⟩ : PostedRecv);
      up.checkClauses 0 true (v 0x080000000000).ranges == .ok () && up.checkClauses 0 true (v 0x040000000000).ranges == .fail St.ADDRESS_UNMAPPED) &&
    [true, false].all (fun raw => up.recvRoom raw 7)) = true := by decide +kernel

/-- A SEND is taken and its packets wait to go (R450); a RECV is posted and frees its slot (R456). -/
theorem test_recv : ends (exec (.recv 0) (wqTest { qp0 3 with rq := 7, sq := 8 } 2 0x10 [0x080000000000, 64])) (fun t =>
    (t.slot? 0).isNone && t.rdm.recvs.map (fun v => (v.addr, v.len)) == [(0x080000000000, 64)]) = true := by decide +kernel
theorem test_send_down : ends (exec (.rdmaSend 0 {}) (wqTest (qp0 3) 3 0 [0x080000000000, 64])) (fun t =>
    (t.slot? 0).map (fun y => y.phase) == some (.done 0x400 0) && (t.qp? 5).any (fun x => x.state == 4)) = true := by decide +kernel

/-- A packet at the head of the inbox for queue pair 5, which has sent packets 10 to 13. -/
def pktTest (x : Qp) (psn : Nat) (b : Body) : State :=
  { up with rdm := { withQp x 2 with inbox := [⟨0, ⟨5, psn, false, b⟩, 0, 0, [], 60⟩] } }
def wqe0 : Wqe := { slot := some 0, kind := .send, psn := 10, n := 4, len := 4096 }
def qpSent : Qp := { qp0 3 with base := 10, next := 14, sendAt := 14, tail := 14, wqes := [wqe0], progress := 999999000000, exp := 7, retries := 2 }
def qpRead : Qp := { qpSent with wqes := [{ wqe0 with kind := .read, addr := 0x080000000000 }] }
def arrivesB (s : State) (b : Body → Bool) : Bool :=
  (s.rdm.inbox.head?).any (fun i => b i.pkt.body && decide (i.pkt.qpn < 2 ^ 20) && i.ecn != 3 &&
    (s.qp? i.pkt.qpn).any (fun x => x.fn == i.fn && !x.raw && (x.state == 2 || x.state == 3)))

theorem witness_RdmaPackets :
    ([Body.ack, .nakSeq, .nakAccess, .nakOp].all (fun b => arrivesB (pktTest qpSent 13 b) isAck) &&
    decide (psnSub 13 (10 % 2 ^ 24) < 14 - 10 ∧ 14 - 10 ≤ psnSub 14 (10 % 2 ^ 24)) && qpSent.state == 3 && (pktTest qpSent 13 .ack).ckp.job == none &&
    (pktTest qpSent 13 .ack).ckp.serving == none && qpSent.group == none && qpSent.wqes.all (fun w => decide (13 < w.psn + w.n)) &&
    [Body.ack, .send true true none none [], .grant 1, .cnp, .creditReq 1].all (fun b => (pktTest (qp0 3) 0 b).qp? 6 == none) &&
    qpSent.rnrUntil == none && decide (999999000000 + 10 * 1000 * 2 ^ min 7 0 ≤ up.tb.time ∧ up.tb.time < 1000000000000 + 10 * 1000) &&
    decide (qpSent.retries < qpSent.retryCnt ∧ ({ qpSent with retries := 3 } : Qp).retryCnt ≤ 3) &&
    decide (999999996000 + 4000 ≤ up.tb.time ∧ up.tb.time < 999999996001 + 4000) &&
    (let r := pktTest qpRead 10 (.readResp false (List.replicate 4 1)); arrivesB r isData && (r.readData {} 5 qpRead 10 (List.replicate 4 1)).isSome) &&
    (let w := pktTest (qp0 3) 0 (.send true true none none [7, 8]);
      let v : PostedRecv := ⟨9, 0, 0, 0x080000000000, 2, none, true, 0⟩;
      arrivesB w isData && psnSub 0 0 == 0 && (w.takeBody {} 5 (qp0 3) (.send true true none none [7, 8]) 0).2 == .rnr &&
      (({ w with rdm := { w.rdm with recvs := [v] } } : State).takeBody {} 5 (qp0 3) (.send true true none none [7, 8]) 0).2 == .ok 1 &&
      (w.takeBody {} 5 (qp0 3) (.write true true 0 0 0 none []) 0).2 == .nakAccess && (w.takeBody {} 5 (qp0 3) (.send false true none none []) 0).2 == .nakOp) &&
    decide (0 < psnSub 8 7 ∧ psnSub 8 7 < 2 ^ 23 ∧ 2 ^ 23 ≤ psnSub 6 7)) = true := by decide +kernel

/-- A duplicate READ request in a region that still grants it (R458, R462). -/
theorem witness_RdmaPackets_duplicate :
    (let p := pktTest { qp0 3 with exp := 7 } 6 (.readReq 0 0x407 64);
    let s : State := { p with rdm := { p.rdm with regions := [(4, ⟨0, 0x080000000000, 64, 0, true, true, 7, false⟩)] } };
    arrivesB s isData && decide (2 ^ 23 ≤ psnSub 6 7) &&
    (match ((s.withInbox []).regionCheck {} ((s.qp? 5).getD (qp0 3)) false 0 0x407 64).2 with
      | .ok r => r.2 == 0x080000000000
      | _ => false)) = true := by decide +kernel

/-- An ACK of the last packet ends the request with its clause (R461); a packet for no queue pair is counted (R442). -/
theorem test_badqp : ends (exec (.ackReceive {}) { up with rdm := { inbox := [⟨0, ⟨5, 0, false, .ack⟩, 0, 0, [], 60⟩] } }) (fun t =>
    t.fld F.RDM_GLB_STAT_BADQP_CNT 0 == 1 && t.rdm.inbox.isEmpty) = true := by decide +kernel
theorem test_retries_spent : ends (exec (.retransmitTimeout 5 {}) (pktTest { qpSent with retries := 3 } 13 .ack)) (fun t =>
    (t.qp? 5).any (fun x => x.state == 4 && x.cause == 1)) = true := by decide +kernel

/-- Queue pair 5 under ECN, and under CREDIT; a HELLO of peer 1; discovery on. -/
def ccTest (mode : Nat) (x : Qp) (b : Body) : State := set [(F.RDM_TC_CFG_MODE, 0, mode)] (pktTest x 0 b)
def helloTest (p : Peer) (b : Body) : State :=
  { set [(F.RDM_DISC_CTL_EN, 0, 1), (F.FUM_FUSE_HELD_HELD, 0, 0)] up with
    rdm := { peers := [(1, p)], inbox := [⟨0, ⟨0, 0, false, b⟩, 0, 0, List.replicate 16 0, 60⟩] } }

theorem witness_CongestionAndPeers :
    (let s := ccTest 1 { qp0 3 with alphaAt := 999000000000, rateAt := 999000000000 } .cnp;
    arrivesB s (fun b => b == .cnp) && s.ccMode (qp0 3) == 1 && decide (999000000000 + s.fld F.RDM_TC_CFG_ALPHA_US 0 * 1000 ≤ s.tb.time) &&
    decide (s.tb.time < 1000000000000 + s.fld F.RDM_TC_CFG_ALPHA_US 0 * 1000 ∨ s.fld F.RDM_TC_CFG_ALPHA_US 0 = 0) &&
    decide (999000000000 + s.fld F.RDM_TC_RATE_INC_US 0 * 1000 ≤ s.tb.time) &&
    [0, 5, 10].all (fun n => decide (n + 1 ≤ 5) || decide (5 < n + 1 ∧ n + 1 ≤ 10) || decide (10 < n + 1)) &&
    arrivesB (pktTest (qp0 3) 0 (.creditReq 4096)) (fun b => b == .creditReq 4096) && arrivesB (pktTest (qp0 3) 0 (.grant 4096)) (fun b => b == .grant 4096) &&
    (let c := { s with rdm := { s.rdm with asks := [⟨5, 4096⟩], outs := [⟨5, 1, 0⟩] } };
      c.qpPortTc 5 == (0, 0) && (c.rdm.asks.find? (fun a => decide (c.qpPortTc a.qp = (0, 0)))) == some ⟨5, 4096⟩ &&
      [0, 256].all (fun w => (set [(F.RDM_TC_CRED_WINDOW_KIB, 0, w), (F.RDM_TC_CRED_GRANT_KIB, 0, 4)] c).fld F.RDM_TC_CRED_WINDOW_KIB 0 == w) &&
      decide (0 + 2 * c.fld F.RDM_TC_CRED_LIFE_US 0 * 1000 ≤ c.tb.time)) &&
    (let h := helloTest (peer0 2) (.hello 1 2 3 0 0 true);
      h.flag F.RDM_DISC_CTL_EN 0 && decide (h.rdm.lastHello + h.fld F.RDM_DISC_CTL_HELLO_MS 0 * 1000000 ≤ h.tb.time ∧ h.domain 20 = .ready) &&
      !bit (h.fld F.FUM_FUSE_HELD_HELD 0) 16 && (h.rdm.peers.find? (fun p => !p.2.foreign && decide (p.2.ip = List.replicate 16 0))) == some (1, peer0 2) &&
      (helloTest (peer0 5) .cnp).rdm.peers.all (fun p => p.2.foreign) &&
      decide (0 + h.fld F.RDM_DISC_CTL_DEAD_MS 0 * 1000000 ≤ h.tb.time) &&
      !(h.writeWhole [F.RDM_DISC_CTL_GSI_QP, F.RDM_DISC_CTL_DEAD_MS, F.RDM_DISC_CTL_HELLO_MS, F.RDM_DISC_CTL_EN] 0).flag F.RDM_DISC_CTL_EN 0 &&
      (h.writeWhole [F.RDM_DISC_CTL_GSI_QP, F.RDM_DISC_CTL_DEAD_MS, F.RDM_DISC_CTL_HELLO_MS, F.RDM_DISC_CTL_EN] (2 ^ 64 - 1)).flag F.RDM_DISC_CTL_EN 0)) = true := by
  decide +kernel

/-- Credit kept and expired; a request that is due again and one that is not. -/
theorem witness_CongestionAndPeers_credit :
    (up.domOn 20 && (qp0 3).reqAt == none && decide (0 + up.fld F.RDM_TC_CRED_LIFE_US 0 * 1000 ≤ up.tb.time ∧ up.tb.time < 1000000000001 + up.fld F.RDM_TC_CRED_LIFE_US 0 * 1000)) = true := by
  decide +kernel

/-- A leaving HELLO takes a peer that is UP down (R474). -/
theorem test_leave : ends (exec .helloReceive (helloTest (peer0 2) (.hello 1 2 3 0 0 true))) (fun t =>
    (t.peer? 1).any (fun p => p.state == 3) && t.rdm.inbox.isEmpty) = true := by decide +kernel

/-- A group of two of which this device is rank 0, and a collective clause on it. -/
def group0 (op : Option CollOp) : Group := ⟨[2, 0, 0, 8388608, 1, 0, 0, 0], 0, 0, 2, 0, 0, [0xFFFF, 1], 3, op⟩
def op0 : CollOp := { slot := 0, seq := 3, version := 1, started := 0, phase := 0, written := 2 }
def collTest (op : Nat) (w1 count timeout : Word) (g : Group) (p : Nat) : State :=
  let s := clause 4 op [w1, 0x080000000000, 0x080000010000, count, 0, 0, timeout]
  { s with rdm := { peers := [(1, peer0 p)], groups := [(4, g)], qps := [(internalQp 4 1, { qp0 3 with group := some (4, 1) })],
                    inbox := [⟨0, ⟨internalQp 4 1, 0, false, .abort 3 1 1⟩, 0, 0, [], 60⟩] } }

theorem witness_Collectives :
    ([0, 1, 2, 3, 4].all (fun op => let s := collTest op 4 4 0 (group0 none) 2;
      (s.clauseAt 0 4 op).any (fun y => decide (s.domain 20 = .ready) && s.group? (collArgs y.words).group == some (group0 none) && !collBad y.words 2 &&
        s.checkClause 0 false ((collArgs y.words).ranges (group0 none)).1.1 ((collArgs y.words).ranges (group0 none)).1.2 == .ok () &&
        s.checkClause 0 true ((collArgs y.words).ranges (group0 none)).2.1 ((collArgs y.words).ranges (group0 none)).2.2 == .ok () &&
        s.collPeers (collArgs y.words) (group0 none) == 0 && (collTest op 4 4 0 (group0 none) 3).collPeers (collArgs y.words) (group0 none) == 0x400 &&
        !(s.rng.slots.any (fun z => decide (z.2.phase = .dispatched ∧ z.2.seq < y.seq)))) &&
      ((collTest op 3 4 0 (group0 none) 2).clauseAt 0 4 op).any (fun y => (collTest op 3 4 0 (group0 none) 2).group? (collArgs y.words).group == none) &&
      ((collTest op 4 0 0 (group0 none) 2).clauseAt 0 4 op).any (fun y => collBad y.words 2) &&
      (({ group0 none with fn := 1 } : Group).fn != 0) && (group0 (some { op0 with slot := 9 })).op.isSome) &&
    (let r := collTest 2 4 4 5 (group0 (some op0)) 2;
      (r.slot? 0).any (fun y => decide ((collArgs y.words).outChunks 2 ≤ 2) && (collArgs y.words).timeout == 5 && decide (0 + 5 * 1000 ≤ r.tb.time)) &&
      r.collSent 4 (group0 (some op0)) 3 && arrivesB r (fun b => b == .abort 3 1 1) && (r.group? 4).any (fun y => y.op == some op0))) = true := by decide +kernel

/-- The RDMA domain off; a clause admitted before and waiting for its group. -/
theorem witness_Collectives_domain :
    (let s := set [(F.FUM_PD_STAT_ON, 0, 2 ^ 29 - 1 - 2 ^ 20)] (collTest 0 4 4 0 (group0 none) 2);
    s.domain 20 == .off && (s.clauseAt 0 4 0).any (fun y => y.progress == none) && (s.group? 4).all (fun x => x.op.map (fun o => o.slot) != some 0) &&
    (let w := (collTest 0 4 4 0 (group0 none) 2).setSlot 0 { clauseSlot 4 0 [4, 0x080000000000, 0x080000010000, 4, 0, 0, 0] with progress := some 0 };
      (w.clauseAt 0 4 0).any (fun y => y.progress != none))) = true := by decide +kernel

/-- A collective whose peer is down completes PEER_UNREACHABLE; an abort notice ends one with COLLECTIVE_ABORTED (R479, R483). -/
theorem test_coll_unreachable : ends (exec (.allReduce 0 {}) (collTest 2 4 4 0 (group0 none) 3)) (fun t =>
    (t.slot? 0).map (fun y => y.phase) == some (.done 0x400 0)) = true := by decide +kernel
theorem test_abort : ends (exec .abortNoticeReceive (collTest 2 4 4 0 (group0 (some op0)) 2)) (fun t =>
    (t.group? 4).any (fun g => g.op == none) && (t.slot? 0).map (fun y => y.phase) == some (.done 0x403 (BitVec.ofNat 64 (2 ^ 56 + 1)))) = true := by
  decide +kernel

/-! Checkpoints. -/

/-- Lane 0 on queue pair 5 with the buddy, peer 1; a buddy area of 1 GiB from address 0, with slot headers; a region list in shared
SRAM. -/
def ckQp : Qp := { qp0 3 with mtu := 5 }
def region0 : List Byte := toBytes 8 0x080000020000 ++ toBytes 8 64 ++ List.replicate 16 0
def header0 (st writeNo : Nat) : List Byte := toBytes 4 0x4B43374B ++ [0, 0, BitVec.ofNat 8 st, 1] ++ toBytes 8 7 ++ toBytes 8 2 ++ toBytes 8 writeNo ++ toBytes 8 64
def ckTest (p : Nat) (fields : List (Fld × Nat × Nat)) (c : Ckpt) : State :=
  let s := set ([(F.CKP_PAIR_EN.at 0, 0, 1), (F.CKP_PAIR_QP.at 0, 0, 5), (F.MEM_BUDDY_STAT_APPLIED_GIB, 0, 1), (F.CKP_CTL_OPEN_MS, 0, 1)] ++ fields)
    (shared region0 (clause 6 0 [0x080000000000, 1, 0, 0, 0, 0, 0]))
  { s with rdm := withQp ckQp p, ckp := c, mem := { s.mem with maint := [⟨.checkpoint, 0, true⟩] } }
def ckSlots (a b : Nat) : State := ((ckTest 2 [] {}).devWrite 0 (header0 a 5)).devWrite (2 ^ 29) (header0 b 4)
def job0 (slot : Option Nat) : CkJob := { slot := slot, regions := [⟨0x080000020000, 64, 0, 0⟩], bytes := 64, lanes := 1, step := 2 }

theorem witness_CheckpointArming :
    (let s := ckTest 2 [] {};
    (s.clauseAt 0 6 0).any (fun x => x.fn == s.buddyFn && wordAt x.words 1 == 0x080000000000 && wordAt x.words 2 == 1 && zeroFrom x.words 3) &&
    s.ckp.job == none && s.domain 27 == .ready && (ckTest 2 [(F.FUM_PD_STAT_ON, 0, 2 ^ 27 - 1)] {}).domain 27 == .off && (ckTest 2 [(F.CKP_CTL_FUNC, 0, 1)] {}).buddyFn != 0 &&
    (match (s.ckList {} 0x080000000000 1).2 with
      | .ok rs => rs == [⟨0x080000020000, 64, 0, 0⟩]
      | _ => false) &&
    (match ((ckTest 3 [] {}).ckList {} 0x080000000000 1).2 with
      | .fail st => st == 0x400
      | _ => false) &&
    !ckEntryBad s region0 && ckEntryBad s (List.replicate 32 0) && ckOverlap [⟨0, 64, 0, 0⟩, ⟨0, 64, 0, 0⟩] && !ckOverlap [⟨0, 64, 0, 0⟩] &&
    s.ckAccess false [⟨0x080000020000, 64, 0, 0⟩] == .ok () && s.ckIdle && !(ckTest 2 [(F.CKP_STAT_STATE, 0, 5)] {}).ckIdle &&
    (ckTest 2 [(F.CKP_STAT_STATE, 0, 1)] { job := some { job0 none with bytes := 0 } }).warned &&
    (List.range 7).all (fun k => !s.flag (F.CKP_PAIR_EN.at (k + 1)) 0) && [2, 4, 3].all (fun p => ((ckTest p [] {}).lanesFail == none) == (p == 2)) &&
    (ckTest 2 [(F.CKP_PAIR_QP.at 0, 0, 6)] {}).laneBad 6 && !(ckTest 2 [(F.CKP_PAIR_EN.at 0, 0, 0)] {}).flag (F.CKP_PAIR_EN.at 0) 0 &&
    decide (s.ckp.lastSample + 1000000000 ≤ s.tb.time) &&
    (let t := fun c start => ckTest 2 [(F.CKP_TRIG_VALID, 0, 1), (F.CKP_TRIG_THRESH, 0, c), (F.CKP_TRIG_WINDOW_S, 0, 1)] { trigs := [(0, ⟨start, 0⟩)] };
      (t 1 0).flag F.CKP_TRIG_VALID 0 && Tbl.find? 0 (t 1 0).ckp.trigs == some ⟨0, 0⟩ &&
      decide ((t 1 0).sinterCount ((t 1 0).fld F.CKP_TRIG_CODE 0) < 0 + (t 1 0).fld F.CKP_TRIG_THRESH 0) &&
      decide ((t 0 0).fld F.CKP_TRIG_THRESH 0 ≤ 0 ∧ (t 0 0).fld F.CKP_LIST_COUNT 0 = 0) &&
      decide ((t 1 0).tb.time < 999900000000 + (t 1 0).fld F.CKP_TRIG_WINDOW_S 0 * 1000000000)) &&
    (let j := ckTest 2 [(F.CKP_STAT_STATE, 0, 2)] { job := some (job0 (some 0)) };
      j.ckp.job == some (job0 (some 0)) && j.fld F.CKP_STAT_STATE 0 == 2 && (j.ckFail 0x600 2).ckp.restore == none &&
      decide (0 + j.fld F.CKP_CTL_OPEN_MS 0 * 1000000 ≤ j.tb.time ∧ j.tb.time < 1000000000000 + j.fld F.CKP_CTL_OPEN_MS 0 * 1000000))) = true := by
  decide +kernel

/-- An ARM that waits for the engine; the barrier that is the cut, of a job that is armed; a ring that it holds (R106, R556). -/
theorem witness_CheckpointArming_cut :
    (let w := ckTest 2 [(F.CKP_STAT_STATE, 0, 5)] { waits := [job0 (some 0)] };
    w.ckp.waits.find? (fun j => decide (j.slot = some 0)) == some (job0 (some 0)) && !w.ckIdle && !w.warned && ({ w with ckp := { w.ckp with waits := [] } } : State).ckp.waits.isEmpty &&
    (let stepped : Ring := { barrierClause 1 with held := (barrierClause 1).held.map (fun h => { h with words := [w0 0 0 0 7 2, BitVec.ofNat 64 (63 + 256 + 2 ^ 16), 8] }) };
      let s := (ckTest 2 [(F.CKP_STAT_STATE, 0, 1)] { job := some { job0 none with bytes := 0 } }).setRing 5 stepped;
      !s.ckHolds 5 && (s.heldAt 5 7 2).any (fun h => !h.mis && !barrierBad h && barrierN h == 1) && s.barrierReady 0 63 == [5] && s.cutsHere 0 [5]) &&
    (let s := ckTest 2 [(F.CKP_STAT_STATE, 0, 2)] { job := some { job0 none with bytes := 0, rings := [5] } };
      s.ckHolds 5 && s.ckJoin.maintRuns .checkpoint 0 && !({ s with mem := { s.mem with maint := [⟨.tenancy, 0, true⟩] } } : State).ckJoin.maintRuns .checkpoint 0)) = true := by
  decide +kernel

/-- An ARM by a function other than the engine's completes BAD_CLAUSE; one with the buddy down, PEER_UNREACHABLE (R545, R554). -/
theorem test_arm_fn : ends (exec (.arm 0 {}) (ckTest 2 [(F.CKP_CTL_FUNC, 0, 1)] {})) (fun t => (t.slot? 0).map (fun y => y.phase) == some (.done 0x10 0)) = true := by
  decide +kernel
theorem test_arm_down : ends (exec (.arm 0 {}) (ckTest 3 [] {})) (fun t => (t.slot? 0).map (fun y => y.phase) == some (.done 0x400 0)) = true := by decide +kernel

/-- A message of the checkpoint engine on queue pair 5, which is also the partner lane. -/
def msgTest (st : Nat) (c : Ckpt) (m : CkMsg) : State :=
  ckTest 2 [(F.CKP_PARTNER_EN.at 0, 0, 1), (F.CKP_PARTNER_QP.at 0, 0, 5), (F.CKP_STAT_STATE, 0, st)] { c with inbox := [(5, m)] }
def gets (s : State) : Bool := (s.ckp.inbox.head?).any (fun m => m.1 == 5) && s.domain 27 == .ready
def recv0 : CkRecv := ⟨0, 64, 1, [0], false, 0⟩
theorem witness_CheckpointTransfer :
    (let o := msgTest 0 {} (.openReq 1 2 64 1 []);
    gets o && decide (o.buddySize ≠ 0 ∧ 0x1000 + 64 ≤ o.buddySize / 2 ∧ o.buddySize / 2 < 0x1000 + 2 ^ 30) && o.flag (F.CKP_PARTNER_EN.at 0) 0 && (ckTest 2 [(F.MEM_BUDDY_STAT_APPLIED_GIB, 0, 0)] {}).buddySize == 0 &&
    o.ckChoose == some 0 && o.ckJoin.maintRuns .checkpoint 0 && o.ckJoin.checkRange o.buddyFn true true (o.ckSlotBase 0) (0x1000 + 64) == .ok () &&
    (let w : State := { o with mem := { o.mem with maint := [⟨.tenancy, 0, true⟩] } }; !w.ckJoin.maintRuns .checkpoint 0) &&
    ({ o with ckp := { serving := some (0, 5) } } : State).ckChoose == none &&
    (ckSlots 2 2).ckSlotState 0 == 2 && (ckSlots 2 1).ckSlotState 1 != 2 && (ckSlots 1 1).ckSlotState 0 != 2 && !(ckSlots 2 2).ckReading 0 && (ckSlots 2 2).ckSlotState 1 == 2 &&
    [2, 3].all (fun st => gets (msgTest st { job := some (job0 none) } (.accept 0)) && gets (msgTest st { job := some (job0 none) } (.refuse 2))) && (job0 none).bytes != 0 &&
    (let d := msgTest 0 { recv := some recv0 } (.data 0 0 [1, 2]); gets d && d.ckPartner 5 && d.checkRange d.buddyFn true true (d.ckSlotBase 0 + 0x1000) 2 == .ok ()) &&
    gets (msgTest 5 { restore := some { slot := 0, since := 0, header := some (header0 2 5) } } (.data 0 0 [1])) &&
    (let h := msgTest 5 { restore := some { slot := 0, since := 0 } } (.header (List.replicate 4096 0)); gets h && h.ckAccess true (ckRegions (List.replicate 4096 0)) == .ok ()) &&
    [[crcFinal crc64 0], []].all (fun l => gets (msgTest 0 { recv := some recv0 } (.seal l)) && ((recv0.crcs.map (crcFinal crc64) == l) == !l.isEmpty)) &&
    [0, 1].all (fun c => [none, some 0].all (fun n => gets (msgTest 4 { job := some (job0 n) } (.sealed c)))) &&
    [0, 1].all (fun e => [none, some recv0].all (fun r => let b := ckTest 2 [(F.MEM_BUDDY_CTL_APPLY, 0, e)] { recv := r };
      (b.flag F.MEM_BUDDY_CTL_APPLY 0 == (e == 1)) && (b.ckp.transfers == r.isSome)))) = true := by decide +kernel

/-- The slot's memory off; a piece to memory that is held, and to one that is not; a copy that lost a piece; regions that fail. -/
theorem witness_CheckpointTransfer_checks :
    (let off := set [(F.MEM_BUDDY_STAT_BASE, 0, 2 ^ 42)] (msgTest 0 {} (.openReq 1 2 64 1 []));
    off.ckJoin.checkRange off.buddyFn true true (off.ckSlotBase 0) (0x1000 + 64) != .ok () && off.ckChoose == some 0 &&
    (let d := msgTest 0 { recv := some recv0 } (.data 0 0 [1, 2]); !d.rangeHeld (d.ckSlotBase 0 + 0x1000) 2 && !d.rangeHeld (d.ckSlotBase 0) 128) &&
    !recv0.bad && ({ recv0 with bad := true } : CkRecv).bad &&
    (let h := msgTest 5 { restore := some { slot := 0, since := 0 } } (.header []); h.ckAccess true [⟨0x040000000000, 64, 0, 0⟩] == .fail St.ADDRESS_UNMAPPED)) = true := by
  decide +kernel

/-- A SEALED that reports a failure ends the checkpoint with CKPT_CORRUPT; one that reports success, with its step (R563). -/
theorem test_sealed : ends (exec (.sealed {}) (msgTest 4 { job := some (job0 (some 0)) } (.sealed 0))) (fun t =>
    (t.slot? 0).map (fun y => y.phase) == some (.done 0 2) && t.fld F.CKP_CNT_SEALED_CNT 0 == 1 && t.fld F.CKP_STAT_STATE 0 == 0) = true := by decide +kernel
theorem test_refuse : ends (exec .refuse (msgTest 2 { job := some (job0 (some 0)) } (.refuse 2))) (fun t =>
    (t.slot? 0).map (fun y => y.phase) == some (.done 0x601 0)) = true := by decide +kernel

/-- RESTORE and EXPORT clauses on the same platform; a copy of nothing. -/
def ckClause (op : Nat) (ws : List Word) (c : Ckpt) (fields : List (Fld × Nat × Nat)) : State :=
  (ckTest 2 fields c).setSlot 0 (clauseSlot 6 op (ws ++ List.replicate (7 - ws.length) 0))
def empty0 : List Byte := List.replicate 4096 0
theorem witness_CheckpointRestore :
    (let r := ckClause 1 [0] {} [];
    (r.clauseAt 0 6 1).any (fun x => x.fn == r.buddyFn && decide (wordAt x.words 1 < 3) && zeroFrom x.words 4) && ((ckClause 1 [3] {} []).clauseAt 0 6 1).any (fun x => wordAt x.words 1 == 3) &&
    r.ckp.restore == none && r.lanesFail == none && r.ckIdle && !(ckClause 1 [0] {} [(F.CKP_STAT_STATE, 0, 3)]).ckIdle && r.ckJoin.maintRuns .checkpoint 0 &&
    (let f := msgTest 0 {} (.fetch 0 0 0); gets f && f.ckSelect 0 (f.qpSerial 5) 0 == none && f.ckp.serving == none) &&
    (ckSlots 2 2).ckSelect 0 7 2 == some 0 && (ckSlots 1 2).ckSelect 0 7 0 == some 1 && (ckSlots 2 2).ckSelect 2 7 0 == some 1 &&
    (let k := { ckSlots 2 1 with ckp := { inbox := [(5, .fetch 0 7 0)] } };
      gets k && k.checkRange k.buddyFn false true (k.ckSlotBase 0) 0x1000 == .ok () && (List.range 8).all (fun i => !k.flag (F.CKP_PARTNER_EN.at i) 0) &&
      (ckTest 2 [(F.MEM_BUDDY_STAT_BASE, 0, 2 ^ 42)] {}).checkRange 0 false true (2 ^ 42) 0x1000 != .ok ()) &&
    (let d := msgTest 5 { restore := some { slot := 0, since := 0 } } (.done 0x600); gets d) &&
    (let d := msgTest 5 { restore := some { slot := 0, since := 0, header := some empty0 } } (.done 0);
      gets d && ckCrcsOk empty0 (ckAssemble (leAt empty0 0x20 8) []) && !ckCrcsOk (List.replicate 0x30 0 ++ [1] ++ List.replicate 15 0 ++ [1]) (ckAssemble 0 []) &&
      (match (d.ckWriteBack {} (ckAssemble 0 []) (ckRegions empty0)).2 with
        | .ok _ => true
        | _ => false)) &&
    (let e := ckClause 2 [1, 0x080000030000, 8192] {} [];
      (e.clauseAt 0 6 2).any (fun x => x.fn == e.buddyFn && wordAt x.words 1 == 1 && zeroFrom x.words 4) && e.ckp.exporting == none && e.checkClause 0 true 0x080000030000 8192 == .ok () &&
      e.maintRuns .checkpoint 0 && (ckClause 2 [1] { exporting := some (0, 1) } []).ckp.exporting == some (0, 1)) &&
    (ckSlots 1 1).ckSlotState 0 != 2) = true := by decide +kernel

/-- RESTORE and EXPORT with the checkpoint domain off, admitted before, and with a failed check. -/
theorem witness_CheckpointRestore_checks :
    ([1, 2].all (fun op => let s := ckClause op [0, 0x080000030000, 8192] {} [(F.FUM_PD_STAT_ON, 0, 2 ^ 27 - 1)];
      s.domain 27 == .off && (s.clauseAt 0 6 op).any (fun x => x.progress == none)) &&
    (let e := ckClause 2 [1, 0x080000030000, 8192] {} [];
      e.ckExportCheck 0 1 0x080000030000 8192 == .ok () && e.ckExportCheck 0 1 0x040000000000 8192 == .fail St.ADDRESS_UNMAPPED && e.buddySize != 0 && e.ckIdle &&
      !(ckClause 2 [1, 0x080000030000, 8192] {} [(F.CKP_STAT_STATE, 0, 3)]).ckIdle && e.ckJoin.maintRuns .checkpoint 0 &&
      !({ e with mem := { e.mem with maint := [⟨.tenancy, 0, true⟩] } } : State).ckJoin.maintRuns .checkpoint 0 &&
      (e.setSlot 0 { clauseSlot 6 2 (1 :: List.replicate 6 0) with progress := some 0 }).clauseAt 0 6 2 != none) &&
    (let k := { ckSlots 2 1 with ckp := { inbox := [(5, .fetch 0 7 0)] } }; k.checkRange k.buddyFn false true (k.ckSlotBase 0) (k.ckSlotLen 0) == .ok ())) = true := by
  decide +kernel

/-- An EXPORT of a slot that is not valid completes CKPT_NO_BUDDY with cause 3; a RESTORE waits for the holder (R567, R568). -/
theorem test_export_empty : ends (exec (.exportClause 0 {}) (ckClause 2 [1, 0x080000030000, 8192] { exporting := some (0, 1) } [])) (fun t =>
    (t.slot? 0).map (fun y => y.phase) == some (.done 0x600 (BitVec.ofNat 64 (3 * 2 ^ 56))) && t.ckp.exporting == none) = true := by decide +kernel
theorem test_restore : ends (exec (.restore 0) (ckClause 1 [0] {} [])) (fun t =>
    t.fld F.CKP_STAT_STATE 0 == 5 && t.ckp.restore.any (fun r => r.slot == 0)) = true := by decide +kernel

/-! Boot, resets, management events. No witness can show an image that passes its checks: the outcome of the decryption is a
constant of Config with no body. -/

/-- The platform with parts of the management block changed. -/
def withFum (f : Fumarole → Fumarole) (s : State) : State := { s with fum := f s.fum }
def stage (n : Nat) : State := set [(F.FUM_BOOT_STAT_STAGE, 0, n)] up
theorem witness_PowerOnAndImages :
    (let r := withFum (fun f => { f with records := { f.records with preferred := 1 } }) up;
    [(false, false), (true, false), (true, true)].all (fun z => let s := withFum (fun f => { f with records := { f.records with trial := z.1, tried := z.2 } }) r;
      s.fum.records.trial == z.1 && s.fum.records.tried == z.2) &&
    (let s := { up with snt := { up.snt with stored := [⟨3, .fault, 0, 0, 0, 0, [], 0, false, 0⟩] } }; (s.snt.stored.getLast?).any (fun r => r.index == 3)) &&
    (withFum (fun f => { f with flash := {} }) r).fwCheck 1 == none && (withFum (fun f => { f with flash := {} }) r).fwCheck 0 == none) = true := by decide +kernel

/-- A record set whose write ends after the fall of the rail, beside one on flash; a torn one found at power-on (R606). -/
theorem witness_PowerOnAndImages_torn :
    (let r := fun i d => (⟨i, .fault, 0, 0, 0, 0, [], 0, false, d⟩ : RecordSet);
    let s := { up with snt := { up.snt with stored := [r 3 0, r 4 1000000000001] } };
    (s.snt.stored.filter (fun r => decide (r.doneAt ≤ s.tb.time))).getLast? == some (r 3 0) &&
    s.snt.stored.find? (fun r => decide (s.tb.time < r.doneAt)) == some (r 4 1000000000001) && s.powerLost.snt.torn == some 4 && up.powerLost.snt.torn == none) = true := by
  decide +kernel

/-- The always-on rail falls: the timebase stops, the host's memory stays (R47, R590). -/
theorem test_power_loss : ends (exec .powerLoss up) (fun t => !t.fum.powered && t.tb.time == 0 && !t.tb.running && t.fld F.FUM_PD_STAT_ON 0 == F.FUM_PD_STAT_ON.resetAt 0) = true := by
  decide +kernel

theorem witness_ResetOfTheBlocks :
    (let a := withFum (fun f => { f with perst := true, perstPin := true, perstSince := 998000000000 }) up;
    up.fum.powered && !up.fum.perst && a.fum.perst && !a.fum.coreFell && !a.tb.thermtrip && (withFum (fun f => { f with coreFell := true }) a).fum.coreFell &&
    !a.flag F.FUM_RST_STAT_PERST_HELD 0 && decide (998000000000 + 1000000000 ≤ a.tb.time ∧ a.tb.time < 999999999999 + 1000000000) &&
    islandReg F.FUM_RST_STAT_LAST.off && !islandReg F.SCH_CTL_REFILL_NS.off && decide (F.SCH_CTL_REFILL_NS.lo < 64) &&
    !([F.SEC_STAT_EPOCH.key 0, F.SEC_STAT_OWNED.key 0].contains (F.SCH_CTL_REFILL_NS.key 0)) &&
    (stage 3).fld F.FUM_BOOT_STAT_STAGE 0 == 3 && (stage 3).fum.corePg && (List.range 8).all (fun d => !(stage 3).fuseHeld (21 + d)) &&
    (let c := withFum (fun f => { f with corePg := false }) a; c.fum.powered && !c.fum.corePg && c.fum.perst && c.fum.perstPin) &&
    (stage 4).fld F.FUM_BOOT_STAT_STAGE 0 == 4 && up.fum.corePg) = true := by decide +kernel

theorem witness_ResetOfTheBlocks_memory :
    ((List.range 8).all (fun i => !Tbl.has (stage 4).fum.waking (10 + i)) && (sinterFlush up).snt.notices == []) = true := by decide +kernel

/-- PERST# is counted and ends with training; 119 °C is no thermal trip (R62, R585, R592). -/
theorem test_perst : ends (exec .perstAssert up) (fun t => t.fum.perst && t.fld F.FUM_RST_STAT_PERST_CNT 0 == 1 && t.fld F.FUM_BOOT_STAT_STAGE 0 == 3) = true := by
  decide +kernel
theorem test_thermtrip : ends (exec (.thermtrip 119) up) (fun t => !t.tb.thermtrip) = true := by decide +kernel

/-- The watchdog's time is over with eight restarts in ten minutes, and with one; the sensor bus. -/
def wdTest (restarts : List Nat) : State := withFum (fun f => { f with restarts := restarts, flash := {} }) up
theorem witness_ManagementEvents :
    (up.fum.powered && decide (up.snt.next ≤ 4096) && (set [(F.FUM_WDT_CTL_KICK, 0, 1)] up).flag F.FUM_WDT_CTL_KICK 0 &&
    (let s := wdTest (List.replicate 7 999999999999);
      s.fwUp && decide (s.fum.lastKick + s.fld F.FUM_WDT_CTL_TIMEOUT_MS 0 * 1000000 ≤ s.tb.time) &&
      ((s.tb.time :: s.fum.restarts).filter (fun t => decide (s.tb.time < t + 600000000000))).length == 8 &&
      (([1000000000000, 399999999999] : List Nat).filter (fun t => decide ((1000000000000 : Nat) < t + 600000000000))).length == 1 &&
      decide (s.tb.time < 1000000000000 + s.fld F.FUM_WDT_CTL_TIMEOUT_MS 0 * 1000000)) &&
    (let s := wdTest [];
      let s1 := (sinterEvent 0x300 0 s).inc F.FUM_RST_STAT_WDT_CNT 0;
      let s2 := ({ s1 with fum := { s1.fum with restarts := [s.tb.time], lastKick := s.tb.time } } : State).failRunning;
      s2.fwCheck (s2.fld F.FUM_BOOT_STAT_RUNNING 0) == none) &&
    ({ up with mcores := (List.range 4).map (fun k => (k, { ({} : Core) with run := .running })) } : State).mcores.all (fun c => decide (c.2.run ≠ .stopped)) &&
    !up.flag F.FUM_SMB_STAT_SENSOR_FAILED 0 && up.fum.sdaLow == none && (withFum (fun f => { f with sdaLow := some 999750000000 }) up).fum.sdaLow == some 999750000000 &&
    decide (999750000000 + 250000000 ≤ up.tb.time ∧ up.tb.time < 999750000001 + 250000000) &&
    (set [(F.FUM_SMB_STAT_SENSOR_FAILED, 0, 1)] up).flag F.FUM_SMB_STAT_SENSOR_FAILED 0 && decide (up.fum.lastRetry + 10000000000 ≤ up.tb.time) &&
    up.fum.corePg && decide (up.tb.lastVcb + 10000 ≤ up.tb.time ∧ up.tb.time < 999999990001 + 10000) && !up.tb.emergency && bit 1 0) = true := by decide +kernel

/-- A sideband never found low, one held for 35 ms, and one held for less. -/
theorem witness_ManagementEvents_since :
    (let low (t : Nat) := withFum (fun f => { f with smbLow := some t }) up
    up.fum.powered && up.fum.smbLow == none && (low 999965000000).fum.smbLow == some 999965000000 && (low 999965000000).fum.powered &&
    decide (999965000000 + 35000000 ≤ up.tb.time ∧ up.tb.time < 999965000001 + 35000000)) = true := by decide +kernel

/-- A stuck sensor bus that recovers is counted; the eighth watchdog restart halts firmware (R591, R596). -/
theorem test_sensor_stuck : ends (exec (.sensorBusStuck true) up) (fun t => t.fld F.FUM_SMB_STAT_RECOVER_CNT 0 == 1 && t.fum.sdaLow == none) = true := by decide +kernel
theorem test_watchdog : ends (exec .watchdog (wdTest (List.replicate 7 999999999999))) (fun t => t.fld F.FUM_BOOT_STAT_STAGE 0 == 7 && t.fld F.FUM_RST_STAT_WDT_CNT 0 == 1) = true := by
  decide +kernel

/-! Fuses, CRC units, power domains. -/

def sense (n l h : Nat) : FuseSense := ⟨30, 0, n, l, h⟩
def crcUnit (fields : List (Fld × Nat × Nat)) : State := set ([(F.CKP_CRC_TX_UNIT, 0, 0), (F.CKP_CRC_RX_UNIT, 0, 1), (F.SNT_CRC_CFG_EN, 15, 1), (F.SNT_CRC_CFG_WIDTH, 15, 32), (F.SNT_CRC_POLY_POLY, 15, 0x04C11DB7)] ++ fields) up
theorem witness_FusesAndCrcUnits :
    (({ up with mem := { up.mem with maint := [⟨.fuseRead, 0, true⟩] } } : State).maintRuns .fuseRead 0 && !up.maintRuns .fuseRead 0 &&
    !fuseDoubtful (sense 5 5 5) && fuseDoubtful (sense 5 5 7) && (sense 5 5 5).normal == (sense 5 5 7).normal &&
    (fuseResolve (sense 5 5 7) (sense 6 6 7)).value == none && (set [(F.FUM_FUSE_HELD_HELD, 0, 2 ^ 19)] up).fuseHeld 19 && !up.fuseHeld 19 && fuseSecret 15 && !fuseSecret 16 &&
    (let c := crcUnit [(F.SNT_CRC_CFG_LOAD, 15, 1)];
      c.flag F.SNT_CRC_CFG_LOAD 15 && c.crcHost 15 && !up.flag F.SNT_CRC_CFG_LOAD 15 &&
      c.crcTaps 0 0 15 && !up.crcTaps 0 0 15 && !(set [(F.CKP_CRC_TX_UNIT, 0, 15)] c).crcHost 15 && decide ((c.crcModel 15).width = 32))) = true := by decide +kernel

theorem test_crc_load : ends (exec (.crcLoad 15) (crcUnit [(F.SNT_CRC_CFG_LOAD, 15, 1), (F.SNT_CRC_INIT_INIT, 15, 0xFFFFFFFF)])) (fun t =>
    t.fld F.SNT_CRC_VALUE_VALUE 15 == 0xFFFFFFFF && !t.flag F.SNT_CRC_CFG_LOAD 15) = true := by decide +kernel

theorem witness_PowerDomains :
    (isVf (.vf 1) && !isVf .pf && bit (set [(F.FUM_PD_REQ_ON, 0, 2 ^ 28)] up |>.fld F.FUM_PD_REQ_ON 0) 28 && (domClosure 27).contains 25 &&
    (set [(F.FUM_FUSE_HELD_HELD, 0, 2 ^ 28)] up).fuseHeld (21 + 7) && !up.fuseHeld 21 &&
    (let o := set [(F.FUM_PD_STAT_ON, 0, 0)] up; !bit (o.fld F.FUM_PD_STAT_ON 0) 7 && !bit (o.fld F.FUM_PD_STAT_PENDING_OFF 0) 7 && o.domain 7 == .off) &&
    (let w := withFum (fun f => { f with waking := [(20, 999999000000)] }) up;
      Tbl.find? 20 w.fum.waking == some 999999000000 && decide (999999000000 + domWakeUs 20 * 1000 ≤ w.tb.time ∨ w.tb.time < 999999000000 + domWakeUs 20 * 1000) &&
      decide (0 + domWakeUs 20 * 1000 ≤ w.tb.time ∧ w.tb.time < 1000000000000 + domWakeUs 20 * 1000) &&
      (domNeeds 20).all (fun n => w.domain n == .ready) && (domNeeds 20).any (fun n => (set [(F.FUM_PD_STAT_ON, 0, 0)] w).domain n != .ready)) &&
    (let p := set [(F.FUM_PD_STAT_PENDING_OFF, 0, 2 ^ 7)] up;
      bit (p.fld F.FUM_PD_STAT_PENDING_OFF 0) 7 && p.offWhen 7 && !p.neededOn 7 && p.neededOn 25) &&
    !up.offWhen 7 == false && F.SCH_CTL_REFILL_NS.off != 0x800000) = true := by decide +kernel

/-- A group of tiles with its repair word held does not wake; one that pends and holds no role switches off (R587, R588). -/
theorem test_switch_off : ends (exec (.domainSwitchOff 7) (set [(F.FUM_PD_STAT_PENDING_OFF, 0, 2 ^ 7)] up)) (fun t => t.domain 7 == .off && t.domain 6 == .ready) = true := by
  decide +kernel
theorem test_request : ends (exec (.domainRequest .pf 0x80) (set [(F.FUM_PD_STAT_ON, 0, 0)] up)) (fun t => t.domain 7 == .waking && t.domain 6 == .off) = true := by
  decide +kernel

/-! Critical commands. A TAG, an envelope and a device key are constants of Config with no body: the witnesses of accepted commands
are those whose checks the first claim passes. -/

/-- A message of an opcode, with the device's serial number 0, COUNTER 1 and a payload. -/
def msg0 (op counter : Nat) (pay : List Byte) : List Byte :=
  toBytes 2 op ++ [0, 0] ++ toBytes 4 pay.length ++ toBytes 8 counter ++ toBytes 8 0 ++ List.replicate 40 0 ++ pay
def critTest (op : Nat) (accepted : Bool) (step : Nat) (pay : List Byte) (l : List MaintReq) : State :=
  { up with sec := { up.sec with mbx := [⟨msg0 op 1 pay, false, accepted, step⟩] }, mem := { up.mem with maint := l } }
def critB (s : State) (op : Nat) : Bool := s.fwUp && s.domain 26 == .ready && (s.sec.mbx.head?).any (fun m => mOp m.bytes == op)

theorem witness_CriticalCommandChecks :
    ((set [(F.FUM_MBX_CTL_GO, 0, 1)] up).flag F.FUM_MBX_CTL_GO 0 && !up.flag F.FUM_MBX_CTL_GO 0 && up.sec.mbx.isEmpty &&
    mOp (msg0 8 1 []) == 8 && mOp (msg0 9 1 []) == 9 && !up.fuseHeld 16 && mSerial (msg0 1 1 []) == up.serialNo && (set [(F.FUM_FUSE_HELD_HELD, 0, 2 ^ 16)] up).fuseHeld 16 &&
    up.noCmdKey 2 && !up.noCmdKey 1 && up.fum.records.cmdKey == none && up.tagOk (msg0 1 1 []) && !up.tagOk (msg0 1 1 [] |>.set 32 1) &&
    decide (up.fum.records.counter < mCounter (msg0 1 1 []) ∧ mCounter (msg0 1 0 []) ≤ up.fum.records.counter) && up.keyLocked == false && (set [(F.SEC_STAT_LOCKED, 0, 1)] up).keyLocked &&
    up.critCheck (msg0 1 1 []) true true true == 0 && up.critCheck (msg0 1 1 []) true false true == 7 &&
    (critTest 8 true 0 [] []).sec.mbx.all (fun m => !m.sideband) &&
    (stage 2).fld F.FUM_BOOT_STAT_STAGE 0 == 2 && (stage 5).fwUp && !(stage 6).fwUp && (List.replicate 4096 (0 : Byte)).length == 4096 &&
    (let l := set [(F.FUM_PD_STAT_ON, 0, 2 ^ 26 - 1)] up; l.domain 26 != .ready && !l.sec.tenancy) && ({ up with sec := { up.sec with tenancy := true } } : State).sec.tenancy &&
    !spdmSupported (leAt [0x13, 0xFF] 1 1)) = true := by decide +kernel

/-- GO puts the buffer's command in the queue; an unknown opcode ends it; a request SPDM does not have is answered 0x07. -/
theorem test_mailbox : ends (exec .mailboxGo (set [(F.FUM_MBX_CTL_GO, 0, 1)] { up with sec := { up.sec with mbxBuf := [(0, 8)] } })) (fun t =>
    t.flag F.FUM_MBX_STAT_BUSY 0 && t.sec.mbx.map (fun m => mOp m.bytes) == [8]) = true := by decide +kernel
theorem test_spdm : ends (exec (.spdmRequest [0x13, 0xFF, 0, 0]) up) (fun t => t.sec.spdmOut == [[0x13, 0x7F, 0x07, 0]]) = true := by decide +kernel

theorem witness_CriticalCommands :
    ((List.range 8).all (fun i => critB (critTest (i + 1) false 0 (List.replicate 16 0) []) (i + 1)) &&
    (let u := critTest 2 true 1 (toBytes 6 0x800000000000 ++ [0, 0] ++ toBytes 4 4 ++ [1, 0, 0, 0]) [⟨.fwUpdate, 0, true⟩];
      critB u 2 && u.maintRuns .fwUpdate 0 && u.sec.mbx.all (fun m => u.region (leAt (mPay m.bytes) 0 6) == .host && leAt (mPay m.bytes) 12 1 == 1)) &&
    [0, 1, 2].all (fun mode => let k := critTest 3 true 1 (toBytes 2 5 ++ [BitVec.ofNat 8 mode] ++ List.replicate 241 0) [⟨.keyRotation, 0, true⟩];
      critB k 3 && k.maintRuns .keyRotation 0 && k.sec.mbx.all (fun m => leAt (mPay m.bytes) 2 1 == mode) && !k.keyLocked && !(k.keySlot 5).loaded) &&
    [1, 2, 3].all (fun op => [[], [⟨.fuseRead, 0, true⟩]].all (fun l => [false, true].all (fun acc =>
      let f := critTest 4 acc 1 ([BitVec.ofNat 8 op, 29] ++ List.replicate 14 0) l;
      critB f 4 && f.sec.mbx.all (fun m => leAt (mPay m.bytes) 0 1 == op && m.accepted == acc) && ((f.maintState .fuseRead 0 == 0) == l.isEmpty)))) &&
    [0, 1].all (fun op => [false, true].all (fun acc => let d := critTest 5 acc 1 [BitVec.ofNat 8 op, 0, 0, 0, 0, 0, 0, 0] [];
      critB d 5 && d.sec.mbx.all (fun m => leAt (mPay m.bytes) 0 1 == op) && !d.debugDisabled && d.sec.revs.isEmpty)) &&
    [0, 2].all (fun n => critB (critTest 6 false 0 ([1, BitVec.ofNat 8 n] ++ List.replicate (14 + 56 * n) 0) []) 6) &&
    [1, 2].all (fun st => let t := critTest 7 true st (List.replicate 8 0) [⟨.tenancy, 0, true⟩];
      critB t 7 && t.maintRuns .tenancy 0 && [0, 255].all (fun f => !t.flag F.HEP_FN_STAT_DRAINING f && (set [(F.HEP_FN_STAT_DRAINING, f, 1)] t).flag F.HEP_FN_STAT_DRAINING f)) &&
    (set [(F.FUM_FUSE_HELD_HELD, 0, 0)] up).rollback < 1) = true := by decide +kernel

/-- FUSE_PROGRAM, accepted, waits for the FUSE_READ activity; a key provision without a command key is refused with 0x04 (R527). -/
theorem test_no_key : ends (exec (.keyProvision true) (critTest 3 false 0 (List.replicate 244 0) [])) (fun t =>
    t.sec.mbx.isEmpty && t.fld F.FUM_MBX_STAT_RESULT 0 == 4) = true := by decide +kernel
theorem test_fuse_wait : ends (exec (.fuseProgramRollback true) (critTest 4 true 1 ([1] ++ List.replicate 15 0) [⟨.fuseRead, 0, true⟩])) (fun t =>
    t.sec.mbx.length == 1) = true := by decide +kernel

/-! Observation and register writes. -/

def exportTest (count : Nat) (l : List RecordSet) : State :=
  let s := set [(F.SNT_EXP_CMD_GO, 0, 1), (F.SNT_EXP_CMD_COUNT, 0, count), (F.SNT_EXP_ADDR_ADDR, 0, 0x800000000000 / 4096)] up
  { s with snt := { s.snt with stored := l } }
/-- The log ring at the head of the host window, which translates to host address 0 by one block entry. -/
def logTest (hw : Nat) (fields : List (Fld × Nat × Nat)) : State :=
  let s := set ([(F.SNT_LOG_CFG_EN, 0, 1), (F.SNT_LOG_IDX_HW_IDX, 0, hw), (F.SNT_TRACE_EN_EN.at 3, 0, 2 ^ 63), (F.MEM_XLT_BASE_EN, 0, 1)] ++ fields) up
  { s with snt := { s.snt with logBase := 0x800000000000, logSize := 0 }
           mem := { s.mem with host := s.mem.host.writeList 0 (toBytes 8 7) } }
def ventTest (fields : List (Fld × Nat × Nat)) : State := set ([(F.VNT_STAT_UNLOCKED, 0, 1), (F.VNT_CTL_EN, 0, 1)] ++ fields) up

theorem witness_Observation :
    (decide ((up.snt.periods + 1) * 600000000000 ≤ up.tb.time) && decide (up.snt.bufBytes + 8191 < 8192 ∧ 8192 ≤ up.snt.bufBytes + 65536) &&
    (let e := exportTest 1 [];
      e.flag F.SNT_EXP_CMD_GO 0 && e.fwUp && e.region (e.fld F.SNT_EXP_ADDR_ADDR 0 * 4096) == .host && e.fld F.SNT_EXP_CMD_COUNT 0 == 1 && (exportTest 0 []).fld F.SNT_EXP_CMD_COUNT 0 == 0 &&
      up.region 0 != .host && (match exportUnits {} 0x800000000000 0 [] e with
        | .ok (_, n, bad) => n == 0 && !bad
        | _ => false)) &&
    (let l := logTest 255 [];
      l.flag F.SNT_LOG_CFG_EN 0 && l.fwUp && bit (l.fld (F.SNT_TRACE_EN_EN.at (255 / 64)) 0) (255 % 64) && !bit (l.fld (F.SNT_TRACE_EN_EN.at 0) 0) 0 && l.region l.snt.logBase == .host &&
      decide ((255 + 2 ^ 32 - l.fld F.SNT_LOG_IDX_SW_IDX 0) % 2 ^ 32 ≠ l.logEntries ∧ (256 + 2 ^ 32 - l.fld F.SNT_LOG_IDX_SW_IDX 0) % 2 ^ 32 = l.logEntries) &&
      !(up.flag F.SNT_LOG_CFG_EN 0)) &&
    up.ddtReady && !isVf .pf && (up.writeWhole [F.SNT_LOG_CFG_SIZE, F.SNT_LOG_CFG_EN] 1).flag F.SNT_LOG_CFG_EN 0 && !(up.writeWhole [F.SNT_LOG_CFG_SIZE, F.SNT_LOG_CFG_EN] 0).flag F.SNT_LOG_CFG_EN 0 &&
    [0, 1].all (fun st => let v := ventTest [(F.VNT_CTL_STROBE, 0, st)]; v.flag F.VNT_STAT_UNLOCKED 0 && v.flag F.VNT_CTL_EN 0 && v.fld F.VNT_CTL_STROBE 0 == st &&
      decide (v.vnt.lastSample + 4 * 2 ^ v.fld F.VNT_CTL_DIV 0 ≤ v.tb.time)) &&
    !(ventTest [(F.VNT_CTL_EN, 0, 0)]).flag F.VNT_CTL_EN 0 && !up.flag F.VNT_STAT_UNLOCKED 0 && (withFum (fun f => { f with perst := true }) up).fum.perst &&
    !up.spiReserved 4095 0 && up.spiReserved 4095 (2 ^ 63)) = true := by decide +kernel

/-- A record set of this instant on flash, in the buffer, and of another instant; the permanent area that must close, and may stay open;
spares left and none; an erase that is the block's last (R604, R606, R609, R612). -/
theorem witness_Observation_sets :
    (let r := fun t => (⟨3, .fault, 0, t, 0, 0, [], 64, false, 0⟩ : RecordSet);
    let s := fun (x : Sinter) => { up with snt := x };
    (s { stored := [r 1000000000000] }).setTaken && !(s { stored := [r 999999999999] }).setTaken && !up.setTaken &&
    (s { buffer := [r 999999999999] }).snt.buffer.getLast?.all (fun x => decide (x.time ≠ 1000000000000)) &&
    ({ up.snt with used := 525 } : Sinter).circBlocks == 32 && ({ up.snt with used := 525 } : Sinter).room true 64 == none && up.snt.circBlocks != 32 &&
    decide (32 < up.snt.circBlocks) && up.snt.spares == 64 && ({ up.snt with spares := 0 } : Sinter).spares == 0 && up.snt.notices == [] &&
    Tbl.getD ({ up.snt with erases := [(7, 99999)] } : Sinter).erases 7 0 == 99999) = true := by decide +kernel

theorem test_log_full : ends (exec (.logEntryWrite 0 0 false 1 0 0 {}) (logTest 256 [])) (fun t =>
    t.fld F.SNT_LOG_STAT_DROP_CNT 0 == 1 && t.fld F.SNT_LOG_IDX_HW_IDX 0 == 256) = true := by decide +kernel
theorem test_log : ends (exec (.logEntryWrite 0 0 false 1 0 0 {}) (logTest 255 [])) (fun t =>
    t.fld F.SNT_LOG_STAT_DROP_CNT 0 == 0 && t.fld F.SNT_LOG_IDX_HW_IDX 0 == 256) = true := by decide +kernel
theorem test_vgroup_locked : ends (exec (.vgroup 3) up) (fun t => t.fld F.VNT_CTL_GROUP 0 == 0 && t.fum.jtag == [.bypass]) = true := by decide +kernel

/-- A register that the general rule covers (SCH_CTL), one of an early block, one of the island. -/
theorem witness_RegisterWrites :
    (F.SCH_CTL_REFILL_NS.kind == .ctl && (regAt F.SCH_CTL_REFILL_NS.off).isSome && decide (F.SCH_CTL_REFILL_NS.off % 8 = 0 ∧ 0xC04000 ≤ 0xC00108 + 0x4000) &&
    up.writeIgnored .pf F.SCH_CTL_REFILL_NS.off 0 == false && (set [(F.HEP_DEV_STAT_DDT_READY, 0, 0)] up).writeIgnored .pf F.SCH_CTL_REFILL_NS.off 0 &&
    decide (F.SCH_CTL_REFILL_NS.lo < 64 ∧ 0 < F.SCH_CTL_REFILL_NS.width ∧ F.SCH_CTL_REFILL_NS.lo + F.SCH_CTL_REFILL_NS.width ≤ 64) && (F.SCH_CTL_REFILL_NS.at 0).width == F.SCH_CTL_REFILL_NS.width &&
    decide (getF up.regs (F.SCH_CTL_REFILL_NS.at 0) 0 < 2 ^ F.SCH_CTL_REFILL_NS.width) && F.SCH_CTL_REFILL_NS.key 0 != F.GLB_TOD_OFFSET_OFFSET.key 0 &&
    !earlyBlock F.SCH_CTL_REFILL_NS.off && !islandReg F.SCH_CTL_REFILL_NS.off && !up.fnExists 256 && !isVf .pf && isVf (.vf 1) &&
    vfOffset 0x7FFF8 == none && 0xC03000 % 8 == 0 && !State.reset.fum.powered && up.fum.powered && !up.flag F.VNT_STAT_UNLOCKED 0) = true := by decide +kernel

/-- Inside and outside BAR0; accesses of each width; an early virtual function's window; the MSI-X table; reset and power. -/
theorem witness_RegisterWrites_window :
    (!up.outsideBar .pf F.SCH_CTL_REFILL_NS.off 8 && up.outsideBar .pf 0x1000000 8 && up.outsideBar (.vf 1) 0 8 && !(resetTest 0 []).outsideBar (.vf 1) 0xF8 8 &&
    (resetTest 0 []).outsideBar (.vf 1) 0x10000 8 && accessOk .pf 4 4 && !accessOk .pf 4 8 && !accessOk .pf 2 2 && accessOk (.core 0) 2 2 &&
    (vfOffset 0x200).any (fun o => (regAt (o / 8 * 8)).isSome) && (resetTest 0 []).fnExists 1 &&
    accessOk .pf 0x580000 8 && !up.fum.perst && vfOffset 0x7FF8 == none && decide (0x7FF8 + 8 ≤ (barSizes 1).1)) = true := by decide +kernel
/-- MSI-X: the vector's message data, written by 4 bytes (R365). -/
theorem test_msix_write : ends (exec (.registerWrite .pf (0x580000 + 16 * 1035 + 8) 4 7) up) (fun t => (t.msixEntry 0 1035).data == 7) = true := by decide +kernel

theorem test_register_write : ends (exec (.registerWrite .pf F.SCH_CTL_REFILL_NS.off 8 0x300) up) (fun t => t.fld F.SCH_CTL_REFILL_NS 0 == 0x300) = true := by decide +kernel
theorem test_register_write_off : ends (exec (.registerWrite .pf F.SCH_CTL_REFILL_NS.off 8 0x300) State.reset) (fun t => t.fld F.SCH_CTL_REFILL_NS 0 == 0x200) = true := by
  decide +kernel

/-! The block as a whole. -/

theorem witness_StepRunsTheFrontCommand : State.reset.pending = [] := rfl
/-- The front command runs and leaves the queue; the next one stays. -/
theorem test_step : ends (step { up with pending := [.mailboxGo, .kick] }) (fun t => decide (t.pending = [.kick])) = true := by decide +kernel
theorem witness_TaskoDecodeAgreesWithEncode : ({ op := .pushs, imm := 0xFFFF } : TWord).wf = true ∧ 0x6FFF < 65536 ∧
    tdecode 0x6FFF = some { op := .pushs, imm := 0xFFFF } := by decide

end Sys2Proof.Tests
end

section
/-! What a memory reads after each of its operations: a byte is a listed cell, or a free byte of the first range of
unspecified contents that covers it, or zero; every operation is followed through these two parts. -/

namespace Sys2Proof.Machine

/-! The two parts of a memory. -/

/-- The seed of the first range of unspecified contents that covers an address. -/
def seedAt (js : List Junk) (a : Nat) : Option Nat :=
  (js.find? (fun j => decide (j.lo ≤ a ∧ a < j.hi))).map Junk.seed

/-- What an address that no cell lists reads as, by the seed that covers it. -/
def unlistedByte (seed : Option Nat) (a : Nat) : Byte := seed.elim 0 (fun k => Config.freeByte k a)

theorem Memory.read_eq (m : Memory) (a : Nat) :
    m.read a = (Tbl.find? a m.cells).getD (unlistedByte (seedAt m.junk a) a) := by
  unfold Memory.read seedAt unlistedByte
  cases Tbl.find? a m.cells with
  | some b => rfl
  | none => cases m.junk.find? (fun j => decide (j.lo ≤ a ∧ a < j.hi)) <;> rfl

theorem seedAt_cons (j : Junk) (js : List Junk) (a : Nat) :
    seedAt (j :: js) a = if j.lo ≤ a ∧ a < j.hi then some j.seed else seedAt js a := by
  by_cases h : j.lo ≤ a ∧ a < j.hi <;> simp [seedAt, h]

theorem seedAt_append (js ks : List Junk) (a : Nat) : seedAt (js ++ ks) a = (seedAt js a).or (seedAt ks a) := by
  simp [seedAt, List.find?_append, Option.map_or]

/-- One range without an interval covers what it covered, outside the interval, under the same seed. -/
theorem seedAt_cut (lo hi : Nat) (j : Junk) (a : Nat) :
    seedAt (Junk.cut lo hi j) a = if (j.lo ≤ a ∧ a < j.hi) ∧ ¬ (lo ≤ a ∧ a < hi) then some j.seed else none := by
  split
  · next h =>
    obtain ⟨k, hk, hka⟩ := cut_covers h.1 h.2
    have hfound : ((Junk.cut lo hi j).find? (fun j => decide (j.lo ≤ a ∧ a < j.hi))).isSome := by
      rw [List.find?_isSome]; exact ⟨k, hk, by simpa using hka⟩
    obtain ⟨i, hfirst⟩ := Option.isSome_iff_exists.mp hfound
    obtain ⟨-, -, hseed⟩ := mem_cut (List.mem_of_find?_eq_some hfirst) (by simpa using List.find?_some hfirst)
    rw [seedAt, hfirst, Option.map_some, hseed]
  · next h =>
    rw [seedAt, Option.map_eq_none_iff, List.find?_eq_none]
    intro k hk
    simp only [decide_eq_true_eq]
    intro hka
    obtain ⟨hin, hout, -⟩ := mem_cut hk hka
    exact h ⟨hin, hout⟩

theorem seedAt_flatMap_cut (lo hi : Nat) (js : List Junk) (a : Nat) :
    seedAt (js.flatMap (Junk.cut lo hi)) a = if lo ≤ a ∧ a < hi then none else seedAt js a := by
  induction js with
  | nil => simp [seedAt]
  | cons j js ih =>
    rw [List.flatMap_cons, seedAt_append, ih, seedAt_cut, seedAt_cons]
    by_cases hcut : lo ≤ a ∧ a < hi <;> by_cases hj : j.lo ≤ a ∧ a < j.hi <;> simp [hcut, hj]

theorem Tbl.find?_put_ne {α : Type} [DecidableEq α] {k j : Nat} (h : j ≠ k) (d v : α) (t : Tbl α) :
    Tbl.find? j (Tbl.put d k v t) = Tbl.find? j t := by
  unfold Tbl.put
  split
  · exact Tbl.find?_del_ne h t
  · exact Tbl.find?_set_ne h v t

/-- A table without the keys outside `p` lists the keys in `p` as before, and no other. -/
theorem Tbl.find?_filter_key {α : Type} (p : Nat → Bool) (k : Nat) (t : Tbl α) :
    Tbl.find? k (t.filter (fun c => p c.1)) = if p k then Tbl.find? k t else none := by
  induction t with
  | nil => simp [Tbl.find?]
  | cons c t ih =>
    obtain ⟨j, v⟩ := c
    rw [List.filter_cons, Tbl.find?]
    by_cases hjk : j = k
    · subst hjk
      cases hp : p j <;> simp [Tbl.find?, ih, hp]
    · cases hp : p j <;> simp [Tbl.find?, ih, hjk]

/-! Reading after each operation. -/

theorem Memory.read_write (m : Memory) (a : Nat) (b : Byte) (x : Nat) :
    (m.write a b).read x = if x = a then b else m.read x := by
  split
  · next h => subst h; exact Memory.read_write_same x b m
  · next h =>
    have hout : ¬ (a ≤ x ∧ x < a + 1) := by omega
    rw [Memory.read_eq, Memory.read_eq]
    simp only [Memory.write, Tbl.find?_put_ne h, seedAt_flatMap_cut, if_neg hout]

theorem Memory.read_writeList (m : Memory) (a : Nat) (bs : List Byte) (x : Nat) :
    (m.writeList a bs).read x = if a ≤ x ∧ x < a + bs.length then bs.getD (x - a) 0 else m.read x := by
  induction bs generalizing a m with
  | nil => simp only [Memory.writeList, List.length_nil]; rw [if_neg (by omega)]
  | cons b bs ih =>
    rw [Memory.writeList, ih, Memory.read_write, List.length_cons]
    rcases Nat.lt_trichotomy x a with h | rfl | h
    · rw [if_neg (by omega), if_neg (by omega), if_neg (by omega)]
    · rw [if_neg (by omega), if_pos rfl, if_pos (by omega), Nat.sub_self, List.getD_cons_zero]
    · have hx : x - a = (x - (a + 1)) + 1 := by omega
      rw [hx, List.getD_cons_succ, if_neg (show ¬ x = a by omega)]
      exact if_congr (by omega) rfl rfl

/-- A table without the keys of an interval, as the spoiling and the erasing of a range leave the cells. -/
theorem Tbl.find?_filter_outside {α : Type} (lo hi x : Nat) (t : Tbl α) :
    Tbl.find? x (t.filter (fun c => !decide (lo ≤ c.1 ∧ c.1 < hi))) =
      if lo ≤ x ∧ x < hi then none else Tbl.find? x t := by
  rw [Tbl.find?_filter_key (fun k => !decide (lo ≤ k ∧ k < hi))]
  by_cases h : lo ≤ x ∧ x < hi <;> simp [h]

theorem Memory.read_spoil (m : Memory) (lo hi seed x : Nat) :
    (m.spoil lo hi seed).read x = if lo ≤ x ∧ x < hi then Config.freeByte seed x else m.read x := by
  unfold Memory.spoil
  split
  · rw [Memory.read_eq, Memory.read_eq]
    simp only [Tbl.find?_filter_outside, seedAt_cons, seedAt_flatMap_cut]
    split <;> rfl
  · rw [if_neg (by omega)]

theorem Memory.read_erase (m : Memory) (lo hi x : Nat) :
    (m.erase lo hi).read x = if lo ≤ x ∧ x < hi then 0 else m.read x := by
  unfold Memory.erase
  split
  · rw [Memory.read_eq, Memory.read_eq]
    simp only [Tbl.find?_filter_outside, seedAt_flatMap_cut]
    split <;> rfl
  · rw [if_neg (by omega)]

end Sys2Proof.Machine
end

section
/-! The check of a range (R658), and the statement about memory reads and access checks. -/

namespace Sys2Proof.Machine

/-- The order of the checks of an access that is not the checkpoint engine's. -/
theorem State.checkRange_unbuddied (s : State) (fn : Nat) (wr : Bool) (a n : Nat) :
    s.checkRange fn wr false a n =
      if ∃ p ∈ pagesOf a n, s.region p = .hole then .fail St.ADDRESS_UNMAPPED
      else if ∃ p ∈ pagesOf a n, s.region p ≠ .host ∧ (s.inBuddy p = true ∨ s.windowAllows fn wr p = false) then
        .fail St.WINDOW_VIOLATION
      else if ∃ p ∈ pagesOf a n, s.region p ≠ .host ∧ s.domainAt p = .off then .fail St.DOMAIN_OFF
      else if ∃ p ∈ pagesOf a n, s.region p ≠ .host ∧ s.pageWaits p = true then .wait
      else .ok () := by
  simp only [State.checkRange, List.any_eq_true, List.mem_filter, decide_eq_true_eq, Bool.or_eq_true, Bool.not_false,
    Bool.and_true, Bool.false_and, Bool.true_and, Bool.not_eq_true', and_assoc]

/-- Settles O21: the reads of a memory follow its cells and its ranges, and the checks of a range stand in the order of
R658. -/
theorem memoryReadsAndAccessChecks : Obligations.MemoryReadsAndAccessChecks := by
  unfold Obligations.MemoryReadsAndAccessChecks
  refine ⟨⟨Memory.read_write, Memory.read_writeList, Memory.read_spoil, Memory.read_erase⟩, ?_⟩
  intro s fn wr a n ps hole refused off waits
  rw [State.checkRange_unbuddied]
  exact ⟨fun h => if_pos h,
    fun h h1 => by rw [if_neg h, if_pos h1],
    fun h h1 h2 => by rw [if_neg h, if_neg h1, if_pos h2],
    fun h h1 h2 h3 => by rw [if_neg h, if_neg h1, if_neg h2, if_pos h3],
    fun h h1 h2 h3 => by rw [if_neg h, if_neg h1, if_neg h2, if_neg h3]⟩

end Sys2Proof.Machine
end

section
/-! What a write to a register does to its fields, by their kinds (R9, R14). -/

namespace Sys2Proof.Machine

/-! The value that a software write leaves, by kind. -/

theorem Fld.written_ctl {f : Fld} (h : f.kind = .ctl) (old v : Nat) : f.written old v = if f.valid v then v else old := by
  simp only [Fld.written, h]

theorem Fld.written_sta {f : Fld} (h : f.kind = .sta) (old v : Nat) : f.written old v = old := by
  simp only [Fld.written, h]

theorem Fld.written_evt {f : Fld} (h : f.kind = .evt) (old v : Nat) : f.written old v = old - (old &&& v) := by
  simp only [Fld.written, h]

theorem Fld.written_cnt {f : Fld} (h : f.kind = .cnt) (old v : Nat) : f.written old v = v := by
  simp only [Fld.written, h]

theorem Fld.written_ptr {f : Fld} (h : f.kind = .ptr) (old v : Nat) : f.written old v = old := by
  simp only [Fld.written, h]

theorem Fld.written_cmd_zero {f : Fld} (h : f.kind = .cmd) (old : Nat) : f.written old 0 = old := by
  simp [Fld.written, h]

/-! Bits of a number. -/

theorem field_lt_two_pow (v lo w : Nat) (h : 0 < w) : field v (lo + w - 1) lo < 2 ^ w := by
  have hw : lo + w - 1 + 1 - lo = w := by omega
  rw [field, hw]
  exact Nat.mod_lt _ (Nat.two_pow_pos w)

/-- All bits of a number of `w` bits replaced. -/
theorem setField_whole {old w v : Nat} (hw : 0 < w) (hold : old < 2 ^ w) (hv : v < 2 ^ w) :
    setField old (w - 1) 0 v = v := by
  have hbits : w - 1 + 1 - 0 = w := by omega
  simp only [setField, field, hbits, Nat.shiftRight_zero, Nat.shiftLeft_zero, Nat.mod_eq_of_lt hold, Nat.mod_eq_of_lt hv]
  omega

/-! The fields of a register, one after another. -/

theorem writeFields_cons (f : Fld) (fs : List Fld) (k inst lo n v : Nat) (r : Regs) :
    writeFields (f :: fs) k inst lo n v r = writeFields fs k inst lo n v (writeFields [f] k inst lo n v r) := rfl

theorem getF_writeFields_single_ne {f g : Fld} {k inst j : Nat} (h : (f.at k).key inst ≠ g.key j) (lo n v : Nat) (r : Regs) :
    getF (writeFields [f] k inst lo n v r) g j = getF r g j := by
  simp only [writeFields, List.foldl_cons, List.foldl_nil]
  split
  · exact getF_setF_ne h.symm _ r
  · rfl

theorem getF_writeFields_of_notMem (fs : List Fld) (k inst lo n v : Nat) (r : Regs) (g : Fld) (j : Nat)
    (h : ∀ f ∈ fs, (f.at k).key inst ≠ g.key j) : getF (writeFields fs k inst lo n v r) g j = getF r g j := by
  induction fs generalizing r with
  | nil => rfl
  | cons f fs ih =>
    rw [writeFields_cons, ih _ (fun e he => h e (List.mem_cons_of_mem f he)),
      getF_writeFields_single_ne (h f List.mem_cons_self)]

/-- A whole write of a CTL field: a valid value is stored, a reserved one leaves the field (R9). -/
theorem getF_writeFields_ctl {f : Fld} {k inst v : Nat} {r : Regs} (hkind : f.kind = .ctl) (hlo : f.lo < 64)
    (hw : 0 < f.width) (hend : f.lo + f.width ≤ 64) (hold : getF r (f.at k) inst < 2 ^ f.width) :
    getF (writeFields [f] k inst 0 64 v r) (f.at k) inst =
      if f.valid (field v (f.lo + f.width - 1) f.lo) then field v (f.lo + f.width - 1) f.lo else getF r (f.at k) inst := by
  have hnew := field_lt_two_pow v f.lo f.width hw
  have hin : f.lo < 0 + 64 ∧ 0 < f.lo + f.width := by omega
  have htop : min (0 + 64) (f.lo + f.width) = f.lo + f.width := by omega
  have hlen : f.lo + f.width - 1 - f.lo = f.width - 1 := by omega
  have hwidth : (f.at k).width = f.width := rfl
  simp only [writeFields, List.foldl_cons, List.foldl_nil, if_pos hin, htop, Nat.zero_max, Nat.sub_self, hlen, hkind,
    reduceCtorEq, false_and, if_false, setField_whole hw hold hnew, getF_setF_same, Fld.written_ctl hkind, hwidth]
  split
  · exact Nat.mod_eq_of_lt hnew
  · exact Nat.mod_eq_of_lt hold

end Sys2Proof.Machine
end

section
/-! Which writes reach a register, and which have no effect (R347 to R349, R585, R619, R652). -/

namespace Sys2Proof.Machine

/-! The power and reset state over an access: it crosses the upstream link, and Fumarole does not change. -/

@[simp] theorem State.setDomain_fum (s : State) (d : Nat) (on : Bool) : (s.setDomain d on).fum = s.fum := by
  unfold State.setDomain; extract_lets; split <;> rfl

@[simp] theorem State.leaveL1_fum (s : State) : s.leaveL1.fum = s.fum := by
  unfold State.leaveL1; extract_lets; split <;> simp only [State.setDomain_fum, State.setFld_fum]

@[simp] theorem State.touch_fum (s : State) (who : Requester) : (s.touch who).fum = s.fum := by
  cases who <;> simp only [State.touch, State.tlp, State.leaveL1_fum]

/-! Which accesses R347 admits. -/

theorem accessOk_iff (who : Requester) (off bytes : Nat) : accessOk who off bytes = true ↔
    off % bytes = 0 ∧ (bytes = 8 ∨ bytes = 4 ∨ (bytes = 2 ∧ ∃ k, who = .core k)) := by
  cases who <;> simp [accessOk] <;> tauto

theorem accessOk_le_eight {who : Requester} {off bytes : Nat} (h : accessOk who off bytes = true) : bytes ≤ 8 := by
  obtain ⟨-, h | h | ⟨h, -⟩⟩ := (accessOk_iff who off bytes).mp h <;> omega

theorem outsideBar_vf (s : State) (f off bytes : Nat) :
    s.outsideBar (.vf f) off bytes = (!s.fnExists f || decide ((barSizes f).1 < off + bytes)) := rfl

/-- The physical function exists, and BAR0 is 16 MiB. -/
theorem outsideBar_pf {s : State} {off bytes : Nat} (h : off + bytes ≤ 0x1000000) : s.outsideBar .pf off bytes = false := by
  simp only [State.outsideBar, State.fnExists, reqFn, barSizes, beq_self_eq_true, Bool.true_or, Bool.not_true, Bool.false_or,
    if_true, decide_eq_false_iff_not]
  omega

/-! What REGISTER_WRITE does, by its checks. -/

theorem exec_registerWrite_unpowered {s : State} (who : Requester) (off bytes : Nat) (v : Word)
    (hp : s.fum.powered = false) : exec (.registerWrite who off bytes v) s = .next (s.touch who) := by
  rw [exec_registerWrite, execRegisterWrite]
  simp only [State.touch_fum, hp, if_true]

theorem exec_registerWrite_outside {s : State} {who : Requester} {off bytes : Nat} (v : Word) (hp : s.fum.powered = true)
    (hb : (s.touch who).outsideBar who off bytes = true) :
    exec (.registerWrite who off bytes v) s = .next (aerReport (reqFn who % 256) 4 (s.touch who)) := by
  rw [exec_registerWrite, execRegisterWrite]
  simp only [State.touch_fum, hp, hb, Bool.true_eq_false, if_false, if_true]

theorem exec_registerWrite_refused {s : State} {who : Requester} {off bytes : Nat} (v : Word) (hp : s.fum.powered = true)
    (hb : (s.touch who).outsideBar who off bytes = false) (ha : accessOk who off bytes = false) :
    exec (.registerWrite who off bytes v) s = .next (s.touch who) := by
  rw [exec_registerWrite, execRegisterWrite]
  simp only [State.touch_fum, hp, hb, ha, Bool.true_eq_false, Bool.false_eq_true, if_false, if_true]

theorem exec_registerWrite_vf {s : State} {f off bytes : Nat} (v : Word) (hp : s.fum.powered = true)
    (hb : (s.touch (.vf f)).outsideBar (.vf f) off bytes = false) (ha : accessOk (.vf f) off bytes = true) :
    exec (.registerWrite (.vf f) off bytes v) s =
      .next (if 1 ≤ f then (s.touch (.vf f)).vfWrite f off bytes v.toNat else s.touch (.vf f)) := by
  rw [exec_registerWrite, execRegisterWrite]
  simp only [State.touch_fum, hp, hb, ha, Bool.true_eq_false, Bool.false_eq_true, if_false]

theorem exec_registerWrite_bar {s : State} {who : Requester} {off bytes : Nat} (v : Word) (hwho : ∀ f, who ≠ .vf f)
    (hp : s.fum.powered = true) (hb : (s.touch who).outsideBar who off bytes = false) (ha : accessOk who off bytes = true) :
    exec (.registerWrite who off bytes v) s = .next (((s.touch who).barWrite who off bytes v.toNat).regWritten off bytes) := by
  rw [exec_registerWrite, execRegisterWrite]
  simp only [State.touch_fum, hp, hb, ha, Bool.true_eq_false, Bool.false_eq_true, if_false]

/-! Where a write lands: the areas without registers, and the registers. -/

theorem barWrite_mailbox (s : State) (who : Requester) {off : Nat} (bytes v : Nat) (h : 0xC03000 ≤ off ∧ off < 0xC04000) :
    s.barWrite who off bytes v = s.mbxWrite (off - 0xC03000) (toBytes bytes v) := by
  rw [State.barWrite, if_pos h]

theorem barWrite_msix {s : State} (who : Requester) {off : Nat} (bytes v : Nat) (hr : s.fum.perst = false)
    (h : 0x580000 ≤ off ∧ off < 0x580000 + 1036 * 16) :
    s.barWrite who off bytes v = s.msixWrite (reqFn who) ((off - 0x580000) / 16) (8 * (off % 16)) (8 * bytes) v := by
  rw [State.barWrite, if_neg (by omega), if_neg (by omega), if_pos h, hr, if_neg Bool.false_ne_true]

theorem barWrite_register (s : State) (who : Requester) {off : Nat} (bytes v : Nat)
    (hmbx : ¬ (0xC03000 ≤ off ∧ off < 0xC04000)) (hpage : ¬ (0xF00000 ≤ off ∧ off < 0x1000000))
    (hmsix : ¬ (0x580000 ≤ off ∧ off < 0x580000 + 1036 * 16)) :
    s.barWrite who off bytes v =
      s.regPut who (off / 8 * 8) (8 * (off % 8)) (8 * bytes) ((v % 2 ^ (8 * bytes)) <<< (8 * (off % 8))) := by
  rw [State.barWrite, if_neg hmbx, if_neg hpage, if_neg hmsix]

theorem vfWrite_register (s : State) (f : Nat) {off o : Nat} (bytes v : Nat) (ho : vfOffset off = some o)
    (hpage : ¬ (0xA100 ≤ off ∧ off < 0xB000)) (hmsix : ¬ (0xE000 ≤ off ∧ off < 0xE000 + 12 * 16)) :
    s.vfWrite f off bytes v =
      (s.regPut (.vf f) (o / 8 * 8) (8 * (o % 8)) (8 * bytes) ((v % 2 ^ (8 * bytes)) <<< (8 * (o % 8)))).regWritten o bytes := by
  rw [State.vfWrite, if_neg hmsix, if_neg hpage, ho]

theorem vfWrite_nothing (s : State) (f : Nat) {off : Nat} (bytes v : Nat) (ho : vfOffset off = none)
    (hpage : ¬ (0xA100 ≤ off ∧ off < 0xB000)) (hmsix : ¬ (0xE000 ≤ off ∧ off < 0xE000 + 12 * 16)) :
    s.vfWrite f off bytes v = s := by
  rw [State.vfWrite, if_neg hmsix, if_neg hpage, ho]

theorem regPut_ignored {s : State} {who : Requester} {w k : Nat} {d : RegDef} (lo n v : Nat) (hreg : regAt w = some (d, k))
    (hi : s.writeIgnored who w (s.instOf who d.scope) = true) : s.regPut who w lo n v = s := by
  rw [State.regPut, hreg]
  exact if_pos hi

/-- A register without a rule of its own stores its fields, those of a refused group excepted. -/
theorem regPut_stored {s : State} {who : Requester} {w k : Nat} {d : RegDef} (lo n v : Nat) (hreg : regAt w = some (d, k))
    (hi : s.writeIgnored who w (s.instOf who d.scope) = false) (hown : w ∉ [0x400108, 0x100040, 0xD00310, 0xA00140])
    (hwin : ¬ (0x400200 ≤ w ∧ w < 0x400300)) (hwin' : ¬ (0x400400 ≤ w ∧ w < 0x400600)) :
    let inst := s.instOf who d.scope
    let t : State := { s with regs := writeFields d.fields k inst lo n v s.regs }
    s.regPut who w lo n v = State.afterWrite s (State.keepOld s t (s.badGroup t w inst lo n v) inst) w inst := by
  simp only [List.mem_cons, List.not_mem_nil, or_false, not_or] at hown
  obtain ⟨hxlt, hidx, hlog, hspi⟩ := hown
  rw [State.regPut, hreg]
  simp only [hi, hwin, hwin', hxlt, hidx, hlog, hspi, Bool.false_eq_true, or_self, if_false]

theorem afterWrite_plain (old s : State) {off : Nat} (inst : Nat)
    (hown : off ∉ [0x100, 0x400600, 0x400608, 0x500108, 0x500308, 0x600200, 0x700100, 0x700300, 0x800108, 0xC00200, 0xD00308])
    (hintx : ¬ (0x500400 ≤ off ∧ off < 0x500488)) : State.afterWrite old s off inst = s := by
  simp only [List.mem_cons, List.not_mem_nil, or_false, not_or] at hown
  simp only [State.afterWrite, hown, hintx, if_false]

/-! Groups that a write leaves, and writes that the K7 ignores. -/

theorem badGroup_nil_or_all (s t : State) (off inst lo n v : Nat) :
    s.badGroup t off inst lo n v = [] ∨ s.badGroup t off inst lo n v = groupAt off := by
  unfold State.badGroup
  extract_lets g
  split
  · exact .inr rfl
  · exact .inl rfl

theorem badGroup_of_groupBad (s : State) {t : State} {off inst : Nat} (lo n v : Nat) (h : t.groupBad off inst = true) :
    s.badGroup t off inst lo n v = groupAt off := by
  simp only [State.badGroup, h, Bool.true_or, if_true]

theorem writeIgnored_before_ready {s : State} {off : Nat} (who : Requester) (inst : Nat) (hr : s.ddtReady = false)
    (hb : earlyBlock off = false) : s.writeIgnored who off inst = true := by
  simp [State.writeIgnored, hr, hb]

theorem writeIgnored_in_reset {s : State} {off : Nat} (who : Requester) (inst : Nat) (hr : s.fum.perst = true)
    (hb : islandReg off = false) : s.writeIgnored who off inst = true := by
  simp [State.writeIgnored, hr, hb]

theorem writeIgnored_vent_locked {s : State} (who : Requester) (inst : Nat) (h : s.flag F.VNT_STAT_UNLOCKED 0 = false) :
    s.writeIgnored who 0xE00008 inst = true := by
  simp [State.writeIgnored, h]

end Sys2Proof.Machine
end

section
/-! The statement about register writes, from its parts. -/

namespace Sys2Proof.Machine

/-- Whether offset `off` of a requester's window is register offset `o`: no area without registers, and for a virtual function
the offset behind its set-up window. -/
def ReachesRegister (who : Requester) (off o : Nat) : Prop :=
  (∃ f, who = .vf f ∧ 1 ≤ f ∧ vfOffset off = some o ∧ ¬ (0xA100 ≤ off ∧ off < 0xB000) ∧ ¬ (0xE000 ≤ off ∧ off < 0xE0C0)) ∨
  ((∀ f, who ≠ .vf f) ∧ o = off ∧ ¬ (0xC03000 ≤ off ∧ off < 0xC04000) ∧ ¬ (0xF00000 ≤ off ∧ off < 0x1000000) ∧
    ¬ (0x580000 ≤ off ∧ off < 0x580000 + 1036 * 16))

/-- An admitted write that reaches a register, from the physical function, a core or a virtual function alike. -/
theorem exec_registerWrite_register {s : State} {who : Requester} {off o bytes : Nat} (v : Word) (hp : s.fum.powered = true)
    (hb : (s.touch who).outsideBar who off bytes = false) (ha : accessOk who off bytes = true)
    (ho : ReachesRegister who off o) :
    exec (.registerWrite who off bytes v) s = .next (((s.touch who).regPut who (o / 8 * 8) (8 * (o % 8)) (8 * bytes)
      ((v.toNat % 2 ^ (8 * bytes)) <<< (8 * (o % 8)))).regWritten o bytes) := by
  rcases ho with ⟨f, rfl, hf, hoff, hpage, hmsix⟩ | ⟨hwho, rfl, hmbx, hpage, hmsix⟩
  · rw [exec_registerWrite_vf v hp hb ha, if_pos hf, vfWrite_register _ f bytes _ hoff hpage hmsix]
  · rw [exec_registerWrite_bar v hwho hp hb ha, barWrite_register _ who bytes _ hmbx hpage hmsix]

/-- A virtual function's write to an offset with nothing behind it. -/
theorem exec_registerWrite_vf_nothing {s : State} {f off : Nat} (bytes : Nat) (v : Word) (hp : s.fum.powered = true)
    (hb : (s.touch (.vf f)).outsideBar (.vf f) off bytes = false) (ho : vfOffset off = none)
    (hpage : ¬ (0xA100 ≤ off ∧ off < 0xB000)) (hmsix : ¬ (0xE000 ≤ off ∧ off < 0xE0C0)) :
    exec (.registerWrite (.vf f) off bytes v) s = .next (s.touch (.vf f)) := by
  cases ha : accessOk (.vf f) off bytes with
  | false => exact exec_registerWrite_refused v hp hb ha
  | true => rw [exec_registerWrite_vf v hp hb ha, vfWrite_nothing _ f bytes _ ho hpage hmsix, ite_self]

theorem exec_registerWrite_msix {s : State} {off bytes : Nat} (v : Word) (hp : s.fum.powered = true)
    (hr : s.fum.perst = false) (ha : accessOk .pf off bytes = true) (h : 0x580000 ≤ off ∧ off < 0x580000 + 1036 * 16) :
    exec (.registerWrite .pf off bytes v) s = .next (((s.touch .pf).msixWrite 0 ((off - 0x580000) / 16) (8 * (off % 16))
      (8 * bytes) v.toNat).regWritten off bytes) := by
  have hlen := accessOk_le_eight ha
  rw [exec_registerWrite_bar v (by simp) hp (outsideBar_pf (by omega)) ha, barWrite_msix .pf bytes _ (by simpa using hr) h]
  rfl

theorem exec_registerWrite_mailbox {s : State} {off : Nat} (v : Word) (hp : s.fum.powered = true) (hlo : 0xC03000 ≤ off)
    (hhi : off + 8 ≤ 0xC04000) (hal : off % 8 = 0) :
    exec (.registerWrite .pf off 8 v) s =
      .next (((s.touch .pf).mbxWrite (off - 0xC03000) (toBytes 8 v.toNat)).regWritten off 8) := by
  have ha : accessOk .pf off 8 = true := (accessOk_iff .pf off 8).mpr ⟨hal, .inl rfl⟩
  rw [exec_registerWrite_bar v (by simp) hp (outsideBar_pf (by omega)) ha, barWrite_mailbox _ .pf 8 _ (by omega)]

/-- Settles O60: each clause is the lemma about that part of a write. -/
theorem registerWrites : Obligations.RegisterWrites := by
  unfold Obligations.RegisterWrites
  refine ⟨?byKind, ?noEffect, accessOk_iff, ?bar, ?register, fun old s off inst => afterWrite_plain old s inst, ?msix, ?groups,
    fun fs k inst v r g j => getF_writeFields_of_notMem fs k inst 0 64 v r g j, ?ctl,
    fun s who off inst => writeIgnored_before_ready who inst, fun s who off inst => writeIgnored_in_reset who inst,
    fun s who inst => writeIgnored_vent_locked who inst, fun s f off bytes v => exec_registerWrite_vf_nothing bytes v,
    fun s off v => exec_registerWrite_mailbox v⟩
  case byKind =>
    exact fun f old v => ⟨fun h => Fld.written_ctl h old v, fun h => Fld.written_sta h old v, fun h => Fld.written_evt h old v,
      fun h => Fld.written_cnt h old v, fun h => Fld.written_ptr h old v, fun h => Fld.written_cmd_zero h old⟩
  case noEffect =>
    exact fun s who off bytes v => ⟨exec_registerWrite_unpowered who off bytes v, exec_registerWrite_outside v,
      exec_registerWrite_refused v⟩
  case bar =>
    intro s f off bytes
    rw [outsideBar_vf]
    exact ⟨fun h => by simp [h], fun h => by simp [h]⟩
  case register =>
    intro s who off o bytes v d k s1 hp hb ha ho w hown hwin hwin' hreg inst lo x t
    rw [exec_registerWrite_register v hp hb ha ho]
    refine ⟨fun hi => ?_, fun hi => ?_⟩
    · rw [regPut_ignored _ _ _ hreg hi]
    · rw [regPut_stored _ _ _ hreg hi hown hwin hwin']
  case msix => exact fun s off bytes v hp hr ha hlo hhi => exec_registerWrite_msix v hp hr ha ⟨hlo, hhi⟩
  case groups => exact fun s t off inst lo n v => ⟨badGroup_nil_or_all s t off inst lo n v, badGroup_of_groupBad s lo n v⟩
  case ctl => exact fun f k inst v r hkind hlo hw hend _ hold => getF_writeFields_ctl hkind hlo hw hend hold

end Sys2Proof.Machine
end

section
/-! What reset leaves (R10, R47, R49, R590, R601). -/

namespace Sys2Proof.Machine

/-- Every field of the register file holds its Reset value. -/
theorem reset_fld (f : Fld) (j : Nat) : State.reset.fld f j = f.resetAt j := rfl

/-- A power domain is ready exactly where the Reset value of FUM_PD_STAT.ON has its bit: none refuses work, none wakes. -/
theorem reset_domain (d : Nat) : State.reset.domain d = if bit (F.FUM_PD_STAT_ON.resetAt 0) d then .ready else .off := by
  have hpend : bit (F.FUM_PD_STAT_PENDING_OFF.resetAt 0) d = false := by
    have h0 : F.FUM_PD_STAT_PENDING_OFF.resetAt 0 = 0 := rfl
    simp [h0, bit]
  have hwake : Tbl.has State.reset.fum.waking d = false := rfl
  simp only [State.domain, reset_fld, hpend, hwake, Bool.false_eq_true, if_false]

/-- Settles O3: every table of the state after reset is empty and reads its default, and every register field its Reset
value. -/
theorem resetState : Obligations.ResetState :=
  ⟨rfl, reset_fld, rfl, rfl, rfl, rfl, rfl, fun _ => rfl, fun _ => rfl, reset_domain⟩

end Sys2Proof.Machine
end

section
/-! What the shared updates of the state leave: commands behind a guard, register fields over a chain of updates, and the pulse of
an interrupt line. -/

namespace Sys2Proof.Machine

/-! A command with its effect under a condition. -/

theorem when_pos {c : Prop} [Decidable c] (h : c) (t s : State) : when c t s = .next t := by rw [when, if_pos h]

theorem when_neg {c : Prop} [Decidable c] (h : ¬ c) (t s : State) : when c t s = .next s := by rw [when, if_neg h]

/-! One field after an update of another. -/

theorem flag_setFld_ne {f g : Fld} {i j : Nat} (h : g.key j ≠ f.key i) (s : State) (v : Nat) :
    (s.setFld f i v).flag g j = s.flag g j := by
  rw [flag_eq, fld_setFld_ne h, flag_eq]

theorem flag_setFlag_ne {f g : Fld} {i j : Nat} (h : g.key j ≠ f.key i) (s : State) (b : Bool) :
    (s.setFlag f i b).flag g j = s.flag g j := flag_setFld_ne h s _

theorem flag_setFlag_same {f : Fld} (h : f.width = 1) (s : State) (i : Nat) (b : Bool) : (s.setFlag f i b).flag f i = b := by
  rw [flag_eq, fld_setFlag_same s f i b h]
  cases b <;> rfl

theorem fld_inc_ne {f g : Fld} {i j : Nat} (h : g.key j ≠ f.key i) (s : State) : (s.inc f i).fld g j = s.fld g j :=
  fld_setFld_ne h s _

theorem flag_inc_ne {f g : Fld} {i j : Nat} (h : g.key j ≠ f.key i) (s : State) : (s.inc f i).flag g j = s.flag g j :=
  flag_setFld_ne h s _

@[simp] theorem fld_inc_same (s : State) (f : Fld) (i : Nat) : (s.inc f i).fld f i = (s.fld f i + 1) % 2 ^ f.width := by
  rw [inc_eq, fld_setFld_same]

/-- A field reads the register file alone. -/
theorem fld_of_regs {s t : State} (h : t.regs = s.regs) (f : Fld) (i : Nat) : t.fld f i = s.fld f i := by
  rw [State.fld, State.fld, h]

theorem flag_of_regs {s t : State} (h : t.regs = s.regs) (f : Fld) (i : Nat) : t.flag f i = s.flag f i := by
  rw [State.flag, State.flag, h]

/-! Every field but those listed, over a chain of updates. -/

theorem FieldsKept.refl (s : State) (keys : List Nat) : FieldsKept s s keys := fun _ _ _ => rfl

theorem FieldsKept.setFld {s t : State} {keys : List Nat} (h : FieldsKept s t keys) {f : Fld} {i : Nat} (hf : f.key i ∈ keys)
    (v : Nat) : FieldsKept s (t.setFld f i v) keys := by
  intro g j hg
  have hne : g.key j ≠ f.key i := fun e => hg (by rw [e]; exact hf)
  rw [fld_setFld_ne hne, h g j hg]

theorem FieldsKept.setFlag {s t : State} {keys : List Nat} (h : FieldsKept s t keys) {f : Fld} {i : Nat} (hf : f.key i ∈ keys)
    (b : Bool) : FieldsKept s (t.setFlag f i b) keys := h.setFld hf _

theorem FieldsKept.inc {s t : State} {keys : List Nat} (h : FieldsKept s t keys) {f : Fld} {i : Nat} (hf : f.key i ∈ keys) :
    FieldsKept s (t.inc f i) keys := h.setFld hf _

theorem FieldsKept.of_regs {s t u : State} {keys : List Nat} (h : FieldsKept s t keys) (hu : u.regs = t.regs) :
    FieldsKept s u keys := fun g j hg => (fld_of_regs hu g j).trans (h g j hg)

/-! The pulse of an interrupt line changes the management cores alone. -/

theorem foldl_setMcore_frame (c : State → Nat → Core) (l : List Nat) (s : State) :
    l.foldl (fun t k => t.setMcore k (c t k)) s =
      { s with mcores := (l.foldl (fun t k => t.setMcore k (c t k)) s).mcores } := by
  induction l generalizing s with
  | nil => rfl
  | cons k l ih => exact ih (s.setMcore k (c s k))

theorem pulseLine_frame (s : State) (l : Nat) : s.pulseLine l = { s with mcores := (s.pulseLine l).mcores } :=
  foldl_setMcore_frame _ (List.range 4) s

@[simp] theorem pulseLine_regs (s : State) (l : Nat) : (s.pulseLine l).regs = s.regs := by rw [pulseLine_frame]
@[simp] theorem pulseLine_tb (s : State) (l : Nat) : (s.pulseLine l).tb = s.tb := by rw [pulseLine_frame]
@[simp] theorem pulseLine_fum (s : State) (l : Nat) : (s.pulseLine l).fum = s.fum := by rw [pulseLine_frame]
@[simp] theorem pulseLine_fld (s : State) (l : Nat) (f : Fld) (i : Nat) : (s.pulseLine l).fld f i = s.fld f i :=
  fld_of_regs (pulseLine_regs s l) f i
@[simp] theorem pulseLine_flag (s : State) (l : Nat) (f : Fld) (i : Nat) : (s.pulseLine l).flag f i = s.flag f i :=
  flag_of_regs (pulseLine_regs s l) f i

@[simp] theorem sinterEvent_flag (c m : Nat) (s : State) (f : Fld) (i : Nat) : (sinterEvent c m s).flag f i = s.flag f i :=
  flag_of_regs (sinterEvent_regs c m s) f i

end Sys2Proof.Machine
end

section
/-! The delivery of a dropped frame, and why the statement about network reception fails (R414, R424, R427, R434, R438). -/

namespace Sys2Proof.Machine

/-- An empty receive buffer gives the parse engines nothing. -/
theorem drainBuffer_empty {s : State} {port : Nat} (h : Tbl.getD s.net.buffer port [] = []) (n : Nat) :
    s.drainBuffer port n = s := by
  cases n with
  | zero => rfl
  | succ n => simp only [State.drainBuffer, h]

/-- A frame whose action is DROP is counted as dropped, whether or not its function has NETWORK. -/
theorem exec_reorderDeliver_drop {s : State} {port : Nat} {f : RxFrame} {rest : List RxFrame} (env : Env)
    (hq : Tbl.getD s.net.reorder port [] = f :: rest) (hk : actKind f.decision.action = 2)
    (hb : Tbl.getD s.net.buffer port [] = []) :
    exec (.reorderDeliver port env) s =
      .next (({ s with net := { s.net with reorder := Tbl.put [] port rest s.net.reorder } } : State).inc
        F.NET_FN_STAT_DROP_CNT (actFn f.decision.action)) := by
  let t := ({ s with net := { s.net with reorder := Tbl.put [] port rest s.net.reorder } } : State).inc
    F.NET_FN_STAT_DROP_CNT (actFn f.decision.action)
  have ht : Tbl.getD t.net.buffer port [] = [] := hb
  rw [exec_reorderDeliver, execReorderDeliver]
  simp only [hq, hk, if_true]
  exact congrArg _ (drainBuffer_empty ht _)

/-- A later fragment whose first fragment was dropped for function 1, as the reorder stage holds it once it is released. -/
def droppedFragment : RxFrame :=
  { port := 0, prio := 0, bytes := [], parse := {}, hash := 0, lex := none, decrypted := false, stamp := 0, time := 0
    decision := ⟨5, 2 ^ 40 + 2, 0⟩, bank := false }

/-- The reorder stage of port 0 holds that fragment alone; function 1 has no NETWORK. -/
def dropWaiting : State := { net := { reorder := [(0, [droppedFragment])] } }

/-- Refutes O43: its clause about delivery counts every frame of a function without NETWORK in NOQ_CNT, but a frame whose
action is DROP is counted in DROP_CNT before NETWORK is looked at. Such frames do reach the reorder stage: `State.recordFrag`
puts the held fragments of a dropped first fragment there. -/
theorem not_networkReceive : ¬ Obligations.NetworkReceive := by
  unfold Obligations.NetworkReceive
  rintro ⟨-, -, -, -, -, -, -, -, -, -, -, -, deliver, -, -⟩
  have hnoq := (deliver dropWaiting 0 {} droppedFragment [] rfl).1 (by decide) nofun
  have hdrop := exec_reorderDeliver_drop (s := dropWaiting) (port := 0) (f := droppedFragment) (rest := []) {} rfl
    (by decide) rfl
  have hsame := Host.Outcome.next.inj (hdrop.symm.trans hnoq)
  exact absurd (congrArg (fun t => t.fld F.NET_FN_STAT_NOQ_CNT 1) hsame) (by decide)

end Sys2Proof.Machine
end

section
/-! Power failure, the watchdog, stuck buses and the voltage-control bus (R591, R595, R596, R604, R607, R635, R637, R638). -/

namespace Sys2Proof.Machine

/-! Power failure, KICK and the watchdog. -/

theorem exec_pwrfail_powered {s : State} (hp : s.fum.powered = true) :
    exec .pwrfail s = .next ((sinterFlush (sinterTake .pwrfail 0 s.setBytes s)).postNotices.pulseLine 9) := by
  rw [exec_pwrfail, execPwrfail, when_pos hp]

theorem exec_kick_pending {s : State} (hk : s.flag F.FUM_WDT_CTL_KICK 0 = true) : Leads .kick s (fun t =>
    t.fum.lastKick = s.tb.time ∧ t.flag F.FUM_WDT_CTL_KICK 0 = false) := by
  rw [Leads, exec_kick, execKick, when_pos hk]
  exact ⟨_, rfl, rfl, flag_setFlag_same rfl s 0 false⟩

theorem exec_watchdog_quiet {s : State} (hrun : ∀ k, k < 4 → (s.mcore k).run ≠ .stopped)
    (hin : s.tb.time < s.fum.lastKick + s.fld F.FUM_WDT_CTL_TIMEOUT_MS 0 * 1000000) : exec .watchdog s = .next s := by
  rw [exec_watchdog, execWatchdog, when_neg]
  rintro ⟨-, hdue | hstop⟩
  · omega
  · obtain ⟨k, hk, hs⟩ := List.any_eq_true.mp hstop
    exact hrun k (List.mem_range.mp hk) (of_decide_eq_true hs)

/-! Stuck lines. -/

theorem exec_smbusTargetTimeout_found {s : State} (hp : s.fum.powered = true) (hlow : s.fum.smbLow = none) :
    exec .smbusTargetTimeout s = .next { s with fum := { s.fum with smbLow := some s.tb.time } } := by
  rw [exec_smbusTargetTimeout, execSmbusTargetTimeout, when_pos hp]
  simp only [hlow]

theorem exec_smbusTargetTimeout_low {s : State} (hp : s.fum.powered = true) {t : Nat} (hlow : s.fum.smbLow = some t) :
    exec .smbusTargetTimeout s =
      .next (if t + 35000000 ≤ s.tb.time then s.busMoved.inc F.FUM_SMB_STAT_TARGET_TO_CNT 0 else s) := by
  rw [exec_smbusTargetTimeout, execSmbusTargetTimeout, when_pos hp]
  simp only [hlow]

theorem exec_sensorBusStuck_found {s : State} (hf : s.flag F.FUM_SMB_STAT_SENSOR_FAILED 0 = false) (hlow : s.fum.sdaLow = none)
    (high : Bool) : exec (.sensorBusStuck high) s = .next (
      let s1 := s.inc F.FUM_SMB_STAT_RECOVER_CNT 0
      if high then s1 else { s1 with fum := { s1.fum with sdaLow := some s.tb.time } }) := by
  rw [exec_sensorBusStuck, execSensorBusStuck, when_pos hf]
  simp only [hlow]

theorem exec_sensorBusStuck_low {s : State} (hf : s.flag F.FUM_SMB_STAT_SENSOR_FAILED 0 = false) {t0 : Nat}
    (hlow : s.fum.sdaLow = some t0) : exec (.sensorBusStuck false) s = .next (
      if t0 + 250000000 ≤ s.tb.time then
        let s1 := (s.setFlag F.FUM_SMB_STAT_SENSOR_FAILED 0 true).inc F.FUM_SMB_STAT_FAIL_CNT 0
        ((sinterEvent 0x306 0 { s1 with fum := { s1.fum with lastRetry := s.tb.time } }).pulseLine 8).dimmsHot
      else s) := by
  rw [exec_sensorBusStuck, execSensorBusStuck, when_pos hf]
  simp only [hlow, Bool.false_eq_true, if_false]

theorem exec_sensorBusRetry_due {s : State} (hf : s.flag F.FUM_SMB_STAT_SENSOR_FAILED 0 = true)
    (hdue : s.fum.lastRetry + 10000000000 ≤ s.tb.time) (high : Bool) : Leads (.sensorBusRetry high) s (fun t =>
      t.fum.lastRetry = s.tb.time ∧ t.flag F.FUM_SMB_STAT_SENSOR_FAILED 0 = !high) := by
  rw [Leads, exec_sensorBusRetry, execSensorBusRetry, when_pos ⟨hf, hdue⟩]
  refine ⟨_, rfl, ?_⟩
  cases high with
  | true =>
    rw [if_pos rfl, pulseLine_fum, pulseLine_flag]
    exact ⟨rfl, flag_setFlag_same rfl _ 0 false⟩
  | false =>
    rw [if_neg Bool.false_ne_true]
    exact ⟨rfl, (flag_inc_ne (by decide) _).trans hf⟩

/-! The voltage-control bus: each frame sends one word, and its answer changes no word sent. -/

theorem vcbAnswer_vcbSent (s : State) (rail : Nat) (a : Option Nat) : (s.vcbAnswer rail a).tb.vcbSent = s.tb.vcbSent := by
  unfold State.vcbAnswer
  cases a with
  | some w => dsimp only; split <;> simp only [sinterEvent_tb]
  | none => dsimp only; split <;> simp only [sinterEvent_tb]

theorem vcbAnswer_telemetry (s : State) (rail : Nat) {w : Nat} (hw : bit w 0 = false) :
    (s.vcbAnswer rail (some w)).tb.telemetry = ⟨s.tb.time, rail, field w 31 16, field w 15 6⟩ ::
      s.tb.telemetry.filter (fun x => decide (s.tb.time < x.time + 100000)) := by
  simp only [State.vcbAnswer, hw, Bool.false_eq_true, if_false]

/-- A valid answer ends the count of missing ones. -/
theorem vcbAnswer_missed_some (s : State) (rail w : Nat) : Tbl.getD (s.vcbAnswer rail (some w)).tb.vcbMissed rail 0 = 0 := by
  unfold State.vcbAnswer
  dsimp only
  split <;> simp only [sinterEvent_tb, Tbl.getD_put_same]

theorem vcbAnswer_missed_none (s : State) (rail : Nat) :
    Tbl.getD (s.vcbAnswer rail none).tb.vcbMissed rail 0 = Tbl.getD s.tb.vcbMissed rail 0 + 1 := by
  unfold State.vcbAnswer
  dsimp only
  split <;> simp only [sinterEvent_tb, Tbl.getD_put_same]

theorem vcbAnswer_fault (s : State) (rail : Nat) {w : Nat} (hw : bit w 0 = true) :
    Tbl.getD (s.vcbAnswer rail (some w)).tb.railAlert rail false = true := by
  simp only [State.vcbAnswer, hw, if_true, sinterEvent_tb, Tbl.getD_put_same]

/-- The word that a compute-die rail is sent. -/
def State.railFrame (s : State) (rail : Nat) : Nat × Nat × Nat :=
  if s.tb.emergency then (rail, 3, 600) else (rail, 1, s.fld (vField rail) 0)

theorem vcbRail_eq (s : State) (rail : Nat) (a : Option Nat) : s.vcbRail rail a =
    (s.vcbSend (s.railFrame rail).1 (s.railFrame rail).2.1 (s.railFrame rail).2.2).vcbAnswer rail a := by
  unfold State.vcbRail State.railFrame
  cases s.tb.emergency <;> rfl

theorem vcbRail_vcbSent (s : State) (rail : Nat) (a : Option Nat) :
    (s.vcbRail rail a).tb.vcbSent = s.railFrame rail :: s.tb.vcbSent := by
  rw [vcbRail_eq, vcbAnswer_vcbSent]
  rfl

theorem tlmRail_vcbSent (s : State) (a : Option Nat) (i : Nat) : (s.tlmRail (a, i)).tb.vcbSent = (2, 2, i) :: s.tb.vcbSent :=
  vcbAnswer_vcbSent _ _ _

theorem exec_vcbAlert_rail {s : State} {rail : Nat} (hr : rail < 2) (b : Bool) : Leads (.vcbAlert rail b) s (fun t =>
    Tbl.getD t.tb.railAlert rail false = b ∧ (b = false → t = { s with tb := { s.tb with railAlert := t.tb.railAlert } })) := by
  refine ⟨_, by rw [exec_vcbAlert, execVcbAlert, when_pos hr], ?_⟩
  cases b with
  | true => exact ⟨by simp only [if_true, sinterEvent_tb, Tbl.getD_put_same], nofun⟩
  | false => exact ⟨by simp only [Bool.false_eq_true, if_false, Tbl.getD_put_same], fun _ => rfl⟩

/-- Settles O54: each clause is the lemma about that event, case by case. -/
theorem managementEvents : Obligations.ManagementEvents := by
  unfold Obligations.ManagementEvents
  refine ⟨fun s => exec_pwrfail_powered, fun s => ⟨rfl, rfl, rfl⟩, fun s => exec_kick_pending, ?bite,
    fun s _ => exec_watchdog_quiet, ?sideband, ?sensor, fun s high hf hdue => exec_sensorBusRetry_due hf hdue high, ?frame,
    fun s rail w => vcbAnswer_telemetry s rail, fun s a i => ⟨_, tlmRail_vcbSent s a i, rfl⟩, ?sent,
    fun s rail w => ⟨vcbAnswer_missed_some _ rail w, ?missed, vcbAnswer_fault _ rail⟩, fun s rail b hr => exec_vcbAlert_rail hr b⟩
  case bite =>
    intro s hup hdue s1 times s2 recent
    have hbite : exec .watchdog s = .next (
        if 8 ≤ recent then s2.stopCores.setStage 7
        else if (s2.fwCheck (s2.fld F.FUM_BOOT_STAT_RUNNING 0)).isNone then s2.stopCores.setStage 6
        else s2.startCores s2.fum.image) := by
      rw [exec_watchdog, execWatchdog, when_pos ⟨hup, .inl hdue⟩]
    rw [hbite]
    refine ⟨fun h => by rw [if_pos h], fun h hn => ?_, fun i h hi => ?_⟩
    · rw [if_neg (Nat.not_le_of_lt h), hn, Option.isNone_none, if_pos rfl]
    · rw [if_neg (Nat.not_le_of_lt h), hi, Option.isNone_some, if_neg Bool.false_ne_true]
  case sideband =>
    intro s hp held
    refine ⟨exec_smbusTargetTimeout_found hp, fun since hlow => ⟨fun h => ?_, fun h => ?_⟩⟩
    · rw [exec_smbusTargetTimeout_low hp hlow, if_pos h]
      rfl
    · rw [exec_smbusTargetTimeout_low hp hlow, if_neg (Nat.not_le_of_lt h)]
  case sensor =>
    intro s high hf
    refine ⟨fun hnone hhigh => ?_, fun hnone hhigh => ?_, fun t0 hlow hhigh h => ?_, fun t0 hlow hhigh h => ?_⟩ <;> subst hhigh
    · rw [exec_sensorBusStuck_found hf hnone]
      rfl
    · exact ⟨_, exec_sensorBusStuck_found hf hnone false, rfl, rfl⟩
    · rw [exec_sensorBusStuck_low hf hlow, if_pos h]
    · rw [exec_sensorBusStuck_low hf hlow, if_neg (Nat.not_le_of_lt h)]
  case frame =>
    intro s a0 a1 tlm
    rw [exec_vcbFrame, execVcbFrame]
    exact ⟨fun hpg hdue => when_pos ⟨hpg, hdue⟩ _ _, fun h => when_neg (by omega) _ _⟩
  case sent =>
    refine fun s rail a => ⟨_, vcbRail_vcbSent s rail a, fun h => ?_, fun h => ?_⟩
    · rw [State.railFrame, if_pos h]
    · rw [State.railFrame, if_neg (by simp [h])]
  case missed =>
    rw [vcbRail_eq, vcbAnswer_missed_none]
    rfl

end Sys2Proof.Machine
end

section
/-! What the always-on rail leaves as it falls, what its rise does, and the choice of an image (R65, R571, R574, R584, R590,
R606). -/

namespace Sys2Proof.Machine

/-! The BOOT record and its display. -/

@[simp] theorem showBoot_fum (s : State) : s.showBoot.fum = s.fum := rfl

theorem setBootRecord_records (s : State) (p : Nat) (trial tried : Bool) :
    (s.setBootRecord p trial tried).fum.records = { s.fum.records with preferred := p, trial := trial, tried := tried } := rfl

/-! The choice of R574, by the state of the BOOT record. -/

theorem bootImage_preferred {s : State} {i : FwInfo} (ht : s.fum.records.trial = false)
    (hc : s.showBoot.fwCheck s.fum.records.preferred = some i) :
    s.bootImage = s.showBoot.startImage s.fum.records.preferred i := by
  unfold State.bootImage
  simp only [ht, Bool.false_eq_true, false_and, if_false, showBoot_fum, hc]

/-- The event of a refused preferred image, after which the other slot is checked. -/
theorem bootImage_other {s : State} {i : FwInfo} (ht : s.fum.records.trial = false)
    (hc : s.showBoot.fwCheck s.fum.records.preferred = none)
    (ho : (sinterEvent 0x301 s.fum.records.preferred s.showBoot).fwCheck (1 - s.fum.records.preferred) = some i) :
    s.bootImage = (sinterEvent 0x301 s.fum.records.preferred s.showBoot).startImage (1 - s.fum.records.preferred) i := by
  unfold State.bootImage
  simp only [ht, Bool.false_eq_true, false_and, if_false, showBoot_fum, hc, ho]

theorem bootImage_held {s : State} (ht : s.fum.records.trial = false)
    (hc : s.showBoot.fwCheck s.fum.records.preferred = none)
    (ho : (sinterEvent 0x301 s.fum.records.preferred s.showBoot).fwCheck (1 - s.fum.records.preferred) = none) :
    s.bootImage = (sinterEvent 0x301 (1 - s.fum.records.preferred)
      (sinterEvent 0x301 s.fum.records.preferred s.showBoot)).setStage 6 := by
  unfold State.bootImage
  simp only [ht, Bool.false_eq_true, false_and, if_false, showBoot_fum, hc, ho]

theorem bootImage_first_trial {s : State} {i : FwInfo} (ht : s.fum.records.trial = true) (hf : s.fum.records.tried = false)
    (hc : s.showBoot.fwCheck s.fum.records.preferred = some i) :
    s.bootImage = (s.showBoot.setBootRecord s.fum.records.preferred true true).startImage s.fum.records.preferred i := by
  unfold State.bootImage
  simp only [ht, hf, Bool.false_eq_true, and_false, if_false, if_true, showBoot_fum, hc]

/-- A trial that has been tried goes back to the other slot, which the BOOT record then prefers. -/
theorem bootImage_tried {s : State} {i : FwInfo} (ht : s.fum.records.trial = true) (hf : s.fum.records.tried = true)
    (hc : (s.setBootRecord (1 - s.fum.records.preferred) false false).fwCheck (1 - s.fum.records.preferred) = some i) :
    s.bootImage = (s.setBootRecord (1 - s.fum.records.preferred) false false).startImage (1 - s.fum.records.preferred) i := by
  unfold State.bootImage
  simp only [ht, hf, and_self, if_true, setBootRecord_records, hc, Bool.false_eq_true, if_false]

/-! An image started. -/

theorem startCores_frame (s : State) (d : Nat) : s.startCores d = { s with mcores := (s.startCores d).mcores } :=
  foldl_setMcore_frame (fun _ k => startCore k d) (List.range 4) s

theorem mcore_setMcore_ne (s : State) {j k : Nat} (h : j ≠ k) (c : Core) : (s.setMcore k c).mcore j = s.mcore j := by
  simp only [State.mcore, State.setMcore, Tbl.getD_put_ne h]

theorem startCores_mcore (s : State) (d : Nat) {c : Nat} (hc : c < 4) : (s.startCores d).mcore c = startCore c d := by
  have h : s.startCores d = (((s.setMcore 0 (startCore 0 d)).setMcore 1 (startCore 1 d)).setMcore 2 (startCore 2 d)).setMcore 3
    (startCore 3 d) := rfl
  rw [h]
  interval_cases c <;> simp only [State.mcore_setMcore_same, mcore_setMcore_ne, ne_eq, Nat.reduceEqDiff, not_false_eq_true]

theorem startImage_fum_image (s : State) (k : Nat) (i : FwInfo) : (s.startImage k i).fum.image = i.digest := by
  unfold State.startImage State.setStage
  rw [State.setFld_fum, startCores_frame]

theorem startImage_stage (s : State) (k : Nat) (i : FwInfo) : (s.startImage k i).fld F.FUM_BOOT_STAT_STAGE 0 = 3 :=
  fld_setFld_same _ _ _ _

theorem startImage_svn (s : State) (k : Nat) (i : FwInfo) :
    (s.startImage k i).fld F.FUM_BOOT_STAT_SVN 0 = i.svn % 2 ^ F.FUM_BOOT_STAT_SVN.width := by
  unfold State.startImage State.setStage
  rw [fld_setFld_ne (by decide), fld_of_regs (by rw [startCores_frame])]
  exact fld_setFld_same _ _ _ _

theorem startImage_mcore (s : State) (k : Nat) (i : FwInfo) {c : Nat} (hc : c < 4) :
    (s.startImage k i).mcore c = startCore c i.digest := startCores_mcore _ _ hc

/-! The checks of an image slot. -/

theorem fwCheck_accepts {s : State} {k : Nat} {i : FwInfo} (h : s.fwCheck k = some i) :
    (∀ w, 6 ≤ w → w < 16 → s.fuseHeld w = false) ∧ s.rollback ≤ i.svn ∧
    (Config.sha384 (slice (s.fum.flash.readList (slotBase k) 512) 0x60 96)).toNat =
      sumOf ((List.range 6).map (fun j => s.fuseValue (6 + j) <<< (64 * j))) ∧
    pkgSigned (s.fum.flash.readList (slotBase k) 512) = true := by
  unfold State.fwCheck at h
  extract_lets head n rot key at h
  split at h
  · cases h
  next hheld =>
  split at h
  · cases h
  split at h
  · cases h
  next hsig =>
  split at h
  · cases h
  split at h
  · cases h
  next hroll =>
  obtain rfl := Option.some.inj h
  simp only [not_or, not_not, Bool.not_eq_true', Bool.not_eq_false] at hsig
  refine ⟨fun w hlo hhi => ?_, Nat.le_of_not_lt hroll, hsig.1, hsig.2⟩
  simp only [List.any_eq_true, List.mem_range, not_exists, not_and, Bool.not_eq_true] at hheld
  have hw : 6 + (w - 6) = w := by omega
  rw [← hw]
  exact hheld (w - 6) (by omega)

/-! The rail falls and rises. -/

theorem powerLost_last {s : State} {r : RecordSet}
    (hr : (s.snt.stored.filter (fun r => decide (r.doneAt ≤ s.tb.time))).getLast? = some r) :
    s.powerLost.snt.recs = r.recs ∧
    (s.snt.stored.find? (fun r => decide (s.tb.time < r.doneAt)) = none → s.powerLost.snt.next = r.index + 1) :=
  ⟨by simp only [State.powerLost, hr], fun hc => by simp only [State.powerLost, hr, hc]⟩

theorem powerLost_cut {s : State} {r : RecordSet}
    (hr : s.snt.stored.find? (fun r => decide (s.tb.time < r.doneAt)) = some r) :
    s.powerLost.snt.next = r.index ∧ s.powerLost.snt.torn = some r.index :=
  ⟨by simp only [State.powerLost, hr], by simp only [State.powerLost, hr]⟩

/-- The island as the rail rises: PERST# asserted, the timebase at 0, the sideband address sampled. -/
def State.railRisen (s : State) (straps : Nat) : State :=
  let s1 : State := { s.powerLost with
    snt := { s.powerLost.snt with boots := s.powerLost.snt.boots + 1, torn := none }
    tb := { s.powerLost.tb with running := true, paceStart := (List.range 11).map (fun m => (m, 0)) }
    fum := { s.powerLost.fum with powered := true, perst := true, perstPin := true } }
  ((s1.setFlag F.GLB_TB_STAT_LOCKED 0 true).setFld F.FUM_SMB_STAT_TARGET_ADDR 0 (0x60 + straps % 8)).setFld
    F.FUM_MBX_CTR_LAST 0 s.fum.records.counter

/-- The event of a record set found torn. -/
def State.tornNoted (s : State) (torn : Option Nat) : State := torn.elim s (fun i => sinterEvent 0x326 (i % 2 ^ 32) s)

/-- The fuses sensed at power-on, under the tenancy epoch of the flash. -/
def State.sensedAt (s : State) (epoch tj : Nat) (noise : List FuseSense) : State :=
  ((s.setFld F.SEC_STAT_EPOCH 0 epoch).setFld F.FUM_PWR_STAT_TJ_C 0 tj).senseFuses tj noise

/-- The package power cap at the fused maximum, and an image chosen. -/
def State.cappedBoot (s : State) : State :=
  ((s.setFld F.FUM_PWR_CAP_CAP_W 0 s.fusedMaxW).setFld F.FUM_PWR_CAP_CAP_APPLIED_W 0 s.fusedMaxW).bootImage

theorem exec_powerOn_steps (s : State) (tj : Nat) (noise : List FuseSense) (straps : Nat) :
    exec (.powerOn tj noise straps) s = .next
      (((s.railRisen straps).tornNoted s.powerLost.snt.torn).sensedAt s.fum.records.epoch tj noise).cappedBoot := by
  rw [exec_powerOn, execPowerOn]
  cases htorn : s.powerLost.snt.torn with
  | none =>
    simp only [htorn]
    rfl
  | some i =>
    simp only [htorn, sinterEvent_fum]
    rfl

/-- Settles O52: each clause is the lemma about that part of a power-on, by the state of the BOOT record. -/
theorem powerOnAndImages : Obligations.PowerOnAndImages := by
  unfold Obligations.PowerOnAndImages
  refine ⟨?loss, ?on, fun s i => ⟨bootImage_preferred, bootImage_first_trial, bootImage_tried,
      fun ht hc => ⟨bootImage_other ht hc, bootImage_held ht hc⟩⟩,
    fun s k i => ⟨startImage_stage s k i, startImage_svn s k i, startImage_fum_image s k i, fun c => startImage_mcore s k i⟩,
    fun s k i => fwCheck_accepts⟩
  case loss =>
    intro s kept cut
    exact ⟨s.powerLost, rfl, rfl, rfl, rfl, rfl, rfl, rfl, rfl, rfl, rfl, rfl, rfl, fun r => powerLost_last,
      fun r => powerLost_cut, rfl, fun f j => rfl, rfl, rfl, rfl, rfl, rfl, rfl, rfl, rfl, rfl, rfl, rfl⟩
  case on =>
    intro s tj noise straps s0 s1 s2 s2' htorn s3
    have hnoted : s2' = (s.railRisen straps).tornNoted s.powerLost.snt.torn := by
      rcases htorn with ⟨hn, rfl⟩ | ⟨i, hi, rfl⟩
      · exact congrArg (State.tornNoted (s.railRisen straps)) hn.symm
      · exact congrArg (State.tornNoted (s.railRisen straps)) hi.symm
    rw [exec_powerOn_steps, ← hnoted]
    rfl

end Sys2Proof.Machine
end

section
/-! The power controller: the order of its targets, its steps, its decisions and the emergency (R59 to R63, R655). -/

namespace Sys2Proof.Machine

/-! The order of the targets (R60): each condition is met with those above it out of the way. -/

section
variable {tj limit p cap v vEff floor pace : Nat} {eff : Bool}

theorem decide60_hot (h : limit ≤ tj) : decide60 tj limit p cap v vEff floor pace eff =
    { move := .lower, limiter := 4, thermHit := true } := by
  rw [decide60, if_pos h]

theorem decide60_overCap (ht : tj < limit) (hp : cap < p) : decide60 tj limit p cap v vEff floor pace eff =
    { move := .lower, limiter := 3, capHit := true } := by
  rw [decide60, if_neg (by omega), if_pos hp]

/-- With temperature and power within their bounds, the pace floor decides next. -/
theorem decide60_slow (ht : tj < limit) (hp : p ≤ cap) (hf : floor ≠ 0) (hpace : pace < floor) :
    decide60 tj limit p cap v vEff floor pace eff =
      if 900 ≤ v then { move := .hold, limiter := 0, floorUnmet := true, vmaxHit := true }
      else if 100 * p ≤ 98 * cap ∧ tj + 2 ≤ limit then { move := .raise, limiter := 2 }
      else { move := .hold, limiter := if 98 * cap < 100 * p then 3 else 4, floorUnmet := true } := by
  rw [decide60, if_neg (by omega), if_neg (by omega), if_pos ⟨hf, hpace⟩]
  simp only [← Bool.decide_and]
  by_cases hr : 100 * p ≤ 98 * cap ∧ tj + 2 ≤ limit
  · simp only [decide_eq_true hr, if_pos hr, Bool.not_true, Bool.false_eq_true, if_false]
  · simp only [decide_eq_false hr, if_neg hr, Bool.not_false, if_true, decide_eq_true_eq]

/-- With the floor met, the efficiency target or the highest pace decides. -/
theorem decide60_fast (ht : tj < limit) (hp : p ≤ cap) (hf : floor = 0 ∨ floor ≤ pace) :
    decide60 tj limit p cap v vEff floor pace eff =
      if eff then
        if vEff < v ∧ (floor = 0 ∨ floor + 256 ≤ pace) then { move := .lower, limiter := 1 }
        else if floor ≠ 0 ∧ vEff < v then { move := .hold, limiter := 2 }
        else { move := .hold, limiter := 1 }
      else if v < 900 ∧ 100 * p ≤ 98 * cap ∧ tj + 2 ≤ limit then { move := .raise, limiter := 0 }
      else { move := .hold, limiter := if 900 ≤ v then 0 else if 98 * cap < 100 * p then 3 else 4 } := by
  rw [decide60, if_neg (by omega), if_neg (by omega), if_neg (by omega)]
  simp only [Bool.and_eq_true, decide_eq_true_eq]

/-- The temperature's event is set by its own condition alone. -/
theorem decide60_thermHit_of_lt (ht : tj < limit) : (decide60 tj limit p cap v vEff floor pace eff).thermHit = false := by
  unfold decide60
  rw [if_neg (by omega)]
  split_ifs <;> rfl

theorem decide60_capHit_of_le (h : limit ≤ tj ∨ p ≤ cap) : (decide60 tj limit p cap v vEff floor pace eff).capHit = false := by
  rcases Nat.lt_or_ge tj limit with ht | ht
  · rcases Nat.lt_or_ge pace floor with hf | hf
    · rw [decide60_slow ht (by omega) (by omega) hf]
      split_ifs <;> rfl
    · rw [decide60_fast ht (by omega) (.inr hf)]
      split_ifs <;> rfl
  · rw [decide60_hot ht]

end

/-! The steps of a rail (R59). -/

theorem railAfter_within {v : Nat} (m : RailMove) (hlo : 600 ≤ v) (hhi : v ≤ 900) :
    600 ≤ railAfter v m ∧ railAfter v m ≤ 900 ∧ v ≤ railAfter v m + 5 ∧ railAfter v m ≤ v + 5 := by
  cases m with
  | lower => unfold railAfter; dsimp only; split <;> omega
  | hold => unfold railAfter; dsimp only; omega
  | raise => unfold railAfter; dsimp only; omega

/-- A move brings a rail from anywhere to at least 600 mV, and from at most 905 mV to at most 900 mV. -/
theorem railAfter_enters (v : Nat) {m : RailMove} (hm : m ≠ .hold) :
    600 ≤ railAfter v m ∧ (v ≤ 905 → railAfter v m ≤ 900) := by
  cases m with
  | lower => unfold railAfter; dsimp only; split <;> omega
  | hold => exact absurd rfl hm
  | raise => unfold railAfter; dsimp only; omega

/-! An event of FUM_PWR_EVT raised. -/

theorem raiseIf_fld_ne {f g : Fld} {j : Nat} (h : g.key j ≠ f.key 0) (s : State) (b : Bool) :
    (s.raiseIf b f).fld g j = s.fld g j := by
  unfold State.raiseIf
  split
  · rw [pulseLine_fld, fld_setFlag_ne h]
  · rfl

theorem raiseIf_flag_ne {f g : Fld} {j : Nat} (h : g.key j ≠ f.key 0) (s : State) (b : Bool) :
    (s.raiseIf b f).flag g j = s.flag g j := by
  rw [flag_eq, raiseIf_fld_ne h, flag_eq]

theorem raiseIf_flag_same {f : Fld} (hw : f.width = 1) (s : State) {b : Bool} (hb : b = true) :
    (s.raiseIf b f).flag f 0 = true := by
  rw [State.raiseIf, if_pos hb, pulseLine_flag, flag_setFlag_same hw]

@[simp] theorem raiseIf_tb (s : State) (b : Bool) (f : Fld) : (s.raiseIf b f).tb = s.tb := by
  unfold State.raiseIf
  split
  · rw [pulseLine_tb, State.setFlag_tb]
  · rfl

theorem FieldsKept.raiseIf {s t : State} {keys : List Nat} (h : FieldsKept s t keys) {f : Fld} (hf : f.key 0 ∈ keys) (b : Bool) :
    FieldsKept s (t.raiseIf b f) keys := by
  intro g j hg
  have hne : g.key j ≠ f.key 0 := fun e => hg (by rw [e]; exact hf)
  rw [raiseIf_fld_ne hne, h g j hg]

/-! The decision for one rail. -/

theorem decide60_limiter_lt (tj limit p cap v vEff floor pace : Nat) (eff : Bool) :
    (decide60 tj limit p cap v vEff floor pace eff).limiter < 8 := by
  unfold decide60
  dsimp only
  split_ifs <;> simp

/-- The registers that a decision leaves: the rail's voltage, its limiter and the events. -/
def State.showDecision (s : State) (d mv : Nat) (x : Decision) : State :=
  (((((s.setFld (vField d) 0 mv).setFld (limField d) 0 x.limiter).raiseIf x.thermHit F.FUM_PWR_EVT_THERM_HIT).raiseIf x.capHit
    F.FUM_PWR_EVT_CAP_HIT).raiseIf x.floorUnmet F.FUM_PWR_EVT_FLOOR_UNMET).raiseIf x.vmaxHit F.FUM_PWR_EVT_VMAX_HIT

theorem showDecision_voltage (s : State) {d : Nat} (hd : d < 2) (mv : Nat) (x : Decision) :
    (s.showDecision d mv x).fld (vField d) 0 = mv % 2 ^ 10 := by
  unfold State.showDecision
  interval_cases d <;> simp (disch := decide) only [raiseIf_fld_ne, fld_setFld_ne, fld_setFld_same] <;> rfl

theorem showDecision_limiter (s : State) {d : Nat} (hd : d < 2) (mv : Nat) {x : Decision} (hx : x.limiter < 8) :
    (s.showDecision d mv x).fld (limField d) 0 = x.limiter := by
  unfold State.showDecision
  interval_cases d <;> simp (disch := decide) only [raiseIf_fld_ne, fld_setFld_same] <;> exact Nat.mod_eq_of_lt hx

theorem showDecision_events (s : State) (d mv : Nat) (x : Decision) :
    (x.thermHit = true → (s.showDecision d mv x).flag F.FUM_PWR_EVT_THERM_HIT 0 = true) ∧
    (x.capHit = true → (s.showDecision d mv x).flag F.FUM_PWR_EVT_CAP_HIT 0 = true) ∧
    (x.floorUnmet = true → (s.showDecision d mv x).flag F.FUM_PWR_EVT_FLOOR_UNMET 0 = true) ∧
    (x.vmaxHit = true → (s.showDecision d mv x).flag F.FUM_PWR_EVT_VMAX_HIT 0 = true) := by
  unfold State.showDecision
  refine ⟨fun h => ?_, fun h => ?_, fun h => ?_, fun h => raiseIf_flag_same rfl _ h⟩
  · rw [raiseIf_flag_ne (by decide), raiseIf_flag_ne (by decide), raiseIf_flag_ne (by decide), raiseIf_flag_same rfl _ h]
  · rw [raiseIf_flag_ne (by decide), raiseIf_flag_ne (by decide), raiseIf_flag_same rfl _ h]
  · rw [raiseIf_flag_ne (by decide), raiseIf_flag_same rfl _ h]

theorem ite_sinterEvent_regs (c : Prop) [Decidable c] (code m : Nat) (s : State) :
    (if c then sinterEvent code m s else s).regs = s.regs := by
  split
  · exact sinterEvent_regs code m s
  · rfl

/-- A decision with known power, a rail that may be raised, CAL not held and a pace published. -/
theorem decideRail_regs {s : State} (tj p : Nat) {d pace : Nat} (hp : s.powerUnknown d = false)
    (ha : Tbl.getD s.tb.railAlert d false = false) (hcal : bit (s.fld F.FUM_FUSE_HELD_HELD 0) 18 = false)
    (hpace : s.diePace d = some pace) :
    let x := decide60 tj (s.fld F.FUM_PWR_TGT_LIMIT_C 0) p (s.fld F.FUM_PWR_CAP_CAP_APPLIED_W 0 * 10000) (s.fld (vField d) 0)
      s.vEff (s.fld F.FUM_PWR_TGT_FLOOR 0) pace (s.flag F.FUM_PWR_TGT_EFF_EN 0)
    (s.decideRail tj p d).regs = (s.showDecision d (railAfter (s.fld (vField d) 0) x.move) x).regs := by
  intro x
  unfold State.decideRail
  simp only [hp, ha, hcal, hpace, Option.isNone_some, Option.getD_some, Bool.false_eq_true, or_self, if_false, Bool.not_false,
    Bool.and_true, and_false]
  rw [ite_sinterEvent_regs, ite_sinterEvent_regs]
  rfl

/-! The rails under the emergency. -/

/-- Both compute-die rails at 600 mV under the emergency's limiter. -/
def State.railsLowest (s : State) : State :=
  (((s.setFld F.FUM_PWR_STAT_V_CD0_MV 0 600).setFld F.FUM_PWR_STAT_V_CD1_MV 0 600).setFld
    F.FUM_PWR_STAT_LIMITER_CD0 0 5).setFld F.FUM_PWR_STAT_LIMITER_CD1 0 5

theorem railsLowest_shows (s : State) :
    s.railsLowest.fld F.FUM_PWR_STAT_V_CD0_MV 0 = 600 ∧ s.railsLowest.fld F.FUM_PWR_STAT_V_CD1_MV 0 = 600 ∧
    s.railsLowest.fld F.FUM_PWR_STAT_LIMITER_CD0 0 = 5 ∧ s.railsLowest.fld F.FUM_PWR_STAT_LIMITER_CD1 0 = 5 := by
  unfold State.railsLowest
  refine ⟨?_, ?_, ?_, ?_⟩ <;> simp (disch := decide) only [fld_setFld_ne, fld_setFld_same] <;> rfl

theorem railsLowest_kept {s t : State} {keys : List Nat} (h : FieldsKept s t keys)
    (hv0 : F.FUM_PWR_STAT_V_CD0_MV.key 0 ∈ keys) (hv1 : F.FUM_PWR_STAT_V_CD1_MV.key 0 ∈ keys)
    (hl0 : F.FUM_PWR_STAT_LIMITER_CD0.key 0 ∈ keys) (hl1 : F.FUM_PWR_STAT_LIMITER_CD1.key 0 ∈ keys) :
    FieldsKept s t.railsLowest keys :=
  (((h.setFld hv0 600).setFld hv1 600).setFld hl0 5).setFld hl1 5

/-! The emergency (R62). -/

theorem emergencyFrames_frame (s : State) :
    s.emergencyFrames = { s with tb := { s.tb with vcbSent := s.emergencyFrames.tb.vcbSent } } := by
  unfold State.emergencyFrames
  split <;> rfl

theorem emergencyFrames_vcbSent {s : State} (h : s.fum.corePg = true) :
    s.emergencyFrames.tb.vcbSent = (1, 3, 600) :: (0, 3, 600) :: s.tb.vcbSent := by
  rw [State.emergencyFrames, if_pos h]
  rfl

theorem exec_thermEmerg_hot {s : State} {tj : Nat} (ht : 110 ≤ tj) (he : s.tb.emergency = false) :
    exec (.thermEmerg tj) s = .next (sinterEvent 0x003 tj
      (((({ s with tb := { s.tb with emergency := true } } : State).emergencyFrames.railsLowest).raiseIf true
        F.FUM_PWR_EVT_THERM_EMERG).setFld F.FUM_PWR_STAT_TJ_C 0 tj)) := by
  rw [exec_thermEmerg, execThermEmerg, when_pos ⟨ht, he⟩]
  rfl

theorem exec_thermEmerg_leads {s : State} {tj : Nat} (ht : 110 ≤ tj) (he : s.tb.emergency = false) :
    Leads (.thermEmerg tj) s (fun t =>
      t.tb.emergency = true ∧ (s.fum.corePg = true → t.tb.vcbSent = (1, 3, 600) :: (0, 3, 600) :: s.tb.vcbSent) ∧
      t.fld F.FUM_PWR_STAT_V_CD0_MV 0 = 600 ∧ t.fld F.FUM_PWR_STAT_V_CD1_MV 0 = 600 ∧
      t.fld F.FUM_PWR_STAT_LIMITER_CD0 0 = 5 ∧ t.fld F.FUM_PWR_STAT_LIMITER_CD1 0 = 5 ∧
      t.flag F.FUM_PWR_EVT_THERM_EMERG 0 = true ∧ t.fld F.FUM_PWR_STAT_TJ_C 0 = tj % 256 ∧
      FieldsKept s t [F.FUM_PWR_STAT_V_CD0_MV.key 0, F.FUM_PWR_STAT_V_CD1_MV.key 0, F.FUM_PWR_STAT_LIMITER_CD0.key 0,
        F.FUM_PWR_STAT_LIMITER_CD1.key 0, F.FUM_PWR_EVT_THERM_EMERG.key 0, F.FUM_PWR_STAT_TJ_C.key 0]) := by
  refine ⟨_, exec_thermEmerg_hot ht he, ?_⟩
  generalize hu : ({ s with tb := { s.tb with emergency := true } } : State).emergencyFrames = u
  have hkept : FieldsKept s u [F.FUM_PWR_STAT_V_CD0_MV.key 0, F.FUM_PWR_STAT_V_CD1_MV.key 0, F.FUM_PWR_STAT_LIMITER_CD0.key 0,
      F.FUM_PWR_STAT_LIMITER_CD1.key 0, F.FUM_PWR_EVT_THERM_EMERG.key 0, F.FUM_PWR_STAT_TJ_C.key 0] :=
    (FieldsKept.refl s _).of_regs (by rw [← hu, emergencyFrames_frame])
  have htb : u.railsLowest.tb = u.tb := rfl
  obtain ⟨hv0, hv1, hl0, hl1⟩ := railsLowest_shows u
  simp (disch := decide) only [sinterEvent_tb, sinterEvent_fld, sinterEvent_flag, State.setFld_tb, raiseIf_tb, fld_setFld_ne,
    flag_setFld_ne, raiseIf_fld_ne, fld_setFld_same, htb]
  refine ⟨?_, fun hpg => ?_, hv0, hv1, hl0, hl1, raiseIf_flag_same rfl _ rfl, rfl, ?_⟩
  · rw [← hu, emergencyFrames_frame]
  · rw [← hu]
    exact emergencyFrames_vcbSent hpg
  · exact (((railsLowest_kept hkept (by decide) (by decide) (by decide) (by decide)).raiseIf (by decide) true).setFld
      (by decide) tj).of_regs (sinterEvent_regs _ _ _)

/-- Settles O37: each clause is the lemma about that target, step or event. -/
theorem powerController : Obligations.PowerController := by
  unfold Obligations.PowerController
  refine ⟨?targets, fun v m => railAfter_within m, fun v m => railAfter_enters v, ?decision, ?between, ?unknown, ?rail, ?cap,
    fun s tj => exec_thermEmerg_leads, ?cool⟩
  case targets =>
    intro tj limit p cap v vEff floor pace eff x raiseOk
    refine ⟨fun h => ?_, fun ht hp => ?_, fun ht hp hf hpace => ?_, fun ht hp hf => ?_, decide60_capHit_of_le,
      decide60_thermHit_of_lt⟩
    · rw [show x = _ from decide60_hot h]
      exact ⟨rfl, rfl, rfl⟩
    · rw [show x = _ from decide60_overCap ht hp]
      exact ⟨rfl, rfl, rfl⟩
    · rw [show x = _ from decide60_slow ht hp hf hpace]
      refine ⟨fun hv => ?_, fun hv hr => ?_, fun hv hr => ?_⟩
      · rw [if_pos hv]
        exact ⟨rfl, rfl, rfl, rfl⟩
      · rw [if_neg (by omega), if_neg hr]
        exact ⟨rfl, rfl⟩
      · rw [if_neg (by omega), if_pos hr]
        exact ⟨rfl, rfl⟩
    · rw [show x = _ from decide60_fast ht hp hf]
      refine ⟨by split_ifs <;> exact ⟨rfl, rfl⟩, fun he hv hf => ?_, fun he hv hf hpace => ?_, fun he hv => ?_,
        fun he hv hr => ?_, fun he hr => ?_⟩
      · rw [if_pos he, if_pos ⟨hv, hf⟩]
        exact ⟨rfl, rfl⟩
      · rw [if_pos he, if_neg (by omega), if_pos ⟨hf, hv⟩]
        exact ⟨rfl, rfl⟩
      · rw [if_pos he, if_neg (by omega), if_neg (by omega)]
        exact ⟨rfl, rfl⟩
      · rw [if_neg (by simp [he]), if_pos ⟨hv, hr⟩]
        exact ⟨rfl, rfl⟩
      · have hno : ¬ (v < 900 ∧ 100 * p ≤ 98 * cap ∧ tj + 2 ≤ limit) := fun h => hr.elim (by omega) (fun hr => hr h.2)
        rw [if_neg (by simp [he]), if_neg hno]
  case decision =>
    intro s cd io hpg hdue tj p s1
    rw [Leads, exec_powerDecision, execPowerDecision, when_pos ⟨hpg, hdue⟩]
    refine ⟨fun h => ?_, fun he hl => ?_⟩
    · have hno : ¬ (s.tb.emergency = true ∧ s.fld F.FUM_PWR_TGT_LIMIT_C 0 ≤ tj) := by
        rintro ⟨he, hl⟩
        rcases h with h | h
        · rw [he] at h
          cases h
        · omega
      exact congrArg _ (if_neg hno)
    · obtain ⟨hv0, hv1, hl0, hl1⟩ := railsLowest_shows s1
      exact ⟨s1.railsLowest, congrArg _ (if_pos ⟨he, hl⟩), hv0, hv1, hl0, hl1, he,
        railsLowest_kept (FieldsKept.refl s1 _) (by decide) (by decide) (by decide) (by decide), rfl⟩
  case between =>
    intro s cd io h
    rw [exec_powerDecision, execPowerDecision, when_neg]
    rintro ⟨hpg, hdue⟩
    rcases h with h | h
    · rw [hpg] at h
      cases h
    · omega
  case unknown =>
    intro s d h
    rw [State.powerUnknown, decide_eq_true h, Bool.true_or]
  case rail =>
    intro s tj p d hd hp ha hcal pace hpace x t
    have hregs := decideRail_regs tj p hp ha hcal hpace
    rw [fld_of_regs hregs, fld_of_regs hregs, flag_of_regs hregs, flag_of_regs hregs, flag_of_regs hregs, flag_of_regs hregs]
    exact ⟨showDecision_voltage s hd _ _, showDecision_limiter s hd _ (decide60_limiter_lt ..), showDecision_events s d _ _⟩
  case cap =>
    intro s0 who v hvf s
    rw [exec_fumPwrCapWrite, execFumPwrCapWrite, when_pos hvf]
    rfl
  case cool =>
    intro s tj h
    rw [exec_thermEmerg, execThermEmerg, when_neg (by omega)]

end Sys2Proof.Machine
end

section
/-! Pace monitors and the timebase (R43 to R45, R47, R49, R51, R53, R654). -/

namespace Sys2Proof.Machine

/-! The pace of a monitor. -/

/-- The lowest of the paces is one of them and no other lies below it (R654). -/
theorem lowestPace_least (p : Nat) (ps : List Nat) :
    lowestPace (p :: ps) ∈ p :: ps ∧ ∀ q ∈ p :: ps, lowestPace (p :: ps) ≤ q := by
  induction ps generalizing p with
  | nil => simp [lowestPace]
  | cons q ps ih =>
    obtain ⟨hmem, hle⟩ := ih (min p q)
    have hfold : lowestPace (p :: q :: ps) = lowestPace (min p q :: ps) := rfl
    have hmin : lowestPace (min p q :: ps) ≤ min p q := hle _ List.mem_cons_self
    rw [hfold]
    constructor
    · rcases List.mem_cons.mp hmem with h | h
      · rw [h]
        rcases min_choice p q with hm | hm <;> simp [hm]
      · exact List.mem_cons_of_mem _ (List.mem_cons_of_mem _ h)
    · intro r hr
      rcases List.mem_cons.mp hr with rfl | hr
      · exact hmin.trans (min_le_left _ _)
      rcases List.mem_cons.mp hr with rfl | hr
      · exact hmin.trans (min_le_right _ _)
      · exact hle r (List.mem_cons_of_mem _ hr)

/-! The keys of the fields of the monitors' registers. -/

theorem key_at_ne_of_lo {f g : Fld} (m : Nat) (hf : f.lo < 64) (hg : g.lo < 64) (h : f.lo ≠ g.lo) :
    (f.at m).key 0 ≠ (g.at m).key 0 := by
  simp only [Fld.key, Fld.at]
  omega

/-- Registers of different monitors, 8 bytes apart, share no key. -/
theorem key_at_ne_of_copy {f g : Fld} {m n : Nat} (hf : f.lo < 64) (hg : g.lo < 64) (hoff : f.off = g.off) (hsf : f.stride = 8)
    (hsg : g.stride = 8) (h : m ≠ n) : (f.at m).key 0 ≠ (g.at n).key 0 := by
  simp only [Fld.key, Fld.at, hsf, hsg]
  omega

/-! A field written only where a condition holds. -/

theorem fld_ite_setFld_ne {c : Prop} [Decidable c] {f g : Fld} {i j : Nat} (h : g.key j ≠ f.key i) (s : State) (v : Nat) :
    (if c then s.setFld f i v else s).fld g j = s.fld g j := by
  split
  · exact fld_setFld_ne h s v
  · rfl

/-- A lower value replaces the field, so that it holds the lower of the two. -/
theorem fld_lowered {f : Fld} {i v a : Nat} (hv : v < 2 ^ f.width) {s : State} (ha : s.fld f i = a) :
    (if v < a then s.setFld f i v else s).fld f i = min a v := by
  split
  · rw [fld_setFld_same, Nat.mod_eq_of_lt hv]; omega
  · rw [ha]; omega

theorem fld_raised {f : Fld} {i v a : Nat} (hv : v < 2 ^ f.width) {s : State} (ha : s.fld f i = a) :
    (if a < v then s.setFld f i v else s).fld f i = max a v := by
  split
  · rw [fld_setFld_same, Nat.mod_eq_of_lt hv]; omega
  · rw [ha]; omega

theorem FieldsKept.ite_setFld {c : Prop} [Decidable c] {s t : State} {keys : List Nat} (h : FieldsKept s t keys) {f : Fld}
    {i : Nat} (hf : f.key i ∈ keys) (v : Nat) : FieldsKept s (if c then t.setFld f i v else t) keys := by
  split
  · exact h.setFld hf v
  · exact h

/-! PACE_SAMPLE. -/

/-- The registers of monitor `mon` after a sample `v`, by its extremes as they stood. -/
def State.paceShown (s : State) (mon v least most : Nat) : State :=
  let s1 := s.setFld (F.GLB_PACE_MON_PACE.at mon) 0 v
  let s2 := if v < least then s1.setFld (F.GLB_PACE_MON_MIN.at mon) 0 v else s1
  let s3 := if most < v then s2.setFld (F.GLB_PACE_MON_MAX.at mon) 0 v else s2
  s3.inc (F.GLB_PACE_MON_SEQ.at mon) 0

theorem paceShown_frame (s : State) (mon v least most : Nat) :
    s.paceShown mon v least most = { s with regs := (s.paceShown mon v least most).regs } := by
  unfold State.paceShown
  dsimp only
  split <;> split <;> rfl

theorem paceShown_fields (s : State) (mon : Nat) {v : Nat} (hv : v < 2 ^ 16) :
    let t := s.paceShown mon v (s.fld (F.GLB_PACE_MON_MIN.at mon) 0) (s.fld (F.GLB_PACE_MON_MAX.at mon) 0)
    t.fld (F.GLB_PACE_MON_PACE.at mon) 0 = v ∧
    t.fld (F.GLB_PACE_MON_MIN.at mon) 0 = min (s.fld (F.GLB_PACE_MON_MIN.at mon) 0) v ∧
    t.fld (F.GLB_PACE_MON_MAX.at mon) 0 = max (s.fld (F.GLB_PACE_MON_MAX.at mon) 0) v ∧
    t.fld (F.GLB_PACE_MON_SEQ.at mon) 0 = (s.fld (F.GLB_PACE_MON_SEQ.at mon) 0 + 1) % 2 ^ 16 := by
  have hne {f g : Fld} (h : f.lo < 64 ∧ g.lo < 64 ∧ f.lo ≠ g.lo) : (f.at mon).key 0 ≠ (g.at mon).key 0 :=
    key_at_ne_of_lo mon h.1 h.2.1 h.2.2
  unfold State.paceShown
  refine ⟨?_, ?_, ?_, ?_⟩
  · rw [fld_inc_ne (hne (by decide)), fld_ite_setFld_ne (hne (by decide)),
      fld_ite_setFld_ne (hne (by decide)), fld_setFld_same]
    exact Nat.mod_eq_of_lt hv
  · rw [fld_inc_ne (hne (by decide)), fld_ite_setFld_ne (hne (by decide))]
    exact fld_lowered hv (fld_setFld_ne (hne (by decide)) _ _)
  · rw [fld_inc_ne (hne (by decide))]
    exact fld_raised hv ((fld_ite_setFld_ne (hne (by decide)) _ _).trans
      (fld_setFld_ne (hne (by decide)) _ _))
  · refine (fld_inc_same _ _ _).trans ?_
    rw [fld_ite_setFld_ne (hne (by decide)),
      fld_ite_setFld_ne (hne (by decide)), fld_setFld_ne (hne (by decide))]
    rfl

theorem paceShown_kept (s : State) (mon v least most : Nat) : FieldsKept s (s.paceShown mon v least most)
    [(F.GLB_PACE_MON_PACE.at mon).key 0, (F.GLB_PACE_MON_MIN.at mon).key 0, (F.GLB_PACE_MON_MAX.at mon).key 0,
      (F.GLB_PACE_MON_SEQ.at mon).key 0] :=
  ((((FieldsKept.refl s _).setFld (by simp) v).ite_setFld (by simp) v).ite_setFld (by simp) v).inc (by simp)

/-- The state whose window of monitor `mon` starts now. -/
def State.paceRestarted (s : State) (mon : Nat) : State :=
  { s with tb := { s.tb with paceStart := Tbl.set mon s.tb.time s.tb.paceStart } }

/-- A window that has ended, with the monitors enabled and out of reset, and CAL not held. -/
theorem exec_paceSample_due {s : State} {mon : Nat} {chains : List Nat} (hm : mon < 11) (hc : chains ≠ [])
    (hp : s.fum.perst = false) (hen : s.flag F.GLB_PACE_CTL_EN 0 = true)
    (hdue : Tbl.getD s.tb.paceStart mon 0 + s.paceWindow ≤ s.tb.time) (hcal : bit (s.fld F.FUM_FUSE_HELD_HELD 0) 18 = false) :
    exec (.paceSample mon chains) s = .next (
      if s.paceRuns mon = false then
        if mon < 8 then (s.paceRestarted mon).setFld (F.GLB_PACE_MON_PACE.at mon) 0 0 else s.paceRestarted mon
      else (s.paceRestarted mon).paceShown mon (lowestPace chains % 2 ^ 16) (s.fld (F.GLB_PACE_MON_MIN.at mon) 0)
        (s.fld (F.GLB_PACE_MON_MAX.at mon) 0)) := by
  rw [exec_paceSample, execPaceSample, when_pos ⟨hm, hc, hp, hen, hdue, hcal⟩]
  rfl

theorem exec_paceSample_early {s : State} {mon : Nat} (chains : List Nat)
    (h : 11 ≤ mon ∨ s.flag F.GLB_PACE_CTL_EN 0 = false ∨ s.tb.time < Tbl.getD s.tb.paceStart mon 0 + s.paceWindow) :
    exec (.paceSample mon chains) s = .next s := by
  rw [exec_paceSample, execPaceSample, when_neg]
  rintro ⟨hm, -, -, hen, hdue, -⟩
  rcases h with h | h | h
  · omega
  · rw [hen] at h
    cases h
  · omega

theorem paceRuns_iff (s : State) (mon : Nat) : s.paceRuns mon = true ↔
    (8 ≤ mon ∧ s.fum.corePg = true) ∨ (mon < 8 ∧ s.domOn mon = true) := by
  unfold State.paceRuns
  by_cases h : mon < 8
  · simp [h, Nat.not_le_of_lt h]
  · simp [h, Nat.le_of_not_lt h]

/-- A tile group that switches off publishes no pace (R44). -/
theorem setDomain_off_pace (s : State) {d : Nat} (hd : d < 8) : (s.setDomain d false).fld (F.GLB_PACE_MON_PACE.at d) 0 = 0 := by
  unfold State.setDomain
  extract_lets s1
  rw [if_pos ⟨hd, rfl⟩]
  exact fld_setFld_same _ _ _ _

/-! The control register and the extremes. -/

theorem paceCtlChanged_regs (old s : State) : (State.paceCtlChanged old s).regs = s.regs := by
  unfold State.paceCtlChanged
  split <;> rfl

theorem paceCtlChanged_frame (old s : State) : State.paceCtlChanged old s =
    { s with tb := { s.tb with paceStart := (State.paceCtlChanged old s).tb.paceStart } } := by
  unfold State.paceCtlChanged
  split <;> rfl

theorem restartPace_starts (s : State) {m : Nat} (hm : m < 11) : Tbl.getD s.restartPace.tb.paceStart m 0 = s.tb.time := by
  unfold State.restartPace
  interval_cases m <;> rfl

theorem exec_paceCtlWrite_leads {s0 : State} {who : Requester} (v : Word) (hp : s0.fum.perst = false) (hvf : isVf who = false) :
    let s := s0.touch who
    Leads (.paceCtlWrite who v) s0 (fun t =>
    t.regs = writeFields [F.GLB_PACE_CTL_WINDOW, F.GLB_PACE_CTL_CLR_EXT, F.GLB_PACE_CTL_EN] 0 0 0 64 v.toNat s.regs ∧
    ((t.fld F.GLB_PACE_CTL_WINDOW 0 ≠ s.fld F.GLB_PACE_CTL_WINDOW 0 ∨
        (s.flag F.GLB_PACE_CTL_EN 0 = false ∧ t.flag F.GLB_PACE_CTL_EN 0 = true)) →
      ∀ m, m < 11 → Tbl.getD t.tb.paceStart m 0 = s.tb.time) ∧
    (t.fld F.GLB_PACE_CTL_WINDOW 0 = s.fld F.GLB_PACE_CTL_WINDOW 0 →
      (s.flag F.GLB_PACE_CTL_EN 0 = true ∨ t.flag F.GLB_PACE_CTL_EN 0 = false) → t.tb = s.tb) ∧
    t = { s with regs := t.regs, tb := { s.tb with paceStart := t.tb.paceStart } }) := by
  intro s
  generalize hu : s.writeWhole [F.GLB_PACE_CTL_WINDOW, F.GLB_PACE_CTL_CLR_EXT, F.GLB_PACE_CTL_EN] v.toNat = u
  have hframe : u = { s with regs := u.regs } := by rw [← hu]; rfl
  have htb : u.tb = s.tb := by rw [hframe]
  have hregs := paceCtlChanged_regs s u
  refine ⟨State.paceCtlChanged s u, ?_, ?_, ?_⟩
  · rw [exec_paceCtlWrite, execPaceCtlWrite, when_pos ⟨hp, hvf⟩, ← hu]
  · rw [hregs, ← hu]
    rfl
  · rw [fld_of_regs hregs, flag_of_regs hregs]
    refine ⟨fun h m hm => ?_, fun hw hen => ?_, ?_⟩
    · have hc : u.fld F.GLB_PACE_CTL_WINDOW 0 ≠ s.fld F.GLB_PACE_CTL_WINDOW 0 ∨
          (!s.flag F.GLB_PACE_CTL_EN 0 && u.flag F.GLB_PACE_CTL_EN 0) = true :=
        h.imp_right (fun ⟨hold, hnew⟩ => by rw [hold, hnew]; rfl)
      rw [State.paceCtlChanged, if_pos hc, restartPace_starts u hm, htb]
    · have hc : ¬ (u.fld F.GLB_PACE_CTL_WINDOW 0 ≠ s.fld F.GLB_PACE_CTL_WINDOW 0 ∨
          (!s.flag F.GLB_PACE_CTL_EN 0 && u.flag F.GLB_PACE_CTL_EN 0) = true) := by
        rcases hen with h | h <;> simp [hw, h]
      rw [State.paceCtlChanged, if_neg hc, htb]
    · rw [hregs]
      refine (paceCtlChanged_frame s u).trans ?_
      rw [hframe]

/-- The extremes of the first `n` monitors cleared. -/
def State.extremesCleared (s : State) (n : Nat) : State :=
  (List.range n).foldl (fun t m => (t.setFld (F.GLB_PACE_MON_MIN.at m) 0 0xFFFF).setFld (F.GLB_PACE_MON_MAX.at m) 0 0) s

theorem extremesCleared_succ (s : State) (n : Nat) : s.extremesCleared (n + 1) =
    ((s.extremesCleared n).setFld (F.GLB_PACE_MON_MIN.at n) 0 0xFFFF).setFld (F.GLB_PACE_MON_MAX.at n) 0 0 := by
  simp only [State.extremesCleared, List.range_succ, List.foldl_append, List.foldl_cons, List.foldl_nil]

theorem extremesCleared_frame (s : State) (n : Nat) : s.extremesCleared n = { s with regs := (s.extremesCleared n).regs } := by
  induction n with
  | zero => rfl
  | succ n ih =>
    rw [extremesCleared_succ, ih]
    rfl

theorem extremesCleared_fld (s : State) {n m : Nat} (hm : m < n) :
    (s.extremesCleared n).fld (F.GLB_PACE_MON_MIN.at m) 0 = 0xFFFF ∧
    (s.extremesCleared n).fld (F.GLB_PACE_MON_MAX.at m) 0 = 0 := by
  induction n with
  | zero => omega
  | succ n ih =>
    rw [extremesCleared_succ]
    rcases Nat.lt_or_ge m n with h | h
    · have hne : m ≠ n := by omega
      obtain ⟨hmin, hmax⟩ := ih h
      constructor
      · rw [fld_setFld_ne (key_at_ne_of_copy (by decide) (by decide) (by decide) (by decide) (by decide) hne),
          fld_setFld_ne (key_at_ne_of_copy (by decide) (by decide) (by decide) (by decide) (by decide) hne), hmin]
      · rw [fld_setFld_ne (key_at_ne_of_copy (by decide) (by decide) (by decide) (by decide) (by decide) hne),
          fld_setFld_ne (key_at_ne_of_copy (by decide) (by decide) (by decide) (by decide) (by decide) hne), hmax]
    · obtain rfl : m = n := by omega
      refine ⟨?_, fld_setFld_same _ _ _ _⟩
      rw [fld_setFld_ne (key_at_ne_of_lo m (by decide) (by decide) (by decide))]
      exact fld_setFld_same _ _ _ _

theorem extremesCleared_kept {s t : State} {keys : List Nat} (h : FieldsKept s t keys) (n : Nat)
    (hk : ∀ m < n, (F.GLB_PACE_MON_MIN.at m).key 0 ∈ keys ∧ (F.GLB_PACE_MON_MAX.at m).key 0 ∈ keys) :
    FieldsKept s (t.extremesCleared n) keys := by
  induction n with
  | zero => exact h
  | succ n ih =>
    rw [extremesCleared_succ]
    obtain ⟨hmin, hmax⟩ := hk n (Nat.lt_succ_self n)
    exact ((ih (fun m hm => hk m (by omega))).setFld hmin 0xFFFF).setFld hmax 0

theorem exec_clrExt_leads {s : State} (hc : s.flag F.GLB_PACE_CTL_CLR_EXT 0 = true) : Leads .clrExt s (fun t =>
    t.flag F.GLB_PACE_CTL_CLR_EXT 0 = false ∧
    (∀ m, m < 11 → t.fld (F.GLB_PACE_MON_MIN.at m) 0 = 0xFFFF ∧ t.fld (F.GLB_PACE_MON_MAX.at m) 0 = 0) ∧
    FieldsKept s t (F.GLB_PACE_CTL_CLR_EXT.key 0 :: (List.range 11).flatMap (fun m =>
      [(F.GLB_PACE_MON_MIN.at m).key 0, (F.GLB_PACE_MON_MAX.at m).key 0])) ∧ t = { s with regs := t.regs }) := by
  have hmem : ∀ m < 11, (F.GLB_PACE_MON_MIN.at m).key 0 ∈ (List.range 11).flatMap (fun m =>
        [(F.GLB_PACE_MON_MIN.at m).key 0, (F.GLB_PACE_MON_MAX.at m).key 0]) ∧
      (F.GLB_PACE_MON_MAX.at m).key 0 ∈ (List.range 11).flatMap (fun m =>
        [(F.GLB_PACE_MON_MIN.at m).key 0, (F.GLB_PACE_MON_MAX.at m).key 0]) := fun m hm =>
    ⟨List.mem_flatMap.mpr ⟨m, List.mem_range.mpr hm, by simp⟩, List.mem_flatMap.mpr ⟨m, List.mem_range.mpr hm, by simp⟩⟩
  have hother := extremesCleared_kept (FieldsKept.refl (s.setFlag F.GLB_PACE_CTL_CLR_EXT 0 false) _) 11 hmem
  refine ⟨(s.setFlag F.GLB_PACE_CTL_CLR_EXT 0 false).extremesCleared 11, ?_, ?_, fun m hm => extremesCleared_fld _ hm, ?_, ?_⟩
  · rw [exec_clrExt, execClrExt, when_pos hc, State.extremesCleared]
  · rw [flag_eq, hother _ _ (by decide), ← flag_eq, flag_setFlag_same rfl]
  · exact extremesCleared_kept ((FieldsKept.refl s _).setFlag List.mem_cons_self false) 11
      (fun m hm => (hmem m hm).imp (List.mem_cons_of_mem _) (List.mem_cons_of_mem _))
  · exact extremesCleared_frame _ 11

/-! The timebase. -/

theorem cast_unsigned (i : Int) : ((unsigned 64 i % 2 ^ 64 : Nat) : Int) = i % 2 ^ 64 := by
  unfold unsigned
  omega

theorem exec_todSlewTick_leads {s : State} (ns : Nat) (hr : s.tb.running = true) : Leads (.todSlewTick ns) s (fun t => ∃ d : Int,
    t.tb.time = s.tb.time + ns ∧ 0 ≤ t.tb.slewFrac ∧ t.tb.slewFrac < 1000000000 ∧
    t.tb.slewFrac + 1000000000 * d = s.tb.slewFrac + (ns : Int) * signed 32 (s.fld F.GLB_TOD_CTL_SLEW_PPB 0) ∧
    t.fld F.GLB_TIMEBASE_TIME 0 = t.tb.time % 2 ^ 64 ∧
    (t.fld F.GLB_TOD_OFFSET_OFFSET 0 : Int) = ((s.fld F.GLB_TOD_OFFSET_OFFSET 0 : Int) + d) % 2 ^ 64 ∧
    FieldsKept s t [F.GLB_TIMEBASE_TIME.key 0, F.GLB_TOD_OFFSET_OFFSET.key 0] ∧
    t = { s with regs := t.regs, tb := { s.tb with time := t.tb.time, slewFrac := t.tb.slewFrac } }) := by
  rw [Leads, exec_todSlewTick, execTodSlewTick, when_pos hr]
  generalize s.tb.slewFrac + (ns : Int) * signed 32 (s.fld F.GLB_TOD_CTL_SLEW_PPB 0) = total
  refine ⟨_, rfl, total / 1000000000, rfl, ?_, ?_, ?_, ?_, ?_, ?_, rfl⟩
  · simp only [State.setFld_tb]; omega
  · simp only [State.setFld_tb]; omega
  · simp only [State.setFld_tb]; omega
  · rw [fld_setFld_ne (by decide), fld_setFld_same]
    rfl
  · rw [fld_setFld_same]
    exact cast_unsigned _
  · exact (((FieldsKept.refl s _).of_regs rfl).setFld (by decide) _).setFld (by decide) _

theorem exec_applyStep_leads {s : State} (ha : s.flag F.GLB_TOD_CTL_APPLY_STEP 0 = true) : Leads .applyStep s (fun t =>
    t.fld F.GLB_TOD_OFFSET_OFFSET 0 = (s.fld F.GLB_TOD_OFFSET_OFFSET 0 + s.fld F.GLB_TOD_STEP_STEP 0) % 2 ^ 64 ∧
    t.flag F.GLB_TOD_CTL_APPLY_STEP 0 = false ∧
    FieldsKept s t [F.GLB_TOD_OFFSET_OFFSET.key 0, F.GLB_TOD_CTL_APPLY_STEP.key 0] ∧ t = { s with regs := t.regs }) := by
  rw [Leads, exec_applyStep, execApplyStep, when_pos ha]
  refine ⟨_, rfl, fld_setFld_same _ _ _ _, ?_, ?_, rfl⟩
  · rw [flag_setFld_ne (by decide), flag_setFlag_same rfl]
  · exact ((FieldsKept.refl s _).setFlag (by decide) false).setFld (by decide) _

theorem exec_timebaseLowRead_leads (s0 : State) (who : Requester) : let s := s0.touch who
    Leads (.timebaseLowRead who) s0 (fun t =>
    t.hep.lastRead = BitVec.ofNat 64 (s.tb.time % 2 ^ 32) ∧ t.timebaseHigh who = s.tb.time / 2 ^ 32 % 2 ^ 32 ∧
    Tbl.find? (reqFn who) t.tb.latch = some (s.tb.time / 2 ^ 32 % 2 ^ 32) ∧
    (∀ f, f ≠ reqFn who → Tbl.find? f t.tb.latch = Tbl.find? f s.tb.latch) ∧
    t = { s with tb := { s.tb with latch := t.tb.latch }, hep := { s.hep with lastRead := t.hep.lastRead } }) := by
  intro s
  exact ⟨_, exec_timebaseLowRead who s0, rfl, Tbl.getD_set_same _ _ _ _, Tbl.find?_set_same _ _ _,
    fun f hf => Tbl.find?_set_ne hf _ _, rfl⟩

/-! The lock. -/

/-- The event of a lost lock is recorded in its live record; it takes no record set (R49, R600). -/
theorem sinterEvent_unlock (s : State) : sinterEvent 0x001 0 s = { s with snt := { s.snt with
    recs := Tbl.set 1 ((Tbl.getD s.snt.recs 1 {}).add (sinterBin 1 0) 0 s.tb.time s.snt.boots) s.snt.recs } } := by
  have htrig : sinterTrig 1 = false := by decide
  have hvalid : sinterIsValid 1 = true := rfl
  have hunit : sinterUnit 1 = 0 := by decide
  simp only [sinterEvent, sinterNote, sinterRecord, htrig, hvalid, hunit, Bool.false_eq_true, false_and, if_false, if_true]

theorem exec_pllUnlock_leads {s : State} (hl : s.flag F.GLB_TB_STAT_LOCKED 0 = true) : Leads .pllUnlock s (fun t =>
    t.flag F.GLB_TB_STAT_LOCKED 0 = false ∧ t.flag F.GLB_TB_STAT_UNLOCK 0 = true ∧
    t.fld F.GLB_TB_STAT_UNLOCK_CNT 0 = (s.fld F.GLB_TB_STAT_UNLOCK_CNT 0 + 1) % 2 ^ 32 ∧ t.tb = s.tb ∧
    FieldsKept s t [F.GLB_TB_STAT_LOCKED.key 0, F.GLB_TB_STAT_UNLOCK.key 0, F.GLB_TB_STAT_UNLOCK_CNT.key 0] ∧
    (Tbl.getD t.snt.recs 1 {}).seq = ((Tbl.getD s.snt.recs 1 {}).seq + 1) % 2 ^ 64 ∧
    t = { s with regs := t.regs, snt := t.snt }) := by
  rw [Leads, exec_pllUnlock, execPllUnlock, when_pos hl]
  refine ⟨_, rfl, ?_, ?_, ?_, ?_, ?_, ?_, ?_⟩
  · rw [sinterEvent_flag, flag_inc_ne (by decide), flag_setFlag_ne (by decide), flag_setFlag_same rfl]
  · rw [sinterEvent_flag, flag_inc_ne (by decide), flag_setFlag_same rfl]
  · rw [sinterEvent_fld, fld_inc_same, fld_setFlag_ne (by decide), fld_setFlag_ne (by decide)]
    rfl
  · rw [sinterEvent_tb]
    rfl
  · exact ((((FieldsKept.refl s _).setFlag (by decide) false).setFlag (by decide) true).inc (by decide)).of_regs
      (sinterEvent_regs _ _ _)
  · rw [sinterEvent_unlock, Tbl.getD_set_same]
    rfl
  · rw [sinterEvent_unlock]
    rfl

/-- Settles O36: each clause is the lemma about that command; a sample's clause goes by whether the monitor's chains run. -/
theorem paceMonitorsAndTimebase : Obligations.PaceMonitorsAndTimebase := by
  unfold Obligations.PaceMonitorsAndTimebase
  refine ⟨⟨lowestPace_least, ?sample, fun s d => setDomain_off_pace s, fun s mon chains => exec_paceSample_early chains,
      fun s0 who v => exec_paceCtlWrite_leads v, fun s => exec_clrExt_leads⟩,
    fun s ns => exec_todSlewTick_leads ns, ?stopped, exec_timebaseLowRead_leads, fun s => exec_applyStep_leads,
    fun s => exec_pllUnlock_leads, ?relock⟩
  case sample =>
    intro s mon chains hm hc hp hen hdue hcal v P S L H tb1
    have hexec := exec_paceSample_due hm hc hp hen hdue hcal
    have hv : v < 2 ^ 16 := Nat.mod_lt _ (Nat.two_pow_pos 16)
    refine ⟨fun hrun => ?_, fun hlow hoff => ?_, fun hhigh hoff => ?_⟩
    · have hruns : ¬ s.paceRuns mon = false := by simp [(paceRuns_iff s mon).mpr hrun]
      rw [if_neg hruns] at hexec
      obtain ⟨hP, hL, hH, hS⟩ := paceShown_fields (s.paceRestarted mon) mon hv
      exact ⟨_, hexec, hP, hL, hH, hS, paceShown_kept (s.paceRestarted mon) mon v _ _, paceShown_frame _ _ _ _ _⟩
    · have hruns : s.paceRuns mon = false := by rw [State.paceRuns, if_pos hlow, hoff]
      rw [if_pos hruns, if_pos hlow] at hexec
      exact ⟨_, hexec, fld_setFld_same _ _ _ _, (FieldsKept.refl s _).of_regs rfl |>.setFld List.mem_cons_self 0, rfl⟩
    · have hruns : s.paceRuns mon = false := by rw [State.paceRuns, if_neg (by omega), hoff]
      rw [if_pos hruns, if_neg (by omega)] at hexec
      exact hexec
  case stopped =>
    intro s ns hr
    rw [exec_todSlewTick, execTodSlewTick, when_neg (by simp [hr])]
  case relock =>
    intro s
    exact ⟨_, exec_pllRelock s, flag_setFlag_same rfl s 0 true, (FieldsKept.refl s _).setFlag List.mem_cons_self true, rfl⟩

end Sys2Proof.Machine
end

section
/-! Rings and execution slots over the updates of the state: a ring is changed by `setRing` alone, a slot by `setSlot` and
`freeSlot` alone. -/

namespace Sys2Proof.Machine

variable (s : State)

@[simp] theorem State.slot?_setRing (k : Nat) (r : Ring) (n : Nat) : (s.setRing k r).slot? n = s.slot? n := rfl
@[simp] theorem State.ring_setFlag (f : Fld) (i : Nat) (b : Bool) (k : Nat) : (s.setFlag f i b).ring k = s.ring k := rfl

end Sys2Proof.Machine
end

section
/-! Doorbells (R82 to R87, R93, R113, R356): each write is followed through its checks down to the ring that it moves, halts or
leaves. -/

namespace Sys2Proof.Machine

/-! The index that a doorbell carries. -/

theorem field_index_mod (v : Nat) : field v 31 0 % 2 ^ 32 = field v 31 0 :=
  Nat.mod_eq_of_lt (Nat.mod_lt _ (Nat.two_pow_pos 32))

/-- The state after a valid doorbell with index `i` on submission ring `key`. -/
def State.indexMoved (s : State) (key i : Nat) : State :=
  let r := s.ring key
  let s1 := s.setRing key { r with
    sw := i, pend := decide (r.hw ≠ i), age := if r.pend = true ∨ r.hw = i then r.age else s.rng.arbNo }
  { s1 with rng := { s1.rng with arbNo := s.rng.arbNo + 1 } }

/-- The pending bit and its age after a doorbell, in one record. -/
theorem Ring.ring_eq (r : Ring) (no i : Nat) : Ring.ring { r with sw := i } no =
    { r with sw := i, pend := decide (r.hw ≠ i), age := if r.pend = true ∨ r.hw = i then r.age else no } := by
  unfold Ring.ring
  by_cases hw : r.hw = i
  · simp [hw]
  · cases r.pend <;> simp [hw]

/-! A doorbell on a ring of the right generation (R84). -/

theorem ringDoorbell_moves {s : State} {key i : Nat} (hi : i % 2 ^ 32 = i) (hk : key < 16384)
    (hn : idxSub i (s.ring key).hw ≤ (s.ring key).size) : s.ringDoorbell key i = s.indexMoved key i := by
  rw [State.ringDoorbell]
  simp only [hi, if_pos hk, Ring.entries, if_neg (Nat.not_lt_of_le hn), Ring.ring_eq]
  rfl

theorem ringDoorbell_halts {s : State} {key i : Nat} (hi : i % 2 ^ 32 = i) (hk : key < 16384)
    (hn : (s.ring key).size < idxSub i (s.ring key).hw) :
    s.ringDoorbell key i = s.haltWithEvent {} key St.DOORBELL_INVALID := by
  rw [State.ringDoorbell]
  simp only [hi, if_pos hk, Ring.entries, if_pos hn]

theorem ringDoorbell_consumes {s : State} {key i : Nat} (hi : i % 2 ^ 32 = i) (hk : 16384 ≤ key)
    (hn : idxSub (s.ring key).hw i ≤ (s.ring key).size) :
    s.ringDoorbell key i = s.setRing key { s.ring key with sw := i } := by
  rw [State.ringDoorbell]
  simp only [hi, if_neg (Nat.not_lt_of_le hk), Ring.entries, if_neg (Nat.not_lt_of_le hn)]

theorem ringDoorbell_haltsCq {s : State} {key i : Nat} (hi : i % 2 ^ 32 = i) (hk : 16384 ≤ key)
    (hn : (s.ring key).size < idxSub (s.ring key).hw i) (hst : (s.ring key).st = .active) :
    s.ringDoorbell key i = (s.haltCq key St.DOORBELL_INVALID).postCqHalt {} key St.DOORBELL_INVALID := by
  rw [State.ringDoorbell]
  simp only [hi, if_neg (Nat.not_lt_of_le hk), Ring.entries, if_pos hn, if_pos hst]

theorem doorbell_stale {s : State} (fn : Nat) {key gen : Nat} (i : Nat)
    (h : (s.ring key).st = .draining ∨ gen ≠ (s.ring key).gen) :
    s.doorbell fn key gen i = s.inc F.RNG_FN_STAT_STALE_DB fn := by
  rw [State.doorbell, if_pos h]

theorem doorbell_current {s : State} (fn : Nat) {key gen : Nat} (i : Nat) (hst : (s.ring key).st ≠ .draining)
    (hgen : gen = (s.ring key).gen) : s.doorbell fn key gen i = s.ringDoorbell key i := by
  rw [State.doorbell, if_neg (not_or.mpr ⟨hst, fun h => h hgen⟩)]

/-! DOORBELL_WRITE by its checks (R82, R83, R85, R86, R346). -/

theorem exec_doorbellWrite_outside {s : State} {fn off : Nat} (bytes : Nat) (v : Word)
    (h : s.tlp.fnExists fn = false ∨ (barSizes fn).2.1 ≤ off) :
    exec (.doorbellWrite fn off bytes v) s = .next (aerReport (fn % 256) 4 s.tlp) := by
  have hout : (!s.tlp.fnExists fn) = true ∨ (barSizes fn).2.1 ≤ off := by simpa using h
  rw [exec_doorbellWrite, execDoorbellWrite]
  simp only [if_pos hout]

theorem exec_doorbellWrite_bad {s : State} {fn off bytes : Nat} (v : Word) (hf : s.tlp.fnExists fn = true)
    (hoff : off < (barSizes fn).2.1) (h : bytes ≠ 8 ∨ off % 8 ≠ 0 ∨ s.tlp.visiblePage fn (off / 4096) = none) :
    exec (.doorbellWrite fn off bytes v) s = .next (s.tlp.inc F.RNG_FN_STAT_BAD_DB fn) := by
  have hin : ¬ ((!s.tlp.fnExists fn) = true ∨ (barSizes fn).2.1 ≤ off) := by simp [hf, hoff]
  rw [exec_doorbellWrite, execDoorbellWrite]
  simp only [if_neg hin]
  by_cases hal : bytes ≠ 8 ∨ off % 8 ≠ 0
  · rw [if_pos hal]
  · have hpage : s.tlp.visiblePage fn (off / 4096) = none := by
      rcases h with h | h | h
      · exact absurd (.inl h) hal
      · exact absurd (.inr h) hal
      · exact h
    rw [if_neg hal, hpage]

section
variable {s : State} {fn off p : Nat} (hf : s.tlp.fnExists fn = true) (hoff : off < (barSizes fn).2.1) (hal : off % 8 = 0)
  (hp : s.tlp.visiblePage fn (off / 4096) = some p)
include hf hoff hal hp

theorem exec_doorbellWrite_unbound (v : Word) (hb : s.tlp.boundRing p (off % 4096 / 8) = none) :
    exec (.doorbellWrite fn off 8 v) s = .next (s.tlp.inc F.RNG_FN_STAT_BAD_DB fn) := by
  have hin : ¬ ((!s.tlp.fnExists fn) = true ∨ (barSizes fn).2.1 ≤ off) := by simp [hf, hoff]
  have hwell : ¬ (8 ≠ 8 ∨ off % 8 ≠ 0) := by simp [hal]
  rw [exec_doorbellWrite, execDoorbellWrite]
  simp only [if_neg hin, if_neg hwell, hp, hb]

/-- A write of 8 aligned bytes to a visible page reaches the ring that the slot is bound to, if it is the function's. -/
theorem exec_doorbellWrite_bound (v : Word) {key : Nat} (hb : s.tlp.boundRing p (off % 4096 / 8) = some key) :
    exec (.doorbellWrite fn off 8 v) s = .next (
      if (s.tlp.ring key).fn ≠ fn then s.tlp.inc F.RNG_FN_STAT_BAD_DB fn
      else s.tlp.doorbell fn key (field v.toNat 47 32) (field v.toNat 31 0)) := by
  have hin : ¬ ((!s.tlp.fnExists fn) = true ∨ (barSizes fn).2.1 ≤ off) := by simp [hf, hoff]
  have hwell : ¬ (8 ≠ 8 ∨ off % 8 ≠ 0) := by simp [hal]
  rw [exec_doorbellWrite, execDoorbellWrite]
  simp only [if_neg hin, if_neg hwell, hp, hb]

theorem exec_doorbellWrite_own (v : Word) {key : Nat} (hb : s.tlp.boundRing p (off % 4096 / 8) = some key)
    (hfn : (s.tlp.ring key).fn = fn) : exec (.doorbellWrite fn off 8 v) s =
      .next (s.tlp.doorbell fn key (field v.toNat 47 32) (field v.toNat 31 0)) := by
  rw [exec_doorbellWrite_bound hf hoff hal hp v hb, if_neg (not_not.mpr hfn)]

end

/-! RING_INDEX_WRITE (R113). -/

theorem exec_ringIndexWrite_ready {s : State} (who : Requester) (v : Word) (h : s.ddtReady = true) :
    exec (.ringIndexWrite who v) s = .next ((s.touch who).indexWrite who (field v.toNat 31 0)) := by
  rw [exec_ringIndexWrite, execRingIndexWrite, when_pos h]

theorem indexWrite_foreign {s : State} {who : Requester} (i : Nat)
    (h : (s.ring (s.selRing who)).st = .free ∨ (s.ring (s.selRing who)).fn ≠ reqFn who) :
    s.indexWrite who i = s.inc F.RNG_FN_STAT_BAD_DB (reqFn who) := by
  rw [State.indexWrite]
  simp only [if_pos h]

theorem indexWrite_own {s : State} {who : Requester} (i : Nat) (hfn : (s.ring (s.selRing who)).fn = reqFn who)
    (hst : (s.ring (s.selRing who)).st = .active ∨ (s.ring (s.selRing who)).st = .halted) :
    s.indexWrite who i = s.ringDoorbell (s.selRing who) i := by
  have hfree : (s.ring (s.selRing who)).st ≠ .free := by rcases hst with h | h <;> simp [h]
  have hdrain : (s.ring (s.selRing who)).st ≠ .draining := by rcases hst with h | h <;> simp [h]
  rw [State.indexWrite]
  simp only [hfree, hfn, ne_eq, not_true, or_self, if_false]
  exact doorbell_current _ i hdrain rfl

/-! NVMe doorbells (R87). -/

/-- The tail doorbell of queue `qid` of a controller. -/
theorem exec_nvmeDoorbell_tail {s : State} {fn qid v key : Nat} (hq : s.tlp.nvmeQueue fn qid .nvmeSq = some key) :
    exec (.nvmeDoorbell fn (0x1000 + 8 * qid) v) s = .next (
      if (s.tlp.ring key).st = .draining then s.tlp.inc F.RNG_FN_STAT_STALE_DB fn
      else if (s.tlp.ctrl fn).ready = false then s.tlp
      else if (s.tlp.ring key).size ≤ v then s.tlp.badDoorbell fn
      else s.tlp.ringDoorbell key (nvmeIndex (s.tlp.ring key).hw v (s.tlp.ring key).size)) := by
  have hin : ¬ (0x1000 + 8 * qid < 0x1000 ∨ (0x1000 + 8 * qid) % 4 ≠ 0) := by omega
  have hid : (0x1000 + 8 * qid - 0x1000) / 8 = qid := by omega
  have heven : (0x1000 + 8 * qid) % 8 = 0 := by omega
  rw [exec_nvmeDoorbell, execNvmeDoorbell]
  simp only [if_neg hin, hid, if_pos heven, hq]

/-- The new index lies less than the queue's size ahead of the fetch index. -/
theorem idxSub_nvmeIndex_le {cur size : Nat} (v : Nat) (hpos : 0 < size) (hsize : size ≤ 2 ^ 16) :
    idxSub (nvmeIndex cur v size) cur ≤ size := by
  have hd : (v + size - cur % size) % size < size := Nat.mod_lt _ hpos
  unfold idxSub nvmeIndex
  generalize (v + size - cur % size) % size = d at hd
  omega

/-- Settles O30: each clause follows one write through its checks to the rule about the ring that it reaches. -/
theorem doorbells : Obligations.Doorbells := by
  unfold Obligations.Doorbells
  refine ⟨fun s fn off bytes v => ⟨exec_doorbellWrite_outside bytes v, exec_doorbellWrite_bad v⟩, ?window, ?index, ?nvme⟩
  case window =>
    intro s0 fn off v p s hf hoff hal hp
    refine ⟨exec_doorbellWrite_unbound hf hoff hal hp v, ?_⟩
    intro key hb r i
    have hi : i % 2 ^ 32 = i := field_index_mod _
    have hown := exec_doorbellWrite_own hf hoff hal hp v hb
    refine ⟨fun hfn => ?_, fun hfn hstale => ?_, fun hfn hst hgen => ?_⟩
    · rw [exec_doorbellWrite_bound hf hoff hal hp v hb, if_pos hfn]
    · rw [hown hfn, doorbell_stale fn _ hstale]
    · rw [hown hfn, doorbell_current fn _ hst hgen]
      refine ⟨fun hk hn => ?_, fun hk hn => ?_, fun hk hn => ?_, fun hk hn hact => ?_⟩
      · exact congrArg _ (ringDoorbell_moves hi hk hn)
      · exact congrArg _ (ringDoorbell_halts hi hk hn)
      · exact congrArg _ (ringDoorbell_consumes hi hk hn)
      · exact congrArg _ (ringDoorbell_haltsCq hi hk hn hact)
  case index =>
    intro s0 who v hready s key r i
    rw [exec_ringIndexWrite_ready who v hready]
    refine ⟨fun h => congrArg _ (indexWrite_foreign i h), fun hfn hst hk hn => ?_⟩
    exact congrArg _ ((indexWrite_own i hfn hst).trans (ringDoorbell_moves (field_index_mod _) hk hn))
  case nvme =>
    intro s0 fn qid v key s hq hk r
    rw [exec_nvmeDoorbell_tail hq]
    refine ⟨fun hst => by rw [if_pos hst], fun hready hst hv hsize _ => ?_⟩
    have hi : nvmeIndex r.hw v r.size % 2 ^ 32 = nvmeIndex r.hw v r.size := Nat.mod_mod _ _
    have hdrain : r.st ≠ .draining := by rcases hst with h | h <;> simp [h]
    rw [if_neg hdrain, if_neg (by simp [s, hready]), if_neg (Nat.not_le_of_lt hv)]
    exact ⟨hi, congrArg _ (ringDoorbell_moves hi hk (idxSub_nvmeIndex_le v (Nat.zero_lt_of_lt hv) hsize))⟩

end Sys2Proof.Machine
end

section
/-! The arbiter's choice and the arrival of what it fetched (R72, R88 to R90, R94). -/

namespace Sys2Proof.Machine

/-! The order of R94: the lower priority number first, then the longer wait. -/

/-- Ring `k` is granted no later than ring `j`. -/
def State.precedes (s : State) (k j : Nat) : Prop :=
  (s.ring k).prio < (s.ring j).prio ∨ ((s.ring k).prio = (s.ring j).prio ∧ (s.ring k).age ≤ (s.ring j).age)

theorem State.precedes_refl (s : State) (k : Nat) : s.precedes k k := .inr ⟨rfl, Nat.le_refl _⟩

theorem State.precedes_trans {s : State} {i j k : Nat} (h : s.precedes i j) (h' : s.precedes j k) : s.precedes i k := by
  unfold State.precedes at *
  omega

/-- The better of two rings is one of them and precedes both. -/
theorem betterRing_some (s : State) (j k : Nat) : ∃ i, betterRing s (some j) k = some i ∧ (i = j ∨ i = k) ∧
    s.precedes i j ∧ s.precedes i k := by
  unfold betterRing
  dsimp only
  split
  · next h => exact ⟨k, rfl, .inr rfl, by unfold State.precedes; omega, s.precedes_refl k⟩
  · next h => exact ⟨j, rfl, .inl rfl, s.precedes_refl j, by unfold State.precedes; omega⟩

theorem foldl_betterRing_some (s : State) (l : List Nat) (j : Nat) : ∃ i, l.foldl (betterRing s) (some j) = some i ∧
    (i = j ∨ i ∈ l) ∧ s.precedes i j ∧ ∀ k ∈ l, s.precedes i k := by
  induction l generalizing j with
  | nil => exact ⟨j, rfl, .inl rfl, s.precedes_refl j, by simp⟩
  | cons k l ih =>
    obtain ⟨b, hb, hin, hbj, hbk⟩ := betterRing_some s j k
    obtain ⟨i, hi, hmem, hib, hrest⟩ := ih b
    refine ⟨i, by rw [List.foldl_cons, hb, hi], ?_, State.precedes_trans hib hbj, ?_⟩
    · rcases hmem with rfl | hmem
      · rcases hin with rfl | rfl <;> simp
      · simp [hmem]
    · rintro m (_ | ⟨_, hm⟩)
      · exact State.precedes_trans hib hbk
      · exact hrest m hm

/-- What the arbiter grants is a candidate that precedes every candidate. -/
theorem grant_first {s : State} {p : Nat → Bool} {k : Nat} (h : s.grant p = some k) :
    s.eligible k = true ∧ p k = true ∧ ∀ x ∈ s.rng.rings, s.eligible x.1 = true → p x.1 = true → s.precedes k x.1 := by
  unfold State.grant at h
  have hmem (m : Nat) : m ∈ (s.rng.rings.map (fun x => x.1)).filter (fun k => s.eligible k && p k) ↔
      m ∈ s.rng.rings.map (fun x => x.1) ∧ s.eligible m = true ∧ p m = true := by simp [List.mem_filter]
  generalize (s.rng.rings.map (fun x => x.1)).filter (fun k => s.eligible k && p k) = l at h hmem
  cases l with
  | nil => cases h
  | cons j l =>
    obtain ⟨i, hi, hin, hij, hrest⟩ := foldl_betterRing_some s l j
    obtain rfl := Option.some.inj (h.symm.trans hi)
    have hk : k ∈ j :: l := List.mem_cons.mpr hin
    obtain ⟨-, hel, hp⟩ := (hmem k).mp hk
    refine ⟨hel, hp, fun x hx hxe hxp => ?_⟩
    rcases List.mem_cons.mp ((hmem x.1).mpr ⟨List.mem_map_of_mem hx, hxe, hxp⟩) with hxj | hxl
    · rw [hxj]
      exact hij
    · exact hrest _ hxl

/-! A read that its checks have admitted. -/

/-- A page of the host window is held by no memory unit. -/
theorem pageHeld_of_host {s : State} {p : Nat} (h : s.region p = .host) : s.pageHeld p = false := by
  simp only [State.pageHeld, State.place, h]

/-- A range that its check admits is held by no retraining (R322, R658). -/
theorem rangeHeld_of_checkRange {s : State} {fn a n : Nat} {wr : Bool} (h : s.checkRange fn wr false a n = .ok ()) :
    s.rangeHeld a n = false := by
  rw [State.checkRange_unbuddied] at h
  split at h
  · cases h
  split at h
  · cases h
  split at h
  · cases h
  split at h
  · cases h
  next hwaits =>
  rw [State.rangeHeld, List.any_eq_false]
  intro p hp
  by_cases hhost : s.region p = .host
  · simp [pageHeld_of_host hhost]
  · intro hheld
    exact hwaits ⟨p, hp, hhost, by simp [State.pageWaits, hheld]⟩

/-- A device range without errors or poison reads as it is. -/
theorem readChecked_device {s : State} {env : Env} {fn a n : Nat} (hn : n ≠ 0) (hr : s.region a ≠ .host)
    (hheld : s.rangeHeld a n = false) (hecc : env.ecc = []) (hp : s.poisonIn a n = []) :
    s.readChecked env fn a n = (s, .ok (s.devRead a n)) := by
  have hfind : s.eccFind env.ecc a n = s := by rw [hecc]; rfl
  simp only [State.readChecked, if_neg hn, if_neg hr, hheld, Bool.false_eq_true, if_false, hfind, hp, if_true]

/-! RING_ARBITRATION (R88, R90, R94). -/

/-- The fetch of an entry from device memory takes slot `n`. -/
theorem fetchOne_device {s : State} {env : Env} {key idx n : Nat} {r : Ring} (retry : Bool) (hring : s.ring key = r)
    (ht : r.typ ≠ .nvmeSq) (hfree : Tbl.firstFree s.rng.slots 4096 0 = some n)
    (hc : s.checkRange r.fn false false (r.base + idx % r.size * 64) 64 = .ok ())
    (hr : s.region (r.base + idx % r.size * 64) ≠ .host) (hecc : env.ecc = [])
    (hp : s.poisonIn (r.base + idx % r.size * 64) 64 = []) :
    s.fetchOne env key idx retry = (s.setSlot n {
      ring := key, idx := idx, fn := r.fn, words := wordsOf 8 (s.devRead (r.base + idx % r.size * 64) 64)
      since := s.tb.time, born := s.rng.arbNo, retry := retry }, .ok ()) := by
  unfold State.fetchOne
  simp only [hring, Ring.entries, hfree, if_neg ht, hc, if_neg hr,
    readChecked_device (by decide) hr (rangeHeld_of_checkRange hc) hecc hp]

/-- The state in which the arbiter has granted ring `k` and counted it. -/
def State.granted (s : State) (k : Nat) : State :=
  let t := s.setRing k { s.ring k with age := s.rng.arbNo }
  { t with rng := { t.rng with arbNo := s.rng.arbNo + 1 } }

theorem granted_ring (s : State) (k : Nat) : (s.granted k).ring k = { s.ring k with age := s.rng.arbNo } :=
  State.ring_setRing_same s k _

/-- A grant changes the ring engine alone, so that memory reads and is checked as before. -/
theorem granted_frame (s : State) (k : Nat) : s.granted k = { s with rng := (s.granted k).rng } := rfl

theorem granted_checkRange (s : State) (k : Nat) : (s.granted k).checkRange = s.checkRange := by rw [granted_frame]; rfl

theorem granted_poisonIn (s : State) (k : Nat) : (s.granted k).poisonIn = s.poisonIn := by rw [granted_frame]; rfl

theorem granted_region (s : State) (k : Nat) : (s.granted k).region = s.region := by rw [granted_frame]; rfl

/-- The entry that a burst of one takes from device memory. -/
def State.entryAt (s : State) (k : Nat) : Slot :=
  let r := s.ring k
  { ring := k, idx := r.hw, fn := r.fn, words := wordsOf 8 (s.devRead (r.base + r.hw % r.size * 64) 64), since := s.tb.time
    born := s.rng.arbNo + 1 }

theorem granted_ring_ne (s : State) {j k : Nat} (h : j ≠ k) : (s.granted k).ring j = s.ring j :=
  State.ring_setRing_ne s h _

/-- A burst of one entry, fetched in index order. -/
theorem fetchBurst_one {s s1 : State} {env : Env} {key : Nat} (href : (s.ring key).refetch = none)
    (hne : (s.ring key).hw ≠ (s.ring key).sw) (hf : s.fetchOne env key (s.ring key).hw false = (s1, .ok ())) :
    s.fetchBurst env key 1 = s1.setRing key { s1.ring key with
      hw := idxNext (s1.ring key).hw, pend := decide (idxNext (s1.ring key).hw ≠ (s1.ring key).sw) } := by
  simp only [State.fetchBurst, href, if_neg hne, hf]

/-- The first entry of a granted ring, fetched from device memory into slot `n`. -/
theorem granted_fetchBurst {s : State} {env : Env} {k n : Nat} (ht : (s.ring k).typ ≠ .nvmeSq)
    (href : (s.ring k).refetch = none) (hne : (s.ring k).hw ≠ (s.ring k).sw)
    (hfree : Tbl.firstFree s.rng.slots 4096 0 = some n)
    (hc : s.checkRange (s.ring k).fn false false ((s.ring k).base + (s.ring k).hw % (s.ring k).size * 64) 64 = .ok ())
    (hr : s.region ((s.ring k).base + (s.ring k).hw % (s.ring k).size * 64) ≠ .host) (hecc : env.ecc = [])
    (hp : s.poisonIn ((s.ring k).base + (s.ring k).hw % (s.ring k).size * 64) 64 = []) :
    (s.granted k).fetchBurst env k 1 = ((s.granted k).setSlot n (s.entryAt k)).setRing k { s.ring k with
      age := s.rng.arbNo, hw := idxNext (s.ring k).hw, pend := decide (idxNext (s.ring k).hw ≠ (s.ring k).sw) } := by
  have hring := granted_ring s k
  have hfetch : (s.granted k).fetchOne env k ((s.granted k).ring k).hw false =
      ((s.granted k).setSlot n (s.entryAt k), .ok ()) := by
    rw [congrArg Ring.hw hring]
    exact fetchOne_device (r := { s.ring k with age := s.rng.arbNo }) false hring ht hfree
      (by rwa [granted_checkRange]) (by rwa [granted_region]) hecc (by rwa [granted_poisonIn])
  have hslot : ((s.granted k).setSlot n (s.entryAt k)).ring k = { s.ring k with age := s.rng.arbNo } := hring
  rw [fetchBurst_one (by rwa [hring]) (by rwa [hring]) hfetch, hslot]

theorem exec_ringArbitration_grant {s : State} (env : Env) {k : Nat} (hg : s.grant (fun _ => true) = some k)
    (hs : s.grant (fun j => decide (0 < s.slotsFor (s.ring j).fn)) = some k) :
    exec (.ringArbitration env) s =
      .next ((s.granted k).fetchBurst env k (min ((s.ring k).burst + 1) (s.slotsFor (s.ring k).fn))) := by
  obtain ⟨-, hslots, -⟩ := grant_first hs
  rw [exec_ringArbitration, execRingArbitration]
  simp only [hg, hs, hslots, if_true]
  rfl

theorem exec_ringArbitration_none {s : State} (env : Env) (hg : s.grant (fun _ => true) = none)
    (hs : s.grant (fun j => decide (0 < s.slotsFor (s.ring j).fn)) = none) : exec (.ringArbitration env) s = .next s := by
  rw [exec_ringArbitration, execRingArbitration]
  simp only [hg, hs]

/-! The word-0 checks in their order (R72). -/

section
variable {s : State} {key w : Nat}

theorem checkWord0_ringGen (h : c0Rgen w ≠ (s.ring key).gen) : s.checkWord0 key w = St.RING_GEN_MISMATCH := by
  simp only [State.checkWord0, if_pos h]

theorem checkWord0_fnGen (hr : c0Rgen w = (s.ring key).gen) (h : c0Fgen w ≠ s.fgen (s.ring key).fn) :
    s.checkWord0 key w = St.FUNC_GEN_MISMATCH := by
  simp only [State.checkWord0, if_neg (not_not.mpr hr), if_pos h]

theorem checkWord0_undefined (hr : c0Rgen w = (s.ring key).gen) (hf : c0Fgen w = s.fgen (s.ring key).fn)
    (h : opDefined (c0Class w) (c0Op w) = false ∨ bit w 13 = true) : s.checkWord0 key w = St.BAD_CLAUSE := by
  have hbad : (!opDefined (c0Class w) (c0Op w)) = true ∨ bit w 13 = true := by simpa using h
  simp only [State.checkWord0, if_neg (not_not.mpr hr), if_neg (not_not.mpr hf), if_pos hbad]

theorem checkWord0_defined (hr : c0Rgen w = (s.ring key).gen) (hf : c0Fgen w = s.fgen (s.ring key).fn)
    (ho : opDefined (c0Class w) (c0Op w) = true) (hb : bit w 13 = false) :
    s.checkWord0 key w = if s.classEnabled (s.ring key).fn (c0Class w) = true then St.SUCCESS else St.CLASS_NOT_ENABLED := by
  simp only [State.checkWord0, hr, hf, ho, hb, ne_eq, not_true, if_false, Bool.not_true, Bool.false_eq_true, or_self]
  cases s.classEnabled (s.ring key).fn (c0Class w) <;> rfl

end

/-! CLAUSE_ARRIVAL of the next entry of a clause ring (R72, R89, R90). -/

/-- The clause of a slotless class that arrives in slot `x` of ring `x.ring`, held. -/
def State.heldOf (s : State) (x : Slot) : HeldClause :=
  let h : HeldClause := ⟨x.idx, x.words, s.tb.time, s.rng.dispNo, none, false⟩
  let w := wordAt x.words 0
  { h with mis := c0Class w == 7 && c0Op w == 2 && !barrierBad h && s.barrierMis (s.ring x.ring).fn h }

/-- The ring of a slotless clause holds it; its slot is free again. -/
def State.arrivedHeld (s : State) (n : Nat) (x : Slot) : State :=
  let t := (s.freeSlot n).setRing x.ring { s.ring x.ring with held := some (s.heldOf x) }
  { t with rng := { t.rng with dispNo := t.rng.dispNo + 1 } }

/-- Slot `n` holds `x`, the next entry of a clause ring that holds no clause, as it was fetched. -/
def State.arrivesNext (s : State) (n : Nat) (x : Slot) : Prop :=
  s.slot? n = some x ∧ (x.phase = .fetching ∧ x.words.length = 8 ∧ s.isNext x = true ∧ (s.ring x.ring).held.isNone = true) ∧
  (s.ring x.ring).typ = .clause

/-- What becomes of an arriving clause, by its word-0 checks and its class. -/
theorem exec_clauseArrival_next {s : State} {n : Nat} {x : Slot} (h : s.arrivesNext n x) : exec (.clauseArrival n) s = .next (
    let w := wordAt x.words 0
    let st := s.checkWord0 x.ring w
    let x1 : Slot := { x with fgen := if st = St.FUNC_GEN_MISMATCH then s.fgen x.fn else c0Fgen w }
    if st ≠ St.SUCCESS then ((s.setSlot n x1).setRing x.ring { s.ring x.ring with
      disp := if x.retry then (s.ring x.ring).disp else idxNext x.idx }).slotDone n st 0
    else if slotless (c0Class w) then s.arrivedHeld n x
    else if c0Fence w ∧ !s.earlierDone x.ring x.idx then s.setSlot n { x1 with phase := .arrived }
    else s.dispatch n x1) := by
  obtain ⟨hx, hnext, htyp⟩ := h
  have hsq : ¬ (s.ring x.ring).typ = .nvmeSq := by simp [htyp]
  have hwork : ¬ (s.ring x.ring).typ = .workQueue := by simp [htyp]
  rw [exec_clauseArrival, execClauseArrival]
  simp only [hx, if_pos hnext, if_neg hsq, if_neg hwork, if_neg (not_not.mpr htyp)]
  rfl

section
variable {s : State} {n : Nat} {x : Slot} (h : s.arrivesNext n x)
include h

theorem exec_clauseArrival_refused {st : Nat} (hst : s.checkWord0 x.ring (wordAt x.words 0) = st) (h0 : st ≠ 0) :
    exec (.clauseArrival n) s = .next (((s.setSlot n { x with
      fgen := if st = 0x12 then s.fgen x.fn else c0Fgen (wordAt x.words 0) }).setRing x.ring { s.ring x.ring with
        disp := if x.retry then (s.ring x.ring).disp else idxNext x.idx }).slotDone n st 0) := by
  rw [exec_clauseArrival_next h]
  simp only [hst]
  exact congrArg _ (if_pos h0)

theorem exec_clauseArrival_slotless (hst : s.checkWord0 x.ring (wordAt x.words 0) = 0)
    (hsl : slotless (c0Class (wordAt x.words 0)) = true) : exec (.clauseArrival n) s = .next (s.arrivedHeld n x) := by
  rw [exec_clauseArrival_next h]
  simp only [hst, hsl]
  rfl

/-- A clause that keeps its slot waits for its FENCE flag or is dispatched. -/
theorem exec_clauseArrival_slotted (hst : s.checkWord0 x.ring (wordAt x.words 0) = 0)
    (hsl : slotless (c0Class (wordAt x.words 0)) = false) : exec (.clauseArrival n) s = .next (
      if c0Fence (wordAt x.words 0) = true ∧ (!s.earlierDone x.ring x.idx) = true then
        s.setSlot n { x with fgen := c0Fgen (wordAt x.words 0), phase := .arrived }
      else s.dispatch n { x with fgen := c0Fgen (wordAt x.words 0) }) := by
  rw [exec_clauseArrival_next h]
  simp only [hst, hsl]
  rfl

end

theorem arrivedHeld_leaves (s : State) (n : Nat) (x : Slot) : (s.arrivedHeld n x).slot? n = none ∧
    (∀ m, m ≠ n → (s.arrivedHeld n x).slot? m = s.slot? m) ∧
    (s.arrivedHeld n x).ring x.ring = { s.ring x.ring with held := some (s.heldOf x) } ∧
    (∀ k, k ≠ x.ring → (s.arrivedHeld n x).ring k = s.ring k) ∧ (s.arrivedHeld n x).rng.dispNo = s.rng.dispNo + 1 :=
  ⟨State.slot?_freeSlot_same s n, fun _ hm => State.slot?_freeSlot_ne s hm, State.ring_setRing_same _ _ _,
    fun _ hk => State.ring_setRing_ne _ hk _, rfl⟩

/-- HELD_CLAUSE_DISPATCH of the first clause that waits for its FENCE flag. -/
theorem exec_heldClauseDispatch_arrived {s : State} {ring n : Nat} {x : Slot}
    (hx : (s.ringSlots ring).find? (fun x => decide (x.2.phase = .arrived)) = some (n, x)) :
    exec (.heldClauseDispatch ring) s = .next (if s.earlierDone ring x.idx then s.dispatch n x else s) := by
  rw [exec_heldClauseDispatch, execHeldClauseDispatch]
  simp only [hx]

/-- Settles O31: the arbiter's choice by the order of R94, the fetch of one entry, and the arrival by the word-0 checks. -/
theorem arbitrationAndArrival : Obligations.ArbitrationAndArrival := by
  unfold Obligations.ArbitrationAndArrival
  refine ⟨fun s p k => grant_first, ?fetch, fun s env => exec_ringArbitration_none env, ?checks, ?arrival, ?fenced⟩
  case fetch =>
    intro s env k n hg hs r a hburst href hne htyp hfree hc hr hecc hp
    have hslots : 0 < s.slotsFor r.fn := by simpa using (grant_first hs).2.1
    have hnot : r.typ ≠ .nvmeSq := by rcases htyp with h | h <;> simp [h]
    have hcount : min (r.burst + 1) (s.slotsFor r.fn) = 1 := by omega
    refine ⟨_, by rw [exec_ringArbitration_grant env hg hs, hcount, granted_fetchBurst hnot href hne hfree hc hr hecc hp],
      State.ring_setRing_same _ _ _, fun j hj => ?_, ?_, fun m hm => ?_, ?_⟩
    · exact (State.ring_setRing_ne _ hj _).trans (granted_ring_ne s hj)
    · exact (State.slot?_setRing _ _ _ _).trans (State.slot?_setSlot_same _ _ _)
    · exact (State.slot?_setRing _ _ _ _).trans (State.slot?_setSlot_ne _ hm _)
    · simp only [State.granted, State.setSlot, State.setRing]
  case checks =>
    intro s key w r
    refine ⟨checkWord0_ringGen, checkWord0_fnGen, checkWord0_undefined, fun hr hf ho hb => ?_⟩
    rw [checkWord0_defined hr hf ho hb]
    exact ⟨fun h => by rw [h]; rfl, fun h => by rw [h]; rfl⟩
  case arrival =>
    intro s n x hx hph hlen hnext hheld htyp r w x1 h
    have hnow : s.arrivesNext n x := ⟨hx, ⟨hph, hlen, hnext, by rw [hheld]; rfl⟩, htyp⟩
    refine ⟨fun st => exec_clauseArrival_refused hnow, fun h0 hsl => ?_, fun h0 hsl => ?_⟩
    · exact ⟨_, exec_clauseArrival_slotless hnow h0 hsl, arrivedHeld_leaves s n x⟩
    · rw [exec_clauseArrival_slotted hnow h0 hsl]
      refine ⟨fun hgo => congrArg _ (if_neg ?_), fun hf he => congrArg _ (if_pos ⟨hf, by rw [he]; rfl⟩)⟩
      rintro ⟨hf, he⟩
      rcases hgo with hgo | hgo
      · exact absurd hf (by rw [hgo]; decide)
      · exact absurd he (by rw [hgo]; decide)
  case fenced =>
    intro s ring n x hx
    rw [exec_heldClauseDispatch_arrived hx]
    exact ⟨fun h => by rw [if_pos h], fun h => by rw [h]; rfl⟩

end Sys2Proof.Machine
end

section
/-! The posting of completions (R74, R77 to R79, R88, R109, R110): the fields of an entry, its way into its ring or into the ring's
waiting entries, and what it does to the moderation. -/

namespace Sys2Proof.Machine

/-! The fields of an entry (R74). -/

/-- The second word of an entry as a number. -/
def entryWord (phase evt sq fgen status tag : Nat) : Nat :=
  phase <<< 63 + evt <<< 62 + sq <<< 48 + fgen <<< 32 + status <<< 16 + tag

section
variable {phase evt sq fgen status tag : Nat} (hp : phase < 2) (he : evt < 2) (hq : sq < 2 ^ 14) (hf : fgen < 2 ^ 16)
  (hs : status < 2 ^ 16) (ht : tag < 2 ^ 16)
include hp he hq hf hs ht

theorem entryWord_toNat : (BitVec.ofNat 64 (entryWord phase evt sq fgen status tag)).toNat =
    phase * 2 ^ 63 + evt * 2 ^ 62 + sq * 2 ^ 48 + fgen * 2 ^ 32 + status * 2 ^ 16 + tag := by
  simp only [entryWord, BitVec.toNat_ofNat, Nat.shiftLeft_eq]
  omega

/-- Each part of the second word reads back. -/
theorem entryWord_fields {w : Nat}
    (hw : w = phase * 2 ^ 63 + evt * 2 ^ 62 + sq * 2 ^ 48 + fgen * 2 ^ 32 + status * 2 ^ 16 + tag) :
    field w 63 63 = phase ∧ field w 62 62 = evt ∧ field w 61 48 = sq ∧ field w 47 32 = fgen ∧ field w 31 16 = status ∧
      field w 15 0 = tag := by
  simp only [field, Nat.shiftRight_eq_div_pow, Nat.reduceAdd, Nat.reduceSub, Nat.reducePow] at *
  omega

end

theorem ofBit_lt_two (b : Bool) : ofBit b < 2 := by cases b <;> decide

theorem entryWords_eq {r : Ring} (e : CplEntry) (ht : r.typ ≠ .nvmeCq) : entryWords r e = [e.result, BitVec.ofNat 64
    (entryWord (if r.hw / r.size % 2 = 0 then 1 else 0) (ofBit e.evt) (e.sq % 2 ^ 14) (e.fgen % 2 ^ 16) (e.status % 2 ^ 16)
      (e.tag % 2 ^ 16))] := by
  unfold entryWords entryWord Ring.entries
  exact if_neg ht

theorem entryWords_fields {r : Ring} (e : CplEntry) (ht : r.typ ≠ .nvmeCq) : ∃ w : Word, entryWords r e = [e.result, w] ∧
    field w.toNat 63 63 = (if r.hw / r.size % 2 = 0 then 1 else 0) ∧ field w.toNat 62 62 = ofBit e.evt ∧
    field w.toNat 61 48 = e.sq % 2 ^ 14 ∧ field w.toNat 47 32 = e.fgen % 2 ^ 16 ∧
    field w.toNat 31 16 = e.status % 2 ^ 16 ∧ field w.toNat 15 0 = e.tag % 2 ^ 16 := by
  have hphase : (if r.hw / r.size % 2 = 0 then 1 else 0) < 2 := by split <;> decide
  have hsq := Nat.mod_lt e.sq (Nat.two_pow_pos 14)
  have hfgen := Nat.mod_lt e.fgen (Nat.two_pow_pos 16)
  have hst := Nat.mod_lt e.status (Nat.two_pow_pos 16)
  have htag := Nat.mod_lt e.tag (Nat.two_pow_pos 16)
  have hevt := ofBit_lt_two e.evt
  exact ⟨_, entryWords_eq e ht, entryWord_fields hphase hevt hsq hfgen hst htag
    (entryWord_toNat hphase hevt hsq hfgen hst htag)⟩

/-- An entry of a completion ring has 16 bytes. -/
theorem bytesOfWords_entryWords_length (r : Ring) (e : CplEntry) : (bytesOfWords (entryWords r e)).length = 16 := by
  unfold entryWords
  extract_lets phase
  split <;> rfl

/-! An entry released, held or written. -/

theorem releaseSlot_of_slot {s : State} {n : Nat} {x : Slot} (hx : s.slot? n = some x) :
    s.releaseSlot n = (s.setRing x.ring { s.ring x.ring with lastDone := s.tb.time }).freeSlot n := by
  simp only [State.releaseSlot, State.noteDone, hx]

theorem post_dropped {s : State} {env : Env} {k : Nat} {e : CplEntry}
    (h : e.fgen ≠ s.fgen e.fn ∨ s.flag F.HEP_FN_STAT_DRAINING e.fn = true) :
    s.post env k e = (s.inc F.RNG_FN_STAT_STALE_CPL e.fn).releaseOf e := by
  rw [State.post, State.postOne]
  simp only [if_pos h]

/-- An entry of the generation in force waits behind those that wait, or for room. -/
theorem post_waits {s : State} {env : Env} {k : Nat} {e : CplEntry} (hgen : e.fgen = s.fgen e.fn)
    (hdrain : s.flag F.HEP_FN_STAT_DRAINING e.fn = false) (h : (s.ring k).waiting ≠ [] ∨ (s.ring k).hasRoom = false) :
    s.post env k e = s.holdEntry k e := by
  have hlive : ¬ (e.fgen ≠ s.fgen e.fn ∨ s.flag F.HEP_FN_STAT_DRAINING e.fn = true) := by simp [hgen, hdrain]
  have hwait : (!(s.ring k).waiting.isEmpty) = true ∨ (!(s.ring k).hasRoom) = true := by simpa using h
  rw [State.post, State.postOne]
  simp only [if_neg hlive, if_pos hwait]

theorem post_written {s s1 : State} {env : Env} {k : Nat} {e : CplEntry} (hgen : e.fgen = s.fgen e.fn)
    (hdrain : s.flag F.HEP_FN_STAT_DRAINING e.fn = false) (hw : (s.ring k).waiting = []) (hr : (s.ring k).hasRoom = true)
    (h : s.writeEntry env k e = (s1, .ok ())) : s.post env k e = s1 := by
  have hlive : ¬ (e.fgen ≠ s.fgen e.fn ∨ s.flag F.HEP_FN_STAT_DRAINING e.fn = true) := by simp [hgen, hdrain]
  have hnow : ¬ ((!(s.ring k).waiting.isEmpty) = true ∨ (!(s.ring k).hasRoom) = true) := by simp [hw, hr]
  rw [State.post, State.postOne]
  simp only [if_neg hlive, if_neg hnow, h]

/-- The ring of slot `n` after its entry is noted as complete keeps the entries that wait. -/
theorem noteDone_waiting (s : State) (n k : Nat) : ((s.noteDone n).ring k).waiting = (s.ring k).waiting := by
  unfold State.noteDone
  split
  · next x _ =>
    by_cases hk : k = x.ring
    · rw [hk, State.ring_setRing_same]
    · rw [State.ring_setRing_ne s hk]
  · rfl

theorem noteDone_mem (s : State) (n : Nat) : (s.noteDone n).mem = s.mem := by
  unfold State.noteDone
  split <;> rfl

theorem holdEntry_slot {s : State} {n k : Nat} {x : Slot} {e : CplEntry} (hx : s.slot? n = some x) (he : e.slot = some n) :
    (s.holdEntry k e).slot? n = some { x with phase := .held } ∧
    ((s.holdEntry k e).ring k).waiting = (s.ring k).waiting ++ [e] ∧ (s.holdEntry k e).mem = s.mem := by
  have heq : s.holdEntry k e = ((s.noteDone n).setSlot n { x with phase := .held }).setRing k { (s.noteDone n).ring k with
      waiting := ((s.noteDone n).ring k).waiting ++ [e] } := by
    simp only [State.holdEntry, he, hx]
    rfl
  rw [heq]
  refine ⟨State.slot?_setSlot_same _ n _, ?_, noteDone_mem s n⟩
  rw [State.ring_setRing_same]
  exact congrArg (· ++ [e]) (noteDone_waiting s n k)

/-! A write of a device range that its checks let pass (R316, R318, R322). -/

theorem checkRange_of_checkClause {s : State} {fn a n : Nat} {wr : Bool} (h : s.checkClause fn wr a n = .ok ()) :
    s.checkRange fn wr false a n = .ok () := by
  unfold State.checkClause at h
  split at h
  · next hc => exact hc
  · next hne => exact absurd h (hne ())

theorem writeFor_device {s : State} {env : Env} {fn a : Nat} {bs : List Byte} (hlen : bs.length ≠ 0)
    (hc : s.checkClause fn true a bs.length = .ok ()) (hr : s.region a ≠ .host) (hp : s.partialPoison a bs.length = false) :
    s.writeFor env fn a bs = (s.devWrite a bs, .ok ()) := by
  have hheld := rangeHeld_of_checkRange (checkRange_of_checkClause hc)
  simp only [State.writeFor, hc, State.writeChecked, if_neg hlen, if_neg hr, hheld, hp, Bool.false_eq_true, if_false]

/-- Writing bytes changes no ring. -/
theorem devWrite_rng (s : State) (a : Nat) (bs : List Byte) : (s.devWrite a bs).rng = s.rng := by
  have hput (m : Memory) : (s.devPut a bs.length m).rng = s.rng := by
    unfold State.devPut State.endRsv
    split <;> rfl
  have hclear (b n : Nat) (l : List Nat) (t : State) : (l.foldl (clearWhole b a n) t).rng = t.rng := by
    induction l generalizing t with
    | nil => rfl
    | cons c l ih =>
      rw [List.foldl_cons, ih]
      unfold clearWhole State.markPoison
      split
      · split <;> rfl
      · rfl
  unfold State.devWrite
  dsimp only
  split
  · exact hput _
  · rw [hclear, hput]

/-- An entry written into a ring in device memory. -/
theorem writeEntry_device {s : State} {env : Env} {k : Nat} {e : CplEntry} (ht : (s.ring k).typ = .completion)
    (hc : s.checkClause (s.ring k).fn true ((s.ring k).base + (s.ring k).hw % (s.ring k).size * 16) 16 = .ok ())
    (hr : s.region ((s.ring k).base + (s.ring k).hw % (s.ring k).size * 16) ≠ .host)
    (hp : s.partialPoison ((s.ring k).base + (s.ring k).hw % (s.ring k).size * 16) 16 = false) :
    s.writeEntry env k e =
      (((((s.devWrite ((s.ring k).base + (s.ring k).hw % (s.ring k).size * 16)
        (bytesOfWords (entryWords (s.ring k) e))).setRing k { s.ring k with
          hw := idxNext (s.ring k).hw }).releaseOf e).moderate k e.irq), .ok ()) := by
  have hlen := bytesOfWords_entryWords_length (s.ring k) e
  have hnot : ¬ (s.ring k).typ = .nvmeCq := by simp [ht]
  have hring (a : Nat) (bs : List Byte) : (s.devWrite a bs).ring k = s.ring k := by
    rw [State.ring, devWrite_rng, State.ring]
  simp only [State.writeEntry, State.writeCq, if_neg hnot, Ring.entries,
    writeFor_device (by rw [hlen]; decide) (by rwa [hlen]) hr (by rwa [hlen]), hring]

/-! COMPLETION_POST (R77, R79, R88). -/

theorem exec_completionPost_quiet {s : State} {env : Env} {n st : Nat} {x : Slot} {res : Word} (hx : s.slot? n = some x)
    (hph : x.phase = .done st res) (ht : (s.ring x.ring).typ = .clause) (hq : c0Quiet (wordAt x.words 0) = true) (hst : st = 0) :
    exec (.completionPost (.slot n) env) s = .next (s.releaseSlot n) := by
  have hsq : ¬ (s.ring x.ring).typ = .nvmeSq := by simp [ht]
  have hwork : ¬ ((s.ring x.ring).typ ≠ .clause ∧
    ((s.ring x.ring).typ ≠ .workQueue ∨ (!s.earlierDone x.ring x.idx) = true)) := by simp [ht]
  rw [exec_completionPost, execCompletionPost]
  simp only [hx, hph, if_neg hsq, if_neg hwork]
  exact congrArg _ (if_pos ⟨hq, hst⟩)

theorem exec_completionPost_posts {s : State} {env : Env} {n st : Nat} {x : Slot} {res : Word} (hx : s.slot? n = some x)
    (hph : x.phase = .done st res) (ht : (s.ring x.ring).typ = .clause) (hq : c0Quiet (wordAt x.words 0) = false ∨ st ≠ 0) :
    exec (.completionPost (.slot n) env) s = .next (s.post env (16384 + (s.ring x.ring).cq)
      ⟨res, false, x.ring, x.fgen, st, c0Tag (wordAt x.words 0), c0Irq (wordAt x.words 0), (s.ring x.ring).fn, some n⟩) := by
  have hsq : ¬ (s.ring x.ring).typ = .nvmeSq := by simp [ht]
  have hwork : ¬ ((s.ring x.ring).typ ≠ .clause ∧
    ((s.ring x.ring).typ ≠ .workQueue ∨ (!s.earlierDone x.ring x.idx) = true)) := by simp [ht]
  rw [exec_completionPost, execCompletionPost]
  simp only [hx, hph, if_neg hsq, if_neg hwork]
  refine congrArg _ (if_neg ?_)
  rintro ⟨hquiet, h0⟩
  rcases hq with hq | hq
  · exact absurd hquiet (by rw [hq]; decide)
  · exact hq h0

theorem exec_completionPost_held {s : State} (env : Env) {k st : Nat} {h : HeldClause} {res : Word}
    (hh : (s.ring k).held = some h) (hd : h.done = some (st, res)) : exec (.completionPost (.ring k) env) s = .next (
      if c0Quiet (wordAt h.words 0) = true ∧ st = 0 then s.setRing k { s.ring k with held := none }
      else (s.setRing k { s.ring k with held := none }).post env (16384 + (s.ring k).cq)
        ⟨res, false, k, c0Fgen (wordAt h.words 0), st, c0Tag (wordAt h.words 0), c0Irq (wordAt h.words 0),
          (s.ring k).fn, none⟩) := by
  rw [exec_completionPost, execCompletionPost]
  simp only [hh, hd]
  rfl

/-! HELD_COMPLETION_POST (R78). -/

theorem exec_heldCompletionPost_dropped {s : State} {env : Env} {cq : Nat} {e : CplEntry} {rest : List CplEntry}
    (hw : (s.ring (16384 + cq)).waiting = e :: rest)
    (h : e.fgen ≠ s.fgen e.fn ∨ s.flag F.HEP_FN_STAT_DRAINING e.fn = true) :
    exec (.heldCompletionPost cq env) s = .next (((s.setRing (16384 + cq) { s.ring (16384 + cq) with
      waiting := rest }).inc F.RNG_FN_STAT_STALE_CPL e.fn).releaseOf e) := by
  rw [exec_heldCompletionPost, execHeldCompletionPost]
  simp only [cqKey, hw]
  exact congrArg _ (if_pos h)

theorem exec_heldCompletionPost_written {s s1 : State} {env : Env} {cq : Nat} {e : CplEntry} {rest : List CplEntry}
    (hw : (s.ring (16384 + cq)).waiting = e :: rest) (hgen : e.fgen = s.fgen e.fn)
    (hdrain : s.flag F.HEP_FN_STAT_DRAINING e.fn = false) (hroom : (s.ring (16384 + cq)).hasRoom = true)
    (h : s.writeEntry env (16384 + cq) e = (s1, .ok ())) : exec (.heldCompletionPost cq env) s =
      .next (s1.setRing (16384 + cq) { s1.ring (16384 + cq) with waiting := rest }) := by
  have hlive : ¬ (e.fgen ≠ s.fgen e.fn ∨ s.flag F.HEP_FN_STAT_DRAINING e.fn = true) := by simp [hgen, hdrain]
  rw [exec_heldCompletionPost, execHeldCompletionPost]
  simp only [cqKey, hw, hroom, h, if_neg hlive, Bool.not_true, Bool.false_eq_true, if_false]

/-! Moderation (R109, R110). -/

theorem moderate_off {s : State} {k : Nat} (irq : Bool) (h : (s.ring k).irqEn = false) : s.moderate k irq = s := by
  simp only [State.moderate, h, Bool.not_false, if_true]

theorem moderate_on {s : State} {k : Nat} (irq : Bool) (h : (s.ring k).irqEn = true) : s.moderate k irq =
    if irq = true ∨ (s.ring k).modCount ≤ (s.ring k).modPosted then
      (s.setRing k { s.ring k with modPosted := 0, modDue := none }).irqRequest (s.ring k).fn (s.ring k).vector
    else s.setRing k { s.ring k with modPosted := (s.ring k).modPosted + 1, modDue := (s.ring k).dueAfter s.tb.time } := by
  have hon : ¬ (!(s.ring k).irqEn) = true := by simp [h]
  simp only [State.moderate, if_neg hon, Nat.add_le_add_iff_right]

theorem dueAfter_of_time {r : Ring} (now : Nat) (h : r.modTime ≠ 0) :
    r.dueAfter now = some (min (now + r.modTime * 1000) (r.modDue.getD (now + r.modTime * 1000))) := if_neg h

theorem exec_moderationTimer_due {s : State} {cq t : Nat} (hd : (s.ring (16384 + cq)).modDue = some t)
    (hen : (s.ring (16384 + cq)).irqEn = true) : exec (.moderationTimer cq) s = .next (
      if t ≤ s.tb.time then (s.setRing (16384 + cq) { s.ring (16384 + cq) with modPosted := 0, modDue := none }).irqRequest
        (s.ring (16384 + cq)).fn (s.ring (16384 + cq)).vector
      else s) := by
  rw [exec_moderationTimer, execModerationTimer]
  simp only [cqKey, hd]
  exact congrArg _ (if_congr (and_iff_right hen) rfl rfl)

/-- Settles O32: the fields of an entry, and each way that it takes. -/
theorem completionPosting : Obligations.CompletionPosting := by
  unfold Obligations.CompletionPosting
  refine ⟨fun r e => entryWords_fields e, ?slot, ?ring, ?waiting, ?moderation, ?timer⟩
  case slot =>
    intro s env n x st res hx hph ht w r k c e a
    refine ⟨releaseSlot_of_slot hx, exec_completionPost_quiet hx hph ht, fun hq => ?_⟩
    have hexec := exec_completionPost_posts (env := env) hx hph ht hq
    refine ⟨fun h => hexec.trans (congrArg _ (post_dropped h)), fun hgen hdrain => ⟨fun hfull => ?_, fun hw hroom htyp hc hr hp => ?_⟩⟩
    · exact ⟨_, hexec.trans (congrArg _ (post_waits hgen hdrain hfull)), holdEntry_slot hx rfl⟩
    · exact hexec.trans (congrArg _ (post_written hgen hdrain hw hroom (writeEntry_device htyp hc hr hp)))
  case ring =>
    intro s env k h st res hh hd w s1
    rw [exec_completionPost_held env hh hd]
    refine ⟨fun hq h0 => congrArg _ (if_pos ⟨hq, h0⟩), fun hq => congrArg _ (if_neg ?_)⟩
    rintro ⟨hquiet, h0⟩
    rcases hq with hq | hq
    · exact absurd hquiet (by rw [hq]; decide)
    · exact hq h0
  case waiting =>
    exact fun s cq env e rest hw => ⟨exec_heldCompletionPost_dropped hw,
      fun hgen hdrain hroom s1 => exec_heldCompletionPost_written hw hgen hdrain hroom⟩
  case moderation =>
    intro s k irq r
    refine ⟨moderate_off irq, fun hen hreq => ?_, fun hen hirq hlt => ?_, fun h0 => if_pos h0, fun h0 hd => ?_,
      fun t h0 hd => ?_⟩
    · rw [moderate_on irq hen, if_pos hreq]
    · rw [moderate_on irq hen, if_neg (not_or.mpr ⟨by simp [hirq], Nat.not_le_of_lt hlt⟩)]
    · rw [dueAfter_of_time _ h0, hd, Option.getD_none, Nat.min_self]
    · rw [dueAfter_of_time _ h0, hd, Option.getD_some]
  case timer =>
    intro s cq t k r hd hen
    rw [exec_moderationTimer_due hd hen]
    exact ⟨fun h => by rw [if_pos h], fun h => by rw [if_neg (Nat.not_le_of_lt h)]⟩

end Sys2Proof.Machine
end

section
/-! Why the statement about COPY and FILL fails: a source range may go from one block size of ECC protection to another (R314, R317,
R657). -/

namespace Sys2Proof.Machine

/-- A COPY of 128 bytes whose source is the last 64 bytes below shared SRAM and the first 64 bytes of it. -/
def borderClause : Slot :=
  { ring := 0, idx := 0, fn := 0, phase := .dispatched
    words := [BitVec.ofNat 64 (2 <<< 8), BitVec.ofNat 64 (sharedBase - 64), 0, 128, 0, 0, 0, 0] }

/-- A capacity tier of 7,168 GiB, which ends where shared SRAM begins; the second block of 8 bytes of shared SRAM is poisoned. -/
def borderState : State :=
  { regs := [(F.MEM_CAP_STAT_INSTALLED_GIB.key 0, 7168), (F.FUM_PD_STAT_ON.key 0, 2 ^ 30 - 1)]
    rng := { slots := [(0, borderClause)] }
    mem := { poison := [(20 * 2 ^ 44 + 1, true)] } }

/-- The mover meets the poisoned block when it reads the piece in shared SRAM. -/
theorem borderCopy_poisoned : Leads (.copy 0 {}) borderState (fun t =>
    (t.slot? 0).map Slot.phase = some (.done St.DATA_POISONED 0)) := ⟨_, rfl, by decide +kernel⟩

/-- The source range, in blocks of the size at its first address, shows no poison. -/
theorem borderSource_clean : borderState.poisonIn (sharedBase - 64) 128 = [] := by decide +kernel

/-- Refutes O34: its clause about COPY looks for poison in the source by blocks of the size that the first address has
(`State.poisonIn`). A source that goes from the capacity tier, with blocks of 64 bytes, into shared SRAM, with blocks of 8
bytes, hides a poisoned block from it, and the COPY ends DATA_POISONED. No K7 of R312 has a capacity tier that reaches shared
SRAM, but the statement holds no hypothesis about the installed size. -/
theorem not_copyAndFill : ¬ Obligations.CopyAndFill := by
  unfold Obligations.CopyAndFill
  rintro ⟨-, copy⟩
  obtain ⟨-, moves⟩ := copy borderState 0 {} borderClause (by decide +kernel) (by decide) (by decide) (by decide) (by decide)
    (by decide)
  obtain ⟨⟨t, hexec, -, -, hslot⟩, -⟩ := moves (by decide) rfl rfl (by decide +kernel) (by decide) (by decide +kernel)
    (by decide +kernel) (by decide) (by decide) (by decide) borderSource_clean (by decide +kernel) rfl
  obtain ⟨u, hpoisoned, hphase⟩ := borderCopy_poisoned
  obtain rfl := Host.Outcome.next.inj (hexec.symm.trans hpoisoned)
  rw [hslot] at hphase
  exact absurd hphase (by decide)

end Sys2Proof.Machine
end

section
/-! The life cycle of a ring (R97 to R101, R110): each command by its checks, its result register, and what a drain leaves. -/

namespace Sys2Proof.Machine

/-! The result register of a command (R97). -/

theorem cmdResult_frame (s : State) (fn st key : Nat) :
    s.cmdResult fn st key = { s with regs := (s.cmdResult fn st key).regs } := by
  simp only [State.cmdResult, State.setFlag, State.setFld]

/-- Two fields of one function whose registers or bits differ have different keys. -/
theorem key_ne_of_place {f g : Fld} (h : g.off * 64 + g.lo ≠ f.off * 64 + f.lo) (i : Nat) : g.key i ≠ f.key i := by
  unfold Fld.key
  omega

theorem fld_setFld_place {f g : Fld} (h : g.off * 64 + g.lo ≠ f.off * 64 + f.lo) (s : State) (i v : Nat) :
    (s.setFld f i v).fld g i = s.fld g i := fld_setFld_ne (key_ne_of_place h i) s v

theorem fld_setFlag_place {f g : Fld} (h : g.off * 64 + g.lo ≠ f.off * 64 + f.lo) (s : State) (i : Nat) (b : Bool) :
    (s.setFlag f i b).fld g i = s.fld g i := fld_setFld_place h s i _

theorem flag_setFld_place {f g : Fld} (h : g.off * 64 + g.lo ≠ f.off * 64 + f.lo) (s : State) (i v : Nat) :
    (s.setFld f i v).flag g i = s.flag g i := flag_setFld_ne (key_ne_of_place h i) s v

theorem flag_setFlag_place {f g : Fld} (h : g.off * 64 + g.lo ≠ f.off * 64 + f.lo) (s : State) (i : Nat) (b : Bool) :
    (s.setFlag f i b).flag g i = s.flag g i := flag_setFld_place h s i _

theorem cmdResult_fields (s : State) {fn st key : Nat} (hst : st < 2 ^ 16) (hgen : (s.ring key).gen < 2 ^ 16) :
    let t := s.cmdResult fn st key
    t.fld F.RNG_RING_RESULT_STATUS fn = st ∧ t.fld F.RNG_RING_RESULT_RING_ID fn = key % 16384 ∧
    t.flag F.RNG_RING_RESULT_POOL fn = decide (16384 ≤ key) ∧ t.fld F.RNG_RING_RESULT_GEN fn = (s.ring key).gen ∧
    t.flag F.RNG_RING_RESULT_BUSY fn = false ∧ t.flag F.RNG_RING_RESULT_DONE fn = true := by
  intro t
  simp (disch := decide) only [t, State.cmdResult, fld_setFlag_place, fld_setFld_place, flag_setFld_place, flag_setFlag_place,
    fld_setFld_same, flag_setFlag_same, true_and, and_true]
  exact ⟨Nat.mod_eq_of_lt hst, Nat.mod_mod key _, Nat.mod_eq_of_lt hgen⟩


/-! RING_CREATE (R98). -/

/-- The first free ring of a side is free. -/
theorem freeRing_free {s : State} {cq : Bool} {key : Nat} (h : s.freeRing cq = some key) : (s.ring key).st = .free := by
  unfold State.freeRing at h
  obtain ⟨n, hn, rfl⟩ := Option.map_eq_some_iff.mp h
  have hfree := List.find?_some hn
  exact of_decide_eq_true hfree

/-- RING_CREATE once its domain is ready and the device is not switching tenants. -/
theorem exec_ringCreate_checked {s : State} {fn : Nat} (hc : s.cmdReady fn 0 = true) (hd : s.domain 25 = .ready)
    (ht : s.sec.tenancy = false) : exec (.ringCreate fn) s = .next (
      let s1 := s.setFlag F.RNG_RING_CMD_GO fn false
      let cq := s.fld F.RNG_RING_CFG_TYPE fn == 1
      let side := if cq then 16384 else 0
      let max := if cq then s.fld F.RNG_FN_QUOTA_CQ_MAX fn else s.fld F.RNG_FN_QUOTA_SQ_MAX fn
      let fail := fun st => (s1.cmdResult fn st side).setFld F.RNG_RING_RESULT_GEN fn 0
      if s.createInvalid fn then fail 0x19
      else (s.freeRing cq).elim (fail 0x18) (fun key =>
        if max ≤ s.ringCount fn cq then fail 0x18 else (s1.setRing key (s.newRing fn key)).cmdResult fn 0 key)) := by
  have hgo : s.cmdReady fn 0 = true ∧ s.domain 25 ≠ .waking := ⟨hc, by simp [hd]⟩
  have hon : ¬ s.domain 25 = .off := by simp [hd]
  have hten : ¬ s.sec.tenancy = true := by simp [ht]
  rw [exec_ringCreate, execRingCreate, when_pos hgo, if_neg hten, if_neg hon]
  dsimp only
  cases s.freeRing (s.fld F.RNG_RING_CFG_TYPE fn == 1) with
  | none => rfl
  | some key => rfl

/-! DESTROY and RESET (R99). -/

/-- Discarding a slot drops it, and brings none back. -/
theorem slot?_dropSlot (s : State) (n m : Nat) : (s.dropSlot n).slot? m = if m = n then none else s.slot? m := by
  split
  · next h => subst h; exact State.slot?_freeSlot_same s m
  · next h => exact State.slot?_freeSlot_ne s h

theorem foldl_dropSlot_slot? (l : List (Nat × Slot)) (s : State) (m : Nat) :
    (l.foldl (fun s x => s.dropSlot x.1) s).slot? m = if m ∈ l.map (fun x => x.1) then none else s.slot? m := by
  induction l generalizing s with
  | nil => simp
  | cons x l ih =>
    rw [List.foldl_cons, ih, slot?_dropSlot, List.map_cons]
    by_cases hm : m ∈ l.map (fun x => x.1) <;> by_cases hx : m = x.1 <;> simp [hm, hx]

theorem foldl_dropSlot_ring (l : List (Nat × Slot)) (s : State) (k : Nat) :
    (l.foldl (fun s x => s.dropSlot x.1) s).ring k = s.ring k := by
  induction l generalizing s with
  | nil => rfl
  | cons x l ih => rw [List.foldl_cons, ih]; rfl

theorem dropUndispatched_ring (s : State) (r k : Nat) : (s.dropUndispatched r).ring k = s.ring k := foldl_dropSlot_ring _ s k

/-- What a table finds it lists. -/
theorem Tbl.mem_of_find? {α : Type} {k : Nat} {v : α} {t : Tbl α} (h : Tbl.find? k t = some v) : (k, v) ∈ t := by
  induction t with
  | nil => cases h
  | cons e t ih =>
    obtain ⟨j, w⟩ := e
    rw [Tbl.find?] at h
    split at h
    · next hj => rw [hj, Option.some.inj h]; exact List.mem_cons_self
    · exact List.mem_cons_of_mem _ (ih h)

/-- Every entry of a ring that has not been dispatched loses its slot. -/
theorem dropUndispatched_slot? {s : State} {n : Nat} {x : Slot} (hx : s.slot? n = some x)
    (hph : x.phase = .fetching ∨ x.phase = .arrived) : (s.dropUndispatched x.ring).slot? n = none := by
  have hmem : n ∈ ((s.ringSlots x.ring).filter (fun x => decide (x.2.phase = .fetching ∨ x.2.phase = .arrived))).map
      (fun x => x.1) :=
    List.mem_map.mpr ⟨(n, x), List.mem_filter.mpr ⟨List.mem_filter.mpr ⟨Tbl.mem_of_find? hx, by simp⟩, by simpa using hph⟩, rfl⟩
  exact (foldl_dropSlot_slot? _ s n).trans (if_pos hmem)

theorem drainRing_ring (s : State) (key : Nat) (d : Bool) : (s.drainRing key d).ring key = { s.ring key with
    gen := genNext (s.ring key).gen, st := .draining, held := s.heldKept key, refetch := none, destroying := d } := by
  rw [State.drainRing, State.ring_setRing_same, dropUndispatched_ring]

theorem drainRing_ring_ne (s : State) {j key : Nat} (h : j ≠ key) (d : Bool) : (s.drainRing key d).ring j = s.ring j := by
  rw [State.drainRing, State.ring_setRing_ne _ h, dropUndispatched_ring]

theorem foldl_dropSlot_regs (l : List (Nat × Slot)) (s : State) :
    (l.foldl (fun s x => s.dropSlot x.1) s).regs = s.regs := by
  induction l generalizing s with
  | nil => rfl
  | cons x l ih => rw [List.foldl_cons, ih]; rfl

theorem drainRing_flag (s : State) (key : Nat) (d : Bool) (f : Fld) (i : Nat) : (s.drainRing key d).flag f i = s.flag f i :=
  flag_of_regs (foldl_dropSlot_regs _ s) f i

/-- The state after steps 1 to 3 of R99: GO clear, the ring draining for the command, BUSY set. -/
def State.drainBegun (s : State) (fn : Nat) (d : Bool) : State :=
  (((s.setFlag F.RNG_RING_CMD_GO fn false).drainRing (s.cmdRing fn) d).markCmd (s.cmdRing fn)).setFlag
    F.RNG_RING_RESULT_BUSY fn true

theorem drainBegun_leaves (s : State) (fn : Nat) (d : Bool) : let t := s.drainBegun fn d
    let key := s.cmdRing fn
    (t.ring key).st = .draining ∧ (t.ring key).gen = genNext (s.ring key).gen ∧ (t.ring key).destroying = d ∧
      (t.ring key).byCmd = true ∧ t.flag F.RNG_RING_RESULT_BUSY fn = true ∧ t.flag F.RNG_RING_CMD_GO fn = false ∧
      (∀ n x, s.slot? n = some x → x.ring = key → (x.phase = .fetching ∨ x.phase = .arrived) → t.slot? n = none) ∧
      (∀ j, j ≠ key → t.ring j = s.ring j) := by
  intro t key
  have hring : t.ring key = { s.ring key with
      gen := genNext (s.ring key).gen, st := .draining, held := s.heldKept key, refetch := none, destroying := d
      byCmd := true } := by
    simp only [t, key, State.drainBegun, State.markCmd, State.ring_setFlag, State.ring_setRing_same, drainRing_ring]
    rfl
  rw [hring]
  refine ⟨rfl, rfl, rfl, rfl, flag_setFlag_same rfl _ _ _, ?_, fun n x hx hk hph => ?_, fun j hj => ?_⟩
  · simp (disch := decide) only [t, State.drainBegun, State.markCmd, flag_setFlag_place, State.setRing_flag, drainRing_flag,
      flag_setFlag_same]
  · have hdrop := dropUndispatched_slot? (s := s.setFlag F.RNG_RING_CMD_GO fn false) hx hph
    rw [hk] at hdrop
    exact hdrop
  · rw [show t.ring j = ((s.setFlag F.RNG_RING_CMD_GO fn false).drainRing key d).ring j from
      State.ring_setRing_ne _ hj _, drainRing_ring_ne _ hj]
    rfl

/-! Each command by its checks. -/

theorem exec_ringDestroy_ready {s : State} {fn : Nat} (hc : s.cmdReady fn 1 = true) : exec (.ringDestroy fn) s = .next (
    if s.sec.tenancy = true ∨ (!s.ownRing fn (s.cmdRing fn)) = true ∨ s.cqNamed fn (s.cmdRing fn) = true ∨
        (s.ring (s.cmdRing fn)).st = .draining then
      (s.setFlag F.RNG_RING_CMD_GO fn false).cmdResult fn 0x1A (s.cmdRing fn)
    else s.drainBegun fn true) := by
  rw [exec_ringDestroy, execRingDestroy, when_pos hc]
  rfl

theorem exec_ringReset_ready {s : State} {fn : Nat} (hc : s.cmdReady fn 2 = true) : exec (.ringReset fn) s = .next (
    if s.sec.tenancy = true ∨ (!s.ownRing fn (s.cmdRing fn)) = true ∨ (s.ring (s.cmdRing fn)).st = .draining then
      (s.setFlag F.RNG_RING_CMD_GO fn false).cmdResult fn 0x1A (s.cmdRing fn)
    else s.drainBegun fn false) := by
  rw [exec_ringReset, execRingReset, when_pos hc]
  rfl

theorem exec_resume_ready {s : State} {fn : Nat} (hc : s.cmdReady fn 3 = true) : exec (.resume fn) s = .next (
    let key := s.cmdRing fn
    let r := s.ring key
    let s1 := s.setFlag F.RNG_RING_CMD_GO fn false
    if s.sec.tenancy = true ∨ (!s.ownRing fn key) = true ∨ r.st ≠ .halted then s1.cmdResult fn 0x1A key
    else (s1.setRing key { r with
      st := .active, haltIdx := none
      refetch := if key < 16384 ∧ s.flag F.RNG_RING_CMD_RETRY fn = true then r.haltIdx else none }).cmdResult fn 0 key) := by
  rw [exec_resume, execResume, when_pos hc]
  rfl

theorem exec_setPrio_ready {s : State} {fn : Nat} (hc : s.cmdReady fn 4 = true) : exec (.setPrio fn) s = .next (
    let key := s.cmdRing fn
    let s1 := s.setFlag F.RNG_RING_CMD_GO fn false
    if s.sec.tenancy = true ∨ (!s.ownRing fn key) = true then s1.cmdResult fn 0x1A key
    else (s1.setRing key { s.ring key with
      prio := max (s.fld F.RNG_RING_CFG_PRIO fn) (s.fld F.RNG_FN_QUOTA_PRIO_MIN fn) }).cmdResult fn 0 key) := by
  rw [exec_setPrio, execSetPrio, when_pos hc]
  rfl

theorem exec_setMod_ready {s : State} {fn : Nat} (hc : s.cmdReady fn 5 = true) : exec (.setMod fn) s = .next (
    let key := s.cmdRing fn
    let s1 := s.setFlag F.RNG_RING_CMD_GO fn false
    if s.sec.tenancy = true ∨ (!s.ownRing fn key) = true then s1.cmdResult fn 0x1A key
    else (s1.setRing key { s.ring key with
      modCount := s.fld F.RNG_RING_CFG_MOD_COUNT fn
      modTime := s.fld F.RNG_RING_CFG_MOD_TIME fn }).cmdResult fn 0 key) := by
  rw [exec_setMod, execSetMod, when_pos hc]
  rfl

/-- RING_DRAIN_DONE of a ring with no work left (R99, step 4). -/
theorem exec_ringDrainDone_drained {s : State} {pool : Bool} {ring : Nat}
    (hst : (s.ring (ring + if pool then 16384 else 0)).st = .draining)
    (hin : s.inflight (ring + if pool then 16384 else 0) = 0)
    (hheld : (s.ring (ring + if pool then 16384 else 0)).held = none)
    (hdrain : s.flag F.HEP_FN_STAT_DRAINING (s.ring (ring + if pool then 16384 else 0)).fn = false) :
    exec (.ringDrainDone pool ring) s = .next (
      let key := ring + if pool then 16384 else 0
      let s1 := s.setRing key (s.ring key).drained
      if (s.ring key).byCmd = true then s1.cmdResult (s.ring key).fn 0 key else s1) := by
  rw [exec_ringDrainDone, execRingDrainDone]
  exact when_pos ⟨hst, hin, by rw [hheld]; rfl, hdrain⟩ _ _

/-- Settles O35: each command is followed through its checks, and a drain by the rules of rings and slots. -/
theorem ringLifeCycle : Obligations.RingLifeCycle := by
  unfold Obligations.RingLifeCycle
  refine ⟨?create, fun s fn key => ⟨rfl, rfl, rfl, rfl, rfl, Nat.le_max_right _ _⟩, ?result, ?refused, ?drain, ?drained, ?other⟩
  case create =>
    intro s fn hc hd ht cq side max s1
    rw [exec_ringCreate_checked hc hd ht]
    have hcq : (s.fld F.RNG_RING_CFG_TYPE fn == 1) = cq := rfl
    dsimp only
    rw [hcq]
    refine ⟨fun hbad => congrArg _ (if_pos hbad), fun hok hnone => ?_, fun key hok hfree hlt => ⟨freeRing_free hfree, ?_⟩⟩
    · rw [if_neg (by simp [hok])]
      rcases hnone with hnone | hfull
      · rw [hnone]
        rfl
      · cases s.freeRing cq with
        | none => rfl
        | some key => exact congrArg _ (if_pos hfull)
    · rw [if_neg (by simp [hok]), hfree]
      exact congrArg _ (if_neg (Nat.not_le_of_lt hlt))
  case result =>
    intro s fn st key _ _ hst hgen t
    obtain ⟨hstatus, hid, hpool, hg, hbusy, hdone⟩ := cmdResult_fields s (fn := fn) hst hgen
    exact ⟨hstatus, hid, hpool, hg, hbusy, hdone, cmdResult_frame s fn st key⟩
  case refused =>
    intro s fn op mk hmk hc hwhy
    rcases hmk with ⟨rfl, rfl⟩ | ⟨rfl, rfl⟩ | ⟨rfl, rfl⟩ | ⟨rfl, rfl⟩ | ⟨rfl, rfl⟩
    · rw [exec_ringDestroy_ready hc, if_pos]
      rcases hwhy with h | h | ⟨-, h⟩ <;> simp [h]
    · rw [exec_ringReset_ready hc, if_pos]
      rcases hwhy with h | h | ⟨-, h⟩ <;> simp [h]
    · rw [exec_resume_ready hc]
      refine congrArg _ (if_pos ?_)
      rcases hwhy with h | h | ⟨h, -⟩
      · exact .inl h
      · exact .inr (.inl (by simp [h]))
      · omega
    · rw [exec_setPrio_ready hc]
      refine congrArg _ (if_pos ?_)
      rcases hwhy with h | h | ⟨h, -⟩
      · exact .inl h
      · exact .inr (by simp [h])
      · omega
    · rw [exec_setMod_ready hc]
      refine congrArg _ (if_pos ?_)
      rcases hwhy with h | h | ⟨h, -⟩
      · exact .inl h
      · exact .inr (by simp [h])
      · omega
  case drain =>
    intro s fn op d mk hmk hc ht hown hst
    rcases hmk with ⟨rfl, rfl, rfl, hn⟩ | ⟨rfl, rfl, rfl⟩
    · exact ⟨_, (exec_ringDestroy_ready hc).trans (congrArg _ (if_neg (by simp [ht, hown, hst, hn]))), drainBegun_leaves s fn true⟩
    · exact ⟨_, (exec_ringReset_ready hc).trans (congrArg _ (if_neg (by simp [ht, hown, hst]))), drainBegun_leaves s fn false⟩
  case drained =>
    intro s pool ring key r hst hin hheld hdrain s1
    rw [exec_ringDrainDone_drained hst hin hheld hdrain]
    exact ⟨fun h => congrArg _ (if_pos h), fun h => congrArg _ (if_neg (by rw [show (s.ring _).byCmd = false from h]; decide))⟩
  case other =>
    intro s fn ht hown key r s1
    refine ⟨fun hc hst => ?_, fun hc hst => ?_, fun hc => ?_, fun hc => ?_⟩
    · exact (exec_resume_ready hc).trans (congrArg _ (if_neg (by simp [ht, hown, key, r, hst])))
    · exact (exec_resume_ready hc).trans (congrArg _ (if_pos (.inr (.inr hst))))
    · exact (exec_setPrio_ready hc).trans (congrArg _ (if_neg (by simp [ht, hown])))
    · exact (exec_setMod_ready hc).trans (congrArg _ (if_neg (by simp [ht, hown])))

end Sys2Proof.Machine
end

section
/-! Clauses that the ring engine executes itself (R103 to R108): a held clause that completes changes its ring alone, and so does
every list of rings whose held clauses complete together. -/

namespace Sys2Proof.Machine

/-! The held clause of a ring. -/

theorem heldDone_success {s : State} {r : Nat} {h : HeldClause} (hr : (s.ring r).held = some h) (res : Word) :
    s.heldDone r 0 res = s.setRing r { s.ring r with
      held := some { h with done := some (0, res) }
      disp := if h.idx = (s.ring r).disp then idxNext (s.ring r).disp else (s.ring r).disp } := by
  unfold State.heldDone
  dsimp only
  rw [hr]
  rfl

/-- A held clause that `heldAt` finds is the ring's, of that class and opcode and not complete. -/
theorem held_of_heldAt {s : State} {r cls op : Nat} {h : HeldClause} (hat : s.heldAt r cls op = some h) :
    (s.ring r).held = some h ∧ c0Class (wordAt h.words 0) = cls ∧ c0Op (wordAt h.words 0) = op := by
  unfold State.heldAt at hat
  split at hat
  · next g hg =>
    dsimp only at hat
    split at hat
    · next hc =>
      obtain ⟨-, hcls, hop, -⟩ := hc
      obtain rfl := Option.some.inj hat
      exact ⟨hg, hcls, hop⟩
    · cases hat
  · cases hat

/-- A ring that holds a clause is listed. -/
theorem listed_of_held {s : State} {r : Nat} {h : HeldClause} (hr : (s.ring r).held = some h) :
    r ∈ s.rng.rings.map (fun x => x.1) := by
  cases hf : Tbl.find? r s.rng.rings with
  | none =>
    rw [State.ring, Tbl.getD, hf] at hr
    cases hr
  | some g => exact List.mem_map.mpr ⟨(r, g), Tbl.mem_of_find? hf, rfl⟩

/-! Held clauses that complete together. -/

/-- The held clause of ring `r`, if it has one, completes with SUCCESS and the RESULT that `res` gives. -/
def State.completeHeld (res : HeldClause → Word) (t : State) (r : Nat) : State :=
  match (t.ring r).held with
  | some o => t.heldDone r 0 (res o)
  | none => t

theorem completeHeld_frame (res : HeldClause → Word) (t : State) (r : Nat) :
    t.completeHeld res r = { t with rng := { t.rng with rings := (t.completeHeld res r).rng.rings } } := by
  unfold State.completeHeld
  split
  · next h => rw [heldDone_success h]; rfl
  · rfl

theorem ring_completeHeld_ne (res : HeldClause → Word) (t : State) {r q : Nat} (h : q ≠ r) :
    (t.completeHeld res r).ring q = t.ring q := by
  unfold State.completeHeld
  split
  · next ho => rw [heldDone_success ho, State.ring_setRing_ne _ h]
  · rfl

theorem held_completeHeld_same (res : HeldClause → Word) {t : State} {r : Nat} {o : HeldClause}
    (h : (t.ring r).held = some o) : ((t.completeHeld res r).ring r).held = some { o with done := some (0, res o) } := by
  unfold State.completeHeld
  rw [h]
  dsimp only
  rw [heldDone_success h, State.ring_setRing_same]

theorem foldl_completeHeld_frame (res : HeldClause → Word) (l : List Nat) (t : State) :
    l.foldl (State.completeHeld res) t =
      { t with rng := { t.rng with rings := (l.foldl (State.completeHeld res) t).rng.rings } } := by
  induction l generalizing t with
  | nil => rfl
  | cons x l ih =>
    rw [List.foldl_cons, ih (t.completeHeld res x), completeHeld_frame res t x]

theorem ring_foldl_completeHeld_of_not_mem (res : HeldClause → Word) {l : List Nat} {r : Nat} (h : r ∉ l) (t : State) :
    (l.foldl (State.completeHeld res) t).ring r = t.ring r := by
  induction l generalizing t with
  | nil => rfl
  | cons x l ih =>
    rw [List.mem_cons, not_or] at h
    rw [List.foldl_cons, ih h.2, ring_completeHeld_ne res t h.1]

/-- A RESULT that does not look at the completion stays the same when a ring is listed more than once. -/
theorem held_foldl_completeHeld {res : HeldClause → Word} (hres : ∀ o d, res { o with done := d } = res o) {l : List Nat}
    {r : Nat} (hl : r ∈ l) {t : State} {o : HeldClause} (h : (t.ring r).held = some o) :
    ((l.foldl (State.completeHeld res) t).ring r).held = some { o with done := some (0, res o) } := by
  induction l generalizing t o with
  | nil => cases hl
  | cons x l ih =>
    rw [List.foldl_cons]
    by_cases hx : r = x
    · subst hx
      have hstep := held_completeHeld_same res h
      by_cases hm : r ∈ l
      · exact (ih hm hstep).trans (congrArg (fun v => some { o with done := some (0, v) }) (hres o _))
      · rw [ring_foldl_completeHeld_of_not_mem res hm, hstep]
    · exact ih ((List.mem_cons.mp hl).resolve_left hx) (by rw [ring_completeHeld_ne res t hx, h])

/-! Barriers (R104, R105). -/

theorem mem_barrierInsert (s : State) (r q : Nat) (l : List Nat) : q ∈ s.barrierInsert r l ↔ q = r ∨ q ∈ l := by
  induction l with
  | nil => simp [State.barrierInsert]
  | cons x l ih =>
    rw [State.barrierInsert]
    split
    · exact List.mem_cons
    · rw [List.mem_cons, ih, List.mem_cons]
      exact or_left_comm

theorem barrierInsert_sorted (s : State) (r : Nat) {l : List Nat}
    (h : l.Pairwise (fun p q => s.barrierSeq p ≤ s.barrierSeq q)) :
    (s.barrierInsert r l).Pairwise (fun p q => s.barrierSeq p ≤ s.barrierSeq q) := by
  induction l with
  | nil => exact List.pairwise_singleton _ _
  | cons x l ih =>
    obtain ⟨hx, hl⟩ := List.pairwise_cons.mp h
    rw [State.barrierInsert]
    split
    · next hlt =>
      refine List.pairwise_cons.mpr ⟨fun q hq => ?_, h⟩
      rcases List.mem_cons.mp hq with rfl | hq
      · exact hlt.le
      · exact hlt.le.trans (hx q hq)
    · next hge =>
      refine List.pairwise_cons.mpr ⟨fun q hq => ?_, ih hl⟩
      rcases (mem_barrierInsert s r q l).mp hq with rfl | hq
      · exact Nat.le_of_not_lt hge
      · exact hx q hq

theorem mem_foldl_barrierInsert (s : State) (l acc : List Nat) (q : Nat) :
    q ∈ l.foldl (fun a r => s.barrierInsert r a) acc ↔ q ∈ l ∨ q ∈ acc := by
  induction l generalizing acc with
  | nil => simp
  | cons x l ih =>
    rw [List.foldl_cons, ih, mem_barrierInsert, List.mem_cons]
    tauto

theorem foldl_barrierInsert_sorted (s : State) (l : List Nat) {acc : List Nat}
    (h : acc.Pairwise (fun p q => s.barrierSeq p ≤ s.barrierSeq q)) :
    (l.foldl (fun a r => s.barrierInsert r a) acc).Pairwise (fun p q => s.barrierSeq p ≤ s.barrierSeq q) := by
  induction l generalizing acc with
  | nil => exact h
  | cons x l ih => exact ih (barrierInsert_sorted s x h)

theorem barrierReady_sorted (s : State) (fn id : Nat) :
    (s.barrierReady fn id).Pairwise (fun p q => s.barrierSeq p ≤ s.barrierSeq q) :=
  foldl_barrierInsert_sorted s _ List.Pairwise.nil

theorem mem_barrierReady {s : State} {fn id r : Nat} : r ∈ s.barrierReady fn id ↔
    r ∈ s.rng.rings.map (fun x => x.1) ∧ ∃ o, s.barrierOf fn id r = some o ∧ s.earlierDone r o.idx = true := by
  rw [State.barrierReady, mem_foldl_barrierInsert, State.barrierRings, List.mem_filter, List.mem_filter]
  cases s.barrierOf fn id r <;> simp

theorem held_of_barrierOf {s : State} {fn id r : Nat} {o : HeldClause} (h : s.barrierOf fn id r = some o) :
    (s.ring r).held = some o := by
  unfold State.barrierOf at h
  split at h
  · exact (held_of_heldAt (Option.eq_some_of_filter_eq_some h)).1
  · cases h

/-- BARRIER on a ring that holds a well-formed one (R104, R105). -/
theorem exec_barrier_held {s : State} {ring : Nat} {h : HeldClause} (hck : s.ckHolds ring = false)
    (hat : s.heldAt ring 7 2 = some h) (hbad : barrierBad h = false) : exec (.barrier ring) s = .next (
      if h.mis = true then s.heldDone ring 0x16 0
      else
        let ready := s.barrierReady (s.ring ring).fn (barrierId h)
        let rs := ready.take (barrierN h)
        if barrierN h ≤ ready.length then
          if s.cutsHere (s.ring ring).fn rs = true then
            (({ s with ckp := { s.ckp with
                job := s.ckp.job.map (fun j => { j with rings := rs, step := wordAt h.words 2 }) } } : State).setCkState 2).ckKick
          else rs.foldl (State.completeHeld (fun o => o.words.getD 2 0)) s
        else s) := by
  rw [exec_barrier, execBarrier, if_neg (by simp [hck]), hat]
  exact congrArg _ (if_neg (by simp [hbad]))

/-! Counters (R107, R108). -/

/-- A written counter completes the WAITs that it satisfies, and nothing else. -/
theorem updateCounter_eq (s : State) (n : Nat) (w : Word) : s.updateCounter n w =
    ((s.rng.rings.map (fun x => x.1)).filter (fun r => s.waitSatisfied r n w)).foldl
      (State.completeHeld (fun _ => w)) (s.setCounter n w) := by
  have hstep : ∀ (t : State) (r : Nat), t.heldDone r 0 w = t.completeHeld (fun _ => w) r := by
    intro t r
    unfold State.completeHeld
    split
    · rfl
    · next h => rw [State.heldDone, h]
  rw [List.foldl_filter, List.foldl_map, State.updateCounter]
  congr 1
  funext t x
  rw [← hstep]
  rfl

theorem updateCounter_frame (s : State) (n : Nat) (w : Word) : s.updateCounter n w =
    { s.setCounter n w with rng := { (s.setCounter n w).rng with rings := (s.updateCounter n w).rng.rings } } := by
  rw [updateCounter_eq]
  exact foldl_completeHeld_frame _ _ _

theorem ring_updateCounter_of_not_satisfied {s : State} {r n : Nat} {w : Word} (h : s.waitSatisfied r n w = false) :
    (s.updateCounter n w).ring r = s.ring r := by
  rw [updateCounter_eq, ring_foldl_completeHeld_of_not_mem]
  · rfl
  · simp [h]

theorem held_updateCounter_of_satisfied {s : State} {r n : Nat} {w : Word} (h : s.waitSatisfied r n w = true) {g : HeldClause}
    (hg : (s.ring r).held = some g) : ((s.updateCounter n w).ring r).held = some { g with done := some (0, w) } := by
  rw [updateCounter_eq]
  exact held_foldl_completeHeld (fun _ _ => rfl) (List.mem_filter.mpr ⟨listed_of_held hg, h⟩) hg

/-- Only a WAIT is satisfied by a counter. -/
theorem waitSatisfied_of_held_op {s : State} {r : Nat} {h : HeldClause} (hr : (s.ring r).held = some h)
    (hop : c0Op (wordAt h.words 0) ≠ 0) (n : Nat) (w : Word) : s.waitSatisfied r n w = false := by
  unfold State.waitSatisfied
  dsimp only
  rw [hr]
  simp [hop]

/-- A clause that writes counter `n` and then completes: what SIGNAL and SET leave. -/
theorem updateCounter_heldDone {s : State} {ring cls op n : Nat} {h : HeldClause} (hat : s.heldAt ring cls op = some h)
    (hop : op ≠ 0) (w res : Word) : let t := (s.updateCounter n w).heldDone ring 0 res
    t.counter n = w ∧ (∀ m, m ≠ n → t.counter m = s.counter m) ∧
    (t.ring ring).held = some { h with done := some (0, res) } ∧
    (∀ r, r ≠ ring → s.waitSatisfied r n w = false → t.ring r = s.ring r) ∧
    (∀ r g, s.waitSatisfied r n w = true → (s.ring r).held = some g →
      (t.ring r).held = some { g with done := some (0, w) }) ∧
    t = { s with rng := { s.rng with rings := t.rng.rings, counters := t.rng.counters } } := by
  intro t
  obtain ⟨hheld, -, hcop⟩ := held_of_heldAt hat
  have hself : s.waitSatisfied ring n w = false := waitSatisfied_of_held_op hheld (hcop ▸ hop) n w
  have hheld' : ((s.updateCounter n w).ring ring).held = some h := by
    rw [ring_updateCounter_of_not_satisfied hself, hheld]
  have ht : t = (s.updateCounter n w).setRing ring _ := heldDone_success hheld' res
  have hcounters : t.rng.counters = (s.setCounter n w).rng.counters := by
    rw [ht, updateCounter_frame]
    rfl
  have hframe : t = { s with rng := { s.rng with rings := t.rng.rings, counters := t.rng.counters } } := by
    rw [ht, updateCounter_frame]
    rfl
  refine ⟨?_, fun m hm => ?_, ?_, fun r hr hw => ?_, fun r g hw hg => ?_, hframe⟩
  · exact (congrArg (fun c => Tbl.getD c n 0) hcounters).trans (State.counter_setCounter_same s n w)
  · exact (congrArg (fun c => Tbl.getD c m 0) hcounters).trans (Tbl.getD_put_ne hm _ _ _ _)
  · rw [ht, State.ring_setRing_same]
  · rw [ht, State.ring_setRing_ne _ hr, ring_updateCounter_of_not_satisfied hw]
  · have hr : r ≠ ring := by
      rintro rfl
      rw [hself] at hw
      cases hw
    rw [ht, State.ring_setRing_ne _ hr, held_updateCounter_of_satisfied hw hg]

theorem waitOk_of_operands {h : HeldClause} (hev : evtOperand h = true) (h3 : field (wordAt h.words 3) 63 32 = 0)
    (hz : zeroFrom h.words 4 = true) : waitOk h = true := by
  simp [waitOk, hev, h3, hz]

/-- WAIT on a counter in range (R107). -/
theorem exec_wait_held {s : State} {ring n : Nat} {h : HeldClause} (hat : s.heldAt ring 8 0 = some h) (hok : waitOk h = true)
    (hn : s.evtNumber (s.ring ring).fn (field (wordAt h.words 1) 12 0) = some n) : exec (.wait ring) s = .next (
      if wordAt h.words 2 ≤ (s.counter n).toNat then s.heldDone ring 0 (s.counter n) else s) := by
  rw [exec_wait, execWait, hat]
  dsimp only
  rw [if_neg (by simp [hok]), hn]
  rfl

/-- WAIT_TIMEOUT of a WAIT whose timeout has passed (R108). -/
theorem exec_waitTimeout_passed {s : State} {ring n : Nat} {h : HeldClause} (hat : s.heldAt ring 8 0 = some h)
    (hok : waitOk h = true) (hn : s.evtNumber (s.ring ring).fn (field (wordAt h.words 1) 12 0) = some n)
    (hus : field (wordAt h.words 3) 31 0 ≠ 0)
    (hdue : s.heldFrom ring h + field (wordAt h.words 3) 31 0 * 1000 ≤ s.tb.time) : exec (.waitTimeout ring) s = .next (
      if wordAt h.words 2 ≤ (s.counter n).toNat then s.heldDone ring 0 (s.counter n)
      else s.heldDone ring 0x15 (s.counter n)) := by
  rw [exec_waitTimeout, execWaitTimeout, hat]
  dsimp only
  rw [hn]
  exact congrArg _ (if_pos ⟨hus, hok, hdue⟩)

/-- SIGNAL on a counter in range, every earlier clause of its ring complete (R107). -/
theorem exec_signal_held {s : State} {ring n : Nat} {h : HeldClause} (hat : s.heldAt ring 8 1 = some h)
    (hev : evtOperand h = true) (hz : zeroFrom h.words 3 = true)
    (hn : s.evtNumber (s.ring ring).fn (field (wordAt h.words 1) 12 0) = some n) (hdone : s.earlierDone ring h.idx = true) :
    exec (.signal ring) s = .next ((s.updateCounter n (s.counter n + h.words.getD 2 0)).heldDone ring 0
      (s.counter n + h.words.getD 2 0)) := by
  rw [exec_signal, execSignal, hat]
  dsimp only
  rw [if_neg (by simp [hev, hz]), hn]
  exact congrArg _ (if_pos hdone)

/-- SET on a counter in range, every earlier clause of its ring complete (R107). -/
theorem exec_set_held {s : State} {ring n : Nat} {h : HeldClause} (hat : s.heldAt ring 8 2 = some h)
    (hev : evtOperand h = true) (hz : zeroFrom h.words 3 = true)
    (hn : s.evtNumber (s.ring ring).fn (field (wordAt h.words 1) 12 0) = some n) (hdone : s.earlierDone ring h.idx = true) :
    exec (.set ring) s = .next ((s.updateCounter n (h.words.getD 2 0)).heldDone ring 0 (s.counter n)) := by
  rw [exec_set, execSet, hat]
  dsimp only
  rw [if_neg (by simp [hev, hz]), hn]
  exact congrArg _ (if_pos hdone)

/-! NOP and the fences (R103, R104). -/

theorem exec_nopClause_held {s : State} {ring : Nat} {h : HeldClause} (hat : s.heldAt ring 0 0 = some h) :
    exec (.nopClause ring) s =
      .next (if zeroFrom h.words 1 = true then s.heldDone ring 0 s.now else s.heldDone ring 0x10 0) := by
  rw [exec_nopClause, execNopClause, hat]
  rfl

theorem exec_fence_held {s : State} {ring : Nat} {h : HeldClause} (hat : s.heldAt ring 7 0 = some h)
    (hz : zeroFrom h.words 1 = true) :
    exec (.fence ring) s = .next (if s.earlierDone ring h.idx = true then s.heldDone ring 0 s.now else s) := by
  rw [exec_fence, execFence, hat]
  exact congrArg _ (if_neg (by simp [hz]))

theorem exec_fenceFn_held {s : State} {ring : Nat} {h : HeldClause} (hat : s.heldAt ring 7 1 = some h)
    (hz : zeroFrom h.words 1 = true) :
    exec (.fenceFn ring) s = .next (if s.fnDone (s.ring ring).fn h.seq = true then s.heldDone ring 0 s.now else s) := by
  rw [exec_fenceFn, execFenceFn, hat]
  exact congrArg _ (if_neg (by simp [hz]))

/-- Settles O33: each clause by its checks; barriers and counters by the fold that completes held clauses together. -/
theorem ringClauses : Obligations.RingClauses := by
  unfold Obligations.RingClauses
  refine ⟨fun s r h res hr => ?done, fun s ring h hat hz => ?nop, fun s ring h hat hz => ?fence, fun s ring h hat hz => ?fenceFn,
    ?barrier, fun s ring h n hat hev h3 hz hn => ?wait, fun s ring h n hat hev hz hn hdone => ?signal,
    fun s ring h n hat hev hz hn hdone => ?set, fun s ring h hat hz => ?nopBad⟩
  case done =>
    rw [heldDone_success hr]
    by_cases hidx : h.idx = (s.ring r).disp
    · rw [if_pos hidx, if_pos hidx, hidx]
    · rw [if_neg hidx, if_neg hidx]
  case nop => rw [exec_nopClause_held hat, if_pos hz]
  case nopBad => rw [exec_nopClause_held hat, if_neg (by simp [hz])]
  case fence =>
    rw [exec_fence_held hat hz]
    exact ⟨fun hd => by rw [if_pos hd], fun hd => by rw [if_neg (by simp [hd])]⟩
  case fenceFn =>
    rw [exec_fenceFn_held hat hz]
    exact ⟨fun hd => by rw [if_pos hd], fun hd => by rw [if_neg (by simp [hd])]⟩
  case barrier =>
    intro s ring h hck hat hbad fn of rs first
    have hexec := exec_barrier_held hck hat hbad
    refine ⟨fun hmis => ?_, fun r => mem_barrierReady, barrierReady_sorted s fn _, fun hmis hlen hcut => ?_, fun hmis hlen => ?_⟩
    · rw [hexec, if_pos hmis]
    · rw [if_neg (by simp [hmis])] at hexec
      have hnot : ¬ s.cutsHere fn first = true := by
        rw [hcut]
        decide
      refine ⟨_, hexec.trans (congrArg _ ((if_pos hlen).trans (if_neg hnot))),
        fun r hr o ho => ?_, fun r hr => ring_foldl_completeHeld_of_not_mem _ hr s, foldl_completeHeld_frame _ _ s⟩
      exact held_foldl_completeHeld (fun _ _ => rfl) hr (held_of_barrierOf ho)
    · rw [if_neg (by simp [hmis])] at hexec
      exact hexec.trans (congrArg _ (if_neg (Nat.not_le_of_lt hlen)))
  case wait =>
    have hok := waitOk_of_operands hev h3 hz
    have hexec := exec_wait_held hat hok hn
    refine ⟨fun hf => if_neg (by simp [hf]), fun hf => if_pos hf, fun hle => ⟨?_, fun hus hdue => ?_⟩,
      fun hlt => ⟨?_, fun hus hdue => ?_⟩⟩
    · rw [hexec, if_pos hle]
    · rw [exec_waitTimeout_passed hat hok hn hus hdue, if_pos hle]
    · rw [hexec, if_neg (Nat.not_le_of_lt hlt)]
    · rw [exec_waitTimeout_passed hat hok hn hus hdue, if_neg (Nat.not_le_of_lt hlt)]
  case signal => exact ⟨_, exec_signal_held hat hev hz hn hdone, updateCounter_heldDone hat (by decide) _ _⟩
  case set => exact ⟨_, exec_set_held hat hev hz hn hdone, updateCounter_heldDone hat (by decide) _ _⟩

end Sys2Proof.Machine
end

section
/-! NVMe controllers and their admin commands (R376 to R380, R389 to R393, R399). -/

namespace Sys2Proof.Machine

/-! A new queue takes the first free identifier of its side (R377). -/

theorem freeRing_side {s : State} {cq : Bool} {key : Nat} (h : s.freeRing cq = some key) : 16384 ≤ key ↔ cq = true := by
  unfold State.freeRing at h
  obtain ⟨n, hn, rfl⟩ := Option.map_eq_some_iff.mp h
  have hlt : n < 16384 := List.mem_range.mp (List.mem_of_find?_eq_some hn)
  cases cq
  · simp [hlt]
  · simp

theorem newQueue_some {s t : State} {fn key : Nat} {q : Ring} {cq : Bool} (h : s.newQueue fn q cq = some (t, key)) :
    s.freeRing cq = some key ∧ t = s.setRing key { q with
      gen := genNext (s.ring key).gen, st := .active, fn := fn, prio := s.fld F.RNG_FN_QUOTA_PRIO_MIN fn } := by
  unfold State.newQueue at h
  dsimp only at h
  generalize (if cq = true then s.fld F.RNG_FN_QUOTA_CQ_MAX fn else s.fld F.RNG_FN_QUOTA_SQ_MAX fn) = max at h
  generalize s.freeRing cq = o at h ⊢
  split at h
  · cases h
  · cases o with
    | none => cases h
    | some k =>
      obtain ⟨rfl, rfl⟩ := Prod.mk.inj (Option.some.inj h)
      exact ⟨rfl, rfl⟩

/-! A controller enabled, reset and cut (R377, R380). -/

/-- CC_EN_SET of a controller that is neither enabled nor under reset. -/
theorem exec_ccEnSet_off {s0 : State} {fn : Nat} (cc aqa asq acq : Nat) (hfn : fn < 256)
    (hsto : s0.tlp.flag F.HEP_FN_CTL_STORAGE fn = true) (hen : (s0.tlp.ctrl fn).en = false)
    (hdis : (s0.tlp.ctrl fn).disabledAt = none) (hdom : s0.tlp.domain 22 = .ready) :
    exec (.ccEnSet fn cc aqa asq acq) s0 = .next (
      let s := s0.tlp
      let c := { s.ctrl fn with en := true, cc := cc, aqa := aqa, asq := asq, acq := acq }
      let fatal := s.setCtrl fn { c with cfs := true }
      if !aqaOk (field aqa 11 0) ∨ !aqaOk (field aqa 27 16) then fatal
      else
        match s.newQueue fn { typ := .nvmeCq, base := acq / 4096 * 4096, size := field aqa 27 16 + 1, irqEn := true } true with
        | none => fatal
        | some (s1, k) =>
          match s1.newQueue fn { typ := .nvmeSq, base := asq / 4096 * 4096, size := field aqa 11 0 + 1, cq := k - 16384 }
              false with
          | none => fatal
          | some (s2, _) => (s2.setCtrl fn { c with ready := true, lastBusy := s.tb.time }).settlePs) := by
  rw [exec_ccEnSet]
  exact when_pos ⟨hfn, hsto, hen, hdis, hdom⟩ _ _

/-- A table whose values are mapped finds the mapped value. -/
theorem Tbl.find?_map_val {α β : Type} (f : α → β) (k : Nat) (t : Tbl α) :
    Tbl.find? k (t.map (fun r => (r.1, f r.2))) = (Tbl.find? k t).map f := by
  induction t with
  | nil => rfl
  | cons e t ih =>
    rw [List.map_cons, Tbl.find?, Tbl.find?]
    split
    · rfl
    · exact ih

/-- A table without a key is the table filtered by it. -/
theorem Tbl.del_eq_filter {α : Type} (k : Nat) (t : Tbl α) : Tbl.del k t = t.filter (fun e => decide (e.1 ≠ k)) := by
  induction t with
  | nil => rfl
  | cons e t ih =>
    rw [Tbl.del, List.filter_cons, ih]
    by_cases h : e.1 = k <;> simp [h]

/-- A ring whose waiting completions a controller reset discards. -/
def Ring.unheld (fn : Nat) (r : Ring) : Ring := if r.fn = fn ∧ r.typ = .nvmeCq then { r with waiting := [] } else r

theorem Ring.unheld_typ (fn : Nat) (r : Ring) : (r.unheld fn).typ = r.typ := by
  unfold Ring.unheld
  split <;> rfl

theorem Ring.unheld_fn (fn : Nat) (r : Ring) : (r.unheld fn).fn = r.fn := by
  unfold Ring.unheld
  split <;> rfl

theorem Ring.unheld_waiting {fn : Nat} {r : Ring} (hfn : r.fn = fn) (htyp : r.typ = .nvmeCq) : (r.unheld fn).waiting = [] := by
  rw [Ring.unheld, if_pos ⟨hfn, htyp⟩]

theorem dropHeldCpl_rings (s : State) (fn : Nat) :
    (s.dropHeldCpl fn).rng.rings = s.rng.rings.map (fun r => (r.1, r.2.unheld fn)) := by
  refine List.map_congr_left fun r _ => ?_
  unfold Ring.unheld
  split <;> rfl

theorem dropHeldCpl_ring (s : State) (fn k : Nat) : (s.dropHeldCpl fn).ring k = (s.ring k).unheld fn := by
  unfold State.ring Tbl.getD
  rw [dropHeldCpl_rings, Tbl.find?_map_val]
  cases Tbl.find? k s.rng.rings with
  | none => exact (if_neg (fun h => by cases h.2)).symm
  | some r => rfl

theorem foldl_freeSlot_rings (l : List Nat) (s : State) :
    (l.foldl (fun t n => t.freeSlot n) s).rng.rings = s.rng.rings := by
  induction l generalizing s with
  | nil => rfl
  | cons n l ih => rw [List.foldl_cons, ih]; rfl

theorem foldl_freeSlot_slots (l : List Nat) (s : State) :
    (l.foldl (fun t n => t.freeSlot n) s).rng.slots = s.rng.slots.filter (fun x => decide (x.1 ∉ l)) := by
  induction l generalizing s with
  | nil => simp
  | cons n l ih =>
    rw [List.foldl_cons, ih]
    show (Tbl.del n s.rng.slots).filter _ = _
    rw [Tbl.del_eq_filter, List.filter_filter]
    refine List.filter_congr fun x _ => ?_
    simp [Bool.and_comm]

theorem settlePs_ctrl (s : State) (fn : Nat) : s.settlePs.ctrl fn = s.ctrl fn := rfl

theorem settlePs_fld (s : State) (f : Fld) (i : Nat) : s.settlePs.fld f i = s.fld f i := rfl

theorem setFld_ctrl (s : State) (f : Fld) (i v fn : Nat) : (s.setFld f i v).ctrl fn = s.ctrl fn := rfl

theorem ctrlSlots_of_rng {s t : State} (h : t.rng = s.rng) (fn : Nat) : t.ctrlSlots fn = s.ctrlSlots fn := by
  unfold State.ctrlSlots State.isNvmeSq State.ring
  rw [h]

/-- The state of a controller reset before it settles: held completions and event requests dropped. -/
def State.ctrlReset (s : State) (fn : Nat) : State :=
  ((s.ctrl fn).aers.foldl (fun t n => t.freeSlot n) ((s.heldCpls fn).foldl (fun t n => t.freeSlot n) (s.dropHeldCpl fn))).setCtrl
    fn { s.ctrl fn with en := false, disabledAt := some s.tb.time, aers := [], events := [] }

theorem ctrlDisable_eq (s : State) (fn : Nat) : s.ctrlDisable fn = (s.ctrlReset fn).ctrlSettle fn := rfl

theorem ctrl_setCtrl_same (s : State) (fn : Nat) (c : NvmeCtrl) : (s.setCtrl fn c).ctrl fn = c := Tbl.getD_put_same _ _ _ _

theorem ctrlReset_ctrl (s : State) (fn : Nat) : (s.ctrlReset fn).ctrl fn =
    { s.ctrl fn with en := false, disabledAt := some s.tb.time, aers := [], events := [] } := ctrl_setCtrl_same _ _ _

theorem ctrlReset_ring (s : State) (fn k : Nat) : (s.ctrlReset fn).ring k = (s.ring k).unheld fn := by
  rw [← dropHeldCpl_ring]
  exact congrArg (fun t => Tbl.getD t k {}) ((foldl_freeSlot_rings _ _).trans (foldl_freeSlot_rings _ _))

theorem mem_ctrlSlots_ctrlReset {s : State} {fn : Nat} {x : Nat × Slot} : x ∈ (s.ctrlReset fn).ctrlSlots fn ↔
    x ∈ s.ctrlSlots fn ∧ x.1 ∉ s.heldCpls fn ∧ x.1 ∉ (s.ctrl fn).aers := by
  have hslots : (s.ctrlReset fn).rng.slots = (s.rng.slots.filter (fun x => decide (x.1 ∉ s.heldCpls fn))).filter
      (fun x => decide (x.1 ∉ (s.ctrl fn).aers)) :=
    (foldl_freeSlot_slots _ _).trans (congrArg _ (foldl_freeSlot_slots _ _))
  have hsq : (s.ctrlReset fn).isNvmeSq fn x.2.ring = s.isNvmeSq fn x.2.ring := by
    rw [State.isNvmeSq, ctrlReset_ring, Ring.unheld_typ, Ring.unheld_fn]
    rfl
  unfold State.ctrlSlots
  rw [List.mem_filter, hsq, hslots, List.mem_filter, List.mem_filter, List.mem_filter, decide_eq_true_iff, decide_eq_true_iff]
  tauto

/-- The queues of a controller in the table of rings. -/
def State.ctrlQueues (s : State) (fn : Nat) : List Nat :=
  (s.rng.rings.filter (fun r => decide (r.2.fn = fn ∧ (r.2.typ = .nvmeSq ∨ r.2.typ = .nvmeCq)))).map (fun r => r.1)

theorem ctrlSettle_waits {s : State} {fn : Nat} (h : (s.ctrlSlots fn).isEmpty = false) : s.ctrlSettle fn = s :=
  if_neg (fun hc => by rw [h] at hc; cases hc.2)

theorem ctrlSettle_ends {s : State} {fn : Nat} (hd : (s.ctrl fn).disabledAt.isSome = true)
    (h : (s.ctrlSlots fn).isEmpty = true) : s.ctrlSettle fn =
      ((((s.ctrlQueues fn).foldl (fun t k => t.freeQueue k) s).setCtrl fn {}).setFld F.STO_FN_STAT_PS fn 0).settlePs :=
  if_pos ⟨hd, h⟩

theorem freeQueue_ring (s : State) (q k : Nat) :
    (s.freeQueue q).ring k = if k = q then { gen := (s.ring k).gen } else s.ring k := by
  split
  · next h => subst h; exact State.ring_setRing_same s k _
  · next h => exact State.ring_setRing_ne s h _

theorem foldl_freeQueue_ring (l : List Nat) (s : State) (k : Nat) :
    (l.foldl (fun t q => t.freeQueue q) s).ring k = if k ∈ l then { gen := (s.ring k).gen } else s.ring k := by
  induction l generalizing s with
  | nil => rfl
  | cons q l ih =>
    rw [List.foldl_cons, ih, freeQueue_ring]
    by_cases hq : k = q <;> by_cases hl : k ∈ l <;> simp [hq, hl]

theorem ctrlSettle_ends_ring {s : State} {fn : Nat} (hd : (s.ctrl fn).disabledAt.isSome = true)
    (h : (s.ctrlSlots fn).isEmpty = true) (k : Nat) :
    (s.ctrlSettle fn).ring k = if k ∈ s.ctrlQueues fn then { gen := (s.ring k).gen } else s.ring k := by
  rw [ctrlSettle_ends hd h]
  exact foldl_freeQueue_ring _ s k

/-- An NVMe queue of a controller is in the table of rings. -/
theorem mem_ctrlQueues {s : State} {fn k : Nat} (hfn : (s.ring k).fn = fn)
    (htyp : (s.ring k).typ = .nvmeSq ∨ (s.ring k).typ = .nvmeCq) : k ∈ s.ctrlQueues fn := by
  cases hf : Tbl.find? k s.rng.rings with
  | none =>
    rw [State.ring, Tbl.getD, hf] at htyp
    rcases htyp with h | h <;> cases h
  | some r =>
    rw [State.ring, Tbl.getD, hf] at htyp hfn
    exact List.mem_map.mpr ⟨(k, r), List.mem_filter.mpr ⟨Tbl.mem_of_find? hf, decide_eq_true ⟨hfn, htyp⟩⟩, rfl⟩

/-- What CC_EN_CLEAR leaves (R380): waiting completions discarded; the reset done at once if no command is left. -/
theorem ctrlDisable_leaves (s : State) (fn : Nat) : let t := s.ctrlDisable fn
    (∀ k, (t.ring k).fn = fn → (t.ring k).typ = .nvmeCq → (t.ring k).waiting = []) ∧
    ((∃ x ∈ s.ctrlSlots fn, x.1 ∉ (s.ctrl fn).aers ∧ x.1 ∉ s.heldCpls fn) →
      t.ctrl fn = { s.ctrl fn with en := false, disabledAt := some s.tb.time, aers := [], events := [] }) ∧
    ((∀ x ∈ s.ctrlSlots fn, x.1 ∈ (s.ctrl fn).aers ∨ x.1 ∈ s.heldCpls fn) → t.ctrl fn = {} ∧ t.fld F.STO_FN_STAT_PS fn = 0 ∧
      ∀ k, (t.ring k).fn = fn → (t.ring k).typ ≠ .nvmeSq ∧ (t.ring k).typ ≠ .nvmeCq) := by
  intro t
  have ht : t = (s.ctrlReset fn).ctrlSettle fn := ctrlDisable_eq s fn
  have hreset : ∀ k, ((s.ctrlReset fn).ring k).fn = fn → ((s.ctrlReset fn).ring k).typ = .nvmeCq →
      ((s.ctrlReset fn).ring k).waiting = [] := by
    intro k hfn htyp
    rw [ctrlReset_ring] at hfn htyp ⊢
    exact Ring.unheld_waiting (Ring.unheld_fn fn _ ▸ hfn) (Ring.unheld_typ fn _ ▸ htyp)
  have hdis : ((s.ctrlReset fn).ctrl fn).disabledAt.isSome = true := by
    rw [ctrlReset_ctrl]
    rfl
  rw [ht]
  cases hempty : ((s.ctrlReset fn).ctrlSlots fn).isEmpty with
  | false =>
    rw [ctrlSettle_waits hempty]
    refine ⟨hreset, fun _ => ctrlReset_ctrl s fn, fun hall => ?_⟩
    obtain ⟨x, hx⟩ := List.exists_mem_of_ne_nil _ (by simpa using hempty)
    obtain ⟨hmem, hheld, haer⟩ := mem_ctrlSlots_ctrlReset.mp hx
    exact ((hall x hmem).elim haer hheld).elim
  | true =>
    have hring := ctrlSettle_ends_ring hdis hempty
    refine ⟨fun k hfn htyp => ?_, fun ⟨x, hmem, haer, hheld⟩ => ?_, fun _ => ⟨?_, ?_, fun k hfn => ?_⟩⟩
    · rw [hring] at hfn htyp ⊢
      split at htyp
      · cases htyp
      · next hk =>
        rw [if_neg hk] at hfn ⊢
        exact hreset k hfn htyp
    · exact absurd (mem_ctrlSlots_ctrlReset.mpr ⟨hmem, hheld, haer⟩) (by rw [List.isEmpty_iff.mp hempty]; exact List.not_mem_nil)
    · rw [ctrlSettle_ends hdis hempty]
      rw [settlePs_ctrl, setFld_ctrl, ctrl_setCtrl_same]
    · rw [ctrlSettle_ends hdis hempty]
      rw [settlePs_fld, fld_setFld_same, Nat.zero_mod]
    · rw [hring] at hfn ⊢
      split
      · exact ⟨RingType.noConfusion, RingType.noConfusion⟩
      · next hk =>
        rw [if_neg hk] at hfn
        exact ⟨fun h => hk (mem_ctrlQueues hfn (.inl h)), fun h => hk (mem_ctrlQueues hfn (.inr h))⟩

/-- CONTROLLER_RESET_CUT of a controller under reset. -/
theorem exec_controllerResetCut_reset {s : State} {fn t0 : Nat} (hd : (s.ctrl fn).disabledAt = some t0) :
    exec (.controllerResetCut fn) s = .next (
      if t0 + 90000000 ≤ s.tb.time then (sinterEvent 0x142 fn (s.ctrlCut fn)).ctrlSettle fn else s) := by
  rw [exec_controllerResetCut, execControllerResetCut, hd]

/-! Commands that the engine takes (R376). -/

theorem nvmeGuard_runs {s : State} {n op : Nat} {admin : Bool} {x : Slot} (h : s.nvmeRuns n admin op x) (f : State) :
    s.nvmeGuard n x f = f := by
  obtain ⟨-, hdom, hfused⟩ := h
  rw [State.nvmeGuard, hdom]
  exact if_neg (fun hne => hne hfused)

theorem queueSizeOk_iff {n : Nat} : queueSizeOk n = true ↔ ∃ k, k ≤ 10 ∧ n = 64 * 2 ^ k := by
  simp [queueSizeOk, Nat.lt_succ_iff]

/-! Queues of a controller (R377). -/

/-- A queue identifier in range that names no queue. -/
theorem queueId_ok {s : State} {fn qid : Nat} {t : RingType} (hlo : 1 ≤ qid) (hhi : qid ≤ 1024)
    (hfree : s.nvmeQueue fn qid t = none) : ¬ (qid = 0 ∨ 1024 < qid ∨ (s.nvmeQueue fn qid t).isSome = true) := by
  rintro (h | h | h)
  · omega
  · omega
  · rw [hfree] at h
    cases h

theorem exec_createIoCq_runs {s : State} {n : Nat} {x : Slot} (h : s.nvmeRuns n true 0x05 x)
    (hq : ¬ (field (x.dw 10) 15 0 = 0 ∨ 1024 < field (x.dw 10) 15 0 ∨
      (s.nvmeQueue x.fn (field (x.dw 10) 15 0) .nvmeCq).isSome = true)) : exec (.createIoCq n) s = .next (
      let size := field (x.dw 10) 31 16 + 1
      let iv := field (x.dw 11) 31 16
      if (!queueSizeOk size) = true then s.nvmeDone n 0x102 0
      else if (!bit (x.dw 11) 0) = true ∨ field (x.dw 0) 15 14 ≠ 0 then s.nvmeDone n 0x002 0
      else if wordAt x.words 3 % 4096 ≠ 0 then s.nvmeDone n 0x013 0
      else if vecCount x.fn ≤ iv then s.nvmeDone n 0x108 0
      else
        match s.newQueue x.fn ((s.ctrl x.fn).coalesce { typ := .nvmeCq, base := wordAt x.words 3, size := size
                                                        irqEn := bit (x.dw 11) 1, vector := iv
                                                        qid := field (x.dw 10) 15 0 }) true with
        | none => s.nvmeDone n 0x101 0
        | some (s1, _) => s1.nvmeDone n 0 0) := by
  rw [exec_createIoCq, execCreateIoCq, h.1]
  dsimp only
  rw [nvmeGuard_runs h, if_neg hq]
  rfl

theorem exec_createIoSq_runs {s : State} {n : Nat} {x : Slot} (h : s.nvmeRuns n true 0x01 x)
    (hq : ¬ (field (x.dw 10) 15 0 = 0 ∨ 1024 < field (x.dw 10) 15 0 ∨
      (s.nvmeQueue x.fn (field (x.dw 10) 15 0) .nvmeSq).isSome = true)) : exec (.createIoSq n) s = .next (
      let size := field (x.dw 10) 31 16 + 1
      if (!queueSizeOk size) = true then s.nvmeDone n 0x102 0
      else if (!bit (x.dw 11) 0) = true ∨ field (x.dw 0) 15 14 ≠ 0 then s.nvmeDone n 0x002 0
      else if wordAt x.words 3 % 4096 ≠ 0 then s.nvmeDone n 0x013 0
      else
        match if field (x.dw 11) 31 16 = 0 then none else s.nvmeQueue x.fn (field (x.dw 11) 31 16) .nvmeCq with
        | none => s.nvmeDone n 0x100 0
        | some k =>
          match s.newQueue x.fn { typ := .nvmeSq, base := wordAt x.words 3, size := size, cq := k - 16384
                                  qid := field (x.dw 10) 15 0 } false with
          | none => s.nvmeDone n 0x101 0
          | some (s1, _) => s1.nvmeDone n 0 0) := by
  rw [exec_createIoSq, execCreateIoSq, h.1]
  dsimp only
  rw [nvmeGuard_runs h, if_neg hq]
  rfl

/-- A key written twice holds the second value, as if it had been written once. -/
theorem Tbl.set_set {α : Type} (k : Nat) (v w : α) (t : Tbl α) : Tbl.set k v (Tbl.set k w t) = Tbl.set k v t := by
  induction t with
  | nil => simp [Tbl.set]
  | cons e t ih =>
    obtain ⟨j, u⟩ := e
    simp only [Tbl.set]
    split
    · simp [Tbl.set]
    · next hlt =>
      split
      · simp [Tbl.set]
      · next hne => simp [Tbl.set, hlt, hne, ih]

theorem Tbl.del_set {α : Type} (k : Nat) (w : α) (t : Tbl α) : Tbl.del k (Tbl.set k w t) = Tbl.del k t := by
  induction t with
  | nil => simp [Tbl.set, Tbl.del]
  | cons e t ih =>
    obtain ⟨j, u⟩ := e
    simp only [Tbl.set]
    split
    · simp [Tbl.del]
    · split
      · next he => simp [Tbl.del, he]
      · next hne => simp [Tbl.del, ih]

theorem setRing_setRing (s : State) (k : Nat) {a : Ring} (ha : a ≠ {}) (b : Ring) : (s.setRing k a).setRing k b = s.setRing k b := by
  have hput : Tbl.put {} k b (Tbl.put {} k a s.rng.rings) = Tbl.put {} k b s.rng.rings := by
    rw [Tbl.put, Tbl.put, Tbl.put, if_neg ha, Tbl.set_set, Tbl.del_set]
  unfold State.setRing
  dsimp only
  rw [hput]

theorem dropUndispatched_nil {s : State} {r : Nat} (h : s.ringSlots r = []) : s.dropUndispatched r = s := by
  rw [State.dropUndispatched, h]
  rfl

/-- DELETE_IO_SQ of a queue that holds no slot. -/
theorem exec_deleteIoSq_empty {s : State} {n key : Nat} {x : Slot} (h : s.nvmeRuns n true 0x00 x)
    (hid : field (x.dw 10) 15 0 ≠ 0) (hq : s.nvmeQueue x.fn (field (x.dw 10) 15 0) .nvmeSq = some key)
    (hslots : s.ringSlots key = []) :
    exec (.deleteIoSq n) s = .next ((s.setRing key { gen := (s.ring key).gen }).nvmeDone n 0 0) := by
  rw [exec_deleteIoSq, execDeleteIoSq, h.1]
  dsimp only
  rw [nvmeGuard_runs h, if_neg hid, hq]
  dsimp only
  rw [dropUndispatched_nil hslots]
  have hdrain : ({ s.ring key with st := .draining, pend := false, refetch := none } : Ring) ≠ {} :=
    fun he => RingSt.noConfusion (congrArg Ring.st he)
  refine congrArg _ ((if_pos (congrArg List.length hslots)).trans ?_)
  rw [State.freeQueue, State.ring_setRing_same, setRing_setRing s key hdrain]
  rfl

theorem exec_deleteIoCq_runs {s : State} {n key : Nat} {x : Slot} (h : s.nvmeRuns n true 0x04 x)
    (hid : field (x.dw 10) 15 0 ≠ 0) (hq : s.nvmeQueue x.fn (field (x.dw 10) 15 0) .nvmeCq = some key) :
    exec (.deleteIoCq n) s = .next (
      if s.rng.rings.any (fun r => decide (r.1 < 16384 ∧ r.2.typ = .nvmeSq ∧ r.2.st ≠ .free ∧ r.2.cq = key - 16384)) = true then
        s.nvmeDone n 0x10C 0
      else (s.freeQueue key).nvmeDone n 0 0) := by
  rw [exec_deleteIoCq, execDeleteIoCq, h.1]
  dsimp only
  rw [nvmeGuard_runs h, if_neg hid, hq]
  rfl

/-! Data that a command writes to its buffer (R376, R401). -/

theorem length_toBytes (k n : Nat) : (toBytes k n).length = k := by
  induction k generalizing n with
  | zero => rfl
  | succ k ih => rw [toBytes, List.length_cons, ih]

theorem irtBytes_length (e : IrtEntry) : (irtBytes e).length = 32 := by
  simp only [irtBytes, List.length_append, length_toBytes]

theorem length_flatMap_const {α β : Type} {f : α → List β} {c : Nat} (h : ∀ a, (f a).length = c) (l : List α) :
    (l.flatMap f).length = l.length * c := by
  simp [List.length_flatMap, h]

theorem irtLog_length (s : State) (x : Slot) : (s.irtLog x).length = 8256 := by
  have hrows (f : Nat → List Byte) (h : ∀ i, (f i).length = 32) : ((List.range 256).flatMap f).length = 8192 := by
    rw [length_flatMap_const h, List.length_range]
  rw [State.irtLog, List.length_append, List.length_append, length_toBytes, List.length_replicate, hrows]
  intro i
  split
  · exact irtBytes_length _
  · exact List.length_replicate

theorem length_overlay (fs : List (Nat × List Byte)) (seed off n : Nat) : (overlay fs seed off n).length = n := by
  simp [overlay]

/-- Known data from offset 0 covers as many bytes as it has. -/
theorem overlay_prefix {bs : List Byte} {n : Nat} (h : n ≤ bs.length) (seed : Nat) :
    overlay [(0, bs)] seed 0 n = bs.take n := by
  refine List.ext_getElem (by simp [length_overlay, h]) fun i hi _ => ?_
  rw [length_overlay] at hi
  have hlt : i < bs.length := Nat.lt_of_lt_of_le hi h
  simp [overlay, hlt]

/-- An admin command without SGL whose buffer is good writes its data and completes. -/
theorem adminData_written {s : State} {env : Env} {n len : Nat} {x : Slot} {bs : List Byte} {rs : List (Nat × Nat)}
    (hsgl : field (x.dw 0) 15 14 = 0) (hlen : bs.length = len) (hrs : s.bufRanges env x len = .ok rs) :
    s.adminData env n x bs = (s.bufWrite x.fn rs bs).tick.nvmeDone n 0 0 := by
  rw [State.adminData, if_neg (fun hne => hne hsgl), hlen, hrs]
  rfl

theorem exec_getLogPage_irt {s : State} {n len : Nat} {env : Env} {x : Slot} {rs : List (Nat × Nat)}
    (h : s.nvmeRuns n true 0x02 x) (hsgl : field (x.dw 0) 15 14 = 0) (hlid : field (x.dw 10) 7 0 = 0xC0)
    (hlen : len = 4 * (field (x.dw 10) 31 16 + field (x.dw 11) 15 0 * 65536 + 1)) (hoff : x.dw 12 + x.dw 13 * 2 ^ 32 = 0)
    (hrs : s.bufRanges env x len = .ok rs) (hfit : len ≤ 8256) :
    exec (.getLogPage n env) s = .next ((s.bufWrite x.fn rs ((s.irtLog x).take len)).tick.nvmeDone n 0 0) := by
  have hfit' : len ≤ (s.irtLog x).length := by rw [irtLog_length]; exact hfit
  rw [exec_getLogPage, execGetLogPage, h.1]
  dsimp only
  rw [nvmeGuard_runs h, hoff, ← hlen, hlid, if_neg (by decide), if_neg (by decide), if_pos rfl, overlay_prefix hfit',
    adminData_written hsgl (by rw [List.length_take_of_le hfit']) hrs]

theorem exec_identify_ctrl {s : State} {n : Nat} {env : Env} {x : Slot} {rs : List (Nat × Nat)}
    (h : s.nvmeRuns n true 0x06 x) (hsgl : field (x.dw 0) 15 14 = 0) (hrs : s.bufRanges env x 4096 = .ok rs)
    (hcns : field (x.dw 10) 7 0 = 1) : exec (.identify n env) s =
      .next ((s.bufWrite x.fn rs (overlay identifyCtrl s.fresh 0 4096)).tick.nvmeDone n 0 0) := by
  rw [exec_identify, execIdentify, h.1]
  dsimp only
  rw [nvmeGuard_runs h, hcns]
  exact congrArg _ (adminData_written hsgl (length_overlay _ _ _ _) hrs)

theorem exec_identify_ns {s : State} {n i : Nat} {env : Env} {x : Slot} {rs : List (Nat × Nat)} {ns : Ns}
    (h : s.nvmeRuns n true 0x06 x) (hsgl : field (x.dw 0) 15 14 = 0) (hrs : s.bufRanges env x 4096 = .ok rs)
    (hcns : field (x.dw 10) 7 0 = 0) (hns : s.nsFor x (x.dw 1) = some (i, ns)) : exec (.identify n env) s =
      .next ((s.bufWrite x.fn rs (overlay (identifyNs i ns) s.fresh 0 4096)).tick.nvmeDone n 0 0) := by
  rw [exec_identify, execIdentify, h.1]
  dsimp only
  rw [nvmeGuard_runs h, hcns, hns]
  exact congrArg _ (adminData_written hsgl (length_overlay _ _ _ _) hrs)

theorem exec_identify_noNs {s : State} {n : Nat} {env : Env} {x : Slot} (h : s.nvmeRuns n true 0x06 x)
    (hcns : field (x.dw 10) 7 0 = 0) (hns : s.nsFor x (x.dw 1) = none) :
    exec (.identify n env) s = .next (s.nvmeDone n 0x00B 0) := by
  rw [exec_identify, execIdentify, h.1]
  dsimp only
  rw [nvmeGuard_runs h, hcns, hns]
  rfl

/-! Abort (R392). -/

/-- Whether a slot holds the command that an Abort in slot `n` names. -/
def State.abortNames (s : State) (n qid cid : Nat) (y : Nat × Slot) : Bool :=
  decide (y.1 ≠ n ∧ (s.ring y.2.ring).qid = qid ∧ y.2.words.length = 8 ∧ field (y.2.dw 0) 31 16 = cid)

theorem exec_nvmeAbort_runs {s : State} {n : Nat} {x : Slot} (h : s.nvmeRuns n true 0x08 x)
    (hmax : ((s.ctrlSlots x.fn).filter (fun y => decide ((s.ring y.2.ring).qid = 0 ∧ field (y.2.dw 0) 7 0 = 0x08 ∧
      y.2.words.length = 8))).length ≤ 4) : exec (.nvmeAbort n) s = .next (
      let missed := (s.inc F.STO_FN_STAT_ABORT_MISSED x.fn).nvmeDone n 0 1
      match (s.ctrlSlots x.fn).find? (s.abortNames n (field (x.dw 10) 15 0) (field (x.dw 10) 31 16)) with
      | none => missed
      | some (m, y) =>
        if s.notStarted m y = true ∧ y.phase = .dispatched then
          (((s.setCtrl x.fn { s.ctrl x.fn with aers := (s.ctrl x.fn).aers.filter (· != m) }).nvmeDone m 0x007 0).inc
            F.STO_FN_STAT_ABORT_CAUGHT x.fn).nvmeDone n 0 0
        else missed) := by
  rw [exec_nvmeAbort, execNvmeAbort, h.1]
  dsimp only
  rw [nvmeGuard_runs h, if_neg (Nat.not_lt_of_le hmax)]
  rfl

/-! Features (R376, R389). -/

theorem exec_setFeatures_unknown {s : State} {n : Nat} {env : Env} {x : Slot} (h : s.nvmeRuns n true 0x09 x)
    (hf : field (x.dw 10) 7 0 ∉ nvmeFeatures) : exec (.setFeatures n env) s = .next (s.nvmeDone n 0x002 0) := by
  rw [exec_setFeatures, execSetFeatures, h.1]
  dsimp only
  rw [nvmeGuard_runs h, if_pos (by simpa using hf)]
  rfl

theorem exec_setFeatures_saved {s : State} {n : Nat} {env : Env} {x : Slot} (h : s.nvmeRuns n true 0x09 x)
    (hf : field (x.dw 10) 7 0 ∈ nvmeFeatures) (hsave : bit (x.dw 10) 31 = true) :
    exec (.setFeatures n env) s = .next (s.nvmeDone n 0x10D 0) := by
  rw [exec_setFeatures, execSetFeatures, h.1]
  dsimp only
  rw [nvmeGuard_runs h, if_neg (by simpa using hf), if_pos hsave]
  rfl

/-- The features that are stored as they are written. -/
theorem exec_setFeatures_stored {s : State} {n : Nat} {env : Env} {x : Slot} (h : s.nvmeRuns n true 0x09 x)
    (hf : field (x.dw 10) 7 0 ∈ [0x01, 0x0A, 0x0B]) (hsave : bit (x.dw 10) 31 = false) :
    exec (.setFeatures n env) s = .next ((s.setFeat x.fn (field (x.dw 10) 7 0) (x.dw 11)).nvmeDone n 0 0) := by
  have hknown : ¬ nvmeFeatures.contains (field (x.dw 10) 7 0) = false := by
    rw [List.mem_cons, List.mem_cons, List.mem_singleton] at hf
    rcases hf with hf | hf | hf <;> simp [hf, nvmeFeatures]
  rw [exec_setFeatures, execSetFeatures, h.1]
  dsimp only
  rw [nvmeGuard_runs h, if_neg hknown, if_neg (by simp [hsave])]
  rw [List.mem_cons, List.mem_cons, List.mem_singleton] at hf
  rcases hf with hf | hf | hf <;> rw [hf] <;> rfl

theorem exec_setFeatures_power {s : State} {n : Nat} {env : Env} {x : Slot} (h : s.nvmeRuns n true 0x09 x)
    (hf : field (x.dw 10) 7 0 = 0x02) (hsave : bit (x.dw 10) 31 = false) (hps : field (x.dw 11) 4 0 ≤ 2) :
    exec (.setFeatures n env) s =
      .next (((s.setFeat x.fn 2 (x.dw 11)).setPs x.fn (field (x.dw 11) 4 0)).nvmeDone n 0 0) := by
  rw [exec_setFeatures, execSetFeatures, h.1]
  dsimp only
  rw [nvmeGuard_runs h, hf, if_neg (by decide), if_neg (by simp [hsave])]
  exact congrArg _ (if_neg (Nat.not_lt_of_le hps))

theorem exec_getFeatures_stored {s : State} {n : Nat} {env : Env} {x : Slot} (h : s.nvmeRuns n true 0x0A x)
    (hf : field (x.dw 10) 7 0 ∈ [0x01, 0x08, 0x0A, 0x0B]) (hsel : field (x.dw 10) 10 8 = 0) :
    exec (.getFeatures n env) s = .next (s.nvmeDone n 0
      (Tbl.getD (s.ctrl x.fn).feats (field (x.dw 10) 7 0) (featDefault (field (x.dw 10) 7 0)))) := by
  rw [exec_getFeatures, execGetFeatures, h.1]
  dsimp only
  rw [nvmeGuard_runs h, hsel]
  rw [List.mem_cons, List.mem_cons, List.mem_cons, List.mem_singleton] at hf
  rcases hf with hf | hf | hf | hf <;> rw [hf] <;> rfl

theorem exec_getFeatures_power {s : State} {n : Nat} {env : Env} {x : Slot} (h : s.nvmeRuns n true 0x0A x)
    (hf : field (x.dw 10) 7 0 = 0x02) (hsel : field (x.dw 10) 10 8 = 0) :
    exec (.getFeatures n env) s = .next (s.nvmeDone n 0 (s.fld F.STO_FN_STAT_PS x.fn)) := by
  rw [exec_getFeatures, execGetFeatures, h.1]
  dsimp only
  rw [nvmeGuard_runs h, hsel, hf]
  rfl

/-! Asynchronous events (R379). -/

theorem exec_asynchronousEventRequest_new {s : State} {n : Nat} {x : Slot} (h : s.nvmeRuns n true 0x0C x)
    (hnew : n ∉ (s.ctrl x.fn).aers) : exec (.asynchronousEventRequest n) s = .next (
      match (s.ctrl x.fn).events with
      | e :: rest => (s.setCtrl x.fn { s.ctrl x.fn with events := rest }).nvmeDone n 0 e
      | [] =>
        if aerl < (s.ctrl x.fn).aers.length then s.nvmeDone n 0x105 0
        else s.setCtrl x.fn { s.ctrl x.fn with aers := (s.ctrl x.fn).aers ++ [n] }) := by
  rw [exec_asynchronousEventRequest, execAsynchronousEventRequest, h.1]
  dsimp only
  rw [if_neg (by simpa using hnew), nvmeGuard_runs h]
  rfl

/-! Indeterminate ranges (R399, R401). -/

/-- The entries that CLEAR_INDETERMINATE_RANGE in `x` leaves. -/
def State.irtLeft (s : State) (x : Slot) : Tbl IrtEntry :=
  s.sto.irt.filter (fun e => !(s.sees x e.2 &&
    if bit (x.dw 10) 31 then e.2.nsid == x.dw 1 else e.1 == field (x.dw 10) 7 0))

theorem mem_irtLeft {s : State} {x : Slot} {e : Nat × IrtEntry} : e ∈ s.irtLeft x ↔ e ∈ s.sto.irt ∧ ¬ (s.sees x e.2 = true ∧
    (if bit (x.dw 10) 31 then e.2.nsid = x.dw 1 else e.1 = field (x.dw 10) 7 0)) := by
  rw [State.irtLeft, List.mem_filter]
  cases s.sees x e.2 <;> cases bit (x.dw 10) 31 <;> simp

/-- The state once those entries are cleared: a table with room makes every namespace writable. -/
def State.irtCleared (s : State) (x : Slot) : State :=
  let s1 : State := { s with sto := { s.sto with irt := s.irtLeft x } }
  if (s.irtLeft x).length < 256 then
    { s1 with sto := { s1.sto with namespaces := s1.sto.namespaces.map (fun n => (n.1, { n.2 with readOnly := false })) } }
  else s1

theorem irtCleared_frame (s : State) (x : Slot) : s.irtCleared x = { s with sto := { s.sto with
    irt := s.irtLeft x, namespaces := (s.irtCleared x).sto.namespaces } } := by
  unfold State.irtCleared
  split <;> rfl

theorem irtCleared_writable {s : State} {x : Slot} (h : (s.irtLeft x).length < 256) :
    ∀ m ∈ (s.irtCleared x).sto.namespaces, m.2.readOnly = false := by
  intro m hm
  rw [State.irtCleared, if_pos h] at hm
  obtain ⟨a, -, rfl⟩ := List.mem_map.mp hm
  rfl

theorem exec_clearIndeterminateRange_runs {s : State} {n : Nat} {x : Slot} (h : s.nvmeRuns n true 0xC4 x) :
    exec (.clearIndeterminateRange n) s = .next (
      if bit (x.dw 10) 31 = true ∧ (s.nsFor x (x.dw 1)).isNone = true then s.nvmeDone n 0x00B 0
      else (s.irtCleared x).nvmeDone n 0 0) := by
  rw [exec_clearIndeterminateRange, execClearIndeterminateRange, h.1]
  dsimp only
  rw [nvmeGuard_runs h]
  rfl

/-- A command that completes with success leaves its slot done and nothing else changed. -/
theorem nvmeDone_success {s : State} {n : Nat} {x : Slot} (h : s.slot? n = some x) :
    s.nvmeDone n 0 0 = s.setSlot n { x with phase := .done 0 0, progress := none, ranges := [] } := by
  rw [State.nvmeDone, State.slotDone, h]
  rfl

theorem irtCleared_done {s : State} {n : Nat} {x : Slot} (h : s.slot? n = some x) : let t := (s.irtCleared x).nvmeDone n 0 0
    t.sto = (s.irtCleared x).sto ∧ t.slot? n = some { x with phase := .done 0 0, progress := none, ranges := [] } ∧
      t.regs = s.regs ∧ t.mem = s.mem := by
  intro t
  have hslot : (s.irtCleared x).slot? n = some x := by
    rw [irtCleared_frame]
    exact h
  have ht : t = (s.irtCleared x).setSlot n { x with phase := .done 0 0, progress := none, ranges := [] } :=
    nvmeDone_success hslot
  refine ⟨by rw [ht]; rfl, by rw [ht]; exact Tbl.find?_set_same _ _ _, ?_, ?_⟩
  · rw [ht, irtCleared_frame]
    rfl
  · rw [ht, irtCleared_frame]
    rfl

/-! The autonomous change of the power state (R389). -/

theorem setPs_idle (s : State) (fn : Nat) : let t := s.setPs fn 2
    t.fld F.STO_FN_STAT_PS fn = 2 ∧ FieldsKept s t [F.STO_FN_STAT_PS.key fn] ∧ t.ctrl fn = s.ctrl fn ∧
      t = { s with regs := t.regs, sto := { s.sto with ctrls := t.sto.ctrls, drivePs := t.sto.drivePs } } := by
  have hkept : FieldsKept s ((s.setCtrl fn { s.ctrl fn with lastPs := (s.ctrl fn).lastPs }).setFld F.STO_FN_STAT_PS fn 2)
      [F.STO_FN_STAT_PS.key fn] :=
    ((FieldsKept.refl s _).of_regs rfl).setFld List.mem_cons_self 2
  refine ⟨?_, hkept.of_regs rfl, ?_, rfl⟩
  · rw [State.setPs, settlePs_fld, fld_setFld_same]
    rfl
  · rw [State.setPs, settlePs_ctrl, setFld_ctrl, ctrl_setCtrl_same]
    rfl

/-- Settles O38: each command is followed through its checks; a reset by what becomes of the controller's slots and queues. -/
theorem nvmeControllersAndAdmin : Obligations.NvmeControllersAndAdmin := by
  unfold Obligations.NvmeControllersAndAdmin
  refine ⟨fun s fn q cq t key h => ?newQueue, ?enable, fun s fn hen => ?disable, fun s fn t0 hd => ?cut, ?create, ?delete,
    fun s n env x rs hsgl => ⟨fun h hlid => ⟨irtLog_length s x, fun len hlen hoff hrs hfit =>
      exec_getLogPage_irt h hsgl hlid hlen hoff hrs hfit⟩, fun h hrs => ⟨fun hcns => exec_identify_ctrl h hsgl hrs hcns,
      fun hcns => ⟨fun i ns hns => exec_identify_ns h hsgl hrs hcns hns, fun hns => exec_identify_noNs h hcns hns⟩⟩⟩,
    ?abort, ?setFeatures, fun s n env x h => ⟨fun hf hsel => exec_getFeatures_stored h hf hsel,
      fun hf hsel => exec_getFeatures_power h hf hsel⟩, fun s n x h hnew => ?aer, fun s n x h hslot => ?clear, ?apst⟩
  case newQueue =>
    obtain ⟨hfree, ht⟩ := newQueue_some h
    exact ⟨freeRing_free hfree, freeRing_side hfree, ht⟩
  case enable =>
    intro s0 fn cc aqa asq acq s hfn hsto hen hdis hdom c
    have hexec := exec_ccEnSet_off cc aqa asq acq hfn hsto hen hdis hdom
    refine ⟨fun hbad => ?_, fun hasq hacq s1 k s2 j hk hj => ?_⟩
    · exact hexec.trans (congrArg _ (if_pos (hbad.imp (fun h => by simp [h]) (fun h => by simp [h]))))
    · rw [hexec]
      dsimp only
      rw [if_neg (by simp [hasq, hacq]), hk]
      dsimp only
      rw [hj]
  case disable =>
    refine ⟨_, (exec_ccEnClear fn s).trans (when_pos hen _ _), ?_⟩
    have hleaves := ctrlDisable_leaves s.tlp fn
    have hctrl : s.tlp.ctrl fn = s.ctrl fn := by rw [State.ctrl, State.tlp_sto]; rfl
    have hslots : s.tlp.ctrlSlots fn = s.ctrlSlots fn := ctrlSlots_of_rng (State.tlp_rng s) fn
    have hheld : s.tlp.heldCpls fn = s.heldCpls fn := by rw [State.heldCpls, hslots]; rfl
    rw [hctrl, hslots, hheld, State.tlp_tb] at hleaves
    exact hleaves
  case cut =>
    rw [exec_controllerResetCut_reset hd]
    exact ⟨fun h => by rw [if_pos h], fun h => by rw [if_neg (Nat.not_le_of_lt h)]⟩
  case create =>
    intro s n x qid size ok cap
    refine ⟨fun h ⟨hlo, hhi, hfree, hpc, hsgl, hpage⟩ => ⟨fun hcap => ?_, fun hcap => ?_⟩,
      fun h ⟨hlo, hhi, hfree, hpc, hsgl, hpage⟩ => ⟨fun hcap => ?_, fun hcap => ?_⟩⟩
    all_goals have hid := queueId_ok hlo hhi hfree
    · exact (exec_createIoCq_runs h hid).trans (congrArg _ (if_pos (by simpa using fun hs => hcap (queueSizeOk_iff.mp hs))))
    · intro hiv t k hnew
      rw [exec_createIoCq_runs h hid]
      dsimp only
      rw [if_neg (by simpa using queueSizeOk_iff.mpr hcap), if_neg (by simp [hpc, hsgl]), if_neg (fun hne => hne hpage),
        if_neg (Nat.not_le_of_lt hiv), hnew]
    · exact (exec_createIoSq_runs h hid).trans (congrArg _ (if_pos (by simpa using fun hs => hcap (queueSizeOk_iff.mp hs))))
    · intro c t k hcq hfound hnew
      rw [exec_createIoSq_runs h hid]
      dsimp only
      rw [if_neg (by simpa using queueSizeOk_iff.mpr hcap), if_neg (by simp [hpc, hsgl]), if_neg (fun hne => hne hpage),
        if_neg hcq, hfound]
      dsimp only
      rw [hnew]
  case delete =>
    intro s n x key qid hid
    refine ⟨fun h hq hslots => exec_deleteIoSq_empty h hid hq hslots, fun h hq => ?_⟩
    rw [exec_deleteIoCq_runs h hid hq]
    refine ⟨fun ⟨r, hr, hnamed⟩ => ?_, fun hnone => ?_⟩
    · rw [if_pos (List.any_eq_true.mpr ⟨r, hr, decide_eq_true hnamed⟩)]
    · rw [if_neg (by simpa using hnone)]
  case abort =>
    intro s n x h cid qid names hmax
    have hexec := exec_nvmeAbort_runs h hmax
    refine ⟨fun hnone => ?_, fun m y hfound => ?_⟩
    · have hfind : (s.ctrlSlots x.fn).find? (s.abortNames n qid cid) = none :=
        List.find?_eq_none.mpr fun y hy => by simpa [State.abortNames, names] using hnone y hy
      rw [hexec, hfind]
    · have hfind : (s.ctrlSlots x.fn).find? (s.abortNames n qid cid) = some (m, y) := hfound
      rw [hexec, hfind]
      exact ⟨fun hph hns => congrArg _ (if_pos ⟨hns, hph⟩), fun hns => congrArg _ (if_neg (by simp [hns]))⟩
  case setFeatures =>
    intro s n env x h fid v
    exact ⟨fun hf => exec_setFeatures_unknown h hf, fun hf hsave => exec_setFeatures_saved h hf hsave, fun hsave =>
      ⟨fun hf => exec_setFeatures_stored h hf hsave, fun hf hps => exec_setFeatures_power h hf hsave hps⟩⟩
  case aer =>
    rw [exec_asynchronousEventRequest_new h hnew]
    refine ⟨fun e rest he => by rw [he], fun he hlen => ?_⟩
    rw [he]
    exact congrArg _ (if_neg (Nat.not_lt_of_le hlen))
  case clear =>
    have hexec := exec_clearIndeterminateRange_runs h
    refine ⟨fun hall hns => by rw [hexec, if_pos ⟨hall, by rw [hns]; rfl⟩], fun hsome => ?_⟩
    obtain ⟨hsto, hdone, hregs, hmem⟩ := irtCleared_done hslot
    refine ⟨_, hexec.trans (congrArg _ (if_neg fun hno => ?_)), ?_, ?_, hdone, hregs, hmem⟩
    · obtain ⟨hall, hns⟩ := hno
      rcases hsome with hone | hsome
      · rw [hall] at hone
        cases hone
      · rw [Option.isNone_iff_eq_none.mp hns] at hsome
        cases hsome
    all_goals rw [hsto, show (s.irtCleared x).sto.irt = s.irtLeft x by rw [irtCleared_frame]]
    · exact fun e => mem_irtLeft
    · exact irtCleared_writable
  case apst =>
    intro s fn c e hready hon hlim idle hidle hdue hps haers
    have hall : (s.ctrlSlots fn).all (fun x => c.aers.contains x.1) = true :=
      List.all_eq_true.mpr fun x hx => List.contains_iff_mem.mpr (haers x hx)
    exact ⟨_, (exec_autonomousPowerStateTransition fn idle s).trans
      (when_pos ⟨hready, hon, hlim, hidle, hdue, hps, hall⟩ _ _), setPs_idle s fn⟩

end Sys2Proof.Machine
end

section
/-! Arming a checkpoint, the cut and the failure of the engine (R545, R554 to R557, R565). -/

namespace Sys2Proof.Machine

/-! ARM (R554, R556). -/

/-- ARM of a clause that is neither the armed checkpoint nor a waiting one. -/
theorem exec_arm_new {s : State} {slot : Nat} {x : Slot} (env : Env) (hat : s.clauseAt slot 6 0 = some x)
    (hjob : s.ckp.job.any (fun j => decide (j.slot = some slot)) = false)
    (hwait : s.ckp.waits.find? (fun j => decide (j.slot = some slot)) = none) : exec (.arm slot env) s = .next (
      let a := wordAt x.words 1
      let c := wordAt x.words 2
      let a1 := if a = 0 then s.fld F.CKP_LIST_ADDR 0 * 64 else a
      let n := if a = 0 then s.fld F.CKP_LIST_COUNT 0 else c
      if x.fn ≠ s.buddyFn ∨ 2 ^ 48 ≤ a ∨ a % 64 ≠ 0 ∨ 128 ≤ c ∨ !zeroFrom x.words 3 ∨ n = 0 ∨ 96 < n then
        s.slotDone slot 0x10 0
      else s.withDomain slot 27 (
        match s.ckList env a1 n with
        | (s1, .fail st) => s1.slotDone slot st 0
        | (_, .wait) => s
        | (s1, .ok rs) => s1.ckTake (s1.ckJob (some slot) rs))) := by
  rw [exec_arm, execArm, hat]
  dsimp only
  rw [hjob, hwait]
  rfl

/-- ARM of a clause that has passed its checks and waits. -/
theorem exec_arm_waiting {s : State} {slot : Nat} {x : Slot} {j : CkJob} (env : Env) (hat : s.clauseAt slot 6 0 = some x)
    (hjob : s.ckp.job.any (fun j => decide (j.slot = some slot)) = false)
    (hwait : s.ckp.waits.find? (fun j => decide (j.slot = some slot)) = some j) :
    exec (.arm slot env) s = .next (s.ckTake j) := by
  rw [exec_arm, execArm, hat]
  dsimp only
  rw [hjob, hwait]
  rfl

theorem ckTake_arms {s : State} (h : s.ckIdle = true ∨ s.warned = true) (j : CkJob) : s.ckTake j = s.ckArm j := if_pos h

/-- A checkpoint that waits already keeps its place. -/
theorem ckTake_waiting {s : State} (hidle : s.ckIdle = false) (hwarned : s.warned = false) {j : CkJob}
    (hj : s.ckp.waits.any (fun w => decide (w.slot = j.slot)) = true) : s.ckTake j = s :=
  (if_neg (by simp [hidle, hwarned])).trans (if_pos hj)

theorem ckTake_waits {s : State} (hidle : s.ckIdle = false) (hwarned : s.warned = false) {j : CkJob}
    (hj : s.ckp.waits.any (fun w => decide (w.slot = j.slot)) = false) :
    s.ckTake j = s.withCkp { s.ckp with waits := s.ckp.waits ++ [j] } :=
  (if_neg (by simp [hidle, hwarned])).trans (if_neg (by simp [hj]))

/-! The checks of a region list and of the lanes (R546, R551, R554). -/

theorem ckList_read {s s1 : State} {env : Env} {a n : Nat} {b : List Byte}
    (hread : s.readFor env s.buddyFn a (n * 32) = (s1, .ok b)) :
    let es := (List.range n).map (fun i => slice b (32 * i) 32)
    let rs := ckPlace 0 (es.map ckEntry)
    s.ckList env a n =
      if es.any (ckEntryBad s) = true ∨ ckOverlap rs = true then (s1, .fail 0x10)
      else
        match s1.ckAccess false rs with
        | .fail st => (s1.refuse s.buddyFn st, .fail st)
        | .wait => (s1, .wait)
        | .ok _ =>
          match s1.lanesFail with
          | some st => (s1, .fail st)
          | none => (s1, .ok rs) := by
  intro es rs
  rw [State.ckList, hread]
  rfl

/-- A device with the first lane alone enabled has that lane. -/
theorem lanes_single {s : State} (h0 : s.flag (F.CKP_PAIR_EN.at 0) 0 = true)
    (hrest : ∀ k, 1 ≤ k → k < 8 → s.flag (F.CKP_PAIR_EN.at k) 0 = false) : s.lanes = [s.fld (F.CKP_PAIR_QP.at 0) 0] := by
  have hnone : (List.range' 1 7).filter (fun k => s.flag (F.CKP_PAIR_EN.at k) 0) = [] :=
    List.filter_eq_nil_iff.mpr fun k hk => by
      obtain ⟨hlo, hhi⟩ := List.mem_range'_1.mp hk
      simp [hrest k hlo (by omega)]
  rw [State.lanes, show List.range 8 = 0 :: List.range' 1 7 from rfl, List.filter_cons, if_pos h0, hnone]
  rfl

/-- The status that a lane's peer gives. -/
def State.lanePeer (s : State) (q : Nat) : Option Nat :=
  match (s.qp? q).bind (fun x => s.peer? x.peer) with
  | some p => if p.state = 2 then none else if p.state = 4 then some 0x401 else some 0x400
  | none => some 0x400

theorem lanesFail_single {s : State} {q : Nat} (h0 : s.flag (F.CKP_PAIR_EN.at 0) 0 = true)
    (hrest : ∀ k, 1 ≤ k → k < 8 → s.flag (F.CKP_PAIR_EN.at k) 0 = false) (hq : q = s.fld (F.CKP_PAIR_QP.at 0) 0)
    (hgood : s.laneBad q = false) : s.lanesFail = s.lanePeer q := by
  have hlanes : s.lanes = [q] := hq ▸ lanes_single h0 hrest
  have hgap : (List.range 8).any (fun k => s.flag (F.CKP_PAIR_EN.at k) 0 && decide (s.lanes.length ≤ k)) = false := by
    refine List.any_eq_false.mpr fun k hk => ?_
    rw [hlanes]
    rcases Nat.eq_zero_or_pos k with rfl | hpos
    · simp
    · simp [hrest k hpos (List.mem_range.mp hk)]
  unfold State.lanesFail
  dsimp only
  rw [hgap, h0, hlanes]
  refine (if_neg (by simp [hgood])).trans ?_
  rw [List.findSome?_singleton]
  rfl

theorem laneBad_false {s : State} {q : Nat} {x : Qp} {p : Peer} (hlanes : s.lanes = [q]) (hx : s.qp? q = some x)
    (hp : s.peer? x.peer = some p) (hraw : x.raw = false) (hfn : x.fn = s.buddyFn) (hst : x.state = 3) (hmtu : x.mtu = 5)
    (hup : p.state ≠ 5) : s.laneBad q = false := by
  unfold State.laneBad
  rw [hx, hlanes]
  simp [hraw, hfn, hst, hmtu, hp, Peer.foreign, hup]

/-! Warnings (R555). -/

/-- A sample of a valid entry that has been sampled before. -/
theorem trigSample_again {s : State} {k : Nat} {w : CkTrig} (env : Env) (hv : s.flag F.CKP_TRIG_VALID k = true)
    (hw : Tbl.find? k s.ckp.trigs = some w) :
    let c := s.sinterCount (s.fld F.CKP_TRIG_CODE k)
    let put (t : State) := t.withCkp { t.ckp with trigs := Tbl.set k ⟨s.tb.time, c⟩ t.ckp.trigs }
    s.trigSample env k =
      if w.count + s.fld F.CKP_TRIG_THRESH k ≤ c then put (s.trigFire env k)
      else if w.start + s.fld F.CKP_TRIG_WINDOW_S k * 1000000000 ≤ s.tb.time then put s
      else s := by
  intro c put
  unfold State.trigSample
  dsimp only
  rw [if_neg (by simp [hv]), hw]
  dsimp only [c, put, State.withCkp]

theorem trigFire_merged {s : State} {j : CkJob} (env : Env) (k : Nat) (h : s.ckp.job = some j) :
    s.trigFire env k = s.inc F.CKP_CNT_MERGED_CNT 0 :=
  if_pos (by rw [h]; rfl)

/-- A warning while the engine works, or with no list or no lane, is only posted. -/
theorem trigFire_posted {s : State} (env : Env) (k : Nat) (hjob : s.ckp.job = none)
    (h : s.ckIdle = false ∨ s.fld F.CKP_LIST_COUNT 0 = 0 ∨ s.flag (F.CKP_PAIR_EN.at 0) 0 = false) :
    s.trigFire env k = s.postEvent env s.buddyFn 0xB001
      (BitVec.ofNat 64 (k + s.fld F.CKP_TRIG_CODE k * 2 ^ 16 + 1 * 2 ^ 63)) 0 := by
  refine (if_neg (by simp [hjob])).trans (if_neg fun ⟨hidle, hlist, hlane⟩ => ?_)
  rcases h with h | h | h
  · rw [h] at hidle
    cases hidle
  · exact hlist h
  · rw [h] at hlane
    cases hlane

/-! The cut (R557). -/

theorem ckHolds_of_mem {s : State} {r : Nat} {j : CkJob} (hjob : s.ckp.job = some j) (hr : r ∈ j.rings) :
    s.ckHolds r = true := by
  rw [State.ckHolds, hjob]
  exact List.contains_iff_mem.mpr hr

theorem exec_barrier_kicks {s : State} {ring : Nat} (h : s.ckHolds ring = true) : exec (.barrier ring) s = .next s.ckKick := by
  rw [exec_barrier]
  exact congrArg _ (if_pos h)

theorem ckKick_job {s : State} {j : CkJob} {r : Nat} (hjob : s.ckp.job = some j) (hr : r ∈ j.rings) :
    s.ckKick = if j.bytes = 0 then s.ckRun (fun t => t.sendOpen j) else s := by
  have hne : j.rings.isEmpty = false := by
    cases hl : j.rings with
    | nil =>
      rw [hl] at hr
      cases hr
    | cons => rfl
  rw [State.ckKick, hjob]
  dsimp only
  by_cases hb : j.bytes = 0
  · rw [if_pos hb, if_pos ⟨by simp [hne], hb⟩]
  · rw [if_neg hb, if_neg (fun h => hb h.2)]

/-! What the engine's failure leaves of the checkpoint part of the state: the parts of the model that it goes through change it
nowhere else. -/

theorem foldl_ckp {α : Type} (f : State → α → State) (h : ∀ t x, (f t x).ckp = t.ckp) (l : List α) (s : State) :
    (l.foldl f s).ckp = s.ckp := by
  induction l generalizing s with
  | nil => rfl
  | cons x l ih => rw [List.foldl_cons, ih, h]

theorem dropUndispatched_ckp (s : State) (r : Nat) : (s.dropUndispatched r).ckp = s.ckp := by
  unfold State.dropUndispatched
  rw [foldl_ckp]
  exact fun _ _ => rfl

theorem haltRing_ckp (s : State) (r st : Nat) (idx : Option Nat) : (s.haltRing r st idx).ckp = s.ckp := by
  unfold State.haltRing
  dsimp only
  split
  · rw [State.setRing_ckp, dropUndispatched_ckp]
  · rfl

theorem slotDone_ckp (s : State) (n st : Nat) (res : Word) : (s.slotDone n st res).ckp = s.ckp := by
  unfold State.slotDone
  split
  · dsimp only
    split
    · rw [haltRing_ckp, State.setSlot_ckp]
    · rfl
  · rfl

theorem snoop_ckp (s : State) (tap tag : Nat) (l : List Byte) : (s.snoop tap tag l).ckp = s.ckp := by
  refine foldl_ckp _ (fun t u => ?_) _ s
  split <;> rfl

theorem hostWrite_ckp (s : State) (h : Nat) (bs : List Byte) : (s.hostWrite h bs).ckp = s.ckp := State.tlp_ckp s

theorem sinterEvent_ckp (c m : Nat) (s : State) : (sinterEvent c m s).ckp = s.ckp := by rw [sinterEvent_only c m s]

theorem hostFailed_ckp (s : State) (fn : Nat) (f : HostFail) : (s.hostFailed fn f).ckp = s.ckp := by
  cases f with
  | timeout =>
    unfold State.hostFailed aerAdvise
    dsimp only
    rw [State.tick_ckp]
    split <;> exact sinterEvent_ckp _ _ _
  | errorStatus => rfl
  | poisoned => rfl

theorem refuse_ckp (s : State) (fn st : Nat) : (s.refuse fn st).ckp = s.ckp := by
  unfold State.refuse
  split
  · rfl
  · split
    · rfl
    · split <;> rfl

theorem cacheFill_ckp (l : List XltEntry) (s : State) : (cacheFill l s).ckp = s.ckp := by
  unfold cacheFill
  rw [foldl_ckp]
  exact fun _ _ => rfl

theorem translate_ckp (s : State) (env : Env) (fn : Nat) (wr : Bool) (a : Nat) : (s.translate env fn wr a).1.ckp = s.ckp := by
  have hsent : ∀ b : Bool, (if b = true then s.tlp else s).ckp = s.ckp := by
    intro b
    split
    · exact State.tlp_ckp s
    · rfl
  have hwalk : ∀ (lost : Option HostFail) (t : State), t.ckp = s.ckp →
      (match lost with | some f => t.hostFailed fn f | none => t).ckp = s.ckp := by
    intro lost t ht
    cases lost with
    | none => exact ht
    | some f => exact (hostFailed_ckp t fn f).trans ht
  unfold State.translate
  split
  · rfl
  · dsimp only
    split
    · rw [refuse_ckp]
      exact hwalk _ _ ((cacheFill_ckp _ _).trans (hsent _))
    · exact hwalk _ _ ((cacheFill_ckp _ _).trans (hsent _))

theorem writeHostRange_ckp (s : State) (env : Env) (fn : Nat) (l : List (Nat × Nat)) (bs : List Byte) :
    (s.writeHostRange env fn l bs).1.ckp = s.ckp := by
  induction l generalizing s bs with
  | nil => rfl
  | cons p l ih =>
    have ht := translate_ckp s env fn true p.1
    rw [State.writeHostRange]
    split
    · next s1 h heq =>
      rw [heq] at ht
      rw [ih, hostWrite_ckp, snoop_ckp]
      exact ht
    · next s1 st heq =>
      rw [heq] at ht
      exact ht
    · next s1 heq =>
      rw [heq] at ht
      exact ht

theorem markPoison_ckp (s : State) (b : Nat) (on : Bool) : (s.markPoison b on).ckp = s.ckp := by
  unfold State.markPoison
  split <;> rfl

theorem clearWhole_ckp (bs a n : Nat) (s : State) (b : Nat) : (clearWhole bs a n s b).ckp = s.ckp := by
  unfold clearWhole
  split
  · exact markPoison_ckp _ _ _
  · rfl

theorem devPut_ckp (s : State) (a n : Nat) (m : Memory) : (s.devPut a n m).ckp = s.ckp := by
  rw [State.devPut, State.setDev_ckp, State.endRsv]
  split <;> rfl

theorem devWrite_ckp (s : State) (a : Nat) (bs : List Byte) : (s.devWrite a bs).ckp = s.ckp := by
  unfold State.devWrite
  dsimp only
  split
  · exact devPut_ckp _ _ _ _
  · rw [foldl_ckp _ (fun t b => clearWhole_ckp _ _ _ t b), devPut_ckp]

theorem writeFor_ckp (s : State) (env : Env) (fn a : Nat) (bs : List Byte) : (s.writeFor env fn a bs).1.ckp = s.ckp := by
  unfold State.writeFor
  split
  · unfold State.writeChecked
    split
    · rfl
    · split
      · exact writeHostRange_ckp _ _ _ _ _
      · split
        · rfl
        · split
          · rfl
          · exact devWrite_ckp _ _ _
  · exact refuse_ckp _ _ _
  · rfl

theorem noteDone_ckp (s : State) (n : Nat) : (s.noteDone n).ckp = s.ckp := by
  unfold State.noteDone
  split <;> rfl

theorem releaseOf_ckp (s : State) (e : CplEntry) : (s.releaseOf e).ckp = s.ckp := by
  unfold State.releaseOf
  split
  · exact noteDone_ckp _ _
  · rfl

theorem holdEntry_ckp (s : State) (k : Nat) (e : CplEntry) : (s.holdEntry k e).ckp = s.ckp := by
  unfold State.holdEntry
  dsimp only
  rw [State.setRing_ckp]
  split
  · split
    · rw [State.setSlot_ckp, noteDone_ckp]
    · rfl
  · rfl

theorem irqRequest_ckp (s : State) (fn v : Nat) : (s.irqRequest fn v).ckp = s.ckp := by
  unfold State.irqRequest
  split
  · rfl
  · split
    · exact State.tlp_ckp s
    · split
      · unfold State.intxRaise
        dsimp only
        rw [State.setFld_ckp]
        split
        · exact State.tlp_ckp s
        · rfl
      · rfl

theorem moderate_ckp (s : State) (k : Nat) (irq : Bool) : (s.moderate k irq).ckp = s.ckp := by
  unfold State.moderate
  dsimp only
  split
  · rfl
  · split
    · rw [irqRequest_ckp, State.setRing_ckp]
    · rfl

theorem writeCq_ckp (s : State) (env : Env) (r : Ring) (a : Nat) (bs : List Byte) : (s.writeCq env r a bs).1.ckp = s.ckp := by
  unfold State.writeCq
  split
  · split
    · rfl
    · exact (hostWrite_ckp _ _ _).trans (snoop_ckp _ _ _ _)
  · exact writeFor_ckp _ _ _ _ _

theorem writeEntry_ckp (s : State) (env : Env) (k : Nat) (e : CplEntry) : (s.writeEntry env k e).1.ckp = s.ckp := by
  have hcq := writeCq_ckp s env (s.ring k) ((s.ring k).base + (s.ring k).hw % (s.ring k).entries * 16)
    (bytesOfWords (entryWords (s.ring k) e))
  unfold State.writeEntry
  dsimp only
  generalize s.writeCq env (s.ring k) _ _ = p at hcq ⊢
  obtain ⟨s1, res⟩ := p
  cases res with
  | ok _ => exact (moderate_ckp _ _ _).trans ((releaseOf_ckp _ _).trans hcq)
  | fail _ => exact hcq
  | wait => exact hcq

theorem haltCq_ckp (s : State) (k st : Nat) : (s.haltCq k st).ckp = s.ckp := by
  unfold State.haltCq
  dsimp only
  split <;> rfl

theorem postOne_ckp (s : State) (env : Env) (k : Nat) (e : CplEntry) : (s.postOne env k e).1.ckp = s.ckp := by
  have hentry := writeEntry_ckp s env k e
  unfold State.postOne
  dsimp only
  split
  · exact (releaseOf_ckp _ _).trans (State.inc_ckp _ _ _)
  · split
    · exact holdEntry_ckp _ _ _
    · generalize s.writeEntry env k e = p at hentry ⊢
      obtain ⟨s1, res⟩ := p
      cases res with
      | ok _ => exact hentry
      | fail _ => exact (haltCq_ckp _ _ _).trans ((holdEntry_ckp _ _ _).trans hentry)
      | wait => exact (holdEntry_ckp _ _ _).trans hentry

theorem postCqHalt_ckp (s : State) (env : Env) (k st : Nat) : (s.postCqHalt env k st).ckp = s.ckp := by
  unfold State.postCqHalt
  dsimp only
  split
  · rfl
  · exact postOne_ckp _ _ _ _

theorem post_ckp (s : State) (env : Env) (k : Nat) (e : CplEntry) : (s.post env k e).ckp = s.ckp := by
  have hone := postOne_ckp s env k e
  unfold State.post
  generalize s.postOne env k e = p at hone ⊢
  obtain ⟨s1, halted⟩ := p
  cases halted with
  | none => exact hone
  | some st => exact (postCqHalt_ckp _ _ _ _).trans hone

theorem postEvent_ckp (s : State) (env : Env) (fn code : Nat) (res : Word) (st : Nat) :
    (s.postEvent env fn code res st).ckp = s.ckp := by
  unfold State.postEvent
  split
  · exact post_ckp _ _ _ _
  · rfl

theorem ite_ckp {c : Prop} [Decidable c] {s t u : State} (ht : t.ckp = s.ckp) (hu : u.ckp = s.ckp) :
    (if c then t else u).ckp = s.ckp := by
  split
  · exact ht
  · exact hu

theorem emptySlot_ckp (s : State) (k : Nat) : (s.emptySlot k).ckp = s.ckp := by
  unfold State.emptySlot
  exact ite_ckp rfl (devWrite_ckp _ _ _)

theorem buddySet_ckp (s : State) (n : Nat) : (s.buddySet n).ckp = s.ckp := by
  unfold State.buddySet
  exact (emptySlot_ckp _ _).trans (emptySlot_ckp _ _)

theorem ckSettle_ckp (s : State) : s.ckSettle.ckp = s.ckp := by
  have hmaint : (if s.ckp.idle then { s with mem := { s.mem with
      maint := startReady [] (s.mem.maint.filter (fun m => decide (m.act ≠ .checkpoint))) } } else s : State).ckp = s.ckp := by
    split <;> rfl
  have happly : ∀ t : State, t.ckp = s.ckp → (match t.mem.buddyWait with
      | some n => if t.ckp.transfers then t else t.buddySet n | none => t).ckp = s.ckp := by
    intro t ht
    split
    · split
      · exact ht
      · exact (buddySet_ckp _ _).trans ht
    · exact ht
  exact happly _ hmaint

/-- A checkpoint that fails is over. -/
theorem ckFail_job (s : State) (st cause : Nat) : (s.ckFail st cause).ckp.job = none := by
  unfold State.ckFail
  split
  · next h => exact h
  · next j hj =>
    have htrim : ∀ (t : State) (q : Nat), (match t.qp? q with | some x => t.setQp q x.trim | none => t).ckp = t.ckp := by
      intro t q
      split <;> rfl
    dsimp only
    rw [ckSettle_ckp]
    split
    · rw [slotDone_ckp, State.setCkState, State.setFld_ckp]
      exact congrArg Ckpt.job (foldl_ckp _ htrim _ _)
    · rw [postEvent_ckp, State.setCkState, State.setFld_ckp]
      exact congrArg Ckpt.job (foldl_ckp _ htrim _ _)

theorem ckFail_idle {s : State} (h : s.ckp.job = none) (st cause : Nat) : s.ckFail st cause = s := by
  rw [State.ckFail, h]

/-! OPEN_TIMEOUT (R565). -/

theorem exec_openTimeout_job {s : State} {j : CkJob} (hjob : s.ckp.job = some j) (hst : s.fld F.CKP_STAT_STATE 0 = 2)
    (hopen : j.bytes ≠ 0) (hdue : j.since + s.fld F.CKP_CTL_OPEN_MS 0 * 1000000 ≤ s.tb.time)
    (hrestore : (s.ckFail 0x600 2).ckp.restore = none) : exec .openTimeout s = .next (s.ckFail 0x600 2) := by
  have hfail : (if s.fld F.CKP_STAT_STATE 0 = 2 ∧ j.bytes ≠ 0 ∧ j.since + s.fld F.CKP_CTL_OPEN_MS 0 * 1000000 ≤ s.tb.time then
      s.ckFail St.CKPT_NO_BUDDY 2 else s) = s.ckFail 0x600 2 := if_pos ⟨hst, hopen, hdue⟩
  rw [exec_openTimeout, execOpenTimeout, hjob]
  dsimp only
  rw [hfail, hrestore]

theorem exec_openTimeout_restore {s : State} {r : CkRestore} (hjob : s.ckp.job = none) (hr : s.ckp.restore = some r)
    (hheader : r.header = none) (hdead : r.dead = false) : exec .openTimeout s = .next (
      if r.since + s.fld F.CKP_CTL_OPEN_MS 0 * 1000000 ≤ s.tb.time then s.restoreEnd 0x600 (BitVec.ofNat 64 (2 * 2 ^ 56))
      else s) := by
  rw [exec_openTimeout, execOpenTimeout, hjob]
  dsimp only
  rw [hr]
  dsimp only
  rw [hheader, hdead]
  by_cases hdue : r.since + s.fld F.CKP_CTL_OPEN_MS 0 * 1000000 ≤ s.tb.time
  · rw [if_pos hdue]
    exact congrArg _ (if_pos ⟨rfl, rfl, hdue⟩)
  · rw [if_neg hdue]
    exact congrArg _ (if_neg fun h => hdue h.2.2)

/-- Settles O49: each command is followed through its checks; that a failed checkpoint is over needs that nothing which its
failure goes through arms another. -/
theorem checkpointArming : Obligations.CheckpointArming := by
  unfold Obligations.CheckpointArming
  refine ⟨?arm, ?waiting, ?list, ?lanesBad, ?lane, fun off r t => rfl, ?sampled, ?trig, ?cut, ?kick,
    fun s st cause => ⟨fun h => ckFail_idle h st cause, ckFail_job s st cause⟩,
    fun s j hjob hst hopen hrestore hdue => exec_openTimeout_job hjob hst hopen hdue hrestore, ?restore⟩
  case arm =>
    intro s slot env x s1 hat hjob hwait a c a1 n
    have hexec := exec_arm_new env hat hjob hwait
    refine ⟨fun hbad => ?_, fun hfn hlo hal hc hz hn hmax => ?_⟩
    · refine hexec.trans (congrArg _ (if_pos ?_))
      rcases hbad with h | h | h
      · exact .inl h
      · exact .inr (.inr (.inr (.inr (.inr (.inl h)))))
      · exact .inr (.inr (.inr (.inr (.inr (.inr h)))))
    · have hok : ¬ (x.fn ≠ s.buddyFn ∨ 2 ^ 48 ≤ a ∨ a % 64 ≠ 0 ∨ 128 ≤ c ∨ (!zeroFrom x.words 3) = true ∨ n = 0 ∨ 96 < n) := by
        rw [hz]
        rintro (h | h | h | h | h | h | h)
        · exact h hfn
        · omega
        · exact h hal
        · omega
        · cases h
        · omega
        · omega
      rw [hexec]
      dsimp only
      rw [if_neg hok]
      unfold State.withDomain
      refine ⟨fun hd => by rw [hd]; rfl, fun hd => ?_⟩
      rw [hd]
      refine ⟨fun st hlist => ?_, fun rs hlist => ?_⟩
      · rw [hlist]
      · rw [hlist]
        exact ⟨fun h => congrArg _ (ckTake_arms h _), fun hidle hwarned hnew => congrArg _ (ckTake_waits hidle hwarned hnew)⟩
  case waiting =>
    intro s slot env x j hat hjob hwait
    rw [exec_arm_waiting env hat hjob hwait]
    have hmem : s.ckp.waits.any (fun w => decide (w.slot = j.slot)) = true :=
      List.any_eq_true.mpr ⟨j, List.mem_of_find?_eq_some hwait, decide_eq_true rfl⟩
    exact ⟨fun h => congrArg _ (ckTake_arms h j), fun hidle hwarned => congrArg _ (ckTake_waiting hidle hwarned hmem)⟩
  case list =>
    intro s env a n s1 b hread es rs
    have hlist := ckList_read hread
    refine ⟨fun hbad => hlist.trans (if_pos hbad), fun hes hov hacc => ?_⟩
    have hpass : s.ckList env a n = match s1.lanesFail with | some st => (s1, .fail st) | none => (s1, .ok rs) := by
      have hgood : ¬ (es.any (ckEntryBad s) = true ∨ ckOverlap rs = true) := by
        rw [hes, hov]
        decide
      refine hlist.trans ((if_neg hgood).trans ?_)
      rw [show s1.ckAccess false _ = _ from hacc]
    rw [hpass]
    exact ⟨fun st hl => by rw [hl], fun hl => by rw [hl]⟩
  case lanesBad =>
    intro s hbad
    refine if_pos ?_
    rcases hbad with h | h
    · exact .inl (by rw [h]; rfl)
    · exact .inr (.inr (List.any_eq_true.mpr h))
  case lane =>
    intro s q x p h0 hrest hq hx hp hraw hfn hst hmtu
    have hlanes : s.lanes = [q] := hq ▸ lanes_single h0 hrest
    have hfail : p.state ≠ 5 → s.lanesFail = if p.state = 2 then none else if p.state = 4 then some 0x401 else some 0x400 := by
      intro hup
      rw [lanesFail_single h0 hrest hq (laneBad_false hlanes hx hp hraw hfn hst hmtu hup), State.lanePeer, hx,
        Option.bind_some, hp]
    refine ⟨fun h => ?_, fun h => ?_, fun h2 h4 h5 => ?_⟩
    · rw [hfail (by omega), if_pos h]
    · rw [hfail (by omega), if_neg (by omega), if_pos h]
    · rw [hfail h5, if_neg h2, if_neg h4]
  case sampled =>
    intro s env
    exact ⟨fun hdue hd => when_pos ⟨hdue, hd⟩ _ _, fun hearly => when_neg (fun h => by omega) _ _⟩
  case trig =>
    intro s env k w hv hw c put req
    have hsample := trigSample_again env hv hw
    refine ⟨fun hlt => ?_, fun hge => ?_⟩
    · have hquiet := hsample.trans (if_neg (Nat.not_le_of_lt hlt))
      exact ⟨fun hin => hquiet.trans (if_neg (Nat.not_le_of_lt hin)), fun hout => hquiet.trans (if_pos hout)⟩
    · have hfire := hsample.trans (if_pos hge)
      refine ⟨fun j hj => hfire.trans ?_, fun hjob hno => hfire.trans ?_⟩
      · rw [trigFire_merged env k hj]
      · rw [trigFire_posted env k hjob hno]
  case cut =>
    intro s ring h hck hat hbad hmis rs hlen hcut
    have hexec := exec_barrier_held hck hat hbad
    rw [if_neg (by simp [hmis])] at hexec
    exact hexec.trans (congrArg _ ((if_pos hlen).trans (if_pos hcut)))
  case kick =>
    intro s ring j hjob hr
    have hkick := ckKick_job hjob hr
    refine ⟨exec_barrier_kicks (ckHolds_of_mem hjob hr), fun hb hrun => ?_, fun hb hrun => ?_, fun hb => ?_⟩
    · exact hkick.trans ((if_pos hb).trans (if_pos hrun))
    · exact hkick.trans ((if_pos hb).trans (if_neg (by rw [hrun]; decide)))
    · exact hkick.trans (if_neg hb)
  case restore =>
    intro s r hjob hr hheader hdead
    rw [exec_openTimeout_restore hjob hr hheader hdead]
    exact ⟨fun h => by rw [if_pos h], fun h => by rw [if_neg (Nat.not_le_of_lt h)]⟩

end Sys2Proof.Machine
end

section
/-! Interrupt requests that wait are sent once their masks fall (R111, R367, R369, R370). Every access crosses the upstream link; once
it has, sending a message changes the message lists alone. -/

namespace Sys2Proof.Machine

/-! Bits of a number. -/

theorem bit_eq_testBit (n i : Nat) : bit n i = n.testBit i := by
  rw [bit, Nat.testBit_eq_decide_div_mod_eq, Nat.shiftRight_eq_div_pow]
  rfl

theorem and_add_ldiff (x v : Nat) : (x &&& v) + Nat.ldiff x v = x := by
  induction x using Nat.binaryRec generalizing v with
  | zero =>
    rw [Nat.zero_and, Nat.zero_add]
    exact Nat.eq_of_testBit_eq fun i => by rw [Nat.testBit_ldiff, Nat.zero_testBit, Bool.false_and]
  | bit b n ih =>
    cases v using Nat.bitCasesOn with
    | bit c m =>
      have hrest := ih m
      rw [Nat.land_bit, Nat.ldiff_bit]
      cases b <;> cases c <;> simp only [Nat.bit_val, Bool.and_true, Bool.and_false, Bool.not_true, Bool.not_false,
        Bool.toNat_true, Bool.toNat_false] <;> omega

/-- The bits that a write of ones leaves (R12). -/
theorem sub_and_eq_ldiff (x v : Nat) : x - (x &&& v) = Nat.ldiff x v := by
  have h := and_add_ldiff x v
  omega

/-! A TLP over a link that is awake. -/

/-- The link has left L1 and its last TLP is of this instant. -/
def State.awake (s : State) : Prop :=
  ¬ (s.fld F.HEP_LINK_STAT_STATE 0 = 3 ∨ s.fld F.HEP_LINK_STAT_STATE 0 = 4 ∨ s.fld F.HEP_LINK_STAT_STATE 0 = 5) ∧
    s.hep.lastTlp = s.tb.time

theorem leaveL1_awake {s : State} (h : s.awake) : s.leaveL1 = s := if_neg h.1

theorem tlp_of_awake {s : State} (h : s.awake) : s.tlp = s := by
  have hlast : { s.hep with lastTlp := s.tb.time } = s.hep := by rw [← h.2]
  unfold State.tlp
  dsimp only
  rw [leaveL1_awake h, hlast]

theorem setDomain_link (s : State) (on : Bool) :
    s.setDomain 29 on = s.setFld F.FUM_PD_STAT_ON 0 (setField (s.fld F.FUM_PD_STAT_ON 0) 29 29 (ofBit on)) := by
  unfold State.setDomain
  exact if_neg (fun h => absurd h.1 (by decide))

theorem leaveL1_asleep {s : State} (h : s.fld F.HEP_LINK_STAT_STATE 0 = 3 ∨ s.fld F.HEP_LINK_STAT_STATE 0 = 4 ∨
    s.fld F.HEP_LINK_STAT_STATE 0 = 5) : s.leaveL1 =
      (s.setFld F.HEP_LINK_STAT_STATE 0 (if s.fld F.HEP_LINK_STAT_L0P_WIDTH 0 = 0 then 1 else 2)).setDomain 29 true := if_pos h

theorem leaveL1_frame (s : State) : s.leaveL1 = { s with regs := s.leaveL1.regs } := by
  by_cases h : s.fld F.HEP_LINK_STAT_STATE 0 = 3 ∨ s.fld F.HEP_LINK_STAT_STATE 0 = 4 ∨ s.fld F.HEP_LINK_STAT_STATE 0 = 5
  · rw [leaveL1_asleep h, setDomain_link]
    simp only [State.setFld]
  · rw [show s.leaveL1 = s from if_neg h]

theorem leaveL1_kept (s : State) : FieldsKept s s.leaveL1 [F.HEP_LINK_STAT_STATE.key 0, F.FUM_PD_STAT_ON.key 0] := by
  by_cases h : s.fld F.HEP_LINK_STAT_STATE 0 = 3 ∨ s.fld F.HEP_LINK_STAT_STATE 0 = 4 ∨ s.fld F.HEP_LINK_STAT_STATE 0 = 5
  · rw [leaveL1_asleep h, setDomain_link]
    exact ((FieldsKept.refl s _).setFld (by simp) _).setFld (by simp) _
  · rw [show s.leaveL1 = s from if_neg h]
    exact FieldsKept.refl s _

theorem leaveL1_link (s : State) : ¬ (s.leaveL1.fld F.HEP_LINK_STAT_STATE 0 = 3 ∨ s.leaveL1.fld F.HEP_LINK_STAT_STATE 0 = 4 ∨
    s.leaveL1.fld F.HEP_LINK_STAT_STATE 0 = 5) := by
  by_cases h : s.fld F.HEP_LINK_STAT_STATE 0 = 3 ∨ s.fld F.HEP_LINK_STAT_STATE 0 = 4 ∨ s.fld F.HEP_LINK_STAT_STATE 0 = 5
  · rw [leaveL1_asleep h, setDomain_link, fld_setFld_place (by decide), fld_setFld_same]
    split <;> decide
  · rw [show s.leaveL1 = s from if_neg h]
    exact h

theorem tlp_frame (s : State) : s.tlp = { s with regs := s.tlp.regs, hep := { s.hep with lastTlp := s.tb.time } } := by
  unfold State.tlp
  dsimp only
  rw [leaveL1_frame s]

theorem tlp_hep (s : State) : s.tlp.hep = { s.hep with lastTlp := s.tb.time } := by rw [tlp_frame]

theorem tlp_awake (s : State) : s.tlp.awake := ⟨leaveL1_link s, rfl⟩

theorem tlp_fld {f : Fld} {i : Nat} (h : f.key i ∉ [F.HEP_LINK_STAT_STATE.key 0, F.FUM_PD_STAT_ON.key 0]) (s : State) :
    s.tlp.fld f i = s.fld f i := leaveL1_kept s f i h

/-- A per-function field of another register than the link's. -/
theorem tlp_fld_fn {f : Fld} {fn : Nat} (hfn : fn < 256)
    (h : f.off * 64 + f.lo ≠ F.HEP_LINK_STAT_STATE.off * 64 + F.HEP_LINK_STAT_STATE.lo ∧
      f.off * 64 + f.lo ≠ F.FUM_PD_STAT_ON.off * 64 + F.FUM_PD_STAT_ON.lo) (s : State) : s.tlp.fld f fn = s.fld f fn := by
  refine tlp_fld (fun hmem => ?_) s
  unfold Fld.key at hmem
  rw [List.mem_cons, List.mem_singleton] at hmem
  obtain ⟨hlink, hpd⟩ := h
  omega

theorem tlp_flag_fn {f : Fld} {fn : Nat} (hfn : fn < 256)
    (h : f.off * 64 + f.lo ≠ F.HEP_LINK_STAT_STATE.off * 64 + F.HEP_LINK_STAT_STATE.lo ∧
      f.off * 64 + f.lo ≠ F.FUM_PD_STAT_ON.off * 64 + F.FUM_PD_STAT_ON.lo) (s : State) : s.tlp.flag f fn = s.flag f fn := by
  exact congrArg (fun n => n != 0) (tlp_fld_fn hfn h s)

theorem tlp_fnExists (s : State) (fn : Nat) : s.tlp.fnExists fn = s.fnExists fn := by
  rw [State.fnExists, tlp_hep]
  rfl

theorem tlp_cfg (s : State) (fn : Nat) : s.tlp.cfg fn = s.cfg fn := by
  rw [State.cfg, tlp_hep]
  rfl

/-! A configuration request (R356, R360). -/

theorem configured_done {s : State} {fn : Nat} (hfn : fn < 256) (hex : s.fnExists fn = true)
    (hdrain : s.flag F.HEP_FN_STAT_DRAINING fn = false) (f : State → State) : s.configured fn f = f s.tlp := by
  rw [State.configured, if_neg (by rw [tlp_fnExists, hex]; decide),
    if_neg (by rw [tlp_flag_fn hfn (by decide), hdrain]; decide)]

theorem configured_draining {s : State} {fn : Nat} (hfn : fn < 256) (hex : s.fnExists fn = true)
    (hdrain : s.flag F.HEP_FN_STAT_DRAINING fn = true) (f : State → State) : s.configured fn f = s.tlp := by
  rw [State.configured, if_neg (by rw [tlp_fnExists, hex]; decide), if_pos (by rw [tlp_flag_fn hfn (by decide), hdrain])]

theorem configured_missing {s : State} {fn : Nat} (hex : s.fnExists fn = false) (f : State → State) :
    s.configured fn f = aerReport (fn % 256) 4 s.tlp := by
  rw [State.configured, if_pos (by rw [tlp_fnExists, hex]; rfl)]

/-! Keys removed from a table. -/

theorem find?_foldl_del {α β : Type} (l : List (Nat × β)) (m : Tbl α) (k : Nat) :
    Tbl.find? k (l.foldl (fun m x => Tbl.del x.1 m) m) = if k ∈ l.map (fun x => x.1) then none else Tbl.find? k m := by
  induction l generalizing m with
  | nil => rfl
  | cons x l ih =>
    rw [List.foldl_cons, ih]
    by_cases hl : k ∈ l.map (fun x => x.1)
    · simp [hl]
    · by_cases hx : k = x.1
      · subst hx
        simp [Tbl.find?_del_same]
      · simp only [if_neg hl, List.map_cons, List.mem_cons, hx, false_or, Tbl.find?_del_ne hx]

/-! Messages of waiting requests (R367). -/

/-- `t` is `s` but for the waiting requests and the messages sent. -/
def MsgsOnly (s t : State) : Prop := t = { s with hep := { s.hep with irq := t.hep.irq, msgs := t.hep.msgs } }

theorem MsgsOnly.refl (s : State) : MsgsOnly s s := rfl

theorem MsgsOnly.trans {s t u : State} (hst : MsgsOnly s t) (htu : MsgsOnly t u) : MsgsOnly s u := by
  unfold MsgsOnly at hst htu ⊢
  rw [hst] at htu
  exact htu

theorem MsgsOnly.mayInterrupt {s t : State} (h : MsgsOnly s t) (fn v : Nat) : t.mayInterrupt fn v = s.mayInterrupt fn v := by
  rw [h]
  rfl

theorem MsgsOnly.awake {s t : State} (h : MsgsOnly s t) (hs : s.awake) : t.awake := by
  rw [h]
  exact hs

theorem sendMsix_msgs {s : State} (h : s.awake) (fn v : Nat) :
    MsgsOnly s (s.sendMsix fn v) ∧ (s.sendMsix fn v).hep.irq = s.hep.irq := by
  unfold State.sendMsix MsgsOnly
  dsimp only
  rw [tlp_of_awake h]
  exact ⟨rfl, rfl⟩

theorem foldl_sendMsix_msgs (fn v : Nat) (l : List Nat) {s : State} (h : s.awake) :
    MsgsOnly s (l.foldl (fun u _ => u.sendMsix fn v) s) ∧ (l.foldl (fun u _ => u.sendMsix fn v) s).hep.irq = s.hep.irq := by
  induction l generalizing s with
  | nil => exact ⟨MsgsOnly.refl s, rfl⟩
  | cons x l ih =>
    obtain ⟨hone, hirq⟩ := sendMsix_msgs h fn v
    obtain ⟨hall, hirqs⟩ := ih (hone.awake h)
    exact ⟨hone.trans hall, hirqs.trans hirq⟩

/-- Whether a waiting request is one of function `fn` whose vector may send. -/
def State.sends (s : State) (fn : Nat) (x : Nat × IrqVec) : Bool :=
  decide (x.1 / 4096 = fn ∧ x.2.count ≠ 0 ∧ s.mayInterrupt fn (x.1 % 4096) = true)

/-- The requests of one vector sent, if it may send. -/
def State.flushVec (fn : Nat) (t : State) (x : Nat × IrqVec) : State :=
  if x.1 / 4096 = fn ∧ x.2.count ≠ 0 ∧ t.mayInterrupt fn (x.1 % 4096) = true then
    ((List.range x.2.count).foldl (fun u _ => u.sendMsix fn (x.1 % 4096)) t).setIrq fn (x.1 % 4096) {}
  else t

theorem flushIrq_eq (s : State) (fn : Nat) : s.flushIrq fn = s.hep.irq.foldl (State.flushVec fn) s := rfl

theorem flushVec_msgs {t : State} (h : t.awake) (fn : Nat) (x : Nat × IrqVec) : MsgsOnly t (t.flushVec fn x) ∧
    (t.flushVec fn x).hep.irq = if t.sends fn x = true then Tbl.del x.1 t.hep.irq else t.hep.irq := by
  unfold State.flushVec State.sends
  by_cases hx : x.1 / 4096 = fn ∧ x.2.count ≠ 0 ∧ t.mayInterrupt fn (x.1 % 4096) = true
  · rw [if_pos hx, if_pos (decide_eq_true hx)]
    obtain ⟨hmsgs, hirq⟩ := foldl_sendMsix_msgs fn (x.1 % 4096) (List.range x.2.count) h
    have hkey : vecKey fn (x.1 % 4096) = x.1 := by
      unfold vecKey
      omega
    refine ⟨hmsgs.trans rfl, ?_⟩
    rw [State.setIrq, hkey]
    show Tbl.put ({} : IrqVec) x.1 {} _ = _
    rw [hirq]
    exact if_pos rfl
  · rw [if_neg hx, if_neg (by simpa using hx)]
    exact ⟨MsgsOnly.refl t, rfl⟩

theorem foldl_flushVec_msgs (fn : Nat) (l : List (Nat × IrqVec)) {s : State} (h : s.awake) :
    MsgsOnly s (l.foldl (State.flushVec fn) s) ∧
    (l.foldl (State.flushVec fn) s).hep.irq = (l.filter (s.sends fn)).foldl (fun m x => Tbl.del x.1 m) s.hep.irq := by
  induction l generalizing s with
  | nil => exact ⟨MsgsOnly.refl s, rfl⟩
  | cons x l ih =>
    obtain ⟨hone, hirq⟩ := flushVec_msgs h fn x
    obtain ⟨hall, hirqs⟩ := ih (hone.awake h)
    have hsends : (s.flushVec fn x).sends fn = s.sends fn := by
      funext y
      rw [State.sends, hone.mayInterrupt]
      rfl
    refine ⟨hone.trans hall, hirqs.trans ?_⟩
    rw [hirq, hsends, List.filter_cons]
    split <;> rfl

theorem flushIrq_msgs {s : State} (h : s.awake) (fn : Nat) : MsgsOnly s (s.flushIrq fn) := (foldl_flushVec_msgs fn _ h).1

/-- The keys that FLUSH removes are those of its function's vectors that may send. -/
theorem flushIrq_find? {s : State} (h : s.awake) (fn k : Nat) : Tbl.find? k (s.flushIrq fn).hep.irq =
    if k ∈ (s.hep.irq.filter (s.sends fn)).map (fun x => x.1) then none else Tbl.find? k s.hep.irq := by
  rw [flushIrq_eq, (foldl_flushVec_msgs fn _ h).2, find?_foldl_del]

theorem mem_map_sends {s : State} {fn k : Nat} (h : k ∈ (s.hep.irq.filter (s.sends fn)).map (fun x => x.1)) :
    k / 4096 = fn ∧ s.mayInterrupt fn (k % 4096) = true := by
  obtain ⟨x, hx, rfl⟩ := List.mem_map.mp h
  obtain ⟨hfn, -, hmay⟩ := of_decide_eq_true (List.mem_filter.mp hx).2
  exact ⟨hfn, hmay⟩

theorem vecKey_div {fn v : Nat} (hv : v < 4096) : vecKey fn v / 4096 = fn := by
  unfold vecKey
  omega

theorem vecKey_mod {fn v : Nat} (hv : v < 4096) : vecKey fn v % 4096 = v := by
  unfold vecKey
  omega

theorem flushIrq_find?_other {s : State} (h : s.awake) {fn k : Nat} (hk : k / 4096 ≠ fn) :
    Tbl.find? k (s.flushIrq fn).hep.irq = Tbl.find? k s.hep.irq := by
  rw [flushIrq_find? h, if_neg (fun hm => hk (mem_map_sends hm).1)]

theorem flushIrq_irqVec_masked {s : State} (h : s.awake) {fn v : Nat} (hv : v < 4096) (hmay : s.mayInterrupt fn v = false) :
    (s.flushIrq fn).irqVec fn v = s.irqVec fn v := by
  have hnot : vecKey fn v ∉ (s.hep.irq.filter (s.sends fn)).map (fun x => x.1) := by
    intro hm
    have hsent := (mem_map_sends hm).2
    rw [vecKey_mod hv, hmay] at hsent
    cases hsent
  rw [State.irqVec, Tbl.getD, flushIrq_find? h, if_neg hnot]
  rfl

theorem flushIrq_irqVec_sent {s : State} (h : s.awake) {fn v : Nat} (hv : v < 4096) (hmay : s.mayInterrupt fn v = true) :
    ((s.flushIrq fn).irqVec fn v).count = 0 := by
  rw [State.irqVec, Tbl.getD, flushIrq_find? h]
  split
  · rfl
  · next hnot =>
    cases hf : Tbl.find? (vecKey fn v) s.hep.irq with
    | none => rfl
    | some x =>
      by_contra hcount
      have hsends : s.sends fn (vecKey fn v, x) = true :=
        decide_eq_true ⟨vecKey_div hv, hcount, by rw [vecKey_mod hv, hmay]⟩
      exact hnot (List.mem_map.mpr ⟨_, List.mem_filter.mpr ⟨Tbl.mem_of_find? hf, hsends⟩, rfl⟩)

/-! INTx cause bits of waiting requests (R367, R369). -/

/-- The field of the cause bit of vector `v`. -/
def causeFld (v : Nat) : Fld := F.HEP_INTX_CAUSE_VEC.at (v / 64)

/-- The keys of the cause bits. -/
def causeKeys : List Nat := (List.range 17).map (fun k => (F.HEP_INTX_CAUSE_VEC.at k).key 0)

theorem causeFld_mem {v : Nat} (hv : v < 1036) : (causeFld v).key 0 ∈ causeKeys :=
  List.mem_map.mpr ⟨v / 64, List.mem_range.mpr (by omega), rfl⟩

/-- Cause fields of different registers have different keys. -/
theorem causeKey_ne {j k : Nat} (h : j ≠ k) : (F.HEP_INTX_CAUSE_VEC.at j).key 0 ≠ (F.HEP_INTX_CAUSE_VEC.at k).key 0 := by
  simp only [Fld.key, Fld.at, F.HEP_INTX_CAUSE_VEC]
  omega

/-- `t` is `s` but for the waiting requests, the cause bits, which only rise, and the INTx messages. -/
structure CausesRaised (s t : State) : Prop where
  frame : t = { s with regs := t.regs, hep := { s.hep with
    irq := t.hep.irq, intxAsserted := t.hep.intxAsserted, intxMsgs := t.hep.intxMsgs } }
  kept : FieldsKept s t causeKeys
  rises : ∀ k i, i < 64 → bit (s.fld (F.HEP_INTX_CAUSE_VEC.at k) 0) i = true → bit (t.fld (F.HEP_INTX_CAUSE_VEC.at k) 0) i = true

theorem CausesRaised.refl (s : State) : CausesRaised s s := ⟨rfl, FieldsKept.refl s _, fun _ _ _ h => h⟩

theorem CausesRaised.trans {s t u : State} (hst : CausesRaised s t) (htu : CausesRaised t u) : CausesRaised s u := by
  obtain ⟨hf, hk, hr⟩ := hst
  obtain ⟨hf', hk', hr'⟩ := htu
  refine ⟨?_, fun g j hg => (hk' g j hg).trans (hk g j hg), fun k i hi h => hr' k i hi (hr k i hi h)⟩
  rw [hf] at hf'
  exact hf'

theorem CausesRaised.awake {s t : State} (h : CausesRaised s t) (hs : s.awake) : t.awake := by
  have hlink : t.fld F.HEP_LINK_STAT_STATE 0 = s.fld F.HEP_LINK_STAT_STATE 0 := h.kept _ _ (by decide)
  have hlast : t.hep.lastTlp = t.tb.time := by
    rw [h.frame]
    exact hs.2
  unfold State.awake
  rw [hlink]
  exact ⟨hs.1, hlast⟩

theorem bit_or_left {a : Nat} {i w : Nat} (hi : i < w) (h : bit a i = true) (b : Nat) : bit ((a ||| b) % 2 ^ w) i = true := by
  rw [bit_eq_testBit] at h ⊢
  simp [Nat.testBit_mod_two_pow, hi, h]

theorem bit_or_two_pow {i w : Nat} (hi : i < w) (a : Nat) : bit ((a ||| 2 ^ i) % 2 ^ w) i = true := by
  rw [bit_eq_testBit]
  simp [Nat.testBit_mod_two_pow, hi]

theorem intxSend_awake {s : State} (h : s.awake) (on : Bool) : s.intxSend on = { s with hep := { s.hep with
    intxAsserted := on, intxMsgs := (if on then 1 else 2) :: s.hep.intxMsgs } } := by
  unfold State.intxSend
  dsimp only
  rw [tlp_of_awake h]

theorem intxSend_causes {s : State} (h : s.awake) (on : Bool) : CausesRaised s (s.intxSend on) ∧
    (s.intxSend on).hep.irq = s.hep.irq := by
  rw [intxSend_awake h]
  exact ⟨⟨rfl, (FieldsKept.refl s _).of_regs rfl, fun _ _ _ hb => hb⟩, rfl⟩

/-- A cause field at another value that holds the bits it had. -/
theorem setCause_causes {s : State} {v : Nat} (hv : v < 1036) (b : Nat) :
    CausesRaised s (s.setFld (causeFld v) 0 (s.fld (causeFld v) 0 ||| b)) := by
  refine ⟨rfl, (FieldsKept.refl s _).setFld (causeFld_mem hv) _, fun k i hi h => ?_⟩
  by_cases hk : k = v / 64
  · subst hk
    exact (congrArg (fun n => bit n i) (fld_setFld_same s (causeFld v) 0 _)).trans (bit_or_left hi h b)
  · rw [show causeFld v = F.HEP_INTX_CAUSE_VEC.at (v / 64) from rfl, fld_setFld_ne (causeKey_ne hk)]
    exact h

theorem intxRaise_causes {s : State} (h : s.awake) {v : Nat} (hv : v < 1036) : CausesRaised s (s.intxRaise v) ∧
    (s.intxRaise v).hep.irq = s.hep.irq ∧ bit ((s.intxRaise v).fld (causeFld v) 0) (v % 64) = true := by
  have hsent : CausesRaised s (if s.intxClear then s.intxSend true else s) ∧
      (if s.intxClear then s.intxSend true else s).hep.irq = s.hep.irq := by
    split
    · exact intxSend_causes h true
    · exact ⟨CausesRaised.refl s, rfl⟩
  unfold State.intxRaise
  dsimp only
  generalize (if s.intxClear then s.intxSend true else s) = t at hsent ⊢
  refine ⟨hsent.1.trans (setCause_causes hv _), hsent.2, ?_⟩
  exact (congrArg (fun n => bit n (v % 64)) (fld_setFld_same t (causeFld v) 0 _)).trans
    (bit_or_two_pow (Nat.mod_lt v (by decide)) _)

/-- Whether a waiting request is one of the physical function. -/
def pfWaits (x : Nat × IrqVec) : Bool := decide (x.1 < vecCount 0 ∧ x.2.count ≠ 0)

/-- The cause bit of one vector set, if it has requests. -/
def State.raiseVec (t : State) (x : Nat × IrqVec) : State :=
  if x.1 < vecCount 0 ∧ x.2.count ≠ 0 then (t.intxRaise x.1).setIrq 0 x.1 {} else t

theorem flushIntx_on {s : State} (h : s.intxOn = true) : s.flushIntx = s.hep.irq.foldl State.raiseVec s := if_pos h

theorem flushIntx_off {s : State} (h : s.intxOn = false) : s.flushIntx = s := if_neg (by simp [h])

theorem setIrq_causes (s : State) (fn v : Nat) (x : IrqVec) : CausesRaised s (s.setIrq fn v x) :=
  ⟨rfl, (FieldsKept.refl s _).of_regs rfl, fun _ _ _ h => h⟩

theorem raiseVec_causes {t : State} (h : t.awake) (x : Nat × IrqVec) : CausesRaised t (t.raiseVec x) ∧
    (t.raiseVec x).hep.irq = (if pfWaits x = true then Tbl.del x.1 t.hep.irq else t.hep.irq) ∧
    (pfWaits x = true → bit ((t.raiseVec x).fld (causeFld x.1) 0) (x.1 % 64) = true) := by
  unfold State.raiseVec pfWaits
  by_cases hx : x.1 < vecCount 0 ∧ x.2.count ≠ 0
  · rw [if_pos hx, if_pos (decide_eq_true hx)]
    obtain ⟨hraised, hirq, hbit⟩ := intxRaise_causes h (v := x.1) hx.1
    refine ⟨hraised.trans (setIrq_causes _ _ _ _), ?_, fun _ => hbit⟩
    rw [State.setIrq, show vecKey 0 x.1 = x.1 by unfold vecKey; omega]
    show Tbl.put ({} : IrqVec) x.1 {} _ = _
    rw [hirq]
    exact if_pos rfl
  · rw [if_neg hx, if_neg (by simpa using hx)]
    exact ⟨CausesRaised.refl t, rfl, fun hp => absurd (of_decide_eq_true hp) hx⟩

theorem foldl_raiseVec_causes (l : List (Nat × IrqVec)) {s : State} (h : s.awake) :
    CausesRaised s (l.foldl State.raiseVec s) ∧
    (l.foldl State.raiseVec s).hep.irq = (l.filter pfWaits).foldl (fun m x => Tbl.del x.1 m) s.hep.irq ∧
    (∀ x ∈ l, pfWaits x = true → bit ((l.foldl State.raiseVec s).fld (causeFld x.1) 0) (x.1 % 64) = true) := by
  induction l generalizing s with
  | nil => exact ⟨CausesRaised.refl s, rfl, fun x hx => by cases hx⟩
  | cons y l ih =>
    obtain ⟨hone, hirq, hbit⟩ := raiseVec_causes h y
    obtain ⟨hall, hirqs, hbits⟩ := ih (hone.awake h)
    refine ⟨hone.trans hall, hirqs.trans ?_, fun x hx hp => ?_⟩
    · rw [hirq, List.filter_cons]
      split <;> rfl
    · rcases List.mem_cons.mp hx with rfl | hx
      · exact hall.rises _ _ (Nat.mod_lt _ (by decide)) (hbit hp)
      · exact hbits x hx hp

/-- What setting the cause bits of the waiting requests leaves. -/
theorem flushIntx_causes {s : State} (h : s.awake) : CausesRaised s s.flushIntx := by
  cases hon : s.intxOn with
  | false =>
    rw [flushIntx_off hon]
    exact CausesRaised.refl s
  | true =>
    rw [flushIntx_on hon]
    exact (foldl_raiseVec_causes _ h).1

theorem flushIntx_find?_other {s : State} (h : s.awake) {k : Nat} (hk : 1036 ≤ k) :
    Tbl.find? k s.flushIntx.hep.irq = Tbl.find? k s.hep.irq := by
  cases hon : s.intxOn with
  | false => rw [flushIntx_off hon]
  | true =>
    rw [flushIntx_on hon, (foldl_raiseVec_causes _ h).2.1, find?_foldl_del, if_neg]
    intro hm
    obtain ⟨x, hx, rfl⟩ := List.mem_map.mp hm
    obtain ⟨hlt, -⟩ := of_decide_eq_true (List.mem_filter.mp hx).2
    exact Nat.not_lt_of_le hk hlt

/-- No request is added. -/
theorem flushIntx_irqVec_zero {s : State} (h : s.awake) {fn v : Nat} (hz : (s.irqVec fn v).count = 0) :
    (s.flushIntx.irqVec fn v).count = 0 := by
  cases hon : s.intxOn with
  | false =>
    rw [flushIntx_off hon]
    exact hz
  | true =>
    rw [flushIntx_on hon, State.irqVec, Tbl.getD, (foldl_raiseVec_causes _ h).2.1, find?_foldl_del]
    split
    · rfl
    · exact hz

theorem flushIntx_raised {s : State} (h : s.awake) (hon : s.intxOn = true) {v : Nat} (hv : v < 1036)
    (hw : (s.irqVec 0 v).count ≠ 0) : bit (s.flushIntx.fld (F.HEP_INTX_CAUSE_VEC.at (v / 64)) 0) (v % 64) = true ∧
      (s.flushIntx.irqVec 0 v).count = 0 := by
  obtain ⟨-, hirq, hbits⟩ := foldl_raiseVec_causes s.hep.irq h
  have hkey : vecKey 0 v = v := by
    unfold vecKey
    omega
  cases hf : Tbl.find? v s.hep.irq with
  | none =>
    rw [State.irqVec, hkey, Tbl.getD, hf] at hw
    exact absurd rfl hw
  | some x =>
    rw [State.irqVec, hkey, Tbl.getD, hf] at hw
    have hmem := Tbl.mem_of_find? hf
    have hp : pfWaits (v, x) = true := decide_eq_true ⟨hv, hw⟩
    rw [flushIntx_on hon]
    refine ⟨hbits (v, x) hmem hp, ?_⟩
    have hlisted : v ∈ (s.hep.irq.filter pfWaits).map (fun x => x.1) :=
      List.mem_map.mpr ⟨(v, x), List.mem_filter.mpr ⟨hmem, hp⟩, rfl⟩
    rw [State.irqVec, hkey, Tbl.getD, hirq, find?_foldl_del, if_pos hlisted]
    rfl

/-! A mask that falls (R367). -/

/-- The mask change reaches the configuration or the table alone. -/
theorem unmask_frame (s : State) (fn : Nat) (what : MsixUnmask) : s.unmask fn what =
    { s with hep := { s.hep with msix := (s.unmask fn what).hep.msix, cfg := (s.unmask fn what).hep.cfg } } := by
  cases what with
  | entry v =>
    unfold State.unmask
    dsimp only
    split <;> rfl
  | function => rfl
  | enable => rfl

theorem unmask_entry_cfg (s : State) (fn v : Nat) : (s.unmask fn (.entry v)).hep.cfg = s.hep.cfg := by
  unfold State.unmask
  dsimp only
  split <;> rfl

theorem unmask_entry_msixEntry {s : State} {fn v : Nat} (hv : v < vecCount fn) :
    (s.unmask fn (.entry v)).msixEntry fn v = { s.msixEntry fn v with masked := false } := by
  unfold State.unmask
  dsimp only
  rw [if_pos hv]
  exact Tbl.getD_put_same _ _ _ _

theorem unmask_entry_msix_ne {s : State} {fn v k : Nat} (hk : k ≠ vecKey fn v) :
    Tbl.find? k (s.unmask fn (.entry v)).hep.msix = Tbl.find? k s.hep.msix := by
  unfold State.unmask
  dsimp only
  split
  · exact Tbl.find?_put_ne hk _ _ _
  · rfl

theorem cfg_setCfg_same (s : State) (fn : Nat) (c : FnConfig) : (s.setCfg fn c).cfg fn = c := Tbl.getD_put_same _ _ _ _

theorem cfg_setCfg_ne (s : State) {fn f : Nat} (h : f ≠ fn) (c : FnConfig) : (s.setCfg fn c).cfg f = s.cfg f :=
  Tbl.getD_put_ne h _ _ _ _

theorem unmask_cfg_ne (s : State) {fn f : Nat} (h : f ≠ fn) (what : MsixUnmask) : (s.unmask fn what).cfg f = s.cfg f := by
  cases what with
  | entry v => rw [State.cfg, unmask_entry_cfg]; rfl
  | function => exact cfg_setCfg_ne s h _
  | enable => exact cfg_setCfg_ne s h _

theorem unmask_awake {s : State} (h : s.awake) (fn : Nat) (what : MsixUnmask) : (s.unmask fn what).awake := by
  rw [unmask_frame]
  exact h

theorem exec_msixUnmask_done {s : State} {fn : Nat} {what : MsixUnmask} (hfn : fn < 256) (hex : s.fnExists fn = true)
    (hok : s.flag F.HEP_FN_STAT_DRAINING fn = false ∨ ∃ v, what = .entry v) :
    exec (.msixUnmask fn what) s = .next ((s.tlp.unmask fn what).flushIrq fn) := by
  rw [exec_msixUnmask]
  cases what with
  | entry v => exact congrArg _ (if_pos hex)
  | function => exact congrArg _ (configured_done hfn hex (hok.resolve_right (by simp)) _)
  | enable => exact congrArg _ (configured_done hfn hex (hok.resolve_right (by simp)) _)

theorem exec_msixUnmask_missing {s : State} {fn : Nat} (hex : s.fnExists fn = false) (what : MsixUnmask) :
    exec (.msixUnmask fn what) s = .next (aerReport (fn % 256) 4 s.tlp) := by
  rw [exec_msixUnmask]
  cases what with
  | entry v => exact congrArg _ (if_neg (by simp [hex]))
  | function => exact congrArg _ (configured_missing hex _)
  | enable => exact congrArg _ (configured_missing hex _)

/-! The power state (R370). -/

/-- Back in D0: the messages that wait are sent, and the physical function's requests set their cause bits. -/
theorem exec_powerStateChange_d0 {s : State} {fn : Nat} (hfn : fn < 256) (hex : s.fnExists fn = true)
    (hdrain : s.flag F.HEP_FN_STAT_DRAINING fn = false) : exec (.powerStateChange fn false) s = .next (
      let u := (s.tlp.setFld F.HEP_FN_STAT_DSTATE fn 0).flushIrq fn
      if fn = 0 then u.flushIntx else u) := by
  rw [exec_powerStateChange, execPowerStateChange, configured_done hfn hex hdrain]
  rfl

theorem dstateKey_ne_link {fn : Nat} (hfn : fn < 256) : F.HEP_LINK_STAT_STATE.key 0 ≠ F.HEP_FN_STAT_DSTATE.key fn := by
  simp only [Fld.key, F.HEP_LINK_STAT_STATE, F.HEP_FN_STAT_DSTATE]
  omega

theorem setDstate_awake {s : State} (h : s.awake) {fn : Nat} (hfn : fn < 256) (v : Nat) :
    (s.setFld F.HEP_FN_STAT_DSTATE fn v).awake := by
  unfold State.awake
  rw [fld_setFld_ne (dstateKey_ne_link hfn)]
  exact h

/-- No cause bit stands where a power state does. -/
theorem dstateKey_notMem_causes {fn : Nat} (hfn : fn < 256) : F.HEP_FN_STAT_DSTATE.key fn ∉ causeKeys := by
  intro hm
  obtain ⟨k, hk, hkey⟩ := List.mem_map.mp hm
  have hk17 := List.mem_range.mp hk
  simp only [Fld.key, Fld.at, F.HEP_INTX_CAUSE_VEC, F.HEP_FN_STAT_DSTATE] at hkey
  omega

/-- Cause bits decide nothing about messages. -/
theorem CausesRaised.mayInterrupt {s t : State} (h : CausesRaised s t) {fn : Nat} (hfn : fn < 256) (v : Nat) :
    t.mayInterrupt fn v = s.mayInterrupt fn v := by
  have hd : t.fld F.HEP_FN_STAT_DSTATE fn = s.fld F.HEP_FN_STAT_DSTATE fn := h.kept _ _ (dstateKey_notMem_causes hfn)
  unfold State.mayInterrupt
  rw [hd, h.frame]
  rfl

/-- What POWER_STATE_CHANGE back to D0 leaves, from a state over an awake link. -/
theorem powerUp_leaves {s : State} (h : s.awake) {fn : Nat} (hfn : fn < 256) :
    let u := (s.setFld F.HEP_FN_STAT_DSTATE fn 0).flushIrq fn
    let t := if fn = 0 then u.flushIntx else u
    t.fld F.HEP_FN_STAT_DSTATE fn = 0 ∧ FieldsKept s t (F.HEP_FN_STAT_DSTATE.key fn :: if fn = 0 then causeKeys else []) ∧
    (∀ v, v < 4096 → t.mayInterrupt fn v = true → (t.irqVec fn v).count = 0) ∧
    (fn = 0 → (s.cfg 0).msixEnable = false → (s.cfg 0).intDisable = false → ∀ v, v < 1036 → (s.irqVec 0 v).count ≠ 0 →
      bit (t.fld (F.HEP_INTX_CAUSE_VEC.at (v / 64)) 0) (v % 64) = true ∧ (t.irqVec 0 v).count = 0) ∧
    (∀ k, k / 4096 ≠ fn → Tbl.find? k t.hep.irq = Tbl.find? k s.hep.irq) ∧
    t = { s with regs := t.regs, hep := { s.hep with
      irq := t.hep.irq, msgs := t.hep.msgs, intxAsserted := t.hep.intxAsserted, intxMsgs := t.hep.intxMsgs } } := by
  intro u t
  have hset := setDstate_awake h hfn 0
  have hmsgs : MsgsOnly (s.setFld F.HEP_FN_STAT_DSTATE fn 0) u := flushIrq_msgs hset fn
  have hu : u.awake := hmsgs.awake hset
  have hureg : u.regs = (s.setFld F.HEP_FN_STAT_DSTATE fn 0).regs := by rw [hmsgs]
  have hud : u.fld F.HEP_FN_STAT_DSTATE fn = 0 := (fld_of_regs hureg _ _).trans (fld_setFld_same _ _ _ _)
  have hukept : FieldsKept s u [F.HEP_FN_STAT_DSTATE.key fn] :=
    ((FieldsKept.refl s _).setFld List.mem_cons_self 0).of_regs hureg
  have husent : ∀ v, v < 4096 → u.mayInterrupt fn v = true → (u.irqVec fn v).count = 0 := fun v hv hmay =>
    flushIrq_irqVec_sent hset hv (by rw [← hmsgs.mayInterrupt]; exact hmay)
  have huframe : u = { s with regs := u.regs, hep := { s.hep with irq := u.hep.irq, msgs := u.hep.msgs } } := by
    rw [hmsgs]
    rfl
  by_cases hz : fn = 0
  · subst hz
    have ht : t = u.flushIntx := if_pos rfl
    have hraised := flushIntx_causes hu
    rw [ht]
    refine ⟨(hraised.kept _ _ (dstateKey_notMem_causes hfn)).trans hud, fun g j hg => ?_, fun v hv hmay => ?_,
      fun _ hmsix hint v hv hw => ?_, fun k hk => ?_, ?_⟩
    · rw [List.mem_cons, not_or] at hg
      exact (hraised.kept g j hg.2).trans (hukept g j (by simpa using hg.1))
    · rw [hraised.mayInterrupt hfn] at hmay
      exact flushIntx_irqVec_zero hu (husent v hv hmay)
    · have hcfg : u.cfg 0 = s.cfg 0 := by rw [huframe]; rfl
      have hon : u.intxOn = true := by
        rw [State.intxOn, hcfg, hmsix, hint, hud]
        decide
      have hmay : (s.setFld F.HEP_FN_STAT_DSTATE 0 0).mayInterrupt 0 v = false := by
        rw [State.mayInterrupt, show (s.setFld F.HEP_FN_STAT_DSTATE 0 0).cfg 0 = s.cfg 0 from rfl, hmsix]
        rfl
      refine flushIntx_raised hu hon hv ?_
      rw [flushIrq_irqVec_masked hset (Nat.lt_trans hv (by decide)) hmay]
      exact hw
    · have hk' : 1036 ≤ k := by omega
      exact (flushIntx_find?_other hu hk').trans (flushIrq_find?_other hset hk)
    · rw [hraised.frame, huframe]
  · have ht : t = u := if_neg hz
    rw [ht, if_neg hz]
    exact ⟨hud, hukept, husent, fun hfn0 => absurd hfn0 hz, fun k hk => flushIrq_find?_other hset hk,
      by rw [huframe]⟩

/-! The INTx cause registers (R369, R370). -/

theorem exec_intxCauseClear_register {s : State} {k : Nat} (hk : k < 17) (v : Word) : exec (.intxCauseClear k v) s = .next (
    let f := F.HEP_INTX_CAUSE_VEC.at k
    s.tlp.intxCleared (s.tlp.setFld f 0 (Nat.ldiff (s.tlp.fld f 0) v.toNat))) := by
  rw [exec_intxCauseClear, execIntxCauseClear, when_pos hk]
  dsimp only
  rw [sub_and_eq_ldiff]

theorem intxClear_congr {s t : State} (h : ∀ k, k < 17 → t.fld (F.HEP_INTX_CAUSE_VEC.at k) 0 = s.fld (F.HEP_INTX_CAUSE_VEC.at k) 0) :
    t.intxClear = s.intxClear := by
  rw [Bool.eq_iff_iff, State.intxClear, State.intxClear, List.all_eq_true, List.all_eq_true]
  exact forall₂_congr fun k hk => by rw [h k (List.mem_range.mp hk)]

theorem causeKey_mem {k : Nat} (hk : k < 17) : (F.HEP_INTX_CAUSE_VEC.at k).key 0 ∈ causeKeys :=
  List.mem_map.mpr ⟨k, List.mem_range.mpr hk, rfl⟩

/-- The link leaves the cause bits as they are. -/
theorem tlp_cause {k : Nat} (hk : k < 17) (s : State) :
    s.tlp.fld (F.HEP_INTX_CAUSE_VEC.at k) 0 = s.fld (F.HEP_INTX_CAUSE_VEC.at k) 0 := by
  refine tlp_fld (fun hm => ?_) s
  simp only [Fld.key, Fld.at, F.HEP_INTX_CAUSE_VEC, F.HEP_LINK_STAT_STATE, F.FUM_PD_STAT_ON, List.mem_cons,
    List.not_mem_nil, or_false] at hm
  omega

theorem setCause_awake {s : State} (h : s.awake) {k : Nat} (hk : k < 17) (v : Nat) :
    (s.setFld (F.HEP_INTX_CAUSE_VEC.at k) 0 v).awake := by
  have hlink : F.HEP_LINK_STAT_STATE.key 0 ∉ causeKeys := by decide
  have hne : F.HEP_LINK_STAT_STATE.key 0 ≠ (F.HEP_INTX_CAUSE_VEC.at k).key 0 := fun he =>
    hlink (Eq.subst (motive := fun n => n ∈ causeKeys) he.symm (causeKey_mem hk))
  unfold State.awake
  rw [fld_setFld_ne hne]
  exact h

/-- What the clearing of cause bits leaves: with the last one Deassert_INTA is sent, and nothing else changes. -/
theorem intxCleared_leaves {old s : State} (h : s.awake) : (old.intxCleared s).regs = s.regs ∧
    (s.intxClear = true ∧ old.intxClear = false → (old.intxCleared s).hep =
      { s.hep with intxAsserted := false, intxMsgs := 2 :: s.hep.intxMsgs }) ∧
    (s.intxClear = false ∨ old.intxClear = true → (old.intxCleared s).hep = s.hep) ∧
    old.intxCleared s = { s with hep := (old.intxCleared s).hep } := by
  unfold State.intxCleared
  by_cases hlast : s.intxClear = true ∧ old.intxClear = false
  · rw [if_pos (by simp [hlast.1, hlast.2]), intxSend_awake h]
    refine ⟨rfl, fun _ => rfl, fun hno => ?_, rfl⟩
    rcases hno with hno | hno
    · rw [hlast.1] at hno
      cases hno
    · rw [hlast.2] at hno
      cases hno
  · rw [if_neg (by simpa using hlast)]
    exact ⟨rfl, fun hl => absurd hl hlast, fun _ => rfl, rfl⟩

/-- INTERRUPT_DISABLE_CLEAR of a physical function that does not reset. -/
theorem exec_interruptDisableClear_done {s : State} (hdrain : s.flag F.HEP_FN_STAT_DRAINING 0 = false) :
    exec .interruptDisableClear s =
      .next ((s.tlp.setCfg 0 { s.cfg 0 with intDisable := false }).flushIntx) := by
  rw [exec_interruptDisableClear, execInterruptDisableClear, configured_done (by decide) rfl hdrain, tlp_cfg]

theorem setCfg_awake {s : State} (h : s.awake) (fn : Nat) (c : FnConfig) : (s.setCfg fn c).awake := h

/-- Settles O27: once the access has woken the link, a fold over the waiting requests changes the message lists, or the cause bits,
and takes away exactly the requests that it sends. -/
theorem interruptRequests : Obligations.InterruptRequests := by
  unfold Obligations.InterruptRequests
  intro causes
  refine ⟨?unmask, ?power, fun s fn what b hex => ⟨exec_msixUnmask_missing hex what, ?_⟩,
    fun s fn b hfn hex hdrain => ⟨?_, ?_, ?_, fun hz => ?_⟩, ?clear, ?disable⟩
  case unmask =>
    intro s fn what hfn hex hok
    refine ⟨_, exec_msixUnmask_done hfn hex hok, ?_⟩
    have hawake := unmask_awake (tlp_awake s) fn what
    have hmsgs := flushIrq_msgs hawake fn
    have hframe := unmask_frame s.tlp fn what
    have hcfg : ∀ f, ((s.tlp.unmask fn what).flushIrq fn).cfg f = (s.tlp.unmask fn what).cfg f := fun f => by rw [hmsgs]; rfl
    have htable : ((s.tlp.unmask fn what).flushIrq fn).hep.msix = (s.tlp.unmask fn what).hep.msix := by rw [hmsgs]
    have hirq : (s.tlp.unmask fn what).hep.irq = s.hep.irq := by rw [hframe, tlp_hep]
    refine ⟨fun v hv => ⟨?_, fun hlt => ?_, fun k hk => ?_⟩, fun hv => ⟨?_, ?_⟩, fun hv => ⟨?_, ?_⟩, fun f hf => ?_,
      fun v hv hmay => ?_, fun v hv hmay => ?_, fun k hk => ?_, ?_⟩
    · rw [hmsgs, hv, unmask_entry_cfg, tlp_hep]
    · rw [hmsgs, hv]
      refine (unmask_entry_msixEntry hlt).trans ?_
      rw [State.msixEntry, tlp_hep]
      rfl
    · rw [hmsgs, hv]
      refine (unmask_entry_msix_ne hk).trans ?_
      rw [tlp_hep]
    · rw [hcfg, hv]
      refine (cfg_setCfg_same _ _ _).trans ?_
      rw [tlp_cfg]
    · rw [htable, hv]
      show s.tlp.hep.msix = s.hep.msix
      rw [tlp_hep]
    · rw [hcfg, hv]
      refine (cfg_setCfg_same _ _ _).trans ?_
      rw [tlp_cfg]
    · rw [htable, hv]
      show s.tlp.hep.msix = s.hep.msix
      rw [tlp_hep]
    · rw [hcfg, unmask_cfg_ne _ hf, tlp_cfg]
    · rw [hmsgs.mayInterrupt] at hmay
      exact flushIrq_irqVec_sent hawake hv hmay
    · rw [hmsgs.mayInterrupt] at hmay
      rw [flushIrq_irqVec_masked hawake hv hmay, State.irqVec, hirq]
      rfl
    · rw [flushIrq_find?_other hawake hk, hirq]
    · rw [hmsgs, hframe]
  case power =>
    intro s fn hfn hex hdrain
    refine ⟨?_, ?_⟩
    · rw [exec_powerStateChange, execPowerStateChange, configured_done hfn hex hdrain]
      rfl
    · obtain ⟨hd, hkept, hsent, hcause, hother, hframe⟩ := powerUp_leaves (tlp_awake s) hfn
      refine ⟨_, exec_powerStateChange_d0 hfn hex hdrain, hd, hkept, hsent, fun hz hmsix hint v hv hw => ?_, fun k hk => ?_, hframe⟩
      · refine hcause hz (by rw [tlp_cfg, hmsix]) (by rw [tlp_cfg, hint]) v hv ?_
        rw [State.irqVec, tlp_hep]
        exact hw
      · refine (hother k hk).trans ?_
        rw [tlp_hep]
  case clear =>
    intro s k v hk
    have hawake := setCause_awake (tlp_awake s) hk (Nat.ldiff (s.tlp.fld (F.HEP_INTX_CAUSE_VEC.at k) 0) v.toNat)
    obtain ⟨hregs, hlast, hnot, hframe⟩ := intxCleared_leaves (old := s.tlp) hawake
    refine ⟨_, exec_intxCauseClear_register hk v, ?_⟩
    dsimp only
    generalize s.tlp.intxCleared _ = t at hregs hlast hnot hframe ⊢
    have hclear : t.intxClear = (s.tlp.setFld (F.HEP_INTX_CAUSE_VEC.at k) 0
        (Nat.ldiff (s.tlp.fld (F.HEP_INTX_CAUSE_VEC.at k) 0) v.toNat)).intxClear :=
      intxClear_congr fun j _ => fld_of_regs hregs _ _
    have hclear0 : s.tlp.intxClear = s.intxClear := intxClear_congr fun j hj => tlp_cause hj s
    rw [← hclear, hclear0] at hlast hnot
    refine ⟨fun i hi => ?_, ?_, fun h => ?_, fun h => hnot h, ?_⟩
    · rw [fld_of_regs hregs, fld_setFld_same, tlp_cause hk, bit_eq_testBit, bit_eq_testBit, bit_eq_testBit,
        Nat.testBit_mod_two_pow, Nat.testBit_mod_two_pow, Nat.testBit_ldiff]
      cases decide (i < (F.HEP_INTX_CAUSE_VEC.at k).width) <;> simp
    · exact ((FieldsKept.refl s.tlp _).setFld List.mem_cons_self _).of_regs hregs
    · refine (hlast h).trans ?_
      rw [show (s.tlp.setFld _ _ _).hep = s.tlp.hep from rfl, tlp_hep]
    · rw [hframe, tlp_frame]
      rfl
  case disable =>
    intro s hdrain
    have hawake := setCfg_awake (tlp_awake s) 0 { s.cfg 0 with intDisable := false }
    have hraised := flushIntx_causes hawake
    have hcfg : (s.tlp.setCfg 0 { s.cfg 0 with intDisable := false }).cfg 0 = { s.cfg 0 with intDisable := false } :=
      cfg_setCfg_same _ _ _
    have hd : (s.tlp.setCfg 0 { s.cfg 0 with intDisable := false }).fld F.HEP_FN_STAT_DSTATE 0 = s.fld F.HEP_FN_STAT_DSTATE 0 :=
      tlp_fld_fn (by decide) (by decide) s
    refine ⟨_, exec_interruptDisableClear_done hdrain, ?_, fun hmsix hdst v hv hw => ?_, fun hoff => ?_,
      fun g j hg => hraised.kept g j hg, ?_⟩
    · rw [show ∀ t : State, t.cfg 0 = Tbl.getD t.hep.cfg 0 {} from fun _ => rfl, hraised.frame]
      exact hcfg
    · refine flushIntx_raised hawake ?_ hv ?_
      · rw [State.intxOn, hcfg, hd, hmsix]
        simpa using hdst
      · rw [State.irqVec, show ∀ (t : State) c, (t.setCfg 0 c).hep.irq = t.hep.irq from fun _ _ => rfl, tlp_hep]
        exact hw
    · refine flushIntx_off ?_
      rw [State.intxOn, hcfg, hd]
      rcases hoff with h | h <;> simp [h]
    · rw [hraised.frame]
      rfl
  · rw [exec_powerStateChange]
    exact congrArg _ (configured_missing hex _)
  · rw [exec_msixUnmask]
    exact congrArg _ (configured_draining hfn hex hdrain _)
  · rw [exec_msixUnmask]
    exact congrArg _ (configured_draining hfn hex hdrain _)
  · rw [exec_powerStateChange]
    exact congrArg _ (configured_draining hfn hex hdrain _)
  · subst hz
    rw [exec_interruptDisableClear]
    exact congrArg _ (configured_draining hfn hex hdrain _)

end Sys2Proof.Machine
end

section
/-! Bits of the words of a command, and updates of a tile. -/

namespace Sys2Proof.Machine

/-! Bits of a number. -/

theorem field_low (v hi : Nat) : field v hi 0 = v % 2 ^ (hi + 1) := by rw [field, Nat.shiftRight_zero, Nat.sub_zero]

theorem field_low4 (v : Nat) : field v 3 0 = v % 16 := field_low v 3

theorem field_low6 (v : Nat) : field v 5 0 = v % 64 := field_low v 5

theorem field_low7 (v : Nat) : field v 6 0 = v % 128 := field_low v 6

theorem field_eq_zero {v lo : Nat} (h : v < 2 ^ lo) (hi : Nat) : field v hi lo = 0 := by
  rw [field, Nat.shiftRight_eq_div_pow, Nat.div_eq_of_lt h, Nat.zero_mod]

theorem field_high {v hi lo : Nat} (h : v < 2 ^ (hi + 1)) (hlo : lo ≤ hi + 1) : field v hi lo = v / 2 ^ lo := by
  have hpow : 2 ^ (hi + 1) = 2 ^ lo * 2 ^ (hi + 1 - lo) := by rw [← Nat.pow_add, Nat.add_sub_cancel' hlo]
  rw [field, Nat.shiftRight_eq_div_pow, Nat.mod_eq_of_lt (Nat.div_lt_of_lt_mul (hpow ▸ h))]

theorem field_whole {v hi : Nat} (h : v < 2 ^ (hi + 1)) : field v hi 0 = v := by rw [field_low, Nat.mod_eq_of_lt h]

/-! A tile written twice. -/

theorem setTile_setTile (s : State) (n : Nat) {a : Tile} (ha : a ≠ {}) (b : Tile) : (s.setTile n a).setTile n b = s.setTile n b := by
  have hput : Tbl.put {} n b (Tbl.put {} n a s.tiles) = Tbl.put {} n b s.tiles := by
    rw [Tbl.put, Tbl.put, Tbl.put, if_neg ha, Tbl.set_set, Tbl.del_set]
  unfold State.setTile
  dsimp only
  rw [hput]

end Sys2Proof.Machine
end

section
/-! The commands of a tile: the end of a command, and the operands that the units read. -/

namespace Sys2Proof.Machine

/-! Commands (R121, R123). -/

/-- A command that may start is outstanding under its tag, is of the unit and operation asked for, and is queued. -/
theorem ready_some {x : Tile} {tag unit : Nat} {ops : Nat → Bool} {c : UnitCmd} (h : x.ready tag unit ops = some c) :
    x.cmd? tag = some c ∧ c.unit = unit ∧ ops c.op = true ∧ c.phase = .queued := by
  unfold Tile.ready at h
  split at h
  · cases h
  · next d hd =>
    dsimp only at h
    split at h
    · next hc =>
      obtain ⟨hunit, hop, hphase, -⟩ := hc
      obtain rfl := Option.some.inj h
      exact ⟨hd, hunit, hop, hphase⟩
    · cases h

theorem cmd?_tag {x : Tile} {tag : Nat} {c : UnitCmd} (h : x.cmd? tag = some c) : c.tag = tag := by
  simpa using List.find?_some h

theorem ready_tag {x : Tile} {tag unit : Nat} {ops : Nat → Bool} {c : UnitCmd} (h : x.ready tag unit ops = some c) :
    c.tag = tag := cmd?_tag (ready_some h).1

theorem cmdDone_tile (s : State) (n tag o v : Nat) : (s.cmdDone n tag o v).tile n =
    (s.tile n).setPhase tag (.done (BitVec.ofNat 16 (o * 4096 + v))) := State.tile_setTile_same ..

theorem cmdDone_tile_ne (s : State) {n m : Nat} (h : m ≠ n) (tag o v : Nat) : (s.cmdDone n tag o v).tile m = s.tile m :=
  State.tile_setTile_ne _ h _

/-! Operands (R119, R164). -/

theorem codesOf_row_length {d : TensorDesc} {f : Format} {ldw : Bool} {rows : List (List Byte)} {plane : List Byte}
    {row : List (Nat × Option Nat)} (h : row ∈ codesOf d f ldw rows plane) : row.length = d.cols := by
  obtain ⟨r, hr, rfl⟩ := List.mem_mapIdx.mp h
  rw [List.length_map, List.length_range]

/-- Every row of an operand has as many elements as its descriptor has columns. -/
theorem readOperand_row_length {s s1 : State} {env : Env} {t : Nat} {d : TensorDesc} {f : Format} {ldw : Bool} {codes : Codes}
    (h : s.readOperand env t d f ldw = (s1, some codes)) : ∀ row ∈ codes, row.length = d.cols := by
  unfold State.readOperand at h
  split at h
  · split at h
    · split at h
      · obtain ⟨-, hcodes⟩ := Prod.mk.inj h
        obtain rfl := Option.some.inj hcodes
        exact fun row => codesOf_row_length
      · cases h
    · obtain ⟨-, hcodes⟩ := Prod.mk.inj h
      obtain rfl := Option.some.inj hcodes
      exact fun row => codesOf_row_length
  · cases h

end Sys2Proof.Machine
end

section
/-! The unit commands of a tile sequencer, its waits for them, and END and SYNC (R121, R128, R153, R205, R212, R215, R216, R260, R305). -/

namespace Sys2Proof.Machine

/-! Instructions of tile sequencers only (R217). -/

theorem executes_tile {s : State} {n : Nat} {op : TOp} {d : TDec} (h : s.executes n op d) (hn : n < 128) : d.mg = false := by
  rw [TDec.mg, executes_core h]
  exact decide_eq_false (by omega)

theorem tileOnly_tile {d : TDec} (h : d.mg = false) {α : Type} (x : TR α) : d.tileOnly x = x := by
  rw [TDec.tileOnly, h]
  rfl

theorem nonSpec_nil {c : Core} (h : c.specs = []) {α : Type} (x : TR α) : c.nonSpec x = x := by simp [Core.nonSpec, Core.spec, h]

theorem nonSpec_cons {c : Core} (h : c.specs ≠ []) {α : Type} (x : TR α) : c.nonSpec x = .wait := by
  simp [Core.nonSpec, Core.spec, h]

/-- An instruction that waits by itself waits on a speculative path too. -/
theorem nonSpec_wait (c : Core) {α : Type} : c.nonSpec (.wait : TR α) = .wait := ite_self _

/-! ISSUE and ISSUEX (R121, R260). -/

theorem issueOf_pop {s : State} {d : TDec} (hmg : d.mg = false) {c : Core} {vs : List Half} {rest : List TVal} {n : Nat}
    (h : c.stack = vs.map .known ++ rest) (hn : vs.length = n) (f : List Half → Core → TX Unit) :
    s.issueOf d c n f = f vs (c.withStack rest) := by
  subst hn
  rw [State.issueOf, tileOnly_tile hmg, pop_ok c vs rest h]

/-- A command stalls on an outstanding tag, and at a ninth Geyser command in flight (R122, R305). -/
def Tile.stalls (x : Tile) (c0 : Half) : Prop :=
  x.cmd? (c0.toNat % 64) ≠ none ∨
    (c0.toNat / 16384 = 3 ∧ 8 ≤ (x.cmds.filter (fun c => c.unit == 3 && !isDone c.phase)).length)

theorem sendCmd_guard_iff (x : Tile) (c0 : Half) :
    ((x.cmd? (field c0.toNat 5 0)).isSome ∨ (field c0.toNat 15 14 = 3 ∧ geyserInFlight ≤ x.geyserCmds)) ↔ x.stalls c0 := by
  rw [field_low6, field_high c0.isLt (by decide), Option.isSome_iff_ne_none]
  rfl

theorem sendCmd_stalls {s : State} {d : TDec} {c0 : Half} (h : (s.tile d.core).stalls c0) (c : Core) (c1 c2 c3 : Half) :
    s.sendCmd d c c0 c1 c2 c3 = .wait := if_pos ((sendCmd_guard_iff _ _).mpr h)

theorem sendCmd_sent {s : State} {d : TDec} {c : Core} {c0 : Half} (h : ¬ (s.tile d.core).stalls c0) (hs : c.settled)
    (c1 c2 c3 : Half) : s.sendCmd d c c0 c1 c2 c3 = .ok (s.tick.setTile d.core { s.tile d.core with
      core := c.endsAt d.next
      cmds := (s.tile d.core).cmds ++ [⟨BitVec.ofNat 64 (c0.toNat + c1.toNat * 2 ^ 16 + c2.toNat * 2 ^ 32 + c3.toNat * 2 ^ 48),
        c0.toNat % 64, c.descs, d.pc, c.specs.length, .queued, s.fresh⟩] }) () := by
  refine (if_neg (mt (sendCmd_guard_iff _ _).mp h)).trans ?_
  rw [finish_settled c d.next hs, field_low6]

theorem exec_issue_pops {s : State} {n : Nat} {d : TDec} {c0 c1 c2 c3 : Half} {rest : List TVal} (hn : n < 128)
    (hex : s.executes n .issue d) (hstack : (s.tcore n).stack = .known c0 :: .known c1 :: .known c2 :: .known c3 :: rest) :
    exec (.issue n) s = .next (match s.sendCmd d ((s.tcore n).withStack rest) c0 c1 c2 c3 with
      | .ok t _ => t
      | .exc t code => t.texc n code d.pc d.next
      | .wait => s) := by
  rw [exec_issue, execIssue, taskoX_executes hex,
    issueOf_pop (executes_tile hex hn) (vs := [c0, c1, c2, c3]) (n := 4) hstack rfl]
  rfl

theorem exec_issuex_pops {s : State} {n : Nat} {d : TDec} {c2 c3 : Half} {rest : List TVal} (hn : n < 128)
    (hex : s.executes n .issuex d) (hstack : (s.tcore n).stack = .known c2 :: .known c3 :: rest) :
    exec (.issuex n) s = .next (match s.sendCmd d ((s.tcore n).withStack rest) d.e1 d.e2 c2 c3 with
      | .ok t _ => t
      | .exc t code => t.texc n code d.pc d.next
      | .wait => s) := by
  rw [exec_issuex, execIssuex, taskoX_executes hex, issueOf_pop (executes_tile hex hn) (vs := [c2, c3]) (n := 2) hstack rfl]
  rfl

/-! WAITU (R212, R215, R216). -/

theorem exec_waitu_posted {s : State} {n : Nat} {d : TDec} (hn : n < 128) (hex : s.executes n .waitu d)
    (hspecs : (s.tcore n).specs = []) (htag : (s.tile n).cmd? d.i.w = none) : exec (.waitu n) s = .next (s.setTcore n
      { (s.tcore n).setG d.i.g (.known (Tbl.getD (s.tcore n).tagStore d.i.w 0)) with pc := d.next }) := by
  rw [exec_waitu, execWaitu, taskoX_executes hex, tileOnly_tile (executes_tile hex hn), nonSpec_nil hspecs, htag]
  rfl

theorem exec_waitu_outstanding {s : State} {n : Nat} {d : TDec} (hn : n < 128) (hex : s.executes n .waitu d)
    (hspecs : (s.tcore n).specs = []) (htag : (s.tile n).cmd? d.i.w ≠ none) : exec (.waitu n) s = .next (s.tick.setTcore n
      { (s.tcore n).setG d.i.g (.await s.fresh) with pc := d.next, waitu := some (d.i.w, s.fresh) }) := by
  rw [exec_waitu, execWaitu, taskoX_executes hex, tileOnly_tile (executes_tile hex hn), nonSpec_nil hspecs]
  dsimp only
  rw [if_pos (Option.isSome_iff_ne_none.mpr htag)]

theorem exec_waitu_speculative {s : State} {n : Nat} {d : TDec} (hn : n < 128) (hex : s.executes n .waitu d)
    (hspecs : (s.tcore n).specs ≠ []) : exec (.waitu n) s = .next s := by
  rw [exec_waitu, execWaitu, taskoX_executes hex, tileOnly_tile (executes_tile hex hn), nonSpec_cons hspecs]

/-- Where no branch is unresolved, what passes a waiting WAITU is a conditional branch on its register (R216). -/
theorem passesWaitu_branch {c : Core} {k id : Nat} {i : TWord} (hw : c.waitu = some (k, id)) (hspecs : c.specs = [])
    (h : c.passesWaitu i = true) : i.op ∈ [TOp.bz, TOp.bnz, TOp.bzl, TOp.bnzl] ∧ c.greg i.g = .await id := by
  simpa [Core.passesWaitu, hw, Core.spec, hspecs, or_assoc] using h

theorem tfetch_waitu {s : State} {n k id : Nat} {d : Option TDec} (hw : (s.tcore n).waitu = some (k, id))
    (hspecs : (s.tcore n).specs = []) (h : s.tfetch n = some d) :
    ∃ e, d = some e ∧ e.i.op ∈ [TOp.bz, TOp.bnz, TOp.bzl, TOp.bnzl] ∧ (s.tcore n).greg e.i.g = .await id := by
  have hundefined : (if (s.tcore n).waitu.isSome && !(s.tcore n).spec then (none : Option (Option TDec)) else some none) = none := by
    simp [hw, Core.spec, hspecs]
  simp only [State.tfetch, hundefined] at h
  split at h
  · cases h
  split at h
  · cases h
  split at h
  · cases h
  split at h
  · cases h
  · next i hi hpass =>
    split at h
    · cases h
    · obtain rfl : _ = d := Option.some.inj h
      exact ⟨_, rfl, passesWaitu_branch hw hspecs (by simpa using hpass)⟩

/-! END and SYNC (R153, R205). -/

theorem exec_endTile_quiet {s : State} {n : Nat} {d : TDec} (hn : n < 128) (hex : s.executes n .endTile d)
    (hspecs : (s.tcore n).specs = []) (hcmds : (s.tile n).cmds = []) :
    exec (.endTile n) s = .next (s.setTcore n { s.tcore n with run := .ended, pc := d.next }) := by
  rw [exec_endTile, execEndTile, tasko_executes hex, tileOnly_tile (executes_tile hex hn), nonSpec_nil hspecs, hcmds]
  rfl

theorem exec_endTile_outstanding {s : State} {n : Nat} {d : TDec} (hn : n < 128) (hex : s.executes n .endTile d)
    (hcmds : (s.tile n).cmds ≠ []) : exec (.endTile n) s = .next s := by
  rw [exec_endTile, execEndTile, tasko_executes hex, tileOnly_tile (executes_tile hex hn),
    if_neg (by simpa using hcmds), nonSpec_wait]

/-- Of the kinds of window access, a load alone neither writes nor is atomic. -/
theorem WKind.writes_or_atomic_iff (k : WKind) : (k.writes || k.atomic) = true ↔ k ≠ .load := by cases k <;> decide

theorem exec_sync_quiet {s : State} {n : Nat} {d : TDec} (hex : s.executes n .sync d) (hspecs : (s.tcore n).specs = [])
    (hloads : ∀ x ∈ (s.tcore n).accesses, x.kind = .load) :
    exec (.sync n) s = .next (s.setTcore n { s.tcore n with pc := d.next }) := by
  have hnone : ¬ (s.tcore n).accesses.any (fun x => x.kind.writes || x.kind.atomic) = true := by
    rw [List.any_eq_true]
    rintro ⟨x, hx, hk⟩
    exact (WKind.writes_or_atomic_iff _).mp hk (hloads x hx)
  rw [exec_sync, execSync, tasko_executes hex, nonSpec_nil hspecs, if_neg hnone]

theorem exec_sync_outstanding {s : State} {n : Nat} {d : TDec} (hex : s.executes n .sync d)
    (h : ∃ x ∈ (s.tcore n).accesses, x.kind ≠ .load) : exec (.sync n) s = .next s := by
  obtain ⟨x, hx, hk⟩ := h
  have hsome := List.any_of_mem (p := fun x : WinAccess => x.kind.writes || x.kind.atomic) hx
    ((WKind.writes_or_atomic_iff _).mpr hk)
  rw [exec_sync, execSync, tasko_executes hex, if_pos hsome, nonSpec_wait]

/-- Settles O11: each clause is the lemma about that instruction; a command is sent exactly where it does not stall. -/
theorem taskoUnits : Obligations.TaskoUnits := by
  unfold Obligations.TaskoUnits
  refine ⟨?_, ?_, ?_, ?_, fun s n k id d => tfetch_waitu, ?_, ?_, ?_, ?_⟩
  · intro s n d c0 c1 c2 c3 rest hn hex hs hstack
    dsimp only
    rw [exec_issue_pops hn hex hstack]
    have hcore := executes_core hex
    refine ⟨fun htag hfull => ?_, fun h => ?_⟩
    · rw [sendCmd_sent (hcore ▸ not_or.mpr ⟨not_not_intro htag, hfull⟩) ((settled_withStack _ rest).mpr hs), hcore]
      rfl
    · rw [sendCmd_stalls (hcore ▸ h)]
  · intro s n d c2 c3 rest hn hex hs hstack htag hfull
    have hcore := executes_core hex
    have hsends : ¬ (s.tile n).stalls d.e1 := not_or.mpr ⟨not_not_intro htag, fun h => absurd (hfull h.1) (by omega)⟩
    rw [exec_issuex_pops hn hex hstack, sendCmd_sent (hcore ▸ hsends) ((settled_withStack _ rest).mpr hs), hcore]
    rfl
  · rintro s n d hex ⟨hn, hspecs, htag⟩
    rw [executes_core hex] at hn htag
    exact exec_waitu_posted hn hex hspecs htag
  · intro s n d hn hex htag
    exact ⟨fun hspecs => exec_waitu_outstanding hn hex hspecs htag, fun hspecs => exec_waitu_speculative hn hex hspecs⟩
  · rintro s n d hex ⟨hn, hspecs, hcmds⟩
    rw [executes_core hex] at hn hcmds
    exact exec_endTile_quiet hn hex hspecs hcmds
  · intro s n d hn hex hcmds
    exact exec_endTile_outstanding hn hex hcmds
  · rintro s n d hex ⟨hspecs, hloads⟩
    exact exec_sync_quiet hex hspecs hloads
  · intro s n d hex h
    exact exec_sync_outstanding hex h

end Sys2Proof.Machine
end

section
/-! The matrix unit: a weight load fills one bank, and an MMA writes whole accumulator rows (R131, R170, R172, R173). -/

namespace Sys2Proof.Machine

/-! Rows of at most 64 elements laid out at 64 entries a row. -/

/-- The entries of rows laid out from row `first` on, each element changed by `g`. -/
def gridCells {α β : Type} (first : Nat) (g : α → β) (rows : List (List α)) : List (Nat × β) :=
  (rows.mapIdx (fun r row => row.mapIdx (fun k e => ((first + r) * 64 + k, g e)))).flatten

theorem mem_gridCells {α β : Type} {first : Nat} {g : α → β} {rows : List (List α)} {p : Nat × β} :
    p ∈ gridCells first g rows ↔
      ∃ r row k e, rows[r]? = some row ∧ row[k]? = some e ∧ p = ((first + r) * 64 + k, g e) := by
  simp only [gridCells, List.mem_flatten, List.mem_mapIdx]
  constructor
  · rintro ⟨l, ⟨r, hr, rfl⟩, hp⟩
    obtain ⟨k, hk, rfl⟩ := List.mem_mapIdx.mp hp
    exact ⟨r, rows[r], k, rows[r][k], List.getElem?_eq_getElem hr, List.getElem?_eq_getElem hk, rfl⟩
  · rintro ⟨r, row, k, e, hrow, he, rfl⟩
    obtain ⟨hr, rfl⟩ := List.getElem?_eq_some_iff.mp hrow
    obtain ⟨hk, rfl⟩ := List.getElem?_eq_some_iff.mp he
    exact ⟨_, ⟨r, hr, rfl⟩, List.mem_mapIdx.mpr ⟨k, hk, rfl⟩⟩

/-- No two elements share an entry. -/
theorem gridCells_at {α β : Type} {first r k : Nat} {g : α → β} {rows : List (List α)} {row : List α} {e : α}
    (hlen : ∀ row ∈ rows, row.length ≤ 64) (hrow : rows[r]? = some row) (he : row[k]? = some e) :
    ∀ p ∈ gridCells first g rows, p.1 = (first + r) * 64 + k → p.2 = g e := by
  intro p hp hkey
  obtain ⟨r', row', k', e', hrow', he', rfl⟩ := mem_gridCells.mp hp
  have hk : k < 64 := (List.getElem?_eq_some_iff.mp he).1.trans_le (hlen row (List.mem_of_getElem? hrow))
  have hk' : k' < 64 := (List.getElem?_eq_some_iff.mp he').1.trans_le (hlen row' (List.mem_of_getElem? hrow'))
  dsimp only at hkey
  obtain rfl : k = k' := by omega
  obtain rfl : r = r' := by omega
  obtain rfl := Option.some.inj (hrow.symm.trans hrow')
  obtain rfl := Option.some.inj (he.symm.trans he')
  rfl

/-- A key that a list of entries gives one value, and names, reads as that value. -/
theorem Tbl.find?_of_unique {α : Type} {k : Nat} {v : α} {l : Tbl α} (hv : ∀ p ∈ l, p.1 = k → p.2 = v) (hk : ∃ p ∈ l, p.1 = k) :
    Tbl.find? k l = some v := by
  induction l with
  | nil => simp at hk
  | cons p l ih =>
    obtain ⟨j, w⟩ := p
    rw [Tbl.find?]
    split
    · next hj => rw [← hv _ List.mem_cons_self hj]
    · next hj =>
      refine ih (fun q hq => hv q (List.mem_cons_of_mem _ hq)) ?_
      obtain ⟨q, hq, hqk⟩ := hk
      rcases List.mem_cons.mp hq with rfl | hq
      · exact absurd hqk hj
      · exact ⟨q, hq, hqk⟩

theorem Tbl.getD_foldl_put_of_notMem {α : Type} [DecidableEq α] (d : α) {k : Nat} {l : List (Nat × α)} (h : ∀ p ∈ l, p.1 ≠ k)
    (t : Tbl α) : Tbl.getD (l.foldl (fun a p => Tbl.put d p.1 p.2 a) t) k d = Tbl.getD t k d := by
  induction l generalizing t with
  | nil => rfl
  | cons p l ih =>
    rw [List.foldl_cons, ih (fun q hq => h q (List.mem_cons_of_mem _ hq)),
      Tbl.getD_put_ne (Ne.symm (h p List.mem_cons_self))]

/-- Entries put one after another, where those of key `k` hold one value. -/
theorem Tbl.getD_foldl_put_of_unique {α : Type} [DecidableEq α] (d : α) {k : Nat} {v : α} {l : List (Nat × α)}
    (hv : ∀ p ∈ l, p.1 = k → p.2 = v) (hk : ∃ p ∈ l, p.1 = k) (t : Tbl α) :
    Tbl.getD (l.foldl (fun a p => Tbl.put d p.1 p.2 a) t) k d = v := by
  induction l generalizing t with
  | nil => simp at hk
  | cons p l ih =>
    have hv' : ∀ q ∈ l, q.1 = k → q.2 = v := fun q hq => hv q (List.mem_cons_of_mem _ hq)
    rw [List.foldl_cons]
    by_cases hl : ∃ q ∈ l, q.1 = k
    · exact ih hv' hl _
    · have hp : p.1 = k := by
        obtain ⟨q, hq, hqk⟩ := hk
        rcases List.mem_cons.mp hq with rfl | hq
        · exact hqk
        · exact absurd ⟨q, hq, hqk⟩ hl
      rw [Tbl.getD_foldl_put_of_notMem d (fun q hq hqk => hl ⟨q, hq, hqk⟩), ← hp, Tbl.getD_put_same]
      exact hv p List.mem_cons_self hp

/-! LDW (R131, R170). -/

/-- The bank that LDW makes of the codes it reads. -/
def loadedBank (tb : TileTables) (f : Format) (codes : Codes) : Bank :=
  ⟨f.cls, gridCells 0 (fun e => (decodeElem tb f e.1, scaleOf e.2)) codes⟩

theorem loadedBank_elem {tb : TileTables} {f : Format} {codes : Codes} {r k : Nat} {row : List (Nat × Option Nat)}
    {e : Nat × Option Nat} (hlen : ∀ row ∈ codes, row.length ≤ 64) (hrow : codes[r]? = some row) (he : row[k]? = some e) :
    Tbl.getD (loadedBank tb f codes).elems (r * 64 + k) (FVal.fin false 0 0, some 0) = (decodeElem tb f e.1, scaleOf e.2) := by
  have hat := gridCells_at (first := 0) (g := fun e => (decodeElem tb f e.1, scaleOf e.2)) hlen hrow he
  have hmem : ∃ p ∈ gridCells 0 (fun e => (decodeElem tb f e.1, scaleOf e.2)) codes, p.1 = (0 + r) * 64 + k :=
    ⟨_, mem_gridCells.mpr ⟨r, row, k, e, hrow, he, rfl⟩, rfl⟩
  rw [Nat.zero_add] at hat hmem
  rw [loadedBank, Tbl.getD, Tbl.find?_of_unique hat hmem, Option.getD_some]

/-- A tile with bank 1 or bank 0 replaced. -/
def Tile.withBank (x : Tile) (one : Bool) (b : Bank) : Tile := if one then { x with bank1 := b } else { x with bank0 := b }

theorem withBank_named (x : Tile) (one : Bool) (b : Bank) : (if one then (x.withBank one b).bank1 else (x.withBank one b).bank0) = b := by
  cases one <;> rfl

theorem withBank_other (x : Tile) (one : Bool) (b : Bank) :
    if one then (x.withBank one b).bank0 = x.bank0 else (x.withBank one b).bank1 = x.bank1 := by
  cases one <;> exact rfl

theorem withBank_acc (x : Tile) (one : Bool) (b : Bank) : (x.withBank one b).acc = x.acc := by cases one <;> rfl

theorem withBank_cmds (x : Tile) (one : Bool) (b : Bank) : (x.withBank one b).cmds = x.cmds := by cases one <;> rfl

theorem exec_ldw_loads {s s1 : State} {n tag : Nat} {env : Env} {c : UnitCmd} {d : TensorDesc} {f : Format} {codes : Codes}
    (hready : (s.tile n).ready tag 0 (· == 0) = some c) (h0 : field (c.c 0) 7 6 = 0) (hrnd : c.rnd = false) (h1 : c.c 1 < 32)
    (h2 : c.c 2 = 0) (h3 : c.c 3 = 0) (hdesc : s.descOf n c (c.c 1 % 16) true = .ok (d, f)) (hrows : d.rows = f.cls.k)
    (hcols : d.cols = 64) (hread : s.readOperand env n d f true = (s1, some codes)) : exec (.ldw n tag env) s = .next
      ((s1.setTile n ((s1.tile n).withBank (bit (c.c 1) 4) (loadedBank (s.tile n).tables f codes))).cmdDone n tag 0 0) := by
  have hfields : ¬ (field (c.c 0) 7 6 ≠ 0 ∨ c.rnd = true ∨ field (c.c 1) 15 5 ≠ 0 ∨ c.c 2 ≠ 0 ∨ c.c 3 ≠ 0) := by
    simp [h0, hrnd, h2, h3, field_eq_zero (lo := 5) h1]
  have hshape : ¬ (d.rows ≠ f.cls.k ∨ d.cols ≠ 64) := by simp [hrows, hcols]
  rw [exec_ldw, execLdw, hready]
  dsimp only
  rw [if_neg hfields, field_low4, hdesc]
  dsimp only
  rw [if_neg hshape, hread]
  simp only [loadedBank, gridCells, Tile.withBank, Nat.zero_add]

/-! Accumulator rows written (R131). -/

theorem accWrite_acc (x : Tile) (first : Nat) (rows : List (List Quad)) :
    (x.accWrite first rows).acc = (gridCells first id rows).foldl (fun a p => Tbl.put 0 p.1 p.2 a) x.acc := by
  simp only [Tile.accWrite, gridCells, List.foldl_flatten, List.mapIdx_eq_zipIdx_map, List.foldl_map, id, accKey]

theorem accWrite_accAt_written {x : Tile} {first r l : Nat} {rows : List (List Quad)} {row : List Quad} {v : Quad}
    (hlen : ∀ row ∈ rows, row.length ≤ 64) (hrow : rows[r]? = some row) (hl : row[l]? = some v) :
    (x.accWrite first rows).accAt (first + r) l = v := by
  rw [Tile.accAt, accWrite_acc]
  exact Tbl.getD_foldl_put_of_unique 0 (gridCells_at (g := id) hlen hrow hl)
    ⟨_, mem_gridCells.mpr ⟨r, row, l, v, hrow, hl, rfl⟩, rfl⟩ _

theorem accWrite_accAt_other {x : Tile} {first r l : Nat} {rows : List (List Quad)} (hlen : ∀ row ∈ rows, row.length ≤ 64)
    (hl : l < 64) (hr : r < first ∨ first + rows.length ≤ r) : (x.accWrite first rows).accAt r l = x.accAt r l := by
  rw [Tile.accAt, accWrite_acc]
  refine Tbl.getD_foldl_put_of_notMem 0 ?_ _
  intro p hp
  obtain ⟨r', row, k, e, hrow, he, rfl⟩ := mem_gridCells.mp hp
  have hr' : r' < rows.length := (List.getElem?_eq_some_iff.mp hrow).1
  have hk : k < 64 := (List.getElem?_eq_some_iff.mp he).1.trans_le (hlen row (List.mem_of_getElem? hrow))
  dsimp only [accKey]
  omega

/-! MMA (R131 to R133, R172). -/

/-- The accumulator rows that MMA writes from row `acc` on: each lane adds to what the row held, or to 0. -/
def Tile.mmaRows (x : Tile) (b : Bank) (f : Format) (acc : Nat) (zero : Bool) (codes : Codes) : List (List Quad) :=
  codes.mapIdx (fun r row => (List.range 64).map (fun l =>
    mmaLane b (row.map (fun e => (decodeElem x.tables f e.1, scaleOf e.2))) l (if zero then 0 else x.accAt (acc + r) l)))

theorem mmaRows_row_length {x : Tile} {b : Bank} {f : Format} {acc : Nat} {zero : Bool} {codes : Codes} :
    ∀ row ∈ x.mmaRows b f acc zero codes, row.length ≤ 64 := by
  intro row h
  obtain ⟨r, hr, rfl⟩ := List.mem_mapIdx.mp h
  simp

theorem mmaRows_length (x : Tile) (b : Bank) (f : Format) (acc : Nat) (zero : Bool) (codes : Codes) :
    (x.mmaRows b f acc zero codes).length = codes.length := List.length_mapIdx

theorem mmaRows_accAt {x : Tile} {b : Bank} {f : Format} {acc r l : Nat} {zero : Bool} {codes : Codes}
    {row : List (Nat × Option Nat)} (hrow : codes[r]? = some row) (hl : l < 64) :
    (x.accWrite acc (x.mmaRows b f acc zero codes)).accAt (acc + r) l =
      mmaLane b (row.map (fun e => (decodeElem x.tables f e.1, scaleOf e.2))) l (if zero then 0 else x.accAt (acc + r) l) := by
  refine accWrite_accAt_written mmaRows_row_length (by rw [Tile.mmaRows, List.getElem?_mapIdx, hrow, Option.map_some]) ?_
  rw [List.getElem?_map, List.getElem?_range hl, Option.map_some]

theorem exec_mma_adds {s s1 s2 : State} {n tag : Nat} {env : Env} {c : UnitCmd} {d : TensorDesc} {f : Format} {b : Bank}
    {codes : Codes} (hready : (s.tile n).ready tag 0 (· == 1) = some c) (h0 : field (c.c 0) 7 6 = 0) (hrnd : c.rnd = false)
    (h1 : c.c 1 < 64) (h2 : c.c 2 < 512) (h3 : c.c 3 = 0) (hdesc : s.descOf n c (c.c 1 % 16) false = .ok (d, f))
    (hbank : (if bit (c.c 1) 4 then (s.tile n).bank1 else (s.tile n).bank0) = b) (hcls : f.cls = b.cls) (hcols : d.cols = b.cls.k)
    (hacc : c.c 2 + d.rows ≤ 512) (hread : s.readOperand env n d f false = (s1, some codes))
    (hs2 : (if bit (c.c 1) 5 then s1 else s1.accEcc env n (c.c 2) d.rows) = s2)
    (hgood : bit (c.c 1) 5 = true ∨ (s2.tile n).accBad (c.c 2) d.rows = false) : exec (.mma n tag env) s = .next
      ((s2.setTile n ((s2.tile n).accWrite (c.c 2)
        ((s2.tile n).mmaRows b f (c.c 2) (bit (c.c 1) 5) codes))).cmdDone n tag 0 0) := by
  have hfields : ¬ (field (c.c 0) 7 6 ≠ 0 ∨ c.rnd = true ∨ field (c.c 1) 15 6 ≠ 0 ∨ field (c.c 2) 15 9 ≠ 0 ∨ c.c 3 ≠ 0) := by
    simp [h0, hrnd, h3, field_eq_zero (lo := 6) h1, field_eq_zero (lo := 9) h2]
  have hshape : ¬ (f.cls ≠ b.cls ∨ d.cols ≠ b.cls.k ∨ 512 < c.c 2 + d.rows) := by simp [hcls, hcols, hacc]
  have hclean : ¬ ((!bit (c.c 1) 5) = true ∧ (s2.tile n).accBad (c.c 2) d.rows = true) := by
    rintro ⟨hzero, hbad⟩
    rcases hgood with h | h <;> simp_all
  rw [exec_mma, execMma, hready]
  dsimp only
  rw [if_neg hfields, field_low4, hdesc]
  dsimp only
  rw [hbank, field_whole (hi := 8) h2, if_neg hshape, hread]
  dsimp only
  rw [hs2, if_neg hclean]
  rfl

/-- Settles O15: each command ends as its lemma says; what it wrote reads back, and no other entry of the tile changes. -/
theorem matrixUnit : Obligations.MatrixUnit := by
  unfold Obligations.MatrixUnit
  refine ⟨?_, ?_⟩
  · intro s n tag env c d f s1 codes hready h0 hrnd h1 h2 h3 hdesc hrows hcols hread
    refine ⟨_, exec_ldw_loads hready h0 hrnd h1 h2 h3 hdesc hrows hcols hread, loadedBank (s.tile n).tables f codes, ?_⟩
    rw [cmdDone_tile, State.tile_setTile_same]
    refine ⟨withBank_named _ _ _, withBank_other _ _ _, rfl, fun r row k e hrow he => ?_, withBank_acc _ _ _, ?_, rfl,
      fun m hm => ?_⟩
    · exact loadedBank_elem (fun row h => (hcols ▸ readOperand_row_length hread row h).le) hrow he
    · rw [Tile.setPhase, withBank_cmds]
      rfl
    · rw [cmdDone_tile_ne _ hm, State.tile_setTile_ne _ hm]
  · intro s n tag env c d f b s1 codes hready h0 hrnd h1 h2 h3 hdesc hbank hcls hcols hacc hread zero s2 hgood
    refine ⟨_, exec_mma_adds (s2 := s2) hready h0 hrnd h1 h2 h3 hdesc hbank hcls hcols hacc hread rfl hgood, ?_⟩
    beta_reduce
    rw [cmdDone_tile, State.tile_setTile_same]
    refine ⟨fun r row l hrow hl => mmaRows_accAt hrow hl, fun r l hl hr => ?_, rfl, rfl, rfl, rfl, fun m hm => ?_⟩
    · exact accWrite_accAt_other mmaRows_row_length hl (by rwa [mmaRows_length])
    · rw [cmdDone_tile_ne _ hm, State.tile_setTile_ne _ hm]

end Sys2Proof.Machine
end

section
/-! The vector unit: what each operation stores into D (R135, R136, R174 to R180, R194). -/

namespace Sys2Proof.Machine

theorem storeDone_stored {s t : State} {n : Nat} {c : UnitCmd} {d : TensorDesc} {f : Format} {rows : List (List Quad)}
    (h : s.storeResult n d f c.rnd rows = some t) : s.storeDone n c d f rows = t.cmdDone n c.tag 0 0 := by
  rw [State.storeDone, h]

/-! Operations on A and B. -/

section
variable {s s1 s2 : State} {n tag : Nat} {env : Env} {c : UnitCmd} {d a b : TensorDesc} {f fa fb : Format} {ma mb : Codes}

/-- EW once A and B have been read: the multiply-add reads D too, any other operation stores its values (R174). -/
def State.ewStored (s2 : State) (n : Nat) (env : Env) (c : UnitCmd) (d : TensorDesc) (f : Format) (tb : TileTables)
    (va vb : List (List Quad)) : State :=
  if c.c 2 = 5 then
    match s2.readOperand env n d f false with
    | (s3, none) => s3.cmdFault n c TF.SRAM_UNCORRECTABLE
    | (s3, some md) => s3.storeDone n c d f (List.zipWith (fun r (p : List Quad × List Quad) =>
        List.zipWith (fun z (q : Quad × Quad) => ffma q.1 q.2 z) r (p.1.zip p.2)) (decodeCodes tb f md) (va.zip vb))
  else s2.storeDone n c d f (List.zipWith (List.zipWith (vecOp (c.c 2))) va vb)

theorem exec_ew_stored (hready : (s.tile n).ready tag 1 (· == 0) = some c) (hfields : vecFields c true true 3 0 = true)
    (hop : c.c 2 ≤ 5) (hd : s.descOf n c (field (c.c 1) 3 0) false = .ok (d, f))
    (ha : s.vecOperand n c (field (c.c 1) 7 4) d true = .ok (a, fa))
    (hb : s.vecOperand n c (field (c.c 1) 11 8) d true = .ok (b, fb))
    (hreadA : s.readOperand env n a fa false = (s1, some ma)) (hreadB : s1.readOperand env n b fb false = (s2, some mb)) :
    exec (.ew n tag env) s = .next (s2.ewStored n env c d f (s.tile n).tables
      (decodeCodes (s.tile n).tables fa ma) (decodeCodes (s.tile n).tables fb mb)) := by
  have hok : ¬ ((!vecFields c true true 3 0) = true ∨ 5 < c.c 2) := by simp [hfields, hop]
  rw [exec_ew, execEw, hready]
  dsimp only
  rw [if_neg hok, hd]
  dsimp only
  rw [ha, hb]
  dsimp only
  rw [hreadA]
  dsimp only
  rw [hreadB]
  rfl

end

/-! Operations on A alone. -/

section
variable {s s1 : State} {n tag : Nat} {env : Env} {c : UnitCmd} {d a : TensorDesc} {f fa : Format} {m : Codes}

theorem vecUnary_stores {same : Bool} {okD : TensorDesc → Bool} (g : TileTables → List Quad → List Quad)
    (hd : s.descOf n c (field (c.c 1) 3 0) false = .ok (d, f)) (hok : okD d = true)
    (ha : s.vecOperand n c (field (c.c 1) 7 4) d same = .ok (a, fa))
    (hread : s.readOperand env n a fa false = (s1, some m)) : s.vecUnary n c env same okD g =
      s1.storeDone n c d f ((decodeCodes (s.tile n).tables fa m).map (g (s.tile n).tables)) := by
  rw [State.vecUnary, hd]
  dsimp only
  rw [hok, ha]
  dsimp only
  rw [hread]
  rfl

theorem exec_scalar_unary (hready : (s.tile n).ready tag 1 (· == 1) = some c) (hfields : vecFields c true false 3 16 = true)
    (hop : c.c 2 ≤ 4) : exec (.scalar n tag env) s = .next
      (s.vecUnary n c env true (fun _ => true) (fun _ r => r.map (fun a => vecOp (c.c 2) a (bf16Scalar (c.c 3))))) := by
  have hok : ¬ ((!vecFields c true false 3 16) = true ∨ 4 < c.c 2) := by simp [hfields, hop]
  rw [exec_scalar, execScalar, hready]
  dsimp only
  rw [if_neg hok]

theorem exec_curve_unary (hready : (s.tile n).ready tag 1 (· == 2) = some c) (hfields : vecFields c true false 0 0 = true) :
    exec (.curve n tag env) s = .next (s.vecUnary n c env true (fun _ => true) (fun tb r => r.map (curveAt tb))) := by
  rw [exec_curve, execCurve, hready]
  dsimp only
  rw [if_neg (by simp [hfields])]

theorem exec_reduce_unary (hready : (s.tile n).ready tag 1 (· == 4) = some c) (hfields : vecFields c true false 1 0 = true) :
    exec (.reduce n tag env) s = .next (s.vecUnary n c env false (fun d => d.cols == 1)
      (fun _ r => [reduceRow (if c.c 2 = 0 then fadd else fmax) r])) := by
  rw [exec_reduce, execReduce, hready]
  dsimp only
  rw [if_neg (by simp [hfields])]

theorem exec_cvt_unary (hready : (s.tile n).ready tag 1 (· == 5) = some c) (hfields : vecFields c true false 0 0 = true) :
    exec (.cvt n tag env) s = .next (s.vecUnary n c env true (fun _ => true) (fun _ r => r)) := by
  rw [exec_cvt, execCvt, hready]
  dsimp only
  rw [if_neg (by simp [hfields])]

/-! ACCRD. -/

theorem vecFields_c2_lt {usesA usesB : Bool} {c2bits c3bits : Nat} (h : vecFields c usesA usesB c2bits c3bits = true) :
    c.c 2 < 2 ^ c2bits := by
  simp only [vecFields, Bool.and_eq_true, decide_eq_true_eq] at h
  obtain ⟨⟨-, h2⟩, -⟩ := h
  exact h2

theorem exec_accrd_stores (hready : (s.tile n).ready tag 1 (· == 3) = some c) (hfields : vecFields c false false 9 16 = true)
    (hd : s.descOf n c (field (c.c 1) 3 0) false = .ok (d, f)) (hcols : d.cols = 64) (hrows : c.c 2 + d.rows ≤ 512)
    (hs1 : s.accEcc env n (c.c 2) d.rows = s1) (hgood : (s1.tile n).accBad (c.c 2) d.rows = false) :
    exec (.accrd n tag env) s = .next (s1.storeDone n c d f ((List.range d.rows).map (fun r =>
      (List.range 64).map (fun l => fmul ((s1.tile n).accAt (c.c 2 + r) l) (bf16Scalar (c.c 3)))))) := by
  have hshape : ¬ (d.cols ≠ 64 ∨ 512 < c.c 2 + d.rows) := by simp [hcols, hrows]
  rw [exec_accrd, execAccrd, hready]
  dsimp only
  rw [if_neg (by simp [hfields]), hd]
  dsimp only
  rw [field_whole (hi := 8) (vecFields_c2_lt hfields), if_neg hshape, hs1, if_neg (by simp [hgood])]

end

/-- Settles O16: each operation reads its operands and stores its values, as its lemma says. -/
theorem vectorUnit : Obligations.VectorUnit := by
  unfold Obligations.VectorUnit
  intro stores s n tag env c d f tb x hd
  refine ⟨fun a fa b fb s1 ma s2 mb hready hfields ha hb hreadA hreadB => ⟨fun hop t ht => ?_, fun s3 md hop hreadD t ht => ?_⟩,
    fun a fa s1 m ha hread => ⟨fun hready hfields hop t ht => ?_, fun hready hfields t ht => ?_, fun hready hfields t ht => ?_⟩,
    fun a fa s1 m ha hread hready hfields hcols t ht => ?_, fun hready hfields hcols hrows hgood t ht => ?_⟩
  · rw [exec_ew_stored hready hfields (by omega) hd ha hb hreadA hreadB, State.ewStored, if_neg (by omega), storeDone_stored ht]
  · rw [exec_ew_stored hready hfields (by omega) hd ha hb hreadA hreadB, State.ewStored, if_pos hop, hreadD]
    dsimp only
    rw [storeDone_stored ht]
  · rw [exec_scalar_unary hready hfields hop, vecUnary_stores _ hd rfl ha hread]
    exact congrArg _ (storeDone_stored ht)
  · rw [exec_curve_unary hready hfields, vecUnary_stores _ hd rfl ha hread, storeDone_stored ht]
  · rw [exec_cvt_unary hready hfields, vecUnary_stores _ hd rfl ha hread, List.map_id', storeDone_stored ht]
  · rw [exec_reduce_unary hready hfields, vecUnary_stores _ hd (by simp [hcols]) ha hread, storeDone_stored ht]
  · rw [exec_accrd_stores hready hfields hd hcols hrows rfl hgood]
    exact congrArg _ (storeDone_stored ht)

end Sys2Proof.Machine
end

section
/-! The tile DMA: copies, messages and table loads, and the completion of unit commands (R123 to R125, R137 to R141, R144, R145,
R188, R189, R215). -/

namespace Sys2Proof.Machine

/-! GET and PUT (R137, R138). -/

/-- The device address of row `r` of a copy. -/
def State.dmaAddr (s : State) (n : Nat) (c : UnitCmd) (r : Nat) : Nat := (s.tile n).daAt (field (c.c 1) 7 4) + r * c.c 2 * 64

theorem runDma_copies {s s1 : State} {n : Nat} {env : Env} {c : UnitCmd} {d : TensorDesc} {f : Format} {put stale : Bool}
    (h0 : field (c.c 0) 8 6 = 0) (h1 : field (c.c 1) 15 8 = 0) (h3 : c.c 3 = 0)
    (hdesc : s.descOf n c (field (c.c 1) 3 0) false = .ok (d, f))
    (hcheck : s.checkRanges (s.tileFn n) put
      ((List.range d.rows).map (fun r => (s.dmaAddr n c r, rowBytes d.cols f.width))) = .ok ())
    (hrows : s.dmaRows env n (s.tileFn n) put false ((List.range d.rows).flatMap (fun r =>
      (windowPieces (s.dmaAddr n c r) (rowBytes d.cols f.width)).map
        (fun p => (p.1, d.base + r * d.stride + p.2.1, p.2.2)))) = (s1, .ok stale)) :
    s.runDma n c env put = s1.cmdDone n c.tag (if stale then 1 else 0) 0 := by
  have hfields : ¬ (field (c.c 0) 8 6 ≠ 0 ∨ field (c.c 1) 15 8 ≠ 0 ∨ c.c 3 ≠ 0) := by simp [h0, h1, h3]
  simp only [State.dmaAddr] at hcheck hrows
  rw [State.runDma, if_neg hfields, hdesc]
  simp only [List.map_map, List.flatMap_map, Function.comp_def, hcheck, hrows]

theorem exec_get_runs {s : State} {n tag : Nat} {c : UnitCmd} (env : Env) (hready : (s.tile n).ready tag 2 (· == 0) = some c) :
    exec (.get n tag env) s = .next (s.runDma n c env false) := by rw [exec_get, execGet, hready]

theorem exec_put_runs {s : State} {n tag : Nat} {c : UnitCmd} (env : Env) (hready : (s.tile n).ready tag 2 (· == 1) = some c) :
    exec (.put n tag env) s = .next (s.runDma n c env true) := by rw [exec_put, execPut, hready]

/-! SETA and EVADD (R137, R139). -/

theorem exec_seta_sets {s : State} {n tag : Nat} {c : UnitCmd}
    (hready : (s.tile n).ready tag 2 (fun op => decide (16 ≤ op)) = some c) (h0 : field (c.c 0) 8 6 = 0) :
    exec (.seta n tag) s = .next ((s.setTile n { s.tile n with
      da := Tbl.put 0 (c.op - 16) (c.c 1 + c.c 2 * 2 ^ 16 + c.c 3 * 2 ^ 32) (s.tile n).da }).cmdDone n tag 0 0) := by
  rw [exec_seta, execSeta, hready]
  dsimp only
  rw [if_neg (not_not_intro h0)]

section
variable {s : State} {n tag : Nat} {c : UnitCmd}

theorem evadd_wellFormed (h0 : field (c.c 0) 8 6 = 0) (h1 : c.c 1 < 2 ^ 13) :
    ¬ (field (c.c 0) 8 6 ≠ 0 ∨ field (c.c 1) 15 13 ≠ 0) := by simp [h0, field_eq_zero h1]

theorem exec_evadd_counts {e : Nat} (hready : (s.tile n).ready tag 2 (· == 2) = some c) (h0 : field (c.c 0) 8 6 = 0)
    (h1 : c.c 1 < 2 ^ 13) (he : s.evtNumber (s.tileFn n) (c.c 1) = some e) : exec (.evadd n tag) s =
      .next ((s.addCounter e (BitVec.ofNat 64 (c.c 2 + c.c 3 * 2 ^ 16))).cmdDone n tag 0 0) := by
  rw [exec_evadd, execEvadd, hready]
  dsimp only
  rw [if_neg (evadd_wellFormed h0 h1), field_whole (hi := 12) h1, he]

theorem exec_evadd_outside (hready : (s.tile n).ready tag 2 (· == 2) = some c) (h0 : field (c.c 0) 8 6 = 0)
    (h1 : c.c 1 < 2 ^ 13) (he : s.evtNumber (s.tileFn n) (c.c 1) = none) :
    exec (.evadd n tag) s = .next (s.cmdFault n c TF.EVENT_RANGE) := by
  rw [exec_evadd, execEvadd, hready]
  dsimp only
  rw [if_neg (evadd_wellFormed h0 h1), field_whole (hi := 12) h1, he]

end

/-! Messages (R137, R140, R141, R144, R145). -/

theorem exec_send_sent {s s1 : State} {n tag : Nat} {env : Env} {c : UnitCmd} {d : TensorDesc} {f : Format} {bs : List Byte}
    (hready : (s.tile n).ready tag 2 (· == 3) = some c) (h0 : field (c.c 0) 8 6 = 0) (h1 : c.c 1 < 2 ^ 12)
    (h7 : bit (c.c 1) 7 = false) (h2 : c.c 2 = 0) (h3 : c.c 3 = 0)
    (hdesc : s.descOf n c (field (c.c 1) 11 8) false = .ok (d, f)) (hbase : d.base + 8 ≤ sramSize)
    (hread : s.sramRead env n d.base 8 = (s1, some bs)) : exec (.send n tag env) s =
      .next (s1.setTile n ((s1.tile n).setPhase tag (.sent (BitVec.ofNat 64 (ofBytes bs))))) := by
  have hfields : ¬ (field (c.c 0) 8 6 ≠ 0 ∨ bit (c.c 1) 7 = true ∨ field (c.c 1) 15 12 ≠ 0 ∨ c.c 2 ≠ 0 ∨ c.c 3 ≠ 0) := by
    simp [h0, h7, h2, h3, field_eq_zero h1]
  rw [exec_send, execSend, hready]
  dsimp only
  rw [if_neg hfields, hdesc]
  dsimp only
  rw [if_neg (Nat.not_lt.mpr hbase), hread]

/-- A message whose sender's earlier messages have ended: refused, held by a full queue, or delivered. -/
theorem exec_messageDeliver_first {s : State} {n tag : Nat} {c : UnitCmd} {m : Word} (hcmd : (s.tile n).cmd? tag = some c)
    (hphase : c.phase = .sent m) (hunit : c.unit = 2)
    (hfirst : ∀ d ∈ (s.tile n).before tag, d.unit = 2 → d.op = 3 → isDone d.phase = true) :
    exec (.messageDeliver n tag) s = .next (
      let target := c.c 1 % 128
      if !s.rolePasses n (sramBase target) then (s.stale n (sramBase target)).cmdDone n tag 1 0
      else if 16 ≤ (s.tile target).msgs.length then s
      else (s.pushMsg target m).cmdDone n tag 0 0) := by
  have hearlier : ¬ (c.unit ≠ 2 ∨
      ((s.tile n).before tag).any (fun d => d.unit == 2 && d.op == 3 && !isDone d.phase) = true) := by
    rw [List.any_eq_true]
    rintro (h | ⟨d, hd, h⟩)
    · exact h hunit
    · simp only [Bool.and_eq_true, beq_iff_eq, Bool.not_eq_true'] at h
      obtain ⟨⟨hu, hop⟩, hnot⟩ := h
      simp [hfirst d hd hu hop] at hnot
  rw [exec_messageDeliver, execMessageDeliver]
  dsimp only
  rw [hcmd]
  dsimp only
  rw [hphase]
  dsimp only
  rw [if_neg hearlier, field_low7]

theorem exec_msgrd_reads {s s1 : State} {n tag k : Nat} {c : UnitCmd} {d : TensorDesc} {f : Format}
    (hready : (s.tile n).ready tag 2 (· == 4) = some c) (h0 : field (c.c 0) 8 6 = 0) (h1 : c.c 1 < 16) (h2 : c.c 2 = 0)
    (h3 : c.c 3 = 0) (hdesc : s.descOf n c (c.c 1) false = .ok (d, f))
    (hk : min (min 16 (d.rows * d.stride / 8)) (s.tile n).msgs.length = k) (hbase : d.base + 8 * k ≤ sramSize)
    (hwrite : s.sramWrite n d.base (bytesOfWords ((s.tile n).msgs.take k)) = some s1) : exec (.msgrd n tag) s =
      .next ((s1.setTile n { s1.tile n with msgs := (s.tile n).msgs.drop k }).cmdDone n tag 0 k) := by
  have hfields : ¬ (field (c.c 0) 8 6 ≠ 0 ∨ field (c.c 1) 15 4 ≠ 0 ∨ c.c 2 ≠ 0 ∨ c.c 3 ≠ 0) := by
    simp [h0, h2, h3, field_eq_zero (lo := 4) h1]
  rw [exec_msgrd, execMsgrd, hready]
  dsimp only
  rw [if_neg hfields, field_whole (hi := 3) h1, hdesc]
  dsimp only
  rw [hk, if_neg (Nat.not_lt.mpr hbase), hwrite]

/-! Table loads (R188, R189). -/

/-- The encode entries of a source hold a reserved encoding where one of them does. -/
theorem encListReserved_iff (tb : TileTables) (first : Nat) (es : List Nat) : encListReserved tb first es = true ↔
    ∃ k e, es[k]? = some e ∧ encReserved tb (first + k) e = true := by
  simp only [encListReserved, List.any_eq_true, List.mem_mapIdx, id]
  constructor
  · rintro ⟨b, ⟨k, hk, rfl⟩, hb⟩
    exact ⟨k, _, List.getElem?_eq_getElem hk, hb⟩
  · rintro ⟨k, e, he, hb⟩
    obtain ⟨hk, rfl⟩ := List.getElem?_eq_some_iff.mp he
    exact ⟨_, ⟨k, hk, rfl⟩, hb⟩

/-- A table load whose source of `k` bytes lies at address `a` and was read as `bs`. -/
structure TableSource (s s1 : State) (env : Env) (n : Nat) (c : UnitCmd) (k : Nat) (bs : List Byte) : Prop where
  header : field (c.c 0) 8 6 = 0
  low : field (c.c 1) 3 0 = 0
  high : field (c.c 1) 15 8 = 0
  aligned : (s.tile n).daAt (field (c.c 1) 7 4) % 64 = 0
  role : s.refused n ((s.tile n).daAt (field (c.c 1) 7 4)) k = []
  check : s.checkRange (s.tileFn n) false false ((s.tile n).daAt (field (c.c 1) 7 4)) k = .ok ()
  read : s.readChecked env (s.tileFn n) ((s.tile n).daAt (field (c.c 1) 7 4)) k = (s1, .ok bs)

section
variable {s s1 : State} {n tag k : Nat} {env : Env} {c : UnitCmd} {bs : List Byte}

/-- The tile with its tables as a load left them, and the load's effect made. -/
def State.loaded (s : State) (n : Nat) (c : UnitCmd) (tb : TileTables) : State :=
  (s.setTile n { s.tile n with tables := tb }).cmdDone n c.tag 0 0

theorem tableLoad_of_source (h : TableSource s s1 env n c k bs) (bad : TileTables → List Byte → Bool)
    (put : List Byte → TileTables → TileTables) : s.tableLoad n c env true k bad put =
      if bad (s1.tile n).tables bs then s1.cmdFault n c TF.UNIT_CMD_INVALID
      else s1.loaded n c (put bs (s1.tile n).tables) := by
  have hfields : ¬ (field (c.c 0) 8 6 ≠ 0 ∨ field (c.c 1) 3 0 ≠ 0 ∨ field (c.c 1) 15 8 ≠ 0 ∨ (!true) = true ∨
      (s.tile n).daAt (field (c.c 1) 7 4) % 64 ≠ 0) := by
    simp [h.header, h.low, h.high, h.aligned]
  rw [State.tableLoad]
  dsimp only
  rw [if_neg hfields, h.check]
  dsimp only
  rw [if_neg (not_not_intro h.role), h.read]
  rfl

theorem exec_lddec_loads (hready : (s.tile n).ready tag 2 (· == 8) = some c) (hcount : countFields c = true)
    (h : TableSource s s1 env n c (c.c 3 * 2) bs) : exec (.lddec n tag env) s = .next (s1.loaded n c
      { (s1.tile n).tables with dec := fillHalf (c.c 2) (groupsOf 2 (c.c 3) bs) (s1.tile n).tables.dec }) := by
  rw [exec_lddec, execLddec, hready]
  dsimp only
  rw [hcount, tableLoad_of_source h]
  rfl

theorem exec_ldenc_loads (hready : (s.tile n).ready tag 2 (· == 9) = some c) (hcount : countFields c = true)
    (h : TableSource s s1 env n c (c.c 3 * 4) bs) : exec (.ldenc n tag env) s = .next (
      if encListReserved (s1.tile n).tables (c.c 2) (groupsOf 4 (c.c 3) bs) then s1.cmdFault n c TF.UNIT_CMD_INVALID
      else s1.loaded n c
        { (s1.tile n).tables with enc := fillQuad (c.c 2) (groupsOf 4 (c.c 3) bs) (s1.tile n).tables.enc }) := by
  rw [exec_ldenc, execLdenc, hready]
  dsimp only
  rw [hcount, tableLoad_of_source h]

theorem exec_ldctl_loads (hready : (s.tile n).ready tag 2 (· == 10) = some c) (h2 : c.c 2 = 0) (h3 : c.c 3 = 0)
    (h : TableSource s s1 env n c 128 bs) : exec (.ldctl n tag env) s = .next (
      if controlReserved (wordsOf 16 bs) then s1.cmdFault n c TF.UNIT_CMD_INVALID
      else s1.loaded n c (loadControl (s1.tile n).tables (wordsOf 16 bs))) := by
  have hcount : (c.c 2 == 0 && c.c 3 == 0) = true := by simp [h2, h3]
  rw [exec_ldctl, execLdctl, hready]
  dsimp only
  rw [hcount, tableLoad_of_source h]

theorem exec_ldcrv_loads (hready : (s.tile n).ready tag 2 (· == 11) = some c) (h2 : c.c 2 = 0) (h3 : c.c 3 = 0)
    (h : TableSource s s1 env n c 1088 bs) : exec (.ldcrv n tag env) s = .next (
      if curveReserved (wordsOf 136 bs) then s1.cmdFault n c TF.UNIT_CMD_INVALID
      else s1.loaded n c { (s1.tile n).tables with curve := fillWord 0 (wordsOf 136 bs) [] }) := by
  have hcount : (c.c 2 == 0 && c.c 3 == 0) = true := by simp [h2, h3]
  rw [exec_ldcrv, execLdcrv, hready]
  dsimp only
  rw [hcount, tableLoad_of_source h]

end

/-! UNIT_COMPLETION (R122 to R125, R215). -/

/-- The completion word `w` posted: the tag is no longer outstanding, its store holds the word, and `u` waits. -/
def State.wordPosted (s : State) (n tag : Nat) (w : Half) (u : Option (Nat × Nat)) : State := s.setTile n { s.tile n with
  cmds := (s.tile n).cmds.filter (fun d => d.tag != tag)
  core := { (s.tile n).core with tagStore := Tbl.set tag w (s.tile n).core.tagStore, waitu := u } }

section
variable {s : State} {n tag : Nat} {c : UnitCmd} {w : Half}

/-- A command whose effect is made: its word waits for earlier commands of an in-order unit, or is posted. -/
theorem exec_unitCompletion_done (hcmd : (s.tile n).cmd? tag = some c) (hphase : c.phase = .done w) :
    exec (.unitCompletion n tag) s = .next (
      if c.unit < 2 ∧ ((s.tile n).before tag).any (fun d => d.unit == c.unit) = true then s
      else
        let s1 := s.wordPosted n tag w (s.tile n).core.waitu
        match (s.tile n).core.waitu with
        | some (k, id) =>
          if k = tag then (s1.setTcore n { s1.tcore n with waitu := none }).settle n id w else s1
        | none => s1) := by
  rw [exec_unitCompletion, execUnitCompletion]
  dsimp only
  rw [hcmd]
  dsimp only
  rw [hphase]
  rfl

/-- The word waits: an earlier command of the unit, which posts in issue order, is outstanding. -/
theorem exec_unitCompletion_waits (hcmd : (s.tile n).cmd? tag = some c) (hphase : c.phase = .done w)
    (hearlier : c.unit < 2 ∧ ∃ d ∈ (s.tile n).before tag, d.unit = c.unit) : exec (.unitCompletion n tag) s = .next s := by
  rw [exec_unitCompletion_done hcmd hphase, if_pos (by simpa only [List.any_eq_true, beq_iff_eq] using hearlier)]

/-- Nothing holds the word back. -/
theorem not_heldBack (horder : 2 ≤ c.unit ∨ ∀ d ∈ (s.tile n).before tag, d.unit ≠ c.unit) :
    ¬ (c.unit < 2 ∧ ((s.tile n).before tag).any (fun d => d.unit == c.unit) = true) := by
  simp only [List.any_eq_true, beq_iff_eq]
  rintro ⟨hlt, d, hd, hunit⟩
  rcases horder with h | h
  · omega
  · exact h d hd hunit

theorem Tbl.set_ne_nil {α : Type} (k : Nat) (v : α) (t : Tbl α) : Tbl.set k v t ≠ [] := by
  cases t with
  | nil => simp [Tbl.set]
  | cons e t =>
    rw [Tbl.set]
    split
    · simp
    · split <;> simp

/-- The WAITU that waited for the word goes on. -/
theorem wordPosted_resumed (hn : n < 128) (u : Option (Nat × Nat)) : (s.wordPosted n tag w u).setTcore n
    { (s.wordPosted n tag w u).tcore n with waitu := none } = s.wordPosted n tag w none := by
  have hne : ({ s.tile n with
      cmds := (s.tile n).cmds.filter (fun d => d.tag != tag)
      core := { (s.tile n).core with tagStore := Tbl.set tag w (s.tile n).core.tagStore, waitu := u } } : Tile) ≠ {} :=
    fun h => Tbl.set_ne_nil _ _ _ (congrArg (fun x : Tile => x.core.tagStore) h)
  rw [State.setTcore, if_pos hn, State.tcore, if_pos hn, State.wordPosted, State.tile_setTile_same, setTile_setTile s n hne]
  rfl

theorem exec_unitCompletion_posts (hcmd : (s.tile n).cmd? tag = some c) (hphase : c.phase = .done w)
    (horder : 2 ≤ c.unit ∨ ∀ d ∈ (s.tile n).before tag, d.unit ≠ c.unit)
    (hnone : ∀ id, (s.tile n).core.waitu ≠ some (tag, id)) :
    exec (.unitCompletion n tag) s = .next (s.wordPosted n tag w (s.tile n).core.waitu) := by
  rw [exec_unitCompletion_done hcmd hphase, if_neg (not_heldBack horder)]
  split
  · next k id hw => rw [if_neg (fun hk : k = tag => hnone id (hk ▸ hw))]
  · rfl

theorem exec_unitCompletion_resumes {id : Nat} (hcmd : (s.tile n).cmd? tag = some c) (hphase : c.phase = .done w)
    (horder : 2 ≤ c.unit ∨ ∀ d ∈ (s.tile n).before tag, d.unit ≠ c.unit) (hn : n < 128)
    (hw : (s.tile n).core.waitu = some (tag, id)) :
    exec (.unitCompletion n tag) s = .next ((s.wordPosted n tag w none).settle n id w) := by
  rw [exec_unitCompletion_done hcmd hphase, if_neg (not_heldBack horder), hw]
  dsimp only
  rw [if_pos rfl, wordPosted_resumed hn]

theorem exec_unitCompletion_undefined (hready : (s.tile n).ready tag c.unit (fun _ => true) = some c)
    (hop : c.opDefined = false) (hunit : c.unit < 3) :
    exec (.unitCompletion n tag) s = .next (s.cmdFault n c TF.UNIT_CMD_INVALID) := by
  obtain ⟨hcmd, -, -, hphase⟩ := ready_some hready
  rw [exec_unitCompletion, execUnitCompletion]
  dsimp only
  rw [hcmd]
  dsimp only
  rw [hphase]
  dsimp only
  rw [if_pos ⟨by simp [hop], hunit, by rw [hready]; rfl⟩]

end

/-- Settles O17: each command is followed through its checks to its end. -/
theorem tileDataCommands : Obligations.TileDataCommands := by
  unfold Obligations.TileDataCommands
  refine ⟨⟨?_, ?_, ?_, ?_, ?_, ?_⟩, ?_, ?_, ?_⟩
  · intro s n tag env c d f s1 stale h0 h1 h3 hdesc bytes at' rows all
    refine ⟨fun hready hcheck hrows => ?_, fun hready hcheck hrows => ?_⟩
    · rw [exec_get_runs env hready, runDma_copies h0 h1 h3 hdesc hcheck hrows]
    · rw [exec_put_runs env hready, runDma_copies h0 h1 h3 hdesc hcheck hrows]
  · intro s n tag c hready h0
    exact exec_seta_sets hready h0
  · intro s n tag c e hready h0 h1
    exact ⟨exec_evadd_counts hready h0 h1, exec_evadd_outside hready h0 h1⟩
  · intro s n tag env c d f s1 bs hready h0 h1 h7 h2 h3 hdesc hbase hread
    exact exec_send_sent hready h0 h1 h7 h2 h3 hdesc hbase hread
  · intro s n tag c m hcmd hphase hunit hfirst target
    rw [exec_messageDeliver_first hcmd hphase hunit hfirst]
    refine ⟨fun hrole => ?_, fun hrole hfull => ?_, fun hrole hroom => ?_⟩
    · exact congrArg _ (if_pos (by rw [hrole]; rfl))
    · exact congrArg _ ((if_neg (by rw [hrole]; decide)).trans (if_pos hfull))
    · exact congrArg _ ((if_neg (by rw [hrole]; decide)).trans (if_neg (Nat.not_le.mpr hroom)))
  · intro s n tag c d f s1 hready h0 h1 h2 h3 hdesc k hbase hwrite
    exact exec_msgrd_reads hready h0 h1 h2 h3 hdesc rfl hbase hwrite
  · intro s n tag env c s1 bs a fn h0 h1 h1' ha reads loaded faults tb
    have source : ∀ {k}, reads k → TableSource s s1 env n c k bs := fun ⟨hrole, hcheck, hread⟩ =>
      ⟨h0, h1, h1', ha, hrole, hcheck, hread⟩
    refine ⟨fun hready hcount hreads => exec_lddec_loads hready hcount (source hreads),
      fun hready hcount hreads => ⟨fun hgood => ?_, fun hbad => ?_⟩, fun hready h2 h3 hreads => ⟨fun hgood => ?_, fun hbad => ?_⟩,
      fun hready h2 h3 hreads => ⟨fun hgood => ?_, fun hbad => ?_⟩⟩
    · refine (exec_ldenc_loads hready hcount (source hreads)).trans (congrArg _ (if_neg ?_))
      rw [encListReserved_iff]
      rintro ⟨k, e, he, hres⟩
      rw [hgood k e he] at hres
      cases hres
    · exact (exec_ldenc_loads hready hcount (source hreads)).trans (congrArg _ (if_pos ((encListReserved_iff _ _ _).mpr hbad)))
    · exact (exec_ldctl_loads hready h2 h3 (source hreads)).trans (congrArg _ (if_neg (by simp [hgood])))
    · exact (exec_ldctl_loads hready h2 h3 (source hreads)).trans (congrArg _ (if_pos hbad))
    · exact (exec_ldcrv_loads hready h2 h3 (source hreads)).trans (congrArg _ (if_neg (by simp [hgood])))
    · exact (exec_ldcrv_loads hready h2 h3 (source hreads)).trans (congrArg _ (if_pos hbad))
  · intro s n tag c w hcmd hphase
    exact ⟨fun horder => ⟨exec_unitCompletion_posts hcmd hphase horder,
      fun id hn hw => exec_unitCompletion_resumes hcmd hphase horder hn hw⟩, exec_unitCompletion_waits hcmd hphase⟩
  · intro s n tag c hready hop hunit
    exact exec_unitCompletion_undefined hready hop hunit

end Sys2Proof.Machine
end

section
/-! Roles: what a change of several tiles leaves, LAUNCH, the end of its load, and SEND of the tile launch class (R141, R142, R144,
R149 to R152, R154, R191). -/

namespace Sys2Proof.Machine

/-! Tiles changed one after another. -/

/-- `t` is `s` but for registers and tiles. -/
def TilesOnly (s t : State) : Prop := t = { s with regs := t.regs, tiles := t.tiles }

theorem TilesOnly.refl (s : State) : TilesOnly s s := rfl

theorem TilesOnly.trans {s t u : State} (h : TilesOnly s t) (k : TilesOnly t u) : TilesOnly s u := by
  unfold TilesOnly at *
  rw [k, h]

theorem setFld_tilesOnly (s : State) (f : Fld) (i v : Nat) : TilesOnly s (s.setFld f i v) := rfl

theorem setTile_tilesOnly (s : State) (n : Nat) (x : Tile) : TilesOnly s (s.setTile n x) := rfl

theorem TilesOnly.setFld {s t : State} (h : TilesOnly s t) (f : Fld) (i v : Nat) : TilesOnly s (t.setFld f i v) :=
  h.trans (setFld_tilesOnly t f i v)

theorem TilesOnly.setTile {s t : State} (h : TilesOnly s t) (n : Nat) (x : Tile) : TilesOnly s (t.setTile n x) :=
  h.trans (setTile_tilesOnly t n x)

theorem TilesOnly.roles {s t : State} (h : TilesOnly s t) : t.roles = s.roles := by rw [show t = _ from h]

theorem tile_setFld (s : State) (f : Fld) (i v n : Nat) : (s.setFld f i v).tile n = s.tile n := rfl

section
variable {β : Type} {st : β → State} {f : β → Nat → β}

/-- Steps that each change one tile, and registers: what each leaves of its tile holds of every tile of the list, and nothing else
changes but registers. -/
theorem foldl_tiles {P : Tile → Prop}
    (honly : ∀ b n, TilesOnly (st b) (st (f b n)))
    (hother : ∀ b n m, m ≠ n → (st (f b n)).tile m = (st b).tile m) (hP : ∀ b n, P ((st (f b n)).tile n)) (l : List Nat) (b : β) :
    (∀ n ∈ l, P ((st (l.foldl f b)).tile n)) ∧ (∀ n, n ∉ l → (st (l.foldl f b)).tile n = (st b).tile n) ∧
    TilesOnly (st b) (st (l.foldl f b)) := by
  induction l generalizing b with
  | nil => exact ⟨fun n hn => absurd hn List.not_mem_nil, fun _ _ => rfl, rfl⟩
  | cons m l ih =>
    obtain ⟨hin, hout, hrest⟩ := ih (f b m)
    rw [List.foldl_cons]
    refine ⟨fun n hn => ?_, fun n hn => ?_, ?_⟩
    · by_cases hl : n ∈ l
      · exact hin n hl
      · obtain rfl : n = m := (List.mem_cons.mp hn).resolve_right hl
        rw [hout n hl]
        exact hP b n
    · obtain ⟨hne, hl⟩ := not_or.mp (mt List.mem_cons.mpr hn)
      rw [hout n hl, hother b m n hne]
    · exact (honly b m).trans hrest

/-- Steps that each leave a part of the state leave it together. -/
theorem foldl_kept {γ : Type} (g : State → γ) (h : ∀ b n, g (st (f b n)) = g (st b)) (l : List Nat) (b : β) :
    g (st (l.foldl f b)) = g (st b) := by
  induction l generalizing b with
  | nil => rfl
  | cons n l ih => rw [List.foldl_cons, ih, h]

end

/-! LAUNCH (R142, R149 to R151). -/

/-- A tile taken for a role: its registers name the role, its sequencer stands, and it has no fault. -/
def State.takeTile (lead gen fn : Nat) (t : State) (n : Nat) : State :=
  let t1 := ((((t.setFld F.CAL_TILE_STAT_GEN n gen).setFld F.CAL_TILE_STAT_LEAD n lead).setFld F.CAL_TILE_STAT_FUNC n fn).setFld
    F.CAL_TILE_STAT_FAULT n 0)
  let t2 := (((t1.setFld F.CAL_TILE_FAULT_CODE n 0).setFld F.CAL_TILE_FAULT_PC n 0).setFld F.CAL_TILE_FAULT_UNIT n 0).setFld
    F.CAL_TILE_FAULT_TAG n 0
  t2.setTile n { t2.tile n with
    role := some lead, everHeld := true, fault := none, core := { (t2.tile n).core with run := .stopped } }

theorem takeTile_tilesOnly (lead gen fn : Nat) (t : State) (n : Nat) : TilesOnly t (State.takeTile lead gen fn t n) :=
  ((((((((TilesOnly.refl t).setFld _ _ _).setFld _ _ _).setFld _ _ _).setFld _ _ _).setFld _ _ _).setFld _ _ _).setFld
    _ _ _).setFld _ _ _ |>.setTile _ _

theorem takeTile_other (lead gen fn : Nat) (t : State) {n m : Nat} (h : m ≠ n) :
    (State.takeTile lead gen fn t n).tile m = t.tile m := by
  simp only [State.takeTile, State.tile_setTile_ne _ h, tile_setFld]

theorem takeTile_taken (lead gen fn : Nat) (t : State) (n : Nat) :
    ((State.takeTile lead gen fn t n).tile n).role = some lead ∧ ((State.takeTile lead gen fn t n).tile n).fault = none := by
  rw [State.takeTile, State.tile_setTile_same]
  exact ⟨rfl, rfl⟩

/-- The role that a LAUNCH makes of its tiles. -/
def State.launchRole (s : State) (slot : Nat) (x : Slot) (ts : List Nat) : Role :=
  { gen := s.fld F.CAL_TILE_STAT_NEXT_GEN (ts.headD 0), fn := x.fn, tiles := ts, slot := slot, phase := .loading
    entry := BitVec.ofNat 16 (field (wordAt x.words 1) 47 32), words := wordAt x.words 3, started := 0
    timeoutUs := field (wordAt x.words 7) 31 0, report := none }

/-- The state in which a LAUNCH takes its tiles: the generation of the lead has advanced, and the role is made. -/
def State.roleMade (s : State) (slot : Nat) (x : Slot) (ts : List Nat) : State :=
  (s.setFld F.CAL_TILE_STAT_NEXT_GEN (ts.headD 0) (s.fld F.CAL_TILE_STAT_NEXT_GEN (ts.headD 0) + 1)).setRole (ts.headD 0)
    (s.launchRole slot x ts)

theorem takeTiles_eq (s : State) (slot : Nat) (x : Slot) (ts : List Nat) : s.takeTiles slot x ts =
    ts.foldl (State.takeTile (ts.headD 0) (s.fld F.CAL_TILE_STAT_NEXT_GEN (ts.headD 0)) x.fn) (s.roleMade slot x ts) := rfl

/-- The tiles taken, the role made, and nothing else but registers. -/
theorem takeTiles_leaves (s : State) (slot : Nat) (x : Slot) (ts : List Nat) : let t := s.takeTiles slot x ts
    (∀ n ∈ ts, (t.tile n).role = some (ts.headD 0) ∧ (t.tile n).fault = none) ∧ (∀ n, n ∉ ts → t.tile n = s.tile n) ∧
    Tbl.find? (ts.headD 0) t.roles = some (s.launchRole slot x ts) ∧
    t = { s with regs := t.regs, tiles := t.tiles, roles := t.roles } := by
  rw [takeTiles_eq]
  obtain ⟨hin, hout, honly⟩ := foldl_tiles (st := id) (P := fun y => y.role = some (ts.headD 0) ∧ y.fault = none)
    (f := State.takeTile (ts.headD 0) (s.fld F.CAL_TILE_STAT_NEXT_GEN (ts.headD 0)) x.fn) (takeTile_tilesOnly _ _ _)
    (fun t _ _ h => takeTile_other _ _ _ t h) (takeTile_taken _ _ _) ts (s.roleMade slot x ts)
  refine ⟨hin, hout, ?_, ?_⟩
  · exact (congrArg (Tbl.find? (ts.headD 0)) honly.roles).trans (Tbl.find?_set_same _ _ _)
  · have hroles := honly.roles
    unfold TilesOnly at honly
    rw [id] at honly hroles
    rw [hroles]
    exact honly

/-- The slot's progress and what taking the tiles changes, together. -/
theorem setSlot_takeTiles_frame (s : State) (slot : Nat) (y x : Slot) (ts : List Nat) : let t := (s.setSlot slot y).takeTiles slot x ts
    t = { s with rng := t.rng, regs := t.regs, tiles := t.tiles, roles := t.roles } := by
  obtain ⟨-, -, -, hframe⟩ := takeTiles_leaves (s.setSlot slot y) slot x ts
  generalize (s.setSlot slot y).takeTiles slot x ts = t at hframe ⊢
  have hrng : t.rng = (s.setSlot slot y).rng := by rw [hframe]
  dsimp only
  rw [hrng]
  exact hframe

/-- LAUNCH of a clause that has not taken its tiles, by its checks. -/
theorem exec_launch_new {s : State} {slot : Nat} {x : Slot} (hat : s.clauseAt slot 1 0 = some x) (hnew : x.progress = none) :
    exec (.launch slot) s = .next (
      if launchBad x.words then s.slotDone slot St.BAD_CLAUSE 0
      else match s.domain (field (wordAt x.words 1) 2 0) with
        | .off => s.slotDone slot St.DOMAIN_OFF 0
        | .waking => s
        | .ready =>
          let ts := launchTiles (wordAt x.words 1)
          if ts.any (fun t => (s.tile t).role.isSome || !s.tileAllowed x.fn t) then s.slotDone slot St.ROLE_CONFLICT 0
          else if s.accessInFlight ts then s
          else (s.setSlot slot { x with progress := some 0 }).takeTiles slot x ts) := by
  rw [exec_launch, execLaunch, hat]
  dsimp only
  rw [hnew]
  rfl

theorem launchRefused_iff (s : State) (fn : Nat) (ts : List Nat) :
    ts.any (fun t => (s.tile t).role.isSome || !s.tileAllowed fn t) = true ↔
      ∃ t ∈ ts, (s.tile t).role ≠ none ∨ s.tileAllowed fn t = false := by
  simp only [List.any_eq_true, Bool.or_eq_true, Option.isSome_iff_ne_none, Bool.not_eq_true']

theorem exec_launch_refused {s : State} {slot : Nat} {x : Slot} (hat : s.clauseAt slot 1 0 = some x) (hnew : x.progress = none)
    (hgood : launchBad x.words = false) (hdomain : s.domain (field (wordAt x.words 1) 2 0) = .ready)
    (h : ∃ t ∈ launchTiles (wordAt x.words 1), (s.tile t).role ≠ none ∨ s.tileAllowed x.fn t = false) :
    exec (.launch slot) s = .next (s.slotDone slot St.ROLE_CONFLICT 0) := by
  rw [exec_launch_new hat hnew, if_neg (by simp [hgood]), hdomain]
  exact congrArg _ (if_pos ((launchRefused_iff _ _ _).mpr h))

theorem exec_launch_takes {s : State} {slot : Nat} {x : Slot} (hat : s.clauseAt slot 1 0 = some x) (hnew : x.progress = none)
    (hgood : launchBad x.words = false) (hdomain : s.domain (field (wordAt x.words 1) 2 0) = .ready)
    (h : ∀ t ∈ launchTiles (wordAt x.words 1), (s.tile t).role = none ∧ s.tileAllowed x.fn t = true)
    (hquiet : s.accessInFlight (launchTiles (wordAt x.words 1)) = false) : exec (.launch slot) s = .next
      ((s.setSlot slot { x with progress := some 0 }).takeTiles slot x (launchTiles (wordAt x.words 1))) := by
  have hfree : ¬ (launchTiles (wordAt x.words 1)).any (fun t => (s.tile t).role.isSome || !s.tileAllowed x.fn t) = true := by
    rw [launchRefused_iff]
    rintro ⟨t, ht, hrefused⟩
    obtain ⟨hnone, hallowed⟩ := h t ht
    simp [hnone, hallowed] at hrefused
  rw [exec_launch_new hat hnew, if_neg (by simp [hgood]), hdomain]
  exact congrArg _ ((if_neg hfree).trans (if_neg (by simp [hquiet])))

/-! The end of the load (R151, R152, R191). -/

/-- Tile number `acc.2` of a role, tile `n`, started with its program. -/
def startTile (x : Slot) (lead : Nat) (r : Role) (prog : List Byte) (acc : State × Nat) (n : Nat) : State × Nat :=
  (acc.1.setTile n { acc.1.tile n with
    core := launchCore (acc.1.tile n).core r.entry r.words (groupsOf 2 r.words prog)
      (argWords (wordAt x.words 4) (wordAt x.words 5) acc.2 r.tiles.length lead r.gen n) }, acc.2 + 1)

/-- The state in which every tile of a role starts, its tables kept. -/
def State.startRole (s : State) (x : Slot) (lead : Nat) (r : Role) (prog : List Byte) (now : Nat) : State :=
  (r.tiles.foldl (startTile x lead r prog) (s, 0)).1.setRole lead { r with phase := .running, started := now }

theorem tables_startTile (x : Slot) (lead : Nat) (r : Role) (prog : List Byte) (acc : State × Nat) (n m : Nat) :
    ((startTile x lead r prog acc n).1.tile m).tables = (acc.1.tile m).tables := by
  by_cases h : m = n
  · subst h
    rw [startTile, State.tile_setTile_same]
  · rw [startTile, State.tile_setTile_ne _ h]

/-- A sequencer at the launch state of a role (R151 step 5, R196). -/
def Core.launched (r : Role) (c : Core) : Prop :=
  c.run = .running ∧ c.pc = r.entry ∧ c.words = r.words ∧ c.stack = [] ∧ c.wins = [] ∧ c.gregs = []

/-- A role written after steps on its tiles. -/
theorem TilesOnly.setRole {s u : State} (h : TilesOnly s u) (lead : Nat) (r : Role) : u.setRole lead r =
    { s with regs := u.regs, tiles := (u.setRole lead r).tiles, roles := (u.setRole lead r).roles } := by
  rw [show u = _ from h]
  rfl

theorem startRole_leaves (s : State) (x : Slot) (lead : Nat) (r : Role) (prog : List Byte) (now : Nat) :
    let t := s.startRole x lead r prog now
    (∀ n ∈ r.tiles, (t.tile n).core.launched r) ∧ (∀ n, (t.tile n).tables = (s.tile n).tables) ∧
    (∀ n, n ∉ r.tiles → t.tile n = s.tile n) ∧
    Tbl.find? lead t.roles = some { r with phase := .running, started := now } ∧
    t = { s with tiles := t.tiles, roles := t.roles } := by
  obtain ⟨hin, hout, honly⟩ := foldl_tiles (st := Prod.fst) (P := fun y => y.core.launched r) (f := startTile x lead r prog)
    (fun acc n => setTile_tilesOnly _ _ _) (fun acc n m h => State.tile_setTile_ne _ h _)
    (fun acc n => by rw [startTile, State.tile_setTile_same]; exact ⟨rfl, rfl, rfl, rfl, rfl, rfl⟩) r.tiles (s, 0)
  have hregs := foldl_kept (st := Prod.fst) (f := startTile x lead r prog) State.regs (fun _ _ => rfl) r.tiles (s, 0)
  refine ⟨hin, fun m => foldl_kept (st := Prod.fst) (fun t => (t.tile m).tables)
    (fun acc n => tables_startTile x lead r prog acc n m) r.tiles (s, 0), hout, Tbl.find?_set_same _ _ _, (honly.setRole _ _).trans ?_⟩
  rw [hregs]
  rfl

/-- LAUNCH_LOAD_DONE waits while a fault of the role stands at the arbiter. -/
theorem exec_launchLoadDone_fault {s : State} {slot lead : Nat} {env : Env} {x : Slot} {r : Role}
    (hat : s.clauseAt slot 1 0 = some x) (hrole : s.roleOfSlot slot = some (lead, r)) (h : ∃ t ∈ r.tiles, (s.tile t).fault ≠ none) :
    exec (.launchLoadDone slot env) s = .next s := by
  have hany : r.tiles.any (fun t => (s.tile t).fault.isSome) = true := by
    simpa only [List.any_eq_true, Option.isSome_iff_ne_none] using h
  rw [exec_launchLoadDone, execLaunchLoadDone, hat, hrole]
  dsimp only
  rw [if_pos (.inr hany)]

/-- The guard of LAUNCH_LOAD_DONE, for a role that loads and stands at no arbiter. -/
theorem loads_quietly {s : State} {r : Role} (hphase : r.phase = .loading) (h : ∀ t ∈ r.tiles, (s.tile t).fault = none) :
    ¬ (r.phase ≠ .loading ∨ r.tiles.any (fun t => (s.tile t).fault.isSome) = true) := by
  rw [List.any_eq_true]
  rintro (hne | ⟨t, ht, hfault⟩)
  · exact hne hphase
  · rw [h t ht] at hfault
    cases hfault

theorem exec_launchLoadDone_failed {s s1 : State} {slot lead st : Nat} {env : Env} {x : Slot} {r : Role}
    (hat : s.clauseAt slot 1 0 = some x) (hrole : s.roleOfSlot slot = some (lead, r)) (hphase : r.phase = .loading)
    (hquiet : ∀ t ∈ r.tiles, (s.tile t).fault = none)
    (hread : s.readFor env r.fn (wordAt x.words 2) (2 * r.words) = (s1, .fail st)) :
    exec (.launchLoadDone slot env) s = .next ((s1.releaseTiles lead r).slotDone slot st 0) := by
  rw [exec_launchLoadDone, execLaunchLoadDone, hat, hrole]
  dsimp only
  rw [if_neg (loads_quietly hphase hquiet), hread]

theorem exec_launchLoadDone_starts {s s1 : State} {slot lead : Nat} {env : Env} {x : Slot} {r : Role} {prog : List Byte}
    (hat : s.clauseAt slot 1 0 = some x) (hrole : s.roleOfSlot slot = some (lead, r)) (hphase : r.phase = .loading)
    (hquiet : ∀ t ∈ r.tiles, (s.tile t).fault = none)
    (hread : s.readFor env r.fn (wordAt x.words 2) (2 * r.words) = (s1, .ok prog)) (hnoTables : wordAt x.words 6 = 0) :
    exec (.launchLoadDone slot env) s = .next (s1.startRole x lead r prog s.tb.time) := by
  rw [exec_launchLoadDone, execLaunchLoadDone, hat, hrole]
  dsimp only
  rw [if_neg (loads_quietly hphase hquiet), hread]
  dsimp only
  rw [if_pos hnoTables]
  rfl

/-! SEND of the tile launch class (R141, R144, R154). -/

/-- A SEND clause that holds a reserved encoding. -/
def sendBad (ws : List Word) : Prop := bit (wordAt ws 1) 7 = true ∨ field (wordAt ws 1) 63 23 ≠ 0 ∨ zeroFrom ws 3 = false

theorem exec_tileSendClause_bad {s : State} {slot : Nat} {x : Slot} (hat : s.clauseAt slot 1 1 = some x) (h : sendBad x.words) :
    exec (.tileSendClause slot) s = .next (s.slotDone slot St.BAD_CLAUSE 0) := by
  rw [exec_tileSendClause, execTileSendClause, hat]
  dsimp only
  rw [if_pos (by simpa [sendBad] using h)]

theorem exec_tileSendClause_good {s : State} {slot : Nat} {x : Slot} (hat : s.clauseAt slot 1 1 = some x)
    (h : ¬ sendBad x.words) : exec (.tileSendClause slot) s = .next (
      let w := wordAt x.words 1
      if !s.holdsRole (field w 22 16) (field w 6 0) (field w 15 8) then
        (s.inc F.CAL_TILE_CNT_STALE_IN (field w 22 16)).slotDone slot St.STALE_ROLE 0
      else if 16 ≤ (s.tile (field w 22 16)).msgs.length then s
      else (s.pushMsg (field w 22 16) (x.words.getD 2 0)).slotDone slot St.SUCCESS 0) := by
  rw [exec_tileSendClause, execTileSendClause, hat]
  dsimp only
  rw [if_neg (by simpa [sendBad] using h)]

end Sys2Proof.Machine
end

section
/-! The end of a role: ABORT, timeouts, faults and the release of its tiles, and the statement about roles (R143, R153, R155,
R156, R158 to R161). -/

namespace Sys2Proof.Machine

/-! ABORT and LAUNCH_TIMEOUT (R155, R156). -/

/-- A role whose every tile has ended. -/
def State.roleEnded (s : State) (r : Role) : Bool := r.tiles.all (fun t => decide ((s.tile t).core.run = .ended))

theorem roleEnded_iff (s : State) (r : Role) : s.roleEnded r = true ↔ ∀ t ∈ r.tiles, (s.tile t).core.run = .ended := by
  simp only [State.roleEnded, List.all_eq_true, decide_eq_true_eq]

theorem roleEnded_false {s : State} {r : Role} (h : ∃ t ∈ r.tiles, (s.tile t).core.run ≠ .ended) : s.roleEnded r = false := by
  obtain ⟨t, ht, hrun⟩ := h
  rw [Bool.eq_false_iff, Ne, roleEnded_iff]
  exact fun hall => hrun (hall t ht)

/-- ABORT of a lead that holds a role, when it first runs. -/
theorem exec_abort_new {s : State} {slot : Nat} {x : Slot} {r : Role} (hat : s.clauseAt slot 1 2 = some x)
    (hw : wordAt x.words 1 < 2 ^ 16) (h7 : bit (wordAt x.words 1) 7 = false) (hzero : zeroFrom x.words 2 = true)
    (hnew : x.progress = none) (hrole : Tbl.find? (wordAt x.words 1 % 128) s.roles = some r) : exec (.abort slot) s = .next (
      if r.gen ≠ field (wordAt x.words 1) 15 8 ∨ (decide (r.phase = .running) && s.roleEnded r) = true then
        s.slotDone slot St.STALE_ROLE 0
      else (s.setSlot slot { x with progress := some r.slot }).raiseFault (wordAt x.words 1 % 128) ⟨TF.ABORTED, 0, 0, 0, none⟩) := by
  have hgood : ¬ (bit (wordAt x.words 1) 7 = true ∨ field (wordAt x.words 1) 63 16 ≠ 0 ∨ (!zeroFrom x.words 2) = true) := by
    simp [h7, hzero, field_eq_zero hw]
  rw [exec_abort, execAbort, hat]
  dsimp only
  rw [if_neg hgood, hnew, field_low7]
  dsimp only
  rw [hrole]
  rfl

theorem exec_launchTimeout_role {s : State} {lead : Nat} {r : Role} (hrole : Tbl.find? lead s.roles = some r) :
    exec (.launchTimeout lead) s = .next (
      if r.phase = .running ∧ r.timeoutUs ≠ 0 ∧ r.started + r.timeoutUs * 1000 ≤ s.tb.time ∧ (!s.roleEnded r) = true then
        s.raiseFault lead ⟨TF.LAUNCH_TIMEOUT, 0, 0, 0, none⟩
      else s) := by
  rw [exec_launchTimeout, execLaunchTimeout, hrole]
  rfl

/-! TILE_FAULT (R158 to R161). -/

theorem recordFault_tilesOnly (s : State) (t : Nat) (f : FaultRec) : TilesOnly s (s.recordFault t f) :=
  (((((TilesOnly.refl s).setFld _ _ _).setFld _ _ _).setFld _ _ _).setFld _ _ _).setFld _ _ _

theorem tile_recordFault (s : State) (t : Nat) (f : FaultRec) (n : Nat) : (s.recordFault t f).tile n = s.tile n := by
  simp only [State.recordFault, tile_setFld]

theorem stopTile_tilesOnly (s : State) (n : Nat) : TilesOnly s (s.stopTile n) :=
  ((TilesOnly.refl s).setTile _ _).setFld _ _ _

theorem stopTile_other (s : State) {n m : Nat} (h : m ≠ n) : (s.stopTile n).tile m = s.tile m := State.tile_setTile_ne s h _

theorem stopTile_stops (s : State) (n : Nat) : ((s.stopTile n).tile n).core.run ≠ .running := by
  have hrun : ((s.stopTile n).tile n).core.run = if (s.tile n).core.run = .ended then .ended else .stopped :=
    congrArg (fun y : Tile => y.core.run) (State.tile_setTile_same s n _)
  rw [hrun]
  split <;> decide

/-- One tile of a role that the fault `f` of tile `t` stops: the fault recorded, or PEER_FAULT where the tile had not ended. -/
def State.stopByFault (t : Nat) (f : FaultRec) (u : State) (n : Nat) : State :=
  (if n = t then u.recordFault n f
   else if (u.tile n).core.run = .ended then u
   else u.recordFault n ⟨TF.PEER_FAULT, 0, 0, 0, none⟩).stopTile n

/-- What a stop records at a tile changes registers alone. -/
theorem stopRecord_leaves (t : Nat) (f : FaultRec) (u : State) (n : Nat) :
    let v := if n = t then u.recordFault n f
      else if (u.tile n).core.run = .ended then u
      else u.recordFault n ⟨TF.PEER_FAULT, 0, 0, 0, none⟩
    TilesOnly u v ∧ ∀ m, v.tile m = u.tile m := by
  dsimp only
  split
  · exact ⟨recordFault_tilesOnly _ _ _, tile_recordFault _ _ _⟩
  · split
    · exact ⟨TilesOnly.refl u, fun _ => rfl⟩
    · exact ⟨recordFault_tilesOnly _ _ _, tile_recordFault _ _ _⟩

theorem stopRole_eq (s : State) (lead : Nat) (r : Role) (t : Nat) (f : FaultRec) : s.stopRole lead r t f =
    (r.tiles.foldl (State.stopByFault t f) s).setRole lead
      { r with phase := .stopping, report := some (faultReport f t r.gen lead) } := rfl

/-- A stopped role reports its fault, and none of its tiles runs. -/
theorem stopRole_leaves (s : State) (lead : Nat) (r : Role) (t : Nat) (f : FaultRec) : let u := s.stopRole lead r t f
    Tbl.find? lead u.roles = some { r with phase := .stopping, report := some (faultReport f t r.gen lead) } ∧
    (∀ m ∈ r.tiles, (u.tile m).core.run ≠ .running) ∧ (∀ m, m ∉ r.tiles → u.tile m = s.tile m) ∧
    u = { s with regs := u.regs, tiles := u.tiles, roles := u.roles } := by
  rw [stopRole_eq]
  obtain ⟨hin, hout, honly⟩ := foldl_tiles (st := id) (P := fun y => y.core.run ≠ .running) (f := State.stopByFault t f)
    (fun u n => (stopRecord_leaves t f u n).1.trans (stopTile_tilesOnly _ n))
    (fun u n m h => (stopTile_other _ h).trans ((stopRecord_leaves t f u n).2 m)) (fun u n => stopTile_stops _ n) r.tiles s
  exact ⟨Tbl.find?_set_same _ _ _, hin, hout, honly.setRole _ _⟩

theorem exec_tileFault_stopping {s : State} {n lead : Nat} {r : Role} {f : FaultRec} (hrole : s.roleOf n = some r)
    (hlead : (s.tile n).role = some lead) (hfault : (s.tile n).fault = some f) (hphase : r.phase = .stopping) :
    exec (.tileFault n) s = .next ((s.recordFault n f).setTile n { s.tile n with fault := none }) := by
  rw [exec_tileFault, execTileFault, hrole, hlead, hfault]
  dsimp only
  rw [if_pos hphase]

theorem exec_tileFault_stops {s : State} {n lead t : Nat} {r : Role} {f g : FaultRec} (hrole : s.roleOf n = some r)
    (hlead : (s.tile n).role = some lead) (hfault : (s.tile n).fault = some f) (hphase : r.phase ≠ .stopping)
    (hfirst : r.tiles.find? (fun m => (s.tile m).fault.isSome) = some t) (hg : (s.tile t).fault = some g) :
    exec (.tileFault n) s = .next (s.stopRole lead r t g) := by
  rw [exec_tileFault, execTileFault, hrole, hlead, hfault]
  dsimp only
  rw [if_neg hphase, hfirst]
  dsimp only
  rw [hg]

/-! ROLE_RELEASE (R143, R153, R159). -/

/-- None of a role's requests is outstanding, and no fault of its tiles waits. -/
def State.roleQuiet (s : State) (r : Role) : Prop :=
  ∀ t ∈ r.tiles, (s.tile t).cmds = [] ∧ (s.tile t).core.accesses = [] ∧ (s.tile t).fault = none

theorem roleQuiet_iff (s : State) (r : Role) : r.tiles.all (fun t => (s.tile t).cmds.isEmpty && (s.tile t).core.accesses.isEmpty &&
    (s.tile t).fault.isNone) = true ↔ s.roleQuiet r := by
  simp only [State.roleQuiet, List.all_eq_true, Bool.and_eq_true, List.isEmpty_iff, Option.isNone_iff_eq_none, and_assoc]

theorem exec_roleRelease_held {s : State} {lead : Nat} {r : Role} (hrole : Tbl.find? lead s.roles = some r)
    (h : ¬ s.roleQuiet r) : exec (.roleRelease lead) s = .next s := by
  rw [exec_roleRelease, execRoleRelease, hrole]
  dsimp only
  rw [if_pos (by simpa only [Bool.not_eq_true', Bool.eq_false_iff, Ne, roleQuiet_iff] using h)]

/-- The four result words of a role, as its lead tile holds them (R153). -/
def State.resultWords (s : State) (lead : Nat) : Nat :=
  let w (i : Nat) := (Tbl.getD (s.tile lead).core.data (0x0C + i) 0).toNat
  w 0 + w 1 * 2 ^ 16 + w 2 * 2 ^ 32 + w 3 * 2 ^ 48

theorem foldl_shifted16 (f : Nat → Nat) : (List.range 4).foldl (fun a i => a + f i * 2 ^ (16 * i)) 0 =
    f 0 + f 1 * 2 ^ 16 + f 2 * 2 ^ 32 + f 3 * 2 ^ 48 := by
  have hrange : List.range 4 = [0, 1, 2, 3] := rfl
  rw [hrange, List.foldl_cons, List.foldl_cons, List.foldl_cons, List.foldl_cons, List.foldl_nil]
  omega

theorem resultWords_eq_foldl (s : State) (lead : Nat) : (List.range 4).foldl
    (fun a i => a + (Tbl.getD (s.tile lead).core.data (0x0C + i) 0).toNat * 2 ^ (16 * i)) 0 = s.resultWords lead :=
  foldl_shifted16 (fun i => (Tbl.getD (s.tile lead).core.data (0x0C + i) 0).toNat)

section
variable {s : State} {lead : Nat} {r : Role}

theorem not_unquiet (h : s.roleQuiet r) : ¬ (!r.tiles.all (fun t => (s.tile t).cmds.isEmpty &&
    (s.tile t).core.accesses.isEmpty && (s.tile t).fault.isNone)) = true := by
  rw [(roleQuiet_iff s r).mpr h]
  decide

theorem exec_roleRelease_stopped (hrole : Tbl.find? lead s.roles = some r) (h : s.roleQuiet r) (hphase : r.phase = .stopping) :
    exec (.roleRelease lead) s =
      .next ((s.releaseTiles lead r).slotDone r.slot St.TILE_FAULT (r.report.getD 0)) := by
  rw [exec_roleRelease, execRoleRelease, hrole]
  dsimp only
  rw [if_neg (not_unquiet h), hphase]

theorem exec_roleRelease_ended (hrole : Tbl.find? lead s.roles = some r) (h : s.roleQuiet r) (hphase : r.phase = .running)
    (hended : s.roleEnded r = true) : exec (.roleRelease lead) s =
      .next ((s.releaseTiles lead r).slotDone r.slot St.SUCCESS (BitVec.ofNat 64 (s.resultWords lead))) := by
  rw [State.roleEnded] at hended
  rw [exec_roleRelease, execRoleRelease, hrole]
  dsimp only
  rw [if_neg (not_unquiet h), hphase]
  dsimp only
  rw [if_pos hended, resultWords_eq_foldl]

theorem exec_roleRelease_loading (hrole : Tbl.find? lead s.roles = some r) (h : s.roleQuiet r) (hphase : r.phase = .loading) :
    exec (.roleRelease lead) s = .next s := by
  rw [exec_roleRelease, execRoleRelease, hrole]
  dsimp only
  rw [if_neg (not_unquiet h), hphase]

end

/-- Settles O18: each command is followed through its checks; a fold over the tiles of a role leaves each as its step leaves it. -/
theorem rolesAndLaunches : Obligations.RolesAndLaunches := by
  unfold Obligations.RolesAndLaunches
  refine ⟨⟨?_, ?_⟩, ?_, ?_, ?_, ?_, ?_⟩
  · intro s slot x hat hnew ts die
    refine ⟨fun hbad => ?_, fun hgood hoff => ?_, fun hgood hready => ⟨fun hrefused => ?_, fun hfree hquiet => ?_⟩⟩
    · rw [exec_launch_new hat hnew, if_pos hbad]
    · rw [exec_launch_new hat hnew, if_neg (by simp [hgood]), hoff]
    · exact exec_launch_refused hat hnew hgood hready hrefused
    · obtain ⟨hin, hout, hmade, -⟩ := takeTiles_leaves (s.setSlot slot { x with progress := some 0 }) slot x ts
      refine ⟨_, exec_launch_takes hat hnew hgood hready hfree hquiet, hin, hout, ⟨_, hmade, rfl, rfl, rfl, rfl, rfl⟩,
        setSlot_takeTiles_frame _ _ _ _ _⟩
  · intro s slot env x lead r hat hrole hphase
    refine ⟨exec_launchLoadDone_fault hat hrole, fun hquiet => ⟨fun s1 st hread => ?_, fun s1 prog hread hnoTables _ => ?_⟩⟩
    · exact exec_launchLoadDone_failed hat hrole hphase hquiet hread
    · obtain ⟨hin, htables, hout, hrunning, hrest⟩ := startRole_leaves s1 x lead r prog s.tb.time
      refine ⟨_, exec_launchLoadDone_starts hat hrole hphase hquiet hread hnoTables, fun n hn => ?_, hout, hrunning, hrest⟩
      obtain ⟨hrun, hpc, hwords, hstack, hwins, hgregs⟩ := hin n hn
      exact ⟨hrun, hpc, hwords, hstack, hwins, hgregs, htables n⟩
  · intro s slot x hat w target bad
    refine ⟨exec_tileSendClause_bad hat, fun hgood hstale => ?_, fun hgood hholds => ⟨fun hroom => ?_, fun hfull => ?_⟩⟩
    · exact (exec_tileSendClause_good hat hgood).trans (congrArg _ (if_pos (by rw [hstale]; rfl)))
    · exact (exec_tileSendClause_good hat hgood).trans
        (congrArg _ ((if_neg (by rw [hholds]; decide)).trans (if_neg (Nat.not_le.mpr hroom))))
    · exact (exec_tileSendClause_good hat hgood).trans (congrArg _ ((if_neg (by rw [hholds]; decide)).trans (if_pos hfull)))
  · intro s slot x lead r hat hw h7 hzero hnew hlead hrole
    subst hlead
    rw [exec_abort_new hat hw h7 hzero hnew hrole]
    refine ⟨fun hgen hrunning => ?_, fun hgen => by rw [if_pos (.inl hgen)]⟩
    rw [if_neg (by simp [hgen, roleEnded_false hrunning])]
  · intro s lead r hrole hphase htimeout hrunning
    rw [exec_launchTimeout_role hrole]
    refine ⟨fun hdue => ?_, fun hearly => ?_⟩
    · rw [if_pos ⟨hphase, htimeout, hdue, by rw [roleEnded_false hrunning]; rfl⟩]
    · rw [if_neg (fun ⟨_, _, hdue, _⟩ => absurd hdue (Nat.not_le.mpr hearly))]
  · intro s n lead r f t g hrole hlead hfault
    exact ⟨exec_tileFault_stopping hrole hlead hfault, fun hphase hfirst hg =>
      ⟨_, exec_tileFault_stops hrole hlead hfault hphase hfirst hg, stopRole_leaves s lead r t g⟩⟩
  · intro s lead r hrole
    refine ⟨fun ⟨t, ht, hfault⟩ => exec_roleRelease_held hrole (fun hquiet => ?_), fun hquiet =>
      ⟨exec_roleRelease_stopped hrole hquiet,
        fun hphase hended => exec_roleRelease_ended hrole hquiet hphase ((roleEnded_iff s r).mpr hended),
        exec_roleRelease_loading hrole hquiet⟩⟩
    obtain ⟨-, -, hnone⟩ := hquiet t ht
    exact hfault hnone

end Sys2Proof.Machine
end

section
/-! Instructions of one kind of core on the other, and the comparisons and branches (R211, R217, R218, R249, R254). -/

namespace Sys2Proof.Machine

theorem executes_management {s : State} {n : Nat} {op : TOp} {d : TDec} (h : s.executes n op d) (hn : 128 ≤ n) :
    d.mg = true := by
  rw [TDec.mg, executes_core h]
  exact decide_eq_true hn

theorem tileOnly_management {d : TDec} (h : d.mg = true) {α : Type} (x : TR α) :
    d.tileOnly x = .exc TF.ILLEGAL_INSTRUCTION := by rw [TDec.tileOnly, if_pos h]

theorem issueOf_management {d : TDec} (h : d.mg = true) (s : State) (c : Core) (k : Nat) (f : List Half → Core → TX Unit) :
    s.issueOf d c k f = .exc s TF.ILLEGAL_INSTRUCTION := by rw [State.issueOf, tileOnly_management h]

/-- Settles O12: the restriction to tile sequencers answers before the operands or the tag are looked at. -/
theorem taskoManagementCoreHasNoUnits : Obligations.TaskoManagementCoreHasNoUnits := by
  unfold Obligations.TaskoManagementCoreHasNoUnits
  refine fun s n d hn => ⟨fun hex => ?_, fun hex => ?_, fun hex => ?_⟩
  · rw [exec_issue, execIssue, taskoX_executes hex, issueOf_management (executes_management hex hn)]
  · rw [exec_issuex, execIssuex, taskoX_executes hex, issueOf_management (executes_management hex hn)]
  · rw [exec_waitu, execWaitu, taskoX_executes hex, tileOnly_management (executes_management hex hn)]

/-! Comparisons (R211, R254). -/

/-- The entries that a comparison reads, and its core once they are popped and the instruction ends. -/
theorem take_finish {c : Core} {l rest : List TVal} {k : Nat} (h : c.stack = l ++ rest) (hk : l.length = k) (hs : c.settled)
    (pc : Half) : c.take k (fun vs c1 => (c1.finish pc).bind (fun c2 => TR.ok (vs, c2))) =
      .ok (l, (c.withStack rest).endsAt pc) := by
  subst hk
  rw [take_ok c l rest h, finish_settled _ _ ((settled_withStack c rest).mpr hs), TR.bind_ok]

theorem compare_known2 {s : State} {n : Nat} {op : TOp} {d : TDec} {a b : Half} {rest : List TVal} (hex : s.executes n op d)
    (hstack : (s.tcore n).stack = .known a :: .known b :: rest) (hs : (s.tcore n).settled) (o : CmpOp) :
    s.compare n op o 2 =
      .next (s.setTcore n ((((s.tcore n).withStack rest).endsAt d.next).setG d.i.g (.known (o.result b a)))) := by
  rw [State.compare, taskoX_executes hex, take_finish (k := 2) (l := [.known a, .known b]) hstack rfl hs]
  rfl

theorem compare_known1 {s : State} {n : Nat} {op : TOp} {d : TDec} {a : Half} {rest : List TVal} (hex : s.executes n op d)
    (hstack : (s.tcore n).stack = .known a :: rest) (hs : (s.tcore n).settled) (o : CmpOp) :
    s.compare n op o 1 =
      .next (s.setTcore n ((((s.tcore n).withStack rest).endsAt d.next).setG d.i.g (.known (o.result 0 a)))) := by
  rw [State.compare, taskoX_executes hex, take_finish (k := 1) (l := [.known a]) hstack rfl hs]
  rfl

theorem compares_of_holds {mk : Nat → Instr} {op : TOp} {o : CmpOp} {p : Half → Half → Prop}
    (hexec : ∀ n s, exec (mk n) s = s.compare n op o 2) (hp : ∀ b a, o.holds b a = true ↔ p b a) : Compares mk op p :=
  fun s n _ b a _ hex hstack hs => ⟨o.result b a, fun h => if_pos ((hp b a).mpr h), fun h => if_neg (mt (hp b a).mp h),
    (hexec n s).trans (compare_known2 hex hstack hs o)⟩

theorem result_isZero (a b : Half) : CmpOp.isZero.result b a = if a = 0 then 1 else 0 := by
  simp only [CmpOp.result, CmpOp.holds, beq_iff_eq]

/-! Conditional branches on a known register (R218, R247, R249). -/

theorem branch_known {c : Core} {d : TDec} {v : Half} (h : c.greg d.i.g = .known v) (ifZero : Bool) (target : Half) :
    c.branch d ifZero target = .ok { c with pc := if (v == 0) = ifZero then target else d.next } := by
  rw [Core.branch, h]

theorem branchesOn_of_zero {mk : Nat → Instr} {op : TOp} {ifZero : Bool} {p : Half → Prop} {target : TDec → Half}
    (hexec : ∀ n s, exec (mk n) s = s.tasko n op (fun d c => c.branch d ifZero (target d)))
    (hp : ∀ v : Half, (v == 0) = ifZero ↔ p v) : BranchesOn mk op p target := by
  intro s n d v hex hg
  rw [hexec n s, tasko_executes hex, branch_known hg]
  exact ⟨fun h => by rw [if_pos ((hp v).mpr h)], fun h => by rw [if_neg (mt (hp v).mp h)]⟩

/-- Settles O6: each comparison is the shared comparison at its operator, each branch the shared branch at its sense. -/
theorem taskoComparisonsAndBranches : Obligations.TaskoComparisonsAndBranches := by
  unfold Obligations.TaskoComparisonsAndBranches
  have hzero : ∀ v : Half, (v == 0) = true ↔ v = 0 := fun v => beq_iff_eq
  have hnonzero : ∀ v : Half, (v == 0) = false ↔ v ≠ 0 := fun v => beq_eq_false_iff_ne
  refine ⟨?ceq, ?cne, ?cltu, ?cleu, ?clts, ?cles, ?cz, ?bz, ?bzl, ?bnz, ?bnzl⟩
  case ceq => exact compares_of_holds exec_ceq (fun b a => beq_iff_eq)
  case cne => exact compares_of_holds exec_cne (fun b a => bne_iff_ne)
  case cltu => exact compares_of_holds exec_cltu (fun b a => decide_eq_true_iff)
  case cleu => exact compares_of_holds exec_cleu (fun b a => decide_eq_true_iff)
  case clts => exact compares_of_holds exec_clts (fun b a => decide_eq_true_iff)
  case cles => exact compares_of_holds exec_cles (fun b a => decide_eq_true_iff)
  case cz =>
    intro s n d a rest hex hstack hs
    rw [exec_cz, execCz, compare_known1 hex hstack hs, result_isZero]
  case bz => exact branchesOn_of_zero exec_bz hzero
  case bzl => exact branchesOn_of_zero exec_bzl hzero
  case bnz => exact branchesOn_of_zero exec_bnz hnonzero
  case bnzl => exact branchesOn_of_zero exec_bnzl hnonzero

end Sys2Proof.Machine
end

section
/-! Interrupts and exceptions of the cores (R233 to R235, R237 to R240, R250). -/

namespace Sys2Proof.Machine

/-! Interrupt lines (R238). -/

theorem bit_lines (c : Core) (l : Nat) : bit c.lines l = c.lineDue l := by
  rw [Core.lines, Core.lineDue, bit_eq_testBit, bit_eq_testBit, bit_eq_testBit, Nat.testBit_and]

theorem lines_eq_zero_iff (c : Core) : c.lines = 0 ↔ ∀ l, c.lineDue l = false := by
  simp only [← bit_lines, bit_eq_testBit]
  exact ⟨fun h l => by rw [h, Nat.zero_testBit], Nat.zero_of_testBit_eq_false⟩

theorem lines_ne_zero {c : Core} {l : Nat} (h : c.lineDue l = true) : c.lines ≠ 0 := fun hzero => by
  rw [(lines_eq_zero_iff c).mp hzero l] at h
  cases h

theorem firstBelow_of_lowest {n l : Nat} {p : Nat → Bool} (hl : l < n) (hp : p l = true) (hlow : ∀ m < l, p m = false) :
    firstBelow n p = some l :=
  List.find?_range_eq_some.mpr ⟨hp, List.mem_range.mpr hl, fun m hm => by rw [hlow m hm]; rfl⟩

theorem intDue_of_lineDue {s : State} {n l : Nat} (hn : 128 ≤ n) (hgie : (s.tcore n).gie = true)
    (hloading : (s.tcore n).loading = false) (hl : (s.tcore n).lineDue l = true) : s.intDue n = true := by
  simp [State.intDue, hn, hgie, hloading, lines_ne_zero hl]

theorem intDue_false {s : State} {n : Nat}
    (h : (s.tcore n).gie = false ∨ (s.tcore n).loading = true ∨ ∀ l, (s.tcore n).lineDue l = false) : s.intDue n = false := by
  rw [← lines_eq_zero_iff] at h
  rcases h with h | h | h <;> simp [State.intDue, h]

theorem exec_interruptEntry_enters {s : State} {n l : Nat} (hn : 128 ≤ n) (hn' : n < 132) (hrun : (s.tcore n).run = .running)
    (hgie : (s.tcore n).gie = true) (hloading : (s.tcore n).loading = false) (hl : l < 32)
    (hdue : (s.tcore n).lineDue l = true) (hlow : ∀ m < l, (s.tcore n).lineDue m = false) :
    exec (.interruptEntry n) s = .next (s.setTcore n ((s.tcore n).enter
      (if (s.tcore n).waiting then (s.tcore n).pc + 1 else (s.tcore n).pc) (0x20 + l))) := by
  have hfirst : firstBelow 32 (fun i => bit (s.tcore n).lines i) = some l :=
    firstBelow_of_lowest hl ((bit_lines _ _).trans hdue) (fun m hm => (bit_lines _ _).trans (hlow m hm))
  rw [exec_interruptEntry, execInterruptEntry, when, if_pos ⟨hn', intDue_of_lineDue hn hgie hloading hdue, hrun⟩]
  dsimp only
  rw [hfirst]

theorem exec_interruptEntry_none {s : State} {n : Nat} (h : s.intDue n = false) : exec (.interruptEntry n) s = .next s := by
  rw [exec_interruptEntry, execInterruptEntry, when, if_neg (fun ⟨_, hdue, _⟩ => absurd (h.symm.trans hdue) (by decide))]

/-! Instructions of management cores only (R233, R250). -/

theorem mgOnly_management {d : TDec} (h : d.mg = true) {α : Type} (x : TR α) : d.mgOnly x = x := if_pos h

theorem mgOnly_tile {d : TDec} (h : d.mg = false) {α : Type} (x : TR α) : d.mgOnly x = .exc TF.ILLEGAL_INSTRUCTION := by
  rw [TDec.mgOnly, h]
  rfl

/-- An instruction that acts on a management core alone has its effect there. -/
theorem coreBecomes_management {mk : Nat → Instr} {op : TOp} {P : State → TDec → Core → Prop} {f : TDec → Core → Core}
    {act : TDec → Core → TR Core} (hexec : ∀ n s, exec (mk n) s = s.tasko n op (fun d c => d.mgOnly (act d c)))
    (hmg : ∀ s d c, P s d c → 128 ≤ d.core) (hact : ∀ s d c, P s d c → act d c = .ok (f d c)) : CoreBecomes mk op P f := by
  intro s n d hex hP
  rw [hexec n s, tasko_executes hex, mgOnly_management (decide_eq_true (hmg s d _ hP)), hact s d _ hP]

/-! Exceptions (R219, R233, R234, R239, R240). -/

theorem texc_tile {s : State} {n : Nat} (hn : n < 128) (hspecs : (s.tcore n).specs = []) (code : Nat) (pc next : Half) :
    s.texc n code pc next = s.raiseFault n ⟨code, pc, 0, 0, some s.fresh⟩ := by
  simp [State.texc, hn, Core.spec, hspecs]

theorem texc_enters {s : State} {n : Nat} (hn : 128 ≤ n) (hgie : (s.tcore n).gie = true) (code : Nat) (pc next : Half) :
    s.texc n code pc next = s.setTcore n ((s.tcore n).enter (if code = TF.PROGRAM_FAULT then next else pc) code) := by
  rw [State.texc, if_neg (by omega), if_pos hgie]

theorem texc_stops {s : State} {n : Nat} (hn : 128 ≤ n) (hgie : (s.tcore n).gie = false) (code : Nat) (pc next : Half) :
    s.texc n code pc next = s.setTcore n { s.tcore n with run := .stopped } := by
  rw [State.texc, if_neg (by omega), if_neg (by rw [hgie]; decide)]

/-- With interrupts enabled a handler finds GIE's copy set. -/
theorem enter_of_gie {c : Core} (h : c.gie = true) (ret : Half) (v : Nat) : c.enter ret v = { c with
    epc := ret, ecause := BitVec.ofNat 16 v, pgie := true, gie := false, rsv := none, waiting := false, loading := false
    pc := c.ivb + BitVec.ofNat 16 (8 * v) } := by rw [Core.enter, h]

theorem exec_of_mgOnly_tile {mk : Nat → Instr} {op : TOp} {act : TDec → Core → TR Core} {s : State} {n : Nat} {d : TDec}
    (hexec : ∀ n s, exec (mk n) s = s.tasko n op (fun d c => d.mgOnly (act d c))) (hn : n < 128)
    (hspecs : (s.tcore n).specs = []) (hex : s.executes n op d) :
    exec (mk n) s = .next (s.raiseFault n ⟨TF.ILLEGAL_INSTRUCTION, d.pc, 0, 0, some s.fresh⟩) := by
  rw [hexec n s, tasko_executes hex, mgOnly_tile (executes_tile hex hn)]
  exact congrArg _ (texc_tile hn hspecs _ _ _)

theorem exec_faultInstr_raises {s : State} {n : Nat} {d : TDec} (hex : s.executes n .fault d)
    (hspecs : (s.tcore n).specs = []) : exec (.faultInstr n) s = .next (s.texc n TF.PROGRAM_FAULT d.pc d.next) := by
  rw [exec_faultInstr, execFaultInstr, tasko_executes hex, nonSpec_nil hspecs]

theorem exec_undefinedInstruction_raises {s : State} {n : Nat} (h : s.tfetch n = some none) :
    exec (.undefinedInstruction n) s = .next (s.texc n TF.ILLEGAL_INSTRUCTION (s.tcore n).pc (s.tcore n).pc) := by
  rw [exec_undefinedInstruction, execUndefinedInstruction, h]

theorem raiseFault_first {s : State} {n : Nat} (f : FaultRec) (h : (s.tile n).fault = none) : s.raiseFault n f =
    s.setTile n { s.tile n with fault := some f, core := { (s.tile n).core with run := .stopped } } := by
  rw [State.raiseFault, h]
  rfl

/-- Of two faults that stand together, the first in program order is kept (R235). -/
theorem raiseFault_second {s : State} {n i j : Nat} {f g : FaultRec} (h : (s.tile n).fault = some g) (hg : g.order = some i)
    (hf : f.order = some j) : s.raiseFault n f = s.setTile n { s.tile n with
      fault := some (if j < i then f else g), core := { (s.tile n).core with run := .stopped } } := by
  have hfirst : g.first f = if j < i then f else g := by rw [FaultRec.first, hg, hf]
  rw [State.raiseFault, h, Option.map_some, Option.getD_some, hfirst]

/-- Settles O13: the instructions of management cores, the lowest line that is due, and the exceptions of each kind of core. -/
theorem taskoInterruptsAndExceptions : Obligations.TaskoInterruptsAndExceptions := by
  unfold Obligations.TaskoInterruptsAndExceptions
  refine ⟨⟨?ei, ?di, ?reti, ?waitiDue, ?waitiNone, ?illegal⟩, ⟨?pulse, ?entry, ?noEntry⟩,
    ?faultManagement, ?faultTile, ?undefined, ?firstFault, ?secondFault⟩
  case ei => exact coreBecomes_management exec_ei (fun _ _ _ h => h) (fun _ _ _ _ => rfl)
  case di => exact coreBecomes_management exec_di (fun _ _ _ h => h) (fun _ _ _ _ => rfl)
  case reti => exact coreBecomes_management exec_reti (fun _ _ _ h => h) (fun _ _ _ _ => rfl)
  case waitiDue =>
    exact coreBecomes_management exec_waiti (fun _ _ _ h => h.1) (fun _ _ _ ⟨_, l, _, hdue⟩ => if_pos (lines_ne_zero hdue))
  case waitiNone =>
    exact coreBecomes_management exec_waiti (fun _ _ _ h => h.1) (fun _ _ _ ⟨_, hlines⟩ => if_neg (not_not_intro hlines))
  case illegal =>
    intro s n d hn hspecs
    exact ⟨exec_of_mgOnly_tile exec_ei hn hspecs, exec_of_mgOnly_tile exec_di hn hspecs,
      exec_of_mgOnly_tile exec_reti hn hspecs, exec_of_mgOnly_tile exec_waiti hn hspecs⟩
  case pulse =>
    intro s n l hn hn' hl
    rw [exec_interruptLinePulse, execInterruptLinePulse, when, if_pos ⟨hn, hn', hl⟩]
  case entry =>
    intro s n l hn hn' hrun hgie hloading hl hdue hlow
    rw [exec_interruptEntry_enters hn hn' hrun hgie hloading hl hdue hlow, enter_of_gie hgie]
  case noEntry => exact fun s n _ h => exec_interruptEntry_none (intDue_false h)
  case faultManagement =>
    intro s n d hn hex hspecs
    rw [exec_faultInstr_raises hex hspecs]
    exact ⟨fun hgie => by rw [texc_enters hn hgie, enter_of_gie hgie, if_pos rfl]; rfl,
      fun hgie => by rw [texc_stops hn hgie]⟩
  case faultTile =>
    intro s n d hn hex hspecs
    rw [exec_faultInstr_raises hex hspecs, texc_tile hn hspecs]
  case undefined =>
    intro s n hfetch
    rw [exec_undefinedInstruction_raises hfetch]
    exact ⟨fun hn hgie => by rw [texc_enters hn hgie, enter_of_gie hgie, ite_self]; rfl,
      fun hn hgie => by rw [texc_stops hn hgie], fun hn hspecs => by rw [texc_tile hn hspecs]⟩
  case firstFault => exact fun s n f => raiseFault_first f
  case secondFault => exact fun s n f g i j => raiseFault_second

end Sys2Proof.Machine
end

section
/-! One step, and the end, of the block-repeat instructions with both spaces in data space (R224 to R226, R263). -/

namespace Sys2Proof.Machine

/-! A core of the state replaced. -/

@[simp] theorem tcore_setTcore_same (s : State) (n : Nat) (c : Core) : (s.setTcore n c).tcore n = c := by
  by_cases hn : n < 128 <;> simp [State.tcore, State.setTcore, hn]

theorem tile_setTcore_core (s : State) (n m : Nat) (c e : Core) :
    { (s.setTcore n c).tile m with core := e } = { s.tile m with core := e } := by
  by_cases hn : n < 128
  · rw [State.setTcore, if_pos hn]
    by_cases hm : m = n
    · rw [hm, State.tile_setTile_same]
    · rw [State.tile_setTile_ne _ hm]
  · rw [State.setTcore, if_neg hn]
    rfl

theorem tcore_setTcore_ne (s : State) {n m : Nat} (h : m ≠ n) (c : Core) : (s.setTcore n c).tcore m = s.tcore m := by
  by_cases hn : n < 128
  · rw [State.setTcore, if_pos hn, State.tcore, State.tcore, State.tile_setTile_ne _ h]
    rfl
  · rw [State.setTcore, if_neg hn, State.tcore, State.tcore]
    split
    · rfl
    · exact mcore_setMcore_ne s (by omega) c

theorem setTcore_frame (s : State) (n : Nat) (c : Core) :
    s.setTcore n c = { s with tiles := (s.setTcore n c).tiles, mcores := (s.setTcore n c).mcores } := by
  rw [State.setTcore]
  split <;> rfl

theorem onlyCore_refl (s : State) (n : Nat) : OnlyCore s s n (s.tcore n) := ⟨rfl, fun _ _ => rfl, fun _ => rfl, rfl⟩

/-- A core replaced again leaves the others as they were. -/
theorem OnlyCore.setTcore {s t : State} {n : Nat} {c : Core} (h : OnlyCore s t n c) (e : Core) :
    OnlyCore s (t.setTcore n e) n e := by
  obtain ⟨-, hcores, htiles, hframe⟩ := h
  refine ⟨tcore_setTcore_same t n e, fun m hm => (tcore_setTcore_ne t hm e).trans (hcores m hm),
    fun m => (tile_setTcore_core t n m e _).trans (htiles m), ?_⟩
  rw [setTcore_frame t n e, hframe]

/-! The registers of a block-repeat instruction (R224, R225). -/

/-- Flags that put both spaces in data space, with no reserved bit. -/
structure DataFlags (fl : Half) : Prop where
  source : field fl.toNat 4 0 = 0
  destination : field fl.toNat 9 5 = 0
  reserved : field fl.toNat 15 12 = 0

theorem dataFlags_up : DataFlags 0 := ⟨by decide, by decide, by decide⟩
theorem dataFlags_down : DataFlags 0x400 := ⟨by decide, by decide, by decide⟩
theorem dataFlags_unpack : DataFlags 0x800 := ⟨by decide, by decide, by decide⟩

/-- Core `n` executes a block-repeat instruction in data space, with no branch unresolved. -/
structure RepeatsData (s : State) (n : Nat) (op : TOp) (d : TDec) (src dst k fl : Half) : Prop where
  runs : s.executes n op d
  specs : (s.tcore n).specs = []
  regs : (s.tcore n).repeats src dst k fl
  flags : DataFlags fl

section
variable {c : Core} {src dst k fl : Half}

theorem gval_known {g : Nat} {v : Half} (h : c.greg g = .known v) : c.gval g = v := by rw [Core.gval, h]

theorem repeats_src : c.repeats src dst k fl → c.gval 12 = src := fun ⟨h, _, _, _⟩ => gval_known h
theorem repeats_dst : c.repeats src dst k fl → c.gval 13 = dst := fun ⟨_, h, _, _⟩ => gval_known h
theorem repeats_count : c.repeats src dst k fl → c.gval 14 = k := fun ⟨_, _, h, _⟩ => gval_known h
theorem repeats_flags : c.repeats src dst k fl → c.gval 15 = fl := fun ⟨_, _, _, h⟩ => gval_known h

theorem knownAll_repeats (h : c.repeats src dst k fl) :
    knownAll [c.greg 12, c.greg 13, c.greg 14, c.greg 15] = some [src, dst, k, fl] := by
  obtain ⟨hsrc, hdst, hcount, hflags⟩ := h
  rw [hsrc, hdst, hcount, hflags]
  rfl

theorem repeats_putData (h : c.repeats src dst k fl) (a v : Half) : (c.putData a v).repeats src dst k fl := h

theorem repeats_sspace (h : c.repeats src dst k fl) (hfl : DataFlags fl) : sspace c = 0 := by
  rw [sspace, repeats_flags h, hfl.source]

theorem repeats_dspace (h : c.repeats src dst k fl) (hfl : DataFlags fl) : dspace c = 0 := by
  rw [dspace, repeats_flags h, hfl.destination]

theorem repeats_unpk (h : c.repeats src dst k fl) : brUnpk c = bit fl.toNat 11 := by rw [brUnpk, repeats_flags h]

theorem brOk_data (h : c.repeats src dst k fl) (hfl : DataFlags fl) {unpk : Bool}
    (hunpk : unpk = true ∨ bit fl.toNat 11 = false) (mg useS useD : Bool) : brOk mg c useS useD unpk = true := by
  have hpack : (unpk || !brUnpk c) = true := by
    rw [repeats_unpk h]
    rcases hunpk with hu | hu <;> simp [hu]
  have hspace : ∀ use : Bool, (if use then spaceOk mg 0 else (0 : Nat) == 0) = true := by
    intro use
    cases use <;> rfl
  rw [brOk, repeats_flags h, hfl.reserved, hpack, repeats_sspace h hfl, repeats_dspace h hfl, hspace, hspace]
  rfl

theorem brMove_up (h : c.repeats src dst k fl) (hdec : bit fl.toNat 10 = false) (a : Half) (i : Nat) :
    brMove c a i = a + BitVec.ofNat 16 i := by
  rw [brMove, brDec, repeats_flags h, hdec]
  rfl

theorem brMove_down (h : c.repeats src dst k fl) (hdec : bit fl.toNat 10 = true) (a : Half) (i : Nat) :
    brMove c a i = a - BitVec.ofNat 16 i := by
  rw [brMove, brDec, repeats_flags h, hdec]
  rfl

theorem advance_eq_withRepeat (h : c.repeats src dst k fl) (i j m : Nat) :
    c.advance i j m = c.withRepeat (brMove c src i) (brMove c dst j) (k - BitVec.ofNat 16 m) := by
  rw [Core.advance, repeats_src h, repeats_dst h, repeats_count h]
  rfl

theorem withRepeat_count (c : Core) (src dst k : Half) : (c.withRepeat src dst k).gval 14 = k :=
  gval_known (Tbl.getD_put_same _ _ _ _)

end

/-! Words of data space read and written by a step. -/

theorem TX.bind_ok {α β : Type} (t : State) (a : α) (f : State → α → TX β) : (TX.ok t a).bind f = f t a := rfl

theorem brRead_data (s : State) (env : Env) (n : Nat) (a : Half) : s.brRead env n 0 a = .ok s ((s.tcore n).dataAt a) := rfl

theorem brWrite_data (s : State) (n : Nat) (a v : Half) :
    s.brWrite n 0 a v = .ok (s.setTcore n ((s.tcore n).putData a v)) () := rfl

theorem brMayWrite_data (s : State) (n : Nat) (a : Half) : s.brMayWrite n 0 a = .ok s () := rfl

/-- The core with no window access of its instruction in progress (R238). -/
def Core.idle (c : Core) : Core := { c with loading := false }

/-- A step of a block-repeat instruction at `s` that goes on, and leaves core `n` as `c` and no window access in progress. -/
def Advances (s : State) (n : Nat) (r : TX Bool) (c : Core) : Prop := ∃ t, r = .ok t false ∧ OnlyCore s t n c.idle

/-- Command `i` at `s` leaves core `n` as `c` with no window access in progress, and changes nothing else. -/
def LeavesCore (i : Instr) (s : State) (n : Nat) (c : Core) : Prop := Leads i s (fun t => OnlyCore s t n c.idle)

theorem brNext_advances {s t : State} {n : Nat} {c : Core} {src dst k fl : Half} (ht : OnlyCore s t n c)
    (h : c.repeats src dst k fl) (i j m : Nat) : Advances s n (t.brNext n i j m)
      (c.withRepeat (brMove c src i) (brMove c dst j) (k - BitVec.ofNat 16 m)) := by
  refine ⟨_, rfl, ?_⟩
  rw [ht.1, advance_eq_withRepeat h]
  exact ht.setTcore _

theorem brNext_advances_up {s t : State} {n : Nat} {c : Core} {src dst k fl : Half} (ht : OnlyCore s t n c)
    (h : c.repeats src dst k fl) (hdec : bit fl.toNat 10 = false) (i j m : Nat) : Advances s n (t.brNext n i j m)
      (c.withRepeat (src + BitVec.ofNat 16 i) (dst + BitVec.ofNat 16 j) (k - BitVec.ofNat 16 m)) := by
  rw [← brMove_up h hdec, ← brMove_up h hdec]
  exact brNext_advances ht h i j m

/-! One step of the loop, and its end. -/

section
variable {s : State} {n : Nat} {op : TOp} {d : TDec} {src dst k fl : Half} {vs : List Half} {rest : List TVal}
variable {useS useD unpk : Bool} {step : List Half → State → TX Bool}

theorem brLoop_empty {f : State → TX Bool} (h : (s.tcore n).gval 14 = 0) (steps : Nat) : brLoop n f (steps + 1) s = .ok s true :=
  if_pos h

theorem brLoop_stop {f : State → TX Bool} (h : (s.tcore n).gval 14 ≠ 0) (hf : f s = .ok s true) (steps : Nat) :
    brLoop n f (steps + 1) s = .ok s true := by rw [brLoop, if_neg h, hf]

theorem brLoop_one {f : State → TX Bool} {t : State} (h : (s.tcore n).gval 14 ≠ 0) (hf : f s = .ok t false)
    (ht : (t.tcore n).gval 14 ≠ 0) : brLoop n f 1 s = .ok t false := by
  rw [brLoop, if_neg h, hf]
  exact congrArg (TX.ok t) (decide_eq_false ht)

/-- A block-repeat instruction whose registers and operands are known answers what its loop and its end leave. -/
theorem blockRepeat_of_loop {u : State} {steps : Nat} (h : RepeatsData s n op d src dst k fl)
    (hunpk : unpk = true ∨ bit fl.toNat 11 = false) (hstack : (s.tcore n).stack = vs.map .known ++ rest)
    (hloop : (brLoop n (step vs) steps s).bind (fun t fin =>
      if fin then TR.on t n ((t.tcore n).take vs.length (fun _ c1 => { c1 with loading := false }.finish d.next))
      else .ok t ()) = .ok u ()) :
    s.blockRepeat op n steps vs.length useS useD unpk step = .next u := by
  have hspec : ¬ (s.tcore n).spec = true := by rw [Core.spec, h.specs]; decide
  have hok : ¬ (!brOk d.mg (s.tcore n) useS useD unpk) = true := by rw [brOk_data h.regs h.flags hunpk]; decide
  rw [State.blockRepeat, taskoX_executes h.runs, knownAll_repeats h.regs]
  dsimp only
  rw [if_neg hspec, if_neg hok, pop_ok _ vs rest hstack]
  dsimp only
  rw [hloop]

/-- A step that leaves words to do leaves the pc and the stack. -/
theorem blockRepeat_goesOn {i : Instr} {c : Core} {src' dst' k' : Half}
    (hexec : exec i s = s.blockRepeat op n 1 vs.length useS useD unpk step)
    (h : RepeatsData s n op d src dst k fl)
    (hunpk : unpk = true ∨ bit fl.toNat 11 = false) (hstack : (s.tcore n).stack = vs.map .known ++ rest) (hk : k ≠ 0)
    (hk' : k' ≠ 0) (hstep : Advances s n (step vs s) (c.withRepeat src' dst' k')) :
    LeavesCore i s n (c.withRepeat src' dst' k') := by
  obtain ⟨t, hstep, ht⟩ := hstep
  have hleft : (t.tcore n).gval 14 ≠ 0 := by
    rw [ht.1]
    exact (withRepeat_count c src' dst' k').trans_ne hk'
  refine ⟨t, hexec.trans (blockRepeat_of_loop h hunpk hstack ?_), ht⟩
  rw [brLoop_one ((repeats_count h.regs).trans_ne hk) hstep hleft]
  rfl

theorem refill_idle (m : Nat) (c : Core) : Core.refill m c.idle = (Core.refill m c).idle := by
  induction m generalizing c with
  | zero => rfl
  | succ m ih =>
    by_cases hroom : c.stack.length < 16 ∧ c.sp ≠ c.sb
    · rw [Core.refill, Core.refill, if_pos hroom, if_pos (c := c.idle.stack.length < 16 ∧ c.idle.sp ≠ c.idle.sb) hroom]
      exact ih { c with stack := c.stack ++ [.known (c.dataAt c.sp)], sp := c.sp + 1 }
    · rw [refill_full _ c hroom, refill_full _ c.idle hroom]

theorem endsAt_idle (c : Core) (pc : Half) : c.idle.endsAt pc = (c.endsAt pc).idle := by
  rw [Core.endsAt, refill_idle]
  rfl

/-- An instruction whose COUNT is zero, or whose stop condition holds, pops its operands and ends. -/
theorem blockRepeat_ends {i : Instr} (hexec : exec i s = s.blockRepeat op n 1 vs.length useS useD unpk step)
    (h : RepeatsData s n op d src dst k fl) (hunpk : unpk = true ∨ bit fl.toNat 11 = false)
    (hstack : (s.tcore n).stack = vs.map .known ++ rest) (hfin : k = 0 ∨ step vs s = .ok s true) :
    LeavesCore i s n (((s.tcore n).withStack rest).endsAt d.next) := by
  have hcount := repeats_count h.regs
  have hloop : brLoop n (step vs) 1 s = .ok s true := by
    by_cases hk : k = 0
    · exact brLoop_empty (hcount.trans hk) 0
    · exact brLoop_stop (hcount.trans_ne hk) (hfin.resolve_left hk) 0
  have htake := take_ok (s.tcore n) (vs.map .known) rest hstack (fun _ c1 => c1.idle.finish d.next)
  rw [List.length_map, finish_settled ((s.tcore n).withStack rest).idle _ (.inl h.specs), endsAt_idle] at htake
  refine ⟨_, hexec.trans (blockRepeat_of_loop h hunpk hstack ?_), (onlyCore_refl s n).setTcore _⟩
  rw [hloop, TX.bind_ok, if_pos rfl]
  exact congrArg (TR.on s n) htake

end

/-! The instructions (R225). -/

section
variable {s : State} {n : Nat} {d : TDec} {src dst k fl : Half} (env : Env)

theorem movw_goesOn (h : RepeatsData s n .movw d src dst k fl) (hunpk : bit fl.toNat 11 = false) (hk : 2 ≤ k.toNat) :
    LeavesCore (.movw n 1 env) s n (((s.tcore n).putData dst ((s.tcore n).dataAt src)).withRepeat
      (brMove (s.tcore n) src 1) (brMove (s.tcore n) dst 1) (k - 1)) := by
  refine blockRepeat_goesOn (vs := []) (exec_movw ..) h (.inr hunpk) rfl (by bv_omega) (by bv_omega) ?_
  simp only [repeats_sspace h.regs h.flags, repeats_dspace h.regs h.flags, repeats_src h.regs, repeats_dst h.regs,
    brRead_data, brWrite_data, TX.bind_ok]
  exact brNext_advances ((onlyCore_refl s n).setTcore _) (repeats_putData h.regs _ _) 1 1 1

theorem movw_ends (h : RepeatsData s n .movw d src dst 0 0) :
    LeavesCore (.movw n 1 env) s n ((s.tcore n).endsAt d.next) :=
  blockRepeat_ends (vs := []) (rest := (s.tcore n).stack) (exec_movw ..) h (.inr (by decide)) rfl (.inl rfl)

theorem fillw_goesOn {p : Half} {rest : List TVal} (h : RepeatsData s n .fillw d src dst k 0)
    (hstack : (s.tcore n).stack = .known p :: rest) (hk : 2 ≤ k.toNat) :
    LeavesCore (.fillw n 1 env) s n (((s.tcore n).putData dst p).withRepeat src (dst + 1) (k - 1)) := by
  refine blockRepeat_goesOn (vs := [p]) (exec_fillw ..) h (.inr (by decide)) hstack (by bv_omega) (by bv_omega) ?_
  simp only [repeats_dspace h.regs h.flags, repeats_dst h.regs, brWrite_data, TX.bind_ok]
  have hnext := brNext_advances_up ((onlyCore_refl s n).setTcore _) (repeats_putData h.regs dst p) (by decide) 0 1 1
  rwa [BitVec.add_zero] at hnext

theorem fillw_ends {p : Half} {rest : List TVal} (h : RepeatsData s n .fillw d src dst 0 0)
    (hstack : (s.tcore n).stack = .known p :: rest) :
    LeavesCore (.fillw n 1 env) s n (((s.tcore n).withStack rest).endsAt d.next) :=
  blockRepeat_ends (vs := [p]) (exec_fillw ..) h (.inr (by decide)) hstack (.inl rfl)

theorem cmpw_goesOn (h : RepeatsData s n .cmpw d src dst k 0) (heq : (s.tcore n).dataAt src = (s.tcore n).dataAt dst)
    (hk : 2 ≤ k.toNat) :
    LeavesCore (.cmpw n 1 env) s n ((s.tcore n).withRepeat (src + 1) (dst + 1) (k - 1)) := by
  refine blockRepeat_goesOn (vs := []) (exec_cmpw ..) h (.inr (by decide)) rfl (by bv_omega) (by bv_omega) ?_
  simp only [repeats_sspace h.regs h.flags, repeats_dspace h.regs h.flags, repeats_src h.regs, repeats_dst h.regs,
    brRead_data, TX.bind_ok, if_pos heq]
  exact brNext_advances_up (onlyCore_refl s n) h.regs (by decide) 1 1 1

theorem cmpw_ends (h : RepeatsData s n .cmpw d src dst k 0)
    (hfin : k = 0 ∨ (s.tcore n).dataAt src ≠ (s.tcore n).dataAt dst) :
    LeavesCore (.cmpw n 1 env) s n ((s.tcore n).endsAt d.next) := by
  refine blockRepeat_ends (vs := []) (rest := (s.tcore n).stack) (exec_cmpw ..) h (.inr (by decide)) rfl
    (hfin.imp_right fun hne => ?_)
  simp only [repeats_sspace h.regs h.flags, repeats_dspace h.regs h.flags, repeats_src h.regs, repeats_dst h.regs,
    brRead_data, TX.bind_ok, if_neg hne]

theorem scanw_goesOn {key m : Half} {rest : List TVal} (h : RepeatsData s n .scanw d src dst k 0)
    (hstack : (s.tcore n).stack = .known key :: .known m :: rest) (hne : (s.tcore n).dataAt src &&& m ≠ key &&& m)
    (hk : 2 ≤ k.toNat) :
    LeavesCore (.scanw n 1 env) s n ((s.tcore n).withRepeat (src + 1) dst (k - 1)) := by
  refine blockRepeat_goesOn (vs := [key, m]) (exec_scanw ..) h (.inr (by decide)) hstack (by bv_omega) (by bv_omega) ?_
  simp only [repeats_sspace h.regs h.flags, repeats_src h.regs, brRead_data, TX.bind_ok, List.getD_cons_zero,
    List.getD_cons_succ, if_neg hne]
  have hnext := brNext_advances_up (onlyCore_refl s n) h.regs (by decide) 1 0 1
  rwa [BitVec.add_zero] at hnext

theorem scanw_ends {key m : Half} {rest : List TVal} (h : RepeatsData s n .scanw d src dst k 0)
    (hstack : (s.tcore n).stack = .known key :: .known m :: rest)
    (hfin : k = 0 ∨ (s.tcore n).dataAt src &&& m = key &&& m) :
    LeavesCore (.scanw n 1 env) s n (((s.tcore n).withStack rest).endsAt d.next) := by
  refine blockRepeat_ends (vs := [key, m]) (exec_scanw ..) h (.inr (by decide)) hstack (hfin.imp_right fun heq => ?_)
  simp only [repeats_sspace h.regs h.flags, repeats_src h.regs, brRead_data, TX.bind_ok, List.getD_cons_zero,
    List.getD_cons_succ, if_pos heq]

theorem packStep_advances {op : TOp} (h : RepeatsData s n op d src dst k 0) (hk : k ≠ 1) :
    Advances s n (s.packStep env n) (((s.tcore n).putData dst (((s.tcore n).dataAt src &&& 0xFF) +
      ((s.tcore n).dataAt (src + 1) &&& 0xFF) <<< 8)).withRepeat (src + 2) (dst + 1) (k - 2)) := by
  simp only [State.packStep, repeats_sspace h.regs h.flags, repeats_dspace h.regs h.flags, repeats_src h.regs,
    repeats_dst h.regs, repeats_count h.regs, brRead_data, brWrite_data, TX.bind_ok, if_neg hk,
    brMove_up h.regs (by decide : bit (0 : Half).toNat 10 = false)]
  exact brNext_advances_up ((onlyCore_refl s n).setTcore _) (repeats_putData h.regs _ _) (by decide) 2 1 2

theorem unpackStep_advances {op : TOp} (h : RepeatsData s n op d src dst k 0x800) (hk : k ≠ 1) :
    Advances s n (s.unpackStep env n) ((((s.tcore n).putData dst ((s.tcore n).dataAt src &&& 0xFF)).putData (dst + 1)
      ((s.tcore n).dataAt src >>> 8)).withRepeat (src + 1) (dst + 2) (k - 2)) := by
  simp only [State.unpackStep, repeats_sspace h.regs h.flags, repeats_dspace h.regs h.flags, repeats_src h.regs,
    repeats_dst h.regs, repeats_count h.regs, brRead_data, brWrite_data, brMayWrite_data, TX.bind_ok, if_neg hk,
    tcore_setTcore_same, brMove_up h.regs (by decide : bit (0x800 : Half).toNat 10 = false)]
  exact brNext_advances_up (((onlyCore_refl s n).setTcore _).setTcore _)
    (repeats_putData (repeats_putData h.regs _ _) _ _) (by decide) 1 2 2

theorem packw_goesOn (h : RepeatsData s n .packw d src dst k 0) (hk : 3 ≤ k.toNat) :
    LeavesCore (.packw n 1 env) s n (((s.tcore n).putData dst (((s.tcore n).dataAt src &&& 0xFF) +
      ((s.tcore n).dataAt (src + 1) &&& 0xFF) <<< 8)).withRepeat (src + 2) (dst + 1) (k - 2)) := by
  refine blockRepeat_goesOn (vs := []) (exec_packw ..) h (.inl rfl) rfl (by bv_omega) (by bv_omega) ?_
  have hpack : ¬ brUnpk (s.tcore n) = true := by rw [repeats_unpk h.regs]; decide
  rw [if_neg hpack]
  exact packStep_advances env h (by bv_omega)

theorem packw_unpacks (h : RepeatsData s n .packw d src dst k 0x800) (hk : 3 ≤ k.toNat) :
    LeavesCore (.packw n 1 env) s n ((((s.tcore n).putData dst ((s.tcore n).dataAt src &&& 0xFF)).putData
      (dst + 1) ((s.tcore n).dataAt src >>> 8)).withRepeat (src + 1) (dst + 2) (k - 2)) := by
  refine blockRepeat_goesOn (vs := []) (exec_packw ..) h (.inl rfl) rfl (by bv_omega) (by bv_omega) ?_
  have hunpack : brUnpk (s.tcore n) = true := by rw [repeats_unpk h.regs]; decide
  rw [if_pos hunpack]
  exact unpackStep_advances env h (by bv_omega)

theorem packw_ends (h : RepeatsData s n .packw d src dst 0 0) :
    LeavesCore (.packw n 1 env) s n ((s.tcore n).endsAt d.next) :=
  blockRepeat_ends (vs := []) (rest := (s.tcore n).stack) (exec_packw ..) h (.inl rfl) rfl (.inl rfl)

end

/-- Settles O14: each step reads and writes data space as its lemma says; the loop's end pops the operands. -/
theorem taskoBlockRepeat : Obligations.TaskoBlockRepeat := by
  unfold Obligations.TaskoBlockRepeat
  intro s n d env src dst k hspecs c one
  refine ⟨fun hk hrep => ⟨fun hex => ?movw, fun p rest hex hstack => ?fillw, fun hex heq => ?cmpw,
      fun key m rest hex hstack hne => ?scanw⟩, fun hk hrep hex => ?movwDown, fun hk hrep hex => ?packw,
    fun hk hrep hex => ?unpack, fun hrep => ⟨fun hex => ?movwEnd, fun hex => ?cmpwEnd, fun hex => ?packwEnd,
      fun p rest hex hstack => ?fillwEnd, fun key m rest hex hstack => ?scanwEnd⟩,
    fun hk hrep => ⟨fun hex hne => ?cmpwStop, fun key m rest hex hstack heq => ?scanwStop⟩⟩
  case movw =>
    have hstep := movw_goesOn env ⟨hex, hspecs, hrep, dataFlags_up⟩ (by decide) hk
    rwa [brMove_up hrep (by decide), brMove_up hrep (by decide)] at hstep
  case movwDown =>
    have hstep := movw_goesOn env ⟨hex, hspecs, hrep, dataFlags_down⟩ (by decide) hk
    rwa [brMove_down hrep (by decide), brMove_down hrep (by decide)] at hstep
  case fillw => exact fillw_goesOn env ⟨hex, hspecs, hrep, dataFlags_up⟩ hstack hk
  case cmpw => exact cmpw_goesOn env ⟨hex, hspecs, hrep, dataFlags_up⟩ heq hk
  case scanw => exact scanw_goesOn env ⟨hex, hspecs, hrep, dataFlags_up⟩ hstack hne hk
  case packw => exact packw_goesOn env ⟨hex, hspecs, hrep, dataFlags_up⟩ hk
  case unpack => exact packw_unpacks env ⟨hex, hspecs, hrep, dataFlags_unpack⟩ hk
  case movwEnd => exact movw_ends env ⟨hex, hspecs, hrep, dataFlags_up⟩
  case packwEnd => exact packw_ends env ⟨hex, hspecs, hrep, dataFlags_up⟩
  case fillwEnd => exact fillw_ends env ⟨hex, hspecs, hrep, dataFlags_up⟩ hstack
  case cmpwEnd => exact cmpw_ends env ⟨hex, hspecs, hrep, dataFlags_up⟩ (.inl rfl)
  case scanwEnd => exact scanw_ends env ⟨hex, hspecs, hrep, dataFlags_up⟩ hstack (.inl rfl)
  case cmpwStop => exact cmpw_ends env ⟨hex, hspecs, hrep, dataFlags_up⟩ (.inr hne)
  case scanwStop => exact scanw_ends env ⟨hex, hspecs, hrep, dataFlags_up⟩ hstack (.inr heq)

end Sys2Proof.Machine
end

section
/-! The formats of the Tasko instruction words (R241, R264): decoding and encoding meet in them. -/

namespace Sys2Proof.Machine

/-! Numbers in the fields of a word. -/

theorem field_eq_div_mod (x hi lo : Nat) : field x hi lo = x / 2 ^ lo % 2 ^ (hi + 1 - lo) := by
  rw [field, Nat.shiftRight_eq_div_pow]

theorem bit_eq_div_mod (x k : Nat) : bit x k = (x / 2 ^ k % 2 == 1) := by rw [bit, Nat.shiftRight_eq_div_pow]

/-- The displacement fields of an instruction word have 8 or 12 bits; a number in one comes back from its sign extension. -/
theorem sext_toNat {k n : Nat} (hk : k = 8 ∨ k = 12) (hn : n < 2 ^ k) : (sext k n).toNat % 2 ^ k = n := by
  rcases hk with rfl | rfl <;> simp only [sext, signed, BitVec.toNat_ofInt] <;> split <;> omega

theorem sext_range {k n : Nat} (hk : k = 8 ∨ k = 12) (hn : n < 2 ^ k) :
    -(2 ^ (k - 1) : Int) ≤ (sext k n).toInt ∧ (sext k n).toInt < 2 ^ (k - 1) := by
  rcases hk with rfl | rfl <;> simp only [sext, signed, BitVec.toInt_ofInt, Int.bmod_def] <;> split <;> omega

theorem sext_of_range {k : Nat} {v : Half} (hk : k = 8 ∨ k = 12)
    (hv : -(2 ^ (k - 1) : Int) ≤ v.toInt ∧ v.toInt < 2 ^ (k - 1)) : sext k (v.toNat % 2 ^ k) = v := by
  apply BitVec.eq_of_toNat_eq
  rw [BitVec.toInt_eq_toNat_cond] at hv
  have := v.isLt
  rcases hk with rfl | rfl <;> simp only [sext, signed, BitVec.toNat_ofInt] <;> split <;> split at hv <;> omega

/-! The formats. -/

/-- Conditional branches on a displacement: bits [15:12]. -/
def branchGroup : List (Nat × TOp) := [(2, .bz), (3, .bnz)]

/-- Operations of a 12-bit displacement or immediate: bits [15:12]. -/
def longGroup : List (Nat × TOp) := [(4, .jmp), (5, .call), (6, .pushs)]

/-- Moves of special registers: bits [15:11]. -/
def specialGroup : List (Nat × TOp) := [(0x10, .mfs), (0x11, .mts)]

/-- `x` is the word of `i` in the format of its operation, with every operand in its field (R264). -/
inductive WordOf : Nat → TWord → Prop
  | plain {e} (he : e ∈ group0) : WordOf e.1 { op := e.2.1, ext := e.2.2 }
  | register {e g} (he : e ∈ group1) (hg : g < 16) :
      WordOf (0x1000 + 16 * e.1 + g) { op := e.2.1, g := g, ext := e.2.2 }
  | branch {e g n} (he : e ∈ branchGroup) (hg : g < 16) (hn : n < 256) :
      WordOf (0x1000 * e.1 + 256 * g + n) { op := e.2, g := g, imm := sext 8 n }
  | long {e n} (he : e ∈ longGroup) (hn : n < 4096) : WordOf (0x1000 * e.1 + n) { op := e.2, imm := sext 12 n }
  | memory {e g w} (he : e ∈ group7) (hg : g ≤ if e.2.2.1 then 15 else 0) (hw : w ≤ if e.2.2.2.1 then 15 else 0) :
      WordOf (0x7000 + 256 * e.1 + 16 * g + w) { op := e.2.1, g := g, w := w, win := e.2.2.2.2 }
  | special {e w} (he : e ∈ specialGroup) (hw : w < 128) : WordOf (0x800 * e.1 + w) { op := e.2, w := w }
  | wait {g w} (hg : g < 16) (hw : w < 64) : WordOf (0xA000 + 64 * w + g) { op := .waitu, g := g, w := w }

/-! Every well-formed instruction has a format, and every format is well formed. -/

/-- Every operation stands in one of the groups. -/
theorem op_group (op : TOp) : (∃ e ∈ group0, e.2.1 = op) ∨ (∃ e ∈ group1, e.2.1 = op) ∨ (∃ e ∈ branchGroup, e.2 = op) ∨
    (∃ e ∈ longGroup, e.2 = op) ∨ (∃ e ∈ group7, e.2.1 = op) ∨ (∃ e ∈ specialGroup, e.2 = op) ∨ op = .waitu := by
  cases op <;> decide

/-- What a form of an operation uses of its word: its extension words, whether it names a register, its greatest window, special
register or tag number, whether it has the form, and the bits of its displacement or immediate. -/
def TOp.fields (op : TOp) (win : Bool) : Nat × Bool × Nat × Bool × Nat :=
  (op.exts, op.usesG, op.maxW win, op.hasForm win, op.immBits)

theorem wf_iff_fields {op : TOp} {win ug : Bool} {ext wMax bits : Nat} (h : op.fields win = (ext, ug, wMax, true, bits))
    (g w : Nat) (imm : Half) (k : Nat) : (⟨op, g, w, win, imm, k⟩ : TWord).wf = true ↔
      k = ext ∧ g ≤ (if ug then 15 else 0) ∧ w ≤ wMax ∧
      (if bits = 0 then imm = 0 else -(2 ^ (bits - 1) : Int) ≤ imm.toInt ∧ imm.toInt < 2 ^ (bits - 1)) := by
  simp only [TOp.fields, Prod.mk.injEq] at h
  obtain ⟨rfl, rfl, rfl, hform, rfl⟩ := h
  rw [TWord.wf, hform]
  split <;> simp [and_assoc]

theorem wf_hasForm {i : TWord} (h : i.wf = true) : i.op.hasForm i.win = true := by
  simp only [TWord.wf, Bool.and_eq_true] at h
  obtain ⟨⟨-, hform⟩, -⟩ := h
  exact hform

/-- A well-formed instruction of an operation without a window form is not in that form. -/
theorem wf_win_false {i : TWord} (hop : i.op.hasForm true = false) (h : i.wf = true) : i.win = false := by
  cases hw : i.win with
  | false => rfl
  | true =>
    have hform := wf_hasForm h
    rw [hw, hop] at hform
    cases hform

/-- The fields of a well-formed instruction of an operation that has no window form. -/
theorem wf_fields {op : TOp} {win ug : Bool} {ext wMax bits g w k : Nat} {imm : Half}
    (hop : op.fields false = (ext, ug, wMax, true, bits) ∧ op.hasForm true = false)
    (h : (⟨op, g, w, win, imm, k⟩ : TWord).wf = true) : win = false ∧ k = ext ∧ g ≤ (if ug then 15 else 0) ∧ w ≤ wMax ∧
      (if bits = 0 then imm = 0 else -(2 ^ (bits - 1) : Int) ≤ imm.toInt ∧ imm.toInt < 2 ^ (bits - 1)) := by
  obtain ⟨hfields, hnone⟩ := hop
  obtain rfl : win = false := wf_win_false hnone h
  exact ⟨rfl, (wf_iff_fields hfields ..).mp h⟩

theorem group0_fields : ∀ e ∈ group0, e.2.1.fields false = (e.2.2, false, 0, true, 0) ∧ e.2.1.hasForm true = false := by decide
theorem group1_fields : ∀ e ∈ group1, e.2.1.fields false = (e.2.2, true, 0, true, 0) ∧ e.2.1.hasForm true = false := by decide
theorem branchGroup_fields : ∀ e ∈ branchGroup, e.2.fields false = (0, true, 0, true, 8) ∧ e.2.hasForm true = false := by decide
theorem longGroup_fields : ∀ e ∈ longGroup, e.2.fields false = (0, false, 0, true, 12) ∧ e.2.hasForm true = false := by decide
theorem specialGroup_fields : ∀ e ∈ specialGroup, e.2.fields false = (0, false, 127, true, 0) ∧ e.2.hasForm true = false := by
  decide
theorem waitu_fields : TOp.waitu.fields false = (0, true, 63, true, 0) ∧ TOp.waitu.hasForm true = false := by decide
theorem group7_fields : ∀ e ∈ group7,
    e.2.1.fields e.2.2.2.2 = (0, e.2.2.1, if e.2.2.2.1 then 15 else 0, true, 0) := by decide

/-- The memory group lists each form that its operations have. -/
theorem group7_forms : ∀ e ∈ group7, ∀ win, e.2.1.hasForm win = true → ∃ m ∈ group7, m.2.1 = e.2.1 ∧ m.2.2.2.2 = win := by
  decide

theorem wf_of_wordOf {x : Nat} {i : TWord} (h : WordOf x i) : i.wf = true := by
  cases h with
  | plain he =>
    obtain ⟨hfields, -⟩ := group0_fields _ he
    exact (wf_iff_fields hfields ..).mpr ⟨rfl, le_rfl, le_rfl, rfl⟩
  | register he hg =>
    obtain ⟨hfields, -⟩ := group1_fields _ he
    exact (wf_iff_fields hfields ..).mpr ⟨rfl, Nat.le_of_lt_succ hg, le_rfl, rfl⟩
  | branch he hg hn =>
    obtain ⟨hfields, -⟩ := branchGroup_fields _ he
    exact (wf_iff_fields hfields ..).mpr ⟨rfl, Nat.le_of_lt_succ hg, le_rfl, sext_range (.inl rfl) hn⟩
  | long he hn =>
    obtain ⟨hfields, -⟩ := longGroup_fields _ he
    exact (wf_iff_fields hfields ..).mpr ⟨rfl, le_rfl, le_rfl, sext_range (.inr rfl) hn⟩
  | memory he hg hw =>
    have hfields := group7_fields _ he
    exact (wf_iff_fields hfields ..).mpr ⟨rfl, hg, hw, rfl⟩
  | special he hw =>
    obtain ⟨hfields, -⟩ := specialGroup_fields _ he
    exact (wf_iff_fields hfields ..).mpr ⟨rfl, le_rfl, Nat.le_of_lt_succ hw, rfl⟩
  | wait hg hw =>
    obtain ⟨hfields, -⟩ := waitu_fields
    exact (wf_iff_fields hfields ..).mpr ⟨rfl, Nat.le_of_lt_succ hg, Nat.le_of_lt_succ hw, rfl⟩

theorem wordOf_of_wf {i : TWord} (h : i.wf = true) : ∃ x, WordOf x i := by
  obtain ⟨op, g, w, win, imm, ext⟩ := i
  rcases op_group op with ⟨e, he, rfl⟩ | ⟨e, he, rfl⟩ | ⟨e, he, rfl⟩ | ⟨e, he, rfl⟩ | ⟨e, he, rfl⟩ | ⟨e, he, rfl⟩ | rfl
  · obtain ⟨rfl, rfl, hg, hw, rfl⟩ := wf_fields (group0_fields e he) h
    obtain rfl := Nat.le_zero.mp hg
    obtain rfl := Nat.le_zero.mp hw
    exact ⟨_, .plain he⟩
  · obtain ⟨rfl, rfl, hg, hw, rfl⟩ := wf_fields (group1_fields e he) h
    obtain rfl := Nat.le_zero.mp hw
    exact ⟨_, .register he (Nat.lt_succ_of_le hg)⟩
  · obtain ⟨rfl, rfl, hg, hw, himm⟩ := wf_fields (branchGroup_fields e he) h
    obtain rfl := Nat.le_zero.mp hw
    rw [← sext_of_range (k := 8) (.inl rfl) himm]
    exact ⟨_, .branch he (Nat.lt_succ_of_le hg) (Nat.mod_lt _ (by decide))⟩
  · obtain ⟨rfl, rfl, hg, hw, himm⟩ := wf_fields (longGroup_fields e he) h
    obtain rfl := Nat.le_zero.mp hg
    obtain rfl := Nat.le_zero.mp hw
    rw [← sext_of_range (k := 12) (.inr rfl) himm]
    exact ⟨_, .long he (Nat.mod_lt _ (by decide))⟩
  · obtain ⟨m, hm, hop, rfl⟩ := group7_forms e he win (wf_hasForm h)
    rw [← hop] at h ⊢
    obtain ⟨rfl, hg, hw, rfl⟩ := (wf_iff_fields (group7_fields m hm) ..).mp h
    exact ⟨_, .memory hm hg hw⟩
  · obtain ⟨rfl, rfl, hg, hw, rfl⟩ := wf_fields (specialGroup_fields e he) h
    obtain rfl := Nat.le_zero.mp hg
    exact ⟨_, .special he (Nat.lt_succ_of_le hw)⟩
  · obtain ⟨rfl, rfl, hg, hw, rfl⟩ := wf_fields waitu_fields h
    exact ⟨_, .wait (Nat.lt_succ_of_le hg) (Nat.lt_succ_of_le hw)⟩

/-! The word of an instruction is its word in the format. -/

theorem tencode_of_wordOf {x : Nat} {i : TWord} (h : WordOf x i) : tencode i = x := by
  cases h with
  | plain he => fin_cases he <;> rfl
  | register he hg => fin_cases he <;> rfl
  | branch he hg hn =>
    have himm := sext_toNat (.inl rfl) hn
    fin_cases he <;> exact congrArg (_ + 256 * _ + ·) himm
  | long he hn =>
    have himm := sext_toNat (.inr rfl) hn
    fin_cases he <;> exact congrArg (_ + ·) himm
  | memory he hg hw => fin_cases he <;> rfl
  | special he hw => fin_cases he <;> rfl
  | wait hg hw => rfl

/-! A word decodes exactly where it is the word of an instruction. -/

theorem group1_code : ∀ e ∈ group1, e.1 < 256 := by decide
theorem group7_code : ∀ e ∈ group7, e.1 < 16 := by decide

/-- An operand field that the operation does not use is zero. -/
theorem operand_le {used : Bool} {v : Nat} (hv : v ≤ 15) (h : used = false → v = 0) : v ≤ if used then 15 else 0 := by
  cases used
  exacts [(h rfl).le, hv]

theorem operand_zero {used : Bool} {v : Nat} (h : v ≤ if used then 15 else 0) : (!used && v != 0) = false := by
  cases used
  · simpa using h
  · rfl

theorem tdecode_of_wordOf {x : Nat} {i : TWord} (h : WordOf x i) : tdecode x = some i := by
  cases h with
  | plain he => fin_cases he <;> rfl
  | @register e g he hg =>
    have hcode := group1_code e he
    have hgroup : (0x1000 + 16 * e.1 + g) / 4096 = 1 := by omega
    have hop : field (0x1000 + 16 * e.1 + g) 11 4 = e.1 := by rw [field_eq_div_mod]; omega
    have hreg : field (0x1000 + 16 * e.1 + g) 3 0 = g := by rw [field_eq_div_mod]; omega
    simp only [tdecode, hgroup, hop, hreg]
    fin_cases he <;> rfl
  | @branch e g n he hg hn =>
    have hgroup : (0x1000 * e.1 + 256 * g + n) / 4096 = e.1 := by omega
    have hreg : field (0x1000 * e.1 + 256 * g + n) 11 8 = g := by rw [field_eq_div_mod]; omega
    have himm : field (0x1000 * e.1 + 256 * g + n) 7 0 = n := by rw [field_eq_div_mod]; omega
    simp only [tdecode, hgroup, hreg, himm]
    fin_cases he <;> rfl
  | @long e n he hn =>
    have hgroup : (0x1000 * e.1 + n) / 4096 = e.1 := by omega
    have himm : field (0x1000 * e.1 + n) 11 0 = n := by rw [field_eq_div_mod]; omega
    simp only [tdecode, hgroup, himm]
    fin_cases he <;> rfl
  | @memory e g w he hg hw =>
    have hcode := group7_code e he
    have hg' : g < 16 := by split at hg <;> omega
    have hw' : w < 16 := by split at hw <;> omega
    have hgroup : (0x7000 + 256 * e.1 + 16 * g + w) / 4096 = 7 := by omega
    have hop : field (0x7000 + 256 * e.1 + 16 * g + w) 11 8 = e.1 := by rw [field_eq_div_mod]; omega
    have hreg : field (0x7000 + 256 * e.1 + 16 * g + w) 7 4 = g := by rw [field_eq_div_mod]; omega
    have hwin : field (0x7000 + 256 * e.1 + 16 * g + w) 3 0 = w := by rw [field_eq_div_mod]; omega
    have hfind : group7.find? (fun m => m.1 == e.1) = some e := by fin_cases he <;> rfl
    simp only [tdecode, hgroup, hop, hreg, hwin, hfind, operand_zero hg, operand_zero hw]
    rfl
  | @special e w he hw =>
    have hcode : e.1 = 0x10 ∨ e.1 = 0x11 := by fin_cases he <;> decide
    have hgroup : (0x800 * e.1 + w) / 4096 = 8 := by omega
    have hres : field (0x800 * e.1 + w) 10 7 = 0 := by rw [field_eq_div_mod]; omega
    have hreg : field (0x800 * e.1 + w) 6 0 = w := by rw [field_eq_div_mod]; omega
    have hwrite : bit (0x800 * e.1 + w) 11 = (e.1 == 0x11) := by
      rw [bit_eq_div_mod]
      rcases hcode with hcode | hcode <;> rw [hcode, beq_eq_decide, beq_eq_decide, decide_eq_decide] <;> omega
    simp only [tdecode, hgroup, hres, hreg, hwrite]
    fin_cases he <;> rfl
  | @wait g w hg hw =>
    have hgroup : (0xA000 + 64 * w + g) / 4096 = 10 := by omega
    have hres : field (0xA000 + 64 * w + g) 5 4 = 0 := by rw [field_eq_div_mod]; omega
    have htag : field (0xA000 + 64 * w + g) 11 6 = w := by rw [field_eq_div_mod]; omega
    have hreg : field (0xA000 + 64 * w + g) 3 0 = g := by rw [field_eq_div_mod]; omega
    simp only [tdecode, hgroup, hres, htag, hreg]
    rfl

/-- An entry found under a code is listed with that code. -/
theorem find?_code {α : Type} {l : List (Nat × α)} {k : Nat} {e : Nat × α} (h : l.find? (fun m => m.1 == k) = some e) :
    e ∈ l ∧ e.1 = k := ⟨List.mem_of_find?_eq_some h, by simpa using List.find?_some h⟩

/-- The words of the groups that bits [15:12] name alone. -/
theorem wordOf_branch {x : Nat} {op : TOp} (he : (x / 4096, op) ∈ branchGroup) :
    WordOf x { op := op, g := x / 2 ^ 8 % 2 ^ 4, imm := sext 8 (x / 2 ^ 0 % 2 ^ 8) } := by
  have hword := WordOf.branch (g := x / 2 ^ 8 % 2 ^ 4) (n := x / 2 ^ 0 % 2 ^ 8) he (by omega) (by omega)
  rwa [show 0x1000 * (x / 4096) + _ + _ = x by omega] at hword

theorem wordOf_long {x : Nat} {op : TOp} (he : (x / 4096, op) ∈ longGroup) :
    WordOf x { op := op, imm := sext 12 (x / 2 ^ 0 % 2 ^ 12) } := by
  have hword := WordOf.long (n := x / 2 ^ 0 % 2 ^ 12) he (by omega)
  rwa [show 0x1000 * (x / 4096) + _ = x by omega] at hword

theorem wordOf_special {x : Nat} {op : TOp} (hres : x / 2 ^ 7 % 2 ^ 4 = 0) (he : (x / 2 ^ 11, op) ∈ specialGroup) :
    WordOf x { op := op, w := x / 2 ^ 0 % 2 ^ 7 } := by
  have hword := WordOf.special (w := x / 2 ^ 0 % 2 ^ 7) he (by omega)
  rwa [show 0x800 * (x / 2 ^ 11) + _ = x by omega] at hword

theorem wordOf_of_tdecode {x : Nat} {i : TWord} (h : tdecode x = some i) : WordOf x i := by
  simp only [tdecode, field_eq_div_mod, bit_eq_div_mod] at h
  split at h
  case h_1 hgroup =>
    obtain ⟨e, hfind, rfl⟩ := Option.map_eq_some_iff.mp h
    obtain ⟨he, hcode⟩ := find?_code hfind
    have hword := WordOf.plain he
    rwa [show e.1 = x by omega] at hword
  case h_2 hgroup =>
    obtain ⟨e, hfind, rfl⟩ := Option.map_eq_some_iff.mp h
    obtain ⟨he, hcode⟩ := find?_code hfind
    have hword := WordOf.register (g := x / 2 ^ 0 % 2 ^ (3 + 1 - 0)) he (by omega)
    rwa [show 0x1000 + 16 * e.1 + _ = x by omega] at hword
  case h_3 hgroup | h_4 hgroup =>
    obtain rfl := Option.some.inj h
    exact wordOf_branch (by rw [hgroup]; decide)
  case h_5 hgroup | h_6 hgroup | h_7 hgroup =>
    obtain rfl := Option.some.inj h
    exact wordOf_long (by rw [hgroup]; decide)
  case h_8 hgroup =>
    split at h
    · next op ug uw win hfind =>
      split at h
      · cases h
      · next hzero =>
        obtain rfl := Option.some.inj h
        obtain ⟨he, hcode⟩ := find?_code hfind
        simp only [Bool.or_eq_true, Bool.and_eq_true, Bool.not_eq_true', bne_iff_ne, not_or, not_and, not_not] at hzero
        obtain ⟨hg, hw⟩ := hzero
        have hword := WordOf.memory (g := x / 2 ^ 4 % 2 ^ (7 + 1 - 4)) (w := x / 2 ^ 0 % 2 ^ (3 + 1 - 0)) he
          (operand_le (by omega) hg) (operand_le (by omega) hw)
        rwa [show 0x7000 + _ + _ + _ = x by omega] at hword
    · cases h
  case h_9 hgroup =>
    split at h
    · cases h
    · next hres =>
      obtain rfl := Option.some.inj h
      obtain hcode | hcode : x / 2 ^ 11 = 0x10 ∨ x / 2 ^ 11 = 0x11 := by omega
      all_goals exact wordOf_special (by omega) (by rw [hcode]; decide)
  case h_10 hgroup =>
    split at h
    · cases h
    · next hres =>
      obtain rfl := Option.some.inj h
      have hword := WordOf.wait (g := x / 2 ^ 0 % 2 ^ (3 + 1 - 0)) (w := x / 2 ^ 6 % 2 ^ (11 + 1 - 6)) (by omega) (by omega)
      rwa [show 0xA000 + _ + _ = x by omega] at hword
  case h_11 => cases h

/-- Settles O4: decoding and encoding both agree with the formats. -/
theorem taskoDecodeAgreesWithEncode : Obligations.TaskoDecodeAgreesWithEncode := by
  unfold Obligations.TaskoDecodeAgreesWithEncode
  refine ⟨fun i hwf => ?_, fun x i _ hdecode => ?_⟩
  · obtain ⟨x, hword⟩ := wordOf_of_wf hwf
    rw [tencode_of_wordOf hword, tdecode_of_wordOf hword]
  · have hword := wordOf_of_tdecode hdecode
    exact ⟨wf_of_wordOf hword, tencode_of_wordOf hword⟩

end Sys2Proof.Machine
end

section
/-! Arithmetic, immediates and the operand stack (R206 to R208, R210, R251 to R253). -/

namespace Sys2Proof.Machine

/-- What a command of an operation does depends on its instruction and its core alone. -/
theorem tasko_congr {s : State} {n : Nat} {op : TOp} {d : TDec} (hex : s.executes n op d) {f g : TDec → Core → TR Core}
    (h : f d (s.tcore n) = g d (s.tcore n)) : s.tasko n op f = s.tasko n op g := by
  rw [tasko_executes hex, tasko_executes hex, h]

/-! Entries popped, and a value given to a stack with room for it. -/

theorem take1_ok (c : Core) (x : TVal) (rest : List TVal) (h : c.stack = x :: rest) {α : Type} (k : List TVal → Core → TR α) :
    c.take 1 k = k [x] (c.withStack rest) := take_ok c [x] rest h k

theorem take2_ok (c : Core) (x y : TVal) (rest : List TVal) (h : c.stack = x :: y :: rest) {α : Type}
    (k : List TVal → Core → TR α) : c.take 2 k = k [x, y] (c.withStack rest) := take_ok c [x, y] rest h k

theorem pop3_ok (c : Core) (a b e : Half) (rest : List TVal) (h : c.stack = .known a :: .known b :: .known e :: rest) {α : Type}
    (k : List Half → Core → TR α) : c.pop 3 k = k [a, b, e] (c.withStack rest) := pop_ok c [a, b, e] rest h k

theorem stackOp3_ok (c : Core) (d : TDec) (f : List Half → List Half) (a b e : Half) (rest : List TVal)
    (h : c.stack = .known a :: .known b :: .known e :: rest) (hs : c.settled) (hl : rest.length + (f [a, b, e]).length ≤ 16) :
    c.stackOp d 3 f = .ok ((c.withStack (((f [a, b, e]).map TVal.known).reverse ++ rest)).endsAt d.next) := by
  rw [Core.stackOp, pop3_ok c a b e rest h]
  exact give_ok (c.withStack rest) d _ hl hs

theorem give_one {c : Core} (hl : c.stack.length < 16) (hs : c.settled) (d : TDec) (v : Half) :
    c.give d [v] = .ok ((c.withStack (.known v :: c.stack)).endsAt d.next) := give_ok c d [v] hl hs

/-! Instructions that push, and that replace entries. -/

theorem pushes_of_give {mk : Nat → Instr} {op : TOp} {f : TDec → List Half} {g : TDec → Core → List Half}
    (hexec : ∀ n s, exec (mk n) s = s.tasko n op (fun d c => c.give d (f d))) (hg : ∀ d c, g d c = (f d).reverse) :
    Pushes mk op g := by
  intro s n d hex hs hl
  rw [hg, List.length_reverse] at hl
  rw [hexec n s, tasko_executes hex, give_ok _ _ _ hl hs, hg, List.map_reverse]

theorem replaces1_of_stackOp {mk : Nat → Instr} {op : TOp} {f : List Half → List Half} {g : Core → Half → List Half}
    (hexec : ∀ n s, exec (mk n) s = s.tasko n op (fun d c => c.stackOp d 1 f)) (hg : ∀ c a, g c a = (f [a]).reverse) :
    Replaces1 mk op g := by
  intro s n d a rest hex hstack hs hl
  rw [hg, List.length_reverse] at hl
  rw [hexec n s, tasko_executes hex, stackOp1_ok _ _ _ a rest hstack hs hl, hg, List.map_reverse]

theorem replaces2_of_stackOp {mk : Nat → Instr} {op : TOp} {f : List Half → List Half} {g : Half → Half → List Half}
    (hexec : ∀ n s, exec (mk n) s = s.tasko n op (fun d c => c.stackOp d 2 f)) (hg : ∀ b a, g b a = (f [a, b]).reverse) :
    Replaces2 mk op g := by
  intro s n d b a rest hex hstack hs hl
  rw [hg, List.length_reverse] at hl
  rw [hexec n s, tasko_executes hex, stackOp2_ok _ _ _ a b rest hstack hs hl, hg, List.map_reverse]

theorem replaces2_of_arith {mk : Nat → Instr} {op : TOp} {f g : Half → Half → List Half}
    (hexec : ∀ n s, exec (mk n) s = s.tasko n op (fun d c => c.arith d f)) (hg : ∀ b a, g b a = (f b a).reverse) :
    Replaces2 mk op g :=
  replaces2_of_stackOp (f := fun v => f (v.getD 1 0) (v.getD 0 0)) hexec hg

/-! The operators on halfwords as numbers (R253). -/

theorem add_eq_ofNat (b a : Half) : b + a = BitVec.ofNat 16 (b.toNat + a.toNat) :=
  BitVec.eq_of_toNat_eq (by rw [BitVec.toNat_add, BitVec.toNat_ofNat])

theorem sub_eq_ofInt (b a : Half) : b - a = BitVec.ofInt 16 ((b.toNat : Int) - a.toNat) :=
  BitVec.eq_of_toNat_eq (by rw [BitVec.toNat_sub, BitVec.toNat_ofInt]; omega)

theorem zero_sub_eq_ofInt (a : Half) : 0 - a = BitVec.ofInt 16 (-(a.toNat : Int)) :=
  (sub_eq_ofInt 0 a).trans (congrArg _ (Int.zero_sub _))

theorem mul_eq_ofNat (b a : Half) : b * a = BitVec.ofNat 16 (b.toNat * a.toNat) :=
  BitVec.eq_of_toNat_eq (by rw [BitVec.toNat_mul, BitVec.toNat_ofNat])

theorem not_eq_ofNat (a : Half) : ~~~ a = BitVec.ofNat 16 (0xFFFF - a.toNat) :=
  BitVec.eq_of_toNat_eq (by rw [BitVec.toNat_not, BitVec.toNat_ofNat]; omega)

theorem shiftLeft_eq_ofNat (b : Half) (k : Nat) : b <<< k = BitVec.ofNat 16 (b.toNat * 2 ^ k) :=
  BitVec.eq_of_toNat_eq (by rw [BitVec.toNat_shiftLeft, BitVec.toNat_ofNat, Nat.shiftLeft_eq])

theorem shiftRight_eq_ofNat (b : Half) (k : Nat) : b >>> k = BitVec.ofNat 16 (b.toNat / 2 ^ k) :=
  BitVec.eq_of_toNat_eq (by
    rw [BitVec.toNat_ushiftRight, BitVec.toNat_ofNat, Nat.shiftRight_eq_div_pow,
      Nat.mod_eq_of_lt ((Nat.div_le_self _ _).trans_lt b.isLt)])

theorem sshiftRight_eq_ofInt (b : Half) (k : Nat) : b.sshiftRight k = BitVec.ofInt 16 (b.toInt / 2 ^ k) := by
  rw [BitVec.sshiftRight, Int.shiftRight_eq_div_pow]
  rfl

theorem halfBit_decide (p : Prop) [Decidable p] : halfBit (decide p) = if p then 1 else 0 := by
  by_cases h : p <;> simp [halfBit, h]

/-! Pushes over a full hardware stack (R206). -/

/-- The end of an instruction that leaves the hardware stack full refills nothing. -/
theorem finish_full {c : Core} (h : c.stack.length = 16) (pc : Half) : c.finish pc = .ok { c with pc := pc } :=
  if_neg (fun hroom => by omega)

theorem spec_nil {c : Core} (h : c.specs = []) : c.spec = false := by rw [Core.spec, h]; rfl

section
variable {c : Core} {l : List TVal} {b : Half} (hstack : c.stack = l ++ [.known b]) (hl : l.length = 15)
  (hspecs : c.specs = [])
include hstack hl hspecs

theorem push_spills (hroom : c.sl.toNat < c.sp.toNat) (v : TVal) :
    c.push v = .ok { c.putData (c.sp - 1) b with sp := c.sp - 1, stack := v :: l } := by
  have hfull : ¬ c.stack.length < 16 := by simp [hstack, hl]
  rw [Core.push, if_neg hfull, if_neg (by simp [spec_nil hspecs]), if_neg (by omega), hstack, List.getLast?_concat,
    List.dropLast_concat]

theorem push_limit (hroom : c.sp.toNat ≤ c.sl.toNat) (v : TVal) : c.push v = .exc TF.STACK_LIMIT := by
  have hfull : ¬ c.stack.length < 16 := by simp [hstack, hl]
  rw [Core.push, if_neg hfull, if_neg (by simp [spec_nil hspecs]), if_pos hroom]

/-- A value given to a full stack: its bottom entry spilled, the stack full again. -/
theorem give_spills (hroom : c.sl.toNat < c.sp.toNat) (d : TDec) (v : Half) :
    c.give d [v] = .ok { c.putData (c.sp - 1) b with sp := c.sp - 1, stack := .known v :: l, pc := d.next } := by
  have hpush : c.pushAll [.known v] = _ := congrArg (·.bind TR.ok) (push_spills hstack hl hspecs hroom (.known v))
  rw [Core.give, List.map_singleton, hpush, TR.bind_ok, TR.bind_ok, finish_full (by simp [hl])]

theorem give_limit (hroom : c.sp.toNat ≤ c.sl.toNat) (d : TDec) (v : Half) : c.give d [v] = .exc TF.STACK_LIMIT := by
  have hpush : c.pushAll [.known v] = _ := congrArg (·.bind TR.ok) (push_limit hstack hl hspecs hroom (.known v))
  rw [Core.give, List.map_singleton, hpush, TR.bind_exc, TR.bind_exc]

end

/-! PICK (R252). -/

/-- What PICK does with its core once `k` is popped: the entry `k` places below the new top is read where it stands. -/
def Core.pickEntry (c : Core) (d : TDec) (k : Nat) : TR Core :=
  if c.depth < k + 1 then .exc TF.STACK_LIMIT
  else if k < c.stack.length then
    match c.stack.getD k (.known 0) with
    | .known x => c.give d [x]
    | .await _ => .wait
  else c.give d [c.dataAt (c.sp + BitVec.ofNat 16 (k - c.stack.length))]

theorem exec_pick_pops {s : State} {n : Nat} {d : TDec} {k : Half} {rest : List TVal} (hex : s.executes n .pick d)
    (hstack : (s.tcore n).stack = .known k :: rest) :
    exec (.pick n) s = s.tasko n .pick (fun d _ => ((s.tcore n).withStack rest).pickEntry d k.toNat) :=
  (exec_pick n s).trans (tasko_congr hex (pop1_ok (s.tcore n) k rest hstack _))

section
variable {c : Core} {d : TDec} {k : Nat}

theorem pickEntry_held {x : Half} (hget : c.stack[k]? = some (.known x)) :
    c.pickEntry d k = c.give d [x] := by
  obtain ⟨hlt, -⟩ := List.getElem?_eq_some_iff.mp hget
  have hdepth : ¬ c.depth < k + 1 := by rw [Core.depth]; omega
  rw [Core.pickEntry, if_neg hdepth, if_pos hlt, List.getD_eq_getElem?_getD, hget]
  rfl

theorem pickEntry_spilled (hle : c.stack.length ≤ k) (hlt : k < c.depth) :
    c.pickEntry d k = c.give d [c.dataAt (c.sp + BitVec.ofNat 16 (k - c.stack.length))] := by
  rw [Core.pickEntry, if_neg (by omega), if_neg (by omega)]

theorem pickEntry_beyond (hle : c.depth ≤ k) : c.pickEntry d k = .exc TF.STACK_LIMIT := if_pos (Nat.lt_succ_of_le hle)

end

/-- Settles O5: each instruction is the shared pop and push at its operands, with its operator read as an operation on numbers. -/
theorem taskoArithmeticAndStack : Obligations.TaskoArithmeticAndStack := by
  unfold Obligations.TaskoArithmeticAndStack
  refine ⟨⟨?add, ?sub, ?addc, ?subb, ?mul, ?mulh, ?and, ?or, ?xor, ?not, ?neg, ?shl, ?shr, ?sar⟩,
    ⟨?pushi, ?pushi2, ?pushs, ?dup, ?swap, ?copyOver, ?drop, ?nip, ?rot, ?pick, ?pickSpilled⟩,
    ?pushiFull, ?addShort, ?pickShort⟩
  case add => exact replaces2_of_arith exec_add (fun b a => by rw [← add_eq_ofNat]; rfl)
  case sub => exact replaces2_of_arith exec_sub (fun b a => by rw [← sub_eq_ofInt]; rfl)
  case addc => exact replaces2_of_arith exec_addc (fun b a => by rw [← add_eq_ofNat, ← halfBit_decide]; rfl)
  case subb => exact replaces2_of_arith exec_subb (fun b a => by rw [← sub_eq_ofInt, ← halfBit_decide]; rfl)
  case mul => exact replaces2_of_arith exec_mul (fun b a => by rw [← mul_eq_ofNat]; rfl)
  case mulh => exact replaces2_of_arith exec_mulh (fun b a => rfl)
  case and => exact replaces2_of_arith exec_and (fun b a => rfl)
  case or => exact replaces2_of_arith exec_or (fun b a => rfl)
  case xor => exact replaces2_of_arith exec_xor (fun b a => rfl)
  case not => exact replaces1_of_stackOp exec_not (fun _ a => by rw [← not_eq_ofNat]; rfl)
  case neg => exact replaces1_of_stackOp exec_neg (fun _ a => by rw [← zero_sub_eq_ofInt]; rfl)
  case shl => exact replaces2_of_arith exec_shl (fun b a => by rw [← shiftLeft_eq_ofNat]; rfl)
  case shr => exact replaces2_of_arith exec_shr (fun b a => by rw [← shiftRight_eq_ofNat]; rfl)
  case sar => exact replaces2_of_arith exec_sar (fun b a => by rw [← sshiftRight_eq_ofInt]; rfl)
  case pushi => exact pushes_of_give exec_pushi (fun _ _ => rfl)
  case pushi2 => exact pushes_of_give exec_pushi2 (fun _ _ => rfl)
  case pushs => exact pushes_of_give exec_pushs (fun _ _ => rfl)
  case dup => exact replaces1_of_stackOp exec_dup (fun _ _ => rfl)
  case swap => exact replaces2_of_stackOp exec_swap (fun _ _ => rfl)
  case copyOver => exact replaces2_of_stackOp exec_over (fun _ _ => rfl)
  case drop =>
    intro s n d x rest hex hstack hs
    rw [exec_drop, execDrop, tasko_executes hex, take1_ok _ x rest hstack, finish_settled ((s.tcore n).withStack rest) _ hs]
  case nip =>
    intro s n d a x rest hex hstack hs hl
    rw [exec_nip, execNip, tasko_executes hex, take2_ok _ (.known a) x rest hstack]
    dsimp only
    rw [give_one (c := (s.tcore n).withStack rest) hl hs]
    rfl
  case rot =>
    intro s n d a b c rest hex hstack hs hl
    rw [exec_rot, execRot, tasko_executes hex, stackOp3_ok _ _ _ a b c rest hstack hs (by simpa using hl)]
    rfl
  case pick =>
    intro s n d k x rest hex hstack hs hl hget
    rw [exec_pick_pops hex hstack, tasko_executes hex, pickEntry_held hget, give_one (c := (s.tcore n).withStack rest) hl hs]
    rfl
  case pickSpilled =>
    intro s n d k rest hex hstack hspecs hl hle hlt
    rw [exec_pick_pops hex hstack, tasko_executes hex, pickEntry_spilled hle hlt,
      give_one (c := (s.tcore n).withStack rest) hl (.inl hspecs)]
    rfl
  case pushiFull =>
    intro s n d l b hex hstack hl hspecs
    rw [exec_pushi, execPushi, tasko_executes hex]
    exact ⟨fun hroom => by rw [give_spills hstack hl hspecs hroom], fun hroom => by rw [give_limit hstack hl hspecs hroom]⟩
  case addShort =>
    intro s n d hex hdepth
    rw [exec_add, execAdd, tasko_executes hex, Core.arith, Core.stackOp, pop_short _ 2 hdepth]
  case pickShort =>
    intro s n d k rest hex hstack hle
    rw [exec_pick_pops hex hstack, tasko_executes hex, pickEntry_beyond hle]

end Sys2Proof.Machine
end

section
/-! Jumps, calls, returns and the prediction of branches (R218, R236, R247 to R249). -/

namespace Sys2Proof.Machine

/-- An instruction that acts on its core alone has its effect wherever it answers one. -/
theorem coreBecomes_of_ok {mk : Nat → Instr} {op : TOp} {P : State → TDec → Core → Prop} {f : TDec → Core → Core}
    {act : TDec → Core → TR Core} (hexec : ∀ n s, exec (mk n) s = s.tasko n op act)
    (hact : ∀ s d c, P s d c → act d c = .ok (f d c)) : CoreBecomes mk op P f := by
  intro s n d hex hP
  rw [hexec n s, tasko_executes hex, hact s d _ hP]

theorem popJump_ok {c : Core} {a : Half} {rest : List TVal} (hstack : c.stack = .known a :: rest) (hs : c.settled) :
    c.popJump = .ok ((c.withStack rest).endsAt a) := by
  rw [Core.popJump, pop1_ok c a rest hstack]
  exact finish_settled (c.withStack rest) a hs

theorem callTo_ok {c : Core} (hl : c.stack.length < 16) (hs : c.settled) (d : TDec) (target : Half) :
    c.callTo d target = .ok ((c.withStack (.known d.next :: c.stack)).endsAt target) := by
  rw [Core.callTo, push_ok c _ hl]
  exact finish_settled (c.withStack (.known d.next :: c.stack)) target hs

theorem exec_call_of_callTo {mk : Nat → Instr} {op : TOp} {s : State} {n : Nat} {d : TDec} {target : TDec → Half}
    (hexec : ∀ n s, exec (mk n) s = s.tasko n op (fun d c => c.callTo d (target d))) (hl : (s.tcore n).stack.length < 16)
    (hs : (s.tcore n).settled) (hex : s.executes n op d) : exec (mk n) s =
      .next (s.setTcore n (((s.tcore n).withStack (.known d.next :: (s.tcore n).stack)).endsAt (target d))) := by
  rw [hexec n s, tasko_executes hex, callTo_ok hl hs]

/-! Prediction (R218). -/

/-- The core that predicts a branch to `target` on awaited value `id`: taken where the target is not above the branch's own
address; with what a squash restores. -/
def Core.predicted (c : Core) (d : TDec) (id : Nat) (ifZero : Bool) (target : Half) : Core :=
  let taken := decide (target.toNat ≤ d.pc.toNat)
  { c with
    pc := if taken then target else d.next
    specs := c.specs ++ [{
      cond := id, ifZero := ifZero, predTaken := taken, otherPc := if taken then d.next else target
      stack := c.stack, gregs := c.gregs, data := c.data, sp := c.sp, stores := [] }] }

theorem branch_await {c : Core} {d : TDec} {id : Nat} (h : c.greg d.i.g = .await id) (ifZero : Bool) (target : Half) :
    c.branch d ifZero target =
      if d.mg ∨ 2 ≤ c.specs.length then .wait else .ok (c.predicted d id ifZero target) := by
  rw [Core.branch, h]
  rfl

theorem exec_branch_await {mk : Nat → Instr} {op : TOp} {ifZero : Bool} {target : TDec → Half}
    (hexec : ∀ n s, exec (mk n) s = s.tasko n op (fun d c => c.branch d ifZero (target d))) {s : State} {n : Nat} {d : TDec}
    {id : Nat} (hex : s.executes n op d) (hg : (s.tcore n).greg d.i.g = .await id) :
    ((n < 128 ∧ (s.tcore n).specs.length < 2) →
      exec (mk n) s = .next (s.setTcore n ((s.tcore n).predicted d id ifZero (target d)))) ∧
    ((128 ≤ n ∨ 2 ≤ (s.tcore n).specs.length) → exec (mk n) s = .next s) := by
  have hguard : (d.mg = true ∨ 2 ≤ (s.tcore n).specs.length) ↔ (128 ≤ n ∨ 2 ≤ (s.tcore n).specs.length) := by
    rw [TDec.mg, executes_core hex, decide_eq_true_iff]
  rw [hexec n s, tasko_executes hex, branch_await hg]
  exact ⟨fun ⟨hn, hroom⟩ => by rw [if_neg (mt hguard.mp (by omega))], fun hwait => by rw [if_pos (hguard.mpr hwait)]⟩

/-- Settles O8: each jump is the shared pop, push or branch at its target. -/
theorem taskoJumpsAndPrediction : Obligations.TaskoJumpsAndPrediction := by
  unfold Obligations.TaskoJumpsAndPrediction
  refine ⟨⟨?nop, ?jmp, ?jmpl, ?popped, ?calls⟩, ?predicted⟩
  case nop => exact coreBecomes_of_ok exec_nop (fun _ _ _ _ => rfl)
  case jmp => exact coreBecomes_of_ok exec_jmp (fun _ _ _ _ => rfl)
  case jmpl => exact coreBecomes_of_ok exec_jmpl (fun _ _ _ _ => rfl)
  case popped =>
    intro s n d a rest hstack hs
    refine ⟨fun hex => ?_, fun hex => ?_, fun hex hl => ?_⟩
    · rw [exec_jmps, execJmps, tasko_executes hex, popJump_ok hstack hs]
    · rw [exec_ret, execRet, tasko_executes hex, popJump_ok hstack hs]
    · rw [exec_calls, execCalls, tasko_executes hex, pop1_ok _ a rest hstack,
        callTo_ok (c := (s.tcore n).withStack rest) hl hs]
      rfl
  case calls =>
    intro s n d hl hs
    exact ⟨exec_call_of_callTo exec_call hl hs, exec_call_of_callTo exec_calll hl hs⟩
  case predicted =>
    intro s n d id
    exact ⟨exec_branch_await exec_bz, exec_branch_await exec_bnz, exec_branch_await exec_bzl, exec_branch_await exec_bnzl⟩

end Sys2Proof.Machine
end

section
/-! General registers, windows and special registers (R199, R206, R209, R213, R237, R254, R257 to R259). -/

namespace Sys2Proof.Machine

/-! General registers (R254). -/

theorem withG_known {c : Core} {d : TDec} {v : Half} (h : c.greg d.i.g = .known v) (f : Half → TR Core) : c.withG d f = f v := by
  rw [Core.withG, h]

/-! SETW (R257). -/

theorem pop4_ok (c : Core) (a b e f : Half) (rest : List TVal)
    (h : c.stack = .known a :: .known b :: .known e :: .known f :: rest) {α : Type} (k : List Half → Core → TR α) :
    c.pop 4 k = k [a, b, e, f] (c.withStack rest) := pop_ok c [a, b, e, f] rest h k

theorem sumOf_weighted (a b e f : Half) (p : Nat → Nat) :
    sumOf ((List.range 4).map (fun i => (([a, b, e, f] : List Half).getD i 0).toNat * p i)) =
      a.toNat * p 0 + b.toNat * p 1 + e.toNat * p 2 + f.toNat * p 3 :=
  congrArg (· + b.toNat * p 1 + e.toNat * p 2 + f.toNat * p 3) (Nat.zero_add (a.toNat * p 0))

/-- The window register that four popped words spell, s0 the least significant. -/
theorem sumOf_words (a b e f : Half) :
    sumOf ((List.range 4).map (fun i => (([a, b, e, f] : List Half).getD i 0).toNat * 2 ^ (16 * i))) =
      a.toNat + b.toNat * 2 ^ 16 + e.toNat * 2 ^ 32 + f.toNat * 2 ^ 48 := by
  have hzero : a.toNat * 2 ^ (16 * 0) = a.toNat := Nat.mul_one _
  have h1 : (16 * 1 : Nat) = 16 := rfl
  have h2 : (16 * 2 : Nat) = 32 := rfl
  have h3 : (16 * 3 : Nat) = 48 := rfl
  rw [sumOf_weighted a b e f (fun i => 2 ^ (16 * i)), hzero, h1, h2, h3]
/-- What SETW does with its core once the window register `x` is popped. -/
def Core.setWindow (c : Core) (d : TDec) (x : Nat) : TR Core :=
  if winSpaceOk d.mg x then
    { c with wins := Tbl.put 0 d.i.w (BitVec.ofNat 64 (winClean x)) c.wins }.finish d.next
  else .exc TF.ILLEGAL_INSTRUCTION

theorem settled_withWins (c : Core) (w : Tbl Word) : ({ c with wins := w } : Core).settled ↔ c.settled := Iff.rfl

theorem setWindow_valid {c : Core} {d : TDec} {x : Nat} (h : winSpaceOk d.mg x = true) (hs : c.settled) :
    c.setWindow d x =
      .ok ({ c with wins := Tbl.put 0 d.i.w (BitVec.ofNat 64 (winClean x)) c.wins }.endsAt d.next) :=
  (if_pos h).trans (finish_settled _ _ ((settled_withWins c _).mpr hs))

theorem setWindow_invalid {c : Core} {d : TDec} {x : Nat} (h : winSpaceOk d.mg x = false) :
    c.setWindow d x = .exc TF.ILLEGAL_INSTRUCTION := if_neg (by rw [h]; decide)

section
variable {s : State} {n x : Nat} {d : TDec} {a b e f : Half} {rest : List TVal} (hex : s.executes n .setw d)
  (hw : d.i.w < winCount d.mg) (hspecs : (s.tcore n).specs = [])
  (hstack : (s.tcore n).stack = .known a :: .known b :: .known e :: .known f :: rest)
  (hx : sumOf ((List.range 4).map (fun i => (([a, b, e, f] : List Half).getD i 0).toNat * 2 ^ (16 * i))) = x)
include hex hw hspecs hstack hx

theorem exec_setw_pops : exec (.setw n) s = s.tasko n .setw (fun d _ => ((s.tcore n).withStack rest).setWindow d x) := by
  subst hx
  refine (exec_setw n s).trans (tasko_congr hex ((if_neg (Nat.not_le.mpr hw)).trans ?_))
  rw [nonSpec_nil hspecs]
  exact pop4_ok _ a b e f rest hstack _

theorem exec_setw_valid (h : winSpaceOk d.mg x = true) : exec (.setw n) s = .next (s.setTcore n
    ({ (s.tcore n).withStack rest with
      wins := Tbl.put 0 d.i.w (BitVec.ofNat 64 (winClean x)) (s.tcore n).wins }.endsAt d.next)) := by
  rw [exec_setw_pops hex hw hspecs hstack hx, tasko_executes hex,
    setWindow_valid (c := (s.tcore n).withStack rest) h (.inl hspecs)]
  rfl

theorem exec_setw_invalid (h : winSpaceOk d.mg x = false) :
    exec (.setw n) s = .next (s.texc n TF.ILLEGAL_INSTRUCTION d.pc d.next) := by
  rw [exec_setw_pops hex hw hspecs hstack hx, tasko_executes hex, setWindow_invalid h]

end

/-! MFS (R258, R259). -/

/-- What MFS does with its core where it may execute. -/
def State.readSpecial (s : State) (d : TDec) (c : Core) : TR Core :=
  match s.special d c d.i.w with
  | none => .exc TF.ILLEGAL_INSTRUCTION
  | some v => if d.i.w = 4 ∧ c.rsvPending then .wait else c.give d [BitVec.ofNat 16 v]

theorem exec_mfs_reads {s : State} {n : Nat} {d : TDec} (hex : s.executes n .mfs d) (hspecs : (s.tcore n).specs = []) :
    exec (.mfs n) s = s.tasko n .mfs s.readSpecial := by
  refine (exec_mfs n s).trans (tasko_congr hex ?_)
  dsimp only
  rw [nonSpec_nil hspecs, ite_self]
  rfl

theorem readSpecial_some {s : State} {d : TDec} {c : Core} {v : Nat} (hv : s.special d c d.i.w = some v)
    (hrsv : d.i.w = 4 → c.rsvPending = false) : s.readSpecial d c = c.give d [BitVec.ofNat 16 v] := by
  rw [State.readSpecial, hv]
  refine if_neg (fun ⟨hw, hpending⟩ => ?_)
  rw [hrsv hw] at hpending
  cases hpending

theorem readSpecial_none {s : State} {d : TDec} {c : Core} (hv : s.special d c d.i.w = none) :
    s.readSpecial d c = .exc TF.ILLEGAL_INSTRUCTION := by rw [State.readSpecial, hv]

/-- Settles O7: the moves of general registers, the window register that SETW writes, and what MFS pushes. -/
theorem taskoRegisterMoves : Obligations.TaskoRegisterMoves := by
  unfold Obligations.TaskoRegisterMoves
  refine ⟨⟨?pushg, ?popg, ?incg, ?decg⟩, ?setw, ?mfs, ?mfsUndefined⟩
  case pushg =>
    intro s n d v hex hg hs hl
    rw [exec_pushg, execPushg, tasko_executes hex, withG_known hg, give_one hl hs]
  case popg =>
    intro s n d v rest hex hstack hs
    rw [exec_popg, execPopg, tasko_executes hex, pop1_ok _ v rest hstack, List.getD_cons_zero,
      finish_settled (((s.tcore n).withStack rest).setG d.i.g (.known v)) d.next hs]
  case incg => exact coreBecomes_of_ok exec_incg (fun _ d c ⟨v, hv⟩ => by rw [withG_known hv, hv])
  case decg => exact coreBecomes_of_ok exec_decg (fun _ d c ⟨v, hv⟩ => by rw [withG_known hv, hv])
  case setw =>
    intro s n d a b e f rest hex hw hspecs hstack x
    have hx := sumOf_words a b e f
    exact ⟨exec_setw_valid hex hw hspecs hstack hx, exec_setw_invalid hex hw hspecs hstack hx⟩
  case mfs =>
    intro s n d v hex hv hspecs hrsv hl
    rw [exec_mfs_reads hex hspecs, tasko_executes hex, readSpecial_some hv hrsv, give_one hl (.inl hspecs)]
  case mfsUndefined =>
    intro s n d hex hv hspecs
    rw [exec_mfs_reads hex hspecs, tasko_executes hex, readSpecial_none hv]

/-! The special registers of a core (R213, R237). -/

section
variable {s : State} {d : TDec} {c : Core} {k : Nat} {v : Half}

theorem special_stack (h : k ≤ 4) : s.special d c k ≠ none := by
  interval_cases k <;> exact Option.some_ne_none _

theorem special_management (hmg : d.mg = true) (hlo : 0x50 ≤ k) (hhi : k ≤ 0x58) : s.special d c k ≠ none := by
  interval_cases k <;> simp [State.special, hmg, winCount]

theorem special_sp (h : k = 0) : s.special d c k = some c.sp.toNat := if_pos h
theorem special_hwd (h : k = 3) : s.special d c k = some c.stack.length := by rw [h]; rfl

/-- HWD, RSV and SP are of kind STA: a write leaves them (R9, R213). -/
theorem setSpecial_stack (h : k ∈ [0, 3, 4]) (mg : Bool) : c.setSpecial mg k v = .ok c := by
  fin_cases h <;> rfl

theorem setSpecial_management (h : k ∈ [0x51, 0x52, 0x53, 0x58]) : c.setSpecial true k v = .ok c := by
  fin_cases h <;> rfl

end

/-! MTS (R258, R259). -/

section
variable {s : State} {n : Nat} {d : TDec} {v : Half} {rest : List TVal} (hex : s.executes n .mts d)
  (hspecs : (s.tcore n).specs = []) (hstack : (s.tcore n).stack = .known v :: rest)
  (hv : s.special d (s.tcore n) d.i.w ≠ none)
include hex hspecs hstack hv

theorem exec_mts_pops : exec (.mts n) s = s.tasko n .mts (fun d _ =>
    (((s.tcore n).withStack rest).setSpecial d.mg d.i.w v).bind (fun c => c.finish d.next)) := by
  have hdefined : ¬ (s.special d (s.tcore n) d.i.w).isNone = true := by rwa [Option.isNone_iff_eq_none]
  refine (exec_mts n s).trans (tasko_congr hex ((if_neg hdefined).trans ?_))
  rw [nonSpec_nil hspecs]
  exact pop1_ok _ v rest hstack _

theorem exec_mts_written {c : Core} (hc : ((s.tcore n).withStack rest).setSpecial d.mg d.i.w v = .ok c) (hs : c.specs = []) :
    exec (.mts n) s = .next (s.setTcore n (c.endsAt d.next)) := by
  rw [exec_mts_pops hex hspecs hstack hv, tasko_executes hex, hc, TR.bind_ok, finish_settled c _ (.inl hs)]

theorem exec_mts_fails {code : Nat} (hc : ((s.tcore n).withStack rest).setSpecial d.mg d.i.w v = .exc code) :
    exec (.mts n) s = .next (s.texc n code d.pc d.next) := by
  rw [exec_mts_pops hex hspecs hstack hv, tasko_executes hex, hc, TR.bind_exc]

end

/-- Settles O10: MFS pushes the value read before its push; MTS writes by field kind after its pop. -/
theorem taskoSpecialRegisters : Obligations.TaskoSpecialRegisters := by
  unfold Obligations.TaskoSpecialRegisters
  refine ⟨?mfs, ?mfsSpills, ?mts⟩
  case mfs =>
    intro s n d hex hspecs hl
    rw [exec_mfs_reads hex hspecs, tasko_executes hex]
    refine ⟨fun hw => ?_, fun hw => ?_⟩
    · rw [readSpecial_some (special_sp hw) (by omega), give_one hl (.inl hspecs), BitVec.ofNat_toNat, BitVec.setWidth_eq]
    · rw [readSpecial_some (special_hwd hw) (by omega), give_one hl (.inl hspecs)]
  case mfsSpills =>
    intro s n d l b hex hspecs hstack hl hroom after
    have hlength : (s.tcore n).stack.length = 16 := by rw [hstack, List.length_append, hl]; rfl
    rw [exec_mfs_reads hex hspecs, tasko_executes hex]
    refine ⟨fun hw => ?_, fun hw => ?_⟩
    · rw [readSpecial_some (special_sp hw) (by omega), give_spills hstack hl hspecs hroom, BitVec.ofNat_toNat,
        BitVec.setWidth_eq]
    · rw [readSpecial_some (special_hwd hw) (by omega), give_spills hstack hl hspecs hroom, hlength]
      rfl
  case mts =>
    intro s n d v rest hex hspecs hstack c go limit
    have hwritten := fun hv {c} => exec_mts_written hex hspecs hstack hv (c := c)
    have hlow : d.i.w ≤ 4 → s.special d (s.tcore n) d.i.w ≠ none := special_stack
    have hhigh : 128 ≤ n → 0x50 ≤ d.i.w → d.i.w ≤ 0x58 → s.special d (s.tcore n) d.i.w ≠ none :=
      fun hn => special_management (executes_management hex hn)
    refine ⟨fun hw => ⟨fun heq => ?_, fun hne => ?_⟩, fun hw => ⟨fun hle => ?_, fun hlt => ?_⟩, fun hw => ?_, fun hn hw => ?_,
      fun hn hw => ?_, fun hn hw => ?_, fun hn hw => ?_, fun hn hw => ?_, fun hn hw => ?_⟩
    · refine hwritten (hlow (by omega)) ?_ hspecs
      rw [hw]
      exact if_neg (not_not_intro heq)
    · refine exec_mts_fails hex hspecs hstack (hlow (by omega)) ?_
      rw [hw]
      exact if_pos hne
    · refine hwritten (hlow (by omega)) ?_ hspecs
      rw [hw]
      exact if_neg (Nat.not_lt.mpr hle)
    · refine exec_mts_fails hex hspecs hstack (hlow (by omega)) ?_
      rw [hw]
      exact if_pos hlt
    · exact hwritten (hlow ((by decide : ∀ k ∈ [0, 3, 4], k ≤ 4) _ hw)) (setSpecial_stack hw d.mg) hspecs
    · obtain ⟨hlo, hhi⟩ := (by decide : ∀ k ∈ [0x51, 0x52, 0x53, 0x58], 0x50 ≤ k ∧ k ≤ 0x58) _ hw
      refine hwritten (hhigh hn hlo hhi) ?_ hspecs
      rw [executes_management hex hn]
      exact setSpecial_management hw
    all_goals
      refine hwritten (hhigh hn (by omega) (by omega)) ?_ hspecs
      rw [executes_management hex hn, hw]
      rfl

end Sys2Proof.Machine
end

section
/-! Loads and stores (R118, R199, R202 to R204, R212, R228 to R236, R255, R256). -/

namespace Sys2Proof.Machine

/-! What a command of an operation answers. -/

section
variable {s t : State} {n : Nat} {op : TOp} {d : TDec} {f : TDec → Core → TX Unit} (hex : s.executes n op d)
include hex

theorem taskoX_ok (h : f d (s.tcore n) = .ok t ()) : s.taskoX n op f = .next t := by rw [taskoX_executes hex, h]

theorem taskoX_exc {code : Nat} (h : f d (s.tcore n) = .exc t code) :
    s.taskoX n op f = .next (t.texc n code d.pc d.next) := by rw [taskoX_executes hex, h]

/-- An instruction whose data-space form acts on its core alone. -/
theorem taskoX_data {x : TX Unit} {r : TR Core} {c : Core} (hf : f d (s.tcore n) = if d.i.win then x else TR.on s n r)
    (hwin : d.i.win = false) (hr : r = .ok c) : s.taskoX n op f = .next (s.setTcore n c) :=
  taskoX_ok hex (hf.trans ((if_neg (by rw [hwin]; decide)).trans (congrArg (TR.on s n) hr)))

end

/-! Words of data space (R255). -/

section
variable {c : Core} {a b v : Half}

theorem dataAt_of_find? (h : Tbl.find? b.toNat c.data = some v) : c.dataAt b = v := by rw [Core.dataAt, h]

/-- A word that no table lists is zero where the core runs no image. -/
theorem dataAt_unlisted (h : Tbl.find? b.toNat c.data = none) (himg : c.img = none) : c.dataAt b = 0 := by
  rw [Core.dataAt, h, himg]

theorem dataAt_congr {e : Core} (h : Tbl.find? b.toNat e.data = Tbl.find? b.toNat c.data) (himg : e.img = c.img)
    (hnum : e.num = c.num) : e.dataAt b = c.dataAt b := by rw [Core.dataAt, Core.dataAt, h, himg, hnum]

theorem putData_data_image {i : Nat} (himg : c.img = some i) : (c.putData a v).data = Tbl.set a.toNat v c.data :=
  if_pos (by rw [himg]; rfl)

theorem putData_data_bare (himg : c.img = none) : (c.putData a v).data = Tbl.put 0 a.toNat v c.data :=
  if_neg (by rw [himg]; decide)

theorem dataAt_putData_same (c : Core) (a v : Half) : (c.putData a v).dataAt a = v := by
  cases himg : c.img with
  | some i =>
    refine dataAt_of_find? ?_
    rw [putData_data_image himg, Tbl.find?_set_same]
  | none =>
    by_cases hv : v = 0
    · refine (dataAt_unlisted (c := c.putData a v) ?_ himg).trans hv.symm
      rw [putData_data_bare himg, Tbl.put, if_pos hv, Tbl.find?_del_same]
    · refine dataAt_of_find? ?_
      rw [putData_data_bare himg, Tbl.put, if_neg hv, Tbl.find?_set_same]

theorem dataAt_putData_ne (c : Core) {a b : Half} (h : b ≠ a) (v : Half) : (c.putData a v).dataAt b = c.dataAt b := by
  have hne : b.toNat ≠ a.toNat := mt BitVec.eq_of_toNat_eq h
  refine dataAt_congr ?_ rfl rfl
  cases himg : c.img with
  | some i => rw [putData_data_image himg, Tbl.find?_set_ne hne]
  | none => rw [putData_data_bare himg, Tbl.find?_put_ne hne]

/-- With no branch unresolved a store is not held. -/
theorem holdStore_nil (h : c.specs = []) (a : Half) : c.holdStore a = c := by
  cases c
  obtain rfl : _ = [] := h
  rfl

theorem regEff_ok (hs : c.settled) (d : TDec) (y : TVal) : regEff d y c = .ok ((c.setG d.i.g y).endsAt d.next) :=
  finish_settled (c.setG d.i.g y) d.next hs

theorem pushEff_ok {rest : List TVal} (hl : rest.length < 16) (hs : c.settled) (d : TDec) (y : TVal) :
    pushEff d y (c.withStack rest) = .ok ((c.withStack (y :: rest)).endsAt d.next) := by
  rw [pushEff, push_ok (c.withStack rest) y hl]
  exact finish_settled (c.withStack (y :: rest)) d.next hs

end

/-! The data-space forms (R219, R228 to R230, R255). -/

theorem replaces1_ld : Replaces1 .ld .ld (fun c a => [c.dataAt a]) := by
  intro s n d a rest hex hstack hs hl
  rw [exec_ld, execLd, tasko_executes hex, pop1_ok _ a rest hstack,
    give_one (c := (s.tcore n).withStack rest) (Nat.lt_of_succ_le hl) hs]
  rfl

section
variable {s : State} {n : Nat} {d : TDec} {a x : Half} {rest : List TVal} (env : Env)

theorem exec_st_stores (hex : s.executes n .st d) (hstack : (s.tcore n).stack = .known a :: .known x :: rest)
    (hspecs : (s.tcore n).specs = []) :
    exec (.st n) s = .next (s.setTcore n ((((s.tcore n).withStack rest).putData a x).endsAt d.next)) := by
  have hroom : ¬ 8 ≤ sumOf ((s.tcore n).specs.map (fun p => p.stores.length)) := by rw [hspecs]; decide
  have hstored : (((s.tcore n).withStack rest).putData a x).holdStore a = ((s.tcore n).withStack rest).putData a x :=
    holdStore_nil (c := ((s.tcore n).withStack rest).putData a x) hspecs a
  rw [exec_st, execSt, tasko_executes hex, if_neg hroom, pop2_ok _ a x rest hstack, List.getD_cons_zero, List.getD_cons_succ,
    List.getD_cons_zero, hstored, finish_settled (((s.tcore n).withStack rest).putData a x) _ (.inl hspecs)]

theorem exec_st_held (hex : s.executes n .st d) (h : 8 ≤ sumOf ((s.tcore n).specs.map (fun p => p.stores.length))) :
    exec (.st n) s = .next s := by rw [exec_st, execSt, tasko_executes hex, if_pos h]

theorem exec_tas_data (hex : s.executes n .tas d) (hwin : d.i.win = false) (hstack : (s.tcore n).stack = .known a :: rest)
    (hspecs : (s.tcore n).specs = []) : exec (.tas n env) s = .next (s.setTcore n
      (((((s.tcore n).withStack rest).putData a 1).setG d.i.g (.known ((s.tcore n).dataAt a))).endsAt d.next)) := by
  refine (exec_tas n env s).trans (taskoX_data hex rfl hwin ?_)
  rw [nonSpec_nil hspecs, pop1_ok _ a rest hstack]
  exact regEff_ok (c := ((s.tcore n).withStack rest).putData a 1) (.inl hspecs) d (.known ((s.tcore n).dataAt a))

theorem exec_ldr_data (hex : s.executes n .ldr d) (hwin : d.i.win = false) (hstack : (s.tcore n).stack = .known a :: rest)
    (hspecs : (s.tcore n).specs = []) (hrsv : (s.tcore n).rsvPending = false) (hl : rest.length < 16) :
    exec (.ldr n env) s = .next (s.setTcore n { (((s.tcore n).withStack
      (.known ((s.tcore n).dataAt a) :: rest)).endsAt d.next) with rsv := some (1, a.toNat / 32) }) := by
  refine (exec_ldr n env s).trans (taskoX_data hex rfl hwin ?_)
  rw [nonSpec_nil hspecs, if_neg (by rw [hrsv]; decide), pop1_ok _ a rest hstack]
  dsimp only
  rw [give_one (c := (s.tcore n).withStack rest) hl (.inl hspecs)]
  rfl

/-- What STC does with its core in data space once its operands are popped, as the core holds a reservation of the block or
not (R230). -/
def Core.condStore (c : Core) (d : TDec) (held : Bool) (a x : Half) : TR Core :=
  regEff d (.known (halfBit held)) { (if held then c.putData a x else c) with rsv := none }

section
variable (hex : s.executes n .stc d) (hwin : d.i.win = false) (hstack : (s.tcore n).stack = .known a :: .known x :: rest)
  (hspecs : (s.tcore n).specs = []) (hrsv : (s.tcore n).rsvPending = false)
include hex hwin hstack hspecs hrsv

theorem exec_stc_decided {held : Bool} {c : Core} (hheld : decide ((s.tcore n).rsv = some (1, a.toNat / 32)) = held)
    (hc : ((s.tcore n).withStack rest).condStore d held a x = .ok c) : exec (.stc n env) s = .next (s.setTcore n c) := by
  subst hheld
  refine (exec_stc n env s).trans (taskoX_data hex rfl hwin ?_)
  rw [nonSpec_nil hspecs, if_neg (by rw [hrsv]; decide), pop2_ok _ a x rest hstack]
  exact hc

theorem exec_stc_held (h : (s.tcore n).rsv = some (1, a.toNat / 32)) : exec (.stc n env) s = .next (s.setTcore n
    (({ ((s.tcore n).withStack rest).putData a x with rsv := none }.setG d.i.g (.known 1)).endsAt d.next)) :=
  exec_stc_decided env hex hwin hstack hspecs hrsv (decide_eq_true h)
    (regEff_ok (c := { ((s.tcore n).withStack rest).putData a x with rsv := none }) (.inl hspecs) d (.known 1))

theorem exec_stc_lost (h : (s.tcore n).rsv ≠ some (1, a.toNat / 32)) : exec (.stc n env) s = .next (s.setTcore n
    (({ (s.tcore n).withStack rest with rsv := none }.setG d.i.g (.known 0)).endsAt d.next)) :=
  exec_stc_decided env hex hwin hstack hspecs hrsv (decide_eq_false h)
    (regEff_ok (c := { (s.tcore n).withStack rest with rsv := none }) (.inl hspecs) d (.known 0))

end

end

/-! The check of a window onto the tile's own SRAM (R202). -/

section
variable {k : WKind} {w : Nat}

/-- A window access is allowed where VALID is set, and WR for anything but a load. -/
def winAllows (k : WKind) (w : Nat) : Prop := bit w 60 = true ∧ (k = .load ∨ bit w 61 = true)

theorem winGuard_iff : (!bit w 60 || (k != .load && !bit w 61)) = true ↔ ¬ winAllows k w := by
  unfold winAllows
  cases bit w 60 <;> cases bit w 61 <;> simp

theorem winCheck_denied (h : ¬ winAllows k w) (s : State) (n : Nat) (o : Half) :
    s.winCheck n k w o = .exc s TF.WINDOW_FAULT := if_pos (winGuard_iff.mpr h)

theorem winCheck_sram (hspace : winSpace w = 1) (h : winAllows k w) (s : State) (n : Nat) (o : Half) : s.winCheck n k w o =
    if 0x200000 ≤ winBase w + 2 * o.toNat + 1 then .exc s TF.WINDOW_FAULT else .ok s (.ownSram, winBase w + 2 * o.toNat) := by
  rw [State.winCheck, if_neg (fun hdenied => winGuard_iff.mp hdenied h), hspace]
  rfl

end

/-! Window instructions (R204, R212, R236, R238, R256). -/

section
variable {s t : State} {env : Env} {d : TDec} {c : Core} {k : WKind} {v0 : Half} {eff : TVal → Core → TR Core} {sp : WSpace}
variable {a : Nat} {vs : List Half} {rest : List TVal} (hw : d.i.w < winCount d.mg) (hspecs : c.specs = [])
  (hstack : c.stack = vs.map .known ++ rest)
include hw hspecs hstack

theorem winOp_fails {code : Nat}
    (hcheck : s.winCheck d.core k (Tbl.getD c.wins d.i.w 0).toNat (vs.getD 0 0) = .exc t code) :
    s.winOp env d c k vs.length v0 eff = .exc t code := by
  simp only [State.winOp, if_neg (Nat.not_le.mpr hw), nonSpec_nil hspecs, pop_ok c vs rest hstack, hcheck]

section
variable (hcheck : s.winCheck d.core k (Tbl.getD c.wins d.i.w 0).toNat (vs.getD 0 0) = .ok t (sp, a))
include hcheck

/-- An access that passes its check is posted: the core goes on, and the access is outstanding. -/
theorem winOp_posted {e : Core} (hkind : d.mg = true → k = .store) (hrsv : c.rsvPending = false ∨ k = .store)
    (heff : eff (.await s.fresh) (c.withStack rest) = .ok e) : s.winOp env d c k vs.length v0 eff =
      .ok (s.postAccess d.core k sp a (if vs.length = 2 then vs.getD 1 0 else v0) e d.pc) () := by
  have hpost : ¬ (d.mg && k != .store) = true := by simpa using hkind
  have hfree : ¬ ((k == .loadReserved || k == .storeConditional) && c.rsvPending) = true := by
    rcases hrsv with h | h <;> simp [h]
  have htake := take_ok c (vs.map .known) rest hstack (fun _ c1 => eff (.await s.fresh) c1)
  rw [List.length_map] at htake
  simp only [State.winOp, if_neg (Nat.not_le.mpr hw), nonSpec_nil hspecs, pop_ok c vs rest hstack, hcheck, if_neg hpost,
    if_neg hfree, htake, heff]

section
variable (hmg : d.mg = true) (hkind : k ≠ .store)
include hmg hkind

/-- A management core performs a load or an atomic within its instruction. -/
theorem winOp_performed {u : State} {y : Half}
    (h : s.mgPerform env d.core k sp a (if vs.length = 2 then vs.getD 1 0 else v0) = .ok u y) :
    s.winOp env d c k vs.length v0 eff = TR.on u d.core
      ((u.tcore d.core).take vs.length (fun _ c1 => eff (.known y) { c1 with loading := false })) := by
  have hperform : (d.mg && k != .store) = true := by simpa [hmg] using hkind
  simp only [State.winOp, if_neg (Nat.not_le.mpr hw), nonSpec_nil hspecs, pop_ok c vs rest hstack, hcheck, if_pos hperform, h]

theorem winOp_waits (h : s.mgPerform env d.core k sp a (if vs.length = 2 then vs.getD 1 0 else v0) = .wait) :
    s.winOp env d c k vs.length v0 eff = .ok (s.setLoading d.core true) () := by
  have hperform : (d.mg && k != .store) = true := by simpa [hmg] using hkind
  simp only [State.winOp, if_neg (Nat.not_le.mpr hw), nonSpec_nil hspecs, pop_ok c vs rest hstack, hcheck, if_pos hperform, h]

end

end

end

theorem mgPerform_load {s : State} {n a : Nat} (h : s.sameBlock n .management a = false) (env : Env) (v : Half) :
    s.mgPerform env n .load .management a v = .ok s (s.mgRead (n - 128) a) := if_neg (by simp [h])

theorem mgPerform_behind {s : State} {n a : Nat} {sp : WSpace} (h : s.sameBlock n sp a = true) (env : Env) (k : WKind)
    (v : Half) : s.mgPerform env n k sp a v = .wait := if_pos (by rw [h]; rfl)

theorem stc_lost {s : State} {n a : Nat} {sp : WSpace} (h : (s.tcore n).rsv ≠ some (rsvBlock n sp a)) (env : Env) (v : Half) :
    s.winPerform env n .storeConditional sp a v = .ok (s.setRsv n none) 0 := if_neg h

/-! A word of management space that a management core loads (R238). -/

section
variable {s t : State} {n a : Nat} {d : TDec} {o : Half} {rest : List TVal} (env : Env) (hn : 128 ≤ n) (hw : d.i.w < 16)
  (hex : s.executes n .ldx d) (hspecs : (s.tcore n).specs = []) (hstack : (s.tcore n).stack = .known o :: rest)
  (hcheck : s.winCheck n .load (Tbl.getD (s.tcore n).wins d.i.w 0).toNat o = .ok t (.management, a))
include hn hw hex hspecs hstack hcheck

theorem exec_ldx_management_loads (hl : rest.length < 16) (hfree : s.sameBlock n .management a = false) :
    exec (.ldx n env) s = .next (s.setTcore n
      (({ (s.tcore n).withStack (.known (s.mgRead (n - 128) a) :: rest) with loading := false }).endsAt d.next)) := by
  have hmg := executes_management hex hn
  obtain rfl := executes_core hex
  have hperform := winOp_performed (vs := [o]) (eff := pushEff d) (by rw [hmg]; exact hw) hspecs hstack hcheck hmg (by decide)
    (mgPerform_load hfree env 0)
  have hpush := (take1_ok _ (.known o) rest hstack
    (fun _ c1 => pushEff d (.known (s.mgRead (d.core - 128) a)) { c1 with loading := false })).trans
    (pushEff_ok (c := (s.tcore d.core).idle) hl (.inl hspecs) d _)
  exact (exec_ldx _ env s).trans (taskoX_ok hex (hperform.trans (congrArg (TR.on s d.core) hpush)))

theorem exec_ldx_management_waits (hbehind : s.sameBlock n .management a = true) :
    exec (.ldx n env) s = .next (s.setTcore n { s.tcore n with loading := true }) := by
  have hmg := executes_management hex hn
  obtain rfl := executes_core hex
  exact (exec_ldx _ env s).trans (taskoX_ok hex (winOp_waits (vs := [o]) (by rw [hmg]; exact hw) hspecs hstack hcheck hmg
    (by decide) (mgPerform_behind hbehind env _ _)))

end

/-! The check of a window instruction fails, and a management core's store (R256). -/

theorem exec_ldx_fails {s t : State} {n code : Nat} {d : TDec} {o : Half} {rest : List TVal} (env : Env)
    (hex : s.executes n .ldx d) (hw : d.i.w < winCount d.mg) (hspecs : (s.tcore n).specs = [])
    (hstack : (s.tcore n).stack = .known o :: rest)
    (hcheck : s.winCheck n .load (Tbl.getD (s.tcore n).wins d.i.w 0).toNat o = .exc t code) :
    exec (.ldx n env) s = .next (t.texc n code d.pc d.next) := by
  obtain rfl := executes_core hex
  exact (exec_ldx _ env s).trans (taskoX_exc hex (winOp_fails (vs := [o]) hw hspecs hstack hcheck))

theorem exec_stx_posts {s t : State} {n a : Nat} {d : TDec} {o x : Half} {rest : List TVal} {sp : WSpace} (env : Env)
    (hex : s.executes n .stx d) (hw : d.i.w < winCount d.mg) (hspecs : (s.tcore n).specs = [])
    (hstack : (s.tcore n).stack = .known o :: .known x :: rest)
    (hcheck : s.winCheck n .store (Tbl.getD (s.tcore n).wins d.i.w 0).toNat o = .ok t (sp, a)) :
    exec (.stx n env) s = .next (s.postAccess n .store sp a x (((s.tcore n).withStack rest).endsAt d.next) d.pc) := by
  obtain rfl := executes_core hex
  exact (exec_stx _ env s).trans (taskoX_ok hex (winOp_posted (vs := [o, x]) (eff := fun _ c => c.finish d.next) hw hspecs hstack
    hcheck (fun _ => rfl) (.inr rfl) (finish_settled _ _ (.inl hspecs))))

/-! A tile sequencer goes on while its access waits (R204, R212). -/

section
variable {s t : State} {n a : Nat} {d : TDec} {o : Half} {rest : List TVal} {sp : WSpace} (env : Env) (hn : n < 128)
  (hw : d.i.w < 4) (hspecs : (s.tcore n).specs = []) (hrsv : (s.tcore n).rsvPending = false)
include hn hw hspecs hrsv

theorem exec_ldx_tile (hex : s.executes n .ldx d) (hstack : (s.tcore n).stack = .known o :: rest) (hl : rest.length < 16)
    (hcheck : s.winCheck n .load (Tbl.getD (s.tcore n).wins d.i.w 0).toNat o = .ok t (sp, a)) : exec (.ldx n env) s =
      .next (s.postAccess n .load sp a 0 (((s.tcore n).withStack (.await s.fresh :: rest)).endsAt d.next) d.pc) := by
  have hmg := executes_tile hex hn
  obtain rfl := executes_core hex
  exact (exec_ldx _ env s).trans (taskoX_ok hex (winOp_posted (vs := [o]) (by rw [hmg]; exact hw) hspecs hstack hcheck
    (by rw [hmg]; decide) (.inl hrsv) (pushEff_ok hl (.inl hspecs) d _)))

theorem exec_ldr_tile (hex : s.executes n .ldr d) (hwin : d.i.win = true) (hstack : (s.tcore n).stack = .known o :: rest)
    (hl : rest.length < 16)
    (hcheck : s.winCheck n .loadReserved (Tbl.getD (s.tcore n).wins d.i.w 0).toNat o = .ok t (sp, a)) : exec (.ldr n env) s =
      .next (s.postAccess n .loadReserved sp a 0 (((s.tcore n).withStack (.await s.fresh :: rest)).endsAt d.next) d.pc) := by
  have hmg := executes_tile hex hn
  obtain rfl := executes_core hex
  exact (exec_ldr _ env s).trans (taskoX_ok hex ((if_pos hwin).trans (winOp_posted (vs := [o]) (by rw [hmg]; exact hw) hspecs
    hstack hcheck (by rw [hmg]; decide) (.inl hrsv) (pushEff_ok hl (.inl hspecs) d _))))

theorem exec_tas_tile (hex : s.executes n .tas d) (hwin : d.i.win = true) (hstack : (s.tcore n).stack = .known o :: rest)
    (hcheck : s.winCheck n .tas (Tbl.getD (s.tcore n).wins d.i.w 0).toNat o = .ok t (sp, a)) : exec (.tas n env) s =
      .next (s.postAccess n .tas sp a 1 ((((s.tcore n).withStack rest).setG d.i.g (.await s.fresh)).endsAt d.next) d.pc) := by
  have hmg := executes_tile hex hn
  obtain rfl := executes_core hex
  exact (exec_tas _ env s).trans (taskoX_ok hex ((if_pos hwin).trans (winOp_posted (vs := [o]) (by rw [hmg]; exact hw) hspecs
    hstack hcheck (by rw [hmg]; decide) (.inl hrsv) (regEff_ok (c := (s.tcore d.core).withStack rest) (.inl hspecs) d _))))

theorem exec_stc_tile {x : Half} (hex : s.executes n .stc d) (hwin : d.i.win = true)
    (hstack : (s.tcore n).stack = .known o :: .known x :: rest)
    (hcheck : s.winCheck n .storeConditional (Tbl.getD (s.tcore n).wins d.i.w 0).toNat o = .ok t (sp, a)) :
    exec (.stc n env) s = .next (s.postAccess n .storeConditional sp a x
      ((((s.tcore n).withStack rest).setG d.i.g (.await s.fresh)).endsAt d.next) d.pc) := by
  have hmg := executes_tile hex hn
  obtain rfl := executes_core hex
  exact (exec_stc _ env s).trans (taskoX_ok hex ((if_pos hwin).trans (winOp_posted (vs := [o, x]) (by rw [hmg]; exact hw) hspecs
    hstack hcheck (by rw [hmg]; decide) (.inl hrsv) (regEff_ok (c := (s.tcore d.core).withStack rest) (.inl hspecs) d _))))

end

/-! An outstanding access is granted and performed, or fails (R118, R204, R232, R234, R235). -/

/-- The core without an access that has been performed. -/
def State.dropAccess (s : State) (n : Nat) (x : WinAccess) : State :=
  s.setTcore n { s.tcore n with accesses := (s.tcore n).accesses.filter (fun y => y.id != x.id) }

section
variable {s t : State} {n idx : Nat} {env : Env} {x : WinAccess} (hx : (s.tcore n).accesses[idx]? = some x)
include hx

theorem exec_windowAccessReturn_waits (h : s.mayGrant n x = false) : exec (.windowAccessReturn n idx env) s = .next s := by
  rw [exec_windowAccessReturn, execWindowAccessReturn, hx]
  dsimp only
  rw [if_pos (by rw [h]; rfl)]

theorem exec_windowAccessReturn_performed (hgrant : s.mayGrant n x = true) {v : Half}
    (h : s.winPerform env n x.kind x.space x.addr x.value = .ok t v) : exec (.windowAccessReturn n idx env) s =
      .next (if n < 128 then (t.dropAccess n x).settle n x.id v else t.dropAccess n x) := by
  rw [exec_windowAccessReturn, execWindowAccessReturn, hx]
  dsimp only
  rw [if_neg (by rw [hgrant]; decide), h]
  rfl

theorem exec_windowAccessReturn_failed (hgrant : s.mayGrant n x = true) {code : Nat}
    (h : s.winPerform env n x.kind x.space x.addr x.value = .exc t code) : exec (.windowAccessReturn n idx env) s =
      .next ((t.dropAccess n x).lateFault n x code) := by
  rw [exec_windowAccessReturn, execWindowAccessReturn, hx]
  dsimp only
  rw [if_neg (by rw [hgrant]; decide), h]
  rfl

end

theorem lateFault_tile {s : State} {n : Nat} (hn : n < 128) (hfault : (s.tile n).fault = none) (x : WinAccess) (code : Nat) :
    s.lateFault n x code = (s.setTcore n { s.tcore n with
      data := x.data, specs := [], heldExc := none, waitu := none }).raiseFault n ⟨code, x.pc, 0, 0, some x.id⟩ := by
  rw [State.lateFault, if_pos hn, hfault]
  rfl

theorem lateFault_management {s : State} {n : Nat} (hn : 128 ≤ n) (hrun : (s.tcore n).run = .running) (x : WinAccess)
    (code : Nat) : s.lateFault n x code = s.texc n code x.pc x.pc := by
  rw [State.lateFault, if_neg (Nat.not_lt.mpr hn), if_pos hrun]

/-! The arbiters (R118, R204, R232). -/

/-- An access that stands at its arbiter is outstanding, and no earlier access of its core to its block holds it back. -/
theorem mem_standing {n : Nat} {c : Core} {x : WinAccess} (h : x ∈ c.standing n) : ∃ i, c.accesses[i]? = some x ∧
    ∀ y ∈ c.accesses.take i, rsvBlock n y.space y.addr ≠ rsvBlock n x.space x.addr := by
  rw [Core.standing, List.mem_filterMap] at h
  obtain ⟨o, ho, rfl : o = some x⟩ := h
  obtain ⟨i, hi, hstands⟩ := List.mem_mapIdx.mp ho
  split at hstands
  · cases hstands
  · next hnone =>
    obtain rfl := Option.some.inj hstands
    refine ⟨i, List.getElem?_eq_getElem hi, fun y hy hblock => hnone ?_⟩
    exact List.any_of_mem hy (beq_iff_eq.mpr hblock)

theorem mayGrant_iff {s : State} {n : Nat} {x : WinAccess} : s.mayGrant n x = true ↔
    x ∈ s.atArbiter n ∧ ∀ u b w, x.sram n = some (u, b, w) → bankGrants (s.bankWaits u (bankOf b)) w = true := by
  rw [State.mayGrant, Bool.and_eq_true, List.contains_iff_mem]
  refine and_congr_right fun _ => ?_
  cases x.sram n with
  | none => simp
  | some p =>
    obtain ⟨u, b, w⟩ := p
    simp

theorem mem_atArbiter {s : State} {n : Nat} {x : WinAccess} : x ∈ s.atArbiter n ↔ x ∈ (s.tcore n).standing n ∧
    ¬ (x.kind = .storeConditional ∧ s.writeWaits n (rsvBlock n x.space x.addr) = true) := by
  simp [State.atArbiter, List.mem_filter, imp_iff_not_or]

theorem mayGrant_behind {s : State} {n idx : Nat} {x : WinAccess} (hx : (s.tcore n).accesses[idx]? = some x)
    (hnodup : (s.tcore n).accesses.Nodup)
    (hbehind : ∃ y ∈ (s.tcore n).accesses.take idx, rsvBlock n y.space y.addr = rsvBlock n x.space x.addr) :
    s.mayGrant n x = false := by
  rw [Bool.eq_false_iff]
  intro hgrant
  obtain ⟨hat, -⟩ := mayGrant_iff.mp hgrant
  obtain ⟨hstands, -⟩ := mem_atArbiter.mp hat
  obtain ⟨i, hi, hfirst⟩ := mem_standing hstands
  obtain ⟨hlt, -⟩ := List.getElem?_eq_some_iff.mp hx
  obtain rfl := (List.getElem?_inj hlt hnodup).mp (hx.trans hi.symm)
  obtain ⟨y, hy, hblock⟩ := hbehind
  exact hfirst y hy hblock

theorem mayGrant_storeConditional {s : State} {n : Nat} {x : WinAccess} (hkind : x.kind = .storeConditional)
    (hwaits : s.writeWaits n (rsvBlock n x.space x.addr) = true) : s.mayGrant n x = false := by
  rw [Bool.eq_false_iff]
  intro hgrant
  obtain ⟨hat, -⟩ := mayGrant_iff.mp hgrant
  obtain ⟨-, hfree⟩ := mem_atArbiter.mp hat
  exact hfree ⟨hkind, hwaits⟩

theorem mayGrant_bank {s : State} {n u b : Nat} {x : WinAccess} {w y : BankWait} (hsram : x.sram n = some (u, b, w))
    (hy : y ∈ s.bankWaits u (bankOf b)) (hbefore : y.since < w.since ∨ (y.since = w.since ∧ y.req.rank < w.req.rank)) :
    s.mayGrant n x = false := by
  rw [Bool.eq_false_iff]
  intro hgrant
  obtain ⟨-, hbank⟩ := mayGrant_iff.mp hgrant
  have hlast := List.all_eq_true.mp (hbank u b w hsram) y hy
  rw [BankWait.before, decide_eq_true hbefore] at hlast
  cases hlast

/-- Settles O9: each clause is the lemma about that instruction in that space, or about the arbiter that lets it go. -/
theorem taskoLoadsAndStores : Obligations.TaskoLoadsAndStores := by
  unfold Obligations.TaskoLoadsAndStores
  refine ⟨⟨replaces1_ld, ?st, ?stHeld, ?putData, ?tas, ?ldr, ?stc⟩, ⟨?winCheck, ?tile, ?ldxFails⟩, ?stxManagement, ?returned,
    ?stcLost, ?ldxManagement⟩
  case st => exact fun s n d a x rest hex hstack hspecs => exec_st_stores hex hstack hspecs
  case stHeld => exact fun s n d hex h => exec_st_held hex h
  case putData =>
    intro c a x b
    split
    case isTrue h => rw [h, dataAt_putData_same]
    case isFalse h => rw [dataAt_putData_ne c h]
  case tas => exact fun s n d env a rest hex hwin hstack hspecs => exec_tas_data env hex hwin hstack hspecs
  case ldr => exact fun s n d env a rest hex hwin hstack hspecs hrsv hl => exec_ldr_data env hex hwin hstack hspecs hrsv hl
  case stc =>
    intro s n d env a x rest hex hwin hstack hspecs hrsv
    exact ⟨exec_stc_held env hex hwin hstack hspecs hrsv, exec_stc_lost env hex hwin hstack hspecs hrsv⟩
  case winCheck =>
    intro s n k w o hspace
    refine ⟨fun ⟨hvalid, hwrite, hrange⟩ => ?_, fun h => ?_⟩
    · rw [winCheck_sram hspace ⟨hvalid, hwrite⟩, if_neg (Nat.not_le.mpr hrange)]
    · rcases h with hvalid | ⟨hkind, hwrite⟩ | hrange
      · exact winCheck_denied (fun ⟨h, _⟩ => absurd (hvalid.symm.trans h) (by decide)) s n o
      · exact winCheck_denied (fun ⟨_, h⟩ => absurd (hwrite.symm.trans (h.resolve_left hkind)) (by decide)) s n o
      · by_cases hallows : winAllows k w
        · rw [winCheck_sram hspace hallows, if_pos hrange]
        · exact winCheck_denied hallows s n o
  case tile =>
    intro s n d env o rest t sp a hn hw hspecs hrsv c word acc gone
    refine ⟨fun hex hstack hl hcheck => ?_, fun hex hwin hstack hl hcheck => ?_, fun hex hwin hstack hcheck => ?_,
      fun x hex hstack hcheck => ?_, fun x hex hwin hstack hcheck => ?_⟩
    · exact exec_ldx_tile env hn hw hspecs hrsv hex hstack hl hcheck
    · exact exec_ldr_tile env hn hw hspecs hrsv hex hwin hstack hl hcheck
    · exact exec_tas_tile env hn hw hspecs hrsv hex hwin hstack hcheck
    · exact exec_stx_posts env hex (by rw [executes_tile hex hn]; exact hw) hspecs hstack hcheck
    · exact exec_stc_tile env hn hw hspecs hrsv hex hwin hstack hcheck
  case ldxFails =>
    intro s n d env o t code hw hspecs hex hstack hcheck
    obtain ⟨rest, hstack⟩ := hstack
    exact exec_ldx_fails env hex hw hspecs hstack hcheck
  case stxManagement =>
    intro s n d env o x rest t sp a hn hw hex hspecs hstack hcheck
    exact exec_stx_posts env hex (by rw [executes_management hex hn]; exact hw) hspecs hstack hcheck
  case returned =>
    intro s n idx env x hx gone
    refine ⟨fun hgrant => ⟨fun t v h => ?_, fun t code h => ?_⟩, fun hwaits => exec_windowAccessReturn_waits hx hwaits,
      mayGrant_behind hx, mayGrant_storeConditional, fun u b w y => mayGrant_bank⟩
    · rw [exec_windowAccessReturn_performed hx hgrant h]
      exact ⟨fun hn => by rw [if_pos hn]; rfl, fun hn => by rw [if_neg (Nat.not_lt.mpr hn)]; rfl⟩
    · rw [exec_windowAccessReturn_failed hx hgrant h]
      exact ⟨fun hn hfault => congrArg _ (lateFault_tile hn hfault x code),
        fun hn hrun => congrArg _ (lateFault_management hn hrun x code)⟩
  case stcLost => exact fun s n env sp a v h => stc_lost h env v
  case ldxManagement =>
    intro s n d env o rest t a hn hw hex hspecs hstack hl hcheck
    exact ⟨exec_ldx_management_loads env hn hw hex hspecs hstack hcheck hl,
      exec_ldx_management_waits env hn hw hex hspecs hstack hcheck⟩

end Sys2Proof.Machine
end

section
/-! The orders of SORT, MERGE and SETOP (R283, R297, R298). -/

namespace Sys2Proof.Machine

/-! A record inserted into a sorted list. -/

theorem insertRec_perm (r : Nat × List Byte) (l : List (Nat × List Byte)) : (insertRec r l).Perm (r :: l) := by
  induction l with
  | nil => exact .refl _
  | cons q t ih =>
    rw [insertRec]
    split
    · exact .refl _
    · exact (ih.cons q).trans (.swap r q t)

theorem insertRec_pairwise (r : Nat × List Byte) {l : List (Nat × List Byte)} (h : l.Pairwise (fun a b => a.1 ≤ b.1)) :
    (insertRec r l).Pairwise (fun a b => a.1 ≤ b.1) := by
  induction l with
  | nil => exact List.pairwise_singleton _ r
  | cons q t ih =>
    obtain ⟨hq, ht⟩ := List.pairwise_cons.mp h
    rw [insertRec]
    split
    next hlt =>
      refine h.cons fun p hp => ?_
      rcases List.mem_cons.mp hp with rfl | hp
      · exact hlt.le
      · exact hlt.le.trans (hq p hp)
    next hge =>
      refine (ih ht).cons fun p hp => ?_
      rcases List.mem_cons.mp ((insertRec_perm r t).mem_iff.mp hp) with rfl | hp
      · exact Nat.le_of_not_lt hge
      · exact hq p hp

/-- Among the records of its own key, a record inserted into a sorted list comes last. -/
theorem filter_insertRec (k : Nat) (r : Nat × List Byte) {l : List (Nat × List Byte)} (h : l.Pairwise (fun a b => a.1 ≤ b.1)) :
    (insertRec r l).filter (fun p => p.1 == k) = (l ++ [r]).filter (fun p => p.1 == k) := by
  induction l with
  | nil => rfl
  | cons q t ih =>
    obtain ⟨hq, ht⟩ := List.pairwise_cons.mp h
    rw [insertRec]
    split
    next hlt =>
      by_cases hk : r.1 = k
      · have hnone : (q :: t).filter (fun p => p.1 == k) = [] := List.filter_eq_nil_iff.mpr fun p hp => by
          have hle : q.1 ≤ p.1 := (List.mem_cons.mp hp).elim (fun e => e ▸ le_rfl) (hq p)
          simp only [beq_iff_eq]
          omega
        rw [List.filter_append, hnone, List.filter_cons, hnone]
        simp [hk]
      · have hnone : [r].filter (fun p => p.1 == k) = [] := List.filter_cons_of_neg (by simpa using hk)
        rw [List.filter_append, hnone, List.append_nil, List.filter_cons_of_neg (by simpa using hk)]
    next => rw [List.filter_cons, ih ht, List.cons_append, List.filter_cons]

/-! The stable ascending order: each record is inserted after those before it (R297). -/

theorem sortRecs_concat (l : List (Nat × List Byte)) (r : Nat × List Byte) : sortRecs (l ++ [r]) = insertRec r (sortRecs l) := by
  rw [sortRecs, List.foldl_append]
  rfl

theorem sortRecs_perm (l : List (Nat × List Byte)) : (sortRecs l).Perm l := by
  induction l using List.reverseRecOn with
  | nil => exact .refl _
  | append_singleton l r ih =>
    rw [sortRecs_concat]
    exact (insertRec_perm r _).trans ((ih.cons r).trans (List.perm_append_singleton r l).symm)

theorem sortRecs_pairwise (l : List (Nat × List Byte)) : (sortRecs l).Pairwise (fun a b => a.1 ≤ b.1) := by
  induction l using List.reverseRecOn with
  | nil => exact .nil
  | append_singleton l r ih =>
    rw [sortRecs_concat]
    exact insertRec_pairwise r ih

theorem filter_sortRecs (k : Nat) (l : List (Nat × List Byte)) :
    (sortRecs l).filter (fun r => r.1 == k) = l.filter (fun r => r.1 == k) := by
  induction l using List.reverseRecOn with
  | nil => rfl
  | append_singleton l r ih =>
    rw [sortRecs_concat, filter_insertRec k r (sortRecs_pairwise l), List.filter_append, List.filter_append, ih]

/-! Two's complement keys (R283). -/

/-- The rank of a two's complement key is its number, moved up by half the range. -/
theorem signed_eq_offset {w n : Nat} (hw : 0 < w) (hn : n < 2 ^ w) :
    signed w n = ((n + 2 ^ (w - 1)) % 2 ^ w : Nat) - (2 ^ (w - 1) : Nat) := by
  have hhalf : 2 ^ w = 2 * 2 ^ (w - 1) := by rw [← pow_succ', Nat.sub_add_cancel hw]
  have hcast : (2 ^ w : Int) = (2 ^ w : Nat) := by norm_cast
  rw [signed, hcast, ← Int.natCast_mod, Nat.mod_eq_of_lt hn]
  generalize 2 ^ (w - 1) = p at hhalf ⊢
  split
  next hlow => rw [Nat.mod_eq_of_lt (by omega)]; omega
  next hhigh => rw [Nat.mod_eq_sub_mod (by omega), Nat.mod_eq_of_lt (by omega)]; omega

theorem keyBytes_pos (x : GArgs) : 0 < keyBytes x := by
  rw [keyBytes]
  split <;> decide

theorem keyRank_twosComplement {x : GArgs} (h : field x.mode 2 1 = 1) (k : Nat) :
    keyRank x k = (k + 2 ^ (8 * keyBytes x - 1)) % 2 ^ (8 * keyBytes x) := by
  rw [keyRank, h]
  rfl

theorem keyRank_lt_iff_signed {x : GArgs} (h : field x.mode 2 1 = 1) {a b : Nat} (ha : a < 2 ^ (8 * keyBytes x))
    (hb : b < 2 ^ (8 * keyBytes x)) :
    keyRank x a < keyRank x b ↔ signed (8 * keyBytes x) a < signed (8 * keyBytes x) b := by
  have hw : 0 < 8 * keyBytes x := Nat.mul_pos (by decide) (keyBytes_pos x)
  rw [signed_eq_offset hw ha, signed_eq_offset hw hb, ← keyRank_twosComplement h, ← keyRank_twosComplement h]
  omega

/-! The union of two sets of keys (R298). -/

theorem unionKeys_perm (a b : List Nat) : (unionKeys a b).Perm (a ++ b.filter (fun k => !a.contains k)) := by
  have hkeys (l : List Nat) : (l.map (fun k => (k, ([] : List Byte)))).map (fun r => r.1) = l := by simp [Function.comp_def]
  rw [unionKeys]
  exact ((sortRecs_perm _).map _).trans (.of_eq (hkeys _))

theorem mem_unionKeys {a b : List Nat} {k : Nat} : k ∈ unionKeys a b ↔ k ∈ a ∨ k ∈ b := by
  rw [(unionKeys_perm a b).mem_iff]
  by_cases hk : k ∈ a <;> simp [hk]

theorem unionKeys_nodup {a b : List Nat} (ha : a.Nodup) (hb : b.Nodup) : (unionKeys a b).Nodup := by
  rw [(unionKeys_perm a b).nodup_iff]
  refine ha.append (hb.filter _) fun k hka hkb => ?_
  simp [hka] at hkb

theorem unionKeys_pairwise_lt {a b : List Nat} (ha : a.Nodup) (hb : b.Nodup) : (unionKeys a b).Pairwise (· < ·) := by
  have hle : (unionKeys a b).Pairwise (· ≤ ·) := List.pairwise_map.mpr (sortRecs_pairwise _)
  exact hle.imp₂ (fun _ _ h hne => Nat.lt_of_le_of_ne h hne) (unionKeys_nodup ha hb)

/-- Settles O20: insertion keeps the order, the records and the records of each key; the rank of a two's complement key is its
number moved up; a union is the sort of two lists without a common key. -/
theorem geyserOrders : Obligations.GeyserOrders := by
  unfold Obligations.GeyserOrders
  refine ⟨?sort, ?keys, ?union⟩
  case sort => exact fun l => ⟨sortRecs_perm l, sortRecs_pairwise l, fun k => filter_sortRecs k l⟩
  case keys => exact fun x a b h => keyRank_lt_iff_signed h
  case union =>
    intro a b ha hb
    exact ⟨unionKeys_pairwise_lt (ha.imp Nat.ne_of_lt) (hb.imp Nat.ne_of_lt), fun k => mem_unionKeys⟩

end Sys2Proof.Machine
end

section
/-! The operation table, the start and the end of Geyser's operations, and the locks of home buckets (R271 to R281, R293, R303 to
R307). -/

namespace Sys2Proof.Machine

/-! The operation table (R305, R307). -/

theorem geyHas_eq_false {s : State} {src : GeySrc} (h : ∀ o ∈ s.geyLive, o.src ≠ src) : s.geyHas src = false := by
  rw [State.geyHas, List.any_eq_false]
  exact fun o ho => by simpa using h o ho

section
variable {s : State} {src : GeySrc} (hstands : s.geyStands src = true) (hnew : ∀ o ∈ s.geyLive, o.src ≠ src)
  (hturn : s.geyTurn = some (geyRequester src))
include hstands hnew hturn

/-- The admission of an operation that stands outside the table, at its requester's turn. -/
theorem exec_geyserOpAdmit_turn : exec (.geyserOpAdmit src) s = .next (
    if s.geyLive.length < 256 then
      { s with gey := { ops := s.geyLive ++ [{ src := src, fn := s.geyFn src }]
                        waited := s.gey.waited.filter (fun x => decide (x ≠ src)), last := geyRequester src } }
    else if s.gey.waited.contains src then s
    else { s.inc F.GEY_GLB_STAT_OPWAIT_CNT 0 with gey := { s.gey with waited := s.gey.waited ++ [src] } }) := by
  rw [exec_geyserOpAdmit, execGeyserOpAdmit, when_pos ⟨hstands, geyHas_eq_false hnew, hturn⟩]
  rfl

theorem exec_geyserOpAdmit_room (hroom : s.geyLive.length < 256) : exec (.geyserOpAdmit src) s = .next { s with gey :=
    { ops := s.geyLive ++ [⟨src, s.geyFn src, none, none⟩], waited := s.gey.waited.filter (fun x => decide (x ≠ src))
      last := geyRequester src } } := by
  rw [exec_geyserOpAdmit_turn hstands hnew hturn, if_pos hroom]

theorem exec_geyserOpAdmit_counted (hfull : 256 ≤ s.geyLive.length) (hwaited : src ∈ s.gey.waited) :
    exec (.geyserOpAdmit src) s = .next s := by
  rw [exec_geyserOpAdmit_turn hstands hnew hturn, if_neg hfull.not_gt, if_pos (List.contains_iff_mem.mpr hwaited)]

theorem exec_geyserOpAdmit_waits (hfull : 256 ≤ s.geyLive.length) (hwaited : src ∉ s.gey.waited) :
    exec (.geyserOpAdmit src) s = .next
      { s.inc F.GEY_GLB_STAT_OPWAIT_CNT 0 with gey := { s.gey with waited := s.gey.waited ++ [src] } } := by
  rw [exec_geyserOpAdmit_turn hstands hnew hturn, if_neg hfull.not_gt, if_neg (mt List.contains_iff_mem.mp hwaited)]

end

/-! The completion of an operation that is over (R271, R274, R275). -/

theorem exec_geyserOpComplete_clause {s : State} {n : Nat} {o : GeyOp} {e : GeyEnd}
    (hentry : s.geyLive.find? (fun o => decide (o.src = .clause n)) = some o) (hended : o.ended = some e) :
    exec (.geyserOpComplete (.clause n)) s = .next (({ s with gey := { s.gey with
      ops := s.geyLive.filter (fun p => decide (p.src ≠ .clause n)) } } : State).slotDone n e.status e.result) := by
  rw [exec_geyserOpComplete, execGeyserOpComplete, hentry]
  dsimp only
  rw [hended]

theorem exec_geyserOpComplete_unit {s t : State} {n tag : Nat} {o : GeyOp} {e : GeyEnd} {c : UnitCmd}
    (hentry : s.geyLive.find? (fun o => decide (o.src = .unit n tag)) = some o) (hended : o.ended = some e)
    (hcmd : (s.tile n).cmd? tag = some c)
    (hresult : ({ s with gey := { s.gey with
      ops := s.geyLive.filter (fun p => decide (p.src ≠ .unit n tag)) } } : State).sramWrite n (geyBlock c)
        (toBytes 8 e.result.toNat) = some t) :
    exec (.geyserOpComplete (.unit n tag)) s = .next (t.cmdDone n tag e.outcome e.value) := by
  have hcmd' : (({ s with gey := { s.gey with
      ops := s.geyLive.filter (fun p => decide (p.src ≠ .unit n tag)) } } : State).tile n).cmd? tag = some c := hcmd
  -- The write as a variable: where a match on it is left, the kernel would evaluate it.
  obtain ⟨write, hwrite⟩ : ∃ write, write = State.sramWrite := ⟨_, rfl⟩
  rw [← hwrite] at hresult
  rw [exec_geyserOpComplete, execGeyserOpComplete, hentry, ← hwrite]
  dsimp only
  rw [hended]
  dsimp only
  rw [hcmd']
  dsimp only
  rw [hresult]

/-! The start of an operation: its element work begins, or it ends with the failure of its checks (R276, R279, R280, R303). -/

section
variable {s s1 : State} {k : GeyCode} {op : Nat} {g : GCtx} {x : GArgs}

theorem geyBegin_runs {r : GeyRun} (h : s.geyStart k op g x = (s1, .ok r)) (src : GeySrc) (picks : List Nat) :
    s.geyBegin k op g src x picks = ((s1.setRun src r).geyDrive k g src picks).geySettle k op g src := by
  rw [State.geyBegin, h]

theorem geyBegin_fails {e : GErr} {begun : Bool} (h : s.geyStart k op g x = (s1, .error (e, begun))) (he : e ≠ .wait)
    (src : GeySrc) (picks : List Nat) : s.geyBegin k op g src x picks =
      (if begun ∧ e ≠ .stale then s1.gSpoilAll g (k.plan x).outs else s1).geyClose src (geyFailed op x e) := by
  rw [State.geyBegin, h]
  cases e with
  | wait => exact absurd rfl he
  | access | invalid | conflict | stale => rfl

/-- What a command leads to that starts an operation from `s`. -/
def OpBegins (c : Instr) (s0 s : State) (k : GeyCode) (op : Nat) (src : GeySrc) (g : GCtx) (x : GArgs) (picks : List Nat) : Prop :=
  (∀ s1 r, s.geyStart k op g x = (s1, .ok r) →
    exec c s0 = .next (((s1.setRun src r).geyDrive k g src picks).geySettle k op g src)) ∧
  (∀ s1 e, s.geyStart k op g x = (s1, .error (e, false)) → e ≠ .wait →
    exec c s0 = .next (s1.geyClose src (geyFailed op x e))) ∧
  (∀ s1 e, s.geyStart k op g x = (s1, .error (e, true)) → e ≠ .wait → e ≠ .stale →
    exec c s0 = .next ((s1.gSpoilAll g (k.plan x).outs).geyClose src (geyFailed op x e)))

theorem opBegins_of_exec {c : Instr} {s0 : State} {src : GeySrc} {picks : List Nat}
    (h : exec c s0 = .next (s.geyBegin k op g src x picks)) : OpBegins c s0 s k op src g x picks := by
  refine ⟨fun s1 r hstart => ?_, fun s1 e hstart he => ?_, fun s1 e hstart he hstale => ?_⟩
  · rw [h, geyBegin_runs hstart]
  · rw [h, geyBegin_fails hstart he, if_neg (by simp)]
  · rw [h, geyBegin_fails hstart he, if_pos ⟨rfl, hstale⟩]

end

section
variable {s : State} {k : GeyCode} {op : Nat} {o : GeyOp}

/-! A clause (R73, R276, R280). -/

theorem slot?_of_clauseAt {n cls : Nat} {x : Slot} (h : s.clauseAt n cls op = some x) : s.slot? n = some x := by
  rw [State.clauseAt] at h
  split at h
  next y hy =>
    obtain ⟨-, hyx⟩ := Option.ite_none_right_eq_some.mp h
    exact hy.trans hyx
  next => cases h

theorem geyRun_clause {n : Nat} {x : Slot} (hentry : s.geyEntry (.clause n) = some o) (hnew : o.run = none)
    (hat : s.clauseAt n 3 op = some x) (picks : List Nat) (env : Env) : s.geyRun (.clause n) op picks env k =
      if geyReserved op x.words then s.geyEnd (.clause n) ⟨St.BAD_CLAUSE, 0, 0, 0⟩
      else s.geyBegin k op { fn := x.fn, tile := none, env := env } (.clause n) (geyArgs x.words) picks := by
  have hctx : s.geyCtx (.clause n) env = { fn := x.fn, tile := none, env := env } := by
    rw [State.geyCtx, State.geyFn, slot?_of_clauseAt hat]
    rfl
  rw [State.geyRun, hentry]
  dsimp only
  rw [hnew]
  dsimp only
  rw [State.geyClause, hat]
  dsimp only
  rw [hctx]

/-! A unit command (R270, R271, R304). -/

/-- A queued command of Geyser in its tile, of operation `op`, behind no commit token, whose unused fields are zero (R270). -/
structure GeyQueued (s : State) (n tag op : Nat) (c : UnitCmd) : Prop where
  cmd : (s.tile n).cmd? tag = some c
  unit : c.unit = 3
  op : c.op = op
  phase : c.phase = .queued
  depth : c.depth = 0
  c0 : field (c.c 0) 8 6 = 0
  c1 : c.c 1 < 2 ^ 15
  c2 : c.c 2 = 0
  c3 : c.c 3 = 0

theorem geyRun_unit {n tag : Nat} {env : Env} {c : UnitCmd} {s1 : State} {bs : List Byte}
    (hentry : s.geyEntry (.unit n tag) = some o) (hnew : o.run = none) (hc : GeyQueued s n tag op c)
    (hread : s.sramRead env n (geyBlock c) 64 = (s1, some bs)) (picks : List Nat) : s.geyRun (.unit n tag) op picks env k =
      if geyReserved op (wordsOf 8 bs) then s1.cmdFault n c TF.GEYSER_FAULT
      else s1.geyBegin k op (s1.geyCtx (.unit n tag) env) (.unit n tag) (geyArgs (wordsOf 8 bs)) picks := by
  have hbit : bit (c.c 1) 15 = false := by rw [bit_eq_testBit, Nat.testBit_lt_two_pow hc.c1]
  rw [State.geyRun, hentry]
  dsimp only
  rw [hnew]
  dsimp only
  rw [State.geyUnit, hc.cmd]
  dsimp -zeta only
  rw [if_neg (by simp [hc.unit, hc.op, hc.phase, hc.depth]), if_neg (by simp [hc.c0, hbit, hc.c2, hc.c3]), hread]

/-! An operation whose element work has begun (R293, R303). -/

theorem geyRun_goesOn {src : GeySrc} {r : GeyRun} (hentry : s.geyEntry src = some o) (hrun : o.run = some r)
    (his : s.geyIs src op = true) (picks : List Nat) (env : Env) : s.geyRun src op picks env k =
      (s.geyDrive k (s.geyCtx src env) src picks).geySettle k op (s.geyCtx src env) src := by
  unfold State.geyRun
  rw [hentry]
  dsimp only
  rw [hrun]
  exact if_pos his

end

/-- What the commands of an operation do: a clause or a unit command is refused for a reserved encoding or begins, and one that has
begun goes on. -/
def OpRuns (i : GeySrc → GeyWork → Instr) (op : Nat) (k : GeyCode) : Prop :=
  (∀ (s : State) n picks env o x, s.geyEntry (.clause n) = some o → o.run = none → s.clauseAt n 3 op = some x →
    (geyReserved op x.words = true →
      exec (i (.clause n) ⟨picks, env⟩) s = .next (s.geyEnd (.clause n) ⟨St.BAD_CLAUSE, 0, 0, 0⟩)) ∧
    (geyReserved op x.words = false →
      OpBegins (i (.clause n) ⟨picks, env⟩) s s k op (.clause n) { fn := x.fn, tile := none, env := env } (geyArgs x.words)
        picks)) ∧
  (∀ (s : State) n tag picks env o c s1 bs, s.geyEntry (.unit n tag) = some o → o.run = none →
    (s.tile n).cmd? tag = some c → c.unit = 3 → c.op = op → c.phase = .queued → c.depth = 0 →
    field (c.c 0) 8 6 = 0 → c.c 1 < 2 ^ 15 → c.c 2 = 0 → c.c 3 = 0 → s.sramRead env n (c.c 1 * 64) 64 = (s1, some bs) →
    (geyReserved op (wordsOf 8 bs) = true →
      exec (i (.unit n tag) ⟨picks, env⟩) s = .next (s1.cmdFault n c TF.GEYSER_FAULT)) ∧
    (geyReserved op (wordsOf 8 bs) = false →
      OpBegins (i (.unit n tag) ⟨picks, env⟩) s s1 k op (.unit n tag) (s1.geyCtx (.unit n tag) env) (geyArgs (wordsOf 8 bs))
        picks)) ∧
  (∀ (s : State) src picks env o r, s.geyEntry src = some o → o.run = some r → s.geyIs src op = true →
    exec (i src ⟨picks, env⟩) s =
      .next ((s.geyDrive k (s.geyCtx src env) src picks).geySettle k op (s.geyCtx src env) src))

theorem opRuns_of_exec {i : GeySrc → GeyWork → Instr} {op : Nat} {k : GeyCode}
    (hexec : ∀ src work s, exec (i src work) s = .next (s.geyRun src op work.picks work.env k)) : OpRuns i op k := by
  refine ⟨fun s n picks env o x hentry hnew hat => ?clause,
    fun s n tag picks env o c s1 bs hentry hnew hcmd hunit hop hphase hdepth h0 h1 h2 h3 hread => ?unit,
    fun s src picks env o r hentry hrun his => ?goesOn⟩
  case clause =>
    have hstep := (hexec (.clause n) ⟨picks, env⟩ s).trans (congrArg _ (geyRun_clause hentry hnew hat picks env))
    refine ⟨fun hres => ?_, fun hres => opBegins_of_exec ?_⟩
    · rw [hstep, if_pos hres]
    · rw [hstep, if_neg (by simp [hres])]
  case unit =>
    have hblock : geyBlock c = c.c 1 * 64 := by rw [geyBlock, field_whole h1]
    have hstep := (hexec (.unit n tag) ⟨picks, env⟩ s).trans (congrArg _
      (geyRun_unit hentry hnew ⟨hcmd, hunit, hop, hphase, hdepth, h0, h1, h2, h3⟩ (hblock ▸ hread) picks))
    refine ⟨fun hres => ?_, fun hres => opBegins_of_exec ?_⟩
    · rw [hstep, if_pos hres]
    · rw [hstep, if_neg (by simp [hres])]
  case goesOn => exact (hexec src ⟨picks, env⟩ s).trans (congrArg _ (geyRun_goesOn hentry hrun his picks env))

/-! The end of an operation without elements left, by the first failure that applies (R275, R276, R279 to R281). -/

section
variable {r : GeyRun} (op : Nat)

theorem GeyRun.result_access {f : Nat × Nat} (hfail : r.fail = some f) : r.result op = ⟨f.2, 0, 0, 0⟩ := by
  rw [GeyRun.result, hfail]; rfl

theorem GeyRun.result_invalid {b : Nat × Nat} (hfail : r.fail = none) (hbad : r.bad = some b) :
    r.result op = ⟨St.GEYSER_INPUT_INVALID, 3, b.1, geyInvalid b.1 b.2⟩ := by rw [GeyRun.result, hfail, hbad]; rfl

theorem GeyRun.result_conflict (hfail : r.fail = none) (hbad : r.bad = none) (hconflict : r.conflict = true) :
    r.result op = ⟨St.ROLE_CONFLICT, 0, 0, 0⟩ := by rw [GeyRun.result, hfail, hbad, hconflict]; rfl

theorem GeyRun.result_done (hfail : r.fail = none) (hbad : r.bad = none) (hconflict : r.conflict = false) :
    r.result op = geyDone op r.args r.acc := by rw [GeyRun.result, hfail, hbad, hconflict]; rfl

theorem GeyRun.failed_iff : r.failed = true ↔ r.fail.isSome = true ∨ r.bad.isSome = true ∨ r.conflict = true := by
  rw [GeyRun.failed, Bool.or_eq_true, Bool.or_eq_true, or_assoc]

theorem geySettle_over {s : State} {src : GeySrc} (hrun : s.geyRunOf src = some r) (htodo : r.todo = []) (hflight : r.flight = [])
    (k : GeyCode) (g : GCtx) : s.geySettle k op g src =
      (if r.failed then s.gSpoilAll g (k.plan r.args).outs else s).geyClose src (r.result op) := by
  rw [State.geySettle, hrun]
  exact if_pos ⟨htodo, hflight⟩

end

/-! The locks of home buckets (R293). -/

/-- A key of HINS is not dispatched while its home bucket is locked. -/
theorem geyDispatch_locked {s : State} {r : GeyRun} {i a : Nat} (herr : (r.items.getD i {}).err = none)
    (hkey : reservedKey (r.items.getD i {}).num = false)
    (hlocked : ((r.args.b, r.home (r.items.getD i {}).num), a) ∈ s.locksHeld) (g : GCtx) (src : GeySrc) :
    s.geyDispatch codeHins g src r i = s := by
  have hlock : codeHins.lock r (r.items.getD i {}) =
      some (r.args.b, r.home (r.items.getD i {}).num) := if_neg (by rw [hkey]; decide)
  have hheld : s.locksHeld.any (fun h => h.1 == (r.args.b, r.home (r.items.getD i {}).num)) = true :=
    List.any_eq_true.mpr ⟨_, hlocked, beq_self_eq_true _⟩
  rw [State.geyDispatch]
  dsimp only
  rw [herr, hlock]
  dsimp only
  rw [if_pos hheld, ite_self, ite_self]

/-- Settles O19: each command of an operation is the shared start, drive or settlement, at its code and its operands. -/
theorem geyserOperationsAndTable : Obligations.GeyserOperationsAndTable := by
  unfold Obligations.GeyserOperationsAndTable
  refine ⟨⟨?entry, ?completeClause, ?completeUnit⟩, ?runs, ?ends, ?locked⟩
  case entry =>
    intro s src hstands hnew hturn
    exact ⟨exec_geyserOpAdmit_room hstands hnew hturn, exec_geyserOpAdmit_counted hstands hnew hturn, fun hfull hwaited =>
      ⟨_, exec_geyserOpAdmit_waits hstands hnew hturn hfull hwaited, fld_inc_same s F.GEY_GLB_STAT_OPWAIT_CNT 0,
        ((FieldsKept.refl s _).inc List.mem_cons_self).of_regs rfl, rfl, rfl, rfl⟩⟩
  case completeClause => exact fun s n o e => exec_geyserOpComplete_clause
  case completeUnit => exact fun s n tag o e c t => exec_geyserOpComplete_unit
  case runs =>
    exact ⟨opRuns_of_exec exec_gather, opRuns_of_exec exec_scatter, opRuns_of_exec exec_hins, opRuns_of_exec exec_hprobe,
      opRuns_of_exec exec_hdel, opRuns_of_exec exec_sort, opRuns_of_exec exec_merge, opRuns_of_exec exec_segred,
      opRuns_of_exec exec_segscan, opRuns_of_exec exec_setop, opRuns_of_exec exec_hsetop,
      opRuns_of_exec (fun src work => exec_frontier src work.picks work.env)⟩
  case ends =>
    intro s k op g src r hrun htodo hflight
    dsimp only
    rw [geySettle_over op hrun htodo hflight]
    refine ⟨fun f hfail => ?_, fun b hfail hbad => ?_, fun hfail hbad hconflict => ?_, fun hfail hbad hconflict => ?_⟩
    · rw [GeyRun.result_access op hfail, if_pos (GeyRun.failed_iff.mpr (by simp [hfail]))]
    · rw [GeyRun.result_invalid op hfail hbad, if_pos (GeyRun.failed_iff.mpr (by simp [hbad]))]
      rfl
    · rw [GeyRun.result_conflict op hfail hbad hconflict, if_pos (GeyRun.failed_iff.mpr (by simp [hconflict]))]
    · rw [GeyRun.result_done op hfail hbad hconflict, if_neg (mt GeyRun.failed_iff.mp (by simp [hfail, hbad, hconflict]))]
  case locked =>
    rintro s g src r i l herr - hkey rfl ⟨a, ha⟩
    exact geyDispatch_locked (Option.eq_none_iff_forall_ne_some.mpr herr) hkey ha g src

end Sys2Proof.Machine
end

section
/-! Where the bytes of a band lie, and what a change of its mode does (R309 to R311). -/

namespace Sys2Proof.Machine

/-! The placement within a band (R310). -/

theorem bandPlace_all12 (o : Nat) : bandPlace 0 o = (o / 4096 % 12, o / 4096 / 12 * 4096 + o % 4096) := rfl

theorem bandPlace_lower6 {o : Nat} (h : o < 6 * 2 ^ 30) :
    bandPlace 1 o = (o / 4096 % 6, o / 4096 / 6 * 4096 + o % 4096) := if_pos h

theorem bandPlace_upper6 {o : Nat} (h : 6 * 2 ^ 30 ≤ o) : bandPlace 1 o =
    (6 + (o - 6 * 2 ^ 30) / 4096 % 6, (o - 6 * 2 ^ 30) / 4096 / 6 * 4096 + o % 4096) := if_neg (Nat.not_lt.mpr h)

theorem bandPlace_single (o : Nat) : bandPlace 2 o = (o / 2 ^ 30, o % 2 ^ 30) := rfl

/-- The offset within a band of the byte that lies at stack `u` and offset `q` of the band's gibibyte. -/
def bandOffset (mode u q : Nat) : Nat :=
  match mode with
  | 1 =>
    if u < 6 then (q / 4096 * 6 + u) * 4096 + q % 4096
    else 6 * 2 ^ 30 + ((q / 4096 * 6 + (u - 6)) * 4096 + q % 4096)
  | 2 => u * 2 ^ 30 + q
  | _ => (q / 4096 * 12 + u) * 4096 + q % 4096

/-- Units of 4 KiB dealt out to `n` stacks in turn: the stack and the offset on it name the byte. -/
theorem dealt_inverse (n o : Nat) :
    ((o / 4096 / n * 4096 + o % 4096) / 4096 * n + o / 4096 % n) * 4096 + (o / 4096 / n * 4096 + o % 4096) % 4096 = o := by
  have hunit : (o / 4096 / n * 4096 + o % 4096) / 4096 = o / 4096 / n := by omega
  have hbyte : (o / 4096 / n * 4096 + o % 4096) % 4096 = o % 4096 := by omega
  rw [hunit, hbyte, Nat.div_add_mod' (o / 4096) n, Nat.div_add_mod']

theorem bandOffset_bandPlace {mode o : Nat} (hmode : mode < 3) :
    bandOffset mode (bandPlace mode o).1 (bandPlace mode o).2 = o := by
  match mode, hmode with
  | 0, _ => exact dealt_inverse _ o
  | 1, _ =>
    rcases Nat.lt_or_ge o (6 * 2 ^ 30) with h | h
    · rw [bandPlace_lower6 h]
      have hstack : o / 4096 % 6 < 6 := Nat.mod_lt _ (by decide)
      simp only [bandOffset, if_pos hstack]
      exact dealt_inverse _ o
    · have hstack : ¬ 6 + (o - 6 * 2 ^ 30) / 4096 % 6 < 6 := by omega
      have hbyte : o % 4096 = (o - 6 * 2 ^ 30) % 4096 := by omega
      rw [bandPlace_upper6 h, hbyte]
      simp only [bandOffset, if_neg hstack, Nat.add_sub_cancel_left]
      rw [dealt_inverse 6 (o - 6 * 2 ^ 30), Nat.add_sub_cancel' h]
  | 2, _ =>
    simp only [bandOffset, bandPlace]
    omega

theorem bandPlace_bandOffset {mode u q : Nat} (hmode : mode < 3) (hu : u < 12) (hq : q < 2 ^ 30) :
    bandOffset mode u q < 12 * 2 ^ 30 ∧ bandPlace mode (bandOffset mode u q) = (u, q) := by
  match mode, hmode with
  | 0, _ =>
    simp only [bandOffset, bandPlace, Prod.mk.injEq]
    omega
  | 1, _ =>
    simp only [bandOffset]
    split
    · have hlow : (q / 4096 * 6 + u) * 4096 + q % 4096 < 6 * 2 ^ 30 := by omega
      rw [bandPlace_lower6 hlow, Prod.mk.injEq]
      omega
    · have hhigh : 6 * 2 ^ 30 ≤ 6 * 2 ^ 30 + ((q / 4096 * 6 + (u - 6)) * 4096 + q % 4096) := Nat.le_add_right _ _
      rw [bandPlace_upper6 hhigh, Prod.mk.injEq]
      omega
  | 2, _ =>
    simp only [bandOffset, bandPlace, Prod.mk.injEq]
    omega

theorem bandPlace_lt {mode o : Nat} (hmode : mode < 3) (ho : o < 12 * 2 ^ 30) :
    (bandPlace mode o).1 < 12 ∧ (bandPlace mode o).2 < 2 ^ 30 := by
  match mode, hmode with
  | 0, _ => rw [bandPlace_all12]; dsimp only; omega
  | 1, _ =>
    rcases Nat.lt_or_ge o (6 * 2 ^ 30) with h | h
    · rw [bandPlace_lower6 h]; dsimp only; omega
    · rw [bandPlace_upper6 h]; dsimp only; omega
  | 2, _ => rw [bandPlace_single]; dsimp only; omega

/-- A byte of the near tier lies where its band's mode places it. -/
theorem place_band (s : State) {b o : Nat} (hb : b < 64) (ho : o < 12 * 2 ^ 30) :
    s.place (b * (12 * 2 ^ 30) + o) =
      some ((bandPlace (s.modeOf b) o).1, b * 2 ^ 30 + (bandPlace (s.modeOf b) o).2) := by
  have hregion : s.region (b * (12 * 2 ^ 30) + o) = .near := by
    rw [State.region, if_pos (by unfold nearEnd; omega)]
  have hband : (b * (12 * 2 ^ 30) + o) / bandBytes = b := by unfold bandBytes; omega
  have hoffset : (b * (12 * 2 ^ 30) + o) % bandBytes = o := by unfold bandBytes; omega
  rw [State.place, hregion]
  dsimp only
  rw [hband, hoffset]

/-! A write of a band mode register (R309, R311). -/

/-- Keys set one after another, each to a value of its own, where a condition holds. -/
theorem Tbl.find?_foldl_set_if {α : Type} (c : Nat → Prop) [DecidablePred c] (v : Nat → α) (base : Nat) (l : List Nat)
    (t : Tbl α) (j : Nat) :
    Tbl.find? (base + j) (l.foldl (fun t i => if c i then Tbl.set (base + i) (v i) t else t) t) =
      if j ∈ l ∧ c j then some (v j) else Tbl.find? (base + j) t := by
  induction l generalizing t with
  | nil => simp
  | cons i l ih =>
    rw [List.foldl_cons, ih]
    by_cases hl : j ∈ l ∧ c j
    · rw [if_pos hl, if_pos ⟨List.mem_cons_of_mem i hl.1, hl.2⟩]
    · rw [if_neg hl]
      by_cases hi : j = i
      · subst hi
        by_cases hc : c j <;> simp [hc, Tbl.find?_set_same]
      · have hset : Tbl.find? (base + j) (if c i then Tbl.set (base + i) (v i) t else t) = Tbl.find? (base + j) t := by
          split
          · exact Tbl.find?_set_ne (by omega) _ _
          · rfl
        rw [hset, if_neg (by simpa [hi] using hl)]

/-- The modes that wait after a write that left the state `s`, of the 32 bands of register `k`. -/
def State.waitingModes (old s : State) (k : Nat) : Tbl Nat :=
  (List.range 32).foldl (fun t j => if s.fld ((bandMode j).at k) 0 ≠ old.fld ((bandMode j).at k) 0 then
    Tbl.set (32 * k + j) (s.fld ((bandMode j).at k) 0) t else t) s.mem.bandWait

theorem bandModeWritten_eq (old s : State) (k : Nat) :
    old.bandModeWritten s k = { s with mem := { s.mem with bandWait := old.waitingModes s k } } := by
  have h (l : List Nat) (t : State) : l.foldl (fun t j =>
      let f := (bandMode j).at k
      if s.fld f 0 ≠ old.fld f 0 then
        { t with mem := { t.mem with bandWait := Tbl.set (32 * k + j) (s.fld f 0) t.mem.bandWait } }
      else t) t = { t with mem := { t.mem with bandWait := l.foldl (fun w j =>
        if s.fld ((bandMode j).at k) 0 ≠ old.fld ((bandMode j).at k) 0 then
          Tbl.set (32 * k + j) (s.fld ((bandMode j).at k) 0) w else w) t.mem.bandWait } } := by
    induction l generalizing t with
    | nil => rfl
    | cons j l ih =>
      rw [List.foldl_cons, ih, List.foldl_cons]
      dsimp only
      split <;> rfl
  exact h (List.range 32) s

theorem bandModeWritten_find? (old s : State) (k : Nat) {j : Nat} (hj : j < 32) :
    Tbl.find? (32 * k + j) (old.bandModeWritten s k).mem.bandWait =
      if (old.bandModeWritten s k).fld ((bandMode j).at k) 0 ≠ old.fld ((bandMode j).at k) 0 then
        some ((old.bandModeWritten s k).fld ((bandMode j).at k) 0)
      else Tbl.find? (32 * k + j) s.mem.bandWait := by
  have hfld : (old.bandModeWritten s k).fld ((bandMode j).at k) 0 = s.fld ((bandMode j).at k) 0 :=
    fld_of_regs (by rw [bandModeWritten_eq]) _ 0
  rw [hfld, bandModeWritten_eq]
  dsimp only
  rw [State.waitingModes, Tbl.find?_foldl_set_if (fun j => s.fld ((bandMode j).at k) 0 ≠ old.fld ((bandMode j).at k) 0)
    (fun j => s.fld ((bandMode j).at k) 0)]
  exact if_congr (and_iff_right (List.mem_range.mpr hj)) rfl rfl

theorem exec_bandModeWrite_ready {s : State} {who : Requester} {k : Nat} (v : Word) (hready : s.ddtReady = true)
    (hwho : isVf who = false) (hk : k < 2) : exec (.bandModeWrite who k v) s = .next ((s.touch who).bandModeWritten
      { s.touch who with regs := writeFields bandFields k 0 0 64 v.toNat (s.touch who).regs } k) :=
  when_pos ⟨hready, hwho, hk⟩ _ _

/-! The new mode applies (R311). -/

theorem endRsv_frame (s : State) (m lo hi : Nat) : s.endRsv m lo hi =
    { s with tiles := (s.endRsv m lo hi).tiles, mcores := (s.endRsv m lo hi).mcores } := by
  unfold State.endRsv
  split <;> rfl

/-- A device range with unspecified contents: every other byte stays, and so does every part of the state but the reservations of
the cores. -/
theorem spoil_frame (s : State) (a n : Nat) : s.spoil a n = { s with
    mem := { s.mem with dev := s.mem.dev.spoil a (a + n) s.fresh }, tiles := (s.spoil a n).tiles,
    mcores := (s.spoil a n).mcores, fresh := s.fresh + 1 } := by
  have h : s.spoil a n = ((s.endRsv 0 a (a + n)).setDev (s.mem.dev.spoil a (a + n) s.fresh)).tick := rfl
  rw [h, endRsv_frame]
  rfl

theorem exec_bandModeApply_waits {s : State} {b m : Nat} (hm : Tbl.find? b s.mem.bandWait = some m)
    (hbusy : s.inFlightTo (b * bandBytes) ((b + 1) * bandBytes) = true) : exec (.bandModeApply b) s = .next s := by
  rw [exec_bandModeApply, execBandModeApply, hm]
  dsimp only
  rw [if_pos hbusy]

/-- The state in which mode `m` has come into force in band `b`, with the `n` bytes at `lo` of unspecified contents. -/
def State.modeApplied (s : State) (b m lo n : Nat) : State :=
  ({ s with mem := { s.mem with
    bandWait := Tbl.del b s.mem.bandWait, bandMode := Tbl.put 0 b m s.mem.bandMode } } : State).spoil lo n

theorem modeApplied_leaves (s : State) (b m lo n : Nat) : let t := s.modeApplied b m lo n
    t.modeOf b = m ∧ Tbl.find? b t.mem.bandWait = none ∧
    (∀ a, t.mem.dev.read a = if lo ≤ a ∧ a < lo + n then Config.freeByte s.fresh a else s.mem.dev.read a) ∧
    t.mem.host = s.mem.host ∧ t.mem.poison = s.mem.poison ∧
    t = { s with mem := t.mem, tiles := t.tiles, mcores := t.mcores, fresh := s.fresh + 1 } := by
  intro t
  have ht : t = _ := spoil_frame _ lo n
  rw [ht]
  exact ⟨Tbl.getD_put_same _ _ _ _, Tbl.find?_del_same b _, fun a => Memory.read_spoil .., rfl, rfl, rfl⟩

theorem exec_bandModeApply_applies {s : State} {b m : Nat} (hm : Tbl.find? b s.mem.bandWait = some m)
    (hidle : s.inFlightTo (b * bandBytes) ((b + 1) * bandBytes) = false) (hnew : m ≠ s.modeOf b) :
    exec (.bandModeApply b) s = .next (s.modeApplied b m (b * bandBytes) bandBytes) := by
  rw [exec_bandModeApply, execBandModeApply, hm]
  dsimp only
  rw [if_neg (by rw [hidle]; decide), if_neg hnew]
  rfl

/-- Settles O22: the placement inverts to an offset; a fold over the bands of a register makes those of changed mode wait, and
the band of an applied mode is spoiled. -/
theorem bandPlacementAndModes : Obligations.BandPlacementAndModes := by
  unfold Obligations.BandPlacementAndModes
  refine ⟨⟨?placed, ?bijective⟩, ?writes, ?applies⟩
  case placed =>
    intro s b o hb ho u u' placed
    have hplaced := place_band s hb ho
    refine ⟨fun h => ?_, fun h hlow => ?_, fun h hhigh => ?_, fun h => ?_⟩
    · rw [h, bandPlace_all12] at hplaced
      exact hplaced
    · rw [h, bandPlace_lower6 hlow] at hplaced
      exact hplaced
    · rw [h, bandPlace_upper6 hhigh] at hplaced
      exact hplaced
    · rw [h, bandPlace_single] at hplaced
      exact hplaced
  case bijective =>
    intro mode hmode
    refine ⟨fun o ho => bandPlace_lt hmode ho, fun o p _ _ hop => ?_,
      fun u q hu hq => ⟨bandOffset mode u q, bandPlace_bandOffset hmode hu hq⟩⟩
    rw [← bandOffset_bandPlace hmode (o := o), hop, bandOffset_bandPlace hmode]
  case writes =>
    intro s0 who k v hready hwho hk
    refine ⟨_, exec_bandModeWrite_ready v hready hwho hk, ?_⟩
    generalize writeFields bandFields k 0 0 64 v.toNat (s0.touch who).regs = r
    refine ⟨by rw [bandModeWritten_eq], fun j hj => ?_, by rw [bandModeWritten_eq]⟩
    have hfind := bandModeWritten_find? (s0.touch who) { s0.touch who with regs := r } k hj
    exact ⟨fun hne => hfind.trans (if_pos hne), fun heq => hfind.trans (if_neg (not_not_intro heq))⟩
  case applies =>
    intro s b m hm
    refine ⟨exec_bandModeApply_waits hm, fun hidle hnew => ⟨_, exec_bandModeApply_applies hm hidle hnew, ?_⟩⟩
    have hend : (b + 1) * bandBytes = b * bandBytes + bandBytes := Nat.add_one_mul b bandBytes
    rw [hend]
    exact modeApplied_leaves s b m (b * bandBytes) bandBytes

end Sys2Proof.Machine
end

section
/-! The maintenance arbiter: how a request starts, waits or merges, and what the end of an activity leaves (R335 to R338). -/

namespace Sys2Proof.Machine

/-! One counter advanced, over updates that leave the registers. -/

theorem fld_inc_of_regs {s t : State} (h : t.regs = s.regs) (f : Fld) (i : Nat) :
    (t.inc f i).fld f i = (s.fld f i + 1) % 2 ^ f.width := by
  rw [fld_inc_same, fld_of_regs h]

theorem fieldsKept_inc_of_regs {s t : State} (h : t.regs = s.regs) (f : Fld) (i : Nat) :
    FieldsKept s (t.inc f i) [f.key i] :=
  ((FieldsKept.refl s _).of_regs h).inc List.mem_cons_self

/-- A pulse changes the management cores alone, whatever it leaves in them. -/
theorem pulseLine_cores (s : State) (l : Nat) : ∃ cores, s.pulseLine l = { s with mcores := cores } := ⟨_, pulseLine_frame s l⟩

/-! A request at the arbiter. -/

/-- The request of an activity on a unit, as it waits: device activities carry unit 0 (R335). -/
def waitingReq (act : MaintAct) (unit : Nat) : MaintReq := ⟨act, if isDeviceAct act then 0 else unit, false⟩

theorem maintRequest_merges {s : State} {act : MaintAct} {unit : Nat} (h : waitingReq act unit ∈ s.mem.maint) :
    s.maintRequest act unit = s :=
  if_pos (List.any_eq_true.mpr ⟨_, h, decide_eq_true rfl⟩)

theorem not_merges {s : State} {m : MaintReq} (h : m ∉ s.mem.maint) : ¬ s.mem.maint.any (fun x => decide (x = m)) = true := by
  simpa using h

theorem maintRequest_starts {s : State} {act : MaintAct} {unit : Nat} (hnew : waitingReq act unit ∉ s.mem.maint)
    (hfree : ∀ x ∈ s.mem.maint, x.conflicts (waitingReq act unit) = false) : s.maintRequest act unit =
      ({ s with mem := { s.mem with maint := s.mem.maint ++ [{ waitingReq act unit with running := true }] } } :
        State).pulseLine 6 := by
  have hnone : ¬ s.mem.maint.any (fun x => x.conflicts (waitingReq act unit)) = true := by simpa using hfree
  exact (if_neg (not_merges hnew)).trans (if_neg hnone)

theorem maintRequest_waits {s : State} {act : MaintAct} {unit : Nat} (hnew : waitingReq act unit ∉ s.mem.maint)
    (hbusy : ∃ x ∈ s.mem.maint, x.conflicts (waitingReq act unit) = true) : s.maintRequest act unit =
      ({ s with mem := { s.mem with maint := s.mem.maint ++ [waitingReq act unit] } } : State).inc
        F.MEM_MAINT_CNT_PENDING_CNT 0 :=
  (if_neg (not_merges hnew)).trans (if_pos (List.any_eq_true.mpr hbusy))

/-! The end of an activity. -/

/-- An activity that ends changes the arbiter's list and pulses a line of the management cores; nothing else changes. -/
theorem maintFinish_frame (s : State) (act : MaintAct) (u : Nat) : ∃ cores, s.maintFinish act u = { s with
    mem := { s.mem with maint := startReady [] (dropRunning act (if isDeviceAct act then 0 else u) s.mem.maint) },
    mcores := cores } := pulseLine_cores _ 6

theorem maintFinish_regs (s : State) (act : MaintAct) (u : Nat) : (s.maintFinish act u).regs = s.regs := by
  obtain ⟨cores, hframe⟩ := maintFinish_frame s act u
  rw [hframe]

theorem exec_maintEnd_ends {s : State} {act : MaintAct} {unit : Nat}
    (hruns : s.maintRuns act (if isDeviceAct act then 0 else unit) = true) (hend : s.mayEnd act = true) :
    exec (.maintEnd act unit) s = .next ((if act = .refresh then
      s.setFlag F.MEM_MAINT_UNIT_HOT (if isDeviceAct act then 0 else unit)
        (s.unit (if isDeviceAct act then 0 else unit)).wantHot else s).maintFinish act
          (if isDeviceAct act then 0 else unit)) :=
  when_pos ⟨hruns, hend⟩ _ _

/-- The table of R336 reads alike from both sides. -/
theorem clash_comm (a b : MaintAct) : clash a b = clash b a := by
  cases a <;> cases b <;> rfl

/-- Settles O23: the three answers to a request, the end of an activity, and the symmetry of the conflict table. -/
theorem maintenanceArbiter : Obligations.MaintenanceArbiter := by
  unfold Obligations.MaintenanceArbiter
  refine ⟨?request, ?ended, clash_comm⟩
  case request =>
    intro s act unit hallowed m
    have hexec : exec (.maintRequest act unit) s = .next (s.maintRequest act unit) := when_pos hallowed _ _
    refine ⟨fun hmerged => ?_, fun hnew hfree => ⟨_, hexec, ?_⟩, fun hnew hbusy => ⟨_, hexec, ?_⟩⟩
    · rw [hexec, maintRequest_merges hmerged]
    · obtain ⟨cores, hframe⟩ := pulseLine_cores ({ s with mem := { s.mem with maint := s.mem.maint ++ [
        { waitingReq act unit with running := true }] } } : State) 6
      rw [maintRequest_starts hnew hfree, hframe]
      exact ⟨rfl, rfl⟩
    · rw [maintRequest_waits hnew hbusy]
      exact ⟨rfl, fld_inc_of_regs rfl _ 0, fieldsKept_inc_of_regs rfl _ 0, rfl⟩
  case ended =>
    intro s act unit u hruns hend
    refine ⟨_, exec_maintEnd_ends hruns hend, ?_⟩
    have hunit : (if isDeviceAct act then 0 else (if isDeviceAct act then 0 else unit)) = u := by
      cases hdev : isDeviceAct act <;> simp [u, hdev]
    by_cases href : act = .refresh
    · rw [if_pos href]
      obtain ⟨cores, hframe⟩ := maintFinish_frame (s.setFlag F.MEM_MAINT_UNIT_HOT u (s.unit u).wantHot) act u
      rw [hunit] at hframe
      rw [hframe]
      exact ⟨rfl, fun h => absurd href h, fun _ => ⟨fld_setFlag_same s F.MEM_MAINT_UNIT_HOT u _ rfl,
        (FieldsKept.refl s _).setFlag List.mem_cons_self _⟩, rfl⟩
    · rw [if_neg href]
      obtain ⟨cores, hframe⟩ := maintFinish_frame s act u
      rw [hunit] at hframe
      rw [hframe]
      exact ⟨rfl, fun _ => rfl, fun h => absurd h href, rfl⟩

end Sys2Proof.Machine
end

section
/-! Refresh, scrubbing and retraining of the memory units (R319 to R322). -/

namespace Sys2Proof.Machine

/-! Refresh and its rate (R319). -/

theorem refreshRateChange_ready {s : State} {u : Nat} (temp : Nat) (hu : u < 20) (hpop : s.populated u = true)
    (hready : s.unitReady u = true) : exec (.refreshRateChange u temp) s = .next (
      if (85 < temp ∨ (12 ≤ u ∧ s.flag F.FUM_SMB_STAT_SENSOR_FAILED 0 = true)) ∧ (s.unit u).wantHot = false then
        (s.setUnit u { s.unit u with temp := temp, wantHot := true }).maintRequest .refresh u
      else if temp < 80 ∧ (s.unit u).wantHot = true ∧ (u < 12 ∨ s.flag F.FUM_SMB_STAT_SENSOR_FAILED 0 = false) then
        (s.setUnit u { s.unit u with temp := temp, wantHot := false }).maintRequest .refresh u
      else s.setUnit u { s.unit u with temp := temp }) := by
  have hserves : ¬ (20 ≤ u ∨ s.populated u = false ∨ s.unitReady u = false) := by
    rw [hpop, hready]
    simp only [Bool.true_eq_false, or_false, not_le]
    exact hu
  rw [exec_refreshRateChange, execRefreshRateChange, if_neg hserves]

/-! Scrubbing (R320). -/

theorem unit_setUnit_ne (s : State) {u v : Nat} (h : v ≠ u) (x : UnitState) : (s.setUnit u x).unit v = s.unit v :=
  Tbl.getD_put_ne h ..

theorem exec_scrubBurst_clean {s : State} {u : Nat} (h : s.maintRuns .scrub u = true) :
    exec (.scrubBurst u []) s = .next ((s.setUnit u { s.unit u with
      scrubPos := ((s.unit u).scrubPos + 65536) % max 65536 (s.unitBytes u), lastScrub := s.tb.time }).maintFinish .scrub u) :=
  when_pos h _ _

/-! Retraining (R321, R322). -/

/-- Without link errors a unit must be retrained when its interval has passed or its temperature has drifted. -/
theorem mustRetrain_errorless (s : State) (u temp : Nat) : s.mustRetrain u temp 0 = true ↔
    (s.fld F.MEM_TRAIN_CTL_INTERVAL_H 0 ≠ 0 ∧
      (s.unit u).lastTrain + s.fld F.MEM_TRAIN_CTL_INTERVAL_H 0 * 3600000000000 ≤ s.tb.time) ∨
    (s.fld F.MEM_TRAIN_CTL_DRIFT_C 0 ≠ 0 ∧ ((s.unit u).trainTemp + s.fld F.MEM_TRAIN_CTL_DRIFT_C 0 < temp ∨
      temp + s.fld F.MEM_TRAIN_CTL_DRIFT_C 0 < (s.unit u).trainTemp)) := by
  have herrs (c : Nat) : (c != 0 && decide (c ≤ 0)) = false := by cases c <;> simp
  simp only [State.mustRetrain, herrs, Bool.or_false, Bool.or_eq_true, Bool.and_eq_true, bne_iff_ne, decide_eq_true_eq]

theorem exec_retrainTrigger_errorless {s : State} {u : Nat} (temp : Nat) (hu : u < 20) (hpop : s.populated u = true)
    (hready : s.unitReady u = true) : exec (.retrainTrigger u temp 0) s = .next (
      let s1 := s.setUnit u { s.unit u with temp := temp, linkErrs := 0, errSince := s.tb.time }
      if s.mustRetrain u temp 0 then (s1.pulseLine 7).maintRequest .retrain u else s1) :=
  when_pos ⟨hu, hpop, hready⟩ _ _

theorem exec_retrainDone_trained {s : State} {u us : Nat} (hruns : s.maintRuns .retrain u = true)
    (hus : us ≤ if u < 12 then 20 else 50) : exec (.retrainDone u us) s = .next (
      ((sinterEvent 0x0C2 us (s.setUnit u { s.unit u with
        lastTrain := s.tb.time, trainTemp := (s.unit u).temp, linkErrs := 0 })).inc F.MEM_MAINT_UNIT_TRAIN_CNT u).maintFinish
          .retrain u) :=
  when_pos ⟨hruns, hus⟩ _ _

/-- Settles O24: each clause is the unit's command by its branches; a burst and a retraining end as activities of the arbiter. -/
theorem memoryUnits : Obligations.MemoryUnits := by
  unfold Obligations.MemoryUnits
  refine ⟨?refresh, ?rate, ?scrub, ?trigger, ?trained⟩
  case refresh =>
    intro s u hu hpop
    refine ⟨rfl, fun hdue => when_pos ⟨hu, hpop, hdue⟩ _ _, fun hearly => when_neg ?_ _ _⟩
    exact fun ⟨_, _, hdue⟩ => Nat.not_lt.mpr hdue hearly
  case rate =>
    intro s u temp hu hpop hready
    rw [refreshRateChange_ready temp hu hpop hready]
    refine ⟨fun hhot hnormal => ?_, fun hcool hdoubled hsensed => ?_, fun hdimm hfailed hnormal => ?_, fun hlo hhi hkeeps => ?_⟩
    · rw [if_pos ⟨.inl hhot, hnormal⟩]
    · rw [if_neg (by simp [hdoubled]), if_pos ⟨hcool, hdoubled, hsensed⟩]
    · rw [if_pos ⟨.inr ⟨hdimm, hfailed⟩, hnormal⟩]
    · have hnotHot : ¬ ((85 < temp ∨ (12 ≤ u ∧ s.flag F.FUM_SMB_STAT_SENSOR_FAILED 0 = true)) ∧ (s.unit u).wantHot = false) := by
        rintro ⟨hhot | ⟨hdimm, hfailed⟩, hnormal⟩
        · omega
        · rcases hkeeps with hstack | hsensed | hdoubled
          · omega
          · exact Bool.false_ne_true (hsensed.symm.trans hfailed)
          · exact Bool.false_ne_true (hnormal.symm.trans hdoubled)
      rw [if_neg hnotHot, if_neg (fun h => Nat.not_lt.mpr hlo h.1)]
  case scrub =>
    intro s u hruns
    refine ⟨_, exec_scrubBurst_clean hruns, ?_⟩
    obtain ⟨cores, hframe⟩ := maintFinish_frame (s.setUnit u { s.unit u with
      scrubPos := ((s.unit u).scrubPos + 65536) % max 65536 (s.unitBytes u), lastScrub := s.tb.time }) .scrub u
    rw [hframe]
    exact ⟨State.unit_setUnit_same s u _, fun v hv => unit_setUnit_ne s hv _, rfl, rfl, rfl, rfl⟩
  case trigger =>
    intro s u temp hu hpop hready h d due s1
    rw [exec_retrainTrigger_errorless temp hu hpop hready]
    exact ⟨fun hdue => by rw [if_pos ((mustRetrain_errorless s u temp).mpr hdue)],
      fun hearly => by rw [if_neg (mt (mustRetrain_errorless s u temp).mp hearly)]⟩
  case trained =>
    intro s u us hruns hus
    refine ⟨_, exec_retrainDone_trained hruns hus, ?_⟩
    have hregs : (sinterEvent 0x0C2 us (s.setUnit u { s.unit u with
        lastTrain := s.tb.time, trainTemp := (s.unit u).temp, linkErrs := 0 })).regs = s.regs := by
      rw [sinterEvent_regs]
      rfl
    refine ⟨?_, (fld_of_regs (maintFinish_regs _ _ u) _ u).trans (fld_inc_of_regs hregs _ u),
      (fieldsKept_inc_of_regs hregs _ u).of_regs (maintFinish_regs _ _ u), ?_⟩
    all_goals
      obtain ⟨cores, hframe⟩ := maintFinish_frame ((sinterEvent 0x0C2 us (s.setUnit u { s.unit u with
        lastTrain := s.tb.time, trainTemp := (s.unit u).temp, linkErrs := 0 })).inc F.MEM_MAINT_UNIT_TRAIN_CNT u) .retrain u
      rw [hframe, sinterEvent_only]
    · exact State.unit_setUnit_same s u _
    · exact ⟨rfl, rfl, rfl, rfl⟩

end Sys2Proof.Machine
end

section
/-! Rule changes: windows, device regions, the translation base and invalidations (R330, R331). -/

namespace Sys2Proof.Machine

theorem key_inst_ne (f : Fld) {i j : Nat} (h : i ≠ j) : f.key i ≠ f.key j := by
  unfold Fld.key
  omega

/-! EPOCH of every function advanced. -/

theorem foldl_ruleChange_frame (l : List Nat) (s : State) :
    l.foldl (fun t f => t.ruleChange f) s = { s with regs := (l.foldl (fun t f => t.ruleChange f) s).regs } := by
  induction l generalizing s with
  | nil => rfl
  | cons f l ih => exact ih (s.ruleChange f)

theorem foldl_ruleChange_fld {l : List Nat} (hl : l.Nodup) (s : State) (f : Nat) :
    (l.foldl (fun t f => t.ruleChange f) s).fld F.MEM_FN_FENCE_EPOCH f = if f ∈ l then
      (s.fld F.MEM_FN_FENCE_EPOCH f + 1) % 2 ^ F.MEM_FN_FENCE_EPOCH.width else s.fld F.MEM_FN_FENCE_EPOCH f := by
  induction l generalizing s with
  | nil => rfl
  | cons k l ih =>
    obtain ⟨hk, hrest⟩ := List.nodup_cons.mp hl
    rw [List.foldl_cons, ih hrest]
    by_cases hfk : f = k
    · subst hfk
      rw [if_neg hk, if_pos List.mem_cons_self]
      exact fld_inc_same s _ f
    · have hkept : (s.ruleChange k).fld F.MEM_FN_FENCE_EPOCH f = s.fld F.MEM_FN_FENCE_EPOCH f :=
        fld_inc_ne (key_inst_ne _ hfk) s
      rw [hkept]
      exact if_congr (by rw [List.mem_cons, or_iff_right hfk]) rfl rfl

/-! Windows and device regions (R331). -/

theorem windowWrite_window {s : State} {off k : Nat} {d : RegDef} (who : Requester) (lo n v : Nat)
    (hreg : regAt off = some (d, k)) (hlo : 0x400200 ≤ off) (hhi : off < 0x400300) : s.windowWrite who off lo n v =
      ({ s with regs := writeFields d.fields k (s.memSel who) lo n v s.regs } : State).inc F.MEM_FN_FENCE_EPOCH (s.memSel who) := by
  rw [State.windowWrite, hreg]
  exact if_pos ⟨hlo, hhi⟩

theorem windowWrite_region {s : State} {off k : Nat} {d : RegDef} (who : Requester) (lo n v : Nat)
    (hreg : regAt off = some (d, k)) (hlo : 0x400400 ≤ off) (hhi : off < 0x400600) : s.windowWrite who off lo n v =
      (List.range 256).foldl (fun t f => t.ruleChange f) { s with regs := writeFields d.fields k 0 lo n v s.regs } := by
  have hnotWindow : ¬ (0x400200 ≤ off ∧ off < 0x400300) := by omega
  rw [State.windowWrite, hreg]
  exact (if_neg hnotWindow).trans (if_pos ⟨hlo, hhi⟩)

theorem exec_windowRuleChange_ready {s : State} {who : Requester} (off : Nat) (v : Word) (hready : s.ddtReady = true)
    (hwho : isVf who = false) :
    exec (.windowRuleChange who off v) s = .next ((s.touch who).windowWrite who off 0 64 v.toNat) :=
  when_pos ⟨hready, hwho⟩ _ _

/-! The translation base and invalidations (R330). -/

theorem exec_xltBaseWrite_ready {s : State} {who : Requester} (v : Word) (hready : s.ddtReady = true)
    (hwho : isVf who = false) : exec (.xltBaseWrite who v) s = .next ((s.touch who).xltBase who 0 64 v.toNat) :=
  when_pos ⟨hready, hwho⟩ _ _

/-- The state after an invalidation of a function's cached entries, without EPOCH (R330). -/
def State.invalidated (s : State) (fn : Nat) : State :=
  { s.setFlag F.MEM_XLT_INV_GO fn false with mem := { s.mem with cache := s.mem.cache.filter (fun c =>
    !(c.fn == fn && c.named (s.fld F.MEM_XLT_INV_ADDR_PAGE fn) (s.fld F.MEM_XLT_INV_PAGES fn))) } }

theorem exec_xltInvalidate_go {s : State} {fn : Nat} (h : s.flag F.MEM_XLT_INV_GO fn = true) :
    exec (.xltInvalidate fn) s = .next ((s.invalidated fn).inc F.MEM_FN_FENCE_EPOCH fn) :=
  when_pos h _ _

theorem mem_invalidated_cache {s : State} {fn : Nat} {c : XltEntry} : c ∈ (s.invalidated fn).mem.cache ↔ c ∈ s.mem.cache ∧
    ¬ (c.fn = fn ∧ c.named (s.fld F.MEM_XLT_INV_ADDR_PAGE fn) (s.fld F.MEM_XLT_INV_PAGES fn) = true) := by
  simp only [State.invalidated, List.mem_filter, Bool.not_eq_true', ← Bool.not_eq_true, Bool.and_eq_true, beq_iff_eq]

/-- Settles O25: a window concerns one function and a device region all of them, one after another; an invalidation filters the
cache. -/
theorem ruleChanges : Obligations.RuleChanges := by
  unfold Obligations.RuleChanges
  refine ⟨?window, ?base, ?invalidate⟩
  case window =>
    intro s0 who off v d k hready hwho hreg s
    rw [exec_windowRuleChange_ready off v hready hwho]
    refine ⟨fun hlo hhi => by rw [windowWrite_window who 0 64 v.toNat hreg hlo hhi], fun hlo hhi => ?_⟩
    refine ⟨_, exec_windowRuleChange_ready off v hready hwho, ?_⟩
    rw [windowWrite_region who 0 64 v.toNat hreg hlo hhi]
    refine ⟨fun f hf => ?_, foldl_ruleChange_frame (List.range 256) _⟩
    exact (foldl_ruleChange_fld List.nodup_range _ f).trans (if_pos (List.mem_range.mpr hf))
  case base => exact fun s0 who v hready hwho => ⟨_, exec_xltBaseWrite_ready v hready hwho, rfl, rfl, rfl⟩
  case invalidate =>
    intro s fn hgo
    have hepoch : F.MEM_FN_FENCE_EPOCH.key fn ≠ F.MEM_XLT_INV_GO.key fn := key_ne_of_place (by decide) fn
    refine ⟨_, exec_xltInvalidate_go hgo, fun c => mem_invalidated_cache, ?_, ?_, ?_, rfl⟩
    · rw [flag_inc_ne hepoch.symm]
      exact flag_setFlag_same rfl s fn false
    · rw [fld_inc_same]
      exact congrArg (fun n => (n + 1) % 2 ^ F.MEM_FN_FENCE_EPOCH.width) (fld_setFlag_ne hepoch s false)
    · exact (((FieldsKept.refl s _).setFlag List.mem_cons_self false).of_regs rfl).inc
        (List.mem_cons_of_mem _ List.mem_cons_self)

end Sys2Proof.Machine
end

section
/-! The reset of the blocks outside the always-on island, and how it begins and ends (R312, R585, R590, R592, R593, R636, R662,
R663). -/

namespace Sys2Proof.Machine

/-! What the reset leaves (R590). -/

theorem key_offset {f : Fld} {j : Nat} (hlo : f.lo < 64) (hj : j < 65536) : f.key j / 65536 / 64 = f.off := by
  unfold Fld.key
  omega

/-- The keys of the SEC_STAT fields that fuses, flash and the debug state decide. -/
def keptSecKeys : List Nat := [F.SEC_STAT_EPOCH.key 0, F.SEC_STAT_OWNED.key 0, F.SEC_STAT_FUSE_HOLD.key 0,
  F.SEC_STAT_DEBUG.key 0, F.SEC_STAT_LOCKED.key 0]

theorem outsideReset_fld (s : State) {f : Fld} {j : Nat} (hlo : f.lo < 64) (hj : j < 65536) :
    s.outsideReset.fld f j = if islandReg f.off || keptSecKeys.contains (f.key j) then s.fld f j else f.resetAt j := by
  have hfind : Tbl.find? (f.key j) (outsideRegs s.regs) =
      if islandReg (f.key j / 65536 / 64) || keptSecKeys.contains (f.key j) then Tbl.find? (f.key j) s.regs else none :=
    Tbl.find?_filter_key (fun k => islandReg (k / 65536 / 64) || keptSecKeys.contains k) (f.key j) s.regs
  rw [key_offset hlo hj] at hfind
  have hfld : s.outsideReset.fld f j = (Tbl.find? (f.key j) (outsideRegs s.regs)).getD (f.resetAt j) := rfl
  rw [hfld, hfind]
  split <;> rfl

/-! PERST#, or what counts as it, asserted (R590, R593, R636). -/

/-- The state in which an assertion of PERST# has reset the outside blocks, before firmware's stage. -/
def State.perstBegun (s : State) : State :=
  let s1 := ((s.outsideReset.inc F.FUM_RST_STAT_PERST_CNT 0).setFld F.FUM_RST_STAT_LAST 0 1).pulseLine 4
  { s1 with fum := { s1.fum with perst := true, perstSince := s1.tb.time } }

theorem perstOn_held {s : State} (h : s.fum.perst = true) : s.perstOn = s := if_pos h

theorem perstOn_begins {s : State} (h : s.fum.perst = false) :
    s.perstOn = if s.perstBegun.fwUp then s.perstBegun.setStage 3 else s.perstBegun :=
  if_neg (by rw [h]; decide)

/-- A choice between a state and its copy at another stage differs from the state in the registers alone. -/
theorem ite_setStage_frame (c : Bool) (s : State) (g : Nat) : ∃ r, (if c then s.setStage g else s) = { s with regs := r } := by
  cases c
  · exact ⟨s.regs, rfl⟩
  · exact ⟨_, rfl⟩

theorem perstBegun_frame (s : State) : ∃ r cores, s.perstBegun = { s.outsideReset with
    regs := r, mcores := cores, fum := { s.fum with perst := true, perstSince := s.tb.time } } := by
  obtain ⟨cores, hframe⟩ := pulseLine_cores ((s.outsideReset.inc F.FUM_RST_STAT_PERST_CNT 0).setFld F.FUM_RST_STAT_LAST 0 1) 4
  refine ⟨((s.outsideReset.inc F.FUM_RST_STAT_PERST_CNT 0).setFld F.FUM_RST_STAT_LAST 0 1).regs, cores, ?_⟩
  rw [State.perstBegun, hframe]
  rfl

/-- An assertion of PERST# ends with it held; where it was not held before, the outside blocks have been reset. -/
theorem perstOn_leaves (s : State) : let t := s.perstOn
    t.fum.perst = true ∧ t.fum.corePg = s.fum.corePg ∧ t.fum.coreFell = s.fum.coreFell ∧ t.fum.perstPin = s.fum.perstPin ∧
    (s.fum.perst = false → t.rng = {} ∧ t.tiles = []) := by
  dsimp only
  cases h : s.fum.perst with
  | true =>
    rw [perstOn_held h]
    exact ⟨h, rfl, rfl, rfl, fun e => nomatch e⟩
  | false =>
    obtain ⟨r, hstage⟩ := ite_setStage_frame s.perstBegun.fwUp s.perstBegun 3
    obtain ⟨r', cores, hbegun⟩ := perstBegun_frame s
    rw [perstOn_begins h, hstage, hbegun]
    exact ⟨rfl, rfl, rfl, rfl, fun _ => ⟨rfl, rfl⟩⟩

theorem exec_perstAssert_powered {s : State} (hp : s.fum.powered = true) :
    exec .perstAssert s = .next ({ s with fum := { s.fum with perstPin := true } } : State).perstOn := when_pos hp _ _

theorem exec_corePgFall_high {s : State} (hp : s.fum.powered = true) (hhigh : s.fum.corePg = true) :
    exec .corePgFall s = .next (let s1 := sinterEvent ((Config.freeWord 0x636).toNat % 1024) 0 s
      ({ s1 with fum := { s1.fum with corePg := false, coreFell := true } } : State).perstOn) := when_pos ⟨hp, hhigh⟩ _ _

/-! The end of the reset (R592, R593, R662, R663). -/

theorem perstOff_held {s : State} (h : s.fum.perst = false ∨ s.fum.perstPin = true ∨ s.fum.coreFell = true ∨
    s.tb.thermtrip = true) : s.perstOff = s := by
  refine if_neg ?_
  rcases h with h | h | h | h <;> simp [h]

theorem perstOff_ends {s : State} (hperst : s.fum.perst = true) (hpin : s.fum.perstPin = false) (hcore : s.fum.coreFell = false)
    (htrip : s.tb.thermtrip = false) : s.perstOff =
      ((((({ s with fum := { s.fum with perst := false, extest := false } } : State).setFlag F.FUM_RST_STAT_PERST_HELD 0
        false).zeroDev sharedBase (sharedEnd - sharedBase)).zeroDev tileBase (tileEnd - tileBase)).pulseLine 4).startTraining :=
  if_pos (by simp [hperst, hpin, hcore, htrip])

theorem exec_perstDeassert_powered {s : State} (hp : s.fum.powered = true) :
    exec .perstDeassert s = .next ({ s with fum := { s.fum with perstPin := false } } : State).perstOff := when_pos hp _ _

theorem startTraining_held {s : State} (h : s.fum.perst = true) : s.startTraining = s := if_neg (by simp [h])

theorem startTraining_begins {s : State} (hstage : s.fld F.FUM_BOOT_STAT_STAGE 0 = 3) (hpg : s.fum.corePg = true)
    (hperst : s.fum.perst = false) (hfuses : ∀ d, d < 8 → s.fuseHeld (21 + d) = false) :
    s.startTraining = ((s.setFld F.FUM_PD_REQ_ON 0 (2 ^ 29 - 1)).domainReq).setStage 4 := by
  have hall : (List.range 29).map (fun d => if d < 8 ∧ s.fuseHeld (21 + d) then 0 else 2 ^ d) =
      (List.range 29).map (fun d => 2 ^ d) := by
    refine List.map_congr_left fun d _ => if_neg ?_
    rintro ⟨hd, hheld⟩
    exact Bool.false_ne_true ((hfuses d hd).symm.trans hheld)
  have hsum : sumOf ((List.range 29).map (fun d => 2 ^ d)) = 2 ^ 29 - 1 := by decide
  rw [State.startTraining, if_pos ⟨hstage, hpg, by rw [hperst]; rfl⟩, hall, hsum]

theorem exec_corePgRise_low {s : State} (hp : s.fum.powered = true) (hlow : s.fum.corePg = false) :
    exec .corePgRise s = .next (((((({ s with fum := { s.fum with corePg := true, coreFell := false } } : State).vcbSend 0 1
      780).vcbSend 1 1 780).setFld F.FUM_PWR_STAT_V_CD0_MV 0 780).setFld F.FUM_PWR_STAT_V_CD1_MV 0 780).perstOff.startTraining) :=
  when_pos ⟨hp, hlow⟩ _ _

/-! The memories after their training (R312, R662). -/

theorem foldl_setUnit_fum (x : State → Nat → UnitState) (l : List Nat) (s : State) :
    (l.foldl (fun t u => t.setUnit u (x t u)) s).fum = s.fum := by
  induction l generalizing s with
  | nil => rfl
  | cons u l ih => exact ih (s.setUnit u (x s u))

theorem zeroDev_fum (s : State) (a n : Nat) : (s.zeroDev a n).fum = s.fum := by
  have h : s.zeroDev a n = (s.endRsv 0 a (a + n)).setDev (s.mem.dev.erase a (a + n)) := rfl
  rw [h, endRsv_frame]
  rfl

theorem clearPoison_fum (s : State) (p : Nat → Bool) : (s.clearPoison p).fum = s.fum := rfl

/-- The capacity registers for `gib` GiB in each populated channel (R312). -/
def State.populatedAs (s : State) (pop gib : Nat) : State :=
  let n := sumOf ((List.range 8).map (fun c => ofBit (bit pop c)))
  ((s.setFld F.MEM_CAP_STAT_POPULATED 0 pop).setFld F.MEM_CAP_STAT_PER_CH_GIB 0 (if n = 0 then 0 else gib)).setFld
    F.MEM_CAP_STAT_INSTALLED_GIB 0 (n * gib)

/-- The stacks and the populated channels zero with fresh ECC, and trained now (R662). -/
def State.memoryTrained (s : State) : State :=
  (List.range 20).foldl (fun t u => t.setUnit u { t.unit u with lastTrain := t.tb.time, trainTemp := (t.unit u).temp })
    (((s.zeroDev 0 nearEnd).zeroDev capBase (s.capEnd - capBase)).clearPoison (fun u => decide (u < 20)))

/-- Firmware's table published and the preferred image confirmed (R574, R584). -/
def State.tablePublished (s : State) : State :=
  let s4 : State := { s with hep := { s.hep with ddt := s.ddtFull } }
  (((s4.setFlag F.HEP_DEV_STAT_DDT_READY 0 true).setStage 5).setBootRecord s4.fum.records.preferred false false).dimmsHot

theorem tablePublished_eq {s t : State} (h : t.fum = s.fum) : t.tablePublished =
    (((({ t with hep := { t.hep with ddt := t.ddtFull } } : State).setFlag F.HEP_DEV_STAT_DDT_READY 0 true).setStage
      5).setBootRecord s.fum.records.preferred false false).dimmsHot := by
  rw [← h]
  rfl

theorem memoryTrained_fum (s : State) : s.memoryTrained.fum = s.fum := by
  rw [State.memoryTrained, foldl_setUnit_fum, clearPoison_fum, zeroDev_fum, zeroDev_fum]

theorem exec_memoryInitDone_trained {s : State} {pop gib : Nat} (hstage : s.fld F.FUM_BOOT_STAT_STAGE 0 = 4)
    (hperst : s.fum.perst = false) (hpop : pop < 256) (hlo : 16 ≤ gib) (hhi : gib ≤ 128)
    (hwaking : ∀ i, i < 8 → Tbl.has s.fum.waking (10 + i) = false) :
    exec (.memoryInitDone pop gib) s = .next (s.populatedAs pop gib).memoryTrained.tablePublished := by
  have hawake : (List.range 8).all (fun i => !Tbl.has s.fum.waking (10 + i)) = true := by
    simpa using hwaking
  rw [exec_memoryInitDone, execMemoryInitDone, when_pos ⟨hstage, hperst, hpop, hlo, hhi, hawake⟩, State.tablePublished,
    State.memoryTrained, State.populatedAs]

/-! A thermal trip (R62, R592, R604). -/

/-- What Sinter does at a thermal trip at `tj`: its record set is taken and flushed (R604). -/
def State.tripRecorded (s : State) (tj : Nat) : State :=
  sinterFlush (sinterTake .thermtrip 0 s.setBytes (sinterRecord 0x307 tj s))

theorem tripRecorded_only (s : State) (tj : Nat) : SntOnly s (s.tripRecorded tj) :=
  ((sinterRecord_only ..).trans (sinterTake_only ..)).trans (sinterFlush_only _)

theorem postNotices_none {s : State} (h : s.snt.notices = []) : s.postNotices = s := by
  rw [State.postNotices, h, List.foldl_nil, ← h]

/-- The outside blocks held in reset by a thermal trip, before firmware's stage. -/
def State.tripHeld (s : State) : State :=
  let s2 : State := { s with tb := { s.tb with thermtrip := true } }
  let s3 := s2.outsideReset
  { s3 with fum := { s3.fum with perst := true, perstSince := if s3.fum.perst then s3.fum.perstSince else s3.tb.time } }

theorem exec_thermtrip_hot {s : State} {tj : Nat} (htj : 120 ≤ tj) (htrip : s.tb.thermtrip = false)
    (hp : s.fum.powered = true) : exec (.thermtrip tj) s = .next (
      if (s.tripRecorded tj).postNotices.tripHeld.fwUp then (s.tripRecorded tj).postNotices.tripHeld.setStage 3
      else (s.tripRecorded tj).postNotices.tripHeld) := when_pos ⟨htj, htrip, hp⟩ _ _

/-- Settles O53: the reset's fields, then each event by the conditions under which it begins or ends the reset. -/
theorem resetOfTheBlocks : Obligations.ResetOfTheBlocks := by
  unfold Obligations.ResetOfTheBlocks
  refine ⟨?outside, ?asserted, ?deasserted, ?training, ?held, ?rise, ?fall, ?memories, ?trip⟩
  case outside =>
    intro s t
    refine ⟨rfl, rfl, rfl, rfl, rfl, rfl, rfl, rfl, rfl, rfl, rfl, rfl, rfl, rfl, rfl, rfl, rfl, rfl, rfl, rfl, ?_⟩
    intro f j hlo hj
    refine ⟨fun hisland => ?_, fun hout hnot => ?_⟩
    · exact (outsideReset_fld s hlo hj).trans (if_pos (by rw [hisland, Bool.true_or]))
    · have hkept : keptSecKeys.contains (f.key j) = false := by
        rw [List.contains_eq_mem]
        exact decide_eq_false hnot
      exact (outsideReset_fld s hlo hj).trans (if_neg (by rw [hout, hkept]; decide))
  case asserted =>
    intro s hp s0
    rw [exec_perstAssert_powered hp]
    exact ⟨fun h => congrArg _ (perstOn_held (s := s0) h), fun h => congrArg _ (perstOn_begins (s := s0) h)⟩
  case deasserted =>
    intro s hp s0
    rw [exec_perstDeassert_powered hp]
    exact ⟨fun h => congrArg _ (perstOff_held (s := s0) (h.imp_right .inr)),
      fun hperst hcore htrip => congrArg _ (perstOff_ends (s := s0) hperst rfl hcore htrip)⟩
  case training => exact fun s hstage hpg hperst hfuses => startTraining_begins hstage hpg hperst hfuses
  case held =>
    intro s
    exact ⟨fun hperst hnew hdue => when_pos ⟨hperst, hnew, hdue⟩ _ _,
      fun hearly => when_neg (fun ⟨_, _, hdue⟩ => Nat.not_lt.mpr hdue hearly) _ _⟩
  case rise =>
    intro s hp hlow hperst hpin
    rw [exec_corePgRise_low hp hlow]
    refine congrArg _ ?_
    generalize hrisen : ((((({ s with fum := { s.fum with corePg := true, coreFell := false } } : State).vcbSend 0 1 780).vcbSend
      1 1 780).setFld F.FUM_PWR_STAT_V_CD0_MV 0 780).setFld F.FUM_PWR_STAT_V_CD1_MV 0 780) = t
    have hpinned : t.fum.perstPin = true := by rw [← hrisen]; exact hpin
    have hheld : t.fum.perst = true := by rw [← hrisen]; exact hperst
    rw [perstOff_held (.inr (.inl hpinned)), startTraining_held hheld]
  case fall =>
    intro s hp hhigh
    refine ⟨_, exec_corePgFall_high hp hhigh, ?_⟩
    dsimp only
    rw [sinterEvent_only]
    obtain ⟨hperst, hpg, hfell, hpin, hreset⟩ := perstOn_leaves
      ({ s with snt := (sinterEvent ((Config.freeWord 0x636).toNat % 1024) 0 s).snt,
                fum := { s.fum with corePg := false, coreFell := true } } : State)
    exact ⟨hpg, hfell, hperst, hpin, hreset⟩
  case memories =>
    intro s pop gib hstage hperst hpop hlo hhi hwaking n s1 s2 s3
    have hs3 : s3 = (s.populatedAs pop gib).memoryTrained := rfl
    have hfum : s3.fum = s.fum := by rw [hs3, memoryTrained_fum]; rfl
    rw [exec_memoryInitDone_trained hstage hperst hpop hlo hhi hwaking, ← hs3, tablePublished_eq hfum]
  case trip =>
    intro s tj hp htrip
    refine ⟨fun hcool => when_neg (fun ⟨hhot, _⟩ => Nat.not_lt.mpr hhot hcool) _ _, fun hhot => ?_⟩
    intro u
    refine ⟨_, exec_thermtrip_hot hhot htrip hp, ?_⟩
    obtain ⟨r, hstage⟩ := ite_setStage_frame (s.tripRecorded tj).postNotices.tripHeld.fwUp
      (s.tripRecorded tj).postNotices.tripHeld 3
    rw [hstage]
    refine ⟨rfl, rfl, rfl, rfl, fun hnone => ?_⟩
    have hhost : (s.tripRecorded tj).mem = s.mem := by rw [tripRecorded_only s tj]
    rw [postNotices_none (s := s.tripRecorded tj) hnone]
    have hmem : (s.tripRecorded tj).tripHeld.mem.host = (s.tripRecorded tj).mem.host := rfl
    exact ⟨rfl, hmem.trans (congrArg MemSys.host hhost)⟩

end Sys2Proof.Machine
end

section
/-! The messages of a checkpoint's transfer, at the sender and at the holder (R333, R547, R549, R550, R560 to R563, R565). -/

namespace Sys2Proof.Machine

/-! The oldest message is taken from the inbox (R588). -/

theorem ckFront_gets {s : State} {q : Nat} {m : CkMsg} {rest : List (Nat × CkMsg)} (h : s.ckGets q m rest)
    {p : CkMsg → Bool} (hp : p m = true) : s.ckFront p = some (q, m, s.withCkInbox rest) := by
  obtain ⟨hinbox, hdomain⟩ := h
  have htakes : (if ckOpens m then decide (s.domain 27 = DomState.ready) else s.domOn 27) = true := by
    split at hdomain
    · next hopens => rw [if_pos hopens]; exact decide_eq_true hdomain
    · next hopens => rw [if_neg hopens]; exact hdomain
  rw [State.ckFront, hinbox]
  exact if_pos ⟨hp, htakes⟩

theorem withCkp_eq (s : State) (c : Ckpt) : s.withCkp c = { s with ckp := c } := rfl

/-! OPEN (R550, R560, R561). -/

section
variable {s : State} {q fmt step n lanes : Nat} {table : List Byte} {rest : List (Nat × CkMsg)}

/-- The state in which a slot has been taken for the copy `r`: the sender is answered. -/
def State.slotTaken (s : State) (q : Nat) (r : CkRecv) : State :=
  ((s.withCkp { s.ckp with recv := some r }).setFlag F.CKP_STAT_RECEIVING 0 true).ckSay q (.accept r.slot)

theorem slotTaken_eq (s : State) (q : Nat) (r : CkRecv) : s.slotTaken q r =
    (({ s with ckp := { s.ckp with recv := some r } } : State).setFlag F.CKP_STAT_RECEIVING 0 true).ckSay q (.accept r.slot) := rfl

/-- The state in which slot `k` has been taken for a copy, in the state `s1` that has joined the activity. -/
def State.openTaken (s s1 : State) (q fmt step n lanes : Nat) (table : List Byte) (rest : List (Nat × CkMsg)) (k : Nat) : State :=
  let a := s.ckSlotBase k
  let h := ckNewHeader fmt (ckEntries table) (s.qpSerial q) step (max (s.ckWriteNo 0) (s.ckWriteNo 1) + 1) table
  ((((s1.withCkp (s.withCkInbox rest).ckp).devWrite a h).spoil (a + 0x20) 17).spoil (a + 0x40) 64).slotTaken q
    ⟨k, n, lanes, List.replicate lanes crc64.init, false, s.fld F.MEM_FN_FENCE_EPOCH s.buddyFn⟩

theorem exec_openMsg_disabled (h : s.ckGets q (.openReq fmt step n lanes table) rest)
    (hoff : s.buddySize = 0 ∨ ∀ k, k < 8 → s.flag (F.CKP_PARTNER_EN.at k) 0 = false) :
    exec .openMsg s = .next ((s.withCkInbox rest).ckSay q (.refuse 1)) := by
  have hnone : s.buddySize = 0 ∨ (!(List.range 8).any (fun k => s.flag (F.CKP_PARTNER_EN.at k) 0)) = true := by
    simpa using hoff
  rw [exec_openMsg, execOpenMsg, ckFront_gets h rfl]
  dsimp only
  rw [if_pos hnone]

/-- An OPEN where partners are enabled goes on to the room and the slot. -/
theorem exec_openMsg_enabled (h : s.ckGets q (.openReq fmt step n lanes table) rest) (hsize : s.buddySize ≠ 0)
    (hpartner : ∃ k, k < 8 ∧ s.flag (F.CKP_PARTNER_EN.at k) 0 = true) :
    (s.buddySize / 2 < 0x1000 + n → exec .openMsg s = .next ((s.withCkInbox rest).ckSay q (.refuse 2))) ∧
    (0x1000 + n ≤ s.buddySize / 2 →
      (s.ckChoose = none → exec .openMsg s = .next s) ∧
      (∀ k, s.ckChoose = some k → s.ckJoin.maintRuns .checkpoint 0 = false → exec .openMsg s = .next s.ckJoin) ∧
      (∀ k, s.ckChoose = some k → s.ckJoin.maintRuns .checkpoint 0 = true →
        (∀ st, s.ckJoin.checkRange s.buddyFn true true (s.ckSlotBase k) (0x1000 + n) = .fail st → exec .openMsg s =
          .next (((s.ckJoin.withCkp (s.withCkInbox rest).ckp).refuse s.buddyFn st).ckSettle)) ∧
        (s.ckJoin.checkRange s.buddyFn true true (s.ckSlotBase k) (0x1000 + n) = .ok () →
          exec .openMsg s = .next (s.openTaken s.ckJoin q fmt step n lanes table rest k)))) := by
  have hsome : ¬ (s.buddySize = 0 ∨ (!(List.range 8).any (fun k => s.flag (F.CKP_PARTNER_EN.at k) 0)) = true) := by
    simpa [hsize] using hpartner
  rw [exec_openMsg, execOpenMsg, ckFront_gets h rfl]
  dsimp only
  rw [if_neg hsome]
  refine ⟨fun hsmall => by rw [if_pos hsmall], fun hroom => ?_⟩
  rw [if_neg (Nat.not_lt.mpr hroom)]
  refine ⟨fun hnone => by rw [hnone], fun k hk hwaits => ?_, fun k hk hruns => ⟨fun st hfail => ?_, fun hok => ?_⟩⟩
  · rw [hk]
    dsimp only
    rw [hwaits]
    rfl
  · rw [hk]
    dsimp only
    rw [hruns, hfail]
    rfl
  · rw [hk]
    dsimp only
    rw [hruns, hok, if_neg (show ¬ (!true) = true by decide), ← withCkp_eq s.ckJoin]
    exact congrArg Host.Outcome.next (slotTaken_eq ..).symm

end

/-- The slot that an OPEN takes (R550): a free one, or of two VALID copies the older. -/
theorem ckChoose_free {s : State} (h0 : s.ckReading 0 = false) (h1 : s.ckReading 1 = false) :
    (s.ckSlotState 0 ≠ 2 → s.ckChoose = some 0) ∧
    (s.ckSlotState 0 = 2 → s.ckSlotState 1 ≠ 2 → s.ckChoose = some 1) ∧
    (s.ckSlotState 0 = 2 → s.ckSlotState 1 = 2 → ∃ k, s.ckChoose = some k ∧ k < 2 ∧ s.ckWriteNo k ≤ s.ckWriteNo (1 - k)) := by
  refine ⟨fun hfree => ?_, fun hvalid hfree => ?_, fun hvalid0 hvalid1 => ?_⟩
  · simp [State.ckChoose, hfree, h0]
  · simp [State.ckChoose, hvalid, hfree, h1]
  · by_cases holder : s.ckWriteNo 1 < s.ckWriteNo 0
    · exact ⟨1, by simp [State.ckChoose, hvalid0, hvalid1, holder, h1], by decide, holder.le⟩
    · exact ⟨0, by simp [State.ckChoose, hvalid0, hvalid1, holder, h0], by decide, Nat.not_lt.mp holder⟩

/-! Answers to an OPEN (R560, R562, R565). -/

theorem exec_accept_job {s : State} {q k : Nat} {j : CkJob} {rest : List (Nat × CkMsg)} (h : s.ckGets q (.accept k) rest)
    (hjob : s.ckp.job = some j) : exec .accept s = .next (
      if s.fld F.CKP_STAT_STATE 0 = 2 ∧ j.bytes ≠ 0 then (s.lanes.zipIdx.foldl (fun t x =>
        let n := lanePackets x.2 j.lanes j.bytes
        if n = 0 then t
        else t.pushWqe x.1 { slot := none, kind := .ckData (some j.regions) x.2 j.lanes k j.bytes, n := n })
        (s.withCkp { s.ckp with
          inbox := rest, job := some { j with target := k, crcs := List.replicate j.lanes crc64.init } })).setCkState 3
      else s.withCkInbox rest) := by
  rw [exec_accept, execAccept, ckFront_gets h rfl, hjob]
  rfl

theorem exec_refuse_gets {s : State} {q r : Nat} {rest : List (Nat × CkMsg)} (h : s.ckGets q (.refuse r) rest) :
    exec .refuse s = .next (
      if s.fld F.CKP_STAT_STATE 0 = 2 then
        if r = 2 then (s.withCkInbox rest).ckFail 0x601 0 else (s.withCkInbox rest).ckFail 0x600 1
      else s.withCkInbox rest) := by
  rw [exec_refuse, execRefuse, ckFront_gets h rfl]
  rfl

/-! Data and the header that comes before it (R560, R562, R567). -/

theorem exec_dataMsg_partner {s : State} {q slot off : Nat} {b : List Byte} {rest : List (Nat × CkMsg)} {r : CkRecv}
    (h : s.ckGets q (.data slot off b) rest) (hrecv : s.ckp.recv = some r) (hpartner : s.ckPartner q = true)
    (hslot : r.slot = slot) (hroom : off + b.length ≤ r.bytes)
    (hheld : s.rangeHeld (s.ckSlotBase r.slot + 0x1000 + off) b.length = false) :
    exec .dataMsg s = .next ((s.withCkInbox rest).ckStore r off b) := by
  have hfits : s.ckp.recv.filter (fun r => s.ckPartner q && r.slot == slot && decide (off + b.length ≤ r.bytes)) = some r := by
    rw [hrecv]
    simp [hpartner, hslot, hroom]
  rw [exec_dataMsg, execDataMsg, ckFront_gets h rfl]
  dsimp only
  rw [hfits]
  dsimp only
  rw [if_neg (by rw [hheld]; decide)]

theorem exec_dataMsg_restore {s : State} {q slot off : Nat} {b h : List Byte} {rest : List (Nat × CkMsg)} {r : CkRestore}
    (hgets : s.ckGets q (.data slot off b) rest) (hrecv : s.ckp.recv = none) (hrestore : s.ckp.restore = some r)
    (hheader : r.header = some h) : exec .dataMsg s = .next ((s.withCkp { s.ckp with
      inbox := rest, restore := some { r with got := r.got ++ [(off, b)] } }).snoop 27
        (if leAt h 0x30 1 = 0 then 0 else off / 65536 % leAt h 0x30 1) b) := by
  rw [exec_dataMsg, execDataMsg, ckFront_gets hgets rfl, hrecv, hrestore]
  dsimp only [Option.filter_none]
  rw [hheader]
  rfl

theorem exec_dataMsg_header {s : State} {q : Nat} {h : List Byte} {rest : List (Nat × CkMsg)} {r : CkRestore}
    (hgets : s.ckGets q (.header h) rest) (hrestore : s.ckp.restore = some r) (hlive : r.dead = false)
    (haccess : s.ckAccess true (ckRegions h) ≠ .wait) :
    exec .dataMsg s = .next ((s.withCkInbox rest).ckGotHeader r h) := by
  rw [exec_dataMsg, execDataMsg, ckFront_gets hgets rfl, hrestore]
  dsimp only
  rw [if_neg (by rw [hlive]; decide), if_neg (by rw [decide_eq_false haccess]; decide)]

theorem ckGotHeader_version {s : State} {r : CkRestore} {h : List Byte} (hnew : leAt h 4 2 ≠ s.versions.1)
    (hold : leAt h 4 2 + 1 ≠ s.versions.1) : s.ckGotHeader r h = s.restoreDrop r 0x603 := if_pos ⟨hnew, hold⟩

theorem ckGotHeader_known {s : State} {r : CkRestore} {h : List Byte}
    (hfmt : leAt h 4 2 = s.versions.1 ∨ leAt h 4 2 + 1 = s.versions.1) :
    (s.ckAccess true (ckRegions h) = .ok () → s.ckGotHeader r h = s.withCkp { s.ckp with restore := some { r with
      header := some h, regions := ckRegions h, epoch := s.fld F.MEM_FN_FENCE_EPOCH s.buddyFn } }) ∧
    (∀ st, s.ckAccess true (ckRegions h) = .fail st → s.ckGotHeader r h = (s.refuse s.buddyFn st).restoreDrop r st) := by
  have hknown : ¬ (leAt h 4 2 ≠ s.versions.1 ∧ leAt h 4 2 + 1 ≠ s.versions.1) := fun ⟨hnew, hold⟩ => hfmt.elim hnew hold
  rw [State.ckGotHeader]
  dsimp only
  rw [if_neg hknown]
  exact ⟨fun hok => by rw [hok]; rfl, fun st hfail => by rw [hfail]⟩

/-! The seal and its answer (R549, R563, R565). -/

/-- The first 128 bytes of the header of a sealed copy, with STATE not yet VALID. -/
def sealHeader (r : CkRecv) (now : Nat) (crcs : List Nat) (h : List Byte) : List Byte :=
  h.take 0x20 ++ toBytes 8 r.bytes ++ toBytes 8 now ++ toBytes 1 r.lanes ++ slice h 0x31 15 ++
    crcs.flatMap (toBytes 8) ++ List.replicate (64 - 8 * crcs.length) 0

/-- The holder's state once a copy has ended, sealed or not. -/
def State.copyOver (s : State) (rest : List (Nat × CkMsg)) : State :=
  (s.withCkp { s.ckp with inbox := rest, recv := none }).setFlag F.CKP_STAT_RECEIVING 0 false

/-- A copy sealed in the slot at `a`: its header is written, then STATE VALID, the event is posted and the sender answered. -/
def State.copySealed (s : State) (env : Env) (q : Nat) (crcs : List Nat) (rest : List (Nat × CkMsg)) (r : CkRecv) (a : Nat) :
    State :=
  let h := s.devRead a 128
  let h1 := sealHeader r s.tb.time crcs h
  (((((s.copyOver rest).devWrite a h1).devWrite a (h1.take 6 ++ [(2 : Byte)] ++ slice h1 7 57)).postEvent env s.buddyFn 0xB004
    (BitVec.ofNat 64 (r.slot + leAt h 0x10 4 * 2 ^ 32)) 0).ckSay q (.sealed 0)).ckSettle

theorem exec_sealMsg_received {s : State} (env : Env) {q : Nat} {crcs : List Nat} {rest : List (Nat × CkMsg)} {r : CkRecv}
    (h : s.ckGets q (.seal crcs) rest) (hrecv : s.ckp.recv = some r) (hheld : s.rangeHeld (s.ckSlotBase r.slot) 128 = false) :
    exec (.sealMsg env) s = .next (
      if r.crcs.map (crcFinal crc64) = crcs ∧ r.bad = false then s.copySealed env q crcs rest r (s.ckSlotBase r.slot)
      else ((s.copyOver rest).ckSay q (.sealed 1)).ckSettle) := by
  rw [exec_sealMsg, execSealMsg, ckFront_gets h rfl, hrecv]
  dsimp only
  rw [if_neg (by rw [hheld]; decide)]
  rfl

/-- The sender's state in which its checkpoint is sealed, before its clause completes or its event is posted. -/
def State.jobSealed (s : State) (rest : List (Nat × CkMsg)) (j : CkJob) : State :=
  let s1 := (((s.withCkInbox rest).inc F.CKP_CNT_SEALED_CNT 0).setFld F.CKP_STAT_STEP 0 j.step).setCkState 0
  s1.withCkp { s1.ckp with job := none }

theorem exec_sealed_job {s : State} (env : Env) {q c : Nat} {rest : List (Nat × CkMsg)} {j : CkJob}
    (h : s.ckGets q (.sealed c) rest) (hjob : s.ckp.job = some j) (hstate : s.fld F.CKP_STAT_STATE 0 = 4) :
    (c ≠ 0 → exec (.sealed env) s = .next ((s.withCkInbox rest).ckFail 0x602 0)) ∧
    (∀ n, c = 0 → j.slot = some n →
      exec (.sealed env) s = .next ((s.jobSealed rest j).slotDone n 0 (BitVec.ofNat 64 j.step)).ckSettle) ∧
    (c = 0 → j.slot = none → exec (.sealed env) s =
      .next ((s.jobSealed rest j).postEvent env s.buddyFn 0xB002 (BitVec.ofNat 64 j.step) 0).ckSettle) := by
  rw [exec_sealed, execSealed, ckFront_gets h rfl, hjob]
  dsimp only
  rw [if_neg (not_not_intro hstate)]
  refine ⟨fun hbad => by rw [if_pos hbad]; rfl, fun n hc hslot => ?_, fun hc hslot => ?_⟩ <;>
    rw [if_neg (not_not_intro hc), hslot] <;> rfl

/-! The buddy size (R333). -/

theorem exec_buddyApply_set {s : State} (h : s.flag F.MEM_BUDDY_CTL_APPLY 0 = true) : exec .buddyApply s = .next (
    if s.ckp.transfers then
      ({ s.setFlag F.MEM_BUDDY_CTL_APPLY 0 false with
        mem := { s.mem with buddyWait := some (s.fld F.MEM_BUDDY_CTL_SIZE_GIB 0) } } : State).setFlag F.MEM_BUDDY_STAT_WAITING 0 true
    else (s.setFlag F.MEM_BUDDY_CTL_APPLY 0 false).buddySet (s.fld F.MEM_BUDDY_CTL_SIZE_GIB 0)) :=
  when_pos h _ _

/-- Settles O50: each message, taken from the inbox, is followed through its checks. -/
theorem checkpointTransfer : Obligations.CheckpointTransfer := by
  unfold Obligations.CheckpointTransfer
  refine ⟨?openReq, ?choose, ?accepted, ?refused, ?data, ?restored, ?header, ?sealReq, ?sealed, ?buddy⟩
  case openReq =>
    exact fun s q fmt step n lanes table rest h => ⟨exec_openMsg_disabled h, exec_openMsg_enabled h⟩
  case choose => exact fun s h0 h1 => ckChoose_free h0 h1
  case accepted =>
    intro s q k j rest h hjob
    rw [exec_accept_job h hjob]
    exact ⟨fun hst => by rw [if_neg (fun hc => hst hc.1)], fun hst hbytes => by rw [if_pos ⟨hst, hbytes⟩]⟩
  case refused =>
    intro s q r rest h s0
    rw [exec_refuse_gets h]
    refine ⟨fun hst hr => by rw [if_pos hst, if_pos hr], fun hst hr => by rw [if_pos hst, if_neg hr], fun hst => by rw [if_neg hst]⟩
  case data => exact fun s q slot off b rest r h => exec_dataMsg_partner h
  case restored => exact fun s q slot off b rest r h hgets => exec_dataMsg_restore hgets
  case header =>
    intro s q h rest r hgets hrestore hlive haccess s0 fmt
    rw [exec_dataMsg_header hgets hrestore hlive haccess]
    refine ⟨fun hnew hold => ?_, fun hfmt hok => ?_, fun st hfmt hfail => ?_⟩
    · rw [ckGotHeader_version (s := s0) hnew hold]
    · rw [(ckGotHeader_known (s := s0) hfmt).1 hok]
      rfl
    · rw [(ckGotHeader_known (s := s0) hfmt).2 st hfail]
      rfl
  case sealReq =>
    intro s env q crcs rest r h hrecv a hheld h0 h1 s1
    rw [exec_sealMsg_received env h hrecv hheld]
    refine ⟨fun hcrcs hgood => by rw [if_pos ⟨hcrcs, hgood⟩]; rfl, fun hbad => ?_⟩
    have hunsealed : ¬ (r.crcs.map (crcFinal crc64) = crcs ∧ r.bad = false) := by
      rintro ⟨hcrcs, hgood⟩
      exact hbad.elim (fun hne => hne hcrcs) (fun htrue => Bool.false_ne_true (hgood.symm.trans htrue))
    rw [if_neg hunsealed]
    rfl
  case sealed => exact fun s env q c rest j h hjob hstate => exec_sealed_job env h hjob hstate
  case buddy =>
    intro s n s1
    refine ⟨fun happly hmoves => ?_, fun happly hquiet => ?_, fun hidle => when_neg (by rw [hidle]; decide) _ _⟩
    · rw [exec_buddyApply_set happly, if_pos hmoves]
      rfl
    · rw [exec_buddyApply_set happly, if_neg (by rw [hquiet]; decide)]

end Sys2Proof.Machine
end

section
/-! Collectives: their start, their last chunk and their failures (R324, R478 to R484). -/

namespace Sys2Proof.Machine

/-! A clause of an engine whose domain may be off (R22, R588). -/

theorem withDomain_off {s : State} {d : Nat} (h : s.domain d = .off) (n : Nat) (f : State) :
    s.withDomain n d f = s.slotDone n 0x101 0 := by
  rw [State.withDomain, h]
  rfl

theorem withDomain_ready {s : State} {d : Nat} (h : s.domain d = .ready) (n : Nat) (f : State) : s.withDomain n d f = f := by
  rw [State.withDomain, h]

theorem withDomainOf_new {y : Slot} (h : y.progress = none) (s : State) (n d : Nat) (f : State) :
    s.withDomainOf n y d f = s.withDomain n d f := if_neg (by simp [h])

theorem withDomainOf_ready {s : State} {d : Nat} (h : s.domain d = .ready) (n : Nat) (y : Slot) (f : State) :
    s.withDomainOf n y d f = f := by
  rw [State.withDomainOf, withDomain_ready h, ite_self]

theorem withDomainOf_admitted {y : Slot} (h : y.progress ≠ none) (s : State) (n d : Nat) (f : State) :
    s.withDomainOf n y d f = f := if_pos (Option.isSome_iff_ne_none.2 h)

/-! The start of a collective (R479, R480). -/

theorem exec_collective {n op : Nat} {env : Env} {mk : Nat → Env → Instr} (s : State)
    (h : (op = 0 ∧ mk = .reduceScatter) ∨ (op = 1 ∧ mk = .allGather) ∨ (op = 2 ∧ mk = .allReduce) ∨ (op = 3 ∧ mk = .broadcast) ∨
      (op = 4 ∧ mk = .allToAll)) : exec (mk n env) s = .next (s.collective n op env) := by
  rcases h with ⟨rfl, rfl⟩ | ⟨rfl, rfl⟩ | ⟨rfl, rfl⟩ | ⟨rfl, rfl⟩ | ⟨rfl, rfl⟩ <;> rfl

section
variable {s : State} {n op : Nat} {y : Slot} {x : Group}

theorem collective_groupless (env : Env) (hy : s.clauseAt n 4 op = some y) (hg : s.group? (collArgs y.words).group = none) :
    s.collective n op env = s.withDomain n 20 (s.slotDone n 0x10 0) := by
  rw [State.collective, hy]
  dsimp only
  rw [hg]
  rfl

/-- What a collective whose fields are sound does once its ranges are checked: `s1` is the state that has opened them (R479,
R480). -/
def State.collGoes (s s1 : State) (env : Env) (n : Nat) (y : Slot) (x : Group) (a : CollArgs) : State :=
  if s.collPeers a x ≠ 0 then s1.slotDone n (s.collPeers a x) 0
  else if x.op.isSome ∨ s.collEarlier y a.group then s1
  else s1.collStart env n y x a

/-- The checks of a collective's fields and ranges (R479). -/
def State.collChecked (s : State) (env : Env) (n : Nat) (y : Slot) (x : Group) (a : CollArgs) : State :=
  if x.fn ≠ y.fn ∨ collBad y.words x.n then s.slotDone n St.BAD_CLAUSE 0
  else match s.collRanges y (a.ranges x) with
    | .fail st => (s.refuse y.fn st).slotDone n st 0
    | .wait => s
    | .ok _ => s.collGoes (if y.progress.isSome then s
        else s.openRanges n y ([(a.ranges x).1, (a.ranges x).2].filter (fun p => decide (p.2 ≠ 0)))) env n y x a

theorem collective_grouped (env : Env) (hy : s.clauseAt n 4 op = some y) (hg : s.group? (collArgs y.words).group = some x)
    (hnew : ∀ o, x.op = some o → o.slot ≠ n) :
    s.collective n op env = s.withDomainOf n y 20 (s.collChecked env n y x (collArgs y.words)) := by
  rw [State.collective, hy]
  dsimp only
  rw [hg]
  cases ho : x.op with
  | none =>
    simp only [ho, State.collChecked, State.collGoes]
    rfl
  | some o =>
    have hslot : (o.slot == n) = false := beq_false_of_ne (hnew o ho)
    simp only [ho, hslot, State.collChecked, State.collGoes]
    rfl

theorem collChecked_bad (env : Env) (a : CollArgs) (hbad : x.fn ≠ y.fn ∨ collBad y.words x.n = true) :
    s.collChecked env n y x a = s.slotDone n 0x10 0 := if_pos hbad

theorem collRanges_ok {r : (Nat × Nat) × (Nat × Nat)} (hsrc : r.1.2 ≠ 0 → s.checkClause y.fn false r.1.1 r.1.2 = .ok ())
    (hdst : s.checkClause y.fn true r.2.1 r.2.2 = .ok ()) : s.collRanges y r = .ok () := by
  have hread : (if r.1.2 = 0 then .ok () else s.checkClause y.fn false r.1.1 r.1.2) = Res.ok () := by
    split
    · rfl
    · next hne => exact hsrc hne
  rw [State.collRanges, hread, hdst, ite_self]

theorem collChecked_new (env : Env) {a : CollArgs} (hfn : x.fn = y.fn) (hgood : collBad y.words x.n = false)
    (hnew : y.progress = none) (hok : s.collRanges y (a.ranges x) = .ok ()) : s.collChecked env n y x a =
      s.collGoes (s.openRanges n y ([(a.ranges x).1, (a.ranges x).2].filter (fun p => decide (p.2 ≠ 0)))) env n y x a := by
  rw [State.collChecked, if_neg (by simp [hfn, hgood]), hok]
  exact congrArg (s.collGoes · env n y x a) (if_neg (by simp [hnew]))

theorem collChecked_admitted (env : Env) {a : CollArgs} (hfn : x.fn = y.fn) (hgood : collBad y.words x.n = false)
    (hadmitted : y.progress ≠ none) : s.collChecked env n y x a = s.collGoes s env n y x a := by
  have hsome : y.progress.isSome = true := Option.isSome_iff_ne_none.2 hadmitted
  have hok : s.collRanges y (a.ranges x) = .ok () := if_pos hsome
  rw [State.collChecked, if_neg (by simp [hfn, hgood]), hok]
  exact congrArg (s.collGoes · env n y x a) (if_pos hsome)

variable {s1 : State} {a : CollArgs}

theorem collGoes_unreachable (env : Env) (hpeers : s.collPeers a x ≠ 0) :
    s.collGoes s1 env n y x a = s1.slotDone n (s.collPeers a x) 0 := if_pos hpeers

theorem collGoes_busy (env : Env) (hpeers : s.collPeers a x = 0) (hbusy : x.op.isSome = true) :
    s.collGoes s1 env n y x a = s1 := by
  rw [State.collGoes, if_neg (not_not.2 hpeers), if_pos (.inl hbusy)]

theorem collGoes_free (env : Env) (hpeers : s.collPeers a x = 0) (hfree : x.op = none) (hfirst : s.collEarlier y a.group = false) :
    s.collGoes s1 env n y x a = s1.collStart env n y x a := by
  rw [State.collGoes, if_neg (not_not.2 hpeers), if_neg (by simp [hfree, hfirst])]

end

/-! The end of a collective (R480, R483, R484). -/

section
variable {s : State} {g : Nat} {x : Group} {o : CollOp}

theorem collEnd_running (hg : s.group? g = some x) (ho : x.op = some o) (st : Nat) (r : Word) :
    s.collEnd g st r = (s.setGroup g { x with op := none }).slotDone o.slot st r := by
  rw [State.collEnd, hg]
  dsimp only
  rw [ho]

theorem collCheck_done {y : Slot} (hg : s.group? g = some x) (ho : x.op = some o) (hy : s.slot? o.slot = some y)
    (hwritten : (collArgs y.words).outChunks x.n ≤ o.written) (hsent : s.collSent g x o.seq = true) :
    s.collCheck g = (s.setGroup g { x with op := none }).slotDone o.slot St.SUCCESS (BitVec.ofNat 64 o.sent) := by
  rw [State.collCheck, hg]
  dsimp only
  rw [ho]
  dsimp only
  rw [hy]
  dsimp only
  rw [if_pos ⟨hwritten, hsent⟩, collEnd_running hg ho]

theorem collFail_running (hg : s.group? g = some x) (ho : x.op = some o) (cause rank : Nat) (notify : Bool) :
    s.collFail g cause rank notify = ((if notify then s.abortNotices g x o.seq cause rank else s).spoilDst o x.n).collEnd g
      St.COLLECTIVE_MEMBER_LOST (BitVec.ofNat 64 (cause * 2 ^ 56 + rank)) := by
  rw [State.collFail, hg]
  dsimp only
  rw [ho]

theorem exec_collectiveTimeout_running {y : Slot} (hg : s.group? g = some x) (ho : x.op = some o) (hy : s.slot? o.slot = some y) :
    exec (.collectiveTimeout g) s = .next (
      if (collArgs y.words).timeout ≠ 0 ∧ o.started + (collArgs y.words).timeout * 1000 ≤ s.tb.time then s.collFail g 3 x.rank true
      else s) := by
  rw [exec_collectiveTimeout, execCollectiveTimeout, hg]
  dsimp only
  rw [ho]
  dsimp only
  rw [hy]

end

/-! The packets that arrive at the RDMA engine (R442). -/

section
variable {s : State} {i : InPkt} {rest : List InPkt} {x : Qp}

theorem front_arrives (h : s.arrives i rest x) {p : Body → Bool} (hp : p i.pkt.body = true) :
    s.front p = some (i, s.withInbox rest) := by
  obtain ⟨hinbox, _⟩ := h
  rw [State.front, hinbox]
  exact if_pos hp

theorem target_arrives (h : s.arrives i rest x) (f : Nat → Qp → State) : (s.withInbox rest).target i f = f i.pkt.qpn x := by
  obtain ⟨_, hqpn, hqp, hfn, hraw, hstate⟩ := h
  rw [State.target, if_pos hqpn, hqp, Option.filter_some, if_pos (by simp [hfn, hraw])]
  exact if_pos hstate

theorem exec_abortNoticeReceive_arrives {g r seq cause rank : Nat} {y : Group} {o : CollOp} (h : s.arrives i rest x)
    (hbody : i.pkt.body = .abort seq cause rank) (hx : x.group = some (g, r)) (hg : (s.withInbox rest).group? g = some y)
    (ho : y.op = some o) : exec .abortNoticeReceive s = .next (
      if o.seq = seq then (s.withInbox rest).collFail g cause rank false else s.withInbox rest) := by
  rw [exec_abortNoticeReceive, execAbortNoticeReceive, front_arrives h (by rw [hbody])]
  dsimp only
  rw [target_arrives h, hx, hbody]
  dsimp only
  rw [hg, Option.bind_some, ho]

end

/-- Settles O48: the collective is followed through its checks in their order; the running operation's group decides its end. -/
theorem collectives : Obligations.Collectives := by
  refine ⟨fun s n env op y x mk hop hy => ?starts, fun s g x o y hg ho hy hw hsent => collCheck_done hg ho hy hw hsent,
    fun s g x o cause rank hg ho => ⟨collFail_running hg ho cause rank false, collFail_running hg ho cause rank true⟩,
    fun s g x o y hg ho hy => ?timeout, fun s i rest x g r y o seq cause rank h hbody hx hg ho => ?notice⟩
  case starts =>
    rw [exec_collective s hop]
    refine ⟨fun hoff hnew hall => ?_, fun hready hg => ?_, fun hg hother => ⟨fun hready hbad => ?_, fun hfn hgood s1 hs1 => ?_⟩⟩
    · cases hg : s.group? (collArgs y.words).group with
      | none => rw [collective_groupless env hy hg, withDomain_off hoff]
      | some z =>
        have hother : ∀ o, z.op = some o → o.slot ≠ n := by
          intro o ho hslot
          simp [hg, ho, hslot] at hall
        rw [collective_grouped env hy hg hother, withDomainOf_new hnew, withDomain_off hoff]
    · rw [collective_groupless env hy hg, withDomain_ready hready]
    · rw [collective_grouped env hy hg hother, withDomainOf_ready hready, collChecked_bad env _ hbad]
    · have hgoes : s.collective n op env = s.collGoes s1 env n y x (collArgs y.words) := by
        rw [collective_grouped env hy hg hother]
        rcases hs1 with ⟨hnew, hready, hsrc, hdst, rfl⟩ | ⟨hadmitted, rfl⟩
        · rw [withDomainOf_ready hready, collChecked_new env hfn hgood hnew (collRanges_ok hsrc hdst)]
        · rw [withDomainOf_admitted hadmitted, collChecked_admitted env hfn hgood hadmitted]
      rw [hgoes]
      refine ⟨?_, fun hpeers hbusy => by rw [collGoes_busy env hpeers hbusy], fun hpeers hfree hfirst => ?_⟩
      · rintro st rfl hne
        rw [collGoes_unreachable env hne]
      · rw [collGoes_free env hpeers hfree hfirst]
        intro o s2 s3
        exact ⟨fun hbegin => by rw [State.collStart, hbegin], fun st hbegin => by rw [State.collStart, hbegin]⟩
  case timeout =>
    rw [exec_collectiveTimeout_running hg ho hy]
    refine ⟨fun hset hdue => by rw [if_pos ⟨hset, hdue⟩], fun hnot => by rw [if_neg (by omega)]⟩
  case notice =>
    rw [exec_abortNoticeReceive_arrives h hbody hx hg ho]
    exact ⟨fun hseq => by rw [if_pos hseq], fun hseq => by rw [if_neg hseq]⟩

end Sys2Proof.Machine
end

section
/-! Work requests: their acceptance, their failed checks and the posted receives (R324, R450 to R453, R456, R459). -/

namespace Sys2Proof.Machine

/-! The requests of a reliable connection (R450, R451, R453). -/

/-- The first check that fails ends a request of the queue pair `q` (R451); `w` is its work, toward the peer `p`. -/
def State.requestToward (s : State) (n op : Nat) (env : Env) (y : Slot) (q : Nat) (x : Qp) (p : Peer) (w : Wqe) : State :=
  if p.state = 4 then s.wqFail n q 7 St.PEER_VERSION_REFUSED
  else if !p.up then s.wqFail n q 7 St.PEER_UNREACHABLE
  else if op = 5 ∧ !bit (s.sharedCaps p) 3 then s.wqFail n q 8 St.PEER_VERSION_REFUSED
  else match s.checkClause x.fn (decide (op = 4)) w.addr w.len with
    | .wait => s
    | .fail st => (s.refuse x.fn st).wqFail n q 6 st
    | .ok _ => ((((s.openRanges n y [(w.addr, w.len)]).touchQp q).pushWqe q { w with
        slot := some n, fence := c0Fence (wordAt y.words 0), n := packets w.len x.mtuBytes }).pump env q)

/-- What a request does once every earlier entry of its ring is accepted (R453). -/
def State.requestNext (s : State) (n op : Nat) (env : Env) (y : Slot) (q : Nat) (x : Qp) (bad : Bool) (w : Wqe) : State :=
  if x.state = 4 then s.slotDone n St.QP_ERROR (causeWord 0x10)
  else if x.state ≠ 3 then s
  else if x.raw ∨ bad then s.wqFail n q 8 St.BAD_CLAUSE
  else if s.domain 20 = .off then s.wqFail n q 6 St.DOMAIN_OFF
  else if s.domain 20 = .waking then s
  else match s.peer? x.peer with
    | none => s.wqFail n q 7 St.PEER_UNREACHABLE
    | some p => s.requestToward n op env y q x p w

section
variable {s : State} {n op q : Nat} {y : Slot} {x : Qp} {bad : List Word → Bool} {mkw : List Word → Wqe}

theorem exec_request {env : Env} {mk : Nat → Env → Instr} (s : State)
    (h : (op = 0 ∧ mk = .rdmaSend ∧ bad = wqBad false 3 ∧ mkw = wqSend false) ∨
      (op = 1 ∧ mk = .sendImm ∧ bad = wqBad true 3 ∧ mkw = wqSend true) ∨
      (op = 2 ∧ mk = .rdmaWrite ∧ bad = wqBadRemote false ∧ mkw = wqRemote .write false) ∨
      (op = 3 ∧ mk = .writeImm ∧ bad = wqBadRemote true ∧ mkw = wqRemote .write true) ∨
      (op = 4 ∧ mk = .rdmaRead ∧ bad = wqBadRemote false ∧ mkw = wqRemote .read false) ∨
      (op = 5 ∧ mk = .tsend ∧ bad = (fun ws => wqBad false 6 ws || wordAt ws 3 != 0 || wordAt ws 4 != 0) ∧
        mkw = (fun ws => { wqSend false ws with tag := some (wordAt ws 5) }))) :
    exec (mk n env) s = .next (s.request n op env bad mkw) := by
  rcases h with ⟨rfl, rfl, rfl, rfl⟩ | ⟨rfl, rfl, rfl, rfl⟩ | ⟨rfl, rfl, rfl, rfl⟩ | ⟨rfl, rfl, rfl, rfl⟩ | ⟨rfl, rfl, rfl, rfl⟩ |
    ⟨rfl, rfl, rfl, rfl⟩ <;> rfl

theorem request_taken (env : Env) (hy : s.wqAt n op = some y) (hq : s.qpOfSq y.ring = some (q, x)) (htaken : s.wqTaken q n = true) :
    s.request n op env bad mkw = s.pump env q := by
  rw [State.request, hy]
  dsimp only
  rw [hq]
  exact if_pos htaken

theorem request_next (env : Env) (hy : s.wqAt n op = some y) (hq : s.qpOfSq y.ring = some (q, x)) (htaken : s.wqTaken q n = false)
    (hfirst : s.wqFirst q y = true) :
    s.request n op env bad mkw = s.requestNext n op env y q x (bad y.words) (mkw y.words) := by
  rw [State.request, hy]
  dsimp only
  rw [hq]
  dsimp only
  rw [if_neg (by simp [htaken]), if_neg (by simp [hfirst])]
  rfl

variable {b : Bool} {w : Wqe} {p : Peer}

theorem requestNext_error (env : Env) (hx : x.state = 4) :
    s.requestNext n op env y q x b w = s.slotDone n 0x402 (causeWord 0x10) := if_pos hx

theorem requestNext_bad (env : Env) (hx : x.state = 3) (hbad : x.raw = true ∨ b = true) :
    s.requestNext n op env y q x b w = s.wqFail n q 8 0x10 := by
  rw [State.requestNext, if_neg (by omega), if_neg (not_not.2 hx), if_pos hbad]
  rfl

theorem requestNext_off (env : Env) (hx : x.state = 3) (hraw : x.raw = false) (hgood : b = false) (hoff : s.domain 20 = .off) :
    s.requestNext n op env y q x b w = s.wqFail n q 6 0x101 := by
  rw [State.requestNext, if_neg (by omega), if_neg (not_not.2 hx), if_neg (by simp [hraw, hgood]), if_pos hoff]
  rfl

theorem requestNext_ready (env : Env) (hx : x.state = 3) (hraw : x.raw = false) (hgood : b = false)
    (hready : s.domain 20 = .ready) (hp : s.peer? x.peer = some p) :
    s.requestNext n op env y q x b w = s.requestToward n op env y q x p w := by
  rw [State.requestNext, if_neg (by omega), if_neg (not_not.2 hx), if_neg (by simp [hraw, hgood]), if_neg (by simp [hready]),
    if_neg (by simp [hready]), hp]

theorem requestToward_refused (env : Env) (hp : p.state = 4) :
    s.requestToward n op env y q x p w = s.wqFail n q 7 0x401 := if_pos hp

theorem requestToward_down (env : Env) (hp : p.state ≠ 4) (hdown : p.up = false) :
    s.requestToward n op env y q x p w = s.wqFail n q 7 0x400 := by
  rw [State.requestToward, if_neg hp, if_pos (by simp [hdown])]
  rfl

theorem up_state_ne (h : p.up = true) : p.state ≠ 4 := by
  intro hp
  simp [Peer.up, hp] at h

/-- Toward a peer that is up, and knows the tags of a TSEND, the check of LOCAL decides. -/
theorem requestToward_up (env : Env) (hup : p.up = true) (htag : op = 5 → bit (s.sharedCaps p) 3 = true) :
    s.requestToward n op env y q x p w = match s.checkClause x.fn (decide (op = 4)) w.addr w.len with
      | .wait => s
      | .fail st => (s.refuse x.fn st).wqFail n q 6 st
      | .ok _ => ((((s.openRanges n y [(w.addr, w.len)]).touchQp q).pushWqe q { w with
          slot := some n, fence := c0Fence (wordAt y.words 0), n := packets w.len x.mtuBytes }).pump env q) := by
  have hknown : ¬ (op = 5 ∧ (!bit (s.sharedCaps p) 3) = true) := fun h => by simp [htag h.1] at h
  rw [State.requestToward, if_neg (up_state_ne hup), if_neg (by simp [hup]), if_neg hknown]

end

/-! The frame of a RAW queue pair (R450, R487). -/

section
variable {s s1 : State} {n q : Nat} {y : Slot} {x : Qp} {b : List Byte}

theorem exec_frame_enters {env : Env} (hy : s.wqAt n 6 = some y) (hq : s.qpOfSq y.ring = some (q, x))
    (htaken : s.wqTaken q n = false) (hfirst : s.wqFirst q y = true) (hx : x.state = 3) (hraw : x.raw = true)
    (hlocal : field (wordAt y.words 1) 63 48 = 0) (hlength : field (wordAt y.words 2) 63 14 = 0) (hzero : zeroFrom y.words 3 = true)
    (hshort : 60 ≤ field (wordAt y.words 2) 13 0)
    (hlong : field (wordAt y.words 2) 13 0 + 4 ≤ s.fld F.NET_PORT_CTL_MAX_FRAME (s.fld F.SCH_FN_MAP_RAW_PORT x.fn))
    (hready : s.domain 20 = .ready) (hroom : s.queueRoom (s.subOf x.fn q) x.tc (s.fld F.SCH_FN_MAP_RAW_PORT x.fn) = true)
    (hfence : c0Fence (wordAt y.words 0) = false)
    (hread : s.readFor env x.fn (wordAt y.words 1) (field (wordAt y.words 2) 13 0) = (s1, .ok b)) :
    exec (.frame n env) s = .next ((s1.touchQp q).enqueue ⟨.qp q, s.subOf x.fn q, x.tc, s.fld F.SCH_FN_MAP_RAW_PORT x.fn,
      field (wordAt y.words 2) 13 0 + 4, none, b, none, some n, none⟩) := by
  rw [exec_frame, execFrame, hy]
  dsimp only
  rw [hq]
  dsimp only
  rw [if_neg (by simp [htaken, hfirst]), if_neg (by omega), if_neg (not_not.2 hx),
    if_neg (by simp [hraw, hlocal, hlength, hzero]; omega), if_neg (by simp [hready]), if_neg (by simp [hready]),
    if_neg (by simp [hroom, hfence]), hread]

end

/-! The posted receives (R452, R453, R456, R459). -/

/-- The posted receive of an entry (R456). -/
def postedRecv (y : Slot) (tag : Option (Nat × Nat × Nat)) (epoch : Nat) : PostedRecv :=
  ⟨y.ring, wordAt y.words 0, y.fgen, wordAt y.words 1, field (wordAt y.words 2) 30 0, tag, false, epoch⟩

/-- A receive that fails a check ends, and with it every queue pair of its ring (R451). -/
def State.recvFails (s : State) (n ring cause st : Nat) (t : State) : State :=
  (s.qpsOfRq ring).foldl (fun t z => t.qpError z.1 cause none 0) (t.slotDone n st 0)

/-- What a receive does whose fields are sound and whose turn it is (R453). -/
def State.receiveNext (s : State) (n : Nat) (y : Slot) (raw : Bool) (v : PostedRecv) : State :=
  if s.domain 20 = .off then s.recvFails n y.ring 6 St.DOMAIN_OFF s
  else if s.domain 20 = .waking ∨ s.recvRoom raw y.ring = false then s
  else match s.checkClauses y.fn true v.ranges with
    | .wait => s
    | .fail st => s.recvFails n y.ring 6 st (s.refuse y.fn st)
    | .ok _ =>
      if raw then
        { s.releaseSlot n with rdm := { (s.releaseSlot n).rdm with rawRecvs := (s.releaseSlot n).rdm.rawRecvs ++ [v] } }
      else (s.releaseSlot n).setRecvs ((s.releaseSlot n).rdm.recvs ++ [v])

section
variable {s : State} {n op q : Nat} {y : Slot} {x : Qp} {rest : List (Nat × Qp)} {bad : List Word → Bool}
  {tagged : List Word → Option (Nat × Nat × Nat)}

theorem receive_error (hy : s.wqAt n op = some y) (hq : s.qpsOfRq y.ring = [(q, x)])
    (hturn : (s.ringSlots y.ring).all (fun z => !idxBefore z.2.idx y.idx || decide (z.2.phase ≠ .dispatched)) = true)
    (hx : x.state = 4) : s.receive n op bad tagged = s.slotDone n 0x402 (causeWord 0x10) := by
  rw [State.receive, hy]
  dsimp only
  rw [hq]
  dsimp only
  rw [if_neg (by rw [hturn]; exact Bool.false_ne_true), if_pos ⟨rfl, hx⟩]
  rfl

theorem receive_next (hy : s.wqAt n op = some y) (hq : s.qpsOfRq y.ring = (q, x) :: rest)
    (hturn : (s.ringSlots y.ring).all (fun z => !idxBefore z.2.idx y.idx || decide (z.2.phase ≠ .dispatched)) = true)
    (hx : rest ≠ [] ∨ x.state ≠ 4) (hgood : bad y.words = false) (htag : ¬ (x.raw = true ∧ op = 0x11)) :
    s.receive n op bad tagged =
      s.receiveNext n y x.raw (postedRecv y (tagged y.words) (s.fld F.MEM_FN_FENCE_EPOCH y.fn)) := by
  have hlive : ¬ (rest.isEmpty = true ∧ x.state = 4) := by
    rintro ⟨hempty, h4⟩
    exact hx.elim (fun h => h (List.isEmpty_iff.1 hempty)) (fun h => h h4)
  have hsound : ¬ (bad y.words = true ∨ x.raw = true ∧ op = 0x11) := by
    rintro (h | h)
    · exact Bool.false_ne_true (hgood.symm.trans h)
    · exact htag h
  simp only [State.receiveNext, State.recvFails]
  rw [State.receive, hy]
  dsimp only
  rw [hq]
  dsimp only
  rw [if_neg (by rw [hturn]; exact Bool.false_ne_true), if_neg hlive, if_neg hsound]
  rfl

variable {raw : Bool} {v : PostedRecv}

theorem receiveNext_off (hoff : s.domain 20 = .off) : s.receiveNext n y raw v = s.recvFails n y.ring 6 0x101 s := if_pos hoff

theorem receiveNext_fails {st : Nat} (hready : s.domain 20 = .ready) (hroom : s.recvRoom raw y.ring = true)
    (hcheck : s.checkClauses y.fn true v.ranges = .fail st) :
    s.receiveNext n y raw v = s.recvFails n y.ring 6 st (s.refuse y.fn st) := by
  rw [State.receiveNext, if_neg (by simp [hready]), if_neg (by simp [hready, hroom]), hcheck]

theorem releaseSlot_rdm (s : State) (n : Nat) : (s.releaseSlot n).rdm = s.rdm := by
  unfold State.releaseSlot State.noteDone
  split <;> rfl

theorem releaseSlot_regs (s : State) (n : Nat) : (s.releaseSlot n).regs = s.regs := by
  unfold State.releaseSlot State.noteDone
  split <;> rfl

theorem receiveNext_posted (hready : s.domain 20 = .ready) (hroom : s.recvRoom raw y.ring = true)
    (hcheck : s.checkClauses y.fn true v.ranges = .ok ()) : s.receiveNext n y raw v =
      if raw then { s.releaseSlot n with rdm := { s.rdm with rawRecvs := s.rdm.rawRecvs ++ [v] } }
      else (s.releaseSlot n).setRecvs (s.rdm.recvs ++ [v]) := by
  rw [State.receiveNext, if_neg (by simp [hready]), if_neg (by simp [hready, hroom]), hcheck, releaseSlot_rdm]

/-- A posted receive frees its slot (R88, R453). -/
theorem receiveNext_posted_raw (hready : s.domain 20 = .ready) (hroom : s.recvRoom true y.ring = true)
    (hcheck : s.checkClauses y.fn true v.ranges = .ok ()) : (s.receiveNext n y true v).slot? n = none ∧
      (s.receiveNext n y true v).rdm = { s.rdm with rawRecvs := s.rdm.rawRecvs ++ [v] } ∧
      (s.receiveNext n y true v).regs = s.regs := by
  rw [receiveNext_posted hready hroom hcheck]
  exact ⟨State.slot?_freeSlot_same (s.noteDone n) n, rfl, releaseSlot_regs s n⟩

end

/-- The receive of a RECV or a TRECV with sound fields. -/
theorem exec_receive {s : State} {n op q : Nat} {y : Slot} {x : Qp} {rest : List (Nat × Qp)} {mk : Nat → Instr}
    {tag : Option (Nat × Nat × Nat)}
    (h : (op = 0x10 ∧ mk = .recv ∧ wqBad false 3 y.words = false ∧ tag = none) ∨
      (op = 0x11 ∧ mk = .trecv ∧ field (wordAt y.words 1) 63 48 = 0 ∧ field (wordAt y.words 2) 63 31 = 0 ∧ wordAt y.words 3 = 0 ∧
        wordAt y.words 4 = 0 ∧ field (wordAt y.words 7) 63 48 = 0 ∧ x.raw = false ∧
        tag = some (wordAt y.words 5, wordAt y.words 6, wordAt y.words 7)))
    (hy : s.wqAt n op = some y) (hq : s.qpsOfRq y.ring = (q, x) :: rest)
    (hturn : (s.ringSlots y.ring).all (fun z => !idxBefore z.2.idx y.idx || decide (z.2.phase ≠ .dispatched)) = true) :
    (rest = [] → x.state = 4 → exec (mk n) s = .next (s.slotDone n 0x402 (causeWord 0x10))) ∧
    ((rest ≠ [] ∨ x.state ≠ 4) →
      exec (mk n) s = .next (s.receiveNext n y x.raw (postedRecv y tag (s.fld F.MEM_FN_FENCE_EPOCH y.fn)))) := by
  rcases h with ⟨rfl, rfl, hgood, rfl⟩ | ⟨rfl, rfl, hlocal, hlength, h3, h4, hout, hraw, rfl⟩
  · refine ⟨?_, fun hx => congrArg Host.Outcome.next (receive_next hy hq hturn hx hgood (by simp))⟩
    rintro rfl hx
    exact congrArg Host.Outcome.next (receive_error hy hq hturn hx)
  · refine ⟨?_, fun hx => congrArg Host.Outcome.next
      (receive_next hy hq hturn hx (by simp [hlocal, hlength, h3, h4, hout]) (by simp [hraw]))⟩
    rintro rfl hx
    exact congrArg Host.Outcome.next (receive_error hy hq hturn hx)

/-- Settles O45: the request is followed through its checks in their order, and so is the receive. -/
theorem workRequests : Obligations.WorkRequests := by
  refine ⟨fun s n env op y q x mk bad mkw hop hy hq => ?request, ?frame, ?receive⟩
  case request =>
    rw [exec_request s hop]
    refine ⟨fun htaken => by rw [request_taken env hy hq htaken], fun htaken hfirst => ?_⟩
    rw [request_next env hy hq htaken hfirst]
    refine ⟨fun hx => by rw [requestNext_error env hx], fun hx hbad => by rw [requestNext_bad env hx hbad],
      fun p hx hraw hgood hready hp => ?_, fun hx hraw hgood hoff => by rw [requestNext_off env hx hraw hgood hoff]⟩
    rw [requestNext_ready env hx hraw hgood hready hp]
    refine ⟨fun h4 => by rw [requestToward_refused env h4], fun h4 hdown => by rw [requestToward_down env h4 hdown],
      fun hup htag => ?_⟩
    rw [requestToward_up env hup htag]
    exact ⟨fun st hfail => by rw [hfail], fun hok => by rw [hok]⟩
  case frame =>
    intro s n env y q x s1 b port len hy hq htaken hfirst hx hraw hlocal hlength hzero hshort hlong hready hroom hfence hread
    exact exec_frame_enters hy hq htaken hfirst hx hraw hlocal hlength hzero hshort hlong hready hroom hfence hread
  case receive =>
    intro s n op y q x rest mk tag ws hop hy hq hturn v
    obtain ⟨herror, hposts⟩ := exec_receive hop hy hq hturn
    refine ⟨herror, fun hx => ?_⟩
    have hnext : exec (mk n) s = .next (s.receiveNext n y x.raw v) := hposts hx
    rw [hnext]
    refine ⟨fun hoff => congrArg Host.Outcome.next (receiveNext_off hoff), fun hready hroom =>
      ⟨fun st hfail => congrArg Host.Outcome.next (receiveNext_fails hready hroom hfail), fun hok =>
        ⟨fun hraw => ?_, fun hraw => ?_⟩⟩⟩
    · rw [hraw] at hnext hroom
      exact ⟨_, hnext, receiveNext_posted_raw hready hroom hok⟩
    · rw [receiveNext_posted hready hroom hok, if_neg (by simp [hraw])]

end Sys2Proof.Machine
end

section
/-! Upstream reads: their completions, their failures and the tags of those given up (R360 to R364, R371). -/

namespace Sys2Proof.Machine

/-! A read that is no longer outstanding (R362, R363). -/

theorem dropRead_find? (s : State) (tag : Nat) : Tbl.find? tag (s.dropRead tag).hep.reads = none := Tbl.find?_del_same _ _

theorem giveUpRead_find? (s : State) (tag : Nat) (r : UpRead) : Tbl.find? tag (s.giveUpRead tag r).hep.reads = none :=
  dropRead_find? s tag

theorem giveUpRead_tagHold (s : State) (tag : Nat) (r : UpRead) :
    Tbl.getD (s.giveUpRead tag r).hep.tagHold tag 0 = r.sent + 8000000000 := Tbl.getD_set_same _ _ _ _

/-! HOST_COMPLETION_ARRIVE and COMPLETION_TIMEOUT of an outstanding read. -/

section
variable {s : State} {tag : Nat} {r : UpRead} (hr : Tbl.find? tag s.hep.reads = some r)
include hr

theorem exec_hostCompletionArrive_errorStatus (data : List Byte) : exec (.hostCompletionArrive tag .errorStatus data) s =
    .next ((s.dropRead tag).tlp.readFailed r .errorStatus) := by
  rw [exec_hostCompletionArrive, execHostCompletionArrive, hr]

theorem exec_hostCompletionArrive_poisoned (data : List Byte) : exec (.hostCompletionArrive tag .poisoned data) s =
    .next ((s.dropRead tag).tlp.readFailed r .poisoned) := by
  rw [exec_hostCompletionArrive, execHostCompletionArrive, hr]

/-- The entry of a ring: its words go to the slot that waits for them, past the stream tap of host reads. -/
theorem exec_hostCompletionArrive_entry {data : List Byte} {n : Nat} {x : Slot} (hlen : data.length = r.len)
    (hp : r.purpose = .ringFetch n) (hx : s.slot? n = some x) : exec (.hostCompletionArrive tag .success data) s = .next
      ((((s.dropRead tag).tlp.hostWrite r.addr data).setSlot n { x with words := wordsOf 8 data }).snoop 24 r.fn data) := by
  have hslot : ((s.dropRead tag).tlp.hostWrite r.addr data).slot? n = some x := by
    simp only [State.slot?, State.hostWrite, State.setHost_rng, State.tlp_rng]
    exact hx
  rw [exec_hostCompletionArrive, execHostCompletionArrive, hr]
  dsimp only
  rw [if_neg (not_not.mpr hlen), hp]
  dsimp only
  rw [hslot]

theorem exec_hostCompletionArrive_data {data : List Byte} (hlen : data.length = r.len) (hp : ∀ n, r.purpose ≠ .ringFetch n) :
    exec (.hostCompletionArrive tag .success data) s = .next ((s.dropRead tag).tlp.hostWrite r.addr data) := by
  rw [exec_hostCompletionArrive, execHostCompletionArrive, hr]
  dsimp only
  rw [if_neg (not_not.mpr hlen)]
  cases hpurpose : r.purpose with
  | ringFetch n => exact absurd hpurpose (hp n)
  | clauseData n => rfl
  | discard => rfl

theorem exec_completionTimeout_due (hdue : r.sent + r.timeout ≤ s.tb.time) :
    exec (.completionTimeout tag) s = .next ((s.giveUpRead tag r).readFailed r .timeout) := by
  rw [exec_completionTimeout, execCompletionTimeout, hr]
  exact congrArg _ (if_pos hdue)

theorem exec_completionTimeout_early (hearly : s.tb.time < r.sent + r.timeout) : exec (.completionTimeout tag) s = .next s := by
  rw [exec_completionTimeout, execCompletionTimeout, hr]
  exact congrArg _ (if_neg (Nat.not_le.mpr hearly))

end

/-! UNEXPECTED_COMPLETION (R360, R363). -/

/-- An error that may be reported as advisory: the report is a free choice. -/
theorem aerAdvise_eq (fn err : Nat) (s : State) : aerAdvise fn err s = { s with
    fresh := s.fresh + 1
    hep := { s.hep with
      aer := if s.choice 0x360 = true then (fn, 1) :: (fn, err) :: s.hep.aer else (fn, err) :: s.hep.aer } } := by
  unfold aerAdvise
  split <;> rfl

/-- The state in which an unexpected completion has been counted and recorded. -/
def State.unexpectedNoted (s : State) (f : Nat) : State := sinterEvent 0x141 f (s.tlp.inc F.HEP_FN_STAT_UNEXP_CPL f)

theorem unexpectedNoted_eq (s : State) (f : Nat) : s.unexpectedNoted f = { s with
    regs := (s.tlp.inc F.HEP_FN_STAT_UNEXP_CPL f).regs
    hep := { s.hep with lastTlp := s.tb.time }
    snt := (s.unexpectedNoted f).snt } := by
  have hsnt : s.unexpectedNoted f = { s.tlp.inc F.HEP_FN_STAT_UNEXP_CPL f with snt := (s.unexpectedNoted f).snt } :=
    sinterEvent_only 0x141 f (s.tlp.inc F.HEP_FN_STAT_UNEXP_CPL f)
  generalize (s.unexpectedNoted f).snt = x at hsnt ⊢
  rw [hsnt, State.inc, tlp_frame]

theorem exec_unexpectedCompletion_counted {s : State} {fn tag : Nat} (h : Tbl.find? tag s.hep.reads = none) :
    exec (.unexpectedCompletion fn tag) s =
      .next (aerAdvise (if fn < 256 then fn else 0) 3 (s.unexpectedNoted (if fn < 256 then fn else 0))) := by
  rw [exec_unexpectedCompletion, execUnexpectedCompletion]
  exact when_pos (by rw [Tbl.has, h]; rfl) _ _

/-- Settles O26: a completion of an outstanding read goes by its status and the purpose of the read, a late one by the time that
has passed; an unexpected one is counted by a function below 256, whose field the TLP leaves alone. -/
theorem upstreamReads : Obligations.UpstreamReads := by
  unfold Obligations.UpstreamReads
  refine ⟨fun s tag data r hr => ⟨fun n x hlen hp hx => exec_hostCompletionArrive_entry hr hlen hp hx,
    fun hp hlen => exec_hostCompletionArrive_data hr hlen hp, exec_hostCompletionArrive_errorStatus hr data,
    exec_hostCompletionArrive_poisoned hr data, exec_completionTimeout_due hr, exec_completionTimeout_early hr,
    dropRead_find? s tag, giveUpRead_find? s tag r, giveUpRead_tagHold s tag r⟩, ?unexpected⟩
  case unexpected =>
    intro s fn tag h f
    have hf : f < 256 := by
      show (if fn < 256 then fn else 0) < 256
      split <;> omega
    have hregs : (aerAdvise f 3 (s.unexpectedNoted f)).regs = (s.tlp.inc F.HEP_FN_STAT_UNEXP_CPL f).regs := by
      rw [aerAdvise_eq, unexpectedNoted_eq]
    refine ⟨_, exec_unexpectedCompletion_counted h, ?_, ?_, ?_, ?_⟩
    · rw [fld_of_regs hregs, fld_inc_same, tlp_fld_fn hf (by decide)]
    · exact ((FieldsKept.refl s.tlp _).inc List.mem_cons_self).of_regs hregs
    · rw [aerAdvise_eq, unexpectedNoted_eq]
      rfl
    · rw [aerAdvise_eq, unexpectedNoted_eq]

end Sys2Proof.Machine
end

section
/-! Function resets: how one begins, its end, its cut, and the hot reset (R354 to R358, R471, R660). -/

namespace Sys2Proof.Machine

/-! A reset of a function without work (R354, R356). -/

theorem drainAll_idle {s : State} {fn : Nat} (h : s.fnRings fn = []) : s.drainAll fn = s := by
  rw [State.drainAll, h]
  rfl

theorem abortRoles_idle {s : State} {fn : Nat} (h : ∀ r ∈ s.roles, r.2.fn ≠ fn) : s.abortRoles fn = s := by
  unfold State.abortRoles
  generalize s.roles = l at h ⊢
  induction l with
  | nil => rfl
  | cons r l ih =>
    obtain ⟨hr, hl⟩ := List.forall_mem_cons.mp h
    rw [List.foldl_cons, if_neg (fun hstop => hr hstop.1)]
    exact ih hl

/-- The state in which a reset has advanced the function's generation, marked it draining and noted its start. -/
def State.resetBegun (s : State) (fn : Nat) (flr : Bool) : State :=
  let s1 := (s.setFld F.HEP_FN_STAT_FGEN fn (genNext (s.fgen fn))).setFlag F.HEP_FN_STAT_DRAINING fn true
  { s1 with hep := { s1.hep with
    drainStart := Tbl.set fn (Tbl.getD s.hep.drainStart fn s.tb.time) s.hep.drainStart
    drainFlr := Tbl.put false fn (flr || Tbl.getD s.hep.drainFlr fn false) s.hep.drainFlr } }

/-- The state with the memory regions of a function dying (R471). -/
def State.regionsDying (s : State) (fn : Nat) : State :=
  { s with rdm := { s.rdm with
    regions := s.rdm.regions.map (fun g => if g.2.fn = fn then (g.1, { g.2 with dying := true }) else g) } }

theorem fnReset_steps (s : State) (fn : Nat) (flr : Bool) : s.fnReset fn flr = (
    let s3 := (((s.resetBegun fn flr).drainAll fn).abortRoles fn).dropIrqs fn
    let s5 := ((s3.fnQps fn).foldl (fun t q => t.qpError q 0x0A none 0) s3).regionsDying fn
    let s6 := if fn = s.buddyFn then s5.ckReset else s5
    if (s6.ctrl fn).en then s6.ctrlDisable fn else s6) := rfl

theorem fnReset_idle {s : State} {fn : Nat} (flr : Bool) (hrings : s.fnRings fn = []) (hroles : ∀ r ∈ s.roles, r.2.fn ≠ fn)
    (hqps : s.fnQps fn = []) (hbuddy : fn ≠ s.buddyFn) (hctrl : (s.ctrl fn).en = false) :
    s.fnReset fn flr = ((s.resetBegun fn flr).dropIrqs fn).regionsDying fn := by
  have hdrain : (s.resetBegun fn flr).drainAll fn = s.resetBegun fn flr := drainAll_idle hrings
  have habort : (s.resetBegun fn flr).abortRoles fn = s.resetBegun fn flr := abortRoles_idle hroles
  have hqps' : ((s.resetBegun fn flr).dropIrqs fn).fnQps fn = [] := hqps
  have hctrl' : ¬ ((((s.resetBegun fn flr).dropIrqs fn).regionsDying fn).ctrl fn).en = true :=
    Bool.eq_false_iff.mp hctrl
  rw [fnReset_steps, hdrain, habort]
  dsimp only
  rw [hqps', List.foldl_nil, if_neg hbuddy, if_neg hctrl']

/-! The commands that reset functions (R355). -/

theorem exec_functionLevelReset_vf {s : State} {fn : Nat} (hfn : fn ≠ 0) (hex : s.fnExists fn = true) :
    exec (.functionLevelReset fn) s = .next (s.fnReset fn true) := by
  rw [exec_functionLevelReset, execFunctionLevelReset, when_pos hex, if_neg hfn]

theorem vfDisable_off {s : State} (h : s.hep.vfEnable = false) : s.vfDisable = s := if_neg (by simp [h])

theorem vfDisable_on {s : State} (h : s.hep.vfEnable = true) : s.vfDisable =
    (List.range 255).foldl (fun t i => t.fnReset (i + 1) false) { s with hep := { s.hep with vfEnable := false } } := if_pos h

theorem exec_functionLevelReset_pf {s : State} (h : s.hep.vfEnable = false) : exec (.functionLevelReset 0) s =
    .next (({ s with hep := { s.hep with numVfs := 0 } } : State).fnReset 0 true) := by
  rw [exec_functionLevelReset, execFunctionLevelReset, when_pos (by rfl), if_pos rfl, vfDisable_off h]

theorem exec_fnResetCmd_set {s : State} {fn : Nat} (hfn : fn < 256) (h : s.flag F.HEP_FN_CTL_RESET fn = true) :
    exec (.fnResetCmd fn) s = .next ((s.setFlag F.HEP_FN_CTL_RESET fn false).fnReset fn false) := by
  rw [exec_fnResetCmd, execFnResetCmd, when_pos ⟨hfn, h⟩]

theorem exec_vfEnableClear_configured {s : State} (hdrain : s.flag F.HEP_FN_STAT_DRAINING 0 = false) :
    exec .vfEnableClear s = .next s.tlp.vfDisable := by
  rw [exec_vfEnableClear, execVfEnableClear, configured_done (by decide) (by rfl) hdrain]

theorem exec_vfEnableClear_draining {s : State} (hdrain : s.flag F.HEP_FN_STAT_DRAINING 0 = true) :
    exec .vfEnableClear s = .next s.tlp := by
  rw [exec_vfEnableClear, execVfEnableClear, configured_draining (by decide) (by rfl) hdrain]

theorem tlp_vfEnable (s : State) : s.tlp.hep.vfEnable = s.hep.vfEnable := by rw [tlp_hep]

/-! The hot reset leaves the link down (R660). -/

/-- The upstream link down, at no rate and width. -/
def State.linkDown (s : State) : State :=
  ((((s.setFlag F.HEP_LINK_STAT_UP 0 false).setFld F.HEP_LINK_STAT_STATE 0 0).setFld F.HEP_LINK_STAT_L0P_WIDTH 0 0).setFld
    F.HEP_LINK_STAT_WIDTH 0 0).setFld F.HEP_LINK_STAT_RATE 0 0

theorem linkDown_fields (s : State) : let t := s.linkDown
    t.flag F.HEP_LINK_STAT_UP 0 = false ∧ t.fld F.HEP_LINK_STAT_STATE 0 = 0 ∧ t.fld F.HEP_LINK_STAT_WIDTH 0 = 0 ∧
    t.fld F.HEP_LINK_STAT_RATE 0 = 0 ∧ t.fld F.HEP_LINK_STAT_L0P_WIDTH 0 = 0 := by
  intro t
  refine ⟨?_, ?_, ?_, ?_, ?_⟩ <;>
    simp (disch := decide) only [t, State.linkDown, fld_setFld_place, flag_setFld_place, flag_setFlag_same, fld_setFld_same,
      Nat.zero_mod]

theorem exec_hotReset_linkDown (s : State) : Leads .hotReset s (fun t => ∃ u : State, t = u.linkDown) :=
  ⟨_, exec_hotReset s, _, rfl⟩

/-! What the clearing of a function leaves (R358, R471). -/

theorem getF_clearPages {g : Fld} {fn : Nat} (r : Regs) (hlo : g.lo < 64) (hfn : fn < 65536) (hpage : g.off ∈ pageRegs)
    (hgen : g.key fn ≠ F.HEP_FN_STAT_FGEN.key fn) : getF (clearPages fn r) g fn = g.resetAt fn := by
  have hcopy : g.key fn % 65536 = fn := by
    unfold Fld.key
    omega
  have hfind := Tbl.find?_filter_key (fun k => !(k % 65536 == fn && pageRegs.contains (k / 65536 / 64) &&
    k != F.HEP_FN_STAT_FGEN.key fn)) (g.key fn) r
  rw [key_offset hlo hfn, hcopy, if_neg (by simp [hpage, hgen])] at hfind
  rw [getF, Tbl.getD, clearPages, hfind]
  rfl

/-- The registers and the lists of regions, requests and resets after the clearing. -/
theorem fnClear_leaves (s : State) (fn : Nat) : ∃ u : State, (s.fnClear fn).regs = clearPages fn u.regs ∧
    (s.fnClear fn).rdm.regions = u.rdm.regions.filter (fun g => g.2.fn != fn) ∧
    (s.fnClear fn).hep.irq = u.hep.irq.filter (fun x => x.1 / 4096 != fn) ∧
    (s.fnClear fn).hep.drainStart = Tbl.del fn u.hep.drainStart := by
  unfold State.fnClear
  dsimp only
  split <;> exact ⟨_, rfl, rfl, rfl, rfl⟩

theorem exec_fnResetDrainDone_idle {s : State} {fn : Nat} (hdrain : s.flag F.HEP_FN_STAT_DRAINING fn = true)
    (hbusy : s.fnBusy fn = false) : exec (.fnResetDrainDone fn) s = .next (s.fnClear fn) := by
  rw [exec_fnResetDrainDone, execFnResetDrainDone, when_pos ⟨hdrain, hbusy⟩]

/-! The cut (R357). -/

theorem exec_fnResetCut_busy {s : State} {fn t0 : Nat} (hstart : Tbl.find? fn s.hep.drainStart = some t0)
    (hdrain : s.flag F.HEP_FN_STAT_DRAINING fn = true) (hbusy : s.fnBusy fn = true) : exec (.fnResetCut fn) s = .next (
      if t0 + 90000000 ≤ s.tb.time then (sinterEvent 0x142 fn (s.fnCut fn)).fnClear fn else s) := by
  rw [exec_fnResetCut, execFnResetCut, hstart]
  exact congrArg _ (if_congr (by simp [hdrain, hbusy]) rfl rfl)

/-- Settles O29: the reset of an idle function does its first steps alone; the end of a drain clears the function's pages by the keys
of their fields. -/
theorem functionResets : Obligations.FunctionResets := by
  unfold Obligations.FunctionResets
  refine ⟨?idle, fun s fn => exec_functionLevelReset_vf, fun s => exec_functionLevelReset_pf, fun s fn => exec_fnResetCmd_set,
    ?vfClear, ?vfNothing, fun s => ?hot, ?drained, fun s fn t0 hstart hdrain hbusy => ⟨fun hdue => ?_, fun hearly => ?_⟩⟩
  case idle =>
    intro s fn flr hrings hroles hqps hbuddy hctrl
    rw [fnReset_idle flr hrings hroles hqps hbuddy hctrl]
    simp only [State.regionsDying, State.dropIrqs, State.resetBegun, State.setFlag, State.setFld]
    rfl
  case vfClear =>
    intro s hdrain hvf
    rw [exec_vfEnableClear_configured hdrain, vfDisable_on ((tlp_vfEnable s).trans hvf)]
  case vfNothing =>
    intro s h
    cases hdrain : s.flag F.HEP_FN_STAT_DRAINING 0 with
    | true => exact exec_vfEnableClear_draining hdrain
    | false =>
      have hvf := h.resolve_left (by simp [hdrain])
      rw [exec_vfEnableClear_configured hdrain, vfDisable_off ((tlp_vfEnable s).trans hvf)]
  case hot =>
    obtain ⟨t, hexec, u, rfl⟩ := exec_hotReset_linkDown s
    exact ⟨_, hexec, linkDown_fields u⟩
  case drained =>
    intro s fn hdrain hbusy
    obtain ⟨u, hregs, hregions, hirq, hstart⟩ := fnClear_leaves s fn
    refine ⟨_, exec_fnResetDrainDone_idle hdrain hbusy, fun g hlo hfn hpage hgen => ?_, fun x hx => ?_, fun k hk => ?_, ?_⟩
    · rw [State.fld, hregs, getF_clearPages _ hlo hfn hpage hgen]
    · rw [hregions] at hx
      exact bne_iff_ne.mp (List.mem_filter.mp hx).2
    · rw [hirq, Tbl.find?_filter_key (fun k => k / 4096 != fn), if_neg (by simp [hk])]
    · rw [hstart, Tbl.find?_del_same]
  · rw [exec_fnResetCut_busy hstart hdrain hbusy, if_pos hdue]
  · rw [exec_fnResetCut_busy hstart hdrain hbusy, if_neg (Nat.not_le.mpr hearly)]

end Sys2Proof.Machine
end

section
/-! The upstream link: training, configuration requests, L1 and L0p, and what it reports (R340, R346, R356, R360, R371, R372,
R375). -/

namespace Sys2Proof.Machine

/-! An access that finds the link in L1 (R371, R372). -/

/-- Leaving L1 keeps every field but the link's state and, where the link was in L1, the domains. -/
theorem FieldsKept.leaveL1 {s : State} {keys : List Nat} (hlink : F.HEP_LINK_STAT_STATE.key 0 ∈ keys)
    (hpd : s.fld F.HEP_LINK_STAT_STATE 0 ∈ [3, 4, 5] → F.FUM_PD_STAT_ON.key 0 ∈ keys) : FieldsKept s s.leaveL1 keys := by
  by_cases hasleep : s.fld F.HEP_LINK_STAT_STATE 0 ∈ [3, 4, 5]
  · refine fun g j hg => leaveL1_kept s g j (fun hmem => hg ?_)
    rcases List.mem_pair.mp hmem with h | h
    · rw [h]; exact hlink
    · rw [h]; exact hpd hasleep
  · rw [State.leaveL1, if_neg (by simpa using hasleep)]
    exact FieldsKept.refl s keys

theorem leaveL1_wakes {s : State} (h : s.fld F.HEP_LINK_STAT_STATE 0 ∈ [3, 4, 5]) : let t := s.leaveL1
    t.fld F.HEP_LINK_STAT_STATE 0 = (if s.fld F.HEP_LINK_STAT_L0P_WIDTH 0 = 0 then 1 else 2) ∧
    t.fld F.FUM_PD_STAT_ON 0 = setField (s.fld F.FUM_PD_STAT_ON 0) 29 29 1 % 2 ^ F.FUM_PD_STAT_ON.width := by
  intro t
  have ht : t = _ := (leaveL1_asleep (by simpa using h)).trans (setDomain_link _ true)
  refine ⟨?_, ?_⟩
  · rw [ht, fld_setFld_place (by decide), fld_setFld_same]
    split <;> rfl
  · rw [ht, fld_setFld_same, fld_setFld_place (by decide)]
    rfl

/-! Training (R340, R375, R585). -/

/-- The state in which a link that was up, and not in Recovery, has entered Recovery to train again. -/
def State.retrained (s : State) : State :=
  if s.flag F.HEP_LINK_STAT_UP 0 = true ∧ s.fld F.HEP_LINK_STAT_STATE 0 ≠ 6 then s.leaveL1.inc F.HEP_LINK_CNT_RECOVERY_CNT 0
  else s

theorem linkUp_eq (s : State) (rate w : Nat) : s.linkUp rate w =
    ((((s.retrained.setFld F.HEP_LINK_STAT_RATE 0 rate).setFld F.HEP_LINK_STAT_WIDTH 0 w).setFld
      F.HEP_LINK_STAT_L0P_WIDTH 0 0).setFld F.HEP_LINK_STAT_STATE 0 1).setFlag F.HEP_LINK_STAT_UP 0 true := rfl

theorem retrained_recoveries (s : State) : s.retrained.fld F.HEP_LINK_CNT_RECOVERY_CNT 0 =
    if s.flag F.HEP_LINK_STAT_UP 0 = true ∧ s.fld F.HEP_LINK_STAT_STATE 0 ≠ 6 then
      (s.fld F.HEP_LINK_CNT_RECOVERY_CNT 0 + 1) % 2 ^ F.HEP_LINK_CNT_RECOVERY_CNT.width
    else s.fld F.HEP_LINK_CNT_RECOVERY_CNT 0 := by
  unfold State.retrained
  split
  · rw [fld_inc_same, leaveL1_kept s _ _ (by decide)]
  · rfl

theorem retrained_frame (s : State) : s.retrained = { s with regs := s.retrained.regs } := by
  unfold State.retrained
  split
  · rw [leaveL1_frame]
    simp only [State.inc]
  · rfl

theorem FieldsKept.retrained {s : State} {keys : List Nat} (hlink : F.HEP_LINK_STAT_STATE.key 0 ∈ keys)
    (hcnt : F.HEP_LINK_CNT_RECOVERY_CNT.key 0 ∈ keys)
    (hpd : s.fld F.HEP_LINK_STAT_STATE 0 ∈ [3, 4, 5] → F.FUM_PD_STAT_ON.key 0 ∈ keys) : FieldsKept s s.retrained keys := by
  unfold State.retrained
  split
  · exact (FieldsKept.leaveL1 hlink hpd).inc hcnt
  · exact FieldsKept.refl s keys

theorem linkUp_fields (s : State) {rate w : Nat} (hrate : rate < 2 ^ 8) (hw : w < 2 ^ 8) : let t := s.linkUp rate w
    t.fld F.HEP_LINK_STAT_RATE 0 = rate ∧ t.fld F.HEP_LINK_STAT_WIDTH 0 = w ∧ t.fld F.HEP_LINK_STAT_STATE 0 = 1 ∧
    t.fld F.HEP_LINK_STAT_L0P_WIDTH 0 = 0 ∧ t.flag F.HEP_LINK_STAT_UP 0 = true ∧
    t.fld F.HEP_LINK_CNT_RECOVERY_CNT 0 = s.retrained.fld F.HEP_LINK_CNT_RECOVERY_CNT 0 := by
  intro t
  have ht : t = _ := linkUp_eq s rate w
  refine ⟨?_, ?_, ?_, ?_, ?_, ?_⟩ <;>
    simp (disch := decide) only [ht, fld_setFlag_place, fld_setFld_place, fld_setFld_same, flag_setFlag_same]
  · exact Nat.mod_eq_of_lt hrate
  · exact Nat.mod_eq_of_lt hw
  · rfl
  · rfl

theorem linkUp_kept (s : State) (rate w : Nat) {keys : List Nat}
    (hstat : ∀ f ∈ [F.HEP_LINK_STAT_RATE, F.HEP_LINK_STAT_WIDTH, F.HEP_LINK_STAT_STATE, F.HEP_LINK_STAT_L0P_WIDTH,
      F.HEP_LINK_STAT_UP, F.HEP_LINK_CNT_RECOVERY_CNT], f.key 0 ∈ keys)
    (hpd : s.fld F.HEP_LINK_STAT_STATE 0 ∈ [3, 4, 5] → F.FUM_PD_STAT_ON.key 0 ∈ keys) : FieldsKept s (s.linkUp rate w) keys := by
  rw [linkUp_eq]
  exact ((((FieldsKept.retrained (hstat _ (by simp)) (hstat _ (by simp)) hpd).setFld (hstat _ (by simp)) rate).setFld
    (hstat _ (by simp)) w).setFld (hstat _ (by simp)) 0).setFld (hstat _ (by simp)) 1 |>.setFlag (hstat _ (by simp)) true

theorem linkUp_frame (s : State) (rate w : Nat) : s.linkUp rate w = { s with regs := (s.linkUp rate w).regs } := by
  rw [linkUp_eq, retrained_frame]
  simp only [State.setFlag, State.setFld]

theorem exec_upstreamLinkTrained_trains {s : State} {rate w : Nat} (cfg : List (Nat × CfgField)) (hlo : 1 ≤ rate) (hhi : rate ≤ 6)
    (hw : w ∈ [1, 2, 4, 8, 16]) (hperst : s.fum.perst = false) (hstage : 3 ≤ s.fld F.FUM_BOOT_STAT_STAGE 0)
    (hheld : s.fld F.FUM_BOOT_STAT_STAGE 0 ≠ 6) :
    exec (.upstreamLinkTrained ⟨rate, w⟩ cfg) s = .next ((s.linkUp rate w).enumerate cfg) := by
  rw [exec_upstreamLinkTrained, execUpstreamLinkTrained,
    when_pos ⟨hlo, hhi, List.contains_iff_mem.mpr hw, hperst, hstage, hheld⟩]

/-! Configuration requests (R346, R356, R360). -/

theorem enumerate_cons (s : State) (fn : Nat) (x : CfgField) (rest : List (Nat × CfgField)) : s.enumerate ((fn, x) :: rest) =
    (s.configured fn (fun u => u.setCfg fn (CfgField.put fn (u.cfg fn) x))).enumerate rest := rfl

/-! L1_ENTRY (R371). -/

/-- What the host enables noted: it decides how deep the link sleeps. -/
def State.aspmNoted (s : State) (l1 l11 l12 : Bool) : State :=
  { s with hep := { s.hep with aspmL1 := l1, aspmL11 := l11, aspmL12 := l12 } }

theorem exec_l1Entry_asleep {s : State} {l1 : Bool} (l11 l12 : Bool) (hlim : s.fld F.HEP_LPM_CTL_L1_IDLE_US 0 ≠ 0)
    (hidle : s.hep.lastTlp + s.fld F.HEP_LPM_CTL_L1_IDLE_US 0 * 1000 ≤ s.tb.time) (hreads : s.hep.reads = [])
    (hst : s.fld F.HEP_LINK_STAT_STATE 0 = 1 ∨ s.fld F.HEP_LINK_STAT_STATE 0 = 2) (hl1 : l1 = true) :
    exec (.l1Entry ⟨l1, l11, l12⟩) s = .next (
      let s2 := (s.aspmNoted l1 l11 l12).setFld F.HEP_LINK_STAT_STATE 0 (l1State l11 l12)
      if l12 then s2.setDomain 29 false else s2) := by
  rw [exec_l1Entry, execL1Entry]
  exact congrArg _ (if_pos ⟨hlim, hidle, List.isEmpty_iff.mpr hreads, hst, hl1⟩)

theorem exec_l1Entry_stays {s : State} {l1 : Bool} (l11 l12 : Bool) (h : ¬ (s.fld F.HEP_LPM_CTL_L1_IDLE_US 0 ≠ 0 ∧
    s.hep.lastTlp + s.fld F.HEP_LPM_CTL_L1_IDLE_US 0 * 1000 ≤ s.tb.time ∧ s.hep.reads = [] ∧
    (s.fld F.HEP_LINK_STAT_STATE 0 = 1 ∨ s.fld F.HEP_LINK_STAT_STATE 0 = 2) ∧ l1 = true)) :
    exec (.l1Entry ⟨l1, l11, l12⟩) s = .next (s.aspmNoted l1 l11 l12) := by
  rw [← List.isEmpty_iff] at h
  rw [exec_l1Entry, execL1Entry]
  exact congrArg _ (if_neg h)

/-! L0P_WINDOW (R371). -/

/-- The link goes to a width, of the lanes that it has. -/
def State.narrowed (s : State) (full w : Nat) : State :=
  (s.setFld F.HEP_LINK_STAT_L0P_WIDTH 0 (if w = full then 0 else w)).setFld F.HEP_LINK_STAT_STATE 0 (if w = full then 1 else 2)

/-- The width that a use of `util` percent, or a TLP that has waited, asks for. -/
def widthAsked (waited : Bool) (util dn up full cur : Nat) : Nat :=
  if waited = true ∨ up < util then min full (2 * cur) else if util < dn ∧ 2 < cur then cur / 2 else cur

/-- A window in which the link has reported nothing. -/
theorem exec_l0pWindow_quiet (s : State) (util : Nat) (waited : Bool) : exec (.l0pWindow util ⟨waited, []⟩) s = (
    let full := s.fld F.HEP_LINK_STAT_WIDTH 0
    let l0p := s.fld F.HEP_LINK_STAT_L0P_WIDTH 0
    let dn := s.fld F.HEP_LPM_CTL_L0P_DOWN_PCT 0
    let up := s.fld F.HEP_LPM_CTL_L0P_UP_PCT 0
    let due := decide (s.hep.l0pWindowStart + 100000 ≤ s.tb.time)
    when (s.flag F.HEP_LPM_CTL_L0P_EN 0 = true ∧ dn < up ∧
        (s.fld F.HEP_LINK_STAT_STATE 0 = 1 ∨ s.fld F.HEP_LINK_STAT_STATE 0 = 2) ∧
        (due = true ∨ waited = true))
      ((if due then { s with hep := { s.hep with l0pWindowStart := s.tb.time } } else s).narrowed full
        (widthAsked waited util dn up full (if l0p = 0 then full else l0p))) s) := exec_l0pWindow util ⟨waited, []⟩ s

section
variable {s : State} (hen : s.flag F.HEP_LPM_CTL_L0P_EN 0 = true)
  (hpct : s.fld F.HEP_LPM_CTL_L0P_DOWN_PCT 0 < s.fld F.HEP_LPM_CTL_L0P_UP_PCT 0)
  (hst : s.fld F.HEP_LINK_STAT_STATE 0 = 1 ∨ s.fld F.HEP_LINK_STAT_STATE 0 = 2)
include hen hpct hst

/-- The end of a window in which no TLP waited. -/
theorem exec_l0pWindow_due (util : Nat) (hdue : s.hep.l0pWindowStart + 100000 ≤ s.tb.time) :
    exec (.l0pWindow util ⟨false, []⟩) s = .next (
      let full := s.fld F.HEP_LINK_STAT_WIDTH 0
      let l0p := s.fld F.HEP_LINK_STAT_L0P_WIDTH 0
      ({ s with hep := { s.hep with l0pWindowStart := s.tb.time } } : State).narrowed full
        (widthAsked false util (s.fld F.HEP_LPM_CTL_L0P_DOWN_PCT 0) (s.fld F.HEP_LPM_CTL_L0P_UP_PCT 0) full
          (if l0p = 0 then full else l0p))) := by
  rw [exec_l0pWindow_quiet]
  dsimp only
  rw [when_pos ⟨hen, hpct, hst, .inl (decide_eq_true hdue)⟩, if_pos (decide_eq_true hdue)]

/-- A TLP has waited within a window. -/
theorem exec_l0pWindow_waited (util : Nat) (hearly : s.tb.time < s.hep.l0pWindowStart + 100000) :
    exec (.l0pWindow util ⟨true, []⟩) s = .next (
      let full := s.fld F.HEP_LINK_STAT_WIDTH 0
      let l0p := s.fld F.HEP_LINK_STAT_L0P_WIDTH 0
      s.narrowed full (min full (2 * (if l0p = 0 then full else l0p)))) := by
  rw [exec_l0pWindow_quiet]
  dsimp only
  rw [when_pos ⟨hen, hpct, hst, .inr rfl⟩, if_neg (by simpa using hearly), widthAsked, if_pos (.inl rfl)]

end

/-- Nothing is due within a window in which no TLP waited. -/
theorem exec_l0pWindow_early {s : State} (util : Nat) (hearly : s.tb.time < s.hep.l0pWindowStart + 100000) :
    exec (.l0pWindow util ⟨false, []⟩) s = .next s := by
  rw [exec_l0pWindow_quiet]
  refine when_neg (fun ⟨_, _, _, h⟩ => ?_) _ _
  exact h.elim (fun hdue => Nat.not_le.mpr hearly (of_decide_eq_true hdue)) Bool.false_ne_true

/-! What the link reports (R360, R375). -/

theorem replayed_fld (s : State) (f : Fld) (i : Nat) : s.replayed.fld f i = (s.inc F.HEP_LINK_CNT_REPLAY_CNT 0).fld f i :=
  sinterEvent_fld _ _ _ _ _

theorem replayed_hep (s : State) : s.replayed.hep = s.hep := sinterEvent_hep _ _ _

theorem aerReport_fld (fn err : Nat) (s : State) (f : Fld) (i : Nat) : (aerReport fn err s).fld f i = s.fld f i := rfl

theorem aerReport_aer (fn err : Nat) (s : State) : (aerReport fn err s).hep.aer = (fn, err) :: s.hep.aer := rfl

theorem linkErr_replayTimeout (s : State) :
    s.linkErr .replayTimeout = aerReport 0 10 (s.inc F.HEP_LINK_CNT_CORR_CNT 0).replayed := rfl

/-- A correctable error. -/
theorem linkErr_correctable (s : State) {e : LinkErr × Nat}
    (h : e ∈ [(LinkErr.receiver, 7), (.badTlp, 8), (.badDllp, 9), (.replayTimeout, 10), (.replayRollover, 11)]) :
    (s.linkErr e.1).fld F.HEP_LINK_CNT_CORR_CNT 0 =
      (s.fld F.HEP_LINK_CNT_CORR_CNT 0 + 1) % 2 ^ F.HEP_LINK_CNT_CORR_CNT.width ∧
    (s.linkErr e.1).hep.aer = (0, e.2) :: s.hep.aer := by
  have hcounted : (s.inc F.HEP_LINK_CNT_CORR_CNT 0).fld F.HEP_LINK_CNT_CORR_CNT 0 = _ := fld_inc_same s _ 0
  simp only [List.mem_cons, List.not_mem_nil, or_false] at h
  rcases h with rfl | rfl | rfl | rfl | rfl
  · exact ⟨hcounted, rfl⟩
  · exact ⟨hcounted, rfl⟩
  · exact ⟨hcounted, rfl⟩
  · rw [linkErr_replayTimeout, aerReport_fld, replayed_fld, fld_inc_ne (by decide), aerReport_aer, replayed_hep]
    exact ⟨hcounted, rfl⟩
  · exact ⟨hcounted, rfl⟩

/-- An uncorrectable error. -/
theorem linkErr_uncorrectable (s : State) {e : LinkErr × Nat}
    (h : e ∈ [(LinkErr.dlProtocol, 12), (.flowControl, 13), (.malformed, 14), (.overflow, 15)]) :
    (s.linkErr e.1).fld F.HEP_LINK_CNT_UNCORR_CNT 0 =
      (s.fld F.HEP_LINK_CNT_UNCORR_CNT 0 + 1) % 2 ^ F.HEP_LINK_CNT_UNCORR_CNT.width ∧
    (s.linkErr e.1).hep.aer = (0, e.2) :: s.hep.aer := by
  have hcounted : (s.inc F.HEP_LINK_CNT_UNCORR_CNT 0).fld F.HEP_LINK_CNT_UNCORR_CNT 0 = _ := fld_inc_same s _ 0
  simp only [List.mem_cons, List.not_mem_nil, or_false] at h
  rcases h with rfl | rfl | rfl | rfl <;> exact ⟨hcounted, rfl⟩

theorem replayed_counts (s : State) : s.replayed.fld F.HEP_LINK_CNT_REPLAY_CNT 0 =
    (s.fld F.HEP_LINK_CNT_REPLAY_CNT 0 + 1) % 2 ^ F.HEP_LINK_CNT_REPLAY_CNT.width :=
  (replayed_fld s _ _).trans (fld_inc_same s _ 0)

theorem linkErr_replays (s : State) {e : LinkErr} (h : e ∈ [LinkErr.nak, .replayTimeout]) :
    (s.linkErr e).fld F.HEP_LINK_CNT_REPLAY_CNT 0 =
      (s.fld F.HEP_LINK_CNT_REPLAY_CNT 0 + 1) % 2 ^ F.HEP_LINK_CNT_REPLAY_CNT.width := by
  rcases List.mem_pair.mp h with rfl | rfl
  · exact replayed_counts s
  · rw [linkErr_replayTimeout, aerReport_fld, replayed_counts, fld_inc_ne (by decide)]

theorem linkErr_recovery {s : State} (hup : s.flag F.HEP_LINK_STAT_UP 0 = true) :
    (s.linkErr .recovery).fld F.HEP_LINK_STAT_STATE 0 = 6 ∧ (s.linkErr .recovery).fld F.HEP_LINK_CNT_RECOVERY_CNT 0 =
      (s.fld F.HEP_LINK_CNT_RECOVERY_CNT 0 + 1) % 2 ^ F.HEP_LINK_CNT_RECOVERY_CNT.width := by
  have ht : s.linkErr .recovery = (s.leaveL1.setFld F.HEP_LINK_STAT_STATE 0 6).inc F.HEP_LINK_CNT_RECOVERY_CNT 0 := if_pos hup
  refine ⟨?_, ?_⟩
  · rw [ht, fld_inc_ne (by decide), fld_setFld_same]
    rfl
  · rw [ht, fld_inc_same, fld_setFld_place (by decide), leaveL1_kept s _ _ (by decide)]

end Sys2Proof.Machine
end

section
/-! The downstream ports (R373 to R375): what a link that goes down leaves, presence, errors and refused requests. -/

namespace Sys2Proof.Machine

/-! The link of a port goes down (R373, R375). -/

theorem dpDown_held {s : State} {p : Nat} (h : s.flag F.HEP_DP_STAT_UP p = false) : s.dpDown p = s := if_neg (by simp [h])

/-- A port whose link is down, before the loss is counted. -/
def State.dpCleared (s : State) (p : Nat) : State :=
  (((s.setFlag F.HEP_DP_STAT_UP p false).setFld F.HEP_DP_STAT_WIDTH p 0).setFld F.HEP_DP_STAT_RATE p 0).setFlag
    F.HEP_DP_STAT_CHANGE p true

theorem dpDown_falls {s : State} {p : Nat} (h : s.flag F.HEP_DP_STAT_UP p = true) : s.dpDown p =
    if s.flag F.HEP_DP_STAT_PRESENT p = true ∧ s.flag F.HEP_DP_CTL_PWR p = true then
      (s.dpCleared p).inc F.HEP_DP_STAT_SURPRISE_CNT p
    else s.dpCleared p := if_pos h

theorem dpCleared_fields (s : State) (p : Nat) : let t := s.dpCleared p
    t.flag F.HEP_DP_STAT_UP p = false ∧ t.flag F.HEP_DP_STAT_CHANGE p = true ∧ t.fld F.HEP_DP_STAT_WIDTH p = 0 ∧
    t.fld F.HEP_DP_STAT_RATE p = 0 ∧ t.fld F.HEP_DP_STAT_SURPRISE_CNT p = s.fld F.HEP_DP_STAT_SURPRISE_CNT p := by
  intro t
  refine ⟨?_, ?_, ?_, ?_, ?_⟩ <;>
    simp (disch := decide) only [t, State.dpCleared, flag_setFlag_place, flag_setFld_place, fld_setFlag_place, fld_setFld_place,
      flag_setFlag_same, fld_setFld_same, Nat.zero_mod]

theorem dpDown_fields {s : State} {p : Nat} (h : s.flag F.HEP_DP_STAT_UP p = true) : let t := s.dpDown p
    t.flag F.HEP_DP_STAT_UP p = false ∧ t.flag F.HEP_DP_STAT_CHANGE p = true ∧ t.fld F.HEP_DP_STAT_WIDTH p = 0 ∧
    t.fld F.HEP_DP_STAT_RATE p = 0 := by
  obtain ⟨hup, hchange, hwidth, hrate, -⟩ := dpCleared_fields s p
  intro t
  have ht : t = _ := dpDown_falls h
  split at ht
  · have hne {g : Fld} (hg : g.off * 64 + g.lo ≠ F.HEP_DP_STAT_SURPRISE_CNT.off * 64 + F.HEP_DP_STAT_SURPRISE_CNT.lo) :
        g.key p ≠ F.HEP_DP_STAT_SURPRISE_CNT.key p := key_ne_of_place hg p
    rw [ht, flag_inc_ne (hne (by decide)), flag_inc_ne (hne (by decide)), fld_inc_ne (hne (by decide)),
      fld_inc_ne (hne (by decide))]
    exact ⟨hup, hchange, hwidth, hrate⟩
  · rw [ht]
    exact ⟨hup, hchange, hwidth, hrate⟩

theorem dpDown_up (s : State) (p : Nat) : (s.dpDown p).flag F.HEP_DP_STAT_UP p = false := by
  cases h : s.flag F.HEP_DP_STAT_UP p with
  | true => exact (dpDown_fields h).1
  | false => rw [dpDown_held h, h]

/-- A device that is present and powered counts as lost when its link falls. -/
theorem dpDown_surprise (s : State) (p : Nat) : (s.dpDown p).fld F.HEP_DP_STAT_SURPRISE_CNT p =
    if s.flag F.HEP_DP_STAT_UP p = true ∧ s.flag F.HEP_DP_STAT_PRESENT p = true ∧ s.flag F.HEP_DP_CTL_PWR p = true then
      (s.fld F.HEP_DP_STAT_SURPRISE_CNT p + 1) % 2 ^ F.HEP_DP_STAT_SURPRISE_CNT.width
    else s.fld F.HEP_DP_STAT_SURPRISE_CNT p := by
  obtain ⟨-, -, -, -, hkept⟩ := dpCleared_fields s p
  cases h : s.flag F.HEP_DP_STAT_UP p with
  | true =>
    rw [dpDown_falls h]
    simp only [true_and]
    split
    · rw [fld_inc_same, hkept]
    · exact hkept
  | false => rw [dpDown_held h, if_neg (by simp)]

/-- The fields of a port's status that a change of its link writes. -/
def portKeys (p : Nat) : List Nat := [F.HEP_DP_STAT_PRESENT.key p, F.HEP_DP_STAT_CHANGE.key p, F.HEP_DP_STAT_UP.key p,
  F.HEP_DP_STAT_WIDTH.key p, F.HEP_DP_STAT_RATE.key p, F.HEP_DP_STAT_SURPRISE_CNT.key p]

theorem dpCleared_kept (s : State) (p : Nat) : FieldsKept s (s.dpCleared p) (portKeys p) :=
  ((((FieldsKept.refl s _).setFlag (by simp [portKeys]) false).setFld (by simp [portKeys]) 0).setFld (by simp [portKeys])
    0).setFlag (by simp [portKeys]) true

theorem dpDown_kept (s : State) (p : Nat) : FieldsKept s (s.dpDown p) (portKeys p) := by
  cases h : s.flag F.HEP_DP_STAT_UP p with
  | true =>
    rw [dpDown_falls h]
    split
    · exact (dpCleared_kept s p).inc (by simp [portKeys])
    · exact dpCleared_kept s p
  | false =>
    rw [dpDown_held h]
    exact FieldsKept.refl s _

theorem dpDown_frame (s : State) (p : Nat) : s.dpDown p = { s with regs := (s.dpDown p).regs } := by
  cases h : s.flag F.HEP_DP_STAT_UP p with
  | true =>
    rw [dpDown_falls h]
    split <;> simp only [State.dpCleared, State.inc, State.setFlag, State.setFld]
  | false => rw [dpDown_held h]

/-! DP_PRESENCE_CHANGE (R373, R375). -/

/-- The presence of a port's device noted. -/
def State.presenceNoted (s : State) (p : Nat) (b : Bool) : State :=
  (s.setFlag F.HEP_DP_STAT_PRESENT p b).setFlag F.HEP_DP_STAT_CHANGE p true

theorem exec_dpPresenceChange_changed {s : State} {p : Nat} {b : Bool} (hp : p < 4) (hb : s.flag F.HEP_DP_STAT_PRESENT p ≠ b) :
    exec (.dpPresenceChange p b) s = .next ((if b then s else s.dpDown p).presenceNoted p b) := by
  rw [exec_dpPresenceChange, execDpPresenceChange, when_pos ⟨hp, hb⟩]
  rfl

theorem presenceNoted_fields (s : State) (p : Nat) (b : Bool) : let t := s.presenceNoted p b
    t.flag F.HEP_DP_STAT_PRESENT p = b ∧ t.flag F.HEP_DP_STAT_CHANGE p = true ∧
    t.flag F.HEP_DP_STAT_UP p = s.flag F.HEP_DP_STAT_UP p ∧
    t.fld F.HEP_DP_STAT_SURPRISE_CNT p = s.fld F.HEP_DP_STAT_SURPRISE_CNT p := by
  intro t
  refine ⟨?_, ?_, ?_, ?_⟩ <;>
    simp (disch := decide) only [t, State.presenceNoted, flag_setFlag_place, fld_setFlag_place, flag_setFlag_same]

theorem FieldsKept.presenceNoted {s t : State} {p : Nat} (h : FieldsKept s t (portKeys p)) (b : Bool) :
    FieldsKept s (t.presenceNoted p b) (portKeys p) :=
  (h.setFlag (by simp [portKeys]) b).setFlag (by simp [portKeys]) true

/-- A device appears. -/
theorem exec_dpPresenceChange_appears {s : State} {p : Nat} (hp : p < 4) (habsent : s.flag F.HEP_DP_STAT_PRESENT p = false) :
    exec (.dpPresenceChange p true) s = .next (s.presenceNoted p true) :=
  exec_dpPresenceChange_changed hp (by simp [habsent])

/-- A device goes, and takes its link down. -/
theorem exec_dpPresenceChange_goes {s : State} {p : Nat} (hp : p < 4) (hpresent : s.flag F.HEP_DP_STAT_PRESENT p = true) :
    exec (.dpPresenceChange p false) s = .next ((s.dpDown p).presenceNoted p false) :=
  exec_dpPresenceChange_changed hp (by simp [hpresent])

/-! DP_ERROR and DRIVE_MEMORY_REQUEST (R374). -/

/-- The error of a port counted and recorded. -/
def State.portErrNoted (s : State) (p : Nat) : State := sinterEvent 0x144 p (s.inc F.HEP_DP_STAT_ERR_CNT p)

theorem portErrNoted_eq (s : State) (p : Nat) : s.portErrNoted p = { s with
    regs := (s.inc F.HEP_DP_STAT_ERR_CNT p).regs, snt := (s.portErrNoted p).snt } := by
  have hsnt : s.portErrNoted p = { s.inc F.HEP_DP_STAT_ERR_CNT p with snt := (s.portErrNoted p).snt } :=
    sinterEvent_only 0x144 p (s.inc F.HEP_DP_STAT_ERR_CNT p)
  generalize (s.portErrNoted p).snt = x at hsnt ⊢
  rw [hsnt]
  simp only [State.inc]

theorem exec_dpError_port {s : State} {p : Nat} (hp : p < 4) : exec (.dpError p) s = .next { s.portErrNoted p with
    sto := { (s.portErrNoted p).sto with
      portErrs := Tbl.put 0 p (Tbl.getD (s.portErrNoted p).sto.portErrs p 0 + 1) (s.portErrNoted p).sto.portErrs } } := by
  rw [exec_dpError, execDpError, when_pos hp]
  rfl

theorem exec_driveMemoryRequest_refused {s : State} {p a : Nat} (hp : p < 4) (h : s.driveBuffer p a = false) :
    exec (.driveMemoryRequest p a) s = .next { s with hep := { s.hep with
      drvRefused := Tbl.set p (Tbl.getD s.hep.drvRefused p 0 + 1) s.hep.drvRefused } } := by
  rw [exec_driveMemoryRequest, execDriveMemoryRequest, when_pos ⟨hp, h⟩]

theorem exec_driveMemoryRequest_buffer {s : State} {p a : Nat} (h : s.driveBuffer p a = true) :
    exec (.driveMemoryRequest p a) s = .next s := by
  rw [exec_driveMemoryRequest, execDriveMemoryRequest, when_neg (by simp [h])]

end Sys2Proof.Machine
end

section
/-! VF Enable (R342, R345), and the statement about the upstream link and the ports. -/

namespace Sys2Proof.Machine

/-! The class codes of the virtual functions, settled one after another (R345). -/

/-- The class code of virtual function `i + 1` settled. -/
def State.settleClass (code : Nat → Nat) (t : State) (i : Nat) : State :=
  t.setCfg (i + 1) { t.cfg (i + 1) with classCode := code (i + 1) }

theorem foldl_settleClass_frame (code : Nat → Nat) (l : List Nat) (s : State) : l.foldl (State.settleClass code) s =
    { s with hep := { s.hep with cfg := (l.foldl (State.settleClass code) s).hep.cfg } } := by
  induction l generalizing s with
  | nil => rfl
  | cons i l ih => exact ih (s.settleClass code i)

theorem foldl_settleClass_cfg (code : Nat → Nat) (l : List Nat) (s : State) (f : Nat) :
    (l.foldl (State.settleClass code) s).cfg f =
      if f ∈ l.map (· + 1) then { s.cfg f with classCode := code f } else s.cfg f := by
  induction l generalizing s with
  | nil => rfl
  | cons i l ih =>
    rw [List.foldl_cons, ih, List.map_cons]
    by_cases hi : f = i + 1
    · subst hi
      rw [State.settleClass, cfg_setCfg_same, if_pos List.mem_cons_self]
      split <;> rfl
    · rw [State.settleClass, cfg_setCfg_ne s hi]
      exact if_congr (by rw [List.mem_cons, or_iff_right hi]) rfl rfl

theorem vfOn_enabled {s : State} {n : Nat} (h : s.hep.vfEnable = true ∨ 255 < n) : s.vfOn n = s :=
  if_neg (fun hon => h.elim (by simp [hon.1]) (by omega))

/-- VF Enable set, before the class codes are settled. -/
def State.vfEnabled (s : State) (n : Nat) : State := { s with hep := { s.hep with vfEnable := true, numVfs := n } }

theorem vfOn_enables {s : State} {n : Nat} (hoff : s.hep.vfEnable = false) (hn : n ≤ 255) :
    s.vfOn n = (List.range 255).foldl (State.settleClass s.vfClass) (s.vfEnabled n) := if_pos ⟨hoff, hn⟩

theorem mem_vfs {f : Nat} : f ∈ (List.range 255).map (· + 1) ↔ 1 ≤ f ∧ f ≤ 255 := by
  simp only [List.mem_map, List.mem_range]
  exact ⟨fun ⟨i, hi, hf⟩ => by omega, fun h => ⟨f - 1, by omega, by omega⟩⟩

theorem vfOn_leaves {s : State} {n : Nat} (hoff : s.hep.vfEnable = false) (hn : n ≤ 255) : let t := s.vfOn n
    t.hep.vfEnable = true ∧ t.hep.numVfs = n ∧
    (∀ f, 1 ≤ f → f ≤ 255 → t.cfg f = { s.cfg f with classCode := s.vfClass f }) ∧
    (∀ f, f = 0 ∨ 255 < f → t.cfg f = s.cfg f) ∧
    t = { s with hep := { s.hep with vfEnable := true, numVfs := n, cfg := t.hep.cfg } } := by
  intro t
  have ht : t = _ := vfOn_enables hoff hn
  have hframe := foldl_settleClass_frame s.vfClass (List.range 255) (s.vfEnabled n)
  have hcfg := foldl_settleClass_cfg s.vfClass (List.range 255) (s.vfEnabled n)
  rw [← ht] at hframe hcfg
  refine ⟨by rw [hframe]; rfl, by rw [hframe]; rfl, fun f hlo hhi => ?_, fun f hf => ?_, hframe⟩
  · rw [hcfg, if_pos (mem_vfs.mpr ⟨hlo, hhi⟩)]
    rfl
  · rw [hcfg, if_neg (fun hmem => by have := mem_vfs.mp hmem; omega)]
    rfl

/-- Settles O28: each clause is the lemma about that command; what the link and a port leave is read off the chain of field
updates, after whatever woke the link. -/
theorem upstreamLinkAndPorts : Obligations.UpstreamLinkAndPorts := by
  unfold Obligations.UpstreamLinkAndPorts
  refine ⟨⟨?trained, ?configured, fun fn c a => ⟨Nat.div_mul_self_eq_mod_sub_self, Nat.div_mul_self_eq_mod_sub_self,
    Nat.div_mul_self_eq_mod_sub_self⟩, ?l1, ?exit, ?l0p, fun s util waited errs => rfl,
    fun s => ⟨fun e => linkErr_correctable s, fun e => linkErr_uncorrectable s, fun e => linkErr_replays s, linkErr_recovery⟩⟩,
    ?presence, ?error, fun s p a hp => ⟨fun h => ⟨_, exec_driveMemoryRequest_refused hp h, Tbl.getD_set_same _ _ _ _, rfl⟩,
      exec_driveMemoryRequest_buffer⟩, ?vf⟩
  case trained =>
    intro s rate w cfg hlo hhi hw hperst hstage hheld t
    have hw8 : w < 2 ^ 8 := by
      simp only [List.mem_cons, List.not_mem_nil, or_false] at hw
      omega
    obtain ⟨hrate, hwidth, hstate, hl0p, hup, hcnt⟩ := linkUp_fields s (rate := rate) (by omega) hw8
    refine ⟨exec_upstreamLinkTrained_trains cfg hlo hhi hw hperst hstage hheld, hrate, hwidth, hstate, hl0p, hup,
      hcnt.trans (retrained_recoveries s), ?_, linkUp_frame s rate w⟩
    refine linkUp_kept s rate w (by simp) (fun hasleep => ?_)
    rw [if_pos hasleep]
    exact List.mem_append_right _ List.mem_cons_self
  case configured =>
    intro s fn x rest
    refine ⟨rfl, fun hex hfn hdrain => ?_, fun hex hfn hdrain => ?_, fun hex => ?_⟩
    · rw [enumerate_cons, configured_done hfn hex hdrain, tlp_cfg]
    · rw [enumerate_cons, configured_draining hfn hex hdrain]
    · rw [enumerate_cons, configured_missing hex]
  case l1 =>
    intro s l1 l11 l12 s1 lim may
    refine ⟨fun ⟨hlim, hidle, hreads, hst, hl1⟩ hl12 => ?_, fun ⟨hlim, hidle, hreads, hst, hl1⟩ hl12 => ?_,
      fun h => exec_l1Entry_stays l11 l12 h⟩
    · subst hl12
      exact exec_l1Entry_asleep l11 false hlim hidle hreads hst hl1
    · subst hl12
      rw [exec_l1Entry_asleep l11 true hlim hidle hreads hst hl1]
      dsimp only
      rw [if_pos rfl, setDomain_link, fld_setFld_place (by decide)]
      rfl
  case exit =>
    intro s
    refine ⟨exec_l1Exit s, ?_, fun hawake => if_neg (by simpa using hawake), fun hasleep => ?_⟩
    · rw [tlp_frame, leaveL1_frame s]
      rfl
    · obtain ⟨hstate, hpd⟩ := leaveL1_wakes hasleep
      exact ⟨hstate, hpd, leaveL1_kept s, leaveL1_frame s⟩
  case l0p =>
    intro s util hen hpct hst full cur goes s1
    refine ⟨fun hdue => ?_, fun hearly => ⟨exec_l0pWindow_waited hen hpct hst util hearly, exec_l0pWindow_early util hearly⟩⟩
    have hgoes : ∀ w, widthAsked false util (s.fld F.HEP_LPM_CTL_L0P_DOWN_PCT 0) (s.fld F.HEP_LPM_CTL_L0P_UP_PCT 0) full cur = w →
        goes false s1 w := by
      rintro w rfl
      exact exec_l0pWindow_due hen hpct hst util hdue
    refine ⟨fun hmore => hgoes _ ?_, fun hless hcur => hgoes _ ?_, fun hlo hhi => hgoes _ ?_⟩
    · rw [widthAsked, if_pos (.inr hmore)]
    · rw [widthAsked, if_neg (by simp; omega), if_pos ⟨hless, hcur⟩]
    · rw [widthAsked, if_neg (by simp; omega), if_neg (by omega)]
  case presence =>
    intro s p b hp hb
    cases b with
    | true =>
      obtain ⟨hpresent, hchange, hup, hcnt⟩ := presenceNoted_fields s p true
      exact ⟨_, exec_dpPresenceChange_appears hp (by simpa using hb), hpresent, hchange, by simp, by simp, fun _ => hcnt,
        (FieldsKept.refl s (portKeys p)).presenceNoted true, rfl⟩
    | false =>
      have hwas : s.flag F.HEP_DP_STAT_PRESENT p = true := by simpa using hb
      obtain ⟨hpresent, hchange, hup, hcnt⟩ := presenceNoted_fields (s.dpDown p) p false
      refine ⟨_, exec_dpPresenceChange_goes hp hwas, hpresent, hchange, fun _ => hup.trans (dpDown_up s p),
        fun _ hwasUp hpwr => ?_, fun hnot => ?_, (dpDown_kept s p).presenceNoted false, ?_⟩
      · rw [hcnt, dpDown_surprise, if_pos ⟨hwasUp, hwas, hpwr⟩]
      · rw [hcnt, dpDown_surprise, if_neg]
        rintro ⟨hwasUp, -, hpwr⟩
        simp [hwasUp, hpwr] at hnot
      · rw [dpDown_frame]
        rfl
  case error =>
    intro s p hp
    have hregs : (s.portErrNoted p).regs = (s.inc F.HEP_DP_STAT_ERR_CNT p).regs := sinterEvent_regs _ _ _
    refine ⟨_, exec_dpError_port hp, ?_, ?_, ?_, ?_⟩
    · exact (fld_of_regs hregs _ _).trans (fld_inc_same s _ p)
    · exact ((FieldsKept.refl s _).inc List.mem_cons_self).of_regs hregs
    · rw [Tbl.getD_put_same, portErrNoted_eq]
    · rw [portErrNoted_eq]
  case vf =>
    intro s n cfg
    refine ⟨fun hdrain => ?_, fun hdrain => ?_, vfOn_enabled, vfOn_leaves⟩
    · rw [exec_vfEnableSet, execVfEnableSet, configured_done (by decide) (by rfl) hdrain]
    · rw [exec_vfEnableSet, execVfEnableSet, configured_draining (by decide) (by rfl) hdrain]

end Sys2Proof.Machine
end

section
/-! Namespaces, drives and remote paths, and the cache region (R373, R381 to R383, R386, R396, R397, R407, R408). -/

namespace Sys2Proof.Machine

/-! The result of a namespace command (R382). -/

theorem nsResult_fields (s : State) {r : Nat} (hr : r < 2 ^ 4) : let t := s.nsResult r
    t.flag F.STO_NS_CMD_GO 0 = false ∧ t.fld F.STO_NS_RESULT_RESULT 0 = r ∧ t.flag F.STO_NS_RESULT_BUSY 0 = false ∧
    t.flag F.STO_NS_RESULT_DONE 0 = true := by
  intro t
  refine ⟨?_, ?_, ?_, ?_⟩ <;>
    simp (disch := decide) only [t, State.nsResult, flag_setFlag_place, flag_setFld_place, fld_setFlag_place, flag_setFlag_same,
      fld_setFld_same]
  exact Nat.mod_eq_of_lt hr

theorem nsResult_frame (s : State) (r : Nat) : s.nsResult r = { s with regs := (s.nsResult r).regs } := by
  simp only [State.nsResult, State.setFlag, State.setFld]

/-! NS_CREATE (R381, R382). -/

/-- An extent of a new namespace lies on a drive that is down, or past the drive's end. -/
def State.extentBad (s : State) (e : Nat × Nat × Nat) : Bool := decide (!(s.drive e.1).up ∨ (s.drive e.1).lbas < e.2.1 + e.2.2)

theorem extentBad_iff {s : State} {e : Nat × Nat × Nat} :
    s.extentBad e = true ↔ (s.drive e.1).up = false ∨ (s.drive e.1).lbas < e.2.1 + e.2.2 := by
  simp [State.extentBad]

/-- The staged namespace fails a check of R381 or R382. -/
def State.stagedBad (s : State) : Prop :=
  let n := s.stagedNs
  n.extents.any s.extentBad = true ∨ extentsClash (n.extents ++ s.sto.namespaces.flatMap (fun m => m.2.extents)) = true ∨
    stripeBad n = true ∨ (n.backing = 2 ∧ (Tbl.find? n.qp s.rdm.qps).map (fun q => q.fn) ≠ some 0) ∨
    s.nsKeyOk n = false ∨ (n.pi ≠ 0 ∧ s.fld F.STO_DEV_CTL_CRC_UNITS 0 = 0)

section
variable {s : State} (hcmd : s.nsReady 0 = true)
include hcmd

theorem exec_nsCreate_taken (h : (s.ns? (s.fld F.STO_NS_CMD_NS 0)).isSome = true) : exec .nsCreate s = .next (s.nsResult 1) := by
  rw [exec_nsCreate, execNsCreate, when_pos hcmd]
  exact congrArg _ (if_pos h)

theorem exec_nsCreate_bad (hfree : s.ns? (s.fld F.STO_NS_CMD_NS 0) = none) (hbad : s.stagedBad) :
    exec .nsCreate s = .next (s.nsResult 2) := by
  rw [exec_nsCreate, execNsCreate, when_pos hcmd]
  exact congrArg _ ((if_neg (by simp [hfree])).trans (if_pos hbad))

theorem exec_nsCreate_creates (hfree : s.ns? (s.fld F.STO_NS_CMD_NS 0) = none) (hgood : ¬ s.stagedBad) :
    exec .nsCreate s = .next ((s.setNs (s.fld F.STO_NS_CMD_NS 0) s.stagedNs).nsResult 0) := by
  rw [exec_nsCreate, execNsCreate, when_pos hcmd]
  exact congrArg _ ((if_neg (by simp [hfree])).trans (if_neg hgood))

end

/-! NS_DELETE, NS_ATTACH and NS_DETACH (R382, R383). -/

/-- A namespace gone, with its units in the cache. -/
def State.nsDropped (s : State) (i : Nat) : State :=
  { s with sto := { s.sto with
    namespaces := Tbl.del i s.sto.namespaces, cache := s.sto.cache.filter (fun c => c.ns != i) } }

theorem exec_nsDelete_found {s : State} {n : Ns} (hcmd : s.nsReady 1 = true) (hn : s.ns? (s.fld F.STO_NS_CMD_NS 0) = some n) :
    exec .nsDelete s = .next (
      if n.watchers.isEmpty then (s.nsDropped (s.fld F.STO_NS_CMD_NS 0)).nsResult 0 else s.nsResult 3) := by
  rw [exec_nsDelete, execNsDelete, when_pos hcmd]
  dsimp only
  rw [hn]
  rfl

theorem nsDropped_ns? (s : State) (i : Nat) : (s.nsDropped i).ns? i = none := Tbl.find?_del_same i _

theorem nsDropped_ns?_ne (s : State) {i j : Nat} (h : j ≠ i) : (s.nsDropped i).ns? j = s.ns? j := Tbl.find?_del_ne h _

theorem exec_nsAttach_new {s : State} {n : Ns} (hcmd : s.nsReady 2 = true) (hn : s.ns? (s.fld F.STO_NS_CMD_NS 0) = some n)
    (hnew : n.attachedNow (s.fld F.STO_NS_CMD_FUNC 0) = false) : exec .nsAttach s = .next (
      let f := s.fld F.STO_NS_CMD_FUNC 0
      ((s.setNs (s.fld F.STO_NS_CMD_NS 0) { n with attach := n.attach ++ [⟨f, s.rng.arbNo, none⟩] }).nvmeEvent f
        0x040002).nsResult 0) := by
  rw [exec_nsAttach, execNsAttach, when_pos hcmd]
  dsimp only
  rw [hn]
  exact congrArg _ (if_neg (by simp [hnew]))

/-- The namespace once the attachments of a function have ended. -/
def Ns.detached (n : Ns) (f now : Nat) : Ns := { n with attach := n.attach.map (Attach.close f now) }

theorem exec_nsDetach_attached {s : State} {n : Ns} (hcmd : s.nsReady 3 = true) (hn : s.ns? (s.fld F.STO_NS_CMD_NS 0) = some n)
    (hattached : n.attachedNow (s.fld F.STO_NS_CMD_FUNC 0) = true) : exec .nsDetach s = .next (
      let f := s.fld F.STO_NS_CMD_FUNC 0
      ((s.setNs (s.fld F.STO_NS_CMD_NS 0) (n.detached f s.rng.arbNo)).nvmeEvent f 0x040002).nsResult 0) := by
  rw [exec_nsDetach, execNsDetach, when_pos hcmd]
  dsimp only
  rw [hn]
  exact congrArg _ (if_pos hattached)

theorem close_attached (f now g : Nat) (a : Attach) :
    (decide ((Attach.close f now a).fn = g) && (Attach.close f now a).till.isNone) =
      (decide (g ≠ f) && (decide (a.fn = g) && a.till.isNone)) := by
  unfold Attach.close
  by_cases h : a.fn = f ∧ a.till = none
  · obtain ⟨hfn, htill⟩ := h
    rw [if_pos ⟨hfn, htill⟩, htill, ← hfn]
    by_cases hg : a.fn = g <;> simp [hg]
  · rw [if_neg h]
    by_cases hg : g = f
    · subst hg
      simpa [Option.isSome_iff_ne_none] using h
    · simp [hg]

theorem detached_attachedNow (n : Ns) (f now g : Nat) :
    (n.detached f now).attachedNow g = (decide (g ≠ f) && n.attachedNow g) := by
  unfold Ns.attachedNow Ns.detached
  dsimp only
  induction n.attach with
  | nil => simp
  | cons a l ih => rw [List.map_cons, List.any_cons, ih, close_attached, List.any_cons, Bool.and_or_distrib_left]

/-- A new attachment serves the entries fetched after it (R383). -/
theorem attachedTo_append {n : Ns} {f : Nat} (born since : Nat) (h : ∀ a ∈ n.attach, a.fn ≠ f) :
    ({ n with attach := n.attach ++ [⟨f, since, none⟩] } : Ns).attachedTo f born = decide (since < born) := by
  have hold : n.attachedTo f born = false := by
    rw [Ns.attachedTo, List.any_eq_false]
    intro a ha
    simp [h a ha]
  unfold Ns.attachedTo at hold ⊢
  rw [List.any_append, hold]
  simp

/-! Drives (R373, R396, R397). -/

/-- The drive of a port up, with the port's link. -/
def State.driveUp (s : State) (p serial lbas rate width : Nat) : State :=
  ((((({ s with sto := { s.sto with drives := Tbl.set p ⟨true, serial, lbas⟩ s.sto.drives } } : State).setFlag
    F.HEP_DP_STAT_UP p true).setFld F.HEP_DP_STAT_WIDTH p width).setFld F.HEP_DP_STAT_RATE p rate).setFlag
    F.HEP_DP_STAT_CHANGE p true)

theorem exec_driveReady_trained {s : State} {p rate width : Nat} (serial lbas : Nat) (hp : p < 4)
    (hpresent : s.flag F.HEP_DP_STAT_PRESENT p = true) (hpwr : s.flag F.HEP_DP_CTL_PWR p = true)
    (hen : s.flag F.HEP_DP_CTL_EN p = true) (hdown : (s.drive p).up = false) (hlo : 1 ≤ rate)
    (hhi : rate ≤ s.fld F.HEP_DP_CTL_MAX_RATE p) (hw : width ∈ [1, 2, 4]) :
    exec (.driveReady p serial lbas rate width) s = .next (
      if Tbl.has s.sto.drives p = true ∧ (s.drive p).serial = serial then
        (s.driveUp p serial lbas rate width).postEvent {} 0 0x6002 (BitVec.ofNat 64 p) 0
      else s.driveUp p serial lbas rate width) := by
  have hset : Tbl.put {} p ({ up := true, serial := serial, lbas := lbas } : Drive) s.sto.drives =
      Tbl.set p ⟨true, serial, lbas⟩ s.sto.drives := if_neg (fun h => Bool.noConfusion (congrArg Drive.up h))
  rw [exec_driveReady, execDriveReady,
    when_pos ⟨hp, hpresent, hpwr, hen, hdown, hlo, hhi, List.contains_iff_mem.mpr hw⟩, hset]
  rfl

theorem exec_driveRemoved_up {s : State} {p : Nat} (hp : p < 4) (hup : (s.drive p).up = true) :
    exec (.driveRemoved p) s = .next (((({ s with sto := { s.sto with
      drives := Tbl.put {} p { s.drive p with up := false } s.sto.drives } } : State).dpDown p).loseParts
        (Backing.on (.drive p)) false 1 p).postEvent {} 0 0x6001 (BitVec.ofNat 64 p) 0) := by
  rw [exec_driveRemoved, execDriveRemoved, when_pos ⟨hp, hup⟩]

/-! Remote paths (R396). -/

theorem exec_remotePathLost_lost {s : State} {qp : Nat} (hns : ∃ n ∈ s.sto.namespaces, n.2.backing = 2 ∧ n.2.qp = qp)
    (hqp : ∀ q, Tbl.find? qp s.rdm.qps = some q → q.state ≠ 3) : exec (.remotePathLost qp) s =
      .next ((({ s with sto := { s.sto with connected := s.sto.connected.filter (· != qp) } } : State).loseParts
        (Backing.on (.remote qp)) false 2 0).postEvent {} 0 0x6004 (BitVec.ofNat 64 qp) 0) := by
  have hany : s.sto.namespaces.any (fun n => decide (n.2.backing = 2 ∧ n.2.qp = qp)) = true := by
    obtain ⟨n, hmem, hn⟩ := hns
    exact List.any_eq_true.mpr ⟨n, hmem, decide_eq_true hn⟩
  have hstate : (Tbl.find? qp s.rdm.qps).map (fun q => q.state) ≠ some 3 := by
    intro h
    obtain ⟨q, hq, hst⟩ := Option.map_eq_some_iff.mp h
    exact hqp q hq hst
  rw [exec_remotePathLost, execRemotePathLost, when_pos ⟨hany, hstate⟩]

/-- A read or a feed has changed nothing at its backing. -/
theorem lostEnd_read {l : RangeLock} (h : l.kind = .read ∨ l.kind = .feed) (p : Backing) : l.lostEnd p = .pathLost := by
  rcases h with h | h <;> simp [RangeLock.lostEnd, RangeLock.excl, h]

theorem lostEnd_write {l : RangeLock} (h : l.kind = .write) (p : Backing) :
    l.lostEnd p = if p.sent then .unknown else .pathLost := by
  simp [RangeLock.lostEnd, RangeLock.excl, h]

/-! CACHE_CTL_WRITE (R386). -/

/-- The region of the cache, or whether it is requested, differs between two states. -/
def regionDiffers (old s : State) : Prop :=
  s.fld F.STO_CACHE_CTL_BASE_GIB 0 ≠ old.fld F.STO_CACHE_CTL_BASE_GIB 0 ∨
  s.fld F.STO_CACHE_CTL_SIZE_GIB 0 ≠ old.fld F.STO_CACHE_CTL_SIZE_GIB 0 ∨
  s.flag F.STO_CACHE_CTL_EN 0 ≠ old.flag F.STO_CACHE_CTL_EN 0

theorem cacheCtlChanged_kept {old s : State} (h : ¬ regionDiffers old s) : State.cacheCtlChanged old s = s := if_neg h

theorem cacheCtlChanged_emptied {old s : State} (h : regionDiffers old s) :
    State.cacheCtlChanged old s = { s with sto := { s.sto with cache := [] } } := if_pos h

theorem cacheCtlChanged_frame (old s : State) : State.cacheCtlChanged old s =
    { s with sto := { s.sto with cache := (State.cacheCtlChanged old s).sto.cache } } := by
  unfold State.cacheCtlChanged
  split <;> rfl

/-- The state with STO_CACHE_CTL written. -/
def State.cacheCtlWritten (s : State) (v : Nat) : State :=
  s.writeWhole [F.STO_CACHE_CTL_BASE_GIB, F.STO_CACHE_CTL_SIZE_GIB, F.STO_CACHE_CTL_ON, F.STO_CACHE_CTL_EN] v

theorem cacheCtl_leaves (s : State) (v : Nat) : let t := State.cacheCtlChanged s (s.cacheCtlWritten v)
    t.regs = writeFields [F.STO_CACHE_CTL_BASE_GIB, F.STO_CACHE_CTL_SIZE_GIB, F.STO_CACHE_CTL_ON, F.STO_CACHE_CTL_EN] 0 0 0 64 v
      s.regs ∧
    ((∀ f ∈ [F.STO_CACHE_CTL_BASE_GIB, F.STO_CACHE_CTL_SIZE_GIB], t.fld f 0 = s.fld f 0) →
      t.flag F.STO_CACHE_CTL_EN 0 = s.flag F.STO_CACHE_CTL_EN 0 → t.sto = s.sto) ∧
    ((∃ f ∈ [F.STO_CACHE_CTL_BASE_GIB, F.STO_CACHE_CTL_SIZE_GIB], t.fld f 0 ≠ s.fld f 0) ∨
      t.flag F.STO_CACHE_CTL_EN 0 ≠ s.flag F.STO_CACHE_CTL_EN 0 → t.sto.cache = []) ∧
    t = { s with regs := t.regs, sto := { s.sto with cache := t.sto.cache } } := by
  intro t
  have hframe : t = { s.cacheCtlWritten v with sto := { s.sto with cache := t.sto.cache } } := cacheCtlChanged_frame _ _
  have hregs : t.regs = (s.cacheCtlWritten v).regs := by rw [hframe]
  have hdiffers : regionDiffers s (s.cacheCtlWritten v) ↔ regionDiffers s t := by
    unfold regionDiffers
    simp only [fld_of_regs hregs, flag_of_regs hregs]
  refine ⟨hregs, fun hsame hen => ?_, fun h => ?_, by rw [hregs]; exact hframe⟩
  · have hbase := hsame F.STO_CACHE_CTL_BASE_GIB (by simp)
    have hsize := hsame F.STO_CACHE_CTL_SIZE_GIB (by simp)
    have hnot : ¬ regionDiffers s t := by simp [regionDiffers, hbase, hsize, hen]
    exact (congrArg State.sto (cacheCtlChanged_kept (mt hdiffers.mp hnot))).trans rfl
  · have hyes : regionDiffers s t := by
      rcases h with ⟨f, hf, hne⟩ | hen
      · rcases List.mem_pair.mp hf with rfl | rfl
        · exact .inl hne
        · exact .inr (.inl hne)
      · exact .inr (.inr hen)
    exact congrArg (fun u : State => u.sto.cache) (cacheCtlChanged_emptied (hdiffers.mpr hyes))

theorem exec_cacheCtlWrite_ready {s : State} {who : Requester} (v : Word) (hready : s.ddtReady = true) (hvf : isVf who = false) :
    exec (.cacheCtlWrite who v) s = .next (State.cacheCtlChanged (s.touch who) ((s.touch who).cacheCtlWritten v.toNat)) := by
  rw [exec_cacheCtlWrite, execCacheCtlWrite, when_pos ⟨hready, hvf⟩]
  rfl

/-- Settles O40: each clause is the lemma about that command; a created namespace has passed every check of the command, and the cache
is emptied exactly where its region differs after the write. -/
theorem namespacesAndDrives : Obligations.NamespacesAndDrives := by
  unfold Obligations.NamespacesAndDrives
  refine ⟨fun s r hr => ?result, ?create, ?delete, ?attach, ?detach, fun n f born since _ h => attachedTo_append born since h,
    ?ready, fun s p => exec_driveRemoved_up, fun s p => ⟨dpDown_held, dpDown_up s p, fun hup => (dpDown_fields hup).2⟩,
    fun s qp => exec_remotePathLost_lost, fun l p => ⟨fun h => lostEnd_read h p, fun h => lostEnd_write h p⟩, ?cache⟩
  case result =>
    obtain ⟨hgo, hresult, hbusy, hdone⟩ := nsResult_fields s (r := r) (by omega)
    exact ⟨hgo, hresult, hbusy, hdone, nsResult_frame s r⟩
  case create =>
    intro s hcmd i n others
    refine ⟨exec_nsCreate_taken hcmd, fun hfree => ⟨fun hbad => exec_nsCreate_bad hcmd hfree ?_,
      fun hextents hclash hstripe hlocal hkey hpi => exec_nsCreate_creates hcmd hfree ?_⟩⟩
    · rcases hbad with ⟨e, he, hbad⟩ | hclash | hstripe | hkey
      · exact .inl (List.any_eq_true.mpr ⟨e, he, extentBad_iff.mpr hbad⟩)
      · exact .inr (.inl hclash)
      · exact .inr (.inr (.inl hstripe))
      · exact .inr (.inr (.inr (.inr (.inl hkey))))
    · rintro (hany | hclash' | hstripe' | ⟨hremote, -⟩ | hkey' | ⟨hpi', hcrc⟩)
      · obtain ⟨e, he, hbad⟩ := List.any_eq_true.mp hany
        obtain ⟨hup, hroom⟩ := hextents e he
        rcases extentBad_iff.mp hbad with hdown | hpast
        · exact Bool.false_ne_true (hdown.symm.trans hup)
        · exact Nat.not_lt.mpr hroom hpast
      · exact Bool.false_ne_true (hclash.symm.trans hclash')
      · exact Bool.false_ne_true (hstripe.symm.trans hstripe')
      · exact hlocal hremote
      · exact Bool.false_ne_true (hkey'.symm.trans hkey)
      · exact hpi.elim hpi' (fun h => h hcrc)
  case delete =>
    intro s n hcmd i hn
    have hexec := exec_nsDelete_found hcmd hn
    refine ⟨fun hwatched => ?_, fun hfree => ?_⟩
    · rw [hexec, if_neg (by simpa using hwatched)]
    · rw [if_pos (by simp [hfree])] at hexec
      obtain ⟨-, hresult, -, hdone⟩ := nsResult_fields (s.nsDropped i) (r := 0) (by decide)
      exact ⟨_, hexec, nsDropped_ns? s i, fun j hj => nsDropped_ns?_ne s hj,
        fun c hc => bne_iff_ne.mp (List.mem_filter.mp hc).2, hresult, hdone⟩
  case attach =>
    rintro s n f hcmd i rfl hn hnew
    exact exec_nsAttach_new hcmd hn hnew
  case detach =>
    rintro s n f hcmd i rfl hn hattached
    exact ⟨n.detached _ s.rng.arbNo, by rw [detached_attachedNow]; simp,
      fun g hg => by rw [detached_attachedNow, decide_eq_true hg, Bool.true_and], exec_nsDetach_attached hcmd hn hattached⟩
  case ready =>
    intro s p serial lbas rate width hp hpresent hpwr hen hdown hlo hhi hw s1 s2
    have hexec := exec_driveReady_trained serial lbas hp hpresent hpwr hen hdown hlo hhi hw
    refine ⟨fun hknown => hexec.trans (congrArg _ (if_pos hknown)), fun hnew => hexec.trans (congrArg _ (if_neg ?_))⟩
    rintro ⟨hhas, hserial⟩
    exact hnew.elim (fun h => Bool.false_ne_true (h.symm.trans hhas)) (fun h => h hserial)
  case cache =>
    intro s0 who v hready hvf s
    exact ⟨_, exec_cacheCtlWrite_ready v hready hvf, cacheCtl_leaves s v.toNat⟩

end Sys2Proof.Machine
end

section
/-! NVMe reads, writes and deallocation under range locks, the end of backing commands, and FEED (R378, R384, R387, R388, R394 to
R399, R402 to R405). -/

namespace Sys2Proof.Machine

/-! Range locks (R387, R388). -/

/-- The entry that a command takes for one range. -/
def State.newLock (s : State) (n i lo cnt : Nat) (k : StoKind) : RangeLock :=
  { id := s.sto.nextId, slot := some n, kind := k, ns := i, lo := lo, n := cnt, ranges := [(lo, cnt)] }

/-- A command takes the lock of its range, and runs if it is granted at once. -/
def State.lockAndRun (s : State) (env : Env) (n : Nat) (x : Slot) (k : StoKind) (i lo cnt : Nat) : State :=
  match s.takeLock n k i lo cnt [(lo, cnt)] with
  | (s1, none) => s1
  | (s1, some l) => s1.runOp env n x l

/-- Command `c` at `s0` takes the lock `l` at `s`: it runs, waits for the locks that conflict, or waits for a free entry. -/
def LocksAndRuns (s0 s : State) (c : Instr) (n : Nat) (env : Env) (x : Slot) (l : RangeLock) : Prop :=
  (s.sto.locks.length < 1024 → (∀ m ∈ s.sto.locks, m.clashes l = false) → exec c s0 = .next (({ s with sto := { s.sto with
    nextId := s.sto.nextId + 1, locks := s.sto.locks ++ [{ l with granted := true }] } } : State).runOp env n x
      { l with granted := true })) ∧
  (s.sto.locks.length < 1024 → (∃ m ∈ s.sto.locks, m.clashes l = true) → exec c s0 = .next { s with sto := { s.sto with
    nextId := s.sto.nextId + 1, locks := s.sto.locks ++ [l] } }) ∧
  (1024 ≤ s.sto.locks.length → exec c s0 = .next (({ s with sto := { s.sto with
    nextId := s.sto.nextId + 1, lockWait := s.sto.lockWait ++ [l] } } : State).inc F.STO_LOCK_STAT_WAIT_CNT 0))

section
variable {s : State} {n i lo cnt : Nat} {k : StoKind}

theorem takeLock_granted (hroom : s.sto.locks.length < 1024)
    (hfree : ∀ m ∈ s.sto.locks, m.clashes (s.newLock n i lo cnt k) = false) :
    s.takeLock n k i lo cnt [(lo, cnt)] = ({ s with sto := { s.sto with
      nextId := s.sto.nextId + 1, locks := s.sto.locks ++ [{ s.newLock n i lo cnt k with granted := true }] } },
      some { s.newLock n i lo cnt k with granted := true }) := by
  have hnone : ¬ s.sto.locks.any (fun m => m.clashes (s.newLock n i lo cnt k)) = true := by
    simpa using hfree
  exact (if_pos hroom).trans (if_neg hnone)

theorem takeLock_conflict (hroom : s.sto.locks.length < 1024)
    (hclash : ∃ m ∈ s.sto.locks, m.clashes (s.newLock n i lo cnt k) = true) :
    s.takeLock n k i lo cnt [(lo, cnt)] = ({ s with sto := { s.sto with
      nextId := s.sto.nextId + 1, locks := s.sto.locks ++ [s.newLock n i lo cnt k] } }, none) :=
  (if_pos hroom).trans (if_pos (List.any_eq_true.mpr hclash))

theorem takeLock_full (hfull : 1024 ≤ s.sto.locks.length) :
    s.takeLock n k i lo cnt [(lo, cnt)] = (({ s with sto := { s.sto with
      nextId := s.sto.nextId + 1, lockWait := s.sto.lockWait ++ [s.newLock n i lo cnt k] } } : State).inc
        F.STO_LOCK_STAT_WAIT_CNT 0, none) := if_neg (Nat.not_lt.mpr hfull)

theorem locksAndRuns {s0 : State} {c : Instr} {env : Env} {x : Slot}
    (h : exec c s0 = .next (s.lockAndRun env n x k i lo cnt)) : LocksAndRuns s0 s c n env x (s.newLock n i lo cnt k) := by
  refine ⟨fun hroom hfree => ?_, fun hroom hclash => ?_, fun hfull => ?_⟩
  · rw [h, State.lockAndRun, takeLock_granted hroom hfree]
  · rw [h, State.lockAndRun, takeLock_conflict hroom hclash]
  · rw [h, State.lockAndRun, takeLock_full hfull]

/-- RANGE_LOCK_GRANT of a lock that waits, for a command that is dispatched (R322, R387). -/
theorem exec_rangeLockGrant_waiting {id : Nat} {x : Slot} {l : RangeLock} (env : Env) (hl : s.lock? id = some l)
    (hslot : l.slot = some n) (hx : s.slot? n = some x) (hphase : x.phase = .dispatched) (hwait : l.granted = false) :
    exec (.rangeLockGrant id env) s = .next (
      if s.grantable l = true ∧ s.feedHeld (some n) = false then
        (s.setLock { l with granted := true }).runOp env n x { l with granted := true }
      else s) := by
  rw [exec_rangeLockGrant, execRangeLockGrant, hl]
  dsimp only
  rw [hslot]
  dsimp only
  rw [hx]
  exact congrArg _ (if_congr (by simp [hwait, hphase]) rfl rfl)

end

/-! The commands that take a range lock, and NVME_FLUSH (R376, R378, R387). -/

section
variable {s : State} {n : Nat} {x : Slot}

theorem exec_nvmeFlush_attached (h : s.nvmeRuns n false 0x00 x) (hns : (s.nsFor x (x.dw 1)).isSome = true) :
    exec (.nvmeFlush n) s = .next (s.nvmeDone n 0 0) := by
  rw [exec_nvmeFlush, execNvmeFlush, h.1]
  dsimp only
  rw [nvmeGuard_runs h, if_pos (.inr hns)]
  rfl

/-- A Read, a Write or a Write Zeroes that holds no lock yet. -/
theorem exec_io_new {op : Nat} {k : StoKind} {mk : Nat → Env → Instr} (env : Env)
    (hio : (k = .write ∧ op = 1 ∧ mk = .nvmeWrite) ∨ (k = .read ∧ op = 2 ∧ mk = .nvmeRead) ∨
      (k = .zero ∧ op = 8 ∧ mk = .writeZeroes))
    (hnew : s.lockOf n = none) (h : s.nvmeRuns n false op x) :
    exec (mk n env) s = .next (s.ioStart env n x k x.slba x.nlb) := by
  have hnolock : ¬ (s.lockOf n).isSome = true := by simp [hnew]
  rcases hio with ⟨rfl, rfl, rfl⟩ | ⟨rfl, rfl, rfl⟩ | ⟨rfl, rfl, rfl⟩
  · rw [exec_nvmeWrite, execNvmeWrite, h.1]
    dsimp only
    rw [hnew]
    exact congrArg _ (nvmeGuard_runs h _)
  · rw [exec_nvmeRead, execNvmeRead, h.1]
    dsimp only
    rw [if_neg hnolock, nvmeGuard_runs h]
  · rw [exec_writeZeroes, execWriteZeroes, h.1]
    dsimp only
    rw [if_neg hnolock, nvmeGuard_runs h]

theorem ioStart_attached {i : Nat} {ns : Ns} (env : Env) (hns : s.nsFor x (x.dw 1) = some (i, ns)) (k : StoKind) (lo cnt : Nat) :
    s.ioStart env n x k lo cnt =
      if ns.size < lo + cnt then s.nvmeDone n 0x080 0 else s.lockAndRun env n x k i lo cnt := by
  rw [State.ioStart, hns]
  rfl

theorem exec_datasetManagement_idle {i : Nat} {ns : Ns} (env : Env) (h : s.nvmeRuns n false 9 x) (hnew : s.lockOf n = none)
    (hns : s.nsFor x (x.dw 1) = some (i, ns)) (hidle : bit (x.dw 11) 2 = false) :
    exec (.datasetManagement n env) s = .next (s.nvmeDone n 0 0) := by
  rw [exec_datasetManagement, execDatasetManagement, h.1]
  dsimp only
  rw [if_neg (by simp [hnew]), nvmeGuard_runs h, hns]
  exact congrArg _ (if_pos (by simp [hidle]))

/-- A Deallocate of one range. -/
theorem exec_datasetManagement_range {i : Nat} {ns : Ns} {env : Env} {rs : List (Nat × Nat)} {s1 : State} {bs : List Byte}
    {lo cnt : Nat} (h : s.nvmeRuns n false 9 x) (hnew : s.lockOf n = none) (hns : s.nsFor x (x.dw 1) = some (i, ns))
    (hdealloc : bit (x.dw 11) 2 = true) (hrs : s.bufRanges env x (16 * (field (x.dw 10) 7 0 + 1)) = .ok rs)
    (hread : s.bufRead env x.fn rs = (s1, .ok bs)) (hrange : dsmRanges (field (x.dw 10) 7 0 + 1) bs = [(lo, cnt)])
    (hfit : lo + cnt ≤ ns.size) :
    exec (.datasetManagement n env) s = .next (s1.lockAndRun env n x .dealloc i lo cnt) := by
  rw [exec_datasetManagement, execDatasetManagement, h.1]
  dsimp only
  rw [if_neg (by simp [hnew]), nvmeGuard_runs h, hns]
  dsimp only
  rw [if_neg (by simp [hdealloc]), hrs]
  dsimp only
  rw [hread]
  dsimp only
  rw [hrange]
  dsimp only [List.foldl_nil]
  rw [if_neg (by simpa using hfit), Nat.add_sub_cancel_left]
  rfl

end

/-! An operation whose lock is granted (R384, R385, R396 to R399). -/

section
variable {s : State} {l : RangeLock} {ns : Ns} (hns : s.ns? l.ns = some ns)
include hns

theorem runOp_writeProtected (env : Env) (n : Nat) (x : Slot) (hwr : ¬ (l.kind = .read ∨ l.kind = .feed))
    (hro : ns.readOnly = true) : s.runOp env n x l = s.opEnd n l.kind 0x020 0 0 := by
  have hexcl : l.excl = true := decide_eq_true (not_or.mp hwr)
  rw [State.runOp, hns]
  exact if_pos ⟨hexcl, hro⟩

theorem runOp_indeterminate (env : Env) (n : Nat) (x : Slot) (hrd : l.kind = .read ∨ l.kind = .feed)
    (hhit : s.irtHit l.ns l.lo l.n = true) : s.runOp env n x l = s.opEnd n l.kind 0x782 0x502 0 := by
  have hexcl : ¬ (l.excl = true ∧ ns.readOnly = true) := fun h => not_or.mpr (of_decide_eq_true h.1) hrd
  rw [State.runOp, hns]
  exact (if_neg hexcl).trans (if_pos ⟨decide_eq_true hrd, hhit⟩)

/-- A read of a namespace without protection information and without a cache goes to the backing. -/
theorem runOp_read (env : Env) (n : Nat) (x : Slot) (hkind : l.kind = .read) (hhit : s.irtHit l.ns l.lo l.n = false)
    (hpi : ns.pi = 0) (hcache : ns.cache = false) : s.runOp env n x l = (
      let ps := ns.backings .read [(l.lo, l.n)] s.sto.nextId s.tb.time
      if (ns.extsOf [(l.lo, l.n)]).all (s.pathUp ns) = false then s.opEnd n .read 0x781 0x501 0
      else if s.nsKeyOk ns = false then s.opEnd n .read 0x286 0x700 0
      else ({ s.connect ns with sto := { (s.connect ns).sto with
        nextId := s.sto.nextId + ps.length } } : State).setLock { l with parts := ps }) := by
  have hexcl : l.excl = false := by simp [RangeLock.excl, hkind]
  have hranges : (if decide (StoKind.read = .read ∨ StoKind.read = .feed) = true then
      s.readRanges ns l.lo l.n (decide (StoKind.read = .feed) && x.bypass) else l.ranges) = [(l.lo, l.n)] :=
    (if_pos (by decide)).trans (if_neg (by simp [hcache]))
  rw [State.runOp, hns]
  dsimp only
  rw [hexcl, hkind, hranges, if_neg (by simp), if_neg (by simp [hhit]), if_neg (by simp [hpi]), if_neg (by simp [hcache]),
    if_neg Bool.false_ne_true]
  exact if_congr (by simp) rfl (if_congr (by simp) rfl (if_neg (by simp)))

end

/-! Backing commands: what they carry, and the Fabrics Connect before them (R378, R381). -/

theorem connect_remote {s : State} {ns : Ns} (h : ns.backing = 2) : ns.qp ∈ (s.connect ns).sto.connected := by
  unfold State.connect
  split
  next => exact List.mem_cons_self
  next hsent => simpa [h] using hsent

theorem connect_local {s : State} {ns : Ns} (h : ns.backing ≠ 2) : s.connect ns = s := if_neg (fun hc => h hc.1)

theorem carry_write {ns : Ns} (h : ns.backing = 2) (bytes : Nat) :
    ns.carry .write bytes = if bytes ≤ 8192 then .capsule else .keyed := if_neg (fun hne => hne h)

theorem mem_backings {ns : Ns} {k : StoKind} {rs : List (Nat × Nat)} {id time : Nat} {b : Backing}
    (h : b ∈ ns.backings k rs id time) : b.time = time ∧ b.fua = decide (k = .write ∨ k = .zero) ∧
      b.sent = decide (k ≠ .write) ∧ b.carry = ns.carry k (b.lbas.length * ns.lbaBytes) := by
  obtain ⟨j, -, rfl⟩ := List.mem_mapIdx.mp h
  exact ⟨rfl, rfl, rfl, rfl⟩

/-! Stream taps and host buffers change neither the memories of the device nor its slots (R614). -/

section
variable (s : State)

@[simp] theorem snoop_mem (tap tag : Nat) (l : List Byte) : (s.snoop tap tag l).mem = s.mem :=
  foldl_kept (st := id) State.mem (fun t u => by dsimp only [id]; split <;> rfl) _ s

@[simp] theorem snoop_rng (tap tag : Nat) (l : List Byte) : (s.snoop tap tag l).rng = s.rng :=
  foldl_kept (st := id) State.rng (fun t u => by dsimp only [id]; split <;> rfl) _ s

@[simp] theorem snoop_sto (tap tag : Nat) (l : List Byte) : (s.snoop tap tag l).sto = s.sto :=
  foldl_kept (st := id) State.sto (fun t u => by dsimp only [id]; split <;> rfl) _ s

end

theorem bufWrite_rng (fn : Nat) (rs : List (Nat × Nat)) (bs : List Byte) (s : State) : (s.bufWrite fn rs bs).rng = s.rng := by
  induction rs generalizing s bs with
  | nil => rfl
  | cons r rs ih =>
    rw [State.bufWrite, ih, State.hostWrite, State.setHost_rng, State.tlp_rng, snoop_rng]

/-- Two states of one host memory write a buffer alike. -/
theorem bufWrite_host (fn : Nat) (rs : List (Nat × Nat)) (bs : List Byte) {s t : State} (h : t.mem.host = s.mem.host) :
    (t.bufWrite fn rs bs).mem.host = (s.bufWrite fn rs bs).mem.host := by
  induction rs generalizing s t bs with
  | nil => exact h
  | cons r rs ih =>
    have hwritten (u : State) (d : List Byte) :
        ((u.snoop 25 fn d).hostWrite r.1 d).mem.host = u.mem.host.writeList r.1 d := by
      rw [State.hostWrite, snoop_mem]
      rfl
    rw [State.bufWrite, State.bufWrite]
    exact ih _ (by rw [hwritten, hwritten, h])

theorem prpList_of_mem {s t : State} (h : t.mem = s.mem) (env : Env) : t.prpList env = s.prpList env := by
  have hword (a : Nat) : t.hostWord a = s.hostWord a := by rw [State.hostWord, State.hostRead, h]; rfl
  funext pg fuel a rem
  induction fuel generalizing a rem with
  | zero => rfl
  | succ fuel ih => simp only [State.prpList, hword, ih]

theorem bufRanges_of_mem {s t : State} (hmem : t.mem = s.mem) (hctrls : t.sto.ctrls = s.sto.ctrls) (env : Env) (x : Slot)
    (len : Nat) : t.bufRanges env x len = s.bufRanges env x len := by
  rw [State.bufRanges, State.ctrl, hctrls, prpList_of_mem hmem]
  rfl

/-! The data of a read (R384, R394). -/

theorem cryptLbas_plain {ns : Ns} (h : ns.enc = false) (s : State) (enc : Bool) (ds : List (Nat × List Byte)) :
    s.cryptLbas ns enc ds = (s, .ok (ds.map Prod.snd)) := by
  induction ds with
  | nil => rfl
  | cons d ds ih => simp [State.cryptLbas, h, ih]

/-- Blocks of equal length make up the bytes they are cut from. -/
theorem flatten_slices (d : List Byte) (k n : Nat) :
    ((List.range n).map (fun j => slice d (j * k) k)).flatten = d.take (n * k) := by
  induction n with
  | zero => simp
  | succ n ih => rw [List.range_succ, List.map_append, List.flatten_append, ih, Nat.succ_mul, List.take_add]; simp [slice]

/-- The data of an LBA of an operation of one backing command. -/
theorem lbaData_single {l : RangeLock} {q : Backing} (hparts : l.parts = [q])
    (hlbas : q.lbas = (List.range l.n).map (fun k => l.lo + k)) (k : Nat) (f : Backing → List Byte) {j : Nat} (hj : j < l.n) :
    l.lbaData k f (l.lo + j) = slice (f q) (j * k) k := by
  have hmem : q.lbas.contains (l.lo + j) = true := by
    rw [hlbas, List.contains_iff_mem]
    exact List.mem_map_of_mem (List.mem_range.mpr hj)
  have hidx : q.lbas.idxOf (l.lo + j) = j := by
    have hnodup : q.lbas.Nodup := hlbas ▸ List.nodup_range.map (fun a b h => Nat.add_left_cancel h)
    have hlen : j < q.lbas.length := by simpa [hlbas] using hj
    have hget : q.lbas[j] = l.lo + j := by simp [hlbas]
    rw [← hget]
    exact hnodup.idxOf_getElem j hlen
  have hfind : [q].find? (fun p => p.lbas.contains (l.lo + j)) = some q := List.find?_cons_of_pos hmem
  rw [RangeLock.lbaData, hparts, hfind]
  dsimp only
  rw [hidx]

/-! The end of a backing command of a read (R373, R378, R394). -/

/-- Data that passes the tap of a drive port. -/
def State.tapped (s : State) (q : StoPath) (tag : Nat) (data : List Byte) : State :=
  match q with
  | .drive d => s.snoop d tag data
  | .remote _ => s

/-- How a backing command of a read ends on the status of the backing. -/
def readEnd (st failAt : Nat) : BackEnd := if st = 0 then .ok else .error st failAt

/-- The operation once its backing command `id` has ended with data and without metadata. -/
def RangeLock.partEnded (l : RangeLock) (id : Nat) (e : BackEnd) (data : List Byte) : RangeLock :=
  l.setPart id (fun p => { p with ended := some e, data := data, mdata := [] })

/-- The state once a backing command of a read has ended, before its operation goes on. -/
def State.readEnded (s : State) (l : RangeLock) (p : Backing) (e : BackEnd) (data : List Byte) : State :=
  ((s.tapped p.path l.ns data).snoop 29 l.ns data).setLock (l.partEnded p.id e data)

theorem partEnded_parts {l : RangeLock} {p : Backing} (h : l.parts = [p]) (e : BackEnd) (data : List Byte) :
    (l.partEnded p.id e data).parts = [{ p with ended := some e, data := data, mdata := [] }] := by
  simp [RangeLock.partEnded, RangeLock.setPart, h]

section
variable (s : State) (l : RangeLock) (p : Backing) (e : BackEnd) (data : List Byte)

theorem tapped_only (q : StoPath) (tag : Nat) : (s.tapped q tag data).mem = s.mem ∧ (s.tapped q tag data).rng = s.rng ∧
    (s.tapped q tag data).sto = s.sto := by
  cases q with
  | drive d => exact ⟨snoop_mem s d tag data, snoop_rng s d tag data, snoop_sto s d tag data⟩
  | remote q => exact ⟨rfl, rfl, rfl⟩

theorem readEnded_mem : (s.readEnded l p e data).mem = s.mem := (snoop_mem _ _ _ _).trans (tapped_only s data p.path l.ns).1

theorem readEnded_rng : (s.readEnded l p e data).rng = s.rng := (snoop_rng _ _ _ _).trans (tapped_only s data p.path l.ns).2.1

theorem readEnded_sto : (s.readEnded l p e data).sto = { s.sto with locks := (s.readEnded l p e data).sto.locks } := by
  have hsto : ((s.tapped p.path l.ns data).snoop 29 l.ns data).sto = s.sto :=
    (snoop_sto _ _ _ _).trans (tapped_only s data p.path l.ns).2.2
  rw [State.readEnded, State.setLock, hsto]

theorem readEnded_ctrls : (s.readEnded l p e data).sto.ctrls = s.sto.ctrls := by rw [readEnded_sto]

theorem readEnded_ns? (i : Nat) : (s.readEnded l p e data).ns? i = s.ns? i := by rw [State.ns?, readEnded_sto]; rfl

theorem readEnded_slot? (n : Nat) : (s.readEnded l p e data).slot? n = s.slot? n := by rw [State.slot?, readEnded_rng]; rfl

end

theorem exec_backingCompletion_held {s : State} {l : RangeLock} {p : Backing} (hb : s.backing? p.id = some (l, p))
    (hpath : s.forwards p.path = false) (st a : Nat) (data mdata : List Byte) (env : Env) :
    exec (.backingCompletion p.id st a data mdata env) s = .next s := by
  rw [exec_backingCompletion, execBackingCompletion, hb]
  dsimp only
  split
  · rfl
  · rw [if_pos (.inr (.inl (by simp [hpath])))]

/-- BACKING_COMPLETION of a read that nothing holds back. -/
theorem exec_backingCompletion_read {s : State} {l : RangeLock} {p : Backing} {ns : Ns} {st : Nat} {data : List Byte} (env : Env)
    (a : Nat) (hb : s.backing? p.id = some (l, p)) (hns : s.ns? l.ns = some ns) (hkind : l.kind = .read)
    (hlive : p.aborted = none) (hpath : s.forwards p.path = true) (hheld : s.feedHeld l.slot = false)
    (hfit : st = 0 → data.length = p.lbas.length * ns.lbaBytes ∧ ns.piBytes = 0) :
    exec (.backingCompletion p.id st a data [] env) s = .next ((s.readEnded l p (readEnd st a) data).opFinish env
      (l.partEnded p.id (readEnd st a) data)) := by
  have hexcl : l.excl = false := by simp [RangeLock.excl, hkind]
  have hknown : readEnd st a ≠ .unknown := by unfold readEnd; split <;> exact BackEnd.noConfusion
  have hgo : ¬ ((!p.sent && false) = true ∨ (!s.forwards p.path) = true ∨ s.feedHeld l.slot = true ∨
      (st = 0 ∧ (!false) = true ∧
        (data.length ≠ p.lbas.length * ns.lbaBytes ∨ ([] : List Byte).length ≠ p.lbas.length * ns.piBytes))) := by
    rintro (h | h | h | ⟨h0, -, h⟩)
    · simp at h
    · simp [hpath] at h
    · simp [hheld] at h
    · obtain ⟨hdata, hpi⟩ := hfit h0
      simp [hdata, hpi] at h
  rw [exec_backingCompletion, execBackingCompletion, hb]
  dsimp only
  rw [hns]
  dsimp only
  rw [hexcl, if_neg hgo, hlive]
  exact congrArg (fun t => Host.Outcome.next (State.opFinish t env _)) (if_neg hknown)

/-! The operation goes on once its only backing command has ended (R384, R394, R395). -/

theorem worst_single {l : RangeLock} {q : Backing} {e : BackEnd} (hparts : l.parts = [q]) (hend : q.ended = some e) :
    l.worst = e := by
  cases e <;> simp [RangeLock.worst, hparts, hend]

section
variable {s : State} {l : RangeLock} {q : Backing} {ns : Ns} {n : Nat} (hparts : l.parts = [q]) (hslot : l.slot = some n)
  (hns : s.ns? l.ns = some ns) (hkind : l.kind = .read)
include hparts hslot hns hkind

theorem opFinish_failed {st a : Nat} (env : Env) (hend : q.ended = some (.error st a)) :
    s.opFinish env l = s.opEnd n .read st 0x500 0 := by
  rw [State.opFinish, if_neg (by simp [hparts, hend]), hslot, hns]
  dsimp only
  rw [worst_single hparts hend, hkind]
  dsimp only
  split <;> rfl

theorem opFinish_read (env : Env) (hend : q.ended = some .ok) (hcache : ns.cache = false) :
    s.opFinish env l = s.deliver env n l ns (l.lbaData ns.lbaBytes (fun p => p.data))
      (l.lbaData ns.piBytes (fun p => p.mdata)) := by
  have hfill : s.fillFrom l ns = s := if_neg (by simp [hcache])
  rw [State.opFinish, if_neg (by simp [hparts, hend]), hslot, hns]
  dsimp only
  rw [worst_single hparts hend]
  dsimp only
  rw [if_neg (by simp [RangeLock.excl, hkind]), hfill, ite_self]

end

theorem deliverRead_plain {s : State} {ns : Ns} {env : Env} {x : Slot} {ds : List (Nat × List Byte)} {rs : List (Nat × Nat)}
    (n i : Nat) (mdata : List (List Byte)) (hpi : ns.pi = 0) (henc : ns.enc = false)
    (hrs : s.bufRanges env x (ds.length * ns.lbaBytes) = .ok rs) : s.deliverRead env n x i ns ds mdata = (
      let bytes := (ds.map Prod.snd).flatten
      ((s.snoop 28 i bytes).bufWrite x.fn rs bytes).slotDone n 0 0) := by
  rw [State.deliverRead, cryptLbas_plain henc]
  dsimp only
  rw [if_pos hpi, List.length_map, hrs]
  dsimp only
  rw [if_pos (.inl hpi)]
  rfl

/-- A read of one backing command delivers that command's data. -/
theorem deliver_single {s : State} {l : RangeLock} {q : Backing} {ns : Ns} {env : Env} {x : Slot} {rs : List (Nat × Nat)}
    {n : Nat} (mdata : Nat → List Byte) (hx : s.slot? n = some x) (hkind : l.kind = .read) (hpi : ns.pi = 0)
    (henc : ns.enc = false) (hparts : l.parts = [q]) (hlbas : q.lbas = (List.range l.n).map (fun k => l.lo + k))
    (hlen : q.data.length = l.n * ns.lbaBytes) (hrs : s.bufRanges env x q.data.length = .ok rs) :
    s.deliver env n l ns (l.lbaData ns.lbaBytes (fun p => p.data)) mdata =
      ((s.snoop 28 l.ns q.data).bufWrite x.fn rs q.data).slotDone n 0 0 := by
  have hblocks : (List.range l.n).map (fun j => l.lbaData ns.lbaBytes (fun p => p.data) (l.lo + j)) =
      (List.range l.n).map (fun j => slice q.data (j * ns.lbaBytes) ns.lbaBytes) :=
    List.map_congr_left fun j hj => lbaData_single hparts hlbas _ _ (List.mem_range.mp hj)
  have hbytes : ((List.range l.n).map (fun j => l.lbaData ns.lbaBytes (fun p => p.data) (l.lo + j))).flatten = q.data := by
    rw [hblocks, flatten_slices, ← hlen, List.take_length]
  rw [State.deliver, hx]
  dsimp only
  rw [if_neg (by simp [hkind]), deliverRead_plain n l.ns _ hpi henc (rs := rs) (by simpa [← hlen] using hrs)]
  simp only [List.map_map, Function.comp_def, hbytes]

/-- An entry that completes with success, or outside a clause ring, leaves its slot done and nothing else changed. -/
theorem slotDone_only {s : State} {n st : Nat} {x : Slot} (hx : s.slot? n = some x)
    (hrun : st = 0 ∨ (s.ring x.ring).typ ≠ .clause) (res : Word) :
    s.slotDone n st res = s.setSlot n { x with phase := .done st res, progress := none, ranges := [] } := by
  rw [State.slotDone, hx]
  exact if_neg (fun h => hrun.elim h.1 (fun hne => hne h.2))

theorem opEnd_nvme {k : StoKind} {st : Nat} (hk : k ≠ .feed) (hlost : st ≠ 0x781) (hopen : st ≠ 0x780) (s : State)
    (n cl res : Nat) : s.opEnd n k st cl res = s.slotDone n st (BitVec.ofNat 64 res) := by
  have hcounted : ¬ (st = Nv.PATH_LOST ∨ st = Nv.OUTCOME_UNKNOWN) := not_or.mpr ⟨hlost, hopen⟩
  rw [State.opEnd, if_neg hk, if_neg hcounted]

section
variable {s : State} {l : RangeLock} {p : Backing} {ns : Ns} {n : Nat} {x : Slot} (hb : s.backing? p.id = some (l, p))
  (hns : s.ns? l.ns = some ns) (hparts : l.parts = [p]) (hkind : l.kind = .read) (hslot : l.slot = some n)
  (hx : s.slot? n = some x) (hlive : p.aborted = none) (hpath : s.forwards p.path = true) (hheld : s.feedHeld l.slot = false)
include hb hns hparts hkind hslot hx hlive hpath hheld

/-- The only backing command of a read ends with success: the data is in the host's buffers and the command has ended. -/
theorem backingCompletion_delivers {data : List Byte} {rs : List (Nat × Nat)} {env : Env} (hpi : ns.pi = 0)
    (henc : ns.enc = false) (hcache : ns.cache = false) (hlbas : p.lbas = (List.range l.n).map (fun k => l.lo + k))
    (hlen : data.length = l.n * ns.lbaBytes) (hrs : s.bufRanges env x data.length = .ok rs) :
    Leads (.backingCompletion p.id 0 0 data [] env) s (fun t => t.mem.host = (s.bufWrite x.fn rs data).mem.host ∧
      t.slot? n = some { x with phase := .done 0 0, progress := none, ranges := [] }) := by
  have hok : readEnd 0 0 = .ok := rfl
  have hexec := exec_backingCompletion_read (st := 0) (data := data) env 0 hb hns hkind hlive hpath hheld
    (fun _ => ⟨by rw [hlen, hlbas, List.length_map, List.length_range], by rw [Ns.piBytes, hpi]; rfl⟩)
  have hparts1 := partEnded_parts hparts .ok data
  have hrs1 : (s.readEnded l p .ok data).bufRanges env x data.length = .ok rs := by
    rw [bufRanges_of_mem (readEnded_mem s l p .ok data) (readEnded_ctrls s l p .ok data), hrs]
  rw [hok, opFinish_read hparts1 hslot ((readEnded_ns? s l p .ok data l.ns).trans hns) hkind env rfl hcache,
    deliver_single (l := l.partEnded p.id .ok data) _ ((readEnded_slot? s l p .ok data n).trans hx) hkind hpi henc hparts1
      hlbas hlen hrs1, slotDone_only (x := x) ?_ (.inl rfl)] at hexec
  · refine ⟨_, hexec, bufWrite_host x.fn rs data ?_, State.slot?_setSlot_same _ _ _⟩
    rw [snoop_mem, readEnded_mem]
  · rw [State.slot?, bufWrite_rng, snoop_rng]
    exact (readEnded_slot? s l p .ok data n).trans hx

/-- The only backing command of a read fails: the command ends with its status. -/
theorem backingCompletion_fails {st : Nat} (env : Env) (a : Nat) (htyp : (s.ring x.ring).typ = .nvmeSq) (hst : st ≠ 0)
    (hopen : st ≠ 0x780) (hlost : st ≠ 0x781) : Leads (.backingCompletion p.id st a [] [] env) s (fun t =>
      t.slot? n = some { x with phase := .done st 0, progress := none, ranges := [] }) := by
  have herr : readEnd st a = .error st a := if_neg hst
  have hexec := exec_backingCompletion_read (data := []) env a hb hns hkind hlive hpath hheld (fun h => absurd h hst)
  rw [herr, opFinish_failed (partEnded_parts hparts _ _) hslot ((readEnded_ns? s l p _ [] l.ns).trans hns) hkind env rfl,
    opEnd_nvme StoKind.noConfusion hlost hopen, slotDone_only ((readEnded_slot? s l p _ [] n).trans hx) (.inr ?_)] at hexec
  · exact ⟨_, hexec, State.slot?_setSlot_same _ _ _⟩
  · rw [State.ring, readEnded_rng]
    exact fun h => RingType.noConfusion (htyp.symm.trans h)

end

/-! Time-outs of backing commands (R394). -/

section
variable {s : State} {id : Nat} {l : RangeLock} {p : Backing} (hb : s.backing? id = some (l, p))
include hb

theorem exec_backingTimeout_found : exec (.backingTimeout id) s = .next (
    if p.aborted = none ∧ p.time + s.fld F.STO_DEV_CTL_BACKING_MS 0 * 1000000 ≤ s.tb.time then
      s.setLock (l.setPart id (fun q => { q with aborted := some s.tb.time }))
    else s) := by
  rw [exec_backingTimeout, execBackingTimeout, hb]
  exact congrArg _ (if_congr (by simp) rfl rfl)

theorem exec_backingAbortTimeout_early {t : Nat} (hab : p.aborted = some t) (h : s.tb.time < t + 1000000000) :
    exec (.backingAbortTimeout id) s = .next s := by
  rw [exec_backingAbortTimeout, execBackingAbortTimeout, hb]
  dsimp only
  rw [hab]
  exact congrArg _ (if_neg (Nat.not_le.mpr h))

theorem exec_backingAbortTimeout_drive {t d : Nat} (hab : p.aborted = some t) (h : t + 1000000000 ≤ s.tb.time)
    (hpath : p.path = .drive d) : exec (.backingAbortTimeout id) s = .next (s.loseParts (Backing.on p.path) true 3 d) := by
  rw [exec_backingAbortTimeout, execBackingAbortTimeout, hb]
  dsimp only
  rw [hab]
  dsimp only
  rw [if_pos h, hpath]

end

/-! FEED without a stage and without a destination for protection information (R403 to R405). -/

/-- What such a FEED does once its words and its engine's domain have passed. -/
def State.feedStart (s : State) (env : Env) (n : Nat) (x : Slot) (i : Nat) (ns : Ns) : State :=
  let dest := wordAt x.words 4
  let cnt := wordAt x.words 3
  if feedBad s x (some (i, ns)) then s.slotDone n 0x10 0
  else
    match s.checkClause x.fn true dest (cnt * ns.lbaBytes) with
    | .fail st => (s.refuse x.fn st).slotDone n st 0
    | .wait => s
    | .ok _ => (s.openRanges n x [(dest, cnt * ns.lbaBytes)]).lockAndRun env n x .feed i (wordAt x.words 2) cnt

/-- The words of such a FEED hold no reserved encoding (R73, R403). -/
def Slot.feedsDirect (x : Slot) : Prop :=
  field (wordAt x.words 1) 63 34 = 0 ∧ 0 < wordAt x.words 3 ∧ wordAt x.words 3 < 2 ^ 32 ∧ wordAt x.words 4 < 2 ^ 48 ∧
    wordAt x.words 5 = 0 ∧ wordAt x.words 6 = 0 ∧ zeroFrom x.words 7 = true

theorem exec_feed_direct {s : State} {n i : Nat} {x : Slot} {ns : Ns} (env : Env) (hat : s.clauseAt n 5 0 = some x)
    (hnew : s.lockOf n = none) (hform : x.feedsDirect) (hdom : s.domain 22 = .ready)
    (hns : s.nsFor x (field (wordAt x.words 1) 31 0) = some (i, ns)) :
    exec (.feed n env) s = .next (s.feedStart env n x i ns) := by
  obtain ⟨hflags, hpos, hcnt, hdest, hstage, hpi, hzero⟩ := hform
  have hgood : ¬ (field (wordAt x.words 1) 63 34 ≠ 0 ∨ field (wordAt x.words 3) 63 32 ≠ 0 ∨ wordAt x.words 3 = 0 ∨
      2 ^ 48 ≤ wordAt x.words 4 ∨ 2 ^ 48 ≤ wordAt x.words 5 ∨ 2 ^ 48 ≤ wordAt x.words 6 ∨ (!zeroFrom x.words 7) = true) := by
    rw [hflags, field_eq_zero hcnt, hstage, hpi, hzero]
    simp only [Nat.reducePow] at hdest ⊢
    simp
    omega
  rw [exec_feed, execFeed, hat]
  dsimp only
  rw [if_neg (by simp [hnew]), if_neg hgood, withDomain_ready hdom, hns]
  dsimp only
  rw [if_pos hstage, if_pos hpi, List.append_nil, List.append_nil, State.feedRanges, State.feedStart]
  refine congrArg _ (if_congr Iff.rfl rfl ?_)
  cases s.checkClause x.fn true (wordAt x.words 4) (wordAt x.words 3 * ns.lbaBytes) with
  | ok u => rfl
  | fail st => rfl
  | wait => rfl

/-- Settles O39: each clause is the lemma about that command; a read of one backing command is followed through the end of that
command to the delivery of its data. -/
theorem nvmeIoAndFeed : Obligations.NvmeIoAndFeed := by
  unfold Obligations.NvmeIoAndFeed
  intro lock starts
  refine ⟨fun s n x => exec_nvmeFlush_attached, ?io, ?deallocate, ?grant, ?run, ?backing, ?read,
    fun s env l p st a data hb hpath => exec_backingCompletion_held hb hpath st a data [] env, ?failed, ?timeouts, ?feed⟩
  case io =>
    intro s n env x i ns k op mk hnew hns hio hruns
    have hexec := exec_io_new env hio hnew hruns
    rw [ioStart_attached env hns] at hexec
    refine ⟨fun hpast => ?_, fun hfit => ?_⟩
    · rw [hexec, if_pos hpast]
    · rw [if_neg (Nat.not_lt.mpr hfit)] at hexec
      exact locksAndRuns hexec
  case deallocate =>
    intro s n env x i ns hnew hns hruns
    exact ⟨exec_datasetManagement_idle env hruns hnew hns, fun rs s1 bs lo cnt hdealloc hrs hread hrange hfit =>
      locksAndRuns (exec_datasetManagement_range hruns hnew hns hdealloc hrs hread hrange hfit)⟩
  case grant =>
    intro s id env n x l hl hslot hx hphase hwait
    have hexec := exec_rangeLockGrant_waiting env hl hslot hx hphase hwait
    refine ⟨fun hgrant hfree => hexec.trans (congrArg _ (if_pos ⟨hgrant, hfree⟩)),
      fun h => hexec.trans (congrArg _ (if_neg ?_))⟩
    rintro ⟨hgrant, hfree⟩
    rcases h with h | h
    · exact Bool.false_ne_true (h.symm.trans hgrant)
    · exact Bool.false_ne_true (hfree.symm.trans h)
  case run =>
    intro s env n x l ns hns rd
    refine ⟨runOp_writeProtected hns env n x, runOp_indeterminate hns env n x, fun hkind hhit hpi hcache => ?_⟩
    rw [runOp_read hns env n x hkind hhit hpi hcache]
    exact ⟨fun hdown => if_pos hdown, fun hup => ⟨fun hkey => by rw [hup, hkey]; rfl, fun hkey => by rw [hup, hkey]; rfl⟩⟩
  case backing =>
    intro s ns k rs id time
    refine ⟨connect_remote, connect_local, fun b hb => ?_⟩
    obtain ⟨htime, hfua, hsent, hcarry⟩ := mem_backings hb
    refine ⟨htime, fun hk => hfua.trans (decide_eq_true hk), by rw [hsent, decide_eq_true_iff], ?_⟩
    rintro hremote rfl
    rw [hcarry, carry_write hremote]
  case read =>
    intro s env n x l p ns data rs hb hns hparts hkind hslot hx hlive hpi henc hcache hlbas hlen hrs hpath hheld
    exact backingCompletion_delivers hb hns hparts hkind hslot hx hlive hpath hheld hpi henc hcache hlbas hlen hrs
  case failed =>
    intro s env n x l p ns st a hb hns hparts hkind hslot hx htyp hlive hst hopen hlost hpath hheld
    exact backingCompletion_fails hb hns hparts hkind hslot hx hlive hpath hheld env a htyp hst hopen hlost
  case timeouts =>
    intro s id l p hb due
    have hexec := exec_backingTimeout_found hb
    refine ⟨fun hab hdue => hexec.trans (congrArg _ (if_pos ⟨hab, hdue⟩)), fun h => hexec.trans (congrArg _ (if_neg ?_)),
      fun t hab => ⟨exec_backingAbortTimeout_early hb hab, fun d => exec_backingAbortTimeout_drive hb hab⟩⟩
    rintro ⟨hab, hdue⟩
    exact h.elim (fun hne => hne hab) (fun hnot => hnot hdue)
  case feed =>
    intro s n env x i ns w hat hnew hflags hpos hcnt hdest hstage hpi hzero hdom hns
    have hexec := exec_feed_direct env hat hnew ⟨hflags, hpos, hcnt, hdest, hstage, hpi, hzero⟩ hdom hns
    refine ⟨fun hbad => hexec.trans (congrArg _ (if_pos hbad)), fun st hgood hcheck => ?_, fun hgood hcheck hroom hfree => ?_⟩
    · rw [hexec, State.feedStart, if_neg (by simp [hgood]), hcheck]
    · rw [State.feedStart, if_neg (by simp [hgood]), hcheck] at hexec
      exact (locksAndRuns hexec).1 hroom hfree

end Sys2Proof.Machine
end

section
/-! The traffic scheduler: refills of the shapers, the choice of the port service, the start of a frame, gates and pauses (R411,
R413, R487 to R501). -/

namespace Sys2Proof.Machine

/-! Single bits of a status field. -/

theorem bit_mod_two_pow {i w : Nat} (h : i < w) (v : Nat) : bit (v % 2 ^ w) i = bit v i := by
  rw [bit_eq_testBit, bit_eq_testBit, Nat.testBit_mod_two_pow, decide_eq_true h, Bool.true_and]

/-- One bit replaced: the multiple of its weight changes by the difference of the bits, what lies below stays. -/
theorem bit_setField_same (v i : Nat) (b : Bool) : bit (setField v i i (ofBit b)) i = b := by
  have hone : i + 1 - i = 1 := by omega
  have hsplit := Nat.div_add_mod v (2 ^ i)
  have hlow : v % 2 ^ i < 2 ^ i := Nat.mod_lt v (Nat.two_pow_pos i)
  have hset : setField v i i (ofBit b) = 2 ^ i * (v / 2 ^ i - v / 2 ^ i % 2 + ofBit b) + v % 2 ^ i := by
    have hle : 2 ^ i * (v / 2 ^ i % 2) ≤ 2 ^ i * (v / 2 ^ i) := Nat.mul_le_mul_left _ (Nat.mod_le _ 2)
    rw [setField, field, hone, Nat.pow_one, Nat.mod_eq_of_lt (ofBit_lt_two b), Nat.shiftRight_eq_div_pow, Nat.shiftLeft_eq,
      Nat.shiftLeft_eq, Nat.mul_add, Nat.mul_sub, Nat.mul_comm _ (2 ^ i), Nat.mul_comm _ (2 ^ i)]
    omega
  rw [bit_eq_div_mod, hset, Nat.mul_add_div (Nat.two_pow_pos i), Nat.div_eq_of_lt hlow]
  have hbit := ofBit_lt_two b
  have hmod : (v / 2 ^ i - v / 2 ^ i % 2 + ofBit b + 0) % 2 = ofBit b := by omega
  rw [hmod]
  cases b <;> rfl

/-- The number whose bits below `n` are given. -/
def maskOf (n : Nat) (p : Nat → Bool) : Nat := sumOf ((List.range n).map (fun v => ofBit (p v) * 2 ^ v))

theorem maskOf_succ (n : Nat) (p : Nat → Bool) : maskOf (n + 1) p = maskOf n p + ofBit (p n) * 2 ^ n := by
  simp only [maskOf, sumOf, List.range_succ, List.map_append, List.foldl_append, List.map_cons, List.map_nil, List.foldl_cons,
    List.foldl_nil]

theorem maskOf_lt (n : Nat) (p : Nat → Bool) : maskOf n p < 2 ^ n := by
  induction n with
  | zero => exact Nat.one_pos
  | succ n ih =>
    rw [maskOf_succ, Nat.pow_succ]
    cases p n <;> simp only [ofBit, Bool.false_eq_true, if_true, if_false] <;> omega

theorem bit_maskOf {n v : Nat} (h : v < n) (p : Nat → Bool) : bit (maskOf n p) v = p v := by
  induction n with
  | zero => exact absurd h (Nat.not_lt_zero v)
  | succ n ih =>
    have hlt := maskOf_lt n p
    rw [maskOf_succ]
    rcases Nat.lt_succ_iff_lt_or_eq.mp h with hv | rfl
    · rw [← ih hv, ← bit_mod_two_pow hv, Nat.add_mul_mod_self_right, bit_mod_two_pow hv]
    · rw [bit_eq_div_mod, Nat.add_mul_div_right _ _ (Nat.two_pow_pos v), Nat.div_eq_of_lt hlt]
      cases p v <;> rfl

/-! Shapers (R492, R493). -/

theorem tokensOf_refill_same (t : Tbl Int) (k rate ns kib : Nat) : tokensOf (refill t k rate ns kib) k =
    min (tokensOf t k + ((rate * ns : Nat) : Int)) ((kib * 1024 * 8000 : Nat) : Int) := Tbl.getD_put_same _ _ _ _

theorem tokensOf_refill_ne {j k : Nat} (h : j ≠ k) (t : Tbl Int) (rate ns kib : Nat) :
    tokensOf (refill t k rate ns kib) j = tokensOf t j := Tbl.getD_put_ne h _ _ _ _

/-- The shapers of a list without repetitions are each refilled once. -/
theorem tokensOf_foldl_refill (rate kib : Nat → Nat) (ns : Nat) {l : List Nat} (hl : l.Nodup) (t : Tbl Int) (j : Nat) :
    tokensOf (l.foldl (fun t k => refill t k (rate k) ns (kib k)) t) j =
      if j ∈ l then min (tokensOf t j + ((rate j * ns : Nat) : Int)) ((kib j * 1024 * 8000 : Nat) : Int) else tokensOf t j := by
  induction l generalizing t with
  | nil => rfl
  | cons k l ih =>
    obtain ⟨hk, hrest⟩ := List.nodup_cons.mp hl
    rw [List.foldl_cons, ih hrest]
    by_cases hjk : j = k
    · subst hjk
      rw [if_neg hk, if_pos List.mem_cons_self, tokensOf_refill_same]
    · rw [tokensOf_refill_ne hjk]
      exact if_congr (by rw [List.mem_cons, or_iff_right hjk]) rfl rfl

/-- The tokens of the shapers below `n` after a refill, and the rates then in force, by their registers. -/
def State.tokensFilled (s : State) (n : Nat) (rate kib : Fld) (t : Tbl Int) : Tbl Int :=
  (List.range n).foldl (fun t k => refill t k (s.fld rate k) (s.fld F.SCH_CTL_REFILL_NS 0) (s.fld kib k)) t
def State.ratesTaken (s : State) (n : Nat) (rate : Fld) (t : Tbl Nat) : Tbl Nat :=
  (List.range n).foldl (fun t k => Tbl.put 0 k (s.fld rate k) t) t

theorem tokensOf_tokensFilled (s : State) {n j : Nat} (hj : j < n) (rate kib : Fld) (t : Tbl Int) :
    tokensOf (s.tokensFilled n rate kib t) j =
      min (tokensOf t j + ((s.fld rate j * s.fld F.SCH_CTL_REFILL_NS 0 : Nat) : Int))
        ((s.fld kib j * 1024 * 8000 : Nat) : Int) := by
  rw [State.tokensFilled, tokensOf_foldl_refill (s.fld rate) (s.fld kib) _ List.nodup_range, if_pos (List.mem_range.mpr hj)]

/-- The scheduler after a refill that left these tokens and rates. -/
def Sched.refilled (c : Sched) (ns : Nat) (sub cir pir : Tbl Int) (subRate cirRate pirRate : Tbl Nat) : Sched :=
  { c with lastRefill := c.lastRefill + ns, subTok := sub, cirTok := cir, pirTok := pir
           subRate := subRate, cirRate := cirRate, pirRate := pirRate }

section
variable (c : Sched) (ns : Nat) (sub cir pir : Tbl Int) (subRate cirRate pirRate : Tbl Nat)

theorem Sched.refilled_subTok : (c.refilled ns sub cir pir subRate cirRate pirRate).subTok = sub := rfl
theorem Sched.refilled_cirTok : (c.refilled ns sub cir pir subRate cirRate pirRate).cirTok = cir := rfl
theorem Sched.refilled_pirTok : (c.refilled ns sub cir pir subRate cirRate pirRate).pirTok = pir := rfl
theorem Sched.refilled_lastRefill :
    (c.refilled ns sub cir pir subRate cirRate pirRate).lastRefill = c.lastRefill + ns := rfl
theorem Sched.refilled_frames : (c.refilled ns sub cir pir subRate cirRate pirRate).frames = c.frames := rfl

end

/-- The scheduler after a refill of every shaper (R492, R493). -/
def State.schedRefilled (s : State) : Sched :=
  s.sch.refilled (s.fld F.SCH_CTL_REFILL_NS 0)
    (s.tokensFilled 4096 F.SCH_SUB_CFG_PIR_MBPS F.SCH_SUB_CFG_BURST_KIB s.sch.subTok)
    (s.tokensFilled 64 F.SCH_SVC_CFG_CIR_MBPS F.SCH_SVC_BURST_CBS_KIB s.sch.cirTok)
    (s.tokensFilled 64 F.SCH_SVC_CFG_PIR_MBPS F.SCH_SVC_BURST_PBS_KIB s.sch.pirTok)
    (s.ratesTaken 4096 F.SCH_SUB_CFG_PIR_MBPS s.sch.subRate) (s.ratesTaken 64 F.SCH_SVC_CFG_CIR_MBPS s.sch.cirRate)
    (s.ratesTaken 64 F.SCH_SVC_CFG_PIR_MBPS s.sch.pirRate)

/-- SHAPER_REFILL when it is due, with the scheduler's domain on. -/
theorem exec_shaperRefill_due {s : State} (htime : s.sch.lastRefill + s.fld F.SCH_CTL_REFILL_NS 0 ≤ s.tb.time)
    (hon : s.domOn 21 = true) : exec .shaperRefill s = .next { s with sch := s.schedRefilled } :=
  (exec_shaperRefill s).trans (when_pos ⟨htime, hon⟩ _ _)

/-! The choice of the port service (R494). -/

/-- Service `a` of a port is served no later than service `b`. -/
def State.svcPrecedes (s : State) (p a b : Nat) : Prop := s.svcBefore p b a = false

section
variable {s : State} {p : Nat}

/-- The order of R494 is lexicographic: committed first, then PRIO, then the longest wait. -/
theorem svcPrecedes_iff {a b : Nat} : s.svcPrecedes p a b ↔
    let committed (v : Nat) := ofBit (!s.sch.cirOk (svcKey p v))
    let prio (v : Nat) := s.fld F.SCH_SVC_CFG_PRIO (svcKey p v)
    let since (v : Nat) := Tbl.getD s.sch.since (svcKey p v) 0
    committed a < committed b ∨
      (committed a = committed b ∧ (prio a < prio b ∨ (prio a = prio b ∧ since a ≤ since b))) := by
  simp only [State.svcPrecedes, State.svcBefore, Bool.or_eq_false_iff, Bool.and_eq_false_imp, beq_iff_eq,
    decide_eq_false_iff_not]
  omega

theorem svcPrecedes_refl (a : Nat) : s.svcPrecedes p a a := svcPrecedes_iff.mpr (by omega)

theorem svcPrecedes_trans {a b c : Nat} (hab : s.svcPrecedes p a b) (hbc : s.svcPrecedes p b c) : s.svcPrecedes p a c := by
  rw [svcPrecedes_iff] at *
  omega

theorem svcPrecedes_total {a b : Nat} (h : ¬ s.svcPrecedes p a b) : s.svcPrecedes p b a := by
  rw [svcPrecedes_iff] at *
  omega

/-- The better of the best service so far and another one. -/
def State.betterSvc (s : State) (p : Nat) (best : Option Nat) (v : Nat) : Option Nat :=
  match best with
  | none => some v
  | some b => if s.svcBefore p v b then some v else some b

theorem chooseSvc_eq : s.chooseSvc p = ((List.range 8).filter (s.servable p)).foldl (s.betterSvc p) none := rfl

theorem betterSvc_some (s : State) (p b v : Nat) : ∃ i, s.betterSvc p (some b) v = some i ∧ (i = b ∨ i = v) ∧
    s.svcPrecedes p i b ∧ s.svcPrecedes p i v := by
  cases h : s.svcBefore p v b with
  | false => exact ⟨b, by simp [State.betterSvc, h], .inl rfl, svcPrecedes_refl b, h⟩
  | true =>
    have hvb : s.svcPrecedes p v b := svcPrecedes_total fun hbv => Bool.false_ne_true (hbv.symm.trans h)
    exact ⟨v, by simp [State.betterSvc, h], .inr rfl, hvb, svcPrecedes_refl v⟩

theorem foldl_betterSvc_some (s : State) (p : Nat) (l : List Nat) (b : Nat) :
    ∃ i, l.foldl (s.betterSvc p) (some b) = some i ∧ i ∈ b :: l ∧ ∀ w ∈ b :: l, s.svcPrecedes p i w := by
  induction l generalizing b with
  | nil => exact ⟨b, rfl, List.mem_cons_self, by simpa using svcPrecedes_refl b⟩
  | cons v l ih =>
    obtain ⟨m, hm, hin, hmb, hmv⟩ := betterSvc_some s p b v
    obtain ⟨i, hi, hmem, hfirst⟩ := ih m
    have him := hfirst m List.mem_cons_self
    refine ⟨i, by rw [List.foldl_cons, hm, hi], ?_, ?_⟩
    · rcases List.mem_cons.mp hmem with rfl | hmem
      · rcases hin with rfl | rfl <;> simp
      · simp [hmem]
    · rintro w (_ | ⟨_, _ | ⟨_, hw⟩⟩)
      · exact svcPrecedes_trans him hmb
      · exact svcPrecedes_trans him hmv
      · exact hfirst w (List.mem_cons_of_mem m hw)

/-- The service that is chosen is a servable one that precedes every servable one. -/
theorem chooseSvc_first {v : Nat} (h : s.chooseSvc p = some v) : (v < 8 ∧ s.servable p v = true) ∧
    ∀ w, w < 8 → s.servable p w = true → s.svcPrecedes p v w := by
  have hmem (w : Nat) : w ∈ (List.range 8).filter (s.servable p) ↔ w < 8 ∧ s.servable p w = true := by simp
  rw [chooseSvc_eq] at h
  generalize (List.range 8).filter (s.servable p) = l at h hmem
  cases l with
  | nil => cases h
  | cons b l =>
    obtain ⟨i, hi, hin, hfirst⟩ := foldl_betterSvc_some s p l b
    obtain rfl := Option.some.inj (h.symm.trans hi)
    exact ⟨(hmem v).mp hin, fun w hw hserv => hfirst w ((hmem w).mpr ⟨hw, hserv⟩)⟩

end

/-! The start of a frame (R487 to R491, R518). -/

theorem one_le_accounted (s : State) (f : TxFrame) : 1 ≤ s.accounted f :=
  Int.lt_toNat.mpr (lt_of_lt_of_le Int.one_pos (le_max_left 1 _))

@[simp] theorem snoop_sch (s : State) (tap tag : Nat) (l : List Byte) : (s.snoop tap tag l).sch = s.sch :=
  foldl_kept (st := id) State.sch (fun t u => by dsimp only [id]; split <;> rfl) _ s

/-- Adjusted time does not read what a CRC unit shows. -/
@[simp] theorem snoop_adjusted (s : State) (tap tag : Nat) (l : List Byte) : (s.snoop tap tag l).adjusted = s.adjusted := by
  refine foldl_kept (st := id) State.adjusted (fun t u => ?_) _ s
  have hkey : F.GLB_TOD_OFFSET_OFFSET.key 0 ≠ F.SNT_CRC_VALUE_VALUE.key u := by
    simp only [Fld.key, F.GLB_TOD_OFFSET_OFFSET, F.SNT_CRC_VALUE_VALUE]
    omega
  dsimp only [id]
  split
  · rw [State.adjusted, fld_setFld_ne hkey]; rfl
  · rfl

/-- A frame that is not protected leaves with its transmit timestamp. -/
theorem emitFrame_sch_plain {s : State} {f : TxFrame} (h : s.encrypts f = false) :
    (s.emitFrame f).sch = { s.sch with sent := ⟨f, s.adjusted, none⟩ :: s.sch.sent } := by
  rw [State.emitFrame, h]
  simp

/-- The frame `f` starts at `s`: accounted, sent, and its request completed. -/
def State.frameStarted (s : State) (f : TxFrame) : State :=
  match f.slot with
  | some n => ((s.accountFrame f).emitFrame f).slotDone n St.SUCCESS (BitVec.ofNat 64 (f.len - 4))
  | none => (s.accountFrame f).emitFrame f

section
variable {s s1 : State} {p : Nat} (env : Env)
variable (hsend : s.canSend p = true) (hfree : Tbl.getD s.sch.busyUntil p 0 ≤ s.tb.time) (hready : s.domain 21 ≠ .waking)
include hsend hfree hready

theorem exec_portTransmitStart_idle (h : (s.pumpAll env).nextFrame p = (s1, none)) :
    exec (.portTransmitStart p env) s = .next s1.settleWaits := by
  rw [exec_portTransmitStart, execPortTransmitStart, when_pos ⟨hsend, hfree, hready⟩, h]

theorem exec_portTransmitStart_frame {f : TxFrame} (h : (s.pumpAll env).nextFrame p = (s1, some f)) :
    exec (.portTransmitStart p env) s = .next (s1.frameStarted f).settleWaits := by
  rw [exec_portTransmitStart, execPortTransmitStart, when_pos ⟨hsend, hfree, hready⟩, h]
  rfl

end

/-- Whether a RAW frame has been at the head toward a port that cannot send for 100 ms (R489). -/
def State.frameOverdue (s : State) (f : TxFrame) : Bool :=
  match f.headSince with
  | some t => decide (t + 100000000 ≤ s.tb.time)
  | none => false

theorem exec_rawFrameTimeout_overdue {s : State} {q : Nat} {f : TxFrame} (h : s.sch.frames.find? s.frameOverdue = some f)
    (hsrc : f.src = .qp q) : exec .rawFrameTimeout s = .next (s.qpError q 6 f.slot St.QP_ERROR) := by
  have hexec : exec .rawFrameTimeout s = .next (match s.sch.frames.find? s.frameOverdue with
    | some f => match f.src with
      | .qp q => s.qpError q 6 f.slot St.QP_ERROR
      | _ => s
    | none => s) := rfl
  rw [hexec, h]
  simp only [hsrc]

/-! Gates (R497 to R500). -/

/-- The shadow list does not read APPLY. -/
theorem shadowList_setFlag_apply (s : State) (p : Nat) (b : Bool) :
    (s.setFlag F.SCH_GATE_CTL_APPLY p b).shadowList p = s.shadowList p := by
  have hentry (k : Nat) : (s.setFlag F.SCH_GATE_CTL_APPLY p b).fld (F.SCH_GATE_ENT_INTERVAL_NS.at k) p =
      s.fld (F.SCH_GATE_ENT_INTERVAL_NS.at k) p ∧ (s.setFlag F.SCH_GATE_CTL_APPLY p b).fld (F.SCH_GATE_ENT_MASK.at k) p =
      s.fld (F.SCH_GATE_ENT_MASK.at k) p := by
    constructor <;> refine fld_setFlag_place ?_ s p b <;>
      simp only [Fld.at, F.SCH_GATE_ENT_INTERVAL_NS, F.SCH_GATE_ENT_MASK, F.SCH_GATE_CTL_APPLY] <;> omega
  simp (disch := decide) only [State.shadowList, fld_setFlag_place, (hentry _).1, (hentry _).2]

/-- What the shadow list made active leaves (R500). -/
theorem applyGates_leaves (s : State) (p : Nat) :
    (s.applyGates p).gateList p = s.shadowList p ∧
    (s.applyGates p).flag F.SCH_GATE_STAT_PENDING p = false ∧ Tbl.find? p (s.applyGates p).sch.gateWait = none ∧
    FieldsKept s (s.applyGates p) [F.SCH_GATE_STAT_PENDING.key p] ∧
    s.applyGates p = { s with regs := (s.applyGates p).regs, sch := { s.sch with
      gates := (s.applyGates p).sch.gates, gateWait := (s.applyGates p).sch.gateWait } } :=
  ⟨Tbl.getD_put_same _ _ _ _, flag_setFlag_same rfl s p false, Tbl.find?_del_same _ _,
    ((FieldsKept.refl s _).setFlag List.mem_cons_self false).of_regs rfl, rfl⟩

/-- The state in which an accepted APPLY of adjusted time `a` waits for a cycle start (R500). -/
def State.gatesWait (s : State) (p a : Nat) : State :=
  { s.setFlag F.SCH_GATE_STAT_PENDING p true with sch := { s.sch with gateWait := Tbl.set p a s.sch.gateWait } }

/-- GATE_APPLY once accepted: without gating the list switches at once, else the switch waits for a cycle start (R500). -/
theorem exec_gateApply_accepted {s : State} {p : Nat} (hp : p < 8) (h : s.flag F.SCH_GATE_CTL_APPLY p = true) :
    exec (.gateApply p) s = .next (if s.flag F.SCH_GATE_CTL_EN p = false then
      (s.setFlag F.SCH_GATE_CTL_APPLY p false).applyGates p
    else (s.setFlag F.SCH_GATE_CTL_APPLY p false).gatesWait p s.adjusted) := by
  rw [exec_gateApply, execGateApply, when_pos ⟨hp, h⟩]
  cases s.flag F.SCH_GATE_CTL_EN p <;> rfl

/-- An accepted APPLY is cleared, and PENDING shows whether the list waits. -/
theorem apply_accepted_fields (s : State) (p : Nat) (b : Bool) : ((s.setFlag F.SCH_GATE_CTL_APPLY p false).setFlag
    F.SCH_GATE_STAT_PENDING p b).flag F.SCH_GATE_CTL_APPLY p = false ∧
    FieldsKept s ((s.setFlag F.SCH_GATE_CTL_APPLY p false).setFlag F.SCH_GATE_STAT_PENDING p b)
      [F.SCH_GATE_CTL_APPLY.key p, F.SCH_GATE_STAT_PENDING.key p] :=
  ⟨(flag_setFlag_place (by decide) _ p b).trans (flag_setFlag_same rfl s p false),
    ((FieldsKept.refl s _).setFlag List.mem_cons_self false).setFlag (List.mem_cons_of_mem _ List.mem_cons_self) b⟩

theorem exec_gateListSwitch_waiting {s : State} {p a : Nat} (h : Tbl.find? p s.sch.gateWait = some a) :
    exec (.gateListSwitch p) s = .next (if s.flag F.SCH_GATE_CTL_EN p = false ∨ (s.gateList p).cycleStart a ≤ s.adjusted then
      s.applyGates p else s) := by
  rw [exec_gateListSwitch, execGateListSwitch, h]
  simp only [Bool.not_eq_true']

theorem exec_gateEntryAdvance_port {s : State} {p : Nat} (hp : p < 8) : exec (.gateEntryAdvance p) s =
    .next ((s.setFld F.SCH_GATE_STAT_OPEN p (maskOf 8 (fun v => (s.gateAt p v s.adjusted).isSome))).setFld
      F.SCH_GATE_STAT_ENTRY p ((s.gateList p).entryAt s.adjusted)) := when_pos hp _ _

/-! Pauses (R413, R501). -/

/-- What a change of one PAUSED bit leaves. -/
theorem showPause_leaves (s : State) {prio : Nat} (h : prio < 8) (p : Nat) (on : Bool) :
    bit ((s.showPause p prio on).fld F.SCH_GATE_STAT_PAUSED p) prio = on ∧
    FieldsKept s (s.showPause p prio on) [F.SCH_GATE_STAT_PAUSED.key p] := by
  refine ⟨?_, (FieldsKept.refl s _).setFld List.mem_cons_self _⟩
  have hwidth : prio < F.SCH_GATE_STAT_PAUSED.width := h
  rw [State.showPause, fld_setFld_same, bit_mod_two_pow hwidth, bit_setField_same]

/-- The state with another table of pauses, one PAUSED bit brought in line. -/
def State.withPause (s : State) (p prio : Nat) (t : Tbl Nat) (on : Bool) : State :=
  ({ s with sch := { s.sch with pause := t } } : State).showPause p prio on

theorem withPause_leaves (s : State) {prio : Nat} (h : prio < 8) (p : Nat) (t : Tbl Nat) (on : Bool) :
    bit ((s.withPause p prio t on).fld F.SCH_GATE_STAT_PAUSED p) prio = on ∧ (s.withPause p prio t on).sch.pause = t ∧
    FieldsKept s (s.withPause p prio t on) [F.SCH_GATE_STAT_PAUSED.key p] ∧ s.withPause p prio t on =
      { s with regs := (s.withPause p prio t on).regs, sch := { s.sch with pause := (s.withPause p prio t on).sch.pause } } := by
  obtain ⟨hbit, hkept⟩ := showPause_leaves { s with sch := { s.sch with pause := t } } h p on
  exact ⟨hbit, rfl, hkept, rfl⟩

/-- A PFC frame of no quanta ends the pause of its priority, any other begins one (R411, R413). -/
theorem exec_pfcFrameReceive_obeyed {s : State} {p prio : Nat} (hprio : prio < 8) (hsend : s.canSend p = true)
    (hen : bit (s.fld F.NET_PORT_CTL_PFC_EN p) prio = true) (q : Nat) : exec (.pfcFrameReceive p prio q) s =
    .next (if q = 0 then s.withPause p prio (Tbl.del (svcKey p prio) s.sch.pause) false
      else s.withPause p prio
        (Tbl.set (svcKey p prio) (s.tb.time + ceilDiv (q * 512) (s.portRate p)) s.sch.pause) true) :=
  when_pos ⟨hprio, hsend, hen⟩ _ _

theorem exec_pauseExpiry_paused {s : State} {p prio a : Nat} (h : Tbl.find? (svcKey p prio) s.sch.pause = some a) :
    exec (.pauseExpiry p prio) s = .next (if a ≤ s.tb.time then
      s.withPause p prio (Tbl.del (svcKey p prio) s.sch.pause) false else s) := by
  rw [exec_pauseExpiry, execPauseExpiry, h]
  rfl

/-- Settles O42: each clause is the lemma about that command or operation; the choice of R494 is the first of a total preorder. -/
theorem trafficScheduler : Obligations.TrafficScheduler := by
  unfold Obligations.TrafficScheduler
  refine ⟨?refill, fun s p v h => ?choose, one_le_accounted, ?start, fun s f => emitFrame_sch_plain,
    fun s q f hfind hsrc => exec_rawFrameTimeout_overdue hfind hsrc, ?apply, ?switch, ?advance, ?pfc, ?expiry⟩
  case refill =>
    intro s htime hon
    refine ⟨_, exec_shaperRefill_due htime hon, fun u hu => ?_, fun k hk => ?_, fun k hk => ?_, ?_, ?_, rfl⟩
    · rw [State.schedRefilled, Sched.refilled_subTok, tokensOf_tokensFilled s hu]
    · rw [State.schedRefilled, Sched.refilled_cirTok, tokensOf_tokensFilled s hk]
    · rw [State.schedRefilled, Sched.refilled_pirTok, tokensOf_tokensFilled s hk]
    · exact Sched.refilled_lastRefill _ _ _ _ _ _ _ _
    · exact Sched.refilled_frames _ _ _ _ _ _ _ _
  case choose =>
    obtain ⟨⟨hv, hserv⟩, hfirst⟩ := chooseSvc_first h
    exact ⟨hv, hserv, hfirst⟩
  case start =>
    intro s p env hsend hfree hready
    refine ⟨fun s1 h => exec_portTransmitStart_idle env hsend hfree hready h, fun s1 f h hslot => ?_, fun s1 f n h hslot => ?_⟩
    · rw [exec_portTransmitStart_frame env hsend hfree hready h, State.frameStarted, hslot]
    · rw [exec_portTransmitStart_frame env hsend hfree hready h, State.frameStarted, hslot]
      rfl
  case apply =>
    intro s p hp happly
    refine ⟨_, exec_gateApply_accepted hp happly, ?_⟩
    cases hen : s.flag F.SCH_GATE_CTL_EN p with
    | false =>
      obtain ⟨hclear, hkept⟩ := apply_accepted_fields s p false
      obtain ⟨hlist, hpending, -, -, -⟩ := applyGates_leaves (s.setFlag F.SCH_GATE_CTL_APPLY p false) p
      rw [shadowList_setFlag_apply] at hlist
      rw [if_pos rfl]
      exact ⟨hclear, fun _ => ⟨hlist, hpending⟩, by simp, hkept.of_regs rfl, rfl⟩
    | true =>
      obtain ⟨hclear, hkept⟩ := apply_accepted_fields s p true
      rw [if_neg (by simp)]
      exact ⟨hclear, by simp, fun _ => ⟨rfl, flag_setFlag_same rfl _ p true, Tbl.find?_set_same _ _ _⟩,
        hkept.of_regs rfl, rfl⟩
  case switch =>
    intro s p a ha
    have hexec := exec_gateListSwitch_waiting ha
    refine ⟨fun hnow => ?_, fun hen hlate => ?_⟩
    · rw [if_pos hnow] at hexec
      exact ⟨_, hexec, applyGates_leaves s p⟩
    · rwa [if_neg (by simp [hen, hlate])] at hexec
  case advance =>
    intro s p hp
    refine ⟨_, exec_gateEntryAdvance_port hp, fun v hv => ?_, fld_setFld_same _ _ _ _,
      ((FieldsKept.refl s _).setFld List.mem_cons_self _).setFld (List.mem_cons_of_mem _ List.mem_cons_self) _, rfl⟩
    have hwidth : v < F.SCH_GATE_STAT_OPEN.width := hv
    rw [fld_setFld_place (by decide), fld_setFld_same, bit_mod_two_pow hwidth, bit_maskOf hv]
  case pfc =>
    intro s p prio q hprio hsend hen
    refine ⟨_, exec_pfcFrameReceive_obeyed hprio hsend hen q, ?_⟩
    by_cases hq : q = 0
    · obtain ⟨hbit, hpause, hkept, hframe⟩ := withPause_leaves s hprio p (Tbl.del (svcKey p prio) s.sch.pause) false
      rw [if_pos hq, hbit, hpause, if_pos hq]
      exact ⟨by simp [hq], Tbl.find?_del_same _ _, hkept, hframe⟩
    · obtain ⟨hbit, hpause, hkept, hframe⟩ := withPause_leaves s hprio p
        (Tbl.set (svcKey p prio) (s.tb.time + ceilDiv (q * 512) (s.portRate p)) s.sch.pause) true
      rw [if_neg hq, hbit, hpause, if_neg hq]
      exact ⟨by simp [hq], Tbl.find?_set_same _ _ _, hkept, hframe⟩
  case expiry =>
    intro s p prio a hprio ha
    have hexec := exec_pauseExpiry_paused ha
    refine ⟨fun hover => ?_, fun hearly => ?_⟩
    · rw [if_pos hover] at hexec
      obtain ⟨hbit, hpause, hkept, hframe⟩ := withPause_leaves s hprio p (Tbl.del (svcKey p prio) s.sch.pause) false
      exact ⟨_, hexec, hbit, by rw [hpause]; exact Tbl.find?_del_same _ _, hkept, hframe⟩
    · rwa [if_neg (Nat.not_le.mpr hearly)] at hexec

end Sys2Proof.Machine
end

section
/-! The step: the command at the front of the queue runs, and every command answers (log entry 2). -/

namespace Sys2Proof.Machine

open Sys2Proof

/-- Settles O1: `step` is `exec` of the front command by its definition, and no word of the K7 spells a command (log
entry 3), so a fetched word leaves the state as it is. -/
theorem stepRunsTheFrontCommand : Obligations.StepRunsTheFrontCommand := by
  refine ⟨fun _ _ _ => rfl, fun s hempty => ?_, fun _ _ _ => rfl⟩
  unfold step
  rw [hempty]

/-- Each arm of `exec` answers a next state: the conditions of a command choose between next states. -/
theorem exec_answers (c : Instr) (s : State) : Answers (exec c s) := by
  cases c <;> exact ⟨_, rfl⟩

/-- A step answers: it idles, or it is the answer of the front command. -/
theorem step_answers (s : State) : Answers (step s) := by
  unfold step
  cases s.pending with
  | nil => exact ⟨s, rfl⟩
  | cons c rest => exact exec_answers c { s with pending := rest }

/-- Settles O2: every arm of `exec` answers, and so does a step, which runs one of them or idles. -/
theorem everyCommandAnswers : Obligations.EveryCommandAnswers :=
  ⟨exec_answers, step_answers⟩

end Sys2Proof.Machine
end

section
/-! Fuses and CRC units (R577 to R583, R613 to R616): one bit replaced in a number, what the fuse registers show, the units that
fold the bytes of a tap. -/

namespace Sys2Proof.Machine

open Sys2Proof

/-! One bit of a number replaced. -/

/-- The part above the bit and the part below it stay. -/
theorem setField_bit (v i : Nat) (b : Bool) :
    setField v i i (ofBit b) = 2 ^ i * (2 * (v / 2 ^ i / 2) + ofBit b) + v % 2 ^ i := by
  have hone : i + 1 - i = 1 := by omega
  have hsplit := Nat.div_add_mod v (2 ^ i)
  have hhalf := Nat.div_add_mod (v / 2 ^ i) 2
  have hle : 2 ^ i * (v / 2 ^ i % 2) ≤ 2 ^ i * (v / 2 ^ i) := Nat.mul_le_mul_left _ (Nat.mod_le _ 2)
  rw [setField, field, hone, Nat.pow_one, Nat.mod_eq_of_lt (ofBit_lt_two b), Nat.shiftRight_eq_div_pow, Nat.shiftLeft_eq,
    Nat.shiftLeft_eq, Nat.mul_comm _ (2 ^ i), Nat.mul_comm (ofBit b), Nat.mul_add]
  have hmul : 2 ^ i * (v / 2 ^ i) = 2 ^ i * (2 * (v / 2 ^ i / 2)) + 2 ^ i * (v / 2 ^ i % 2) := by
    rw [← Nat.mul_add, hhalf]
  omega

theorem bit_setField_ne {i j : Nat} (h : j ≠ i) (v : Nat) (b : Bool) : bit (setField v i i (ofBit b)) j = bit v j := by
  have hlow : v % 2 ^ i < 2 ^ i := Nat.mod_lt v (Nat.two_pow_pos i)
  have hv : v.testBit j = (2 ^ i * (v / 2 ^ i) + v % 2 ^ i).testBit j := by rw [Nat.div_add_mod]
  rw [bit_eq_testBit, bit_eq_testBit, setField_bit, hv, Nat.testBit_two_pow_mul_add _ hlow, Nat.testBit_two_pow_mul_add _ hlow]
  by_cases hj : j < i
  · rw [if_pos hj, if_pos hj]
  · obtain ⟨k, hk⟩ : ∃ k, j - i = k + 1 := ⟨j - i - 1, by omega⟩
    have hdiv : (2 * (v / 2 ^ i / 2) + ofBit b) / 2 = v / 2 ^ i / 2 := by have := ofBit_lt_two b; omega
    rw [if_neg hj, if_neg hj, hk, Nat.testBit_succ, Nat.testBit_succ, hdiv]

/-- Fields at different places share no key, whichever copies of them are named. -/
theorem key_ne_of_place_lt {f g : Fld} {i j : Nat} (h : g.off * 64 + g.lo ≠ f.off * 64 + f.lo) (hi : i < 65536) (hj : j < 65536) :
    g.key j ≠ f.key i := by
  unfold Fld.key
  omega

/-! The registers that show a fuse word (R580). -/

theorem showFuse_data (s : State) {w : Nat} (hw : w < 64) (r : FuseResult) (held cross : Bool) (tj last : Nat) :
    (s.showFuse w r held cross tj last).fld F.FUM_FUSE_DATA_VALUE w =
      (if held ∨ fuseSecret w then 0 else r.value.getD 0) % 2 ^ 64 := by
  have hheld : Fld.key F.FUM_FUSE_DATA_VALUE w ≠ Fld.key F.FUM_FUSE_HELD_HELD 0 :=
    key_ne_of_place_lt (by decide) (by omega) (by omega)
  rw [State.showFuse, fld_setFld_ne hheld, fld_setFld_place (by decide), fld_setFld_place (by decide),
    fld_setFlag_place (by decide), fld_setFlag_place (by decide), fld_setFlag_place (by decide), fld_setFlag_place (by decide),
    fld_setFlag_place (by decide), fld_setFlag_place (by decide), fld_setFlag_place (by decide), fld_setFlag_place (by decide),
    fld_setFld_same]
  rfl

theorem showFuse_held (s : State) {w : Nat} (hw : w < 64) (r : FuseResult) (held cross : Bool) (tj last : Nat) :
    (s.showFuse w r held cross tj last).fld F.FUM_FUSE_HELD_HELD 0 =
      setField (s.fld F.FUM_FUSE_HELD_HELD 0) w w (ofBit held) % 2 ^ 64 := by
  have hw' : w < 65536 := by omega
  rw [State.showFuse, fld_setFld_same]
  simp only [State.setFlag]
  iterate 10 rw [fld_setFld_ne (key_ne_of_place_lt (by decide) hw' (by omega))]
  rw [fld_setFld_ne (key_ne_of_place_lt (by decide) hw' (by omega))]
  rfl

/-! A word sensed (R578 to R581). -/

theorem ite_sinterEvent_fum (p : Prop) [Decidable p] (c m : Nat) (s : State) :
    (if p then sinterEvent c m s else s).fum = s.fum := by
  split
  · exact sinterEvent_fum c m s
  · rfl

theorem ite_sinterEvent_fld (p : Prop) [Decidable p] (c m : Nat) (s : State) (f : Fld) (i : Nat) :
    (if p then sinterEvent c m s else s).fld f i = s.fld f i := by
  split
  · exact sinterEvent_fld c m s f i
  · rfl

/-- Whether sensing word `v` leaves it held: it was held, or no copy gives a value (R579, R581). -/
def State.sensedHeld (s : State) (noise : List FuseSense) (v : Nat) : Bool :=
  (fuseResolve (s.senseOf noise 0 v) (s.senseOf noise 1 v)).value.isNone || s.fuseHeld v

theorem senseWord_heldBits (s : State) (noise : List FuseSense) (tj : Nat) {v : Nat} (hv : v < 64) :
    (s.senseWord noise tj v).fld F.FUM_FUSE_HELD_HELD 0 =
      setField (s.fld F.FUM_FUSE_HELD_HELD 0) v v (ofBit (s.sensedHeld noise v)) % 2 ^ 64 := by
  unfold State.senseWord
  rw [ite_sinterEvent_fld, ite_sinterEvent_fld, ite_sinterEvent_fld, showFuse_held _ hv]
  rfl

theorem senseWord_fuseHeld (s : State) (noise : List FuseSense) (tj : Nat) {v w : Nat} (hv : v < 64) (hw : w < 64) :
    (s.senseWord noise tj v).fuseHeld w = if w = v then s.sensedHeld noise v else s.fuseHeld w := by
  rw [State.fuseHeld, senseWord_heldBits s noise tj hv, bit_mod_two_pow hw]
  split
  next h => rw [h, bit_setField_same]
  next h => rw [bit_setField_ne h, State.fuseHeld]

theorem senseWord_values (s : State) (noise : List FuseSense) (tj v : Nat) :
    ∃ r, (s.senseWord noise tj v).fum.fuses.value =
      if s.sensedHeld noise v then Tbl.del v s.fum.fuses.value else Tbl.set v r s.fum.fuses.value := by
  unfold State.senseWord
  rw [ite_sinterEvent_fum, ite_sinterEvent_fum, ite_sinterEvent_fum]
  exact ⟨_, rfl⟩

theorem senseWord_fuseValue_held (s : State) (noise : List FuseSense) (tj : Nat) {v : Nat} (hheld : s.sensedHeld noise v = true) :
    (s.senseWord noise tj v).fuseValue v = 0 := by
  obtain ⟨r, hr⟩ := senseWord_values s noise tj v
  rw [State.fuseValue, hr, if_pos hheld, Tbl.getD, Tbl.find?_del_same]
  rfl

theorem sumOf_ofBits_le (f : Nat → Bool) (n : Nat) : sumOf ((List.range n).map (fun i => ofBit (f i))) ≤ n := by
  induction n with
  | zero => exact Nat.le_refl 0
  | succ n ih =>
    have hbit := ofBit_lt_two (f n)
    simp only [sumOf, List.range_succ, List.map_append, List.foldl_append, List.map_cons, List.map_nil, List.foldl_cons,
      List.foldl_nil] at ih ⊢
    omega

/-! The CRC units (R613 to R616). -/

/-- What a tap does to one unit: a unit that takes its bytes folds them. -/
def State.foldUnit (s : State) (tap tag : Nat) (l : List Byte) (t : State) (u : Nat) : State :=
  if s.crcTaps tap tag u then
    t.setFld F.SNT_CRC_VALUE_VALUE u (crcFold (s.crcModel u) (s.fld F.SNT_CRC_VALUE_VALUE u) l)
  else t

theorem snoop_eq_foldl (s : State) (tap tag : Nat) (l : List Byte) :
    s.snoop tap tag l = (List.range 16).foldl (s.foldUnit tap tag l) s := rfl

theorem foldUnit_value_ne {u w : Nat} (h : u ≠ w) (s t : State) (tap tag : Nat) (l : List Byte) :
    (s.foldUnit tap tag l t w).fld F.SNT_CRC_VALUE_VALUE u = t.fld F.SNT_CRC_VALUE_VALUE u := by
  unfold State.foldUnit
  split
  · exact fld_setFld_ne (by unfold Fld.key; omega) t _
  · rfl

/-- Each unit below `n` has been met once, the others not yet. -/
theorem foldl_foldUnit_value (s : State) (tap tag : Nat) (l : List Byte) (n u : Nat) :
    ((List.range n).foldl (s.foldUnit tap tag l) s).fld F.SNT_CRC_VALUE_VALUE u =
      if u < n ∧ s.crcTaps tap tag u = true then crcFold (s.crcModel u) (s.fld F.SNT_CRC_VALUE_VALUE u) l % 2 ^ 64
      else s.fld F.SNT_CRC_VALUE_VALUE u := by
  induction n with
  | zero => simp
  | succ n ih =>
    rw [List.range_succ, List.foldl_append, List.foldl_cons, List.foldl_nil]
    by_cases h : u = n
    · subst h
      rw [if_neg (fun h => Nat.lt_irrefl u h.1)] at ih
      cases htaps : s.crcTaps tap tag u with
      | true => rw [State.foldUnit, if_pos htaps, fld_setFld_same, if_pos ⟨Nat.lt_succ_self u, rfl⟩]; rfl
      | false => rw [State.foldUnit, htaps, if_neg Bool.false_ne_true, if_neg (by simp)]; exact ih
    · have hlt : u < n + 1 ↔ u < n := by omega
      rw [foldUnit_value_ne h, ih]
      simp only [hlt]

theorem crcBit_lt {w poly v : Nat} (b : Nat) (hpoly : poly < 2 ^ w) : crcBit w poly v b < 2 ^ w := by
  have hshift : 2 * v % 2 ^ w < 2 ^ w := Nat.mod_lt _ (Nat.two_pow_pos w)
  simp only [crcBit]
  split
  · exact Nat.xor_lt_two_pow hshift hpoly
  · exact hshift

theorem crcByte_lt {m : CrcModel} {v : Nat} (b : Byte) (hpoly : m.poly < 2 ^ m.width) (hv : v < 2 ^ m.width) :
    crcByte m v b < 2 ^ m.width :=
  List.foldlRecOn (motive := fun x => x < 2 ^ m.width) _ _ hv (fun _ _ _ _ => crcBit_lt _ hpoly)

/-- R578: copy A where it is not doubtful, else copy B; two doubtful copies count where they agree. -/
theorem fuseResolve_table (a b : FuseSense) : let r := fuseResolve a b
    let va := a.normal &&& fuseMask a.word
    let vb := b.normal &&& fuseMask a.word
    r.aDoubt = fuseDoubtful a ∧ r.bDoubt = fuseDoubtful b ∧
    (fuseDoubtful a = false → r.value = some va ∧ r.usedB = false ∧ r.flagged = false ∧
      (r.mismatch = true ↔ fuseDoubtful b = true ∨ va ≠ vb)) ∧
    (fuseDoubtful a = true → fuseDoubtful b = false → r.value = some vb ∧ r.usedB = true ∧ r.mismatch = false) ∧
    (fuseDoubtful a = true → fuseDoubtful b = true → r.usedB = false ∧ (r.flagged = true ↔ va = vb) ∧
      r.value = if va = vb then some va else none) := by
  cases ha : fuseDoubtful a <;> cases hb : fuseDoubtful b
  case true.true =>
    by_cases hv : a.normal &&& fuseMask a.word = b.normal &&& fuseMask a.word <;> simp [fuseResolve, ha, hb, hv]
  all_goals simp [fuseResolve, ha, hb]

/-- Settles O55, clause by clause: the table of `fuseResolve`, the registers of a sensed word, and the units of a tap. -/
theorem fusesAndCrcUnits : Obligations.FusesAndCrcUnits := by
  unfold Obligations.FusesAndCrcUnits
  refine ⟨fun s tj noise => ⟨fun h => when_pos h _ _, fun h => when_neg (by simp [h]) _ _⟩, fuseResolve_table,
    fun s noise tj v w hv hw => ⟨fun h => ?_, fun h => ?_, fun h => ?_⟩, fun s w r held cross tj last hw => ⟨fun h => ?_, fun h => ?_⟩,
    fun s => ⟨?_, fun h => if_pos h⟩, fun s u hu => ⟨fun hload hhost => ?_, fun hload hhost => ?_, fun hload => ?_⟩,
    fun s tap tag l u hu => ⟨fun h => ?_, fun h => ?_, fun h => ?_⟩, fun m v b _ _ hpoly hv => crcByte_lt b hpoly hv⟩
  · rw [senseWord_fuseHeld s noise tj hv hw]
    split
    next hwv => rw [State.sensedHeld, ← hwv, h, Bool.or_true]
    next => exact h
  · rw [senseWord_fuseHeld s noise tj hv hv, if_pos rfl, State.sensedHeld, h, Option.isNone_none, Bool.true_or]
  · rw [senseWord_fuseHeld s noise tj hv hv, if_pos rfl] at h
    exact senseWord_fuseValue_held s noise tj h
  · rw [showFuse_data s hw, if_pos (Or.inr h), Nat.zero_mod]
  · rw [showFuse_data s hw, if_pos (Or.inl h), Nat.zero_mod]
  · unfold State.rollback
    split
    · exact Nat.le_refl 64
    · exact sumOf_ofBits_le _ 64
  · exact (when_pos ⟨hu, hload⟩ _ _).trans (by rw [if_pos hhost])
  · exact (when_pos ⟨hu, hload⟩ _ _).trans (by rw [hhost]; rfl)
  · exact when_neg (by simp [hload]) _ _
  · rw [snoop_eq_foldl, foldl_foldUnit_value, if_pos ⟨hu, h⟩]
  · rw [snoop_eq_foldl, foldl_foldUnit_value, if_neg (by simp [h])]
  · rw [State.crcTaps, h, Bool.false_and, Bool.false_and, Bool.false_and]

end Sys2Proof.Machine
end

section
/-! The switched power domains (R587 to R589, R661, R662). -/

namespace Sys2Proof.Machine

open Sys2Proof

/-! What a domain needs. -/

theorem domNeeds_eq_nil {d : Nat} (h : d ∉ [8, 9, 20, 22, 27]) : domNeeds d = [] := by
  simp only [List.mem_cons, List.not_mem_nil, or_false, not_or] at h
  obtain ⟨h8, h9, h20, h22, h27⟩ := h
  simp [domNeeds, *]

/-- Needs go two levels deep at most: 27 needs 20, which needs 21, 25 and 26. -/
theorem domClosure_closed (d : Nat) : ∀ e ∈ domClosure d, ∀ n ∈ domNeeds e, n ∈ domClosure d := by
  by_cases h : d ∈ [8, 9, 20, 22, 27]
  · revert d
    decide
  · rw [domClosure, domNeeds_eq_nil h]
    intro e he n hn
    rw [List.mem_singleton.mp he, domNeeds_eq_nil h] at hn
    exact absurd hn List.not_mem_nil

theorem mem_wanted {s : State} {d e : Nat} (hd : d < 29) (hreq : bit (s.fld F.FUM_PD_REQ_ON 0) d = true) (he : e ∈ domClosure d) :
    e ∈ s.wanted :=
  List.mem_flatMap.mpr ⟨d, List.mem_filter.mpr ⟨List.mem_range.mpr hd, hreq⟩, he⟩

theorem neededOn_of_need {s : State} {d e : Nat} (he : e < 29) (hneed : d ∈ domNeeds e)
    (hon : bit (s.fld F.FUM_PD_STAT_ON 0) e = true ∨ Tbl.has s.fum.waking e = true) : s.neededOn d = true :=
  List.any_eq_true.mpr ⟨e, List.mem_range.mpr he, by
    rw [Bool.and_eq_true, Bool.or_eq_true]
    exact ⟨List.elem_eq_true_of_mem hneed, hon⟩⟩

/-! The state of a domain after a request. -/

theorem setPendingOff_pending (s : State) {d : Nat} (hd : d < 29) (b : Bool) :
    bit ((s.setPendingOff d b).fld F.FUM_PD_STAT_PENDING_OFF 0) d = b := by
  rw [State.setPendingOff, fld_setFld_same, bit_mod_two_pow (Nat.lt_trans hd (by decide)), bit_setField_same]

theorem setPendingOff_on (s : State) (d : Nat) (b : Bool) :
    (s.setPendingOff d b).fld F.FUM_PD_STAT_ON 0 = s.fld F.FUM_PD_STAT_ON 0 := fld_setFld_place (by decide) s 0 _

/-- The state of a domain that is off and not asked to switch off: it wakes or not. -/
theorem domain_of_off {s t : State} {d : Nat} (hregs : t.regs = s.regs) (hon : bit (s.fld F.FUM_PD_STAT_ON 0) d = false)
    (hpend : bit (s.fld F.FUM_PD_STAT_PENDING_OFF 0) d = false) :
    t.domain d = if Tbl.has t.fum.waking d then .waking else .off := by
  rw [State.domain, fld_of_regs hregs, fld_of_regs hregs, hpend, hon]
  rfl

theorem sleepOne_domain (s : State) {d : Nat} (hd : d < 29) : (s.sleepOne d).domain d = .off := by
  unfold State.sleepOne
  cases hon : bit (s.fld F.FUM_PD_STAT_ON 0) d with
  | true => rw [if_pos rfl, State.domain, if_pos (setPendingOff_pending s hd true)]
  | false =>
    rw [if_neg Bool.false_ne_true]
    cases hpend : bit (s.fld F.FUM_PD_STAT_PENDING_OFF 0) d with
    | true => exact if_pos hpend
    | false =>
      have hgone : Tbl.has (Tbl.del d s.fum.waking) d = false := by rw [Tbl.has, Tbl.find?_del_same]; rfl
      rw [domain_of_off ?_ hon hpend, hgone]
      · rfl
      · rfl

/-- The repair word of a tile group is not held; the other domains have none. -/
theorem not_repairHeld {s : State} {d : Nat} (h : 8 ≤ d ∨ s.fuseHeld (21 + d) = false) :
    ¬ (d < 8 ∧ s.fuseHeld (21 + d) = true) := by
  rintro ⟨hlt, hheld⟩
  rcases h with hge | hfree
  · omega
  · rw [hheld] at hfree
    exact Bool.noConfusion hfree

theorem wakeOne_domain_on {s : State} {d : Nat} (hd : d < 29) (h : 8 ≤ d ∨ s.fuseHeld (21 + d) = false)
    (hon : bit (s.fld F.FUM_PD_STAT_ON 0) d = true) : (s.wakeOne d).domain d = .ready := by
  rw [State.wakeOne, if_neg (not_repairHeld h), if_pos hon, State.domain, setPendingOff_pending s hd, setPendingOff_on, hon]
  rfl

theorem wakeOne_domain_off {s : State} {d : Nat} (h : 8 ≤ d ∨ s.fuseHeld (21 + d) = false)
    (hon : bit (s.fld F.FUM_PD_STAT_ON 0) d = false) (hpend : bit (s.fld F.FUM_PD_STAT_PENDING_OFF 0) d = false) :
    (s.wakeOne d).domain d = .waking := by
  rw [State.wakeOne, if_neg (not_repairHeld h), hon, if_neg Bool.false_ne_true]
  split
  next hwake => rw [domain_of_off (s := s) rfl hon hpend, if_pos hwake]
  next =>
    have hwake : Tbl.has (Tbl.set d s.tb.time s.fum.waking) d = true := by rw [Tbl.has, Tbl.find?_set_same]; rfl
    rw [domain_of_off ?_ hon hpend, hwake]
    · rfl
    · rfl

/-! The wake time, and the switching off. -/

theorem exec_domainReady_up {s : State} {d t : Nat} (hwake : Tbl.find? d s.fum.waking = some t)
    (htime : t + domWakeUs d * 1000 ≤ s.tb.time) (hneeds : ∀ n ∈ domNeeds d, s.domain n = .ready) :
    exec (.domainReady d) s =
      .next ((({ s with fum := { s.fum with waking := Tbl.del d s.fum.waking } } : State).setDomain d true).domainUp d) := by
  have hall : (domNeeds d).all (fun n => decide (s.domain n = .ready)) = true :=
    List.all_eq_true.mpr (fun n hn => decide_eq_true (hneeds n hn))
  rw [exec_domainReady, execDomainReady, hwake]
  exact congrArg _ (if_pos ⟨htime, hall⟩)

theorem exec_domainReady_not {s : State} {d t : Nat} (hwake : Tbl.find? d s.fum.waking = some t)
    (hnot : s.tb.time < t + domWakeUs d * 1000 ∨ ∃ n ∈ domNeeds d, s.domain n ≠ .ready) :
    exec (.domainReady d) s = .next s := by
  have hno : ¬ (t + domWakeUs d * 1000 ≤ s.tb.time ∧ (domNeeds d).all (fun n => decide (s.domain n = .ready)) = true) := by
    rintro ⟨htime, hall⟩
    rcases hnot with hearly | ⟨n, hn, hne⟩
    · omega
    · exact hne (of_decide_eq_true (List.all_eq_true.mp hall n hn))
  rw [exec_domainReady, execDomainReady, hwake]
  exact congrArg _ (if_neg hno)

/-! What a domain keeps while it is off. -/

theorem Tbl.find?_filter_of_pos {α : Type} {p : Nat × α → Bool} {k : Nat} (h : ∀ v, p (k, v) = true) (t : Tbl α) :
    Tbl.find? k (t.filter p) = Tbl.find? k t := by
  induction t with
  | nil => rfl
  | cons c t ih =>
    obtain ⟨j, v⟩ := c
    rw [List.filter_cons, Tbl.find?]
    by_cases hjk : j = k
    · subst hjk
      rw [if_pos rfl, if_pos (h v), Tbl.find?, if_pos rfl]
    · rw [if_neg hjk, ← ih]
      split
      · rw [Tbl.find?, if_neg hjk]
      · rfl

theorem off_of_key (f : Fld) {j : Nat} (hlo : f.lo < 64) (hj : j < 65536) : f.key j / 65536 / 64 = f.off := by
  unfold Fld.key
  omega

theorem keepSettings_fld (s : State) {lo hi : Nat} {f : Fld} {j : Nat} (hlo : f.lo < 64) (hj : j < 65536)
    (hout : f.off < lo ∨ hi ≤ f.off) : (s.keepSettings lo hi).fld f j = s.fld f j := by
  have hnot : ¬ (lo ≤ f.off ∧ f.off < hi) := by omega
  rw [State.fld, State.fld, State.keepSettings, getF, getF, Tbl.getD, Tbl.getD, keepSettings, Tbl.find?_filter_of_pos]
  intro v
  simp only [off_of_key f hlo hj, decide_eq_false hnot, Bool.not_false, Bool.true_or]

/-- Settles O56, clause by clause. -/
theorem powerDomains : Obligations.PowerDomains := by
  unfold Obligations.PowerDomains
  refine ⟨fun s who v => ⟨fun h => when_pos h _ _, fun h => when_neg (by simp [h]) _ _⟩,
    fun d => ⟨List.mem_cons_self, domClosure_closed d⟩, fun s d hd hreq e he => mem_wanted hd hreq he,
    fun s d hd => ⟨sleepOne_domain s hd, fun hlt hheld => if_pos ⟨hlt, hheld⟩,
      fun h => ⟨wakeOne_domain_on hd h, wakeOne_domain_off h⟩⟩,
    fun s d t hwake => ⟨exec_domainReady_up hwake, exec_domainReady_not hwake⟩,
    fun s d hd => ⟨fun hpend hoff hneed => when_pos ⟨hd, hpend, hoff, hneed⟩ _ _, fun h => when_neg ?_ _ _⟩,
    fun s d e he hneed hon => neededOn_of_need he hneed hon,
    fun s => ⟨rfl, rfl, rfl, rfl, rfl, rfl, rfl, fun f j hlo hj hout => keepSettings_fld _ hlo hj hout⟩⟩
  rintro ⟨_, hpend, hoff, hneed⟩
  simp [hpend, hoff, hneed] at h

end Sys2Proof.Machine
end

section
/-! What an access of a function and a completion entry leave: they change the memories, the rings, the host endpoint, Sinter,
registers and the cores' reservations, and no other part of the state (R74 to R81, R315 to R330). -/

namespace Sys2Proof.Machine

open Sys2Proof

/-- `t` is `s` but for what accesses and completion entries change. -/
def IoOnly (s t : State) : Prop :=
  t = { s with fresh := t.fresh, regs := t.regs, rng := t.rng, hep := t.hep, mem := t.mem, tiles := t.tiles,
               mcores := t.mcores, snt := t.snt, sto := t.sto }

theorem IoOnly.refl (s : State) : IoOnly s s := rfl

theorem IoOnly.trans {s t u : State} (h : IoOnly s t) (k : IoOnly t u) : IoOnly s u := by
  unfold IoOnly at *
  rw [k, h]

theorem SntOnly.io {s t : State} (h : SntOnly s t) : IoOnly s t := by
  rw [show t = _ from h]
  rfl

theorem IoOnly.ite {c : Prop} [Decidable c] {s t u : State} (ht : IoOnly s t) (hu : IoOnly s u) :
    IoOnly s (if c then t else u) := by
  split
  · exact ht
  · exact hu

theorem IoOnly.foldl {α : Type} {f : State → α → State} (h : ∀ t x, IoOnly t (f t x)) (l : List α) (s : State) :
    IoOnly s (l.foldl f s) := by
  induction l generalizing s with
  | nil => exact IoOnly.refl s
  | cons x l ih => exact (h s x).trans (ih _)

section
variable {s t : State} (h : IoOnly s t)
include h

theorem IoOnly.sec : t.sec = s.sec := by rw [show t = _ from h]
theorem IoOnly.fum : t.fum = s.fum := by rw [show t = _ from h]
theorem IoOnly.sch : t.sch = s.sch := by rw [show t = _ from h]
theorem IoOnly.rdm : t.rdm = s.rdm := by rw [show t = _ from h]
theorem IoOnly.ckp : t.ckp = s.ckp := by rw [show t = _ from h]
theorem IoOnly.tb : t.tb = s.tb := by rw [show t = _ from h]

end

/-! The host endpoint and translation. -/

theorem setFld_io (s : State) (f : Fld) (i v : Nat) : IoOnly s (s.setFld f i v) := rfl

theorem inc_io (s : State) (f : Fld) (i : Nat) : IoOnly s (s.inc f i) := rfl

theorem tick_io (s : State) : IoOnly s s.tick := rfl

theorem aerReport_io (fn err : Nat) (s : State) : IoOnly s (aerReport fn err s) := rfl

theorem setDomain_io (s : State) (d : Nat) (on : Bool) : IoOnly s (s.setDomain d on) :=
  IoOnly.ite ((setFld_io s _ _ _).trans (setFld_io _ _ _ _)) (setFld_io s _ _ _)

theorem tlp_io (s : State) : IoOnly s s.tlp := by
  have hleave : IoOnly s s.leaveL1 := IoOnly.ite ((setFld_io s _ _ _).trans (setDomain_io _ _ _)) (IoOnly.refl s)
  exact hleave.trans rfl

theorem hostWrite_io (s : State) (a : Nat) (bs : List Byte) : IoOnly s (s.hostWrite a bs) := (tlp_io s).trans rfl

theorem snoop_io (s : State) (tap tag : Nat) (l : List Byte) : IoOnly s (s.snoop tap tag l) :=
  IoOnly.foldl (fun t _ => IoOnly.ite (setFld_io t _ _ _) (IoOnly.refl t)) _ s

theorem aerAdvise_io (fn err : Nat) (s : State) : IoOnly s (aerAdvise fn err s) :=
  (IoOnly.ite ((aerReport_io fn err s).trans (aerReport_io _ _ _)) (aerReport_io fn err s)).trans (tick_io _)

theorem hostFailed_io (s : State) (fn : Nat) (f : HostFail) : IoOnly s (s.hostFailed fn f) := by
  cases f with
  | timeout =>
    exact ((inc_io s _ _).trans (sinterEvent_only _ _ _).io).trans (aerAdvise_io _ _ _)
  | errorStatus => rfl
  | poisoned => rfl

theorem refuse_io (s : State) (fn st : Nat) : IoOnly s (s.refuse fn st) :=
  IoOnly.ite (inc_io s _ _) (IoOnly.ite (inc_io s _ _) (IoOnly.ite (inc_io s _ _) (IoOnly.refl s)))

theorem cacheFill_io (l : List XltEntry) (s : State) : IoOnly s (cacheFill l s) := by
  refine IoOnly.foldl (fun t x => ?_) l s
  rfl

theorem translate_io (s : State) (env : Env) (fn : Nat) (wr : Bool) (a : Nat) : IoOnly s (s.translate env fn wr a).1 := by
  have hwalk : ∀ (lost : Option HostFail) (t : State), IoOnly s t →
      IoOnly s (match lost with | some f => t.hostFailed fn f | none => t) := by
    intro lost t ht
    cases lost with
    | none => exact ht
    | some f => exact ht.trans (hostFailed_io t fn f)
  have hfill : ∀ (b : Bool) (drop : List (Bool × Nat)) (fill : List XltEntry),
      IoOnly s (cacheFill fill ((if b = true then s.tlp else s).cacheLose fn drop)).tick := by
    intro b drop fill
    have hsent : IoOnly s (if b = true then s.tlp else s) := IoOnly.ite (tlp_io s) (IoOnly.refl s)
    have hlose : IoOnly s ((if b = true then s.tlp else s).cacheLose fn drop) := hsent.trans rfl
    exact (hlose.trans (cacheFill_io _ _)).trans (tick_io _)
  unfold State.translate
  split
  · rfl
  · dsimp only
    split
    · exact (hwalk _ _ (hfill _ _ _)).trans (refuse_io _ _ _)
    · exact hwalk _ _ (hfill _ _ _)

/-! Reads and writes of a function. -/

theorem hostPiece_io (s : State) (env : Env) (fn a n : Nat) : IoOnly s (s.hostPiece env fn a n).1 := by
  have ht := translate_io s env fn false a
  unfold State.hostPiece
  split
  next s1 h heq =>
    rw [heq] at ht
    split
    · exact ht.trans (hostFailed_io _ _ _)
    · exact ht.trans (snoop_io _ _ _ _)
  next heq => rwa [heq] at ht
  next heq => rwa [heq] at ht

theorem readHostRange_io (s : State) (env : Env) (fn : Nat) (l : List (Nat × Nat)) : IoOnly s (s.readHostRange env fn l).1 := by
  induction l generalizing s with
  | nil => rfl
  | cons p l ih =>
    have hp := hostPiece_io s env fn p.1 p.2
    rw [State.readHostRange]
    split
    next s1 bs heq =>
      rw [heq] at hp
      have hl := hp.trans (ih s1)
      split
      next heq2 => rwa [heq2] at hl
      next => exact hl
    next => exact hp

theorem markPoison_io (s : State) (b : Nat) (on : Bool) : IoOnly s (s.markPoison b on) := by
  unfold State.markPoison
  split <;> rfl

theorem eccLog_io (u a : Nat) (ue : Bool) (s : State) : IoOnly s (eccLog u a ue s) := rfl

theorem eccCorrect_io (e : EccEvent) (s : State) : IoOnly s (eccCorrect e s) := by
  unfold eccCorrect
  split
  · have hcount : ∀ u, IoOnly s (if u ≤ 20 then eccLog u (s.blockBase e.addr) false (s.inc F.MEM_ECC_STAT_CE_CNT u)
        else s.inc F.CAL_TILE_CNT_SRAM_CE (u - 0x100)) :=
      fun u => IoOnly.ite ((inc_io s _ _).trans (eccLog_io _ _ _ _)) (inc_io s _ _)
    exact (hcount _).trans (sinterEvent_only _ _ _).io
  · rfl

theorem eccUncorrect_io (e : EccEvent) (s : State) : IoOnly s (eccUncorrect e s) := by
  unfold eccUncorrect
  split
  · rfl
  · split
    · have hmark := markPoison_io s e.addr true
      exact (IoOnly.ite ((hmark.trans (inc_io _ _ _)).trans (eccLog_io _ _ _ _)) hmark).trans (sinterEvent_only _ _ _).io
    · rfl

theorem eccFind_io (s : State) (ecc : List EccEvent) (a n : Nat) : IoOnly s (s.eccFind ecc a n) := by
  refine IoOnly.foldl (fun t e => ?_) ecc s
  exact IoOnly.ite (IoOnly.ite (eccCorrect_io e t) (eccUncorrect_io e t)) (IoOnly.refl t)

theorem readChecked_io (s : State) (env : Env) (fn a n : Nat) : IoOnly s (s.readChecked env fn a n).1 := by
  unfold State.readChecked
  split
  · rfl
  · split
    · exact readHostRange_io _ _ _ _
    · split
      · rfl
      · dsimp only
        split <;> exact eccFind_io _ _ _ _

theorem readFor_io (s : State) (env : Env) (fn a n : Nat) : IoOnly s (s.readFor env fn a n).1 := by
  unfold State.readFor
  split
  · exact readChecked_io _ _ _ _ _
  · exact refuse_io _ _ _
  · rfl

theorem writeHostRange_io (s : State) (env : Env) (fn : Nat) (l : List (Nat × Nat)) (bs : List Byte) :
    IoOnly s (s.writeHostRange env fn l bs).1 := by
  induction l generalizing s bs with
  | nil => rfl
  | cons p l ih =>
    have ht := translate_io s env fn true p.1
    rw [State.writeHostRange]
    split
    next s1 h heq =>
      rw [heq] at ht
      exact ((ht.trans (snoop_io _ _ _ _)).trans (hostWrite_io _ _ _)).trans (ih _ _)
    next heq => rwa [heq] at ht
    next heq => rwa [heq] at ht

theorem devPut_io (s : State) (a n : Nat) (m : Memory) : IoOnly s (s.devPut a n m) := by
  have hrsv : IoOnly s (s.endRsv 0 a (a + n)) := by
    unfold State.endRsv
    split <;> rfl
  exact hrsv.trans rfl

theorem devWrite_io (s : State) (a : Nat) (bs : List Byte) : IoOnly s (s.devWrite a bs) := by
  have hput := devPut_io s a bs.length (s.mem.dev.writeList a bs)
  exact IoOnly.ite hput (hput.trans (IoOnly.foldl (fun t b => IoOnly.ite (markPoison_io t b false) (IoOnly.refl t)) _ _))

theorem writeChecked_io (s : State) (env : Env) (fn a : Nat) (bs : List Byte) : IoOnly s (s.writeChecked env fn a bs).1 := by
  unfold State.writeChecked
  split
  · rfl
  · split
    · exact writeHostRange_io _ _ _ _ _
    · split
      · rfl
      · split
        · rfl
        · exact devWrite_io _ _ _

theorem writeFor_io (s : State) (env : Env) (fn a : Nat) (bs : List Byte) : IoOnly s (s.writeFor env fn a bs).1 := by
  unfold State.writeFor
  split
  · exact writeChecked_io _ _ _ _ _
  · exact refuse_io _ _ _
  · rfl

/-! Completion entries. -/

theorem noteDone_io (s : State) (n : Nat) : IoOnly s (s.noteDone n) := by
  unfold State.noteDone
  split <;> rfl

theorem releaseOf_io (s : State) (e : CplEntry) : IoOnly s (s.releaseOf e) := by
  unfold State.releaseOf
  split
  · exact (noteDone_io _ _).trans rfl
  · rfl

theorem holdEntry_io (s : State) (k : Nat) (e : CplEntry) : IoOnly s (s.holdEntry k e) := by
  unfold State.holdEntry
  dsimp only
  split
  · split
    · exact (noteDone_io _ _).trans rfl
    · rfl
  · rfl

theorem setRing_io (s : State) (k : Nat) (r : Ring) : IoOnly s (s.setRing k r) := rfl

theorem irqRequest_io (s : State) (fn v : Nat) : IoOnly s (s.irqRequest fn v) := by
  have hsend : IoOnly s (s.intxSend true) := (tlp_io s).trans rfl
  have hraise : IoOnly s (s.intxRaise v) := (IoOnly.ite hsend (IoOnly.refl s)).trans (setFld_io _ _ _ _)
  have hmsix : IoOnly s (s.sendMsix fn v) := (tlp_io s).trans rfl
  have hwait : ∀ x, IoOnly s (s.setIrq fn v x) := fun _ => rfl
  exact IoOnly.ite (inc_io s _ _) (IoOnly.ite hmsix (IoOnly.ite hraise (hwait _)))

theorem moderate_io (s : State) (k : Nat) (irq : Bool) : IoOnly s (s.moderate k irq) :=
  IoOnly.ite (IoOnly.refl s) (IoOnly.ite ((setRing_io s _ _).trans (irqRequest_io _ _ _)) (setRing_io s _ _))

theorem writeCq_io (s : State) (env : Env) (r : Ring) (a : Nat) (bs : List Byte) : IoOnly s (s.writeCq env r a bs).1 := by
  unfold State.writeCq
  split
  · split
    · rfl
    · exact (snoop_io _ _ _ _).trans (hostWrite_io _ _ _)
  · exact writeFor_io _ _ _ _ _

theorem writeEntry_io (s : State) (env : Env) (k : Nat) (e : CplEntry) : IoOnly s (s.writeEntry env k e).1 := by
  have hcq := writeCq_io s env (s.ring k) ((s.ring k).base + (s.ring k).hw % (s.ring k).entries * 16)
    (bytesOfWords (entryWords (s.ring k) e))
  unfold State.writeEntry
  dsimp only
  split
  next heq =>
    rw [heq] at hcq
    exact ((hcq.trans (setRing_io _ _ _)).trans (releaseOf_io _ _)).trans (moderate_io _ _ _)
  next heq => rwa [heq] at hcq
  next heq => rwa [heq] at hcq

theorem haltCq_io (s : State) (k st : Nat) : IoOnly s (s.haltCq k st) :=
  IoOnly.ite (setRing_io s _ _) (IoOnly.refl s)

theorem postOne_io (s : State) (env : Env) (k : Nat) (e : CplEntry) : IoOnly s (s.postOne env k e).1 := by
  have hentry := writeEntry_io s env k e
  unfold State.postOne
  dsimp only
  split
  · exact (inc_io s _ _).trans (releaseOf_io _ _)
  · split
    · exact holdEntry_io _ _ _
    · split
      next heq => rwa [heq] at hentry
      next heq =>
        rw [heq] at hentry
        exact (hentry.trans (holdEntry_io _ _ _)).trans (haltCq_io _ _ _)
      next heq =>
        rw [heq] at hentry
        exact hentry.trans (holdEntry_io _ _ _)

theorem post_io (s : State) (env : Env) (k : Nat) (e : CplEntry) : IoOnly s (s.post env k e) := by
  have hone := postOne_io s env k e
  unfold State.post
  split
  next heq => rwa [heq] at hone
  next heq =>
    rw [heq] at hone
    exact hone.trans (IoOnly.ite (IoOnly.refl _) (postOne_io _ _ _ _))

/-- An event entry changes what completion entries change. -/
theorem postEvent_io (s : State) (env : Env) (fn code : Nat) (res : Word) (st : Nat) :
    IoOnly s (s.postEvent env fn code res st) := 
  IoOnly.ite (post_io _ _ _ _) (IoOnly.refl s)

end Sys2Proof.Machine
end

section
/-! The mailboxes, the checks of critical commands and their end, and SPDM (R525 to R529, R532, R537, R541, R544, R589, R594). -/

namespace Sys2Proof.Machine

open Sys2Proof

/-! A request for a domain. -/

theorem wakeOne_sec (s : State) (d : Nat) : (s.wakeOne d).sec = s.sec := by
  unfold State.wakeOne
  split
  · rfl
  · split
    · rfl
    · split <;> rfl

theorem wake_sec (s : State) (d : Nat) : (s.wake d).sec = s.sec := by
  unfold State.wake
  induction domClosure d generalizing s with
  | nil => rfl
  | cons e l ih => rw [List.foldl_cons, ih, wakeOne_sec]

/-! The end of the front command (R528, R544). -/

/-- The front command gone, its event recorded and counted: what its end leaves before its mailbox answers. -/
def State.critLeft (s : State) (m : MbxMsg) (rest : List MbxMsg) (r : Nat) : State :=
  let s1 := if 1 ≤ mOp m.bytes ∧ mOp m.bytes ≤ 8 then sinterEvent (0x30F + mOp m.bytes) r s else s
  let s2 := if m.accepted then s1 else s1.inc F.FUM_MBX_CNT_REJECT_CNT 0
  { s2 with sec := { s2.sec with mbx := rest } }

theorem critLeft_snt (s : State) (m : MbxMsg) (rest : List MbxMsg) (r : Nat) (h : 1 ≤ mOp m.bytes ∧ mOp m.bytes ≤ 8) :
    (s.critLeft m rest r).snt = (sinterEvent (0x30F + mOp m.bytes) r s).snt := by
  simp only [State.critLeft, if_pos h]
  split <;> rfl

section
variable {s : State} {m : MbxMsg} {rest : List MbxMsg} (hmbx : s.sec.mbx = m :: rest)
include hmbx

theorem critPop_sideband (hside : m.sideband = true) (r : Nat) (resp : List Byte) :
    s.critPop r resp = { s.critLeft m rest r with sec := { (s.critLeft m rest r).sec with
      sideResp := resp, sideOut := .mailbox (mOp m.bytes) r resp :: (s.critLeft m rest r).sec.sideOut } } := by
  rw [State.critPop, hmbx]
  exact if_pos hside

theorem critPop_host (hside : m.sideband = false) (r : Nat) (resp : List Byte) :
    s.critPop r resp = ((((((s.critLeft m rest r).setFld F.FUM_MBX_STAT_OPCODE 0 (mOp m.bytes)).setFld
      F.FUM_MBX_STAT_RESP_LEN 0 resp.length).setFld F.FUM_MBX_STAT_RESULT 0 r).setFlag F.FUM_MBX_STAT_BUSY 0
      (rest.any (fun x => !x.sideband))).setFlag F.FUM_MBX_STAT_DONE 0 true).mbxWrite 64 resp := by
  rw [State.critPop, hmbx]
  exact if_neg (by rw [hside]; decide)

theorem critPop_mbx (r : Nat) (resp : List Byte) : (s.critPop r resp).sec.mbx = rest := by
  cases hside : m.sideband with
  | true => rw [critPop_sideband hmbx hside]; rfl
  | false => rw [critPop_host hmbx hside]; rfl

/-- What the host mailbox shows after the end of its command (R544). -/
theorem critPop_shows (hside : m.sideband = false) (r : Nat) (resp : List Byte) : let t := s.critPop r resp
    t.fld F.FUM_MBX_STAT_RESULT 0 = r % 2 ^ F.FUM_MBX_STAT_RESULT.width ∧
    t.fld F.FUM_MBX_STAT_OPCODE 0 = mOp m.bytes % 2 ^ F.FUM_MBX_STAT_OPCODE.width ∧ t.flag F.FUM_MBX_STAT_DONE 0 = true ∧
    t.flag F.FUM_MBX_STAT_BUSY 0 = rest.any (fun x => !x.sideband) ∧
    (1 ≤ mOp m.bytes → mOp m.bytes ≤ 8 → t.snt = (sinterEvent (0x30F + mOp m.bytes) r s).snt) := by
  have hregs : ∀ (t : State) a bs, (t.mbxWrite a bs).regs = t.regs := fun _ _ _ => rfl
  simp only [critPop_host hmbx hside, fld_of_regs (hregs _ _ _), flag_of_regs (hregs _ _ _)]
  refine ⟨?_, ?_, flag_setFlag_same rfl _ _ _, ?_, fun h1 h8 => critLeft_snt s m rest r ⟨h1, h8⟩⟩
  · rw [fld_setFlag_place (by decide), fld_setFlag_place (by decide), fld_setFld_same]
  · rw [fld_setFlag_place (by decide), fld_setFlag_place (by decide), fld_setFld_place (by decide),
      fld_setFld_place (by decide), fld_setFld_same]
  · rw [flag_setFlag_place (by decide), flag_setFlag_same rfl]

theorem critSkip_defined (h : 1 ≤ mOp m.bytes ∧ mOp m.bytes ≤ 8) (n : Nat) : State.critSkip n s = s := by
  cases n with
  | zero => rfl
  | succ n =>
    rw [State.critSkip, hmbx]
    exact if_pos h

theorem critSkip_undefined (h : ¬ (1 ≤ mOp m.bytes ∧ mOp m.bytes ≤ 8)) : State.critSkip 1 s = s.critPop 1 [] := by
  rw [State.critSkip, hmbx]
  exact if_neg h

end

/-- A message that meets an empty queue stands alone in it, or leaves it at once with BAD_OPCODE. -/
theorem critPush_empty {s : State} (hempty : s.sec.mbx = []) (b : List Byte) (side : Bool) :
    (1 ≤ mOp b → mOp b ≤ 8 → (s.critPush b side).sec.mbx = [⟨b, side, false, 0⟩]) ∧
    ((mOp b = 0 ∨ 8 < mOp b) → (s.critPush b side).sec.mbx = []) := by
  have hmbx : ({ s with sec := { s.sec with mbx := s.sec.mbx ++ [{ bytes := b, sideband := side }] } } : State).sec.mbx =
      [⟨b, side, false, 0⟩] := congrArg (· ++ _) hempty
  have hlen := congrArg List.length hmbx
  refine ⟨fun h1 h8 => ?_, fun h => ?_⟩
  · rw [State.critPush, wake_sec, critSkip_defined hmbx ⟨h1, h8⟩, hmbx]
  · have hnot : ¬ (1 ≤ mOp b ∧ mOp b ≤ 8) := by omega
    rw [State.critPush, wake_sec, hlen, List.length_singleton, critSkip_undefined hmbx hnot, critPop_mbx hmbx]

/-! The key store locks (R532). -/

theorem setDevSet_sets (s : State) (i : Nat) (x : DevSet) : (s.setDevSet i x).sec.sets = Tbl.put {} i x s.sec.sets := rfl

theorem revokeAll_devSet (s : State) {i : Nat} (hi : i < 4) : s.revokeAll.devSet i = {} := by
  have hfour : List.range 4 = [0, 1, 2, 3] := rfl
  have hcases : i = 3 ∨ i = 2 ∨ i = 1 ∨ i = 0 := by omega
  rw [State.devSet, State.revokeAll, hfour]
  simp only [List.foldl_cons, List.foldl_nil, setDevSet_sets]
  rcases hcases with rfl | rfl | rfl | rfl
  · exact Tbl.getD_put_same _ _ _ _
  · rw [Tbl.getD_put_ne (by decide), Tbl.getD_put_same]
  · rw [Tbl.getD_put_ne (by decide), Tbl.getD_put_ne (by decide), Tbl.getD_put_same]
  · rw [Tbl.getD_put_ne (by decide), Tbl.getD_put_ne (by decide), Tbl.getD_put_ne (by decide), Tbl.getD_put_same]

theorem lockKeys_sec (s : State) (reason : Nat) : (s.lockKeys reason).sec = s.revokeAll.sec := by
  unfold State.lockKeys
  split
  · rfl
  · rw [(postEvent_io _ _ _ _ _ _).sec, State.setFlag_sec]

/-! The checks in their order (R527). -/

section
variable {s : State} {b : List Byte} (payOk flashOk : Bool)

theorem critCheck_serial (h : ¬ (s.fuseHeld 16 = false ∧ mSerial b = s.serialNo)) : s.critCheck b true payOk flashOk = 0x03 := by
  have hbad : s.fuseHeld 16 = true ∨ mSerial b ≠ s.serialNo := by
    cases hheld : s.fuseHeld 16 with
    | true => exact .inl rfl
    | false => exact .inr (fun e => h ⟨hheld, e⟩)
  exact if_pos hbad

variable (hserial : s.fuseHeld 16 = false ∧ mSerial b = s.serialNo)
include hserial

theorem critCheck_key : s.critCheck b true payOk flashOk = if s.noCmdKey (mOp b) then 0x04 else if !s.tagOk b then 0x05
    else if mCounter b ≤ s.fum.records.counter then 0x06 else if (mOp b = 3 ∨ mOp b = 6) ∧ s.keyLocked then 0x08
    else if !payOk then 0x07 else if !flashOk then 0x09 else 0 := by
  have hok : ¬ (s.fuseHeld 16 = true ∨ mSerial b ≠ s.serialNo) := by simp [hserial]
  exact if_neg hok

variable (hkey : s.noCmdKey (mOp b) = false)
include hkey

theorem critCheck_tag (htag : s.tagOk b = false) : s.critCheck b true payOk flashOk = 0x05 := by
  rw [critCheck_key payOk flashOk hserial, hkey, htag]
  rfl

variable (htag : s.tagOk b = true)
include htag

theorem critCheck_counter (hctr : mCounter b ≤ s.fum.records.counter) : s.critCheck b true payOk flashOk = 0x06 := by
  rw [critCheck_key payOk flashOk hserial, hkey, htag]
  exact if_pos hctr

variable (hctr : s.fum.records.counter < mCounter b)
include hctr

theorem critCheck_locked (hop : mOp b = 3 ∨ mOp b = 6) (hlock : s.keyLocked = true) : s.critCheck b true payOk flashOk = 0x08 := by
  rw [critCheck_key payOk flashOk hserial, hkey, htag]
  exact (if_neg (Nat.not_le.mpr hctr)).trans (if_pos ⟨hop, hlock⟩)

theorem critCheck_last (h : (mOp b ≠ 3 ∧ mOp b ≠ 6) ∨ s.keyLocked = false) :
    s.critCheck b true payOk flashOk = if !payOk then 0x07 else if !flashOk then 0x09 else 0 := by
  have hopen : ¬ ((mOp b = 3 ∨ mOp b = 6) ∧ s.keyLocked = true) := by
    rintro ⟨hop, hlock⟩
    rcases h with hne | hfree
    · exact hop.elim hne.1 hne.2
    · exact Bool.eq_false_iff.mp hfree hlock
  rw [critCheck_key payOk flashOk hserial, hkey, htag]
  exact (if_neg (Nat.not_le.mpr hctr)).trans (if_neg hopen)

end

/-- Without a command key nothing passes, save SET_CMD_KEY before the first claim (R529). -/
theorem noCmdKey_none {s : State} {op : Nat} (hnone : s.fum.records.cmdKey = none) (h : s.owned = true ∨ op ≠ 1) :
    s.noCmdKey op = true := by
  have hclaim : (s.owned || op != 1) = true := by rcases h with h | h <;> simp [h]
  rw [State.noCmdKey, hnone, hclaim]
  exact Bool.or_true _

/-! The sideband and SPDM (R525, R537, R541, R589, R594). -/

theorem spdmTake_now {s : State} (h : s.domain 26 = .ready ∨ s.sec.tenancy = true) (side : Bool) (req : List Byte) :
    s.spdmTake side req = s.spdmReply side req := if_pos h

theorem spdmTake_waits {s : State} (hdom : s.domain 26 ≠ .ready) (hten : s.sec.tenancy = false) (side : Bool) (req : List Byte) :
    s.spdmTake side req = ({ s with sec := { s.sec with spdmWait := s.sec.spdmWait ++ [(side, req)] } } : State).wake 26 :=
  if_neg (by simp [hdom, hten])

/-- Settles O57, clause by clause. -/
theorem criticalCommandChecks : Obligations.CriticalCommandChecks := by
  unfold Obligations.CriticalCommandChecks
  refine ⟨fun s => ⟨fun h => when_pos h _ _, fun h => when_neg (by simp [h]) _ _⟩,
    fun s b side hempty => critPush_empty hempty b side,
    fun s b payOk flashOk => ⟨rfl, critCheck_serial payOk flashOk,
      fun hserial hkey => (critCheck_key payOk flashOk hserial).trans (if_pos hkey),
      fun hserial hkey => ⟨critCheck_tag payOk flashOk hserial hkey, critCheck_counter payOk flashOk hserial hkey,
        fun htag hctr => ⟨critCheck_locked payOk flashOk hserial hkey htag hctr, fun h =>
          ⟨critCheck_last false flashOk hserial hkey htag hctr h, critCheck_last true false hserial hkey htag hctr h,
            critCheck_last true true hserial hkey htag hctr h⟩⟩⟩⟩,
    fun s op hnone => ⟨fun h => noCmdKey_none hnone (.inl h), fun h => noCmdKey_none hnone (.inr h)⟩,
    fun s m => ⟨rfl, rfl⟩, fun s m rest r resp hmbx hside => ⟨critPop_mbx hmbx r resp, critPop_shows hmbx hside r resp⟩,
    fun s reason => ⟨congrArg Security.slots (lockKeys_sec s reason), fun i hi => ?_⟩,
    fun s m => ⟨fun h => congrArg _ (if_pos h), fun h => ?_⟩,
    fun s req => ⟨fun h => when_pos h _ _, fun h => when_neg (by simp [h]) _ _⟩,
    fun s side req => ⟨fun h => spdmTake_now h side req, fun hdom hten => spdmTake_waits hdom hten side req, rfl,
      fun hten => if_pos hten, fun hten hcode => ?_⟩⟩
  · rw [State.devSet, lockKeys_sec]
    exact revokeAll_devSet s hi
  · have hnot : ¬ s.fld F.FUM_BOOT_STAT_STAGE 0 < 3 := Nat.not_lt.mpr h
    refine ⟨?_, ?_, ?_, ?_⟩
    · rintro bs rfl
      exact congrArg _ (if_neg hnot)
    · rintro rfl
      exact congrArg _ (if_neg hnot)
    · rintro req rfl hup
      exact congrArg _ ((if_neg hnot).trans (if_pos hup))
    · rintro bs rfl hup hlen
      have hbytes : (bs ++ List.replicate (4096 - bs.length) 0).take 4096 = bs := by rw [← hlen, List.take_left]
      refine congrArg _ ((if_neg hnot).trans ((if_pos hup).trans ?_))
      rw [hbytes]
  · rw [State.spdmResponse, hten, hcode]
    rfl

end Sys2Proof.Machine
end

section
/-! What each critical command does once it is accepted (R529 to R534, R540, R575, R576, R582, R611, R620). -/

namespace Sys2Proof.Machine

open Sys2Proof

/-! The command at the front of its queue. -/

theorem critFront_of_critIs {s : State} {op : Nat} {m : MbxMsg} (h : s.critIs op m) {sel : List Byte → Bool}
    (hsel : sel (mPay m.bytes) = true) : s.critFront op sel = some m := by
  obtain ⟨hup, hdom, hhead, hop⟩ := h
  obtain ⟨rest, hmbx⟩ : ∃ rest, s.sec.mbx = m :: rest := by
    cases hl : s.sec.mbx with
    | nil => rw [hl] at hhead; cases hhead
    | cons x rest => rw [hl] at hhead; cases hhead; exact ⟨rest, rfl⟩
  rw [State.critFront, if_pos ⟨hup, hdom⟩, hmbx]
  exact if_pos ⟨hop, hsel⟩

/-- A command that starts is turned away with the result of its check, or accepted and acts (R527). -/
theorem critRuns_of_exec {s : State} {c : Instr} {m : MbxMsg} {lenOk payloadOk flashOk : Bool} {act : State → State}
    (h : exec c s = .next (s.critStart m lenOk payloadOk flashOk act)) : s.critRuns c m lenOk payloadOk flashOk act := by
  refine ⟨fun hr => ?_, fun hr => ?_⟩ <;> rw [h, State.critStart]
  · split
    next hzero => exact absurd hzero hr
    next => rfl
  · rw [hr]
    rfl

/-! FUSE_PROGRAM (R576, R582). -/

theorem fuseProgram_runs {s : State} {c : Instr} {m : MbxMsg} {w bits : Nat} {ok flashOk : Bool}
    (h : exec c s = .next (s.fuseProgram m w bits ok flashOk)) :
    (m.accepted = false → s.critRuns c m (mLen m.bytes == 16) ok flashOk (fun t =>
      (t.programFuse w bits).maintRequest .fuseRead 0)) ∧
    (m.accepted = true → s.maintState .fuseRead 0 = 0 →
      exec c s = .next (s.critEnd (if s.readsClean w bits then 0 else 0x0A) [])) ∧
    (m.accepted = true → s.maintState .fuseRead 0 ≠ 0 → exec c s = .next s) := by
  refine ⟨fun hnew => critRuns_of_exec ?_, fun hacc hdone => ?_, fun hacc hruns => ?_⟩ <;> rw [h, State.fuseProgram]
  · rw [if_neg (by rw [hnew]; decide)]
  · rw [if_pos hacc, if_pos hdone]
  · rw [if_pos hacc, if_neg hruns]

theorem programFuse_stored (s : State) (w bits : Nat) {copy : Nat} (hcopy : copy < 2) :
    (s.programFuse w bits).fuseStored copy w = s.fuseStored copy w ||| bits := by
  have hcases : copy = 0 ∨ copy = 1 := by omega
  rcases hcases with rfl | rfl <;>
    simp [State.fuseStored, State.programFuse, Tbl.getD, Tbl.find?_set_same, Nat.or_assoc]

section
variable {s : State} {m : MbxMsg} (h : s.critIs 4 m)
include h

theorem exec_fuseProgramRollback_eq (flashOk : Bool) (hop : leAt (mPay m.bytes) 0 1 = 1) :
    exec (.fuseProgramRollback flashOk) s = .next (s.fuseProgram m 19 (2 ^ min (leAt (mPay m.bytes) 8 2) 64 - 1)
      (decide (s.fuseHeld 19 = false ∧ s.rollback < leAt (mPay m.bytes) 8 2 ∧
        leAt (mPay m.bytes) 8 2 ≤ s.fld F.FUM_BOOT_STAT_SVN 0)) flashOk) := by
  rw [exec_fuseProgramRollback, execFuseProgramRollback, critFront_of_critIs h (by simp [fuseOp, hop])]
  simp only [fuseOp, hop, true_and]

theorem exec_fuseProgramOwner_eq (flashOk : Bool) (hop : leAt (mPay m.bytes) 0 1 = 2) :
    exec (.fuseProgramOwner flashOk) s = .next (s.fuseProgram m (leAt (mPay m.bytes) 1 1) (leAt (mPay m.bytes) 8 8)
      (decide (29 ≤ leAt (mPay m.bytes) 1 1 ∧ leAt (mPay m.bytes) 1 1 ≤ 60 ∧
        (s.fuseStored 0 (leAt (mPay m.bytes) 1 1) ||| s.fuseStored 1 (leAt (mPay m.bytes) 1 1)) &&& leAt (mPay m.bytes) 8 8 =
          s.fuseStored 0 (leAt (mPay m.bytes) 1 1) ||| s.fuseStored 1 (leAt (mPay m.bytes) 1 1))) flashOk) := by
  rw [exec_fuseProgramOwner, execFuseProgramOwner, critFront_of_critIs h (by simp [fuseOp, hop])]

theorem exec_fuseProgramDebugDisable_eq (flashOk : Bool) (hop : leAt (mPay m.bytes) 0 1 = 3) :
    exec (.fuseProgramDebugDisable flashOk) s = .next (s.fuseProgram m 20 2 true flashOk) := by
  rw [exec_fuseProgramDebugDisable, execFuseProgramDebugDisable, critFront_of_critIs h (by simp [fuseOp, hop])]

end

/-! SET_CMD_KEY, FW_UPDATE and KEY_PROVISION (R529, R531, R532, R575). -/

theorem setCmdKey_runs {s : State} {m : MbxMsg} (h : s.critIs 1 m) (flashOk actionOk : Bool) :
    let k := s.openEnvelope m.bytes (mPay m.bytes) 48
    s.critRuns (.setCmdKey flashOk actionOk) m (mLen m.bytes == 176) k.isSome flashOk (fun t0 =>
      let t := t0.claim
      if actionOk then ({ t with fum := { t.fum with records := { t.fum.records with cmdKey := k } } } : State).critEnd 0 []
      else t.critEnd 0x0A []) :=
  critRuns_of_exec (by rw [exec_setCmdKey, execSetCmdKey, critFront_of_critIs h rfl])

section
variable {s : State} {m : MbxMsg} (h : s.critIs 2 m) (env : Env) (flashOk actionOk : Bool)
include h

theorem fwUpdate_runs (hnew : m.accepted = false) : let p := mPay m.bytes
    s.critRuns (.fwUpdate env flashOk actionOk) m (mLen m.bytes == 16)
      (decide (leAt p 12 1 < 2 ∧ leAt p 12 1 ≠ s.fld F.FUM_BOOT_STAT_RUNNING 0 ∧ leAt p 8 4 ≤ 0xC00000)) flashOk
      (fun t => t.maintRequest .fwUpdate 0) := by
  refine critRuns_of_exec ?_
  rw [exec_fwUpdate, execFwUpdate, critFront_of_critIs h rfl]
  exact congrArg _ (if_neg (by rw [hnew]; decide))

theorem exec_fwUpdate_running (hacc : m.accepted = true) (hruns : s.maintRuns .fwUpdate 0 = true) :
    exec (.fwUpdate env flashOk actionOk) s = .next (s.fwUpdate env (mPay m.bytes) actionOk) := by
  rw [exec_fwUpdate, execFwUpdate, critFront_of_critIs h rfl]
  exact congrArg _ ((if_pos hacc).trans (if_pos hruns))

omit h in
/-- The image read and written, then verified (R575). -/
theorem fwUpdate_read {p : List Byte} (hhost : s.region (leAt p 0 6) = .host) {s1 : State} {bs : List Byte}
    (hread : s.readFor env 0 (leAt p 0 6) (leAt p 8 4) = (s1, .ok bs)) : let s2 := (s1.writeSlot (leAt p 12 1) bs).showBoot
    s.fwUpdate env p actionOk = if actionOk ∧ (s2.fwCheck (leAt p 12 1)).isSome then
        ((s2.setBootRecord (leAt p 12 1) true false).maintFinish .fwUpdate 0).critEnd 0 []
      else (s2.maintFinish .fwUpdate 0).critEnd 0x0A [] := by
  unfold State.fwUpdate
  simp only [hread]
  exact if_neg (not_not_intro hhost)

end

section
variable {s : State} {m : MbxMsg} (h : s.critIs 3 m) (flashOk : Bool)
include h

theorem keyProvision_runs (hmode : leAt (mPay m.bytes) 2 1 ≠ 2) (hnew : m.accepted = false) : let p := mPay m.bytes
    s.critRuns (.keyProvision flashOk) m (mLen m.bytes == 244)
      (decide (leAt p 0 2 < 1024 ∧ leAt p 2 1 < 2 ∧ (leAt p 2 1 = 0 → (s.keySlot (leAt p 0 2)).loaded = false)) &&
        (s.provKey m.bytes).isSome) flashOk (fun t =>
        if leAt p 2 1 = 0 then (t.setKeySlot (leAt p 0 2) ((s.provKey m.bytes).getD {})).critEnd 0 []
        else t.maintRequest .keyRotation 0) := by
  refine critRuns_of_exec ?_
  rw [exec_keyProvision, execKeyProvision, critFront_of_critIs h (by simp [provMode, hmode])]
  exact congrArg _ (if_neg (by rw [hnew]; decide))

theorem exec_keyProvision_rotates (hmode : leAt (mPay m.bytes) 2 1 ≠ 2) (hacc : m.accepted = true)
    (hruns : s.maintRuns .keyRotation 0 = true) :
    exec (.keyProvision flashOk) s = .next (((if s.keyLocked then s else (s.revokeKey (leAt (mPay m.bytes) 0 2)).setKeySlot
      (leAt (mPay m.bytes) 0 2) ((s.provKey m.bytes).getD {})).maintFinish .keyRotation 0).critEnd
      (if s.keyLocked then 0x0A else 0) []) := by
  rw [exec_keyProvision, execKeyProvision, critFront_of_critIs h (by simp [provMode, hmode])]
  exact congrArg _ ((if_pos hacc).trans (if_pos hruns))

theorem keyProvisionSigner_runs (hmode : leAt (mPay m.bytes) 2 1 = 2) : let i := leAt (mPay m.bytes) 0 1
    let v := bit (leAt (mPay m.bytes) 1 1) 0
    s.critRuns (.keyProvisionSigner flashOk) m (mLen m.bytes == 52) (decide (i < 8)) flashOk (fun t =>
      let t1 : State := { t with sec := { t.sec with
        signers := if v then Tbl.set i (BitVec.ofNat 384 (leAt (mPay m.bytes) 4 48)) t.sec.signers else Tbl.del i t.sec.signers } }
      (t1.setFld F.SEC_STAT_SIGNERS 0 (setField (t.fld F.SEC_STAT_SIGNERS 0) i i (ofBit v))).critEnd 0 []) := by
  refine critRuns_of_exec ?_
  rw [exec_keyProvisionSigner, execKeyProvisionSigner, critFront_of_critIs h (by simp [provMode, hmode])]
  rfl

end

/-! DEBUG_CTL (R620). -/

section
variable {s : State} {m : MbxMsg} (h : s.critIs 5 m) (flashOk : Bool)
include h

theorem debugUnlock_runs (hop : leAt (mPay m.bytes) 0 1 = 1) (hnew : m.accepted = false) :
    s.critRuns (.debugUnlock flashOk) m (mLen m.bytes == 8) (!s.debugDisabled) flashOk
      (fun t => (({ t with sec := { t.sec with locked := true } } : State).lockKeys 1).debugOpen) := by
  refine critRuns_of_exec ?_
  rw [exec_debugUnlock, execDebugUnlock, critFront_of_critIs h (by simp [hop])]
  exact congrArg _ (if_neg (by rw [hnew]; decide))

theorem exec_debugUnlock_accepted (hop : leAt (mPay m.bytes) 0 1 = 1) (hacc : m.accepted = true) :
    exec (.debugUnlock flashOk) s = .next s.debugOpen := by
  rw [exec_debugUnlock, execDebugUnlock, critFront_of_critIs h (by simp [hop])]
  exact congrArg _ (if_pos hacc)

theorem debugLock_runs (hop : leAt (mPay m.bytes) 0 1 ≠ 1) :
    s.critRuns (.debugLock flashOk) m (mLen m.bytes == 8) (leAt (mPay m.bytes) 0 1 == 0) flashOk (fun t =>
      let t1 := ((t.setFlag F.SEC_STAT_DEBUG 0 false).setFlag F.VNT_STAT_UNLOCKED 0 false).dropRegs 0xE00008 0xE00018
      ({ t1 with vnt := {} } : State).critEnd 0 []) :=
  critRuns_of_exec (by rw [exec_debugLock, execDebugLock, critFront_of_critIs h (by simp [hop])])

end

theorem debugOpen_open {s : State} (h : s.sec.revs = []) : s.debugOpen = (sinterEvent 0x308 0 (((s.setFlag F.SEC_STAT_DEBUG 0
    true).setFlag F.VNT_STAT_UNLOCKED 0 true).inc F.VNT_STAT_UNLOCK_CNT 0)).critEnd 0 [] := if_pos (by rw [h]; rfl)

theorem debugOpen_waits {s : State} (h : s.sec.revs ≠ []) : s.debugOpen = s := if_neg (by simpa using h)

/-! SET_MEMBERSHIP and TENANCY_SWITCH (R531, R534, R540). -/

section
variable {s : State} {m : MbxMsg} (h : s.critIs 6 m) (flashOk : Bool)
include h

theorem setMembership_empty_runs (hn : leAt (mPay m.bytes) 1 1 = 0) : s.critRuns (.setMembership flashOk) m
    (mLen m.bytes == 16) (decide (leAt (mPay m.bytes) 0 1 < 4)) flashOk (fun t =>
      (t.setDevSet (leAt (mPay m.bytes) 0 1) {}).critEnd 0 []) := by
  refine critRuns_of_exec ?_
  rw [exec_setMembership, execSetMembership, critFront_of_critIs h rfl]
  simp only [hn, if_pos, BEq.rfl, Bool.true_or, Bool.and_true]

theorem setMembership_runs (hn : leAt (mPay m.bytes) 1 1 ≠ 0) : let p := mPay m.bytes
    let i := leAt p 0 1
    let n := leAt p 1 1
    let own := leAt p 2 1
    let key := s.openEnvelope m.bytes (slice p (16 + 56 * n) 160) 32
    s.critRuns (.setMembership flashOk) m (mLen m.bytes == 176 + 56 * n)
      (decide (i < 4) && (decide (2 ≤ n ∧ n ≤ 64 ∧ own < n ∧ (memberAt p own own).serial = s.serialNo ∧
        (memberAt p own own).hash = Config.deviceKeyHash s.deviceSecret) && key.isSome)) flashOk (fun t =>
      (t.setDevSet i { state := 1, id := leAt p 8 8, rank := own, members := (List.range n).map (memberAt p own)
                       key := key.getD [], nonce := none }).critEnd 0 []) := by
  have hbeq : (leAt (mPay m.bytes) 1 1 == 0) = false := beq_false_of_ne hn
  refine critRuns_of_exec ?_
  rw [exec_setMembership, execSetMembership, critFront_of_critIs h rfl]
  simp only [if_neg hn, hbeq, Bool.false_or]

end

section
variable {s : State} {m : MbxMsg} (h : s.critIs 7 m) (flashOk : Bool)
include h

theorem tenancySwitch_runs (hnew : m.accepted = false) : s.critRuns (.tenancySwitch flashOk) m (mLen m.bytes == 8) true flashOk
    (fun t => t.maintRequest .tenancy 0) := by
  refine critRuns_of_exec ?_
  rw [exec_tenancySwitch, execTenancySwitch, critFront_of_critIs h rfl]
  exact congrArg _ (if_pos (by rw [hnew]; rfl))

variable (hacc : m.accepted = true) (hruns : s.maintRuns .tenancy 0 = true)
include hacc hruns

theorem exec_tenancySwitch_running : exec (.tenancySwitch flashOk) s = .next (
    if m.step = 1 then s.tenancyBegin.setFront { m with step := 2 }
    else if (List.range 256).any (fun f => s.flag F.HEP_FN_STAT_DRAINING f) then s
    else s.tenancyEnd (leAt (mPay m.bytes) 0 8)) := by
  rw [exec_tenancySwitch, execTenancySwitch, critFront_of_critIs h rfl]
  exact congrArg _ ((if_neg (by rw [hacc]; decide)).trans (if_neg (by rw [hruns]; decide)))

theorem exec_tenancySwitch_drains (hstep : m.step ≠ 1) (hdrain : ∃ f, f < 256 ∧ s.flag F.HEP_FN_STAT_DRAINING f = true) :
    exec (.tenancySwitch flashOk) s = .next s := by
  obtain ⟨f, hf, hflag⟩ := hdrain
  rw [exec_tenancySwitch_running h flashOk hacc hruns, if_neg hstep,
    if_pos (List.any_eq_true.mpr ⟨f, List.mem_range.mpr hf, hflag⟩)]

theorem exec_tenancySwitch_ends (hstep : m.step ≠ 1) (hdone : ∀ f, f < 256 → s.flag F.HEP_FN_STAT_DRAINING f = false) :
    exec (.tenancySwitch flashOk) s = .next (s.tenancyEnd (leAt (mPay m.bytes) 0 8)) := by
  have hnone : ¬ (List.range 256).any (fun f => s.flag F.HEP_FN_STAT_DRAINING f) = true := by
    intro hany
    obtain ⟨f, hf, hflag⟩ := List.any_eq_true.mp hany
    rw [hdone f (List.mem_range.mp hf)] at hflag
    exact Bool.noConfusion hflag
  rw [exec_tenancySwitch_running h flashOk hacc hruns, if_neg hstep, if_neg hnone]

end

theorem tenancyKeys_sec (s : State) : s.tenancyKeys.sec =
    { s.revokeAll.sec with signers := [], spi := [], log := [], logOver := false, run := 0 } := rfl

theorem tenancyKeys_devSet (s : State) {i : Nat} (hi : i < 4) : s.tenancyKeys.devSet i = {} := by
  rw [State.devSet, tenancyKeys_sec]
  exact revokeAll_devSet s hi

theorem sinterExportSign_runs {s : State} {m : MbxMsg} (h : s.critIs 8 m) (flashOk : Bool) :
    s.critRuns (.sinterExportSign flashOk) m (mLen m.bytes == 32) true flashOk (fun t =>
      t.critEnd 0 (t.exportDigest ++ Config.ecdsaSign 0 t.deviceSecret
        (Config.sha384 (t.exportDigest ++ (mPay m.bytes).take 32)))) :=
  critRuns_of_exec (by rw [exec_sinterExportSign, execSinterExportSign, critFront_of_critIs h rfl])

/-- Settles O58, clause by clause: each command at the front of its queue starts, or goes on where it has been accepted. -/
theorem criticalCommands : Obligations.CriticalCommands := by
  unfold Obligations.CriticalCommands
  refine ⟨fun s m flashOk actionOk h => setCmdKey_runs h flashOk actionOk,
    fun s m env flashOk actionOk h => ⟨fwUpdate_runs h env flashOk actionOk, fun hacc hruns hhost s1 bs hread =>
      ⟨fun i hok hcheck => ?_, fun hbad => ?_⟩⟩,
    fun s m flashOk h => ⟨keyProvision_runs h flashOk, fun hmode hacc hruns => ⟨fun hfree => ?_, fun hlock => ?_⟩,
      keyProvisionSigner_runs h flashOk⟩,
    fun s m flashOk h => ⟨fun hop => fuseProgram_runs (exec_fuseProgramRollback_eq h flashOk hop),
      fun hop => fuseProgram_runs (exec_fuseProgramOwner_eq h flashOk hop),
      fun hop => fuseProgram_runs (exec_fuseProgramDebugDisable_eq h flashOk hop)⟩,
    fun s w bits => ⟨programFuse_stored s w bits (by decide), programFuse_stored s w bits (by decide)⟩,
    fun s m flashOk h => ⟨debugUnlock_runs h flashOk, exec_debugUnlock_accepted h flashOk, debugLock_runs h flashOk⟩,
    fun s => ⟨debugOpen_open, debugOpen_waits⟩,
    fun s m flashOk h => ⟨setMembership_empty_runs h flashOk, setMembership_runs h flashOk⟩,
    fun s m flashOk h => ⟨tenancySwitch_runs h flashOk, fun hacc hruns => ⟨fun hstep => ?_,
      exec_tenancySwitch_drains h flashOk hacc hruns, exec_tenancySwitch_ends h flashOk hacc hruns⟩⟩,
    fun s => ⟨rfl, fun i hi => tenancyKeys_devSet s hi, rfl, rfl, rfl, rfl, rfl, rfl, rfl, rfl, rfl⟩,
    fun s m flashOk h => sinterExportSign_runs h flashOk⟩
  · rw [exec_fwUpdate_running h env flashOk actionOk hacc hruns, fwUpdate_read env actionOk hhost hread,
      if_pos ⟨hok, by rw [hcheck]; rfl⟩]
  · rw [exec_fwUpdate_running h env flashOk actionOk hacc hruns, fwUpdate_read env actionOk hhost hread, if_neg]
    rintro ⟨hok, hsome⟩
    rcases hbad with hbad | hbad
    · rw [hok] at hbad
      exact Bool.noConfusion hbad
    · rw [hbad] at hsome
      exact Bool.noConfusion hsome
  · rw [exec_keyProvision_rotates h flashOk hmode hacc hruns, hfree]
    rfl
  · rw [exec_keyProvision_rotates h flashOk hmode hacc hruns, hlock]
    rfl
  · rw [exec_tenancySwitch_running h flashOk hacc hruns, if_pos hstep]

end Sys2Proof.Machine
end

section
/-! Sinter's periodic sets, the wear of its blocks, what it exports, the log ring, the vent pins, the JTAG instructions and the SPI table
(R520, R597, R604 to R612, R617 to R622). -/

namespace Sys2Proof.Machine

open Sys2Proof

/-! Record sets (R604, R606). -/

/-- A record set that joins the buffer where none of the same instant waits. -/
theorem sinterTake_new {s : State} (h : ∀ x, s.snt.buffer.getLast? = some x → x.time ≠ s.tb.time ∨ x.boot ≠ s.snt.boots)
    (cause : SetCause) (code bytes : Nat) : sinterTake cause code bytes s = { s with snt := { s.snt with
      buffer := s.snt.buffer ++ [⟨s.snt.next, cause, code, s.tb.time, s.snt.boots, s.fum.records.epoch, s.snt.recs, bytes, false, 0⟩]
      bufBytes := s.snt.bufBytes + bytes, next := s.snt.next + 1 } } := by
  unfold sinterTake
  dsimp only
  split
  next x hx =>
    have hother : ¬ (x.time = s.tb.time ∧ x.boot = s.snt.boots) := fun hsame => (h x hx).elim (· hsame.1) (· hsame.2)
    exact if_neg hother
  next hnone => rw [List.getLast?_eq_none_iff.mp hnone, List.nil_append]

section
variable {s : State} {n : Nat} (hpow : s.fum.powered = true) (hn : n ≤ 65536)
  (htime : (s.snt.periods + 1) * 600000000000 ≤ s.tb.time)
include hpow hn htime

theorem exec_periodicSnapshot_due : exec (.periodicSnapshot n) s = .next (
    let s1 := if s.setTaken then s else sinterTake .periodic 0 n s
    let s2 : State := { s1 with snt := { s1.snt with periods := s1.snt.periods + 1 } }
    (if 8192 ≤ s2.snt.bufBytes then sinterFlush s2 else s2).postNotices) := when_pos ⟨hn, hpow, htime⟩ _ _

theorem exec_periodicSnapshot_again (htaken : s.setTaken = true) (hroom : s.snt.bufBytes < 8192) :
    exec (.periodicSnapshot n) s =
      .next ({ s with snt := { s.snt with periods := s.snt.periods + 1 } } : State).postNotices := by
  rw [exec_periodicSnapshot_due hpow hn htime]
  simp only [htaken, if_true, if_neg (Nat.not_le.mpr hroom)]

theorem exec_periodicSnapshot_takes (hnew : s.setTaken = false)
    (h : ∀ x, s.snt.buffer.getLast? = some x → x.time ≠ s.tb.time ∨ x.boot ≠ s.snt.boots) :
    let taken : State := { s with snt := { s.snt with
      buffer := s.snt.buffer ++ [⟨s.snt.next, .periodic, 0, s.tb.time, s.snt.boots, s.fum.records.epoch, s.snt.recs, n, false, 0⟩]
      bufBytes := s.snt.bufBytes + n, next := s.snt.next + 1, periods := s.snt.periods + 1 } }
    exec (.periodicSnapshot n) s =
      .next (if 8192 ≤ s.snt.bufBytes + n then sinterFlush taken else taken).postNotices := by
  rw [exec_periodicSnapshot_due hpow hn htime]
  simp only [hnew, Bool.false_eq_true, if_false, sinterTake_new h]

end

theorem postNotices_of_nil {s : State} (h : s.snt.notices = []) : s.postNotices = s := by
  rw [State.postNotices, h, List.foldl_nil, ← h]

theorem mem_heldSets {cap i : Nat} {l : List RecordSet} {r : RecordSet} :
    r ∈ heldSets cap i l ↔ r ∈ l ∧ (r.perm = true ∨ i < r.index + cap) := by
  simp [heldSets]

theorem permGate_closes {s : State} {r : RecordSet} (h : r.index < 4096 ∧ s.snt.permClosed = false ∧
    s.snt.room true r.bytes = none ∧ s.snt.circBlocks ≤ 32) :
    s.permGate r = sinterRecord 0x327 r.index { s with snt := { s.snt with permClosed := true } } := by
  obtain ⟨hidx, hopen, hroom, hcirc⟩ := h
  exact if_pos ⟨hidx, hopen, by rw [hroom]; rfl, hcirc⟩

theorem permGate_stays {s : State} {r : RecordSet} (h : 4096 ≤ r.index ∨ s.snt.permClosed = true ∨
    s.snt.room true r.bytes ≠ none ∨ 32 < s.snt.circBlocks) : s.permGate r = s := by
  refine if_neg ?_
  rintro ⟨hidx, hopen, hroom, hcirc⟩
  rcases h with h | h | h | h
  · omega
  · rw [hopen] at h
    exact Bool.noConfusion h
  · exact h (Option.isNone_iff_eq_none.mp hroom)
  · omega

/-! The wear of the blocks (R612). -/

/-- `x` differs from `y` in live records, the buffer and the times of FAULT sets alone: its flash is as it was. -/
def FlashKept (y x : Sinter) : Prop :=
  x = { y with recs := x.recs, buffer := x.buffer, bufBytes := x.bufBytes, next := x.next, lastTrig := x.lastTrig
               lastFault := x.lastFault }

theorem FlashKept.trans {x y z : Sinter} (h : FlashKept x y) (k : FlashKept y z) : FlashKept x z := by
  unfold FlashKept at *
  rw [k, h]

theorem sinterRecord_flash (c m : Nat) (s : State) : FlashKept s.snt (sinterRecord c m s).snt := by
  unfold sinterRecord
  split <;> rfl

theorem sinterTake_flash (cause : SetCause) (code bytes : Nat) (s : State) :
    FlashKept s.snt (sinterTake cause code bytes s).snt := by
  unfold sinterTake
  dsimp only
  split
  · split <;> rfl
  · rfl

theorem sinterNote_flash (c m : Nat) (s : State) : FlashKept s.snt (sinterNote c m s).snt := by
  have hrec := sinterRecord_flash c m s
  unfold sinterNote
  dsimp only
  split
  · split
    · exact (hrec.trans (sinterTake_flash _ _ _ _)).trans rfl
    · exact hrec.trans (sinterRecord_flash _ _ _)
  · exact hrec

/-- The event of a retirement, with the count of retired blocks one higher. -/
theorem retireNote_spares {s : State} (b : Nat) (h : 0 < s.snt.spares) :
    FlashKept { s.snt with retired := s.snt.retired + 1 } (s.retireNote b).snt := by
  have hnote := sinterNote_flash 0x322 (flashBlock b) (s.onSnt (fun x => { x with retired := x.retired + 1 }))
  have hspares : 0 < (sinterNote 0x322 (flashBlock b) (s.onSnt (fun x => { x with retired := x.retired + 1 }))).snt.spares := by
    rw [hnote]
    exact h
  rw [State.retireNote]
  simp only [if_pos hspares]
  exact hnote

/-- With the spares used, the circular area gives the replacement. -/
theorem retireNote_degrades {s : State} (b : Nat) (h : s.snt.spares = 0) :
    FlashKept { s.snt with retired := s.snt.retired + 1, circCap := s.snt.circCap - 1, degraded := true
                           notices := s.snt.notices ++ [s.snt.circCap - 1] } (s.retireNote b).snt := by
  have hnote := sinterNote_flash 0x322 (flashBlock b) (s.onSnt (fun x => { x with retired := x.retired + 1 }))
  generalize hs1 : sinterNote 0x322 (flashBlock b) (s.onSnt (fun x => { x with retired := x.retired + 1 })) = s1 at hnote
  have hspares : ¬ 0 < s1.snt.spares := by
    rw [hnote]
    exact Nat.not_lt.mpr (Nat.le_of_eq h)
  have hdown : FlashKept { s.snt with retired := s.snt.retired + 1, circCap := s.snt.circCap - 1, degraded := true
                                      notices := s.snt.notices ++ [s.snt.circCap - 1] }
      (s1.onSnt (fun x => { x with circCap := x.circCap - 1, degraded := true, notices := x.notices ++ [x.circCap - 1] })).snt := by
    unfold FlashKept State.onSnt
    rw [hnote]
    rfl
  rw [State.retireNote]
  simp only [hs1, if_neg hspares]
  exact hdown.trans (sinterRecord_flash _ _ _)

theorem retireNote_retired (s : State) (b : Nat) : (s.retireNote b).snt.retired = s.snt.retired + 1 := by
  rcases Nat.eq_zero_or_pos s.snt.spares with h | h
  · rw [retireNote_degrades b h]
  · rw [retireNote_spares b h]

theorem retireNote_erases (s : State) (b : Nat) : (s.retireNote b).snt.erases = s.snt.erases := by
  rcases Nat.eq_zero_or_pos s.snt.spares with h | h
  · rw [retireNote_degrades b h]
  · rw [retireNote_spares b h]

theorem takeSpare_wear (s : State) : s.takeSpare.1.snt.erases = s.snt.erases ∧ s.takeSpare.1.snt.retired = s.snt.retired := by
  unfold State.takeSpare
  split <;> exact ⟨rfl, rfl⟩

/-- An erase counts for its block; one that retires the block counts it as retired. -/
theorem eraseBlock_wear (s : State) (b : Nat) :
    (s.eraseBlock b).snt.erases = Tbl.set b (Tbl.getD s.snt.erases b 0 + 1) s.snt.erases ∧
    (100000 ≤ Tbl.getD s.snt.erases b 0 + 1 → (s.eraseBlock b).snt.retired = s.snt.retired + 1) := by
  let s1 := s.onSnt (fun x => { x with ops := x.ops + 1, erases := Tbl.set b (Tbl.getD s.snt.erases b 0 + 1) x.erases })
  obtain ⟨hspare, hretired⟩ := takeSpare_wear (s1.retireNote b)
  rw [retireNote_erases] at hspare
  rw [retireNote_retired] at hretired
  unfold State.eraseBlock
  dsimp only
  split
  next hgood => exact ⟨rfl, fun hworn => absurd hgood.2 (Nat.not_lt.mpr hworn)⟩
  next =>
    split
    next heq =>
      rw [heq] at hspare hretired
      exact ⟨hspare, fun _ => hretired⟩
    next heq =>
      rw [heq] at hspare hretired
      exact ⟨hspare, fun _ => hretired⟩

/-! Export (R610). -/

theorem exportUnit_length (s : State) (r : RecordSet) : (s.exportUnit r).length = 131136 := by
  have hrecs : ((List.range 1024).flatMap (fun c => recordWords (Tbl.getD r.recs c {}))).length = 1024 * 16 := by
    rw [length_flatMap_const (c := 16) (fun _ => rfl), List.length_range]
  unfold State.exportUnit
  dsimp only
  rw [length_flatMap_const (c := 8) (fun n => length_toBytes 8 n), List.length_append, hrecs]
  simp only [List.length_cons, List.length_nil]

section
variable {s : State} (hgo : s.flag F.SNT_EXP_CMD_GO 0 = true) (hup : s.fwUp = true) (env : Env)
include hgo hup

theorem exec_sinterExport_refused (h : s.region (s.fld F.SNT_EXP_ADDR_ADDR 0 * 4096) ≠ .host ∨ s.fld F.SNT_EXP_CMD_COUNT 0 = 0) :
    exec (.sinterExport env) s = .next ((s.setFlag F.SNT_EXP_CMD_GO 0 false).exportEnd 0 1) :=
  (when_pos ⟨hgo, hup⟩ _ _).trans (congrArg _ (if_pos h))

theorem exec_sinterExport_written {s2 : State} {n : Nat} {bad : Bool}
    (hhost : s.region (s.fld F.SNT_EXP_ADDR_ADDR 0 * 4096) = .host) (hcount : s.fld F.SNT_EXP_CMD_COUNT 0 ≠ 0)
    (hunits : exportUnits env (s.fld F.SNT_EXP_ADDR_ADDR 0 * 4096) 0 (s.snt.stored.filter (fun r =>
      decide (s.fld F.SNT_EXP_CMD_FIRST 0 ≤ r.index ∧ r.index < s.fld F.SNT_EXP_CMD_FIRST 0 + s.fld F.SNT_EXP_CMD_COUNT 0)))
      (s.setFlag F.SNT_EXP_CMD_GO 0 false) = .ok (s2, n, bad)) :
    exec (.sinterExport env) s = .next (s2.exportEnd n (if bad then 2 else 0)) := by
  have hgoes : ¬ (s.region (s.fld F.SNT_EXP_ADDR_ADDR 0 * 4096) ≠ .host ∨ s.fld F.SNT_EXP_CMD_COUNT 0 = 0) := by
    simp [hhost, hcount]
  refine (when_pos ⟨hgo, hup⟩ _ _).trans (congrArg _ ((if_neg hgoes).trans ?_))
  rw [hunits]

end

/-! The log ring (R617, R618). -/

section
variable {s : State} {sev core id : Nat} {trace : Bool} (hen : s.flag F.SNT_LOG_CFG_EN 0 = true) (hup : s.fwUp = true)
  (hsev : sev < 4) (hcore : core < 4)
  (hpoint : trace = true → id < 256 ∧ bit (s.fld (F.SNT_TRACE_EN_EN.at (id / 64)) 0) (id % 64) = true) (a0 a1 : Word) (env : Env)
include hen hup hsev hcore hpoint

theorem exec_logEntryWrite_full
    (hfull : (s.fld F.SNT_LOG_IDX_HW_IDX 0 + 2 ^ 32 - s.fld F.SNT_LOG_IDX_SW_IDX 0) % 2 ^ 32 = s.logEntries) :
    exec (.logEntryWrite sev core trace id a0 a1 env) s =
      .next { s.logDrop with snt := { s.logDrop.snt with logSeq := s.logDrop.snt.logSeq + 1 } } :=
  (when_pos ⟨hen, hup, hsev, hcore, hpoint⟩ _ _).trans (congrArg _ (if_pos (Or.inl hfull)))

theorem exec_logEntryWrite_written {s1 : State} (hhost : s.region s.snt.logBase = .host)
    (hroom : ¬ (s.fld F.SNT_LOG_IDX_HW_IDX 0 + 2 ^ 32 - s.fld F.SNT_LOG_IDX_SW_IDX 0) % 2 ^ 32 = s.logEntries)
    (hwrite : s.writeFor env 0 (s.snt.logBase + 32 * (s.fld F.SNT_LOG_IDX_HW_IDX 0 % s.logEntries))
      (s.logBytes sev core trace id a0 a1) = (s1, .ok ())) :
    exec (.logEntryWrite sev core trace id a0 a1 env) s =
      .next { s1.setFld F.SNT_LOG_IDX_HW_IDX 0 (s.fld F.SNT_LOG_IDX_HW_IDX 0 + 1) with
        snt := { s1.snt with logSeq := s1.snt.logSeq + 1 } } := by
  have hgoes : ¬ ((s.fld F.SNT_LOG_IDX_HW_IDX 0 + 2 ^ 32 - s.fld F.SNT_LOG_IDX_SW_IDX 0) % 2 ^ 32 = s.logEntries ∨
      s.region s.snt.logBase ≠ .host) := fun h => h.elim hroom (· hhost)
  refine (when_pos ⟨hen, hup, hsev, hcore, hpoint⟩ _ _).trans (congrArg _ ((if_neg hgoes).trans ?_))
  rw [hwrite]
  rfl

end

theorem exec_logEntryWrite_off {s : State} {id : Nat} (sev core : Nat) (a0 a1 : Word) (env : Env)
    (h : s.flag F.SNT_LOG_CFG_EN 0 = false ∨ bit (s.fld (F.SNT_TRACE_EN_EN.at (id / 64)) 0) (id % 64) = false) :
    exec (.logEntryWrite sev core true id a0 a1 env) s = .next s := by
  refine when_neg ?_ _ _
  rintro ⟨hen, -, -, -, hpoint⟩
  obtain ⟨-, hbit⟩ := hpoint rfl
  simp [hen, hbit] at h

theorem logChanged_on {old s : State} (hold : old.flag F.SNT_LOG_CFG_EN 0 = false) (hnew : s.flag F.SNT_LOG_CFG_EN 0 = true) :
    State.logChanged old s = { ((s.setFld F.SNT_LOG_IDX_HW_IDX 0 0).setFld F.SNT_LOG_IDX_SW_IDX 0 0) with
      snt := { s.snt with logBase := s.fld F.SNT_LOG_BASE_BASE 0 * 4096, logSize := s.fld F.SNT_LOG_CFG_SIZE 0, logSeq := 0 } } :=
  if_pos (by rw [hold, hnew]; rfl)

theorem logChanged_not {old s : State} (h : old.flag F.SNT_LOG_CFG_EN 0 = true ∨ s.flag F.SNT_LOG_CFG_EN 0 = false) :
    State.logChanged old s = s := if_neg (by rcases h with h | h <;> simp [h])

/-! The vent pins (R621). -/

theorem ventSample_leads {s : State} (v : Nat) (hopen : s.flag F.VNT_STAT_UNLOCKED 0 = true) (hen : s.flag F.VNT_CTL_EN 0 = true)
    (htime : s.vnt.lastSample + 4 * 2 ^ s.fld F.VNT_CTL_DIV 0 ≤ s.tb.time) : Leads (.ventSample v) s (fun t =>
      t.vnt.pins = v % 65536 ∧ t.vnt.lastSample = s.tb.time ∧ (s.fld F.VNT_CTL_STROBE 0 = 0 → t.vnt.strobe = true) ∧
      (s.fld F.VNT_CTL_STROBE 0 = 1 → (t.vnt.strobe = true ↔ v % 65536 &&& s.fld F.VNT_MATCH_MASK 0 =
        s.fld F.VNT_MATCH_VALUE 0 &&& s.fld F.VNT_MATCH_MASK 0)) ∧ t = { s with vnt := t.vnt }) := by
  refine ⟨_, when_pos ⟨hopen, hen, htime⟩ _ _, rfl, rfl, fun hmode => ?_, fun hmode => ?_, rfl⟩
  · simp only [hmode]
  · simp only [hmode, beq_iff_eq]

/-! The SPI table (R520). -/

theorem spiReserved_zero {s : State} (i : Nat) {v : Nat} (hvalid : bit v 63 = true) (hzero : field v 31 0 = 0) :
    s.spiReserved i v = true := by
  rw [State.spiReserved, hvalid, hzero]
  rfl

/-- Settles O59, clause by clause. -/
theorem observation : Obligations.Observation := by
  unfold Obligations.Observation
  refine ⟨fun s n hpow hn htime => ⟨fun hnew hbuf => ⟨fun hroom => ?_, fun hfull => ?_⟩,
      exec_periodicSnapshot_again hpow hn htime⟩,
    fun s h => postNotices_of_nil h, fun _ _ _ _ => mem_heldSets,
    fun s r => ⟨fun h => ⟨?_, permGate_closes h⟩, permGate_stays⟩,
    fun s b => ⟨retireNote_retired s b, fun h => ⟨by rw [retireNote_spares b h], by rw [retireNote_spares b h]⟩,
      fun h => ⟨by rw [retireNote_degrades b h], by rw [retireNote_degrades b h], by rw [retireNote_degrades b h]⟩⟩,
    fun s b => ⟨?_, (eraseBlock_wear s b).2⟩,
    fun s env hgo hup => ⟨exec_sinterExport_refused hgo hup env, fun s2 n bad => exec_sinterExport_written hgo hup env⟩,
    exportUnit_length,
    fun s sev core trace id a0 a1 env hen hup hsev hcore hpoint hhost =>
      ⟨exec_logEntryWrite_full hen hup hsev hcore hpoint a0 a1 env,
        fun s1 => exec_logEntryWrite_written hen hup hsev hcore hpoint a0 a1 env hhost⟩,
    fun s sev core id a0 a1 env => exec_logEntryWrite_off sev core a0 a1 env,
    fun s0 who v hready hwho => ⟨fun hold hnew => ?_, fun h => ?_⟩,
    fun s v => ventSample_leads v, fun s v h => when_neg (fun hc => by simp [hc.1, hc.2.1] at h) _ _,
    fun s code g hpow => ⟨when_pos hpow _ _, fun hcode => ?_, fun hopen => ?_, fun hopen => ?_, fun hperst => ?_, fun hperst => ?_⟩,
    fun s0 who v hready hwho => ⟨fun hres => ?_, fun hres => ?_⟩,
    fun s i v => spiReserved_zero i⟩
  · rw [exec_periodicSnapshot_takes hpow hn htime hnew hbuf, if_neg (Nat.not_le.mpr hroom)]
  · rw [exec_periodicSnapshot_takes hpow hn htime hnew hbuf, if_pos hfull]
  · rw [permGate_closes h, sinterRecord_flash]
  · rw [(eraseBlock_wear s b).1, Tbl.getD_set_same]
  · exact (when_pos ⟨hready, hwho⟩ _ _).trans (congrArg _ (logChanged_on hold hnew))
  · exact (when_pos ⟨hready, hwho⟩ _ _).trans (congrArg _ (logChanged_not h))
  · rw [exec_vsinter, execVsinter, when_pos hpow, Nat.mod_eq_of_lt hcode]
  · exact (when_pos hpow _ _).trans (congrArg _ (if_pos hopen))
  · exact (when_pos hpow _ _).trans (congrArg _ (if_neg (by rw [hopen]; decide)))
  · exact (when_pos hpow _ _).trans (congrArg _ (if_pos hperst))
  · exact (when_pos hpow _ _).trans (congrArg _ (if_neg (by rw [hperst]; decide)))
  · exact (when_pos ⟨hready, hwho⟩ _ _).trans (congrArg _ (if_pos hres))
  · exact (when_pos ⟨hready, hwho⟩ _ _).trans (congrArg _ (if_neg (by rw [hres]; decide)))

end Sys2Proof.Machine
end

section
/-! Key slots, the key clauses, packages and device sets (R505 to R507, R513, R514, R521 to R524, R532). -/

namespace Sys2Proof.Machine

open Sys2Proof

/-! The use of a key slot (R505, R506). -/

theorem keySlot_of_sec {s t : State} (h : t.sec = s.sec) (k : Nat) : t.keySlot k = s.keySlot k := by
  rw [State.keySlot, State.keySlot, h]

theorem keySlot_setKeySlot_ne (s : State) {j k : Nat} (h : j ≠ k) (x : KeySlot) : (s.setKeySlot k x).keySlot j = s.keySlot j :=
  Tbl.getD_put_ne h _ _ _ _

theorem useKey_empty {s : State} {k : Nat} {u : KeyUse} (h : s.keyServes k u = false) : s.useKey k u = (s, .error 0x700) :=
  if_pos (by rw [h]; rfl)

theorem useKey_exhausted {s : State} {k : Nat} {u : KeyUse} (h : s.keyServes k u = true)
    (hlimit : (s.keySlot k).limit ≤ (s.keySlot k).used) :
    s.useKey k u = (s.inc F.SEC_FN_STAT_EXHAUST_CNT (s.keyOwner k), .error 0x701) :=
  (if_neg (by rw [h]; decide)).trans (if_pos hlimit)

theorem ite_postEvent_sec (c : Prop) [Decidable c] (s : State) (env : Env) (fn code : Nat) (res : Word) (st : Nat) :
    (if c then s.postEvent env fn code res st else s).sec = s.sec :=
  (IoOnly.ite (postEvent_io s env fn code res st) (IoOnly.refl s)).sec

/-- A use counts; its events change no slot. -/
theorem useKey_counts {s : State} {k : Nat} {u : KeyUse} (h : s.keyServes k u = true)
    (hlimit : (s.keySlot k).used < (s.keySlot k).limit) : let x := s.keySlot k
    ∃ t, s.useKey k u = (t, .ok x) ∧ t.sec = (s.setKeySlot k { x with
      used := x.used + 1, warn := x.warn || x.used + 1 == max 1 (x.limit * 7 / 8) }).sec := by
  refine ⟨_, (if_neg (by rw [h]; decide)).trans (if_neg (Nat.not_le.mpr hlimit)), ?_⟩
  rw [ite_postEvent_sec, ite_postEvent_sec]

theorem useKey_effect {s : State} {k : Nat} {u : KeyUse} (h : s.keyServes k u = true)
    (hlimit : (s.keySlot k).used < (s.keySlot k).limit) : let x := s.keySlot k
    ∃ t, s.useKey k u = (t, .ok x) ∧
      t.keySlot k = { x with used := x.used + 1, warn := x.warn || x.used + 1 == max 1 (x.limit * 7 / 8) } ∧
      (∀ j, j ≠ k → t.keySlot j = s.keySlot j) := by
  obtain ⟨t, hkey, hsec⟩ := useKey_counts h hlimit
  refine ⟨t, hkey, ?_, fun j hj => ?_⟩
  · rw [keySlot_of_sec hsec, State.keySlot_setKeySlot_same]
  · rw [keySlot_of_sec hsec, keySlot_setKeySlot_ne s hj]

/-! A clause's operand read. -/

theorem clauseRead_ok {s s1 : State} {env : Env} {n fn a len : Nat} {bs : List Byte} (h : s.readFor env fn a len = (s1, .ok bs))
    (f : State → List Byte → State) : s.clauseRead env n fn a len f = f s1 bs := by
  rw [State.clauseRead, h]

/-! KLOAD, KREVOKE and KQUERY (R507, R510, R513, R514). -/

section
variable {s : State} {n : Nat} {env : Env} {x : Slot} (hclause : s.clauseAt n 9 0 = some x)
  (hrsv : field (wordAt x.words 1) 15 10 = 0) (hrsv2 : field (wordAt x.words 1) 63 26 = 0) (haddr : wordAt x.words 2 < 2 ^ 48)
  (halign : wordAt x.words 2 % 64 = 0) (hzero : zeroFrom x.words 3 = true) (hdom : s.domain 26 = .ready)
include hclause hrsv hrsv2 haddr halign hzero hdom

theorem exec_kload_admitted :
    (s.keyLocked = true → exec (.kload n env) s = .next (s.slotDone n 0x702 0)) ∧
    (∀ s1 b s2 kk, s.keyLocked = false → s.readFor env x.fn (wordAt x.words 2) 128 = (s1, .ok b) →
      s1.keyOwner (field (wordAt x.words 1) 9 0) = x.fn → s1.keyOwner (field (wordAt x.words 1) 25 16) = x.fn →
      s1.useKey (field (wordAt x.words 1) 25 16) .wrap = (s2, .ok kk) →
      let opened := gcmOpen kk.key (slice b 0x20 12) (b.take 0x30) (slice b 0x30 64) (slice b 0x70 16)
      (blobBad b = true → exec (.kload n env) s = .next (s2.authFailed n x.fn 1)) ∧
      (blobBad b = false → opened = none → exec (.kload n env) s = .next (s2.authFailed n x.fn 6)) ∧
      (∀ m, blobBad b = false → opened = some m → exec (.kload n env) s =
        .next (((s2.revokeKey (field (wordAt x.words 1) 9 0)).setKeySlot (field (wordAt x.words 1) 9 0)
          (blobSlot b m)).slotDone n 0 0))) := by
  have hgood : ¬ (field (wordAt x.words 1) 15 10 ≠ 0 ∨ field (wordAt x.words 1) 63 26 ≠ 0 ∨ 2 ^ 48 ≤ wordAt x.words 2 ∨
      wordAt x.words 2 % 64 ≠ 0 ∨ (!zeroFrom x.words 3) = true) := by
    simp [hrsv, hrsv2, halign, hzero]
    omega
  rw [exec_kload, execKload, hclause]
  dsimp only
  rw [if_neg hgood, withDomain_ready hdom]
  refine ⟨fun hlock => by rw [if_pos hlock]; rfl, fun s1 b s2 kk hfree hread hown hkek hkey => ?_⟩
  have howners : ¬ (s1.keyOwner (field (wordAt x.words 1) 9 0) ≠ x.fn ∨ s1.keyOwner (field (wordAt x.words 1) 25 16) ≠ x.fn) := by
    simp [hown, hkek]
  rw [if_neg (Bool.eq_false_iff.mp hfree), clauseRead_ok hread, if_neg howners, hkey]
  dsimp only
  refine ⟨fun hbad => by rw [if_pos hbad], fun hok hnone => ?_, fun m hok hsome => ?_⟩
  · rw [if_neg (Bool.eq_false_iff.mp hok), hnone]
  · rw [if_neg (Bool.eq_false_iff.mp hok), hsome]
    rfl

end

section
variable {s : State} {n : Nat} {x : Slot} (hslot : wordAt x.words 1 < 1024) (hzero : zeroFrom x.words 2 = true)
  (hdom : s.domain 26 = .ready)
include hslot hzero hdom

theorem exec_krevoke_admitted (hclause : s.clauseAt n 9 1 = some x) (hnew : ∀ r ∈ s.sec.revs, r.clause ≠ n) :
    exec (.krevoke n) s = .next (if s.keyOwner (wordAt x.words 1) ≠ x.fn ∨ (s.keySlot (wordAt x.words 1)).loaded = false then
        s.slotDone n 0x700 0
      else { s with sec := { s.sec with
        slots := Tbl.put {} (wordAt x.words 1) {} s.sec.slots
        revs := s.sec.revs ++ [⟨n, wordAt x.words 1, (s.keySlot (wordAt x.words 1)).used⟩] } }) := by
  have hnone : ¬ s.sec.revs.any (fun r => r.clause == n) = true := by simpa using hnew
  have hgood : ¬ (1024 ≤ wordAt x.words 1 ∨ (!zeroFrom x.words 2) = true) := by simp [hslot, hzero]
  rw [exec_krevoke, execKrevoke, hclause]
  dsimp only
  rw [if_neg hnone, if_neg hgood, withDomain_ready hdom, field_whole hslot]
  rfl

theorem krevoke_leads (hclause : s.clauseAt n 9 1 = some x) (hnew : ∀ r ∈ s.sec.revs, r.clause ≠ n)
    (hown : s.keyOwner (wordAt x.words 1) = x.fn) (hloaded : (s.keySlot (wordAt x.words 1)).loaded = true) :
    Leads (.krevoke n) s (fun t => t.keySlot (wordAt x.words 1) = {} ∧
      (∀ j, j ≠ wordAt x.words 1 → t.keySlot j = s.keySlot j) ∧
      t.sec.revs = s.sec.revs ++ [⟨n, wordAt x.words 1, (s.keySlot (wordAt x.words 1)).used⟩] ∧
      t = { s with sec := { s.sec with slots := t.sec.slots, revs := t.sec.revs } }) := by
  have hgoes : ¬ (s.keyOwner (wordAt x.words 1) ≠ x.fn ∨ (s.keySlot (wordAt x.words 1)).loaded = false) := by
    simp [hown, hloaded]
  exact ⟨_, (exec_krevoke_admitted hslot hzero hdom hclause hnew).trans (congrArg _ (if_neg hgoes)),
    State.keySlot_setKeySlot_same s _ {}, fun j hj => keySlot_setKeySlot_ne s hj {}, rfl, rfl⟩

theorem exec_kquery_admitted (hclause : s.clauseAt n 9 2 = some x) : exec (.kquery n) s =
    .next (s.slotDone n 0 (BitVec.ofNat 64 (if s.keyOwner (wordAt x.words 1) = x.fn then keyWord (s.keySlot (wordAt x.words 1))
      else 0))) := by
  have hgood : ¬ (1024 ≤ wordAt x.words 1 ∨ (!zeroFrom x.words 2) = true) := by simp [hslot, hzero]
  rw [exec_kquery, execKquery, hclause]
  dsimp only
  rw [if_neg hgood, withDomain_ready hdom, field_whole hslot]
  rfl

end

/-! PKG_LOAD (R514, R521 to R524). -/

section
variable {s : State} {n : Nat} {env : Env} {x : Slot} (hclause : s.clauseAt n 9 3 = some x) (hsrc : wordAt x.words 1 < 2 ^ 48)
  (hdest : wordAt x.words 2 < 2 ^ 48) (hcap : wordAt x.words 3 < 2 ^ 48) (hslot : wordAt x.words 4 < 1024)
  (hzero : zeroFrom x.words 5 = true) (hdom : s.domain 26 = .ready) (hfree : s.keyLocked = false)
  (hrange : s.checkClause x.fn true (wordAt x.words 2) (wordAt x.words 3) = .ok ())
include hclause hsrc hdest hcap hslot hzero hdom hfree hrange

theorem exec_pkgLoad_admitted {s1 : State} {h : List Byte} (hread : s.readFor env x.fn (wordAt x.words 1) 512 = (s1, .ok h)) :
    let known := ∃ e ∈ s1.sec.signers, e.2 = Config.sha384 (slice h 0x60 96)
    ((pkgBad h = true ∨ leAt h 6 2 = 4) → exec (.pkgLoad n env) s = .next (s1.authFailed n x.fn 1)) ∧
    (pkgBad h = false → leAt h 6 2 ≠ 4 →
      (¬ known → exec (.pkgLoad n env) s = .next (s1.authFailed n x.fn 2)) ∧
      (known → pkgSigned h = false → exec (.pkgLoad n env) s = .next (s1.authFailed n x.fn 3)) ∧
      (∀ s2 key, known → pkgSigned h = true → s1.pkgKey x.fn (leAt h 0x10 8) (wordAt x.words 4) = (s2, .ok key) →
        (wordAt x.words 3 < pkgLen h → exec (.pkgLoad n env) s = .next (s2.authFailed n x.fn 7)) ∧
        (∀ s3 b, pkgLen h ≤ wordAt x.words 3 →
          s2.readFor env x.fn (wordAt x.words 1 + 512) (pkgLen h + 16) = (s3, .ok b) →
          (∀ r, pkgOpen key h (b.take (pkgLen h)) (b.drop (pkgLen h)) = .error r → exec (.pkgLoad n env) s =
            .next ((s3.zeroRange env x.fn (wordAt x.words 2) (pkgLen h)).authFailed n x.fn r)) ∧
          (∀ pt s4, pkgOpen key h (b.take (pkgLen h)) (b.drop (pkgLen h)) = .ok pt →
            s3.writeChecked env x.fn (wordAt x.words 2) pt = (s4, .ok ()) → exec (.pkgLoad n env) s =
              .next ((s4.measure h).slotDone n 0 (BitVec.ofNat 64 (pkgLen h))))))) := by
  have hgood : ¬ (2 ^ 48 ≤ wordAt x.words 1 ∨ 2 ^ 48 ≤ wordAt x.words 2 ∨ 2 ^ 48 ≤ wordAt x.words 3 ∨
      1024 ≤ wordAt x.words 4 ∨ (!zeroFrom x.words 5) = true) := by
    simp [hslot, hzero]
    omega
  have hany : s1.sec.signers.any (fun e => decide (e.2 = Config.sha384 (slice h 0x60 96))) = true ↔
      ∃ e ∈ s1.sec.signers, e.2 = Config.sha384 (slice h 0x60 96) := by simp [List.any_eq_true]
  rw [exec_pkgLoad, execPkgLoad, hclause]
  dsimp only
  rw [if_neg hgood, withDomain_ready hdom, if_neg (Bool.eq_false_iff.mp hfree), hrange]
  dsimp only
  rw [clauseRead_ok hread]
  refine ⟨fun hbad => by rw [if_pos hbad], fun hok hkind => ?_⟩
  rw [if_neg (by simp [hok, hkind])]
  refine ⟨fun hunknown => ?_, fun hknown hsig => ?_, fun s2 key hknown hsig hkey => ?_⟩
  · rw [Bool.eq_false_iff.mpr (fun e => hunknown (hany.mp e))]
    rfl
  · rw [hany.mpr hknown, hsig]
    rfl
  · rw [hany.mpr hknown, hsig, hkey]
    refine ⟨fun hsmall => congrArg _ (if_pos hsmall), fun s3 b hfits hread2 => ?_⟩
    have hlen : ¬ wordAt x.words 3 < pkgLen h := Nat.not_lt.mpr hfits
    refine ⟨fun r hopen => ?_, fun pt s4 hopen hwrite => ?_⟩
    · refine congrArg _ ((if_neg hlen).trans ?_)
      rw [hread2]
      dsimp only
      rw [hopen]
    · refine congrArg _ ((if_neg hlen).trans ?_)
      rw [hread2]
      dsimp only
      rw [hopen]
      dsimp only
      rw [hwrite]
      rfl

end

/-! PROVE_NONCE and PROVE (R513, R535, R536). -/

theorem allProven_iff (l : List SetMember) : l.all (fun q => q.proven) = true ↔ (l.filter (fun q => q.proven)).length = l.length := by
  rw [List.length_filter_eq_length_iff, List.all_eq_true]

section
variable {s s1 : State} {n : Nat} {env : Env} {x : Slot} (hfn : x.fn = 0) (hdom : s.domain 26 = .ready)
  (hfree : s.keyLocked = false)
include hfn hdom hfree

theorem exec_proveNonce_admitted (hclause : s.clauseAt n 9 4 = some x) (hset : wordAt x.words 1 < 4)
    (hdest : wordAt x.words 2 < 2 ^ 48) (hzero : zeroFrom x.words 3 = true)
    (hrange : s.checkClause 0 true (wordAt x.words 2) 32 = .ok ()) :
    ((s.devSet (wordAt x.words 1)).state = 0 → exec (.proveNonce n env) s = .next (s.slotDone n 0x704 0)) ∧
    ((s.devSet (wordAt x.words 1)).state ≠ 0 →
      s.tick.writeChecked env 0 (wordAt x.words 2) (randomBytes s.fresh) = (s1, .ok ()) →
      exec (.proveNonce n env) s = .next ((s1.setDevSet (wordAt x.words 1)
        { s1.devSet (wordAt x.words 1) with nonce := some (randomBytes s.fresh) }).slotDone n 0 0)) := by
  have hgood : ¬ (x.fn ≠ 0 ∨ 4 ≤ wordAt x.words 1 ∨ 2 ^ 48 ≤ wordAt x.words 2 ∨ (!zeroFrom x.words 3) = true) := by
    simp [hfn, hset, hzero]
    omega
  rw [exec_proveNonce, execProveNonce, hclause]
  dsimp only
  rw [if_neg hgood, withDomain_ready hdom, if_neg (Bool.eq_false_iff.mp hfree), hfn, hrange]
  refine ⟨fun hempty => congrArg _ (if_pos hempty), fun hset hwrite => congrArg _ ((if_neg hset).trans ?_)⟩
  rw [hwrite]
  rfl

theorem exec_prove_admitted {bs : List Byte} {mb : SetMember} {e : Evidence} (hclause : s.clauseAt n 9 5 = some x)
    (hrsv : field (wordAt x.words 1) 15 2 = 0) (hrsv2 : field (wordAt x.words 1) 63 24 = 0) (haddr : wordAt x.words 2 < 2 ^ 48)
    (hlen : wordAt x.words 3 < 2 ^ 16) (hzero : zeroFrom x.words 4 = true)
    (hread : s.readFor env 0 (wordAt x.words 2) (wordAt x.words 3) = (s1, .ok bs))
    (hset : (s1.devSet (field (wordAt x.words 1) 1 0)).state ≠ 0)
    (hmember : (s1.devSet (field (wordAt x.words 1) 1 0)).members[field (wordAt x.words 1) 23 16]? = some mb)
    (hev : Config.evidence bs = some e) :
    let i := field (wordAt x.words 1) 1 0
    let d := s1.devSet i
    let spent := s1.setDevSet i { d with nonce := none }
    let d1 := ({ d with nonce := none } : DevSet).prove (field (wordAt x.words 1) 23 16)
    let cnt := (d1.members.filter (fun q => q.proven)).length
    (evidencePasses d mb e = false → exec (.prove n env) s = .next (spent.authFailed n 0 8)) ∧
    (evidencePasses d mb e = true → cnt < d1.members.length → exec (.prove n env) s =
      .next ((spent.setDevSet i d1).slotDone n 0 (BitVec.ofNat 64 cnt))) ∧
    (evidencePasses d mb e = true → cnt = d1.members.length → d.state = 1 → exec (.prove n env) s =
      .next (((spent.setDevSet i { d1 with state := 2 }).postEvent env 0 0xA005 (BitVec.ofNat 64 i) 0).slotDone n 0
        (BitVec.ofNat 64 cnt))) := by
  have hgood : ¬ (x.fn ≠ 0 ∨ field (wordAt x.words 1) 15 2 ≠ 0 ∨ field (wordAt x.words 1) 63 24 ≠ 0 ∨ 2 ^ 48 ≤ wordAt x.words 2 ∨
      2 ^ 16 ≤ wordAt x.words 3 ∨ (!zeroFrom x.words 4) = true) := by
    simp [hfn, hrsv, hrsv2, hzero]
    omega
  rw [exec_prove, execProve, hclause]
  dsimp only
  rw [if_neg hgood, withDomain_ready hdom, if_neg (Bool.eq_false_iff.mp hfree), hfn, clauseRead_ok hread, if_neg hset, hmember, hev]
  dsimp only
  refine ⟨fun hfail => ?_, fun hpass hsome => ?_, fun hpass hall hstate => ?_⟩
  · rw [hfail]
    rfl
  · have hnot := Bool.eq_false_iff.mpr (fun hall => Nat.ne_of_lt hsome ((allProven_iff _).mp hall))
    rw [hpass, hnot]
    rfl
  · have hyes := (allProven_iff _).mpr hall
    rw [hpass, hyes, hstate]
    rfl

end

/-- Settles O41, clause by clause. -/
theorem keyClauses : Obligations.KeyClauses := by
  unfold Obligations.KeyClauses
  refine ⟨fun s k u => ⟨useKey_empty, useKey_exhausted, useKey_effect, fun hlock => by rw [State.keyServes, hlock]; rfl⟩,
    fun s n env x => exec_kload_admitted,
    fun s n x hclause hslot hzero hdom hnew => ⟨fun h => ?_, krevoke_leads hslot hzero hdom hclause hnew⟩,
    fun s k r hrev => ?_,
    fun s n x hclause hslot hzero hdom => ⟨fun hown => ?_, fun hown => ?_⟩,
    fun s n env x hclause hsrc hdest hcap hslot hzero hdom hfree hrange s1 h =>
      exec_pkgLoad_admitted hclause hsrc hdest hcap hslot hzero hdom hfree hrange,
    fun s n env x s1 hclause hfn hset hdest hzero hdom hfree =>
      exec_proveNonce_admitted hfn hdom hfree hclause hset hdest hzero,
    fun s n env x s1 bs mb e hclause hfn hrsv hrsv2 haddr hlen hzero hdom hfree =>
      exec_prove_admitted hfn hdom hfree hclause hrsv hrsv2 haddr hlen hzero⟩
  · rw [exec_krevoke_admitted hslot hzero hdom hclause hnew, if_pos h]
  · rw [exec_revocationComplete, execRevocationComplete, hrev]
    rfl
  · rw [exec_kquery_admitted hslot hzero hdom hclause, if_pos hown]
  · rw [exec_kquery_admitted hslot hzero hdom hclause, if_neg hown]
    rfl

end Sys2Proof.Machine
end

section
/-! RESTORE, FETCH, DONE and EXPORT: a copy of the buddy area comes back, or goes into memory (R553, R561, R562, R567, R568). -/

namespace Sys2Proof.Machine

open Sys2Proof

/-! RESTORE (R567). -/

theorem restoreFields_sound {s : State} {x : Slot} (hfn : x.fn = s.buddyFn) (hsel : wordAt x.words 1 < 3)
    (hzero : zeroFrom x.words 4 = true) : ¬ (x.fn ≠ s.buddyFn ∨ 3 ≤ wordAt x.words 1 ∨ (!zeroFrom x.words 4) = true) := by
  simp [hfn, hsel, hzero]

section
variable {s : State} {slot : Nat} {x : Slot} (hclause : s.clauseAt slot 6 1 = some x)
  (hnew : s.ckp.restore.any (fun r => r.slot == slot && !r.dead) = false)
include hclause hnew

theorem exec_restore_bad (h : x.fn ≠ s.buddyFn ∨ 3 ≤ wordAt x.words 1) :
    exec (.restore slot) s = .next (s.slotDone slot 0x10 0) := by
  have hbad : x.fn ≠ s.buddyFn ∨ 3 ≤ wordAt x.words 1 ∨ (!zeroFrom x.words 4) = true := h.imp_right Or.inl
  rw [exec_restore, execRestore, hclause]
  dsimp only
  rw [hnew, if_neg Bool.false_ne_true, if_pos hbad]
  rfl

variable (hfn : x.fn = s.buddyFn) (hsel : wordAt x.words 1 < 3) (hzero : zeroFrom x.words 4 = true)
include hfn hsel hzero

theorem exec_restore_off (hprog : x.progress = none) (hdom : s.domain 27 = .off) :
    exec (.restore slot) s = .next (s.slotDone slot 0x101 0) := by
  rw [exec_restore, execRestore, hclause]
  dsimp only
  rw [hnew, if_neg Bool.false_ne_true, if_neg (restoreFields_sound hfn hsel hzero), withDomainOf_new hprog, withDomain_off hdom]

/-- A RESTORE that is admitted goes on to its lanes, the engine and the activity. -/
theorem exec_restore_admitted (hadm : x.progress ≠ none ∨ s.domain 27 = .ready) :
    (∀ st, s.lanesFail = some st → exec (.restore slot) s = .next (s.slotDone slot st 0)) ∧
    (s.lanesFail = none → (s.ckIdle = false ∨ s.ckp.restore.isSome = true) → exec (.restore slot) s =
      .next (s.openRanges slot x [])) ∧
    (s.lanesFail = none → s.ckIdle = true → s.ckp.restore = none → let t := s.ckJoin
      (t.maintRuns .checkpoint 0 = false → exec (.restore slot) s = .next t) ∧
      (t.maintRuns .checkpoint 0 = true → exec (.restore slot) s = .next
        (((t.withCkp { t.ckp with restore := some { slot := slot, since := s.tb.time } }).setCkState 5).ckSay
          (s.lanes.headD 0) (.fetch (wordAt x.words 1) (wordAt x.words 2) (wordAt x.words 3))))) := by
  have hof : ∀ f, s.withDomainOf slot x 27 f = f := fun f => hadm.elim
    (fun hprog => withDomainOf_admitted hprog s slot 27 f)
    (fun hready => withDomainOf_ready hready slot x f)
  rw [exec_restore, execRestore, hclause]
  dsimp only
  rw [hnew, if_neg Bool.false_ne_true, if_neg (restoreFields_sound hfn hsel hzero), hof]
  refine ⟨fun st hfail => by rw [hfail], fun hok hbusy => ?_, fun hok hidle hnone => ⟨fun hwaits => ?_, fun hruns => ?_⟩⟩
  · have hbusy' : (!s.ckIdle) = true ∨ s.ckp.restore.isSome = true := hbusy.imp_left (fun h => by rw [h]; rfl)
    rw [hok]
    exact congrArg _ (if_pos hbusy')
  all_goals
    have hfree : ¬ ((!s.ckIdle) = true ∨ s.ckp.restore.isSome = true) := by simp [hidle, hnone]
    rw [hok]
    refine congrArg _ ((if_neg hfree).trans ?_)
  · exact if_neg (Bool.eq_false_iff.mp hwaits)
  · exact if_pos hruns

end

/-! FETCH (R567). -/

section
variable {s : State} {env : Env} {q sel serial step : Nat} {rest : List (Nat × CkMsg)}
  (h : s.ckGets q (.fetch sel serial step) rest) (hidle : s.ckp.serving = none)
include h hidle

theorem exec_fetch_none (hpick : s.ckSelect sel (if serial = 0 then s.qpSerial q else serial) step = none) :
    exec (.fetch env) s = .next ((s.withCkInbox rest).ckSay q (.done 0x600)) := by
  rw [exec_fetch, execFetch, ckFront_gets h rfl]
  refine congrArg _ ((if_neg (by rw [hidle]; decide)).trans ?_)
  rw [hpick]
  rfl

variable {k : Nat} (hpick : s.ckSelect sel (if serial = 0 then s.qpSerial q else serial) step = some k)
include hpick

theorem exec_fetch_waits (hwaits : s.ckJoin.maintRuns .checkpoint 0 = false) : exec (.fetch env) s = .next s.ckJoin := by
  rw [exec_fetch, execFetch, ckFront_gets h rfl]
  refine congrArg _ ((if_neg (by rw [hidle]; decide)).trans ?_)
  rw [hpick]
  exact if_pos (by rw [hwaits]; rfl)

variable (hruns : s.ckJoin.maintRuns .checkpoint 0 = true)
include hruns

theorem exec_fetch_refused {st : Nat} (hfail : s.checkRange s.buddyFn false true (s.ckSlotBase k) (s.ckSlotLen k) = .fail st) :
    exec (.fetch env) s = .next ((s.ckJoin.withCkp (s.withCkInbox rest).ckp).ckSay q (.done st)).ckSettle := by
  rw [exec_fetch, execFetch, ckFront_gets h rfl]
  refine congrArg _ ((if_neg (by rw [hidle]; decide)).trans ?_)
  rw [hpick]
  refine (if_neg (by rw [hruns]; decide)).trans ?_
  rw [hfail]
  rfl

/-- Without partner lanes the header and the data go out on the queue pair of the FETCH (R547). -/
theorem exec_fetch_serves {s3 : State} {hd : List Byte}
    (hok : s.checkRange s.buddyFn false true (s.ckSlotBase k) (s.ckSlotLen k) = .ok ())
    (hread : (s.ckJoin.withCkp (s.withCkInbox rest).ckp).readChecked env s.buddyFn (s.ckSlotBase k) 0x1000 = (s3, .ok hd))
    (hnone : ∀ i, i < 8 → s.flag (F.CKP_PARTNER_EN.at i) 0 = false) :
    let m := lanePackets 0 1 (leAt hd 0x20 8)
    let s4 := (s3.withCkp { s3.ckp with serving := some (k, q), servingEpoch := s.fld F.MEM_FN_FENCE_EPOCH s.buddyFn }).ckSay q
      (.header hd)
    exec (.fetch env) s = .next (if m = 0 then s4
      else s4.pushWqe q { slot := none, kind := .ckData none 0 1 k (leAt hd 0x20 8), n := m }) := by
  have hlanes : (List.range 8).filter (fun i => s.flag (F.CKP_PARTNER_EN.at i) 0) = [] :=
    List.filter_eq_nil_iff.mpr (fun i hi => Bool.eq_false_iff.mp (hnone i (List.mem_range.mp hi)))
  rw [exec_fetch, execFetch, ckFront_gets h rfl]
  refine congrArg _ ((if_neg (by rw [hidle]; decide)).trans ?_)
  rw [hpick]
  refine (if_neg (by rw [hruns]; decide)).trans ?_
  rw [hok, hlanes]
  extract_lets +onlyGivenNames s2
  have hread2 : s2.readChecked env s.buddyFn (s.ckSlotBase k) 0x1000 = (s3, .ok hd) := hread
  rw [hread2]
  rfl

end

/-- Whether slot `k` holds what a FETCH asks for. -/
def State.ckFits (s : State) (sel serial step k : Nat) : Bool :=
  decide (sel = 0 ∨ sel = k + 1) && s.ckSlotState k == 2 && leAt (s.devRead (s.ckSlotBase k) 64) 8 8 == serial &&
    (step == 0 || leAt (s.devRead (s.ckSlotBase k) 64) 0x10 8 == step)

theorem ckSelect_eq (s : State) (sel serial step : Nat) : s.ckSelect sel serial step =
    if s.ckFits sel serial step 0 ∧ s.ckFits sel serial step 1 then some (if s.ckWriteNo 0 < s.ckWriteNo 1 then 1 else 0)
    else if s.ckFits sel serial step 0 then some 0 else if s.ckFits sel serial step 1 then some 1 else none := rfl

theorem ckFits_iff {s : State} {sel serial step k : Nat} : s.ckFits sel serial step k = true ↔
    (sel = 0 ∨ sel = k + 1) ∧ s.ckSlotState k = 2 ∧ leAt (s.devRead (s.ckSlotBase k) 64) 8 8 = serial ∧
    (step = 0 ∨ leAt (s.devRead (s.ckSlotBase k) 64) 0x10 8 = step) := by
  simp [State.ckFits, and_assoc]

/-- The slot that is selected fits, and no slot that fits is newer. -/
theorem ckSelect_some {s : State} {sel serial step k : Nat} (h : s.ckSelect sel serial step = some k) :
    k < 2 ∧ s.ckFits sel serial step k = true ∧
    ∀ j, j < 2 → s.ckFits sel serial step j = true → s.ckWriteNo j ≤ s.ckWriteNo k := by
  have hj : ∀ j, j < 2 → j = 0 ∨ j = 1 := by omega
  rw [ckSelect_eq] at h
  by_cases h0 : s.ckFits sel serial step 0 = true <;> by_cases h1 : s.ckFits sel serial step 1 = true
  · rw [if_pos ⟨h0, h1⟩, Option.some.injEq] at h
    split at h <;> subst h
    next hnewer => exact ⟨by decide, h1, fun j hlt _ => by rcases hj j hlt with rfl | rfl <;> omega⟩
    next holder => exact ⟨by decide, h0, fun j hlt _ => by rcases hj j hlt with rfl | rfl <;> omega⟩
  · rw [if_neg (fun hb => h1 hb.2), if_pos h0, Option.some.injEq] at h
    subst h
    refine ⟨by decide, h0, fun j hlt hfits => ?_⟩
    rcases hj j hlt with rfl | rfl
    · exact Nat.le_refl _
    · exact absurd hfits h1
  · rw [if_neg (fun hb => h0 hb.1), if_neg h0, if_pos h1, Option.some.injEq] at h
    subst h
    refine ⟨by decide, h1, fun j hlt hfits => ?_⟩
    rcases hj j hlt with rfl | rfl
    · exact absurd hfits h0
    · exact Nat.le_refl _
  · rw [if_neg (fun hb => h0 hb.1), if_neg h0, if_neg h1] at h
    cases h

/-- Of the slots that fit without a slot named, the newest is taken (R567 step 1). -/
theorem ckSelect_newest {s : State} {serial step j k : Nat} (hk : s.ckSelect 0 serial step = some k)
    (hj : s.ckSelect (j + 1) serial step = some j) : s.ckWriteNo j ≤ s.ckWriteNo k := by
  obtain ⟨hlt, hfits, -⟩ := ckSelect_some hj
  obtain ⟨-, hstate, hserial, hstep⟩ := ckFits_iff.mp hfits
  exact (ckSelect_some hk).2.2 j hlt (ckFits_iff.mpr ⟨.inl rfl, hstate, hserial, hstep⟩)

/-! DONE (R567). -/

section
variable {s : State} {env : Env} {q st : Nat} {rest : List (Nat × CkMsg)} {r : CkRestore}
  (h : s.ckGets q (.done st) rest) (hrestore : s.ckp.restore = some r)
include h hrestore

theorem exec_doneMsg_noCopy (hheader : r.header = none) (hst : st = 0x600) : exec (.doneMsg env) s =
    .next ((s.withCkInbox rest).restoreEnd 0x600 (BitVec.ofNat 64 (3 * 2 ^ 56))) := by
  subst hst
  rw [exec_doneMsg, execDoneMsg, ckFront_gets h rfl]
  dsimp only
  rw [hrestore]
  dsimp only
  rw [hheader]
  rfl

theorem exec_doneMsg_copy {hd : List Byte} (hheader : r.header = some hd) (hlive : r.dead = false) :
    let s0 := s.withCkInbox rest
    let rs := ckRegions hd
    let m := ckAssemble (leAt hd 0x20 8) r.got
    (st ≠ 0 → exec (.doneMsg env) s = .next ((s0.ckSpoil rs).restoreEnd st 0)) ∧
    (st = 0 → ckCrcsOk hd m = false → exec (.doneMsg env) s = .next ((s0.ckSpoil rs).restoreEnd 0x602 0)) ∧
    (∀ s1, st = 0 → ckCrcsOk hd m = true → s0.ckWriteBack env m rs = (s1, .ok ()) →
      exec (.doneMsg env) s = .next (s1.restoreEnd 0 (BitVec.ofNat 64 (leAt hd 0x20 8)))) := by
  rw [exec_doneMsg, execDoneMsg, ckFront_gets h rfl]
  dsimp only
  rw [hrestore]
  dsimp only
  rw [hheader]
  dsimp only
  rw [hlive, if_neg Bool.false_ne_true]
  refine ⟨fun hfail => by rw [if_pos hfail], fun hok hcrc => ?_, fun s1 hok hcrc hwrite => ?_⟩
  · rw [if_neg (not_not_intro hok), hcrc]
    rfl
  · rw [if_neg (not_not_intro hok), hcrc, hwrite]
    rfl

end

/-! EXPORT (R553, R568). -/

theorem exportFields_sound {s : State} {x : Slot} (hfn : x.fn = s.buddyFn) (hk : wordAt x.words 1 < 2)
    (hdest : wordAt x.words 2 < 2 ^ 48) (hcap : wordAt x.words 3 < 2 ^ 48) (hzero : zeroFrom x.words 4 = true) :
    ¬ (x.fn ≠ s.buddyFn ∨ 2 ≤ wordAt x.words 1 ∨ 2 ^ 48 ≤ wordAt x.words 2 ∨ 2 ^ 48 ≤ wordAt x.words 3 ∨
      (!zeroFrom x.words 4) = true) := by
  simp [hfn, hk, hzero]
  omega

section
variable {s : State} {slot : Nat} {env : Env} {x : Slot} (hclause : s.clauseAt slot 6 2 = some x)
include hclause

theorem exec_exportClause_copies (hexp : s.ckp.exporting = some (slot, wordAt x.words 1))
    (hruns : s.maintRuns .checkpoint 0 = true) : exec (.exportClause slot env) s =
      .next (s.ckExport env slot (wordAt x.words 1) (wordAt x.words 2) (wordAt x.words 3)) := by
  rw [exec_exportClause, execExportClause, hclause]
  dsimp only
  rw [if_pos hexp, if_pos hruns]

variable (hnone : s.ckp.exporting = none)
include hnone

theorem exec_exportClause_bad (hbad : x.fn ≠ s.buddyFn ∨ 2 ≤ wordAt x.words 1) :
    exec (.exportClause slot env) s = .next (s.slotDone slot 0x10 0) := by
  have hnew : ¬ s.ckp.exporting = some (slot, wordAt x.words 1) := by simp [hnone]
  rw [exec_exportClause, execExportClause, hclause]
  dsimp only
  rw [if_neg hnew, if_pos (hbad.imp_right Or.inl)]
  rfl

variable (hfn : x.fn = s.buddyFn) (hk : wordAt x.words 1 < 2) (hdest : wordAt x.words 2 < 2 ^ 48)
  (hcap : wordAt x.words 3 < 2 ^ 48) (hzero : zeroFrom x.words 4 = true)
include hfn hk hdest hcap hzero

theorem exec_exportClause_off (hprog : x.progress = none) (hdom : s.domain 27 = .off) :
    exec (.exportClause slot env) s = .next (s.slotDone slot 0x101 0) := by
  rw [exec_exportClause, execExportClause, hclause]
  dsimp only
  rw [if_neg (by simp [hnone]), if_neg (exportFields_sound hfn hk hdest hcap hzero), withDomainOf_new hprog, withDomain_off hdom]

theorem exec_exportClause_refused {st : Nat} (hprog : x.progress = none) (hdom : s.domain 27 = .ready)
    (hfail : s.ckExportCheck x.fn (wordAt x.words 1) (wordAt x.words 2) (wordAt x.words 3) = .fail st) :
    exec (.exportClause slot env) s = .next ((s.refuse x.fn st).slotDone slot st 0) := by
  rw [exec_exportClause, execExportClause, hclause]
  dsimp only
  rw [if_neg (by simp [hnone]), if_neg (exportFields_sound hfn hk hdest hcap hzero), withDomainOf_ready hdom, hprog, hfail]
  rfl

/-- An EXPORT whose checks have passed, now (`s1` has opened its range) or before, waits for the engine and for the activity. -/
theorem exec_exportClause_passed {s1 : State}
    (hpass : (x.progress = none ∧ s.domain 27 = .ready ∧
        s.ckExportCheck x.fn (wordAt x.words 1) (wordAt x.words 2) (wordAt x.words 3) = .ok () ∧
        s1 = s.openRanges slot x [(wordAt x.words 2, wordAt x.words 3)]) ∨ (x.progress ≠ none ∧ s1 = s)) :
    (s.ckIdle = false → exec (.exportClause slot env) s = .next s1) ∧
    (s.ckIdle = true → let t := s1.ckJoin
      (t.maintRuns .checkpoint 0 = false → exec (.exportClause slot env) s = .next t) ∧
      (t.maintRuns .checkpoint 0 = true → exec (.exportClause slot env) s =
        .next ((t.withCkp { t.ckp with exporting := some (slot, wordAt x.words 1) }).setCkState 6))) := by
  have hgoes : exec (.exportClause slot env) s = .next (if (!s.ckIdle) = true ∨ s.ckp.exporting.isSome = true then s1
      else s1.ckRun (fun t => (t.withCkp { t.ckp with exporting := some (slot, wordAt x.words 1) }).setCkState 6)) := by
    rw [exec_exportClause, execExportClause, hclause]
    dsimp only
    rw [if_neg (by simp [hnone]), if_neg (exportFields_sound hfn hk hdest hcap hzero)]
    rcases hpass with ⟨hprog, hdom, hcheck, rfl⟩ | ⟨hprog, rfl⟩
    · rw [withDomainOf_ready hdom, hprog, hcheck]
      rfl
    · rw [withDomainOf_admitted hprog, Option.isSome_iff_ne_none.mpr hprog]
      rfl
  rw [hgoes, hnone]
  refine ⟨fun hbusy => by rw [hbusy]; rfl, fun hidle => ?_⟩
  rw [hidle]
  exact ⟨fun hwaits => congrArg _ (if_neg (Bool.eq_false_iff.mp hwaits)), fun hruns => congrArg _ (if_pos hruns)⟩

end

/-- The end of an EXPORT: the engine is idle again, the clause completes. -/
def State.exportFin (t : State) (slot st res : Nat) : State :=
  (((t.withCkp { t.ckp with exporting := none }).setCkState 0).slotDone slot st (BitVec.ofNat 64 res)).ckSettle

section
variable {s : State} {env : Env} {slot k dest cap : Nat}

theorem ckExport_noCopy (hstate : s.ckSlotState k ≠ 2) : s.ckExport env slot k dest cap = s.exportFin slot 0x600 (3 * 2 ^ 56) :=
  if_pos hstate

variable {s1 : State} {h : List Byte} (hstate : s.ckSlotState k = 2)
  (hread : s.readChecked env s.buddyFn (s.ckSlotBase k) 0x1000 = (s1, .ok h))
include hstate hread

theorem ckExport_version (hnew : leAt h 4 2 ≠ s.versions.1) (hold : leAt h 4 2 + 1 ≠ s.versions.1) :
    s.ckExport env slot k dest cap = s1.exportFin slot 0x603 0 := by
  refine (if_neg (not_not_intro hstate)).trans ?_
  rw [hread]
  exact if_pos ⟨hnew, hold⟩

variable (hformat : leAt h 4 2 = s.versions.1 ∨ leAt h 4 2 + 1 = s.versions.1)
include hformat

theorem ckExport_small (hcap : cap < 0x1000 + leAt h 0x20 8) :
    s.ckExport env slot k dest cap = s1.exportFin slot 0x601 0 := by
  refine (if_neg (not_not_intro hstate)).trans ?_
  rw [hread]
  exact (if_neg (fun hbad => hformat.elim hbad.1 hbad.2)).trans (if_pos hcap)

variable {s2 : State} {b : List Byte} (hcap : 0x1000 + leAt h 0x20 8 ≤ cap)
  (hdata : s1.readChecked env s.buddyFn (s.ckSlotBase k + 0x1000) (leAt h 0x20 8) = (s2, .ok b))
include hcap hdata

theorem ckExport_crc (hcrc : ckCrcsOk h (Memory.writeList 0 b {}) = false) :
    s.ckExport env slot k dest cap = s2.exportFin slot 0x602 0 := by
  refine (if_neg (not_not_intro hstate)).trans ?_
  rw [hread]
  refine (if_neg (fun hbad => hformat.elim hbad.1 hbad.2)).trans ((if_neg (Nat.not_lt.mpr hcap)).trans ?_)
  rw [hdata]
  exact if_pos (by rw [hcrc]; rfl)

theorem ckExport_written {s3 : State} (hcrc : ckCrcsOk h (Memory.writeList 0 b {}) = true)
    (hwrite : s2.writeChecked env s.buddyFn dest (h ++ b) = (s3, .ok ())) :
    s.ckExport env slot k dest cap = s3.exportFin slot 0 (0x1000 + leAt h 0x20 8) := by
  refine (if_neg (not_not_intro hstate)).trans ?_
  rw [hread]
  refine (if_neg (fun hbad => hformat.elim hbad.1 hbad.2)).trans ((if_neg (Nat.not_lt.mpr hcap)).trans ?_)
  rw [hdata]
  refine (if_neg (by rw [hcrc]; decide)).trans ?_
  rw [hwrite]
  rfl

end

theorem ckExportCheck_area {s : State} {fn dest cap : Nat} (k : Nat) (hdest : s.checkClause fn true dest cap = .ok ())
    (harea : s.buddySize ≠ 0) :
    s.ckExportCheck fn k dest cap = s.checkRange fn false true (s.ckSlotBase k) (s.ckSlotLen k) := by
  rw [State.ckExportCheck, hdest]
  exact if_neg harea

/-- Settles O51, clause by clause. -/
theorem checkpointRestore : Obligations.CheckpointRestore := by
  unfold Obligations.CheckpointRestore
  refine ⟨fun s slot x hclause hnew => ⟨exec_restore_bad hclause hnew, exec_restore_off hclause hnew,
      exec_restore_admitted hclause hnew⟩,
    fun s env q sel serial step rest h hidle => ⟨exec_fetch_none h hidle, fun k => exec_fetch_waits h hidle,
      fun k st hpick hruns => exec_fetch_refused h hidle hpick hruns,
      fun k s3 hd hpick hruns => exec_fetch_serves h hidle hpick hruns⟩,
    fun s sel serial step k h => ?_,
    fun s env q st rest r h hrestore => ⟨exec_doneMsg_noCopy h hrestore, fun hd => exec_doneMsg_copy h hrestore⟩,
    fun s slot env x hclause => ⟨exec_exportClause_copies hclause, exec_exportClause_bad hclause,
      fun hnone hfn hk hdest hcap hzero => ⟨exec_exportClause_off hclause hnone hfn hk hdest hcap hzero,
        fun st => exec_exportClause_refused hclause hnone hfn hk hdest hcap hzero,
        fun s1 => exec_exportClause_passed hclause hnone hfn hk hdest hcap hzero⟩⟩,
    fun s fn k dest cap => ckExportCheck_area k,
    fun s env slot k dest cap => ⟨ckExport_noCopy, fun s1 h hstate hread => ⟨ckExport_version hstate hread,
      fun hformat => ⟨ckExport_small hstate hread hformat, fun s2 b hcap hdata =>
        ⟨ckExport_crc hstate hread hformat hcap hdata, fun s3 => ckExport_written hstate hread hformat hcap hdata⟩⟩⟩⟩⟩
  obtain ⟨hlt, hfits, -⟩ := ckSelect_some h
  obtain ⟨hsel, hstate, hserial, hstep⟩ := ckFits_iff.mp hfits
  refine ⟨hlt, hsel, hstate, hserial, hstep, fun j hzero hj => ?_⟩
  subst hzero
  exact ckSelect_newest h hj

end Sys2Proof.Machine
end

section
/-! The commands of queue pairs, memory regions, peers and groups (R444 to R449, R454, R455, R472, R476, R477). -/

namespace Sys2Proof.Machine

open Sys2Proof

/-! A command's result and its block (R445). -/

theorem rdmDone_shows (s : State) (fn r i k : Nat) :
    (s.rdmDone fn r i k).fld F.RDM_RESULT_RESULT fn = r % 2 ^ F.RDM_RESULT_RESULT.width ∧
    (s.rdmDone fn r i k).fld F.RDM_RESULT_INDEX fn = i % 2 ^ F.RDM_RESULT_INDEX.width ∧
    (s.rdmDone fn r i k).flag F.RDM_RESULT_BUSY fn = false ∧ (s.rdmDone fn r i k).flag F.RDM_RESULT_DONE fn = true ∧
    s.rdmDone fn r i k = { s with regs := (s.rdmDone fn r i k).regs } := by
  refine ⟨?_, ?_, ?_, flag_setFlag_same rfl _ _ _, rfl⟩
  · rw [State.rdmDone, fld_setFlag_place (by decide), fld_setFlag_place (by decide), fld_setFld_place (by decide),
      fld_setFld_place (by decide), fld_setFld_same]
  · rw [State.rdmDone, fld_setFlag_place (by decide), fld_setFlag_place (by decide), fld_setFld_place (by decide),
      fld_setFld_same]
  · rw [State.rdmDone, flag_setFlag_place (by decide), flag_setFlag_same rfl]

theorem rdmBlock_ok {s s1 : State} {fn : Nat} {env : Env} {bs : List Byte}
    (h : (s.rdmAccept fn).readFor env fn (s.rdmAddr fn) 64 = (s1, .ok bs)) (f : State → List Word → State) :
    s.rdmBlock fn env f = f s1 (wordsOf 8 bs) := by
  rw [State.rdmBlock, h]

theorem rdmWrite_ok {s s1 : State} {fn : Nat} {env : Env} {ws : List Word}
    (h : (s.rdmAccept fn).writeFor env fn (s.rdmAddr fn) (bytesOfWords ws) = (s1, .ok ())) :
    s.rdmWrite fn env ws = s1.rdmDone fn 0 (s.rdmIndex fn) 0 := by
  rw [State.rdmWrite, h]

theorem filter_some_of_pos {α : Type} {p : α → Bool} {o : Option α} {x : α} (ho : o = some x) (hp : p x = true) :
    o.filter p = some x := by
  rw [ho, Option.filter, if_pos hp]

/-- The key that `firstFree` answers is no key of the table, and none below the first one tried. -/
theorem firstFree_some {α : Type} {t : Tbl α} {fuel k q : Nat} (h : Tbl.firstFree t fuel k = some q) :
    k ≤ q ∧ Tbl.find? q t = none := by
  induction fuel generalizing k with
  | zero => cases h
  | succ fuel ih =>
    rw [Tbl.firstFree] at h
    cases hk : Tbl.has t k with
    | true =>
      rw [if_pos hk] at h
      obtain ⟨hle, hfree⟩ := ih h
      exact ⟨by omega, hfree⟩
    | false =>
      rw [if_neg (Bool.eq_false_iff.mp hk), Option.some.injEq] at h
      subst h
      exact ⟨Nat.le_refl k, Option.not_isSome_iff_eq_none.mp (Bool.eq_false_iff.mp hk)⟩

/-! QP_CREATE and the transitions of a queue pair (R444, R446, R447). -/

/-- The queue pair that a block of QP_CREATE describes. -/
def newQp (fn : Nat) (b : List Word) : Qp :=
  { fn := fn, raw := bit (wordAt b 0) 3, pd := field (wordAt b 0) 31 16, sq := field (wordAt b 1) 13 0
    rq := field (wordAt b 1) 29 16, rqEn := bit (wordAt b 1) 30 }

section
variable {s s1 : State} {fn : Nat} {env : Env} {bs : List Byte} (hready : s.rdmReady fn 0 0 = true)
  (hread : (s.rdmAccept fn).readFor env fn (s.rdmAddr fn) 64 = (s1, .ok bs))
include hready hread

theorem exec_qpCreate_read : let x := newQp fn (wordsOf 8 bs)
    exec (.qpCreate fn env) s = .next (if s1.qpInvalid fn x.raw x.pd x.sq x.rq x.rqEn then s1.rdmDone fn 2 (s.rdmIndex fn) 0
      else (Tbl.firstFree s1.rdm.qps 0xBFFFE 2).elim (s1.rdmDone fn 1 (s.rdmIndex fn) 0)
        (fun q => ((s1.setQp q x).touchQp q).rdmDone fn 0 q 0)) := by
  refine (when_pos hready _ _).trans (congrArg _ ?_)
  rw [rdmBlock_ok hread]
  dsimp only
  congr 1
  cases Tbl.firstFree s1.rdm.qps 0xBFFFE 2 <;> rfl

end

theorem ok_of_ite_error {α ε : Type} {c : Prop} [Decidable c] {e : ε} {y z : α}
    (h : (if c then Except.error e else .ok y) = .ok z) : y = z := by
  split at h
  · cases h
  · exact Except.ok.inj h

/-- A MODIFY that is taken moves the queue pair along R444, and leaves what QP_CREATE gave it. -/
theorem modifyQp_ok {s : State} {x : Qp} {b : List Word} {y : Qp} (h : s.modifyQp x b = .ok y) :
    ((x.state, y.state) = (0, 1) ∨ (x.state, y.state) = (1, 2) ∨ (x.state, y.state) = (2, 3) ∨ (x.state, y.state) = (4, 0)) ∧
    y.state = field (wordAt b 0) 2 0 ∧ y.fn = x.fn ∧ y.raw = x.raw ∧ y.pd = x.pd ∧ y.sq = x.sq ∧ y.rq = x.rq := by
  unfold State.modifyQp at h
  dsimp only at h
  split at h
  next hto hfrom =>
    obtain rfl := Except.ok.inj h
    rw [hto, hfrom]
    exact ⟨.inl rfl, rfl, rfl, rfl, rfl, rfl, rfl⟩
  next hto hfrom =>
    rw [hto, hfrom]
    split at h
    · obtain rfl := Except.ok.inj h
      exact ⟨.inr (.inl rfl), rfl, rfl, rfl, rfl, rfl, rfl⟩
    · obtain rfl := ok_of_ite_error h
      exact ⟨.inr (.inl rfl), rfl, rfl, rfl, rfl, rfl, rfl⟩
  next hto hfrom =>
    rw [hto, hfrom]
    split at h
    · obtain rfl := Except.ok.inj h
      exact ⟨.inr (.inr (.inl rfl)), rfl, rfl, rfl, rfl, rfl, rfl⟩
    · obtain rfl := ok_of_ite_error h
      exact ⟨.inr (.inr (.inl rfl)), rfl, rfl, rfl, rfl, rfl, rfl⟩
  next hto hfrom =>
    obtain rfl := Except.ok.inj h
    rw [hto, hfrom]
    exact ⟨.inr (.inr (.inr rfl)), rfl, rfl, rfl, rfl, rfl, rfl⟩
  next => cases h

theorem qpBusy_of_io {s t : State} (h : IoOnly s t) (q : Nat) : t.qpBusy q = s.qpBusy q := by
  rw [State.qpBusy, State.qpBusy, h.sch, h.rdm]

/-! QP_MODIFY, the end of its wait, QP_DESTROY and QP_QUERY (R444 to R446). -/

section
variable {s s1 : State} {fn : Nat} {env : Env} {bs : List Byte} {x : Qp} (hkind : s.fld F.RDM_CMD_KIND fn = 0)
  (hready : s.rdmReady fn 0 1 = true) (hread : (s.rdmAccept fn).readFor env fn (s.rdmAddr fn) 64 = (s1, .ok bs))
  (hqp : s.qp? (s.rdmIndex fn) = some x) (hfn : x.fn = fn) (hgroup : x.group = none)
include hkind hready hread hqp hfn hgroup

theorem exec_qpModify_read :
    (field (wordAt (wordsOf 8 bs) 0) 2 0 = 4 → x.state ≠ 4 →
      exec (.qpModify fn env) s = .next ((s1.qpError (s.rdmIndex fn) 9 none 0).rdmDone fn 0 (s.rdmIndex fn) 0)) ∧
    (field (wordAt (wordsOf 8 bs) 0) 2 0 ≠ 4 →
      (∀ r, s1.modifyQp x (wordsOf 8 bs) = .error r →
        exec (.qpModify fn env) s = .next (s1.rdmDone fn r (s.rdmIndex fn) 0)) ∧
      (∀ y, s1.modifyQp x (wordsOf 8 bs) = .ok y → exec (.qpModify fn env) s =
        .next (if y.state = 0 ∧ s1.qpBusy (s.rdmIndex fn) then
            (s1.setFlag F.RDM_RESULT_BUSY fn true).rdmWait ⟨fn, 0, s.rdmIndex fn⟩
          else ((s1.setQp (s.rdmIndex fn) y).touchQp (s.rdmIndex fn)).rdmDone fn 0 (s.rdmIndex fn) 0))) := by
  have hmine : (s.qp? (s.rdmIndex fn)).filter (fun x => x.fn == fn && x.group.isNone) = some x :=
    filter_some_of_pos hqp (by simp [hfn, hgroup])
  have hio1 := readFor_io (s.rdmAccept fn) env fn (s.rdmAddr fn) 64
  rw [hread] at hio1
  have hio : IoOnly s s1 := (setFld_io s _ _ _ : IoOnly s (s.rdmAccept fn)).trans hio1
  rw [exec_qpModify, execQpModify, hkind]
  dsimp only
  rw [if_pos hready, if_neg (not_not_intro rfl), hmine]
  dsimp only
  rw [rdmBlock_ok hread]
  refine ⟨fun hto hstate => congrArg _ ((if_pos hto).trans (if_neg hstate)), fun hto => ⟨fun r herr => ?_, fun y hok => ?_⟩⟩
  · refine congrArg _ ((if_neg hto).trans ?_)
    rw [herr]
  · refine congrArg _ ((if_neg hto).trans ?_)
    obtain ⟨-, hstate, -⟩ := modifyQp_ok hok
    rw [hok, hstate, qpBusy_of_io hio]

end

section
variable {s : State} {w : RdmWait} {x : Qp} (hwaits : s.rdm.waits = [w]) (hkind : w.kind = 0) (hqp : s.qp? w.index = some x)
include hwaits hkind hqp

theorem settleWaits_modify : s.settleWaits = if s.qpBusy w.index then s else
    ((({ s with rdm := { s.rdm with waits := [] } } : State).setQp w.index x.toReset).touchQp w.index).rdmDone w.fn 0 w.index 0 := by
  have hnone : [w].filter (fun y => decide (y ≠ w)) = [] := by simp
  have hkind' : ¬ w.kind = 1 := by omega
  rw [State.settleWaits, hwaits, List.foldl_cons, List.foldl_nil, hwaits, hnone]
  refine (if_neg hkind').trans ?_
  congr 1
  rw [show ({ s with rdm := { s.rdm with waits := [] } } : State).qp? w.index = some x from hqp]

end

section
variable {s : State} {fn : Nat} {x : Qp} (hqp : s.qp? (s.rdmIndex fn) = some x) (hfn : x.fn = fn)
include hqp hfn

theorem exec_qpDestroy_ready (hready : s.rdmReady fn 0 2 = true) (hgroup : x.group = none) : exec (.qpDestroy fn) s =
    .next (((s.rdmAccept fn).dropQp (s.rdmIndex fn)).rdmDone fn 0 (s.rdmIndex fn) 0) := by
  refine (when_pos hready _ _).trans (congrArg _ ?_)
  dsimp only
  rw [filter_some_of_pos hqp (by simp [hfn, hgroup])]

theorem exec_qpQuery_ready {env : Env} {s1 : State} (hready : s.rdmReady fn 0 3 = true)
    (hwrite : (s.rdmAccept fn).writeFor env fn (s.rdmAddr fn) (bytesOfWords x.block) = (s1, .ok ())) :
    exec (.qpQuery fn env) s = .next (s1.rdmDone fn 0 (s.rdmIndex fn) 0) := by
  refine (when_pos hready _ _).trans (congrArg _ ?_)
  rw [filter_some_of_pos hqp (by simp [hfn])]
  exact rdmWrite_ok hwrite

end

/-! Memory regions (R454, R455). -/

section
variable {s s1 : State} {fn : Nat} {env : Env} {bs : List Byte} (hready : s.rdmReady fn 1 0 = true)
  (hread : (s.rdmAccept fn).readFor env fn (s.rdmAddr fn) 64 = (s1, .ok bs))
include hready hread

theorem exec_regionCreate_read : let b := wordsOf 8 bs
    let base := field (wordAt b 0) 47 0
    let len := field (wordAt b 1) 47 0
    let w2 := wordAt b 2
    let bad := len = 0 ∨ 2 ^ 47 < len ∨ s1.region base = .hole ∨ s1.region (base + len - 1) = .hole
    (bad → exec (.regionCreate fn env) s = .next (s1.rdmDone fn 2 (s.rdmIndex fn) 0)) ∧
    (∀ i, ¬ bad → Tbl.firstFree s1.rdm.regions 0x100000 0 = some i → exec (.regionCreate fn env) s =
      .next (({ s1 with rdm := { s1.rdm with regions := Tbl.set i ⟨fn, base, len, field w2 15 0,
        bit w2 16, bit w2 17, field w2 31 24, false⟩ s1.rdm.regions } } : State).rdmDone fn 0 i
          (i * 256 + field w2 31 24))) := by
  refine ⟨fun hbad => ?_, fun i hgood hfree => ?_⟩ <;>
    refine (when_pos hready _ _).trans (congrArg _ ?_) <;> rw [rdmBlock_ok hread]
  · exact if_pos hbad
  · refine (if_neg hgood).trans ?_
    rw [hfree]

end

section
variable {s : State} {fn : Nat} {g : MemRegion} (hregion : Tbl.find? (s.rdmIndex fn) s.rdm.regions = some g) (hfn : g.fn = fn)
include hregion hfn

theorem exec_regionDestroy_ready (hready : s.rdmReady fn 1 2 = true) : exec (.regionDestroy fn) s =
    .next ((let s1 := (s.rdmAccept fn).setFlag F.RDM_RESULT_BUSY fn true
      { s1 with rdm := { s.rdm with regions := Tbl.set (s.rdmIndex fn) { g with dying := true } s.rdm.regions
                                    waits := s.rdm.waits ++ [⟨fn, 1, s.rdmIndex fn⟩] } } : State)).settleWaits := by
  refine (when_pos hready _ _).trans (congrArg _ ?_)
  dsimp only
  rw [filter_some_of_pos hregion (by simp [hfn])]
  rfl

theorem exec_regionQuery_ready {env : Env} {s1 : State} (hready : s.rdmReady fn 1 3 = true)
    (hwrite : (s.rdmAccept fn).writeFor env fn (s.rdmAddr fn) (bytesOfWords ([g.base, g.len,
      g.pd + ofBit g.rd * 2 ^ 16 + ofBit g.wr * 2 ^ 17 + g.key * 2 ^ 24, 0, 0, 0, 0, 0].map (BitVec.ofNat 64))) = (s1, .ok ())) :
    exec (.regionQuery fn env) s = .next (s1.rdmDone fn 0 (s.rdmIndex fn) 0) := by
  refine (when_pos hready _ _).trans (congrArg _ ?_)
  rw [filter_some_of_pos hregion (by simp [hfn])]
  exact rdmWrite_ok hwrite

end

/-! Peers and groups (R472, R476, R477): commands of the physical function. -/

theorem pfOnly_vf {s : State} {fn : Nat} (h : fn ≠ 0) (t : State) :
    s.pfOnly fn t = (s.rdmAccept fn).rdmDone fn 3 (s.rdmIndex fn) 0 := if_pos h

theorem pfOnly_pf (s t : State) : s.pfOnly 0 t = t := if_neg (not_not_intro rfl)

theorem exec_peer_denied {s : State} {fn op : Nat} {c : Instr} (hvf : fn ≠ 0)
    (hcmd : (∃ env, (op = 0 ∧ c = .peerCreate fn env) ∨ (op = 3 ∧ c = .peerQuery fn env)) ∨ (op = 2 ∧ c = .peerDestroy fn))
    (hready : s.rdmReady fn 2 op = true) : exec c s = .next ((s.rdmAccept fn).rdmDone fn 3 (s.rdmIndex fn) 0) := by
  rcases hcmd with ⟨env, ⟨rfl, rfl⟩ | ⟨rfl, rfl⟩⟩ | ⟨rfl, rfl⟩ <;>
    exact (when_pos hready _ _).trans (congrArg _ (pfOnly_vf hvf _))

theorem exec_group_denied {s : State} {fn op : Nat} {c : Instr} (hvf : fn ≠ 0)
    (hcmd : (∃ env, (op = 0 ∧ c = .groupCreate fn env) ∨ (op = 3 ∧ c = .groupQuery fn env)) ∨ (op = 2 ∧ c = .groupDestroy fn))
    (hready : s.rdmReady fn 3 op = true) : exec c s = .next ((s.rdmAccept fn).rdmDone fn 3 (s.rdmIndex fn) 0) := by
  rcases hcmd with ⟨env, ⟨rfl, rfl⟩ | ⟨rfl, rfl⟩⟩ | ⟨rfl, rfl⟩ <;>
    exact (when_pos hready _ _).trans (congrArg _ (pfOnly_vf hvf _))

theorem exec_peerCreate_read {s s1 : State} {env : Env} {bs : List Byte} (hready : s.rdmReady 0 2 0 = true)
    (hread : (s.rdmAccept 0).readFor env 0 (s.rdmAddr 0) 64 = (s1, .ok bs)) (hidx : s.rdmIndex 0 < 4096)
    (hfree : s1.peer? (s.rdmIndex 0) = none) (hvalid : bit (wordAt (wordsOf 8 bs) 0) 0 = true) :
    exec (.peerCreate 0 env) s = .next ((s1.setPeer (s.rdmIndex 0) { state := if bit (wordAt (wordsOf 8 bs) 0) 1 then 5 else 1
                                                                     words := (wordsOf 8 bs).take 6 }).rdmDone 0 0 (s.rdmIndex 0) 0) := by
  refine (when_pos hready _ _).trans (congrArg _ ((pfOnly_pf s _).trans ?_))
  rw [rdmBlock_ok hread]
  exact (if_neg (by simp [hidx, hvalid])).trans (if_neg (by rw [hfree]; decide))

section
variable {s : State} {p : Peer} (hpeer : s.peer? (s.rdmIndex 0) = some p)
include hpeer

theorem exec_peerDestroy_ready (hready : s.rdmReady 0 2 2 = true) : exec (.peerDestroy 0) s =
    .next ((
      let t := ((s.rdmAccept 0).setPeer (s.rdmIndex 0) { p with state := 0, cur := 0, prev := 0, caps := 0 }).peerLost
        (s.rdmIndex 0) 0x400
      { t with rdm := { t.rdm with peers := Tbl.del (s.rdmIndex 0) t.rdm.peers } } : State).rdmDone 0 0 (s.rdmIndex 0) 0) := by
  refine (when_pos hready _ _).trans (congrArg _ ((pfOnly_pf s _).trans ?_))
  dsimp only
  rw [hpeer]
  rfl

theorem exec_peerQuery_ready {env : Env} {s1 : State} (hready : s.rdmReady 0 2 3 = true)
    (hwrite : (s.rdmAccept 0).writeFor env 0 (s.rdmAddr 0)
      (bytesOfWords (p.words ++ [0, BitVec.ofNat 64 p.serial])) = (s1, .ok ())) :
    exec (.peerQuery 0 env) s = .next (s1.rdmDone 0 0 (s.rdmIndex 0) 0) := by
  refine (when_pos hready _ _).trans (congrArg _ ((pfOnly_pf s _).trans ?_))
  rw [hpeer]
  exact rdmWrite_ok hwrite

end

/-- The group that a block of GROUP_CREATE and its member list describe. -/
def newGroup (b : List Word) (l : List Nat) : Group :=
  { words := b, fn := field (wordAt b 0) 39 32, issuer := 0, n := field (wordAt b 0) 12 0, rank := field (wordAt b 0) 27 16
    tc := field (wordAt b 0) 30 28, peers := l }

theorem exec_groupCreate_read {s s1 s2 : State} {env : Env} {bs lb : List Byte} (hready : s.rdmReady 0 3 0 = true)
    (hread : (s.rdmAccept 0).readFor env 0 (s.rdmAddr 0) 64 = (s1, .ok bs)) (hidx : s.rdmIndex 0 < 64)
    (hgood : s1.groupInvalid (wordsOf 8 bs) = false) (hen : s1.flag F.RDM_MEM_EN 0 = true)
    (hfree : s1.group? (s.rdmIndex 0) = none)
    (hlist : s1.readFor env 0 (field (wordAt (wordsOf 8 bs) 1) 47 0) (2 * field (wordAt (wordsOf 8 bs) 0) 12 0) = (s2, .ok lb)) :
    let i := s.rdmIndex 0
    let n := field (wordAt (wordsOf 8 bs) 0) 12 0
    let rank := field (wordAt (wordsOf 8 bs) 0) 27 16
    let l := groupsOf 2 n lb
    let g := newGroup (wordsOf 8 bs) l
    exec (.groupCreate 0 env) s = .next (if s2.membersInvalid rank l then s2.rdmDone 0 2 i 0
      else ((List.range n).foldl (fun t r =>
        if r = rank then t
        else (t.setQp (internalQp i r) (freshInternal g i r (t.peerRate (l.getD r 0)) t.tb.time)).touchQp (internalQp i r))
        (s2.setGroup i g)).rdmDone 0 0 i 0) := by
  refine (when_pos hready _ _).trans (congrArg _ ((pfOnly_pf s _).trans ?_))
  rw [rdmBlock_ok hread]
  refine (if_neg (by simp [hidx, hgood, hen])).trans ((if_neg (by rw [hfree]; decide)).trans ?_)
  rw [hlist]
  rfl

section
variable {s : State} {g : Group} (hgroup : s.group? (s.rdmIndex 0) = some g)
include hgroup

theorem exec_groupDestroy_ready (hready : s.rdmReady 0 3 2 = true) (hidle : g.op = none) : exec (.groupDestroy 0) s =
    .next ((
      let t := (List.range g.n).foldl (fun t r => if r = g.rank then t else t.dropQp (internalQp (s.rdmIndex 0) r))
        (s.rdmAccept 0)
      { t with rdm := { t.rdm with groups := Tbl.del (s.rdmIndex 0) t.rdm.groups } } : State).rdmDone 0 0 (s.rdmIndex 0) 0) := by
  refine (when_pos hready _ _).trans (congrArg _ ((pfOnly_pf s _).trans ?_))
  dsimp only
  rw [hgroup]
  exact if_neg (by rw [hidle]; decide)

theorem exec_groupQuery_ready {env : Env} {s1 : State} (hready : s.rdmReady 0 3 3 = true)
    (hwrite : (s.rdmAccept 0).writeFor env 0 (s.rdmAddr 0) (bytesOfWords g.words) = (s1, .ok ())) :
    exec (.groupQuery 0 env) s = .next (s1.rdmDone 0 0 (s.rdmIndex 0) 0) := by
  refine (when_pos hready _ _).trans (congrArg _ ((pfOnly_pf s _).trans ?_))
  rw [hgroup]
  exact rdmWrite_ok hwrite

end

/-- Settles O44, clause by clause. -/
theorem rdmaCommands : Obligations.RdmaCommands := by
  unfold Obligations.RdmaCommands
  refine ⟨fun s fn r i k _ _ => rdmDone_shows s fn r i k,
    fun s fn env s1 bs hready hread => ⟨fun hbad => ?_, fun q hgood hfree => ⟨?_, ?_, ?_⟩⟩,
    fun s x b y => modifyQp_ok,
    fun s fn env s1 bs x hkind hready hread hqp hfn hgroup => ?_,
    fun s w x hwaits hkind hqp => ⟨fun hbusy => ?_, fun hidle => ?_⟩,
    fun s fn env x hqp hfn => ⟨exec_qpDestroy_ready hqp hfn, fun s1 => exec_qpQuery_ready hqp hfn⟩,
    fun s fn env s1 bs i hready hread => ⟨(exec_regionCreate_read hready hread).1, (exec_regionCreate_read hready hread).2 i⟩,
    fun s fn env g hregion hfn => ⟨exec_regionDestroy_ready hregion hfn, fun s1 => exec_regionQuery_ready hregion hfn⟩,
    fun s fn op c => exec_peer_denied, fun s fn op c => exec_group_denied,
    fun s env s1 bs => exec_peerCreate_read,
    fun s env p hpeer => ⟨exec_peerDestroy_ready hpeer, fun s1 => exec_peerQuery_ready hpeer⟩,
    fun s env s1 bs s2 lb hready hread hidx hgood hen hfree hlist => ⟨fun hbad => ?_, fun hok => ?_⟩,
    fun s env g hgroup => ⟨exec_groupDestroy_ready hgroup, fun s1 => exec_groupQuery_ready hgroup⟩⟩
  · exact (exec_qpCreate_read hready hread).trans (congrArg _ (if_pos hbad))
  · exact (firstFree_some hfree).1
  · exact (firstFree_some hfree).2
  · refine (exec_qpCreate_read hready hread).trans (congrArg _ ((if_neg (Bool.eq_false_iff.mp hgood)).trans ?_))
    rw [hfree]
    rfl
  · obtain ⟨herror, hmoves⟩ := exec_qpModify_read hkind hready hread hqp hfn hgroup
    refine ⟨herror, fun hto => ⟨(hmoves hto).1, fun y hok hfree => ?_, fun y hok hzero hbusy => ?_⟩⟩
    · exact ((hmoves hto).2 y hok).trans (congrArg _ (if_neg (by rcases hfree with h | h <;> simp [h])))
    · exact ((hmoves hto).2 y hok).trans (congrArg _ (if_pos ⟨hzero, hbusy⟩))
  · rw [settleWaits_modify hwaits hkind hqp, if_pos hbusy]
  · rw [settleWaits_modify hwaits hkind hqp, if_neg (Bool.eq_false_iff.mp hidle)]
  · exact (exec_groupCreate_read hready hread hidx hgood hen hfree hlist).trans (congrArg _ (if_pos hbad))
  · exact (exec_groupCreate_read hready hread hidx hgood hen hfree hlist).trans
      (congrArg _ (if_neg (Bool.eq_false_iff.mp hok)))

end Sys2Proof.Machine
end

section
/-! The packets and acknowledgements that arrive at a queue pair, and its timers (R442, R455 to R464). -/

namespace Sys2Proof.Machine

open Sys2Proof

/-! A packet to no queue pair is counted (R442). -/

section
variable {s : State} {i : InPkt} {rest : List InPkt}

theorem front_inbox (h : s.rdm.inbox = i :: rest) {p : Body → Bool} (hp : p i.pkt.body = true) :
    s.front p = some (i, s.withInbox rest) := by
  rw [State.front, h]
  exact if_pos hp

theorem target_none {s : State} (h : 2 ^ 20 ≤ i.pkt.qpn ∨ s.qp? i.pkt.qpn = none) (f : Nat → Qp → State) :
    s.target i f = s.inc F.RDM_GLB_STAT_BADQP_CNT 0 := by
  rw [State.target]
  rcases h with hlarge | hnone
  · rw [if_neg (Nat.not_lt.mpr hlarge)]
  · rw [hnone, Option.filter_none, ite_self]

theorem exec_packet_unknown {c : Instr} (h : s.rdm.inbox = i :: rest)
    (hnone : 2 ^ 20 ≤ i.pkt.qpn ∨ (s.withInbox rest).qp? i.pkt.qpn = none)
    (hcmd : (∃ env, (isAck i.pkt.body = true ∧ c = .ackReceive env) ∨ (isData i.pkt.body = true ∧ c = .rcPacketReceive env) ∨
      (∃ n, i.pkt.body = .grant n) ∧ c = .creditGrantReceive env) ∨ (i.pkt.body = .cnp ∧ c = .cnpReceive) ∨
      ((∃ n, i.pkt.body = .creditReq n) ∧ c = .creditRequestReceive)) :
    exec c s = .next ((s.withInbox rest).inc F.RDM_GLB_STAT_BADQP_CNT 0) := by
  rcases hcmd with ⟨env, ⟨hbody, rfl⟩ | ⟨hbody, rfl⟩ | ⟨⟨n, hbody⟩, rfl⟩⟩ | ⟨hbody, rfl⟩ | ⟨⟨n, hbody⟩, rfl⟩
  · rw [exec_ackReceive, execAckReceive, front_inbox h hbody]
    exact congrArg _ (target_none hnone _)
  · rw [exec_rcPacketReceive, execRcPacketReceive, front_inbox h hbody]
    exact congrArg _ (target_none hnone _)
  · rw [exec_creditGrantReceive, execCreditGrantReceive, front_inbox h (by rw [hbody])]
    exact congrArg _ (target_none hnone _)
  · rw [exec_cnpReceive, execCnpReceive, front_inbox h (by simp [hbody])]
    exact congrArg _ (target_none hnone _)
  · rw [exec_creditRequestReceive, execCreditRequestReceive, front_inbox h (by rw [hbody])]
    exact congrArg _ (target_none hnone _)

end

/-- A context that is used changes no queue pair (R449). -/
@[simp] theorem touchQp_rdm_qps (s : State) (q : Nat) : (s.touchQp q).rdm.qps = s.rdm.qps := by
  unfold State.touchQp
  dsimp only
  split <;> rfl

@[simp] theorem touchQp_qp? (s : State) (q p : Nat) : (s.touchQp q).qp? p = s.qp? p := by
  rw [State.qp?, State.qp?, touchQp_rdm_qps]

@[simp] theorem touchQp_tb (s : State) (q : Nat) : (s.touchQp q).tb = s.tb := by
  unfold State.touchQp
  dsimp only
  split <;> rfl

/-! Acknowledgements (R461, R463, R464). -/

section
variable {s : State} {i : InPkt} {rest : List InPkt} {x : Qp} (h : s.arrives i rest x)
include h

theorem exec_ackReceive_beyond (env : Env) (hack : isAck i.pkt.body = true)
    (hd : x.next - x.base ≤ psnSub i.pkt.psn (x.base % 2 ^ 24)) : exec (.ackReceive env) s = .next (s.withInbox rest) := by
  rw [exec_ackReceive, execAckReceive, front_arrives h hack]
  exact congrArg _ ((target_arrives h _).trans (if_pos (.inr hd)))

variable (hstate : x.state = 3) (hd : psnSub i.pkt.psn (x.base % 2 ^ 24) < x.next - x.base)
include hstate hd

theorem exec_ackReceive_within (env : Env) : let q := i.pkt.qpn
    let s1 := (s.withInbox rest).touchQp q
    let e := x.base + psnSub i.pkt.psn (x.base % 2 ^ 24)
    let who := (x.wqeAt e).bind (fun w => w.slot)
    (i.pkt.body = .ack → exec (.ackReceive env) s = .next ((s1.advance q (x.ackLimit (e + 1))).pump env q)) ∧
    (i.pkt.body = .nakSeq → exec (.ackReceive env) s = .next ((s1.advance q (x.ackLimit e)).resend env q false)) ∧
    (i.pkt.body = .nakAccess → exec (.ackReceive env) s = .next ((s1.advance q (x.ackLimit e)).qpError q 3 who St.QP_ERROR)) ∧
    (i.pkt.body = .nakOp → exec (.ackReceive env) s = .next ((s1.advance q (x.ackLimit e)).qpError q 4 who St.QP_ERROR)) := by
  have hin : ¬ (x.state ≠ 3 ∨ x.next - x.base ≤ psnSub i.pkt.psn (x.base % 2 ^ 24)) := by omega
  refine ⟨fun hbody => ?_, fun hbody => ?_, fun hbody => ?_, fun hbody => ?_⟩ <;>
  · rw [exec_ackReceive, execAckReceive, front_arrives h (by rw [hbody]; rfl)]
    refine congrArg _ ((target_arrives h _).trans ((if_neg hin).trans ?_))
    rw [hbody]

end

theorem foldl_eq_self {α β : Type} {f : α → β → α} {l : List β} (h : ∀ b ∈ l, ∀ a, f a b = a) (a : α) : l.foldl f a = a := by
  induction l with
  | nil => rfl
  | cons b l ih =>
    rw [List.foldl_cons, h b List.mem_cons_self]
    exact ih (fun c hc => h c (List.mem_cons_of_mem b hc))

theorem ckAcked_idle {s : State} (hjob : s.ckp.job = none) (hserving : s.ckp.serving = none) : s.ckAcked = s := by
  rw [State.ckAcked, hjob]
  dsimp only
  rw [hserving]

theorem advance_qp? {s : State} {q e : Nat} {x : Qp} (hqp : s.qp? q = some x) (he : x.base < e) (hgroup : x.group = none)
    (hjob : s.ckp.job = none) (hserving : s.ckp.serving = none) (hslots : ∀ w ∈ x.wqes, w.slot = none ∨ e < w.psn + w.n) :
    (s.advance q e).qp? q = some { x with
      base := e, sendAt := max x.sendAt e, wqes := x.wqes.filter (fun w => decide (e < w.psn + w.n)), progress := s.tb.time
      retries := 0, expiries := 0, rnrs := 0 } := by
  have hdone : ∀ w ∈ x.wqes.filter (fun w => decide (w.psn + w.n ≤ e)), w.slot = none := by
    intro w hw
    obtain ⟨hmem, hle⟩ := List.mem_filter.mp hw
    exact (hslots w hmem).resolve_right (Nat.not_lt.mpr (of_decide_eq_true hle))
  have hidle (y : Qp) : (s.setQp q y).ckAcked = s.setQp q y := ckAcked_idle hjob hserving
  rw [State.advance, hqp]
  dsimp only
  rw [if_neg (Nat.not_le.mpr he), foldl_eq_self (fun w hw t => by rw [hdone w hw]), hgroup]
  dsimp only
  rw [hidle, State.qp?_setQp_same]

/-! The timers of a queue pair (R463, R464). -/

section
variable {s : State} {q : Nat} {x : Qp} (hqp : s.qp? q = some x)
include hqp

theorem exec_retransmitTimeout_eq (env : Env) : exec (.retransmitTimeout q env) s = .next (
    if x.state = 3 ∧ x.base < x.next ∧ x.rnrUntil.isNone ∧ x.progress + x.rtoUs * 1000 * 2 ^ min 7 x.expiries ≤ s.tb.time then
      (s.touchQp q).resend env q true else s) := by
  rw [exec_retransmitTimeout, execRetransmitTimeout, hqp]

theorem resend_eq (env : Env) (timer : Bool) : s.resend env q timer =
    if x.retryCnt ≤ x.retries then s.qpError q 1 x.headSlot 0x402
    else (s.setQp q { x with sendAt := x.base, retries := x.retries + 1
                             expiries := if timer then x.expiries + 1 else x.expiries }).pump env q := by
  rw [State.resend, hqp]
  rfl

theorem exec_rnrWaitExpiry_eq (env : Env) {t : Nat} (ht : x.rnrUntil = some t) : exec (.rnrWaitExpiry q env) s = .next (
    if t ≤ s.tb.time then
      ((s.touchQp q).setQp q { x with rnrUntil := none, sendAt := x.base, progress := s.tb.time }).pump env q
    else s) := by
  rw [exec_rnrWaitExpiry, execRnrWaitExpiry, hqp]
  dsimp only
  rw [ht]

theorem exec_ackDelayExpiry_eq : exec (.ackDelayExpiry q) s = .next (
    if 0 < x.unacked ∧ x.unackedAt + 4000 ≤ s.tb.time then (s.touchQp q).ackNow q else s) := by
  rw [exec_ackDelayExpiry, execAckDelayExpiry, hqp]

end

/-! The responder (R442, R455, R462, R463). -/

/-- What a queue pair does with a packet of new or repeated data, which is no READ response: `s1` is the state that counts it
used, `s` the state before, in which a packet that must wait stays (R462). -/
def State.responds (s s1 : State) (env : Env) (q : Nat) (x : Qp) (i : InPkt) : State :=
  let d := psnSub i.pkt.psn x.exp
  if d = 0 then
    match s1.takeBody env q x i.pkt.body x.exp with
    | (_, .wait) => s
    | (s2, .ok n) => (s2.accepted q n i).settleWaits
    | (s2, .rnr) => s2.qpCtl q x.exp .rnr
    | (s2, .nakAccess) => s2.qpCtl q x.exp .nakAccess
    | (s2, .nakOp) => s2.qpCtl q x.exp .nakOp
  else if d < 2 ^ 23 then
    if x.nakSent then s1 else (s1.setQp q { x with nakSent := true }).qpCtl q x.exp .nakSeq
  else
    match i.pkt.body with
    | .readReq off rkey len =>
      match s1.regionCheck env x false off rkey len with
      | (_, .error .wait) => s
      | (s2, .ok (r, a)) => s2.setQp q { x with jobs := x.jobs ++ [⟨i.pkt.psn, r, a, len, s.fld F.MEM_FN_FENCE_EPOCH x.fn⟩] }
      | (s2, .error _) => s2.qpCtl q i.pkt.psn .nakAccess
    | _ => s1.ackNow q

section
variable {s : State} {i : InPkt} {rest : List InPkt} {x : Qp}

theorem markSeen_unmarked {ecn : Nat} (h : ecn ≠ 3) (s : State) (q : Nat) (x : Qp) : s.markSeen q x ecn = s :=
  if_neg (fun hmark => h hmark.1)

section
variable (h : s.arrives i rest x) (hecn : i.ecn ≠ 3)
include h hecn

theorem exec_rcPacketReceive_response (env : Env) {l : Bool} {b : List Byte} (hbody : i.pkt.body = .readResp l b) :
    exec (.rcPacketReceive env) s =
      .next ((((s.withInbox rest).touchQp i.pkt.qpn).readData env i.pkt.qpn x i.pkt.psn b).getD s) := by
  have hqp : (s.withInbox rest).qp? i.pkt.qpn = some x := h.2.2.1
  rw [exec_rcPacketReceive, execRcPacketReceive, front_arrives h (by rw [hbody]; rfl)]
  refine congrArg _ ((target_arrives h _).trans ?_)
  rw [markSeen_unmarked hecn]
  dsimp only
  rw [touchQp_qp?, hqp, hbody]
  rfl

theorem exec_rcPacketReceive_responds (env : Env) (hdata : isData i.pkt.body = true)
    (hbody : ∀ l b, i.pkt.body ≠ .readResp l b) :
    exec (.rcPacketReceive env) s =
      .next (s.responds ((s.withInbox rest).touchQp i.pkt.qpn) env i.pkt.qpn x i) := by
  have hqp : (s.withInbox rest).qp? i.pkt.qpn = some x := h.2.2.1
  rw [exec_rcPacketReceive, execRcPacketReceive, front_arrives h hdata]
  refine congrArg _ ((target_arrives h _).trans ?_)
  rw [markSeen_unmarked hecn]
  dsimp only
  rw [touchQp_qp?, hqp]
  split
  next l b heq => exact absurd heq (hbody l b)
  next => rfl

end

variable {s1 s2 : State} {env : Env} {q : Nat}

/-- The packet that is expected (R462). -/
theorem responds_expected (hd : psnSub i.pkt.psn x.exp = 0) :
    (∀ n, s1.takeBody env q x i.pkt.body x.exp = (s2, .ok n) → s.responds s1 env q x i = (s2.accepted q n i).settleWaits) ∧
    (s1.takeBody env q x i.pkt.body x.exp = (s2, .rnr) → s.responds s1 env q x i = s2.qpCtl q x.exp .rnr) ∧
    (s1.takeBody env q x i.pkt.body x.exp = (s2, .nakAccess) → s.responds s1 env q x i = s2.qpCtl q x.exp .nakAccess) ∧
    (s1.takeBody env q x i.pkt.body x.exp = (s2, .nakOp) → s.responds s1 env q x i = s2.qpCtl q x.exp .nakOp) := by
  refine ⟨fun n htake => ?_, fun htake => ?_, fun htake => ?_, fun htake => ?_⟩ <;>
    exact (if_pos hd).trans (by rw [htake])

/-- A packet ahead of the one that is expected (R462, R463). -/
theorem responds_ahead (hpos : 0 < psnSub i.pkt.psn x.exp) (hlt : psnSub i.pkt.psn x.exp < 2 ^ 23) :
    s.responds s1 env q x i =
      if x.nakSent then s1 else (s1.setQp q { x with nakSent := true }).qpCtl q x.exp .nakSeq :=
  (if_neg (Nat.ne_of_gt hpos)).trans (if_pos hlt)

/-- A packet that was taken before (R462). -/
theorem responds_repeated (hge : 2 ^ 23 ≤ psnSub i.pkt.psn x.exp) :
    ((∀ a b c, i.pkt.body ≠ .readReq a b c) → s.responds s1 env q x i = s1.ackNow q) ∧
    (∀ off rkey len r a, i.pkt.body = .readReq off rkey len → s1.regionCheck env x false off rkey len = (s2, .ok (r, a)) →
      s.responds s1 env q x i = s2.setQp q
        { x with jobs := x.jobs ++ [⟨i.pkt.psn, r, a, len, s.fld F.MEM_FN_FENCE_EPOCH x.fn⟩] }) := by
  have hpos : ¬ psnSub i.pkt.psn x.exp = 0 := by omega
  have hbehind : ¬ psnSub i.pkt.psn x.exp < 2 ^ 23 := by omega
  refine ⟨fun hbody => ?_, fun off rkey len r a hbody hcheck => ?_⟩ <;>
    refine (if_neg hpos).trans ((if_neg hbehind).trans ?_)
  · split
    next a b c heq => exact absurd heq (hbody a b c)
    next => rfl
  · rw [hbody]
    dsimp only
    rw [hcheck]

end

/-- Settles O46, clause by clause. -/
theorem rdmaPackets : Obligations.RdmaPackets := by
  unfold Obligations.RdmaPackets
  refine ⟨fun s c i rest => exec_packet_unknown,
    fun s env i rest x h hstate => ⟨exec_ackReceive_beyond h env, fun hd => exec_ackReceive_within h hstate hd env⟩,
    fun s q e x => advance_qp?,
    fun s env q x hqp hstate hout hwait => ⟨fun hdue hspent => ?_, fun hdue hleft => ?_, fun hearly => ?_⟩,
    fun s env q x t hqp ht => ⟨fun hdue => ?_, fun hearly => ?_⟩,
    fun s q x hqp => ⟨fun hpos hdue => ?_, fun hnot => ?_⟩,
    fun s env i rest x h hecn hdata => ⟨fun l b hbody t hread => ?_,
      fun hbody => ⟨fun hd s2 => ?_, fun hpos hlt => ⟨fun hsent => ?_, fun hnew => ?_⟩, fun hge hno => ?_,
        fun hge off rkey len r a s2 hreq hcheck => ?_⟩⟩⟩
  · rw [exec_retransmitTimeout_eq hqp, if_pos ⟨hstate, hout, by rw [hwait]; rfl, hdue⟩,
      resend_eq ((touchQp_qp? s q q).trans hqp), if_pos hspent]
  · rw [exec_retransmitTimeout_eq hqp, if_pos ⟨hstate, hout, by rw [hwait]; rfl, hdue⟩,
      resend_eq ((touchQp_qp? s q q).trans hqp), if_neg (Nat.not_le.mpr hleft), if_pos rfl]
  · rw [exec_retransmitTimeout_eq hqp, if_neg (fun hall => Nat.not_le.mpr hearly hall.2.2.2)]
  · rw [exec_rnrWaitExpiry_eq hqp env ht, if_pos hdue]
  · rw [exec_rnrWaitExpiry_eq hqp env ht, if_neg (Nat.not_le.mpr hearly)]
  · rw [exec_ackDelayExpiry_eq hqp, if_pos ⟨hpos, hdue⟩]
  · rw [exec_ackDelayExpiry_eq hqp, if_neg (by omega)]
  · rw [exec_rcPacketReceive_response h hecn env hbody, hread, Option.getD_some]
  all_goals rw [exec_rcPacketReceive_responds h hecn env hdata hbody]
  · obtain ⟨hok, hrnr, haccess, hop⟩ := responds_expected (s := s) (s2 := s2) (env := env) (q := i.pkt.qpn)
      (s1 := (s.withInbox rest).touchQp i.pkt.qpn) hd
    exact ⟨fun n htake => congrArg _ (hok n htake), fun htake => congrArg _ (hrnr htake),
      fun htake => congrArg _ (haccess htake), fun htake => congrArg _ (hop htake)⟩
  · rw [responds_ahead hpos hlt, if_pos hsent]
  · rw [responds_ahead hpos hlt, if_neg (Bool.eq_false_iff.mp hnew)]
  · rw [(responds_repeated (s2 := s) hge).1 hno]
  · rw [(responds_repeated hge).2 off rkey len r a hreq hcheck]

end Sys2Proof.Machine
end
